-- ==== Sys2Proof/Word.lean ====
section
/-! DEFINITION. The plain types of the TR1664 model: bytes, words, the names of units and sides, and the
sorted list of key and value pairs that holds sparse state. -/

namespace Sys2Proof

/-- One byte. -/
abbrev Byte := BitVec 8

/-- A register word of a sequencer (R157). -/
abbrev Word := BitVec 32

/-- The two controllers of the module (R9). A PN2 side carries the name of the unit it is wired to. -/
inductive UnitId where
  | A | B
  deriving DecidableEq, Repr

/-- The code of a unit in ACTIVE_UNIT and in record flags: 0 for A, 1 for B. -/
def UnitId.code : UnitId → Nat
  | .A => 0
  | .B => 1

/-- The other unit of the module. -/
def UnitId.other : UnitId → UnitId
  | .A => .B
  | .B => .A

@[simp] theorem UnitId.other_other (u : UnitId) : u.other.other = u := by cases u <;> rfl

/-- HDA ports 0-15. -/
abbrev PortId := Fin 16

/-- Actuators 0 and 1 of a port. -/
abbrev ActId := Fin 2

/-- Sparse state: key and value pairs, keys strictly rising, no value equal to the default of its key. -/
abbrev Map (α : Type) := List (Nat × α)

end Sys2Proof
end

