-- ==== Sys2Proof/Machine/Names.lean ====
section
/-! DEFINITION. The names and records that stand as operands of the commands. -/

namespace Sys2Proof.Machine

/-! ## Names shared by the commands -/

/-- The twelve operating modes (R28). -/
inductive Mode where
  | unpowered | resetHold | fiddlehead | bringUp | frond | frondDegraded
  | drain | quiescent | holdUp | switchover | maintenance | faultLatched
  deriving DecidableEq, Repr

/-- The code of a mode in 1100h and in event records (R28). -/
def Mode.code : Mode → Nat
  | .unpowered => 0x00
  | .resetHold => 0x01
  | .fiddlehead => 0x02
  | .bringUp => 0x03
  | .frond => 0x04
  | .frondDegraded => 0x05
  | .drain => 0x06
  | .quiescent => 0x07
  | .holdUp => 0x08
  | .switchover => 0x09
  | .maintenance => 0x0A
  | .faultLatched => 0x0B

/-- Who makes a dictionary access (R583): a KDAP source address, a controller in band, the monitor, or firmware. -/
inductive Requester where
  | kdap (mac : Nat)
  | inband (ctrl : UnitId)
  | monitor
  | firmware
  deriving DecidableEq, Repr

/-- The straps latched when VAUX3 is applied (R604). -/
structure Straps where
  plcaId : Nat
  root : Bool
  unitPref : Bool
  bootSel : Bool
  deriving DecidableEq, Repr

/-- The filtered inputs of a port (R66). -/
inductive LineInput where
  | fltn | prsn | spinReadback
  deriving DecidableEq, Repr

/-- SPIN codes (R58). -/
inductive SpinCode where
  | shortBrake | coast | retractBrake | follow
  deriving DecidableEq, Repr

/-- Which side a PN2 obeys (R48, R64). -/
inductive Obey where
  | none | side (u : UnitId)
  deriving DecidableEq, Repr

/-- Readers of a head (R91): mode in force for a sector. -/
inductive ReaderMode where
  | both | aOnly | bOnly
  deriving DecidableEq, Repr

/-- The causes of a release (LAST_RELEASE_CAUSE, R488). -/
inductive ReleaseCause where
  | none | correctedWords | uncorrectable | seqStops | servoMismatch | engineChecks | pace | island
  | exception | pairCommand | activation | thermal | cacheTag
  deriving DecidableEq, Repr

/-- A temperature sensor of R509 read by a unit; GDDR7 devices have a command of their own. -/
inductive Sensor where
  | ring (i : Fin 24)
  | diode
  | hda (p : PortId)
  | board
  deriving DecidableEq, Repr

/-- What a sensor gives (R509): a reading in tenths of a degree, an open or shorted diode, or nothing. -/
inductive SensorRaw where
  | value (t : Int)
  | opened
  | shorted
  | missing
  deriving DecidableEq, Repr

/-- What the PN2 reports of its HDA in step 2 of R51, with the values of its factory record that the part takes (R248, R257). -/
structure HdaIdentity where
  serial : List Byte
  stepping : BitVec 16
  acts : Nat
  heads : Nat
  fsMax : Nat
  ctCycles : Nat
  polePairs : Nat
  ratedRpm : Nat
  bemfTarget : Nat
  ctIndexNominal : Nat
  deriving DecidableEq, Repr

/-- What a completed training step reports (R51, R52). -/
inductive TrainReport where
  | plain
  | identity (i : HdaIdentity)
  | skew (blocks : Nat)
  deriving DecidableEq, Repr

/-! ## Data channel and write path (R82-R155) -/

/-- A physical sector: actuator, head, track and position (R128). -/
structure Psa where
  act : Nat
  head : Nat
  track : Nat
  pos : Nat
  deriving DecidableEq, Repr

/-- Where a sample lies in its sector (R87, R94): a preamble, other bits, the postamble, or a wedge or gap. -/
inductive SampleZone where
  | preamble | shortPreamble | data | postamble | idle
  deriving DecidableEq, Repr

/-- One match of a sync or resync pattern: offset in bits from prediction, and bits differing (R133, R134). -/
structure SyncMatch where
  offset : Int
  diffs : Nat
  deriving DecidableEq, Repr

/-- A block as a lane delivers it, descrambled (R43, R44): a data block, a control block, an idle block, or one received in error. -/
inductive LaneBlock where
  | data (w : BitVec 64)
  | control (w : BitVec 64)
  | idle
  | bad
  deriving DecidableEq, Repr

/-- The blocks that the four reader sub-lanes of an actuator have delivered while a sector passed. -/
structure SectorSamples where
  a0 : List LaneBlock := []
  a1 : List LaneBlock := []
  b0 : List LaneBlock := []
  b1 : List LaneBlock := []
  deriving DecidableEq, Repr

/-- Kinds of Keindarn control block (R44). -/
inductive BlockKind where
  | marker | servoHeader | gateOn | gateOff | ratioChange
  deriving DecidableEq, Repr

/-- The fields of a Keindarn control block (R44). -/
structure ControlBlock where
  kind : BlockKind
  act : Nat := 0
  sublane : Nat
  ratioChange : Bool
  headChange : Bool
  head : Nat
  sampleIndex : Word
  deriving DecidableEq, Repr

/-! ## Sequencers (R156-R190) -/

/-- One sequencer of a unit: k = 4p + 2a + t, t = 1 for the transfer sequencer (R189). -/
structure SeqId where
  unit : UnitId
  port : PortId
  act : ActId
  xfer : Bool
  deriving DecidableEq, Repr

/-- The fields of a fetched control-store word other than OP (R156), and whether its fetch corrected a single-bit
error (R174). -/
structure MicroWord where
  a : BitVec 6
  b : BitVec 12
  next : BitVec 12
  timing : BitVec 4
  corrected : Bool := false
  deriving DecidableEq, Repr

/-- The operations of R160, by code. -/
inductive SeqOp where
  | nop | brz | brneg | breqi | brlt | brbit | brflag | djnz | call | ret | switch | endsweep | abort | fence
  | waitidx | trap | ldi | ldis | ldim | ldih | mov | add | addi | sub | and | andi | or | ori | xor | shli | shri
  | muli | ldp | nextitem | ldh | ldm | stm | post | msend | mrecv | pred | pset | swap | wrset | srd | swr | cfrag
  | gateoff | seekreq | replay | armclr | ctsnap | ticket | wfeed | evsend | evclr
  deriving DecidableEq, Repr

/-! ## Servo (R191-R245) -/

/-- The blocks that carry one servo window (R47, R55): those of the servo-window lane from before its header on, and, for an
actuator whose servo-window lane is out of service, those that reader sub-lanes A0 and A1 have delivered since their last marker or
the last samples of a sector. -/
structure ServoWindow where
  lane : List LaneBlock
  a0 : List LaneBlock := []
  a1 : List LaneBlock := []
  deriving DecidableEq, Repr

/-- How an inner product stands at the start of its frame (R204, R210): it has not completed, and its two multiplier paths differ. -/
structure ProductEnd where
  late : Bool
  mismatch : Bool
  deriving DecidableEq, Repr

/-- A servo telemetry block (R235). -/
structure ServoTlm where
  iMeas : BitVec 16
  maSense : BitVec 16
  bemf : BitVec 12
  parked : Bool
  shock : Bool
  holding : Bool
  selfRetracted : Bool
  wrLock : Bool
  wrsetAck : Bool
  cmdCrcErr : Bool
  head : BitVec 4
  deriving DecidableEq, Repr

/-- One copy of the system records of an actuator (R107, R150, R154, R244): its sequence number; the parameter, zone, precompensation
and preset tables; CT_INDEX_PHASE; the settings of 3055h and 3056h and the counters of 3053h; LIN_TABLE, HEATER_TABLE, RRO_ENABLE and
the banks. -/
structure SysCopy where
  seq : Nat := 0
  sets : List (Nat × List Byte) := []
  zones : List (Nat × List Byte) := []
  precomp : List (Nat × List Byte) := []
  presets : List (Nat × List Byte) := []
  phases : List (Nat × Nat) := []
  nums : List Nat := []
  blobs : List (List Byte) := []
  deriving DecidableEq, Repr

/-- What servo calibration measures on one head (R194, R227, R241, R242): its CT_INDEX_PHASE; the residual of its LIN_TABLE fit in
2^-16 track; the RRO fields of one revolution that fail their check; the steps of the 100 of R222 that give WRITE_SAFE at wedge 511;
its 33 LIN_TABLE entries; HEAT_RD and HEAT_WR of the maker's record in the PN2. -/
structure HeadCal where
  phase : Nat
  residual : Nat
  rroFails : Nat
  steps : Nat
  lin : List (BitVec 16)
  heatRd : BitVec 8
  heatWr : BitVec 8
  deriving DecidableEq, Repr

/-- What the calibration of an actuator yields (R119, R150, R241): the copies of the system records of an HDA not seen before that pass
their CRCs; the measurements of its heads; the parameter sets, zone entries,
precompensation entries and presets of the channel calibration; the banks chosen from the library (0 and 1 outer, 2 and 3 inner), and
those in use at the end. -/
structure CalData where
  copies : List SysCopy := []
  heads : List HeadCal
  sets : List (Nat × List Byte)
  zones : List (Nat × List Byte)
  precomp : List (Nat × List Byte) := []
  presets : List (Nat × List Byte) := []
  banks : List (Fin 4 × List Byte) := []
  outer : Fin 2 := 0
  inner : Fin 2 := 0
  deriving DecidableEq, Repr

/-- The key-value operations (R340). -/
inductive KvOp where
  | store | retrieve | delete | exist | list | flush
  deriving DecidableEq, Repr

/-- Overwrite options of a Store (R340). -/
inductive StoreOpt where
  | any | mustExist | mustNotExist
  deriving DecidableEq, Repr

/-- Stored forms asked for by a namespace policy or a Store's hint (R288). -/
inductive CompressMode where
  | off | on | auto
  deriving DecidableEq, Repr

/-- The NVMe submission that carried a command: controller, submission queue and command identifier. -/
structure CmdTag where
  ctrl : UnitId
  sq : Nat
  cid : Nat
  deriving DecidableEq, Repr
/-! ## Members (R321) -/

/-- The membership record that a port's HDA carries (R321): no valid copy on either head, this module with a slot, or another
module. -/
inductive MemberRecord where
  | none | own (slot : Fin 32) | foreign
  deriving DecidableEq, Repr

/-! ## Buffer memory and metadata cache (R358-R392) -/

/-- Errors the devices or the cache's own arrays show to one access: XOR masks by 72 × word + byte of the code group read;
the way whose tag copy 0 fails its parity, with whether copy 1 fails too; the 8-byte words of a line with an error, with
whether it is a double-bit error (R366, R383). -/
structure MemErrs where
  noise : List (Nat × Byte) := []
  lanes : List (Nat × List Byte) := []
  tag : Option (Nat × Bool) := none
  line : List (Nat × Bool) := []
  deriving DecidableEq, Repr

/-- A stream of the sorus coder as firmware sets it up (R400): profile, column count and parity addresses. -/
structure CoderSetup where
  profile : BitVec 2
  cols : BitVec 8
  addrs : List (BitVec 56)
  deriving DecidableEq, Repr

/-- An error response to a burst that is not the memory's own: of its write or its read, and the failing byte within it. -/
structure BurstErr where
  write : Bool
  off : BitVec 12
  deriving DecidableEq, Repr

/-! ## Spindles (R246-R277) -/

/-- A motor telemetry block that passed its CRC (R250): the transition reported, if any (phase 0 U, 1 V, 2 W; rising; time in
1/256 frame), CLAMP, the currents, VBUS and BEMF_AMP. -/
structure MotorTlm where
  zc : Option (Nat × Bool × BitVec 8)
  clamp : Bool
  iPhase : BitVec 11
  iBus : BitVec 10
  vBus : BitVec 10
  bemf : BitVec 12
  deriving DecidableEq, Repr

/-- A clock-track frame as the part stamps it (R49, R248): its cycle count, and when it arrived, in ns on the module reference
oscillator since power-on. -/
structure CtStamp where
  cycles : Word
  time : Nat
  deriving DecidableEq, Repr

/-! ## Griug links and the tree (R446-R462) -/

/-- The three Griug links of a unit. -/
inductive GriugPort where
  | up | down0 | down1
  deriving DecidableEq, Repr

/-- A downstream port as ENUM_STATE reports it (R451): the partner's serial, and the tokens it holds with the time left on
each in µs (R444). -/
inductive PartnerSeen where
  | none | training | partner (serial : List Byte) (tokens : List (Nat × Nat))
  deriving DecidableEq, Repr

/-- What the partner of a link gives in the identity exchange (R447), with the tokens it holds, which its parent reports in
ENUM_STATE (R444, R451). -/
structure LinkIdent where
  serial : List Byte
  side : UnitId
  role : GriugPort
  rootStrap : Bool
  depth : Option Nat := none
  number : Option Nat
  /-- The partner has trained two lanes only. -/
  two : Bool := false
  tokens : List (Nat × Nat) := []
  deriving DecidableEq, Repr

/-- How a training step of a Griug link ends (R446, R447): done, done with a lane lost, with the identity received, or
failed. -/
inductive GriugStep where
  | done | twoLanes | ident (i : LinkIdent) | failed
  deriving DecidableEq, Repr

/-- A key-value command as a CMD packet carries it to its module (R451): the operation, the namespace there, the key, the
length of the value or of the host buffer, and the options of R340. -/
structure KvSub where
  op : KvOp
  ns : Nat
  all : Bool := false
  key : List Byte := []
  len : Nat := 0
  opt : StoreOpt := .any
  hint : Option CompressMode := none
  deriving DecidableEq, Repr

/-- The payload of a transaction-layer packet by type (R451). -/
inductive PktBody where
  | enumQuery
  | enumState (p0 p1 : PartnerSeen)
  | enumAssign (port number depth : Nat)
  | cmd (c : KvSub)
  | dataReq (len : Nat)
  | data (bytes : List Byte)
  | cpl (sct sc : Nat) (dnr : Bool) (crd dw0 : Nat)
  | tokenReq (port : Nat)
  | tokenGrant (number surge : Nat)
  | tokenReturn (number : Nat)
  | event (ty info log : Nat)
  | dictReq (write : Bool) (ctrl : UnitId) (target : BitVec 2) (index sub : Nat) (data : List Byte)
  | dictRsp (err : Nat) (data : List Byte)
  deriving DecidableEq, Repr

/-- A transaction-layer packet (R450). DEST FEh is the link partner and FFh the root. -/
structure Packet where
  body : PktBody
  dest : Nat
  src : Nat
  tag : Nat := 0
  offset : Nat := 0
  deriving DecidableEq, Repr

/-- What arrives on a Griug link (R449): a packet with its sequence number and whether its CRC is good, an acknowledgement
of a sequence number, or a rejection from one on. -/
inductive LinkFrame where
  | packet (seq : BitVec 12) (crcOk : Bool) (p : Packet)
  | ack (seq : BitVec 12)
  | nak (seq : BitVec 12)
  deriving DecidableEq, Repr

/-! ## Journal flash (R539-R558) -/

/-- Who issues a command to the journal flash controller (R550). -/
inductive JfIface where
  | firmware | management
  deriving DecidableEq, Repr

/-! ## Dictionary accesses and KDAP frames (R559-R592) -/

/-- A KDAP frame as a unit receives it (R571, R572): how it was addressed, its source and EtherType, and the header. -/
structure KdapFrame where
  src : Nat
  broadcast : Bool := false
  /-- Frames in the unit's receive FIFO as this one comes (R13). -/
  queued : Nat := 0
  etherType : Nat
  version : Nat
  transId : Nat
  index : Nat
  sub : Nat
  target : BitVec 8
  param : Nat
  length : Nat
  seq : Nat
  last : Bool
  data : List Byte
  deriving DecidableEq, Repr

/-- The monitor's `@a` or `@b` prefix (R585). -/
inductive MonUnit where
  | serving | unit (u : UnitId)
  deriving DecidableEq, Repr

/-- A dictionary access that arrived during a Switchover and waits for its end (R564): of a requester, of a management frame, of a
monitor line or of the tree. -/
inductive WaitingAccess where
  | write (q : Requester) (u : UnitId) (index sub : Nat) (data : List Byte)
  | authChallenge (q : Requester) (u : UnitId)
  | erRecord (q : Requester) (u : UnitId)
  | erChallenge (q : Requester) (u : UnitId)
  | window (q : Requester) (u : UnitId)
  | mondis (q : Requester) (u : UnitId) (v : BitVec 8) (okA okB : Bool)
  | minSvn (q : Requester) (u : UnitId) (v : BitVec 32) (okA okB : Bool)
  | mgmtKey (q : Requester) (u : UnitId) (data : List Byte) (okA okB : Bool)
  | erKey (q : Requester) (u : UnitId) (data : List Byte) (okA okB : Bool)
  | expeditedRead (u : UnitId) (f : KdapFrame)
  | expeditedWrite (u : UnitId) (f : KdapFrame)
  | segmentedRead (u : UnitId) (f : KdapFrame)
  | segmentedWrite (u : UnitId) (f : KdapFrame)
  | segment (u : UnitId) (f : KdapFrame)
  | discovery (u : UnitId) (f : KdapFrame)
  | peek (m : MonUnit) (index sub : Nat)
  | poke (m : MonUnit) (index sub : Nat) (data : List Byte)
  | dump (m : MonUnit) (index sub off : Nat) (len : Option Nat)
  | modeLine (code : Option (BitVec 8))
  | jfStatus (m : MonUnit) (block : Nat)
  | jfRead (m : MonUnit) (block page errs : Nat)
  | jfCounters (m : MonUnit)
  | auth (m : MonUnit)
  | authResponse (m : MonUnit) (data : List Byte)
  | dict (src tag : Nat) (b : PktBody)
  deriving DecidableEq, Repr

end Sys2Proof.Machine
end

