-- ==== Sys2Proof/Syntax.lean ====
section
/-! DEFINITION. The commands of the TR1664: one constructor for each row of the table of operations and events. An
operand is what the command brings from outside the block (an address, a value, a level, a measured quantity). -/

namespace Sys2Proof

open Sys2Proof.Machine

/-- The commands of the module, in the order of the table; each names its rule. -/
inductive Instr where
  /-- VAUX3_APPLIED (R426): VAUX3 enters its window: the module passes from Unpowered to Reset hold, and the always-on logic drives SPIN at policy and every PEN low. -/
  | vaux3Applied (straps : Straps)
  /-- VAUX3_OUT_OF_WINDOW (R30): VAUX3 leaves its window, or is lost below 3.0 V. -/
  | vaux3OutOfWindow (lost : Bool)
  /-- RSTN_ASSERTED (R597): RSTn is recognised low after 1 µs: the module enters Reset hold with cause 08h. -/
  | rstnAsserted
  /-- RSTN_RELEASED (R597): RSTn is recognised high after 1 µs: the start steps of R426 begin. -/
  | rstnReleased
  /-- SELF_TEST_COMPLETE (R467): A unit's boot ROM self-test ends; the preferred unit asserts its CLAIM when the test has passed. -/
  | selfTestComplete (u : UnitId) (ok : Bool)
  /-- CLAIM_TIMER (R467): At 12 ms the non-preferred unit asserts CLAIM when its self-test has passed and the preferred unit's CLAIM is low. -/
  | claimTimer
  /-- ROLE_DECISION (R467): At 15 ms the unit whose CLAIM is high becomes active, or the preferred unit takes the role with NO_HEALTHY_UNIT set. -/
  | roleDecision
  /-- VIN12_GOOD (R490): VIN12 enters its window: the PHY rail and the journal flash state-row scan start. -/
  | vin12Good
  /-- STATE_ROW_SCAN_COMPLETE (R541): The scan of one unit, with the rows whose copy A or copy B fails its CRC. -/
  | stateRowScanComplete (u : UnitId) (bad : List (Nat × Bool × Bool))
  /-- VIN12_LOST (R502): VIN12 is declared lost: Hold-up runs steps 1–4, that is rails to HOLD, gates off, SPIN retract, PEN low and load shed. -/
  | vin12Lost
  /-- HOLDUP_SEQUENCE_COMPLETE (R502): The journal commit ends: mode and Hold-up records are made, the emergency message is sent, and the module exits to Bring-up, Fiddlehead or Unpowered. -/
  | holdupSequenceComplete
  /-- HOLD_EXHAUSTED (R505): HOLD falls below 8.0 V before the sequence ends: the converter stops and the module passes to Fiddlehead with cause 0Eh, or to Unpowered. -/
  | holdExhausted
  /-- HOLD_CHARGE_START (R497): The voltage found on HOLD, in mV. -/
  | holdChargeStart (mv : Nat)
  /-- HOLD_CHARGE_END (R497): The charge has ended; t µs passed in the span of R497. -/
  | holdChargeEnd (t : Nat)
  /-- VCORE_FAULT (R493): VCORE lies outside 0.70–0.90 V for 10 µs: VCORE_FAULT is set and the pace check is treated as tripped. -/
  | vcoreFault (u : UnitId)
  /-- VCORE_SET_WRITE (R492): A write of VCORE_SET is accepted or refused according to the mode and the value. -/
  | vcoreSetWrite (q : Requester) (u : UnitId) (v : BitVec 16)
  /-- PACE_WINDOW (R507): The counts of the 22 replicas; none for a replica that gives no count. -/
  | paceWindow (u : UnitId) (counts : List (Option Nat))
  /-- PACE_TRIP_EXPIRY (R473): Slack has stayed below its threshold for PACE_TRIP µs: the pace-monitor check trips. -/
  | paceTripExpiry (u : UnitId)
  /-- SENSOR_READ (R509): A temperature sensor is read, checked for the broken conditions, and its band is updated with hysteresis. -/
  | sensorRead (u : UnitId) (n : Sensor) (r : SensorRaw)
  /-- THERMAL_TRIP (R514): The die reading exceeds 130 °C for 1 ms: the Grave THERMAL_TRIP is set. -/
  | thermalTrip (u : UnitId)
  /-- PEN_GRANT (R501): PEN is raised on the lowest waiting port once VIN12 is in window and the PEN_STAGGER time has passed. -/
  | penGrant
  /-- SAMPLE_OVERRUN (R16): A reader sample FIFO overruns: the fragment's samples are discarded and the sector is marked not read. -/
  | sampleOverrun (p : PortId) (a : ActId)
  /-- WRITE_UNDERRUN (R17): A write data FIFO underruns: the write gate goes off within 150 ns and the sector is marked failed. -/
  | writeUnderrun (p : PortId) (a : ActId)
  /-- PLAN_WRITE (R179): A core writes to plan memory; a write to the executing half or to a committed half is ignored and counted. -/
  | planWrite (p : PortId) (a : ActId) (half : Fin 2) (off : BitVec 14) (data : List Byte)
  /-- PLAN_COMMIT (R181): A core writes SWEEP to the commit register; the part checks the plan and accepts it, or rejects it with PLAN_REJECT. -/
  | planCommit (p : PortId) (a : ActId) (sweep : BitVec 64)
  /-- PLAN_COMMIT_UNLOCK (R179): A write of 0 to the commit register before the deadline unlocks the committed half. -/
  | planCommitUnlock (p : PortId) (a : ActId)
  /-- PLAN_DEADLINE (R23): 200 µs before the sweep edge an uncommitted plan is discarded, and the actuator will run the empty plan. -/
  | planDeadline (p : PortId) (a : ActId)
  /-- SWEEP_EDGE (R184): At a port's index the sequencers drain, the committed plan becomes the executing plan, and the sequencers restart. -/
  | sweepEdge (p : PortId)
  /-- SWEEP_REFERENCE_EDGE (R246): The sweep reference accumulator produces an edge. -/
  | sweepReferenceEdge
  /-- REQUESTED_MODE_WRITE (R31): A write of 1101h.00 stores the request and starts the path of R31 toward it. -/
  | requestedModeWrite (q : Requester) (u : UnitId) (v : BitVec 8)
  /-- DRAIN_COMPLETE (R618): Every fetched command of a power-down or maintenance Drain has completed: the module enters Quiescent or Maintenance. -/
  | drainComplete
  /-- QUIESCENT_TO_FIDDLEHEAD (R30): Every port rests in EMPTY, PRESENT, OFFLINE or FAILED while Fiddlehead is requested: the module enters Fiddlehead. -/
  | quiescentToFiddlehead
  /-- FLTN_ASSERTED (R68): FLTn becomes filtered-asserted: the write gates go off, media planning stops and FLT_CODE is read. -/
  | fltnAsserted (u : UnitId) (p : PortId)
  /-- FLTN_RELEASED (R51): FLTn becomes filtered-released: a POWERING port starts lane training, or media work resumes after 1 ms. -/
  | fltnReleased (u : UnitId) (p : PortId)
  /-- FLTN_ISOLATION (R69): FLTn stays asserted for 50 ms: PEN low, SPIN retract-then-brake and port FAILED with cause 05h. -/
  | fltnIsolation (p : PortId)
  /-- RAW_EDGE (R67): A raw edge on a filtered input; `level` is the level after it, `true` for asserted. -/
  | rawEdge (u : UnitId) (p : PortId) (i : LineInput) (level : Bool)
  /-- CHATTER_EXIT (R67): The raw input has held one level for 64 µs: the chatter state ends. -/
  | chatterExit (u : UnitId) (p : PortId) (i : LineInput)
  /-- PRSN_ASSERTED (R74): PRSn becomes filtered-asserted and the 1 s presence count starts. -/
  | prsnAsserted (u : UnitId) (p : PortId)
  /-- PRESENCE_CONFIRMED (R74): PRSn has been asserted for 1 s: the port enters PRESENT, or its persistent OFFLINE or FAILED state. -/
  | presenceConfirmed (p : PortId)
  /-- PRSN_DEASSERTED (R74): PRSn becomes filtered-deasserted: the port is removed, its gates go off and PEN goes low. -/
  | prsnDeasserted (u : UnitId) (p : PortId)
  /-- SPIN_MISMATCH (R60): The decoded readback of a unit has differed for 1 ms; none when it is undecodable. -/
  | spinMismatch (u : UnitId) (p : PortId) (readback : Option SpinCode)
  /-- LANE_TRAINING_STEP (R51): A step of the lane-training sequence completes; after step 7 the port is LINKED. -/
  | laneTrainingStep (u : UnitId) (p : PortId) (r : TrainReport)
  /-- LANE_TRAINING_TIMEOUT (R53): A training step fails or overruns its bound: the sequence repeats once, then the port becomes FAILED with cause 06h. -/
  | laneTrainingTimeout (u : UnitId) (p : PortId)
  /-- LANE_FAIL (R54): Block errors counted on a lane of a side since the last such command, and whether the lane has lost block lock. -/
  | laneFail (u : UnitId) (p : PortId) (lane : Fin 16) (lost : Bool) (errors : BitVec 32)
  /-- LANE_RETRAIN_COMPLETE (R54): A lane retraining ends and the lane returns to service. -/
  | laneRetrainComplete (u : UnitId) (p : PortId) (lane : Fin 16)
  /-- CT_WINDOW (R70): A 64 µs window ends with its count, or with the clock-track lane out of service throughout. -/
  | ctWindow (u : UnitId) (p : PortId) (count : BitVec 16) (laneOut : Bool)
  /-- CT_TIMEOUT (R71): The clock track is not restored within 3 s: the port becomes FAILED with cause 08h. -/
  | ctTimeout (p : PortId)
  /-- LINE_DISAGREE (R72): The two units' filtered levels disagree for more than 1 ms: an Advisory event is recorded. -/
  | lineDisagree (p : PortId)
  /-- OFFLINE (R74): PORT_COMMAND 01h takes the port to SPINNING_DOWN and then OFFLINE. -/
  | offline (q : Requester) (u : UnitId) (p : PortId)
  /-- ONLINE (R617): PORT_COMMAND 02h places an ONLINE request on the port and takes an OFFLINE port to PRESENT. -/
  | online (q : Requester) (u : UnitId) (p : PortId)
  /-- RETRY (R74): PORT_COMMAND 03h takes a FAILED port to PRESENT. -/
  | retry (q : Requester) (u : UnitId) (p : PortId)
  /-- TELEMETRY_FRAME (R48): A telemetry frame arrives with OBEY, fault code and frame counter; its OBEY field may let the unit claim TOKEN. -/
  | telemetryFrame (u : UnitId) (p : PortId) (obey : Obey) (fault : BitVec 16) (frame : BitVec 8)
  /-- CLOCK_TRACK_FRAME (R49): A clock-track frame arrives with the cycle count, the SAMPLE_INDEX pairing and the lock bit. -/
  | clockTrackFrame (u : UnitId) (p : PortId) (cycles idx0 idx1 : Word) (phase : BitVec 16) (lock : Bool)
  /-- ALIGNMENT_MARKER (R44): The PN2 sends an alignment marker on a reader sub-lane of one side; `index` is the first sample of the next group there. -/
  | alignmentMarker (u : UnitId) (p : PortId) (a : ActId) (lane : Fin 4) (index : Word)
  /-- PN2_TOKEN_ACCEPT (R64): The level of one TOKEN line has stood for 1 µs. -/
  | pn2TokenAccept (p : PortId) (u : UnitId)
  /-- PN2_SPIN_DECODE (R58): The PN2 recognises a SPIN code and applies its motor action. -/
  | pn2SpinDecode (p : PortId) (u : UnitId) (c : SpinCode)
  /-- PN2_SPIN_INVALID (R58): For 1 ms the SPIN waveform fits no code: the PN2 applies retract-then-brake. -/
  | pn2SpinInvalid (p : PortId) (u : UnitId)
  /-- PN2_WRITE_GATE_ON (R46): The write-gate-on block that a side has sent arrives on its write lane. -/
  | pn2WriteGateOn (p : PortId) (a : ActId) (u : UnitId)
  /-- PN2_WRITE_GATE_OFF (R46): Write current ends: `block` tells that the write-gate-off block of the fragment has arrived, otherwise the write lane is broken off. -/
  | pn2WriteGateOff (p : PortId) (a : ActId) (block : Bool)
  /-- PN2_COMMAND_SLOT (R238): A command slot ends; `got` is the side on which the part's blocks arrived, `errs` the bit errors of each block in turn. -/
  | pn2CommandSlot (p : PortId) (a : ActId) (got : Option UnitId) (errs : List (BitVec 64))
  /-- PN2_SERVO_WINDOW (R47): The PN2 opens a window; `wedge` is a wedge interval in samples. -/
  | pn2ServoWindow (p : PortId) (a : ActId) (wedge : Word)
  /-- PN2_MOTOR_BLOCK_APPLY (R251): The motor block sent last takes effect, or a slot passes without a valid block; `got` is the side on which it arrived, `err` its bit errors. -/
  | pn2MotorBlockApply (p : PortId) (got : Option UnitId) (err : BitVec 64)
  /-- ARM_START (R167): An accepted arm reaches its start index: the fragment read begins, or the write gate opens. -/
  | armStart (p : PortId) (a : ActId) (write : Bool)
  /-- SECTOR_SAMPLES_END (R103): The last sample of a sector arrives: of the sector being read, or of the oldest sector written whose samples have not been taken; the operand is what the reader sub-lanes have delivered since their last marker or the last such command. -/
  | sectorSamplesEnd (p : PortId) (a : ActId) (d : SectorSamples)
  /-- DECODE_COMPLETE (R101): The decoder stops the oldest code word of a read. -/
  | decodeComplete (p : PortId) (a : ActId)
  /-- REPLAY_COMPLETE (R112): A replay of held samples ends. -/
  | replayComplete (p : PortId) (a : ActId)
  /-- PARAM_LOAD_COMPLETE (R105): A load of a parameter set ends, in time or later than 2 µs before the preamble. -/
  | paramLoadComplete (p : PortId) (a : ActId) (late : Bool)
  /-- RAW_CHECK_COMPLETE (R143): The oldest read-after-write check becomes final. -/
  | rawCheckComplete (p : PortId) (a : ActId)
  /-- WRSET_TIMEOUT (R140): The entries are not acknowledged 2 µs before the first gate: the item's writes fail with TABLE_ERR. -/
  | wrsetTimeout (p : PortId) (a : ActId)
  /-- NOP (R160): Sequencer operation 00h: no operation. -/
  | nop (q : SeqId) (w : MicroWord)
  /-- BRZ (R160): Branches when G[A] is 0. -/
  | brz (q : SeqId) (w : MicroWord)
  /-- BRNEG (R160): Branches when bit 31 of G[A] is 1. -/
  | brneg (q : SeqId) (w : MicroWord)
  /-- BREQI (R160): Branches when G[A] equals the immediate. -/
  | breqi (q : SeqId) (w : MicroWord)
  /-- BRLT (R160): Branches when G[A] is below reg(B), unsigned. -/
  | brlt (q : SeqId) (w : MicroWord)
  /-- BRBIT (R160): Branches when the selected bit of G[A] is 1. -/
  | brbit (q : SeqId) (w : MicroWord)
  /-- BRFLAG (R162): Branches when the selected flag is set. -/
  | brflag (q : SeqId) (w : MicroWord)
  /-- DJNZ (R160): Decrements G[A] and branches when the result is not 0. -/
  | djnz (q : SeqId) (w : MicroWord)
  /-- CALL (R163): Pushes NEXT and jumps to B, or stops with STACK_ERR when the stack is full. -/
  | call (q : SeqId) (w : MicroWord)
  /-- RET (R163): Pops an address and continues there, or stops with STACK_ERR when the stack is empty. -/
  | ret (q : SeqId) (w : MicroWord)
  /-- SWITCH (R160): Continues at NEXT plus the masked value of G[A]. -/
  | switch (q : SeqId) (w : MicroWord)
  /-- ENDSWEEP (R160): Stops the sequencer until the drain. -/
  | endsweep (q : SeqId) (w : MicroWord)
  /-- ABORT (R187): Stops the sequencer with ABORT_CODE and takes the stop steps. -/
  | abort (q : SeqId) (w : MicroWord)
  /-- FENCE (R160): Waits until every request this sequencer issued has been accepted. -/
  | fence (q : SeqId) (w : MicroWord)
  /-- WAITIDX (R160): Waits until SIDX reaches G[A]. -/
  | waitidx (q : SeqId) (w : MicroWord)
  /-- TRAP (R160): Raises the sequencer interrupt with a code and continues. -/
  | trap (q : SeqId) (w : MicroWord)
  /-- LDI (R160): Loads the zero-extended immediate into G[A]. -/
  | ldi (q : SeqId) (w : MicroWord)
  /-- LDIS (R160): Loads the sign-extended immediate into G[A]. -/
  | ldis (q : SeqId) (w : MicroWord)
  /-- LDIM (R160): Loads the immediate into G[A][23:12]. -/
  | ldim (q : SeqId) (w : MicroWord)
  /-- LDIH (R160): Loads B[7:0] into G[A][31:24]. -/
  | ldih (q : SeqId) (w : MicroWord)
  /-- MOV (R160): Copies reg(B) into G[A]. -/
  | mov (q : SeqId) (w : MicroWord)
  /-- ADD (R160): Adds reg(B) to G[A]. -/
  | add (q : SeqId) (w : MicroWord)
  /-- ADDI (R160): Adds the sign-extended immediate to G[A]. -/
  | addi (q : SeqId) (w : MicroWord)
  /-- SUB (R160): Subtracts reg(B) from G[A]. -/
  | sub (q : SeqId) (w : MicroWord)
  /-- AND (R160): ANDs reg(B) into G[A]. -/
  | and (q : SeqId) (w : MicroWord)
  /-- ANDI (R160): ANDs the immediate into G[A]. -/
  | andi (q : SeqId) (w : MicroWord)
  /-- OR (R160): ORs reg(B) into G[A]. -/
  | or (q : SeqId) (w : MicroWord)
  /-- ORI (R160): ORs the immediate into G[A]. -/
  | ori (q : SeqId) (w : MicroWord)
  /-- XOR (R160): XORs reg(B) into G[A]. -/
  | xor (q : SeqId) (w : MicroWord)
  /-- SHLI (R160): Shifts G[A] left by the immediate. -/
  | shli (q : SeqId) (w : MicroWord)
  /-- SHRI (R160): Shifts G[A] right logically by the immediate. -/
  | shri (q : SeqId) (w : MicroWord)
  /-- MULI (R160): Multiplies G[A] by the immediate and keeps the low 32 bits. -/
  | muli (q : SeqId) (w : MicroWord)
  /-- LDP (R160): Loads a word of the current plan item into G[A]. -/
  | ldp (q : SeqId) (w : MicroWord)
  /-- NEXTITEM (R160): Advances PLANPTR and ITEMNO and branches at the last item. -/
  | nextitem (q : SeqId) (w : MicroWord)
  /-- LDH (R160): Loads a word of the plan header into G[A]. -/
  | ldh (q : SeqId) (w : MicroWord)
  /-- LDM (R160): Loads a 32-bit GDDR7 word into G[A]. -/
  | ldm (q : SeqId) (w : MicroWord)
  /-- STM (R160): Stores G[A] to GDDR7. -/
  | stm (q : SeqId) (w : MicroWord)
  /-- POST (R183): Writes one completion entry to the ring, waiting while the ring is full. -/
  | post (q : SeqId) (w : MicroWord)
  /-- MSEND (R160): Sends G[A] to the partner sequencer's mailbox, waiting while it is full. -/
  | msend (q : SeqId) (w : MicroWord)
  /-- MRECV (R160): Takes the oldest mailbox word into G[A], waiting while the mailbox is empty. -/
  | mrecv (q : SeqId) (w : MicroWord)
  /-- PRED (R160): Predicts a fragment of a sector position and fills P_START, P_BITS, P_END and P_FRAGS. -/
  | pred (q : SeqId) (w : MicroWord)
  /-- PSET (R160): Starts loading a parameter set into the inactive bank and sends its ratio. -/
  | pset (q : SeqId) (w : MicroWord)
  /-- SWAP (R160): Swaps the set banks at the next boundary between sectors. -/
  | swap (q : SeqId) (w : MicroWord)
  /-- WRSET (R160): Sends the precompensation entry and the write preset of a set. -/
  | wrset (q : SeqId) (w : MicroWord)
  /-- SRD (R166): Arms a sector read, accepted or refused as late. -/
  | srd (q : SeqId) (w : MicroWord)
  /-- SWR (R166): Arms a sector write with its read-after-write check. -/
  | swr (q : SeqId) (w : MicroWord)
  /-- CFRAG (R166): Arms a continuation fragment. -/
  | cfrag (q : SeqId) (w : MicroWord)
  /-- GATEOFF (R160): Ends any open write at once as a cut. -/
  | gateoff (q : SeqId) (w : MicroWord)
  /-- SEEKREQ (R218): Posts a track and head target to the loop computer. -/
  | seekreq (q : SeqId) (w : MicroWord)
  /-- REPLAY (R112): Starts a replay of the hold buffer with the settings of a ladder step. -/
  | replay (q : SeqId) (w : MicroWord)
  /-- ARMCLR (R166): Withdraws every arm that has not started. -/
  | armclr (q : SeqId) (w : MicroWord)
  /-- CTSNAP (R160): Loads the latest clock-track cycle count into G[A]. -/
  | ctsnap (q : SeqId) (w : MicroWord)
  /-- TICKET (R169): Queues a read ticket, waiting while the ticket queue is full. -/
  | ticket (q : SeqId) (w : MicroWord)
  /-- WFEED (R169): Queues a write feed, waiting while the feed queue is full. -/
  | wfeed (q : SeqId) (w : MicroWord)
  /-- EVSEND (R171): Pulses an event of the unit's event fabric. -/
  | evsend (q : SeqId) (w : MicroWord)
  /-- EVCLR (R170): Clears both latches of an inbound slot. -/
  | evclr (q : SeqId) (w : MicroWord)
  /-- ILLEGAL_OP (R161): A reserved or wrong-kind code, or a bad operand: the sequencer stops with ILLEGAL_OP. -/
  | illegalOp (q : SeqId) (corrected : Bool)
  /-- SEQ_OP_UNBLOCKED (R159): A blocked operation is accepted by its engine, or finds its data or room, and the sequencer continues. -/
  | seqOpUnblocked (q : SeqId)
  /-- DELAY_EXPIRY (R164): A media sequencer's delay element runs out and the next word is fetched. -/
  | delayExpiry (q : SeqId)
  /-- WAIT_CONDITION_MET (R168): A transfer sequencer's wait condition holds and the next word is fetched. -/
  | waitConditionMet (q : SeqId)
  /-- SEQ_WATCHDOG (R188): A word waits longer than SEQ_WATCHDOG: the sequencer stops with WATCHDOG. -/
  | seqWatchdog (q : SeqId)
  /-- REPLICA_CALIBRATION (R165): The delay replica is recalibrated, at the 1024 µs tick or otherwise, and the stage counts are reset. -/
  | replicaCalibration (u : UnitId) (p : PortId) (a : ActId) (stages : BitVec 16)
  /-- CONTROL_STORE_RELOAD (R174): A double-bit control-store error triggers a reload of both stores from the master copy, which completes within 50 µs. -/
  | controlStoreReload (q : SeqId)
  /-- EV_PULSE (R394): The oldest pulse of a unit reaches its subscribers; or a stream fails inside the sorus coder. -/
  | evPulse (u : UnitId) (coder : Option (Fin 4))
  /-- MC_STAGE_WRITE (R176): A microcode image is written to the staging area, which invalidates the previous verify; refused outside Maintenance. -/
  | mcStageWrite (q : Requester) (u : UnitId) (data : List Byte)
  /-- MC_VERIFY (R176): MC_COMMAND 01h starts the header, signature and MIN_FW checks of the staged images. -/
  | mcVerify (q : Requester) (u : UnitId)
  /-- MC_VERIFY_COMPLETE (R176): The verification ends and MC_RESULT reads verified or a failure. -/
  | mcVerifyComplete
  /-- MC_LOAD (R176): MC_COMMAND 02h loads the verified images on the active unit and the standby. -/
  | mcLoad (q : Requester) (u : UnitId)
  /-- MC_LOAD_COMPLETE (R177): The images are in service on both units, or on neither with MC_RESULT 09h. -/
  | mcLoadComplete (peerOk : Bool)
  /-- MC_PERSIST (R178): MC_COMMAND 03h stores the loaded images in journal flash. -/
  | mcPersist (q : Requester) (u : UnitId)
  /-- MC_REVERT (R178): MC_COMMAND 04h erases the stored images and loads the built-in images. -/
  | mcRevert (q : Requester) (u : UnitId)
  /-- SERVO_DECODE_COMPLETE (R214): The demodulator has received the last sample of a servo window and decodes it; `other` are the blocks of the standby's own servo-window lane. -/
  | servoDecodeComplete (p : PortId) (a : ActId) (d : ServoWindow) (other : List LaneBlock)
  /-- OUTER_PRODUCT_COMPLETE (R207): The outer product ends; the operands tell whether the two multiplier paths differ in the active unit and in the standby. -/
  | outerProductComplete (p : PortId) (a : ActId) (mismatch other : Bool)
  /-- SERVO_TELEMETRY_BLOCK (R203): The servo telemetry block that the active side, and the standby's, has received in a frame; none when none arrived. -/
  | servoTelemetryBlock (p : PortId) (a : ActId) (b other : Option (BitVec 64))
  /-- INNER_FRAME_START (R204): Frame j of wedge k starts; `own` and `other` tell how the inner product for it stands in the active unit and in the standby. -/
  | innerFrameStart (p : PortId) (a : ActId) (k : Fin 512) (j : Fin 4) (own other : ProductEnd)
  /-- LOOP_SAFE_HOLD_EXPIRY (R524): The loop-command safe value has held eight outer samples: HOLD 10b is sent and the actuator passes to PN2_RETRACT. -/
  | loopSafeHoldExpiry (p : PortId) (a : ActId)
  /-- BANK_WRITE (R212): A write of a coefficient bank, refused when the bank is active and closed, or when a swap is pending. -/
  | bankWrite (q : Requester) (u : UnitId) (p : PortId) (a : ActId) (bank : Fin 4) (data : List Byte)
  /-- BANK_SWAP (R213): A bank swap request is checked and applied at once or at a later boundary, or refused with BANK_ERR. -/
  | bankSwap (q : Requester) (u : UnitId) (p : PortId) (a : ActId) (v : BitVec 8)
  /-- ACT_LOAD (R216): ACT_COMMAND 01h requests a load of the actuator. -/
  | actLoad (q : Requester) (u : UnitId) (p : PortId) (a : ActId)
  /-- ACT_UNLOAD (R216): ACT_COMMAND 02h unloads the heads. -/
  | actUnload (q : Requester) (u : UnitId) (p : PortId) (a : ActId)
  /-- ACT_RETRACT (R216): ACT_COMMAND 03h sends HOLD 10b. -/
  | actRetract (q : Requester) (u : UnitId) (p : PortId) (a : ActId)
  /-- LOAD_TIMEOUT (R216): LOADING overruns LOAD_TIMEOUT and the actuator unloads. -/
  | loadTimeout (p : PortId) (a : ActId)
  /-- ACQ_TIMEOUT (R216): ACQUIRE overruns ACQ_TIMEOUT: HOLD 10b is sent. -/
  | acqTimeout (p : PortId) (a : ActId)
  /-- SEEK_TIMEOUT (R216): FOLLOW is not reached within SEEK_TIMEOUT and the actuator enters ACQUIRE. -/
  | seekTimeout (p : PortId) (a : ActId)
  /-- UNLOAD_TIMEOUT (R216): UNLOADING lasts 300 ms without PARKED: HOLD 10b is sent. -/
  | unloadTimeout (p : PortId) (a : ActId)
  /-- RETRACT_TIMEOUT (R216): PN2_RETRACT lasts 1 s without PARKED and the actuator enters FAULT. -/
  | retractTimeout (p : PortId) (a : ActId)
  /-- HEATER_SETTLE_EXPIRY (R224): HEATER_SETTLE has passed since a head switch or heater change, which allows WRITE_SAFE. -/
  | heaterSettleExpiry (p : PortId) (a : ActId)
  /-- ACTUATOR_CALIBRATED (R242): Servo and channel calibration of an actuator ends, or it fails and the port becomes FAILED with cause 0Bh. -/
  | actuatorCalibrated (p : PortId) (a : ActId) (d : CalData)
  /-- MOTOR_TELEMETRY_BLOCK (R250): A motor frame ends with the telemetry block that the active side, and the standby's, has received; none when none arrived. -/
  | motorTelemetryBlock (p : PortId) (b other : Option (BitVec 64))
  /-- MEASURE_TIMEOUT (R262): 250 ms pass in MEASURE without a decision. -/
  | measureTimeout (p : PortId)
  /-- ZC_WINDOW_CLOSE (R254): A window closes without a valid crossing: commutation follows the expected crossing, and a second miss means rotor loss. -/
  | zcWindowClose (p : PortId)
  /-- COMMUTATION (R254): The next drive state is commanded at its scheduled moment. -/
  | commutation (p : PortId)
  /-- DUTY_UPDATE (R265): Every 64 motor frames the speed loop updates DUTY under the cap, the power and the back-EMF limits. -/
  | dutyUpdate (p : PortId)
  /-- SPINDLE_INDEX (R248): Two clock-track frames of the active side in succession, between which the index may lie. -/
  | spindleIndex (p : PortId) (before after : CtStamp)
  /-- BRAKE_PROBE (R263): Every 10 ms the bridge coasts for a 1 ms probe and BEMF_AMP is read at its end. -/
  | brakeProbe (p : PortId)
  /-- STANDSTILL_TEST (R263): 200 ms without transitions and with low back-EMF: the spindle is AT_REST. -/
  | standstillTest (p : PortId)
  /-- COAST_MAX_EXPIRY (R259): COAST_TO_REST lasts COAST_MAX and the spindle enters BRAKE_TO_REST. -/
  | coastMaxExpiry (p : PortId)
  /-- ALIGN_TIME_EXPIRY (R264): ALIGN ends and open-loop RAMP begins. -/
  | alignTimeExpiry (p : PortId)
  /-- RAMP_MAX_EXPIRY (R259): RAMP times out without 12 crossings: the start realigns, or fails the third time. -/
  | rampMaxExpiry (p : PortId)
  /-- SPINUP_TIMEOUT (R260): The spindle is not LOCKED 14 s after the grant: START_FAIL and port FAILED. -/
  | spinupTimeout (p : PortId)
  /-- RECATCH_ATTEMPT_TIMEOUT (R269): A re-catch attempt finds no direction in 500 ms. -/
  | recatchAttemptTimeout (p : PortId)
  /-- RECATCH_TIMEOUT (R269): No re-catch succeeds within 1.5 s: retract-then-brake and port FAILED. -/
  | recatchTimeout (p : PortId)
  /-- SWEEP_RPM_WRITE (R247): SWEEP_RPM is stored and takes effect when no spindle of the module is driven. -/
  | sweepRpmWrite (q : Requester) (u : UnitId) (v : BitVec 16)
  /-- NS_CREATE (R279): NS_COMMAND 01h makes an UNUSED namespace ACTIVE. -/
  | nsCreate (q : Requester) (u : UnitId) (n : Fin 16)
  /-- NS_DELETE (R279): NS_COMMAND 02h places the namespace in DELETING and starts background removal. -/
  | nsDelete (q : Requester) (u : UnitId) (n : Fin 16)
  /-- NS_DELETION_COMPLETE (R279): No index entry of the namespace remains and it returns to UNUSED. -/
  | nsDeletionComplete (n : Fin 16)
  /-- STORE (R308): The KV Store command is chunked, coded and placed, and completes when sealed and staged. -/
  | store (t : CmdTag) (nsid : Nat) (key value : List Byte) (opt : StoreOpt) (hint : Option CompressMode)
  /-- RETRIEVE (R20): The KV Retrieve command looks up the key, plans reads, decodes and returns the value. -/
  | retrieve (t : CmdTag) (nsid : Nat) (key : List Byte) (len : Nat)
  /-- DELETE (R308): The KV Delete command removes the key through a journal record. -/
  | delete (t : CmdTag) (nsid : Nat) (key : List Byte)
  /-- EXIST (R340): The KV Exist command reports whether the key is present. -/
  | exist (t : CmdTag) (nsid : Nat) (key : List Byte)
  /-- LIST (R282): The KV List command returns keys in ascending order from the given key. -/
  | list (t : CmdTag) (nsid : Nat) (key : List Byte) (len : Nat)
  /-- FLUSH (R348): The Flush command seals the packing chunks and completes after the earlier Stores and Deletes. -/
  | flush (t : CmdTag) (nsid : Nat)
  /-- PACK_WAIT_EXPIRY (R289): PACK_WAIT µs after its first record, the open packing chunk is sealed. -/
  | packWaitExpiry (n : Fin 16)
  /-- LATE_LIMIT_EXPIRY (R313): LATE_LIMIT sweeps have passed since the seal of the sorus named by its SORUS_ID. -/
  | lateLimitExpiry (set : Nat) (seq : Nat)
  /-- WIDTH_WAIT_EXPIRY (R319): A Store held for width fails with NO_WIDTH. -/
  | widthWaitExpiry (t : CmdTag)
  /-- SORUS_DECODE_COMPLETE (R297): The sorus coder ends its work on the sorus named by its SORUS_ID. -/
  | sorusDecodeComplete (set : Nat) (seq : Nat)
  /-- REBUILD_STEP (R316): Firmware rebuilds or repairs the next sorus in margin order into a new sorus. -/
  | rebuildStep
  /-- CHECKPOINT (R309): At CHECKPOINT_INTERVAL, or at half-full journal, changed nodes are written, a root is recorded and old records are freed. -/
  | checkpoint
  /-- COMPACTION_STEP (R325): A live sorus of a closed band set is moved, and empty band sets are released. -/
  | compactionStep
  /-- MEMBER_RECOGNITION (R321): A port reaching READY has its membership record read and its HDA classified. -/
  | memberRecognition (p : PortId) (r : MemberRecord)
  /-- INDEX_RECOVERY_COMPLETE (R310): The index root is taken, the journal replayed or the bands recovered, and reduced service may start. -/
  | indexRecoveryComplete (ok : Bool)
  /-- STAGING_ACK (R307): The standby acknowledges a staged journal record and the waiting command completes. -/
  | stagingAck (t : CmdTag)
  /-- DELETE_IO_SUBMISSION_QUEUE (R350): Deletes a queue and aborts its commands in the table. -/
  | deleteIoSubmissionQueue (t : CmdTag) (qid : Nat)
  /-- CREATE_IO_SUBMISSION_QUEUE (R339): A queue of a number of entries. -/
  | createIoSubmissionQueue (t : CmdTag) (qid size cq : Nat) (contiguous : Bool)
  /-- GET_LOG_PAGE (R355): Bytes of a log page from an offset, with Retain Asynchronous Event. -/
  | getLogPage (t : CmdTag) (lid off len : Nat) (rae : Bool)
  /-- DELETE_IO_COMPLETION_QUEUE (R339): Deletes an I/O completion queue. -/
  | deleteIoCompletionQueue (t : CmdTag) (qid : Nat)
  /-- CREATE_IO_COMPLETION_QUEUE (R339): A queue of a number of entries. -/
  | createIoCompletionQueue (t : CmdTag) (qid size vector : Nat) (contiguous : Bool)
  /-- IDENTIFY (R339): Returns the Identify data of the supported CNS values. -/
  | identify (t : CmdTag) (cns nsid : Nat)
  /-- NVME_ABORT (R345): The command named still waits in its submission queue, or not. -/
  | nvmeAbort (t : CmdTag) (sqid cid : Nat) (waiting : Bool)
  /-- SET_FEATURES (R339): Sets one of the supported features. -/
  | setFeatures (t : CmdTag) (fid : Nat) (v : BitVec 32)
  /-- GET_FEATURES (R339): Returns one of the supported features. -/
  | getFeatures (t : CmdTag) (fid : Nat)
  /-- ASYNCHRONOUS_EVENT_REQUEST (R354): Stays outstanding until an enabled event is raised. -/
  | asynchronousEventRequest (t : CmdTag)
  /-- FIRMWARE_IMAGE_DOWNLOAD (R352): Accepts a 4 KiB-aligned piece of a firmware image. -/
  | firmwareImageDownload (t : CmdTag) (off : Nat) (data : List Byte)
  /-- FW_COMMIT_STORE (R352): Commit action 000b verifies and stores the image in the slot. -/
  | fwCommitStore (t : CmdTag) (slot : Fin 8)
  /-- FW_COMMIT_STORE_ACTIVATE_RESET (R352): Commit action 001b stores the image and activates it at the next controller reset. -/
  | fwCommitStoreActivateReset (t : CmdTag) (slot : Fin 8)
  /-- FW_COMMIT_ACTIVATE_RESET (R352): Commit action 010b activates the stored image at the next controller reset. -/
  | fwCommitActivateReset (t : CmdTag) (slot : Fin 8)
  /-- FW_COMMIT_ACTIVATE_NOW (R352): Commit action 011b stores the image and starts rolling activation at once. -/
  | fwCommitActivateNow (t : CmdTag) (slot : Fin 8)
  /-- DICTIONARY_WRITE (R581): A module number of the cascade, FFh for the receiving module. -/
  | dictionaryWrite (t : CmdTag) (m : Nat) (target : BitVec 2) (index sub : Nat) (data : List Byte)
  /-- DICTIONARY_READ (R581): A module number of the cascade, FFh for the receiving module. -/
  | dictionaryRead (t : CmdTag) (m : Nat) (target : BitVec 2) (index sub off len : Nat)
  /-- INVALID_COMMAND_OPCODE (R339): An unsupported opcode completes with Invalid Command Opcode. -/
  | invalidCommandOpcode (t : CmdTag)
  /-- COMMAND_FETCH (R343): The active unit's controller fetches a command; len is the value length of a Store, else 0; ready and other are the queues of its controller and of the other one with commands waiting, each with the value length of its head. -/
  | commandFetch (t : CmdTag) (len : Nat) (ready other : List (Nat × Nat))
  /-- FORWARDED_COMMAND (R334): The operands of COMMAND_FETCH, for the controller of the other unit. -/
  | forwardedCommand (t : CmdTag) (len : Nat) (ready other : List (Nat × Nat))
  /-- CC_EN_SET (R338): CC.EN written 1, with the entries of the admin queues. -/
  | ccEnSet (u : UnitId) (asq acq : Nat)
  /-- CONTROLLER_RESET (R349): CC.EN written 0 or a function-level reset: the controller's commands are abandoned or kept as R350 states. -/
  | controllerReset (u : UnitId)
  /-- PERSTN_ASSERTED (R598): A PERSTn assertion is a conventional reset of that unit's port and controller. -/
  | perstnAsserted (u : UnitId)
  /-- GDDR7_TRAINING_COMPLETE (R361): GDDR7 training ends; held accesses proceed, or TRAIN_FAIL is set after two failures. -/
  | gddr7TrainingComplete (u : UnitId) (ok : Bool)
  /-- BUFFER_READ (R367): A read of the buffer by an engine, with the errors the memories show. -/
  | bufferRead (u : UnitId) (addr : Nat) (len : Nat) (e : MemErrs)
  /-- BUFFER_WRITE (R374): A write of the buffer by an engine, with the errors the memories show. -/
  | bufferWrite (u : UnitId) (addr : Nat) (data : List Byte) (e : MemErrs)
  /-- MERGE_WRITEBACK (R375): A merge-buffer entry is written back when full, after MERGE_HOLD, or on demand. -/
  | mergeWriteback (u : UnitId) (group : Nat)
  /-- LINK_TRANSFER_FAIL (R362): A transfer whose first try fails, and how many of its three repeats fail. -/
  | linkTransferFail (u : UnitId) (write : Bool) (fails : Fin 4)
  /-- GDDR7_RETRAIN_COMPLETE (R362): A GDDR7 retrain ends and held accesses resume. -/
  | gddr7RetrainComplete (u : UnitId)
  /-- GDDR7_TEMPERATURE_READ (R363): The two devices in tenths of a degree; none for a read that fails. -/
  | gddr7TemperatureRead (u : UnitId) (t0 t1 : Option Int)
  /-- SELF_REFRESH_IDLE (R364): After SR_IDLE µs without an access in Quiescent the devices re-enter self-refresh. -/
  | selfRefreshIdle (u : UnitId)
  /-- REMAP_REQUEST (R372): A group is copied to a spare and redirected, or the request is refused. -/
  | remapRequest (q : Requester) (u : UnitId) (group : BitVec 32)
  /-- LOG_CLEAR (R370): A write of 01h empties the error log. -/
  | logClear (q : Requester) (u : UnitId) (v : BitVec 8)
  /-- SCRUB_START (R377): SCRUB_COMMAND 01h starts a pass over the configured range. -/
  | scrubStart (q : Requester) (u : UnitId)
  /-- SCRUB_STOP (R377): SCRUB_COMMAND 02h stops the pass after the current group. -/
  | scrubStop (q : Requester) (u : UnitId)
  /-- SCRUB_GROUP (R377): The scrubber reads the next group, rewrites corrected words or skips, and updates the summary. -/
  | scrubGroup (u : UnitId) (e : MemErrs)
  /-- SCRUB_INTERVAL_EXPIRY (R379): Firmware starts a full-buffer pass every SCRUB_INTERVAL hours. -/
  | scrubIntervalExpiry (u : UnitId)
  /-- FLIP_MODE_WRITE (R380): Arms a one-time corruption of a word on its next write or read. -/
  | flipModeWrite (q : Requester) (u : UnitId) (v : BitVec 8)
  /-- CACHE_ACCESS (R382): An access to the window: a read of a length, or a write of data. -/
  | cacheAccess (u : UnitId) (addr : Nat) (len : Nat) (data : Option (List Byte)) (e : MemErrs)
  /-- CACHE_WRITEBACK_COMPLETE (R384): An eviction-buffer write-back completes; the entry leaves, or is reallocated. -/
  | cacheWritebackComplete (u : UnitId)
  /-- WAY_ENABLE_WRITE (R386): Clearing a bit starts cleaning the way; setting a bit powers it up or stops its cleaning. -/
  | wayEnableWrite (q : Requester) (u : UnitId) (v : BitVec 16)
  /-- WAY_CLEAN_DONE (R386): No dirty line remains and the way powers down. -/
  | wayCleanDone (u : UnitId) (way : Nat)
  /-- CACHE_ENABLE (R387): CACHE_CONTROL 01h resumes allocation, or powers up the enabled ways. -/
  | cacheEnable (q : Requester) (u : UnitId)
  /-- CACHE_DISABLE (R387): CACHE_CONTROL 02h enters DISABLE_PENDING and starts cleaning. -/
  | cacheDisable (q : Requester) (u : UnitId)
  /-- CACHE_DISABLE_COMPLETE (R387): All dirty lines are written, and the cache is disabled and powered down. -/
  | cacheDisableComplete (u : UnitId)
  /-- CH_ARM (R401): CH_CTRL 01h, with the coder streams that firmware has set up for it. -/
  | chArm (q : Requester) (u : UnitId) (n : Fin 32) (streams : List (Fin 4 × CoderSetup))
  /-- CH_STOP (R405): CH_CTRL 02h stops the channel after bursts in flight and pulses its error event. -/
  | chStop (q : Requester) (u : UnitId) (n : Fin 32)
  /-- DMA_BURST_RESPONSE (R406): A burst is answered; on an error the channel stops with READ_ERR or WRITE_ERR, and otherwise continues. -/
  | dmaBurstResponse (u : UnitId) (n : Fin 32) (e : Option BurstErr)
  /-- TIMER_TICK (R395): A fabric timer pulses on its period or on a reference edge. -/
  | timerTick (u : UnitId) (t : Fin 8)
  /-- TIMER_WRITE (R395): TIMER_PERIOD of timer 0-7, or TIMER_SWEEP for 8. -/
  | timerWrite (q : Requester) (u : UnitId) (i : Fin 9) (v : Word)
  /-- EV_FIRE (R394): A write pulses an event from 70h to FFh. -/
  | evFire (q : Requester) (u : UnitId) (v : BitVec 8)
  /-- DOMAIN_POWER_DOWN (R409): Starts powering a domain down: no new bursts, affected channels and jobs end. -/
  | domainPowerDown (q : Requester) (u : UnitId) (d : Fin 7)
  /-- DOMAIN_POWER_DOWN_COMPLETE (R409): The domain is down and DOMAIN_RESULT reads 02h. -/
  | domainPowerDownComplete (u : UnitId) (d : Fin 7)
  /-- DOMAIN_POWER_UP (R411): Powers up a domain, or is refused with 03h. -/
  | domainPowerUp (q : Requester) (u : UnitId) (d : Fin 7)
  /-- RING_TAIL_WRITE (R412): Engines 0-7 are compressors, 8-15 decompressors. -/
  | ringTailWrite (q : Requester) (u : UnitId) (e : Fin 16) (v : BitVec 8)
  /-- RING_BASE_WRITE (R424): Sets a ring base, refused while jobs are pending. -/
  | ringBaseWrite (q : Requester) (u : UnitId) (e : Fin 16) (v : BitVec 64)
  /-- ENGINE_JOB_COMPLETE (R412): The job in progress ends; `bus` is an error response other than the memory's own, of a read (false) or a write. -/
  | engineJobComplete (u : UnitId) (e : Fin 16) (verifyFail : Bool) (bus : Option Bool)
  /-- FIRMWARE_VERIFY_COMPLETE (R432): A unit has tried its slots; whether the pages of slot 1 and slot 2 cannot be read. -/
  | firmwareVerifyComplete (u : UnitId) (bad1 bad2 : Bool)
  /-- FW_RECOVERY_STAGE_WRITE (R433): A recovery image is written while BOOTSEL is high and its check starts. -/
  | fwRecoveryStageWrite (q : Requester) (u : UnitId) (data : List Byte)
  /-- RECOVERY_CHECK_COMPLETE (R433): The recovery image is written to slot 1 of both units, or refused with its failing check. -/
  | recoveryCheckComplete
  /-- BOOTSEL_CHANGE (R604): A filtered change of BOOTSEL enables or ends recovery in Fiddlehead. -/
  | bootselChange (high : Bool)
  /-- TOKEN_REQ (R441): A request of a module for one of its ports reaches the root's ledger. -/
  | tokenReq (m port : Nat)
  /-- TOKEN_GRANT (R440): A grant reaches a module and goes to its lowest waiting port, which starts spin-up. -/
  | tokenGrant (number surge : Nat)
  /-- TOKEN_RETURN (R443): The return of a module's token reaches the root. -/
  | tokenReturn (m number : Nat)
  /-- TOKEN_EXPIRY (R443): 14 s after a grant the root counts the token as returned. -/
  | tokenExpiry (number : Nat)
  /-- LEDGER_REBUILD_HOLDOFF_EXPIRY (R444): 14 s after a ledger rebuild the root grants to unreported modules again. -/
  | ledgerRebuildHoldoffExpiry
  /-- ROOTLESS_WAIT_EXPIRY (R445): A module with no root starts granting tokens to itself. -/
  | rootlessWaitExpiry
  /-- GRIUG_TRAINING_STEP (R447): A step of Griug link training completes, including the identity exchange and the miswire check. -/
  | griugTrainingStep (u : UnitId) (l : GriugPort) (r : GriugStep)
  /-- GRIUG_PACKET_RECEIVE (R449): A link-layer packet is acknowledged or rejected, and forwarded by route when not local. -/
  | griugPacketReceive (u : UnitId) (l : GriugPort) (f : LinkFrame)
  /-- GRIUG_REPLAY_TIMEOUT (R449): No acknowledgement in 10 µs: packets replay, or the link retrains after 4 replays. -/
  | griugReplayTimeout (u : UnitId) (l : GriugPort)
  /-- GRIUG_LINK_DOWN (R453): One link of a hop goes down: traffic moves to the other link and HOP_SINGLE is set. -/
  | griugLinkDown (u : UnitId) (l : GriugPort)
  /-- GRIUG_HOLD_EXPIRY (R462): Both links of the hop at a downstream port of a module have stayed down for GRIUG_HOLD. -/
  | griugHoldExpiry (m : Nat) (port : Fin 2)
  /-- GRIUG_DROP_EXPIRY (R462): The subtree below a downstream port of a module has stayed unreachable for GRIUG_DROP. -/
  | griugDropExpiry (m : Nat) (port : Fin 2)
  /-- ISOLATION_TIMEOUT (R454): 100 ms after Fiddlehead with no upstream link and ROOT low, the module becomes isolated. -/
  | isolationTimeout
  /-- ENUM_QUERY (R455): A module answers the root with the state of its downstream ports. -/
  | enumQuery (tag : Nat)
  /-- ENUM_STATE (R455): The downstream ports of a module, at the root. -/
  | enumState (m : Nat) (p0 p1 : PartnerSeen)
  /-- ENUM_ASSIGN (R455): For the partner of a downstream port, or for this module. -/
  | enumAssign (port : Option (Fin 2)) (number depth : Nat)
  /-- ENUM_LEVEL_WAIT (R455): The wait for a level ends, or its 100 ms run out, and the root assigns numbers to the next level. -/
  | enumLevelWait
  /-- CMD (R459): A forwarded command arrives at module m and enters its table. -/
  | cmd (tag : Nat) (c : KvSub)
  /-- DATA_REQ (R459): The root fetches the requested host data and returns it. -/
  | dataReq (m tag off len : Nat)
  /-- DATA (R459): Command data arrives at its receiver. -/
  | data (m tag off : Nat) (data : List Byte)
  /-- CPL (R459): The root posts the completion of a forwarded command. -/
  | cpl (m tag sct sc : Nat) (dnr : Bool) (crd dw0 : Nat)
  /-- EVENT (R460): The root raises a module's asynchronous event on its controllers. -/
  | event (m ty info log : Nat)
  /-- DICT (R451): An in-band dictionary request or response crosses the tree. -/
  | dict (src tag : Nat) (b : PktBody)
  /-- STANDBY_READY (R469): Whether the mirror-protocol ranges of the two images overlap. -/
  | standbyReady (overlap : Bool)
  /-- MIRROR_MESSAGE (R471): A message applied on the standby, with the wait for its acknowledgement in ns and the replays that it took. -/
  | mirrorMessage (lag replays : Nat)
  /-- MIRROR_LINK_DOWN (R470): The link goes down, or a lane fails and it goes on at half width. -/
  | mirrorLinkDown (half : Bool)
  /-- MIRROR_RETRAIN (R470): The training ends at full width or at half, or fails. -/
  | mirrorRetrain (up : Option Bool)
  /-- CHECK_TRIP (R475): A self-diagnosis check of the active unit trips and releases TOKEN by its class. -/
  | checkTrip (c : ReleaseCause)
  /-- ISLAND_TRIP (R474): The island of a unit finds a ring that has not toggled for so many microseconds. -/
  | islandTrip (u : UnitId) (quiet : Nat)
  /-- STANDBY_CHECK_TRIP (R620): A standby check trips: the standby stops being ready, reports it and is held in reset. -/
  | standbyCheckTrip (c : ReleaseCause)
  /-- RELEASE (R477): The standby receives RELEASE and begins claiming ports from its shadow. -/
  | release
  /-- TAKEOVER_COMPLETE (R479): Fetching resumes and the module returns to the mode it left, with cause 0Bh. -/
  | takeoverComplete
  /-- REJOIN_RESET_RELEASE (R480): 10 ms after release the island frees the unit, which starts its rejoin. -/
  | rejoinResetRelease (u : UnitId)
  /-- PLANNED_SWITCHOVER (R486): PAIR_COMMAND 01h starts a planned switchover through Drain, or directly in Maintenance. -/
  | plannedSwitchover (q : Requester) (u : UnitId)
  /-- REJOIN_ATTEMPT (R482): PAIR_COMMAND 02h starts one rejoin attempt. -/
  | rejoinAttempt (q : Requester) (u : UnitId)
  /-- WARM_RESTART (R484): A unit reloads firmware, microcode and core state while links stay up. -/
  | warmRestart (u : UnitId)
  /-- ACTIVATION_STEP_ADVANCE (R483): A rolling-activation step completes and the next step starts. -/
  | activationStepAdvance
  /-- STATUS_CLEAR (R526): A write of ones to a status object by a requester, at an answering unit. -/
  | statusClear (q : Requester) (u : UnitId) (index : Nat) (sub : Nat) (ones : BitVec 16)
  /-- EMERGENCY (R578): A transmit opportunity of the unit holding TOKEN meets the queue of emergency messages. -/
  | emergency
  /-- EVENT_PAGE_PROGRAM (R533): A page of the recorder of a unit falls due or can be programmed, with the bit errors its read-back shows. -/
  | eventPageProgram (u : UnitId) (errs : Nat)
  /-- ER_RECORD_READ (R534): A read of ER_RECORD returns the selected record and moves ER_READ_SEQ by its result. -/
  | erRecordRead (q : Requester) (u : UnitId)
  /-- ER_CHALLENGE_READ (R536): Returns a fresh 16-byte challenge to the requester. -/
  | erChallengeRead (q : Requester) (u : UnitId)
  /-- ER_CLEAR_RESPONSE_WRITE (R537): Checks the HMAC response and clears both rings, or refuses the clear and records it. -/
  | erClearResponseWrite (q : Requester) (u : UnitId) (data : List Byte)
  /-- READ_PAGE (R546): A READ_PAGE of JF_ADDR by an interface, with the bit errors the page shows. -/
  | readPage (u : UnitId) (i : JfIface) (addr : BitVec 32) (errs : Nat)
  /-- PROGRAM_PAGE (R547): A PROGRAM_PAGE of 256 bytes at JF_ADDR. -/
  | programPage (u : UnitId) (i : JfIface) (addr : BitVec 32) (data : List Byte)
  /-- JF_PROGRAM_COMPLETE (R547): The program in progress ends, with the bit errors its read-back shows. -/
  | jfProgramComplete (u : UnitId) (errs : Nat)
  /-- ERASE_BLOCK (R548): An ERASE_BLOCK of JF_ADDR. -/
  | eraseBlock (u : UnitId) (i : JfIface) (addr : BitVec 32)
  /-- JF_ERASE_COMPLETE (R548): The erase pulses end, and the verify passes or fails. -/
  | jfEraseComplete (u : UnitId) (verified : Bool)
  /-- ERASE_SUSPEND (R549): Journal flash command 04h halts the active erase. -/
  | eraseSuspend (u : UnitId) (i : JfIface) (addr : BitVec 32)
  /-- ERASE_RESUME (R549): Journal flash command 05h continues the suspended erase. -/
  | eraseResume (u : UnitId) (i : JfIface) (addr : BitVec 32)
  /-- READ_STATUS (R543): Journal flash command 06h returns the status word for a block. -/
  | readStatus (u : UnitId) (i : JfIface) (addr : BitVec 32)
  /-- BLANK_CHECK (R543): Journal flash command 07h reports whether the page is blank. -/
  | blankCheck (u : UnitId) (i : JfIface) (addr : BitVec 32)
  /-- READ_STATE_ROW (R543): Journal flash command 08h returns the chosen state-row copy. -/
  | readStateRow (u : UnitId) (i : JfIface) (addr : BitVec 32)
  /-- RETIRE_BLOCK (R553): Journal flash command 09h retires the physical block and maps the lowest spare. -/
  | retireBlock (u : UnitId) (i : JfIface) (addr : BitVec 32)
  /-- MOVE_MAP (R554): Journal flash command 0Ah moves a physical block's mapping between logical blocks. -/
  | moveMap (u : UnitId) (i : JfIface) (addr : BitVec 32) (src : BitVec 16)
  /-- REGISTER_WRITE (R561): A write of one object by a requester, at an answering unit. -/
  | registerWrite (q : Requester) (u : UnitId) (index : Nat) (sub : Nat) (data : List Byte)
  /-- EXPEDITED_READ (R574): A one-frame KDAP read answered with the value, or an abort. -/
  | expeditedRead (u : UnitId) (f : KdapFrame)
  /-- EXPEDITED_WRITE (R574): A one-frame KDAP write answered with 82h, or an abort. -/
  | expeditedWrite (u : UnitId) (f : KdapFrame)
  /-- SEGMENTED_READ_INITIATE (R575): Opens a segmented read and agrees its length. -/
  | segmentedReadInitiate (u : UnitId) (f : KdapFrame)
  /-- SEGMENTED_WRITE_INITIATE (R575): Opens a segmented write and agrees its length. -/
  | segmentedWriteInitiate (u : UnitId) (f : KdapFrame)
  /-- SEGMENT (R575): A data segment is taken in order, or discarded; the last applies the write. -/
  | segment (u : UnitId) (f : KdapFrame)
  /-- SEGMENT_ACKNOWLEDGE (R575): Acknowledges segments in order and frees the send window. -/
  | segmentAcknowledge (u : UnitId) (f : KdapFrame)
  /-- KDAP_ABORT (R576): Ends a transfer at once. -/
  | kdapAbort (u : UnitId) (f : KdapFrame)
  /-- KDAP_RETRANSMIT_TIMEOUT (R575): After 50 ms without acknowledgement the sender resends. -/
  | kdapRetransmitTimeout (u : UnitId) (src : Nat) (transId : Nat)
  /-- KDAP_TRANSFER_TIMEOUT (R576): After three unacknowledged sends or 500 ms idle the transfer ends with 0Ch. -/
  | kdapTransferTimeout (u : UnitId) (src : Nat) (transId : Nat)
  /-- DISCOVERY_ANSWER (R577): A broadcast identity read is answered after node ID × 1 ms. -/
  | discoveryAnswer (u : UnitId) (f : KdapFrame)
  /-- HEARTBEAT (R579): Every HB_PERIOD ms a unit sends its heartbeat. -/
  | heartbeat (u : UnitId)
  /-- HEARTBEAT_RECEIVED (R570): A heartbeat carrying this unit's node ID is counted as a PLCA conflict. -/
  | heartbeatReceived (u : UnitId) (src : Nat) (nodeId : Nat)
  /-- TIME_SYNC (R580): A time sync frame at a unit, and the ns of its local time within the µs. -/
  | timeSync (u : UnitId) (f : KdapFrame) (frac : Nat)
  /-- TIME_FOLLOW_UP (R580): TIME_OFFSET is formed from the master time. -/
  | timeFollowUp (u : UnitId) (f : KdapFrame)
  /-- TIME_HOLD_EXPIRY (R580): 10 s without a new pair: TIME_STATE becomes held. -/
  | timeHoldExpiry (u : UnitId)
  /-- AUTH_CHALLENGE_READ (R583): Returns a fresh challenge, or 0Ah when locked out. -/
  | authChallengeRead (q : Requester) (u : UnitId)
  /-- AUTH_RESPONSE_WRITE (R583): Opens a session on a matching HMAC, counts a wrong response, or refuses with 09h. -/
  | authResponseWrite (q : Requester) (u : UnitId) (data : List Byte)
  /-- AUTH_CLOSE (R569): 01h closes the requester's session. -/
  | authClose (q : Requester) (u : UnitId) (v : BitVec 8)
  /-- AUTH_WINDOW_EXPIRY (R583): A session closes after AUTH_WINDOW seconds. -/
  | authWindowExpiry (q : Requester) (u : UnitId)
  /-- AUTH_LOCKOUT_EXPIRY (R584): The 60 s lockout of a requester ends. -/
  | authLockoutExpiry (q : Requester) (u : UnitId)
  /-- SETTINGS_SAVE (R565): Staged persistent changes are programmed into the settings area. -/
  | settingsSave (u : UnitId)
  /-- TIMESTAMP_SAVE (R566): Every 10 s the timestamp count is saved. -/
  | timestampSave (u : UnitId)
  /-- KDAP_ETHERTYPE_WRITE (R569): Sets the KDAP EtherType after the answer, refusing reserved values. -/
  | kdapEthertypeWrite (q : Requester) (u : UnitId) (v : BitVec 16)
  /-- RESTORE_DEFAULTS (R569): A write of 5Ah in Maintenance with authorisation restores persistent objects to defaults. -/
  | restoreDefaults (q : Requester) (u : UnitId) (v : BitVec 8)
  /-- MONDIS_BLOW (R591): A write of MONDIS_BLOW, and whether each fuse array verifies. -/
  | mondisBlow (q : Requester) (u : UnitId) (v : BitVec 8) (okA : Bool) (okB : Bool)
  /-- FW_MIN_SVN_WRITE (R590): A write of FW_MIN_SVN, and whether each fuse array verifies. -/
  | fwMinSvnWrite (q : Requester) (u : UnitId) (v : BitVec 32) (okA : Bool) (okB : Bool)
  /-- MGMT_KEY_WRITE (R590): A write of MGMT_KEY, and whether each fuse array verifies. -/
  | mgmtKeyWrite (q : Requester) (u : UnitId) (data : List Byte) (okA : Bool) (okB : Bool)
  /-- ER_KEY_WRITE (R590): A write of ER_KEY, and whether each fuse array verifies. -/
  | erKeyWrite (q : Requester) (u : UnitId) (data : List Byte) (okA : Bool) (okB : Bool)
  /-- RAW_COMMAND (R592): 01h starts a raw read or write of the window's target in Maintenance. -/
  | rawCommand (q : Requester) (u : UnitId) (p : PortId) (a : ActId) (v : BitVec 8)
  /-- RAW_OPERATION_COMPLETE (R592): The raw operation of a window ends. -/
  | rawOperationComplete (p : PortId) (a : ActId)
  /-- BUF_WIN_DATA_ACCESS (R592): Reads or writes 64 KiB of buffer at BUF_WIN_ADDR. -/
  | bufWinDataAccess (q : Requester) (u : UnitId) (write : Option (List Byte))
  /-- MON_LINE (R585): A command line ends: its characters without the CR or LF, and how many of them the UART has dropped. -/
  | monLine (text : List Byte) (dropped : Nat)
  /-- MON_HELP (R586): Lists the commands. -/
  | monHelp
  /-- MON_ID (R586): Prints identity, mode and active unit. -/
  | monId (m : MonUnit)
  /-- MON_PEEK (R586): Prints an object's value. -/
  | monPeek (m : MonUnit) (index : Nat) (sub : Nat)
  /-- MON_POKE (R586): Writes an object's value. -/
  | monPoke (m : MonUnit) (index : Nat) (sub : Nat) (data : List Byte)
  /-- MON_DUMP (R586): Hex-dumps up to 64 KiB of an object. -/
  | monDump (m : MonUnit) (index : Nat) (sub : Nat) (off : Nat) (len : Option Nat)
  /-- MON_MODE (R586): Prints the mode or writes 1101h.00. -/
  | monMode (code : Option (BitVec 8))
  /-- MON_EV (R586): Decodes the newest n records. -/
  | monEv (m : MonUnit) (n : Nat)
  /-- MON_EV_FROM (R586): Decodes records from a number. -/
  | monEvFrom (m : MonUnit) (n : Nat)
  /-- MON_EV_TAIL (R586): Follows new records until a character arrives. -/
  | monEvTail (m : MonUnit)
  /-- MON_TRACE (R586): Traces a status object. -/
  | monTrace (m : MonUnit) (index : Nat) (sub : Nat)
  /-- MON_TRACE_OFF (R586): Stops tracing. -/
  | monTraceOff
  /-- MON_JF_STATUS (R586): Runs READ_STATUS of a journal flash block. -/
  | monJfStatus (m : MonUnit) (block : Nat)
  /-- MON_JF_READ (R586): Runs READ_PAGE of a journal flash page. -/
  | monJfRead (m : MonUnit) (block : Nat) (page : Nat) (errs : Nat)
  /-- MON_JF_COUNTERS (R586): Prints the journal flash counters. -/
  | monJfCounters (m : MonUnit)
  /-- MON_SEQ_HALT (R586): Halts a sequencer of a raw plan at its word boundary. -/
  | monSeqHalt (m : MonUnit) (k : Nat)
  /-- MON_SEQ_STEP (R586): Executes n words of a halted sequencer. -/
  | monSeqStep (m : MonUnit) (k : Nat) (n : Nat)
  /-- MON_SEQ_RUN (R586): Lets a halted sequencer continue. -/
  | monSeqRun (m : MonUnit) (k : Nat)
  /-- MON_SEQ_REGS (R586): Prints G0–G31 and SEQ_PC. -/
  | monSeqRegs (m : MonUnit) (k : Nat)
  /-- MON_AUTH (R586): Prints a fresh challenge. -/
  | monAuth (m : MonUnit)
  /-- MON_AUTH_RESPONSE (R586): Writes a response to open a monitor session. -/
  | monAuthResponse (m : MonUnit) (data : List Byte)
  /-- MON_BAUD (R587): Sets a new monitor rate after the OK line. -/
  | monBaud (rate : Nat)
  /-- BAUD_REVERT (R587): No character arrives at the new rate within 10 s: the monitor returns to 115 200 bit/s. -/
  | baudRevert
  /-- HOST_PORT_TRAINED (R454): The link of a unit's port has trained, or has gone down. -/
  | hostPortTrained (u : UnitId) (up : Bool)
  /-- PLCA_BEACON (R570): A PLCA beacon is received or stops arriving, and the PHY passes between PLCA and CSMA/CD fallback, changing PLCA_STATUS. -/
  | plcaBeacon (u : UnitId) (received : Bool)
  /-- REJOIN_SETTLE_EXPIRY (R478): REJOIN_SETTLE seconds after the standby became ready the rejoin situation ends, and the active unit sends HOLD 00b in place of 01b. -/
  | rejoinSettleExpiry
  /-- AUTH_CHALLENGE_EXPIRY (R583): An authorisation challenge that has been held 60 s becomes invalid. -/
  | authChallengeExpiry (q : Requester) (u : UnitId)
  /-- ER_CHALLENGE_EXPIRY (R536): An event-recorder clearing challenge that has been held 60 s becomes invalid. -/
  | erChallengeExpiry (q : Requester) (u : UnitId)
  deriving DecidableEq, Repr

end Sys2Proof
end

