-- ==== Sys2Proof/Decode.lean ====
section
/-! DEFINITION. Commands spelt by words. No row of the table of operations gives bits, so no word spells a command. -/

namespace Sys2Proof

/-- The command that a word of a row's bits spells: none, for every row of the table has an empty list of fields. -/
def decodeTableWord (_nbits _w : Nat) : Option Instr := none

end Sys2Proof
end

