-- ==== Sys2Proof/Config.lean ====
section
/-! DEFINITION. What the spec leaves open or fixes only at manufacture: constants without a body, so that a statement
about the module holds for every value of them. A free value takes the model's counter of free values as its argument,
so that each use has a value of its own. -/

namespace Sys2Proof

/-- Fresh random bytes of a challenge (R536, R583), by the counter of free values. -/
opaque Config.challenge : Nat → BitVec 128

/-- Bytes whose content the spec does not give, by the counter of free values and their place. -/
opaque Config.freeByte : Nat → Nat → BitVec 8

/-- The text of a firmware record (R531): the spec gives no text. -/
opaque Config.recordText : Nat → List Byte

/-- The TYPE of a firmware record within 8000h-FFFEh (R531): the spec names no value. -/
opaque Config.recordType : Nat → Fin 0x7FFF

/-- Whether an exact half rounds up where the spec says only "rounded" (conventions of the scope chapter). -/
opaque Config.halfUp : Nat → Bool

/-- Whether a quotient that is not whole is rounded up, where the spec gives no rounding. -/
opaque Config.roundUp : Int → Nat → Bool

/-- Fused or manufactured identity (R569, R589). -/
opaque Config.moduleSerial : List Byte
opaque Config.orderingFused : Bool
opaque Config.macHalf : Nat
opaque Config.fwKeyHash : List Byte
opaque Config.paceRequired : Nat → Nat
opaque Config.sensorCal : Nat → Int

/-- The fused minimum security version at manufacture, 0-63 (R589). -/
opaque Config.minSvn : Fin 64

/-- The body a compressor's DEFLATE pass makes of an input (R415, R416): RFC 1951 fixes no one body. -/
opaque Config.deflate : List Byte → List Byte

/-- The model number and the NVM subsystem name the controllers report (R333, R337), and the revision text of a firmware image: the spec
gives no text. -/
opaque Config.modelNumber : List Byte
opaque Config.subsystemName : List Byte
opaque Config.revision : List Byte → List Byte

/-- The two microcode images built into a signed firmware image, and the microcode key (X and Y) it carries (R175): the spec gives
the layout of the images and no place of either in the firmware. -/
opaque Config.builtInImages : List Byte → List Byte
opaque Config.mcKey : List Byte → List Byte

/-- What the buffer's decoder makes of an error pattern of five or more bytes that looks correctable (R366): the bytes it
changes, by position, if it miscorrects. -/
opaque Config.miscorrection : List (Nat × BitVec 8) → Option (List (Nat × BitVec 8))

/-- Sectors that a checkpoint's changed nodes and records fill, less one (R309). -/
opaque Config.indexSectors : Nat → Fin 60

/-- Bytes of a journal record, less one, from the length of its key and the soruses that it names (R307, R503): the spec gives
records no size. -/
opaque Config.recordSize : Nat → Nat → Fin 65536

/-- Whether a page of a block whose erase has not completed reads as blank, by the counter of free values (R549, R551). -/
opaque Config.halfErased : Nat → Bool

/-- The firmware images put into a unit's slots at manufacture (R430), by slot. -/
opaque Config.factoryImage : Nat → List Byte

/-- The sensor of a unit that the controllers' temperature threshold applies to (R339, R354): the spec names none. -/
opaque Config.compositeSensor : Fin 29

/-- A quantity of the outside world that the part measures and reports (supply voltages, input power, the offset of the other
unit's reference), by object key and time: the spec gives no value. -/
opaque Config.measured : Nat → Nat → BitVec 32

/-- Whether a fuse array verifies after a fuse write that reaches it as a plain register write, by the counter of free values. -/
opaque Config.fuseVerifies : Nat → Bool

/-- The bit errors a page of the journal flash shows to a READ_PAGE issued through JF_CMD, by the counter of free values. -/
opaque Config.pageErrors : Nat → Nat

/-- The coefficients of the phase interpolator, by phase and tap, and what they are divided by (R86): fixed in the part, not given. -/
opaque Config.interpTap : Nat → Nat → Int
opaque Config.interpScale : Nat

/-- How far an error of the timing loop shifts its phase: an err of 1 by 2^-(6 + loopScale) bit before the shifts KP and KI (R87). -/
opaque Config.loopScale : Nat

/-- The ratio M / N at which a PN2 samples before the part has sent it one (R85, R193). -/
opaque Config.startRatio : Nat × Nat

/-- The phase of four equal bursts (R198), by the counter of free values: the arctangent of 0 and 0 is given nowhere. -/
opaque Config.noPhase : Nat → Int

/-- DUTY of a pulsed brake from BRAKE_IMAX and the phase current in mA and the DUTY before (R263): the rule by which the part keeps the
current at or below BRAKE_IMAX. -/
opaque Config.brakeDuty : Nat → Nat → Nat → BitVec 12

end Sys2Proof
end

