-- ==== Sys2Proof/Machine/Objects.lean ====
section
/-! DEFINITION. The object dictionary as data (R559-R562, R568): the key of every object, its type, access code,
default, range and persistence, as the object tables of the chapters give them, and the scope and the
"served in Fiddlehead" column of the complete index. -/

namespace Sys2Proof.Machine

/-- Value types of R560. `uint n` and `sint n` give the size in bytes; `domain lo hi` the permitted lengths. -/
inductive ObjType where
  | uint (n : Nat)
  | sint (n : Nat)
  | bool
  | enum
  | str
  | domain (lo hi : Nat)
  deriving DecidableEq, Repr

/-- Access codes of the object tables (conventions of the scope chapter). -/
inductive ObjAccess where
  | ro | rw | wo | rwq | rwa
  deriving DecidableEq, Repr

/-- One row of an object table: canonical index, first and last subindex, type, access, default, range
(`zero`: the value 0 is also in range), and whether the value is persistent. -/
structure ObjRow where
  idx : Nat
  sub : Nat
  last : Nat
  ty : ObjType
  acc : ObjAccess
  dflt : Nat
  lo : Int
  hi : Int
  zero : Bool
  pers : Bool
  deriving DecidableEq, Repr

/-- The unit part of the key of a unit-scope object: unit A 1, unit B 2, at bit 24; module scope has 0 there. -/
def unitBase : UnitId → Nat
  | .A => 0x1000000
  | .B => 0x2000000

/-! Keys of the objects: the index in bits 23-8 and the subindex in bits 7-0. -/

/-- 1100h.00 (R39). -/
def Obj.CURRENT_MODE : Nat := 0x110000
/-- 1100h.01 (R39). -/
def Obj.PREVIOUS_MODE : Nat := 0x110001
/-- 1100h.02 (R39). -/
def Obj.MODE_CAUSE : Nat := 0x110002
/-- 1100h.03 (R39). -/
def Obj.MODE_ENTRY_TIME : Nat := 0x110003
/-- 1100h.04 (R39). -/
def Obj.REDUCED_SERVICE : Nat := 0x110004
/-- 1100h.05 (R39). -/
def Obj.DRAIN_PURPOSE : Nat := 0x110005
/-- 1100h.06 (R39). -/
def Obj.MODE_CHANGES : Nat := 0x110006
/-- 1101h.00 (R39). -/
def Obj.REQUESTED_MODE : Nat := 0x110100
/-- 3000h.00 (R79). -/
def Obj.PORT_STATE (p : Nat) : Nat := 0x300000 + p * 0x10000
/-- 3000h.01 (R79). -/
def Obj.PORT_COMMAND (p : Nat) : Nat := 0x300001 + p * 0x10000
/-- 3000h.02 (R79). -/
def Obj.PORT_CAUSE (p : Nat) : Nat := 0x300002 + p * 0x10000
/-- 3000h.03 (R79). -/
def Obj.STATE_ENTRY_TIME (p : Nat) : Nat := 0x300003 + p * 0x10000
/-- 3000h.04 (R79). -/
def Obj.AUTO_POWER (p : Nat) : Nat := 0x300004 + p * 0x10000
/-- 3000h.05 (R79). -/
def Obj.FAIL_COUNT (p : Nat) : Nat := 0x300005 + p * 0x10000
/-- 3000h.06 (R79). -/
def Obj.PERSIST_STATE (p : Nat) : Nat := 0x300006 + p * 0x10000
/-- 3001h.00 (R79). -/
def Obj.HDA_SERIAL (p : Nat) : Nat := 0x300100 + p * 0x10000
/-- 3001h.01 (R79). -/
def Obj.PN2_STEPPING (p : Nat) : Nat := 0x300101 + p * 0x10000
/-- 3001h.02 (R79). -/
def Obj.ACTUATOR_COUNT (p : Nat) : Nat := 0x300102 + p * 0x10000
/-- 3001h.03 (R79). -/
def Obj.HEADS_PER_ACTUATOR (p : Nat) : Nat := 0x300103 + p * 0x10000
/-- 3001h.04 (R79). -/
def Obj.FS_MAX (p : Nat) : Nat := 0x300104 + p * 0x10000
/-- 3010h.00 (R79). -/
def Obj.LANES_IN_SERVICE (u : UnitId) (p : Nat) : Nat := 0x301000 + p * 0x10000 + unitBase u
/-- 3010h.01 (R79). -/
def Obj.READER_LINE_RATE (p : Nat) : Nat := 0x301001 + p * 0x10000
/-- 3010h.02 (R79). -/
def Obj.DESKEW_MAX (p : Nat) : Nat := 0x301002 + p * 0x10000
/-- 3010h.03 (R79). -/
def Obj.RETRAIN_COUNT (p : Nat) : Nat := 0x301003 + p * 0x10000
/-- 3010h.04 (R79). -/
def Obj.LANE_ERR_LIMIT (p : Nat) : Nat := 0x301004 + p * 0x10000
/-- 3010h.05 (R79). -/
def Obj.CT_CYCLES_PER_REV (p : Nat) : Nat := 0x301005 + p * 0x10000
/-- 3010h.06 (R79). -/
def Obj.CT_STATE (p : Nat) : Nat := 0x301006 + p * 0x10000
/-- 3011h.00 (R79). -/
def Obj.LANE_BLOCK_ERRORS (u : UnitId) (p : Nat) (i : Nat) : Nat := 0x301100 + p * 0x10000 + i + unitBase u
/-- 3070h.00 (R79). -/
def Obj.SPIN_POLICY (p : Nat) : Nat := 0x307000 + p * 0x10000
/-- 3070h.01 (R79). -/
def Obj.SPIN_DRIVEN (p : Nat) : Nat := 0x307001 + p * 0x10000
/-- 3070h.02 (R79). -/
def Obj.SPIN_READBACK (p : Nat) : Nat := 0x307002 + p * 0x10000
/-- 3070h.03 (R79). -/
def Obj.LINE_LEVELS (u : UnitId) (p : Nat) : Nat := 0x307003 + p * 0x10000 + unitBase u
/-- 3070h.04 (R79). -/
def Obj.PEER_LINE_LEVELS (p : Nat) : Nat := 0x307004 + p * 0x10000
/-- 3070h.05 (R79). -/
def Obj.CHATTER_COUNT (u : UnitId) (p : Nat) : Nat := 0x307005 + p * 0x10000 + unitBase u
/-- 3070h.06 (R79). -/
def Obj.FLT_ASSERT_TIME (p : Nat) : Nat := 0x307006 + p * 0x10000
/-- 3070h.07 (R79). -/
def Obj.FLT_CODE (p : Nat) : Nat := 0x307007 + p * 0x10000
/-- 3050h.00 (R120). -/
def Obj.CH_STATUS (p a : Nat) : Nat := 0x305000 + p * 0x10000 + a * 0x800
/-- 3050h.01 (R120). -/
def Obj.CH_INT_EN (p a : Nat) : Nat := 0x305001 + p * 0x10000 + a * 0x800
/-- 3050h.02 (R120). -/
def Obj.ADAPT_MODE (p a : Nat) : Nat := 0x305002 + p * 0x10000 + a * 0x800
/-- 3050h.03 (R120). -/
def Obj.READER_MODE (p a : Nat) : Nat := 0x305003 + p * 0x10000 + a * 0x800
/-- 3050h.04 (R120). -/
def Obj.ACTIVE_SET (p a : Nat) : Nat := 0x305004 + p * 0x10000 + a * 0x800
/-- 3051h.00 (R120). -/
def Obj.LINE_ITER_MAX (p a : Nat) : Nat := 0x305100 + p * 0x10000 + a * 0x800
/-- 3051h.01 (R120). -/
def Obj.RETRY_ITER_MAX (p a : Nat) : Nat := 0x305101 + p * 0x10000 + a * 0x800
/-- 3051h.02 (R120). -/
def Obj.LOCAL_ITER (p a : Nat) : Nat := 0x305102 + p * 0x10000 + a * 0x800
/-- 3051h.03 (R120). -/
def Obj.LADDER_ENABLE (p a : Nat) : Nat := 0x305103 + p * 0x10000 + a * 0x800
/-- 3051h.04 (R120). -/
def Obj.SYNCLESS_SPAN (p a : Nat) : Nat := 0x305104 + p * 0x10000 + a * 0x800
/-- 3051h.05 (R120). -/
def Obj.DIVERGE_LIMIT (p a : Nat) : Nat := 0x305105 + p * 0x10000 + a * 0x800
/-- 3051h.06 (R120). -/
def Obj.HOLD_ENABLE (p a : Nat) : Nat := 0x305106 + p * 0x10000 + a * 0x800
/-- 3052h.00 (R120). -/
def Obj.PARAM_TABLE (p a : Nat) : Nat := 0x305200 + p * 0x10000 + a * 0x800
/-- 3053h.00 (R120). -/
def Obj.SECTORS_READ (p a : Nat) : Nat := 0x305300 + p * 0x10000 + a * 0x800
/-- 3053h.01 (R120). -/
def Obj.LINE_FAILURES (p a : Nat) : Nat := 0x305301 + p * 0x10000 + a * 0x800
/-- 3053h.02 (R120). -/
def Obj.CRC_FAILURES (p a : Nat) : Nat := 0x305302 + p * 0x10000 + a * 0x800
/-- 3053h.03 (R120). -/
def Obj.OFFSET_DECODES (p a : Nat) : Nat := 0x305303 + p * 0x10000 + a * 0x800
/-- 3053h.04 (R120). -/
def Obj.STEP_SUCCESS (p a : Nat) (i : Nat) : Nat := 0x305304 + p * 0x10000 + a * 0x800 + i
/-- 3053h.0B (R120). -/
def Obj.TIMING_SLIPS (p a : Nat) : Nat := 0x30530B + p * 0x10000 + a * 0x800
/-- 3053h.0C (R120). -/
def Obj.ADAPT_DIVERGENCES (p a : Nat) : Nat := 0x30530C + p * 0x10000 + a * 0x800
/-- 3054h.00 (R120). -/
def Obj.LAST_RESULT (p a : Nat) : Nat := 0x305400 + p * 0x10000 + a * 0x800
/-- 3054h.01 (R120). -/
def Obj.LAST_FAILED_RESULT (p a : Nat) : Nat := 0x305401 + p * 0x10000 + a * 0x800
/-- 3054h.02 (R120). -/
def Obj.CH_HOLD_STATE (p a : Nat) : Nat := 0x305402 + p * 0x10000 + a * 0x800
/-- 3055h.00 (R154). -/
def Obj.SYNC_PATTERN (p a : Nat) : Nat := 0x305500 + p * 0x10000 + a * 0x800
/-- 3055h.01 (R154). -/
def Obj.SYNC_MAX_ERRORS (p a : Nat) : Nat := 0x305501 + p * 0x10000 + a * 0x800
/-- 3055h.02 (R154). -/
def Obj.RESYNC_PATTERN (p a : Nat) : Nat := 0x305502 + p * 0x10000 + a * 0x800
/-- 3055h.03 (R154). -/
def Obj.RESYNC_MAX_ERRORS (p a : Nat) : Nat := 0x305503 + p * 0x10000 + a * 0x800
/-- 3055h.04 (R154). -/
def Obj.SEARCH_SCREEN_LIMIT (p a : Nat) : Nat := 0x305504 + p * 0x10000 + a * 0x800
/-- 3055h.05 (R154). -/
def Obj.SYNC_REJECTS (p a : Nat) : Nat := 0x305505 + p * 0x10000 + a * 0x800
/-- 3055h.06 (R154). -/
def Obj.SYNC_MISSES (p a : Nat) : Nat := 0x305506 + p * 0x10000 + a * 0x800
/-- 3055h.07 (R154). -/
def Obj.RESYNC_MISSES (p a : Nat) : Nat := 0x305507 + p * 0x10000 + a * 0x800
/-- 3056h.00 (R154). -/
def Obj.RAW_ITER_LIMIT (p a : Nat) : Nat := 0x305600 + p * 0x10000 + a * 0x800
/-- 3056h.01 (R154). -/
def Obj.RAW_SYND_LIMIT (p a : Nat) : Nat := 0x305601 + p * 0x10000 + a * 0x800
/-- 3056h.02 (R154). -/
def Obj.MAX_REWRITES (p a : Nat) : Nat := 0x305602 + p * 0x10000 + a * 0x800
/-- 3056h.03 (R154). -/
def Obj.RAW_HEAD_LIMIT (p a : Nat) : Nat := 0x305603 + p * 0x10000 + a * 0x800
/-- 3056h.04 (R154). -/
def Obj.RAW_CHECKED (p a : Nat) : Nat := 0x305604 + p * 0x10000 + a * 0x800
/-- 3056h.05 (R154). -/
def Obj.RAW_FAILS (p a : Nat) : Nat := 0x305605 + p * 0x10000 + a * 0x800
/-- 3056h.06 (R154). -/
def Obj.REWRITES (p a : Nat) : Nat := 0x305606 + p * 0x10000 + a * 0x800
/-- 3056h.07 (R154). -/
def Obj.FRAGMENTS_ABANDONED (p a : Nat) : Nat := 0x305607 + p * 0x10000 + a * 0x800
/-- 3056h.08 (R154). -/
def Obj.WRITE_INTERRUPTS (p a : Nat) : Nat := 0x305608 + p * 0x10000 + a * 0x800
/-- 3057h.00 (R154). -/
def Obj.ZONE_TABLE (p a : Nat) : Nat := 0x305700 + p * 0x10000 + a * 0x800
/-- 3057h.01 (R154). -/
def Obj.PRECOMP_TABLE (p a : Nat) : Nat := 0x305701 + p * 0x10000 + a * 0x800
/-- 3057h.02 (R154). -/
def Obj.WRITE_PRESETS (p a : Nat) : Nat := 0x305702 + p * 0x10000 + a * 0x800
/-- 3057h.03 (R154). -/
def Obj.WR_STATUS (p a : Nat) : Nat := 0x305703 + p * 0x10000 + a * 0x800
/-- 3057h.04 (R154). -/
def Obj.WR_INT_EN (p a : Nat) : Nat := 0x305704 + p * 0x10000 + a * 0x800
/-- 3057h.05 (R154). -/
def Obj.CT_INDEX_PHASE (p a : Nat) : Nat := 0x305705 + p * 0x10000 + a * 0x800
/-- 4500h.00 (R189). -/
def Obj.MC_MEDIA_VERSION (u : UnitId) : Nat := 0x450000 + unitBase u
/-- 4500h.01 (R189). -/
def Obj.MC_XFER_VERSION (u : UnitId) : Nat := 0x450001 + unitBase u
/-- 4500h.02 (R189). -/
def Obj.MC_SOURCE (u : UnitId) : Nat := 0x450002 + unitBase u
/-- 4500h.03 (R189). -/
def Obj.MC_COMMAND : Nat := 0x450003
/-- 4500h.04 (R189). -/
def Obj.MC_RESULT (u : UnitId) : Nat := 0x450004 + unitBase u
/-- 4500h.05 (R189). -/
def Obj.SEQ_WATCHDOG : Nat := 0x450005
/-- 4501h.00 (R189). -/
def Obj.MC_STAGE : Nat := 0x450100
/-- 4502h.01 (R189). -/
def Obj.DELAY_BITS (i : Nat) : Nat := 0x450201 + i
/-- 4540h.00 (R189). -/
def Obj.SEQ_STATUS (k : Nat) : Nat := 0x454000 + k * 0x100
/-- 4540h.01 (R189). -/
def Obj.SEQ_INT_EN (k : Nat) : Nat := 0x454001 + k * 0x100
/-- 4540h.02 (R189). -/
def Obj.SEQ_PC (u : UnitId) (k : Nat) : Nat := 0x454002 + k * 0x100 + unitBase u
/-- 4540h.03 (R189). -/
def Obj.SEQ_STATE (u : UnitId) (k : Nat) : Nat := 0x454003 + k * 0x100 + unitBase u
/-- 4540h.04 (R189). -/
def Obj.DRAIN_FORCED_COUNT (u : UnitId) (k : Nat) : Nat := 0x454004 + k * 0x100 + unitBase u
/-- 4540h.05 (R189). -/
def Obj.CS_CORRECTED_COUNT (u : UnitId) (k : Nat) : Nat := 0x454005 + k * 0x100 + unitBase u
/-- 4540h.06 (R189). -/
def Obj.ABORT_CODE (u : UnitId) (k : Nat) : Nat := 0x454006 + k * 0x100 + unitBase u
/-- 4540h.07 (R189). -/
def Obj.EV_SLOT_MAP (k : Nat) : Nat := 0x454007 + k * 0x100
/-- 4540h.08 (R189). -/
def Obj.EV_OVERRUNS (u : UnitId) (k : Nat) : Nat := 0x454008 + k * 0x100 + unitBase u
/-- 4540h.09 (R189). -/
def Obj.STAGE_COUNT (u : UnitId) (k : Nat) : Nat := 0x454009 + k * 0x100 + unitBase u
/-- 4540h.0A (R189). -/
def Obj.PLAN_REJECTS (u : UnitId) (k : Nat) : Nat := 0x45400A + k * 0x100 + unitBase u
/-- 3030h.00 (R244). -/
def Obj.ACT_STATE (p a : Nat) : Nat := 0x303000 + p * 0x10000 + a * 0x1000
/-- 3030h.01 (R244). -/
def Obj.ACT_COMMAND (p a : Nat) : Nat := 0x303001 + p * 0x10000 + a * 0x1000
/-- 3030h.02 (R244). -/
def Obj.LOOP_STATE (p a : Nat) : Nat := 0x303002 + p * 0x10000 + a * 0x1000
/-- 3030h.03 (R244). -/
def Obj.HEAD_NOW (p a : Nat) : Nat := 0x303003 + p * 0x10000 + a * 0x1000
/-- 3030h.04 (R244). -/
def Obj.TRACK_NOW (p a : Nat) : Nat := 0x303004 + p * 0x10000 + a * 0x1000
/-- 3030h.05 (R244). -/
def Obj.PES_NOW (p a : Nat) : Nat := 0x303005 + p * 0x10000 + a * 0x1000
/-- 3030h.06 (R244). -/
def Obj.TARGET_TRACK (p a : Nat) : Nat := 0x303006 + p * 0x10000 + a * 0x1000
/-- 3030h.07 (R244). -/
def Obj.TARGET_HEAD (p a : Nat) : Nat := 0x303007 + p * 0x10000 + a * 0x1000
/-- 3030h.08 (R244). -/
def Obj.SRV_STATUS (p a : Nat) : Nat := 0x303008 + p * 0x10000 + a * 0x1000
/-- 3030h.09 (R244). -/
def Obj.SRV_INT_EN (p a : Nat) : Nat := 0x303009 + p * 0x10000 + a * 0x1000
/-- 3030h.0A (R244). -/
def Obj.SHADOW_VALID (p a : Nat) : Nat := 0x30300A + p * 0x10000 + a * 0x1000
/-- 3031h.00 (R244). -/
def Obj.OUTER_BANK0 (p a : Nat) : Nat := 0x303100 + p * 0x10000 + a * 0x1000
/-- 3031h.01 (R244). -/
def Obj.OUTER_BANK1 (p a : Nat) : Nat := 0x303101 + p * 0x10000 + a * 0x1000
/-- 3031h.02 (R244). -/
def Obj.INNER_BANK0 (p a : Nat) : Nat := 0x303102 + p * 0x10000 + a * 0x1000
/-- 3031h.03 (R244). -/
def Obj.INNER_BANK1 (p a : Nat) : Nat := 0x303103 + p * 0x10000 + a * 0x1000
/-- 3031h.04 (R244). -/
def Obj.OUTER_ACTIVE (p a : Nat) : Nat := 0x303104 + p * 0x10000 + a * 0x1000
/-- 3031h.05 (R244). -/
def Obj.INNER_ACTIVE (p a : Nat) : Nat := 0x303105 + p * 0x10000 + a * 0x1000
/-- 3031h.06 (R244). -/
def Obj.BANK_SWAP (p a : Nat) : Nat := 0x303106 + p * 0x10000 + a * 0x1000
/-- 3032h.00 (R244). -/
def Obj.VMAX (p a : Nat) : Nat := 0x303200 + p * 0x10000 + a * 0x1000
/-- 3032h.01 (R244). -/
def Obj.AMAX (p a : Nat) : Nat := 0x303201 + p * 0x10000 + a * 0x1000
/-- 3032h.02 (R244). -/
def Obj.FF_GAIN (p a : Nat) : Nat := 0x303202 + p * 0x10000 + a * 0x1000
/-- 3032h.03 (R244). -/
def Obj.STEP_MAX (p a : Nat) : Nat := 0x303203 + p * 0x10000 + a * 0x1000
/-- 3032h.04 (R244). -/
def Obj.SETTLE_LIMIT (p a : Nat) : Nat := 0x303204 + p * 0x10000 + a * 0x1000
/-- 3032h.05 (R244). -/
def Obj.SETTLE_COUNT (p a : Nat) : Nat := 0x303205 + p * 0x10000 + a * 0x1000
/-- 3032h.06 (R244). -/
def Obj.SEEK_TIMEOUT (p a : Nat) : Nat := 0x303206 + p * 0x10000 + a * 0x1000
/-- 3033h.00 (R244). -/
def Obj.WRITE_LIMIT (p a : Nat) : Nat := 0x303300 + p * 0x10000 + a * 0x1000
/-- 3033h.01 (R244). -/
def Obj.READ_LIMIT (p a : Nat) : Nat := 0x303301 + p * 0x10000 + a * 0x1000
/-- 3033h.02 (R244). -/
def Obj.WS_COUNT (p a : Nat) : Nat := 0x303302 + p * 0x10000 + a * 0x1000
/-- 3033h.03 (R244). -/
def Obj.MISS_LIMIT (p a : Nat) : Nat := 0x303303 + p * 0x10000 + a * 0x1000
/-- 3033h.04 (R244). -/
def Obj.ACQ_TIMEOUT (p a : Nat) : Nat := 0x303304 + p * 0x10000 + a * 0x1000
/-- 3033h.05 (R244). -/
def Obj.LOAD_TIMEOUT (p a : Nat) : Nat := 0x303305 + p * 0x10000 + a * 0x1000
/-- 3033h.06 (R244). -/
def Obj.LOAD_RETRIES (p a : Nat) : Nat := 0x303306 + p * 0x10000 + a * 0x1000
/-- 3033h.07 (R244). -/
def Obj.INNER_PHASE (p a : Nat) : Nat := 0x303307 + p * 0x10000 + a * 0x1000
/-- 3033h.08 (R244). -/
def Obj.HEATER_SETTLE (p a : Nat) : Nat := 0x303308 + p * 0x10000 + a * 0x1000
/-- 3034h.00 (R244). -/
def Obj.SAM_PATTERN (p a : Nat) : Nat := 0x303400 + p * 0x10000 + a * 0x1000
/-- 3034h.01 (R244). -/
def Obj.SAM_MAX_ERRORS (p a : Nat) : Nat := 0x303401 + p * 0x10000 + a * 0x1000
/-- 3034h.02 (R244). -/
def Obj.SAM_WINDOW (p a : Nat) : Nat := 0x303402 + p * 0x10000 + a * 0x1000
/-- 3034h.03 (R244). -/
def Obj.BURST_MIN (p a : Nat) : Nat := 0x303403 + p * 0x10000 + a * 0x1000
/-- 3034h.04 (R244). -/
def Obj.RRO_ENABLE (p a : Nat) : Nat := 0x303404 + p * 0x10000 + a * 0x1000
/-- 3034h.05 (R244). -/
def Obj.LIN_TABLE (p a : Nat) : Nat := 0x303405 + p * 0x10000 + a * 0x1000
/-- 3034h.06 (R244). -/
def Obj.HEATER_TABLE (p a : Nat) : Nat := 0x303406 + p * 0x10000 + a * 0x1000
/-- 3034h.07 (R244). -/
def Obj.LOAD_VEL (p a : Nat) : Nat := 0x303407 + p * 0x10000 + a * 0x1000
/-- 3034h.08 (R244). -/
def Obj.UNLOAD_VEL (p a : Nat) : Nat := 0x303408 + p * 0x10000 + a * 0x1000
/-- 3034h.09 (R244). -/
def Obj.LU_GAIN (p a : Nat) : Nat := 0x303409 + p * 0x10000 + a * 0x1000
/-- 3034h.0A (R244). -/
def Obj.LU_IMAX (p a : Nat) : Nat := 0x30340A + p * 0x10000 + a * 0x1000
/-- 3035h.00 (R244). -/
def Obj.MISSED_WEDGES (p a : Nat) : Nat := 0x303500 + p * 0x10000 + a * 0x1000
/-- 3035h.01 (R244). -/
def Obj.WEDGE_MISMATCHES (p a : Nat) : Nat := 0x303501 + p * 0x10000 + a * 0x1000
/-- 3035h.02 (R244). -/
def Obj.GRAY_INCONSISTENT (p a : Nat) : Nat := 0x303502 + p * 0x10000 + a * 0x1000
/-- 3035h.03 (R244). -/
def Obj.RRO_ERRORS (p a : Nat) : Nat := 0x303503 + p * 0x10000 + a * 0x1000
/-- 3035h.04 (R244). -/
def Obj.OUTER_LATE_COUNT (p a : Nat) : Nat := 0x303504 + p * 0x10000 + a * 0x1000
/-- 3035h.05 (R244). -/
def Obj.INNER_LATE_COUNT (p a : Nat) : Nat := 0x303505 + p * 0x10000 + a * 0x1000
/-- 3035h.06 (R244). -/
def Obj.SAT_COUNT (p a : Nat) : Nat := 0x303506 + p * 0x10000 + a * 0x1000
/-- 3035h.07 (R244). -/
def Obj.SEEKS (p a : Nat) : Nat := 0x303507 + p * 0x10000 + a * 0x1000
/-- 3035h.08 (R244). -/
def Obj.SEEK_TIMEOUTS (p a : Nat) : Nat := 0x303508 + p * 0x10000 + a * 0x1000
/-- 3035h.09 (R244). -/
def Obj.UNSAFE_CUTS (p a : Nat) : Nat := 0x303509 + p * 0x10000 + a * 0x1000
/-- 3035h.0A (R244). -/
def Obj.LOADS (p a : Nat) : Nat := 0x30350A + p * 0x10000 + a * 0x1000
/-- 3035h.0B (R244). -/
def Obj.PN2_RETRACTS (p a : Nat) : Nat := 0x30350B + p * 0x10000 + a * 0x1000
/-- 3035h.0C (R244). -/
def Obj.MISMATCHES (p a : Nat) : Nat := 0x30350C + p * 0x10000 + a * 0x1000
/-- 3020h.00 (R275). -/
def Obj.SPD_STATE (p : Nat) : Nat := 0x302000 + p * 0x10000
/-- 3020h.01 (R275). -/
def Obj.SPD_STATUS (p : Nat) : Nat := 0x302001 + p * 0x10000
/-- 3020h.02 (R275). -/
def Obj.SPD_INT_EN (p : Nat) : Nat := 0x302002 + p * 0x10000
/-- 3020h.03 (R275). -/
def Obj.SPEED_NOW (p : Nat) : Nat := 0x302003 + p * 0x10000
/-- 3020h.04 (R275). -/
def Obj.PHASE_ERR (p : Nat) : Nat := 0x302004 + p * 0x10000
/-- 3020h.05 (R275). -/
def Obj.DUTY_NOW (p : Nat) : Nat := 0x302005 + p * 0x10000
/-- 3020h.06 (R275). -/
def Obj.DUTY_CAP (p : Nat) : Nat := 0x302006 + p * 0x10000
/-- 3020h.07 (R275). -/
def Obj.DIRECTION_SEEN (p : Nat) : Nat := 0x302007 + p * 0x10000
/-- 3020h.08 (R275). -/
def Obj.SPINUP_TIME (p : Nat) : Nat := 0x302008 + p * 0x10000
/-- 3020h.09 (R275). -/
def Obj.SPD_SHADOW_VALID (p : Nat) : Nat := 0x302009 + p * 0x10000
/-- 3021h.00 (R275). -/
def Obj.POLE_PAIRS (p : Nat) : Nat := 0x302100 + p * 0x10000
/-- 3021h.01 (R275). -/
def Obj.RATED_RPM (p : Nat) : Nat := 0x302101 + p * 0x10000
/-- 3021h.02 (R275). -/
def Obj.BEMF_TARGET (p : Nat) : Nat := 0x302102 + p * 0x10000
/-- 3021h.03 (R275). -/
def Obj.CT_INDEX_NOMINAL (p : Nat) : Nat := 0x302103 + p * 0x10000
/-- 3021h.04 (R275). -/
def Obj.COMM_ADVANCE (p : Nat) : Nat := 0x302104 + p * 0x10000
/-- 3021h.05 (R275). -/
def Obj.BLANK_MIN (p : Nat) : Nat := 0x302105 + p * 0x10000
/-- 3021h.06 (R275). -/
def Obj.BLANK_FRAC (p : Nat) : Nat := 0x302106 + p * 0x10000
/-- 3021h.07 (R275). -/
def Obj.ZC_LATE (p : Nat) : Nat := 0x302107 + p * 0x10000
/-- 3021h.08 (R275). -/
def Obj.WINDOW_MIN (p : Nat) : Nat := 0x302108 + p * 0x10000
/-- 3021h.09 (R275). -/
def Obj.ALIGN_DUTY (p : Nat) : Nat := 0x302109 + p * 0x10000
/-- 3021h.0A (R275). -/
def Obj.ALIGN_TIME (p : Nat) : Nat := 0x30210A + p * 0x10000
/-- 3021h.0B (R275). -/
def Obj.RAMP_T0 (p : Nat) : Nat := 0x30210B + p * 0x10000
/-- 3021h.0C (R275). -/
def Obj.RAMP_ACCEL (p : Nat) : Nat := 0x30210C + p * 0x10000
/-- 3021h.0D (R275). -/
def Obj.RAMP_DUTY (p : Nat) : Nat := 0x30210D + p * 0x10000
/-- 3021h.0E (R275). -/
def Obj.RAMP_MAX (p : Nat) : Nat := 0x30210E + p * 0x10000
/-- 3021h.0F (R275). -/
def Obj.COAST_MAX (p : Nat) : Nat := 0x30210F + p * 0x10000
/-- 3021h.10 (R275). -/
def Obj.SPD_KP (p : Nat) : Nat := 0x302110 + p * 0x10000
/-- 3021h.11 (R275). -/
def Obj.SPD_KI (p : Nat) : Nat := 0x302111 + p * 0x10000
/-- 3021h.12 (R275). -/
def Obj.PH_GAIN (p : Nat) : Nat := 0x302112 + p * 0x10000
/-- 3021h.13 (R275). -/
def Obj.BRAKE_IMAX (p : Nat) : Nat := 0x302113 + p * 0x10000
/-- 3022h.00 (R275). -/
def Obj.ZC_MISSES (p : Nat) : Nat := 0x302200 + p * 0x10000
/-- 3022h.01 (R275). -/
def Obj.ROTOR_LOSSES (p : Nat) : Nat := 0x302201 + p * 0x10000
/-- 3022h.02 (R275). -/
def Obj.RECATCHES (p : Nat) : Nat := 0x302202 + p * 0x10000
/-- 3022h.03 (R275). -/
def Obj.START_FAILURES (p : Nat) : Nat := 0x302203 + p * 0x10000
/-- 3022h.04 (R275). -/
def Obj.LOCK_LOSSES (p : Nat) : Nat := 0x302204 + p * 0x10000
/-- 3022h.05 (R275). -/
def Obj.REGEN_BLOCKS (p : Nat) : Nat := 0x302205 + p * 0x10000
/-- 3022h.06 (R275). -/
def Obj.MOD_LIMIT_EVENTS (p : Nat) : Nat := 0x302206 + p * 0x10000
/-- 3022h.07 (R275). -/
def Obj.CATCHES (p : Nat) : Nat := 0x302207 + p * 0x10000
/-- 3022h.08 (R275). -/
def Obj.REVERSE_BRAKES (p : Nat) : Nat := 0x302208 + p * 0x10000
/-- 1130h.00 (R277). -/
def Obj.SWEEP_RPM : Nat := 0x113000
/-- 1130h.01 (R277). -/
def Obj.SWEEP_COUNT : Nat := 0x113001
/-- 1130h.02 (R277). -/
def Obj.PEER_REF_OFFSET : Nat := 0x113002
/-- 1130h.03 (R277). -/
def Obj.PORTS_LOCKED : Nat := 0x113003
/-- 2000h.00 (R331). -/
def Obj.OS_STATE : Nat := 0x200000
/-- 2000h.01 (R331). -/
def Obj.OS_STATUS : Nat := 0x200001
/-- 2000h.02 (R331). -/
def Obj.OS_INT_EN : Nat := 0x200002
/-- 2000h.03 (R331). -/
def Obj.HEALTHY_MEMBERS : Nat := 0x200003
/-- 2000h.04 (R331). -/
def Obj.WIDTH : Nat := 0x200004
/-- 2000h.05 (R331). -/
def Obj.MEMBER_EPOCH : Nat := 0x200005
/-- 2000h.06 (R331). -/
def Obj.FOREIGN_POLICY : Nat := 0x200006
/-- 2000h.07 (R331). -/
def Obj.LATE_LIMIT : Nat := 0x200007
/-- 2000h.08 (R331). -/
def Obj.WIDTH_WAIT : Nat := 0x200008
/-- 2000h.09 (R331). -/
def Obj.THIN_SORUSES : Nat := 0x200009
/-- 2000h.0A (R331). -/
def Obj.LOST_CHUNKS : Nat := 0x20000A
/-- 2001h.00 (R331). -/
def Obj.RAW_BYTES : Nat := 0x200100
/-- 2001h.01 (R331). -/
def Obj.USER_BYTES : Nat := 0x200101
/-- 2001h.02 (R331). -/
def Obj.LIVE_MEDIA_BYTES : Nat := 0x200102
/-- 2001h.03 (R331). -/
def Obj.DEAD_MEDIA_BYTES : Nat := 0x200103
/-- 2001h.04 (R331). -/
def Obj.FREE_BYTES : Nat := 0x200104
/-- 2001h.05 (R331). -/
def Obj.PROJECTED_BYTES : Nat := 0x200105
/-- 2001h.06 (R331). -/
def Obj.LIMIT_BYTES : Nat := 0x200106
/-- 2001h.07 (R331). -/
def Obj.RESERVE_HDAS : Nat := 0x200107
/-- 2001h.08 (R331). -/
def Obj.HEADROOM : Nat := 0x200108
/-- 2002h.00 (R331). -/
def Obj.REBUILD_STATE : Nat := 0x200200
/-- 2002h.01 (R331). -/
def Obj.DEGRADED_SORUSES : Nat := 0x200201
/-- 2002h.02 (R331). -/
def Obj.MARGIN0_SORUSES : Nat := 0x200202
/-- 2002h.03 (R331). -/
def Obj.REBUILT_SORUSES : Nat := 0x200203
/-- 2002h.04 (R331). -/
def Obj.REBUILD_SHARE : Nat := 0x200204
/-- 2002h.05 (R331). -/
def Obj.WEAK_REPORTS : Nat := 0x200205
/-- 2002h.06 (R331). -/
def Obj.UNREADABLE_REPORTS : Nat := 0x200206
/-- 2003h.00 (R331). -/
def Obj.FREE_BANDS_LOW : Nat := 0x200300
/-- 2003h.01 (R331). -/
def Obj.COMPACT_SHARE : Nat := 0x200301
/-- 2003h.02 (R331). -/
def Obj.REPACK_LIMIT : Nat := 0x200302
/-- 2003h.03 (R331). -/
def Obj.BANDS_RELEASED : Nat := 0x200303
/-- 2004h.00 (R331). -/
def Obj.CHECKPOINT_INTERVAL : Nat := 0x200400
/-- 2004h.01 (R331). -/
def Obj.CHECKPOINT_SEQ : Nat := 0x200401
/-- 2004h.02 (R331). -/
def Obj.JOURNAL_USE : Nat := 0x200402
/-- 2005h.00 (R331). -/
def Obj.MEMBER_SLOT (i : Nat) : Nat := 0x200500 + i
/-- 2010h.00 (R331). -/
def Obj.NS_STATE (n : Nat) : Nat := 0x201000 + n * 0x100
/-- 2010h.01 (R331). -/
def Obj.NS_COMMAND (n : Nat) : Nat := 0x201001 + n * 0x100
/-- 2010h.02 (R331). -/
def Obj.PROFILE (n : Nat) : Nat := 0x201002 + n * 0x100
/-- 2010h.03 (R331). -/
def Obj.COMPRESSION (n : Nat) : Nat := 0x201003 + n * 0x100
/-- 2010h.04 (R331). -/
def Obj.ENTROPY_LIMIT (n : Nat) : Nat := 0x201004 + n * 0x100
/-- 2010h.05 (R331). -/
def Obj.THRESHOLD_SLACK (n : Nat) : Nat := 0x201005 + n * 0x100
/-- 2010h.06 (R331). -/
def Obj.PACK_WAIT (n : Nat) : Nat := 0x201006 + n * 0x100
/-- 2010h.07 (R331). -/
def Obj.QUOTA (n : Nat) : Nat := 0x201007 + n * 0x100
/-- 2010h.08 (R331). -/
def Obj.NS_VALUES (n : Nat) : Nat := 0x201008 + n * 0x100
/-- 2010h.09 (R331). -/
def Obj.NS_USER_BYTES (n : Nat) : Nat := 0x201009 + n * 0x100
/-- 2010h.0A (R331). -/
def Obj.NS_LOST_VALUES (n : Nat) : Nat := 0x20100A + n * 0x100
/-- 1300h.00 (R356). -/
def Obj.HOST_STATUS : Nat := 0x130000
/-- 1300h.01 (R356). -/
def Obj.HOST_INT_EN : Nat := 0x130001
/-- 1300h.02 (R356). -/
def Obj.CMD_SLOTS_USED : Nat := 0x130002
/-- 1300h.03 (R356). -/
def Obj.CMD_SLOTS_PEAK : Nat := 0x130003
/-- 1300h.04 (R356). -/
def Obj.WRITE_BUFFER_LIMIT : Nat := 0x130004
/-- 1300h.05 (R356). -/
def Obj.WRITE_BUFFER_USED : Nat := 0x130005
/-- 1300h.06 (R356). -/
def Obj.FETCH_PAUSES : Nat := 0x130006
/-- 1300h.07 (R356). -/
def Obj.LAST_GAP : Nat := 0x130007
/-- 1300h.08 (R356). -/
def Obj.HELD_AT_LAST_GAP : Nat := 0x130008
/-- 1301h.00 (R356). -/
def Obj.CTRL_STATE (i : Nat) : Nat := 0x130100 + i
/-- 1301h.02 (R356). -/
def Obj.IO_QUEUE_PAIRS (i : Nat) : Nat := 0x130102 + i
/-- 1301h.04 (R356). -/
def Obj.COMMANDS_ENTERED (i : Nat) : Nat := 0x130104 + i
/-- 1301h.06 (R356). -/
def Obj.FORWARDED_NOW (i : Nat) : Nat := 0x130106 + i
/-- 1302h.00 (R356). -/
def Obj.DEFERRED_ENTRIES : Nat := 0x130200
/-- 4000h.00 (R389). -/
def Obj.BUF_STATUS (u : UnitId) : Nat := 0x400000 + unitBase u
/-- 4000h.01 (R389). -/
def Obj.BUF_INT_EN (u : UnitId) : Nat := 0x400001 + unitBase u
/-- 4000h.02 (R389). -/
def Obj.BUF_STATE (u : UnitId) : Nat := 0x400002 + unitBase u
/-- 4000h.03 (R389). -/
def Obj.BUF_BAND (u : UnitId) : Nat := 0x400003 + unitBase u
/-- 4000h.04 (R389). -/
def Obj.REFRESH_MULT (u : UnitId) : Nat := 0x400004 + unitBase u
/-- 4000h.05 (R389). -/
def Obj.CORRECTED_WORDS (u : UnitId) : Nat := 0x400005 + unitBase u
/-- 4000h.06 (R389). -/
def Obj.UNCORRECTABLE_WORDS (u : UnitId) : Nat := 0x400006 + unitBase u
/-- 4000h.07 (R389). -/
def Obj.POISONED_READS (u : UnitId) : Nat := 0x400007 + unitBase u
/-- 4000h.08 (R389). -/
def Obj.LINK_RETRIES (u : UnitId) : Nat := 0x400008 + unitBase u
/-- 4000h.09 (R389). -/
def Obj.RETRAINS (u : UnitId) : Nat := 0x400009 + unitBase u
/-- 4000h.0A (R389). -/
def Obj.SR_IDLE (u : UnitId) : Nat := 0x40000A + unitBase u
/-- 4000h.0B (R389). -/
def Obj.MERGE_HOLD (u : UnitId) : Nat := 0x40000B + unitBase u
/-- 4000h.0C (R389). -/
def Obj.MERGE_WRITEBACKS (u : UnitId) : Nat := 0x40000C + unitBase u
/-- 4001h.00 (R389). -/
def Obj.ERR_LOG (u : UnitId) : Nat := 0x400100 + unitBase u
/-- 4001h.01 (R389). -/
def Obj.LOG_OVERFLOWS (u : UnitId) : Nat := 0x400101 + unitBase u
/-- 4001h.02 (R389). -/
def Obj.LOG_CLEAR (u : UnitId) : Nat := 0x400102 + unitBase u
/-- 4002h.00 (R389). -/
def Obj.REMAP_TABLE (u : UnitId) : Nat := 0x400200 + unitBase u
/-- 4002h.01 (R389). -/
def Obj.REMAP_REQUEST (u : UnitId) : Nat := 0x400201 + unitBase u
/-- 4002h.02 (R389). -/
def Obj.REMAP_RESULT (u : UnitId) : Nat := 0x400202 + unitBase u
/-- 4002h.03 (R389). -/
def Obj.REMAP_USED (u : UnitId) : Nat := 0x400203 + unitBase u
/-- 4002h.04 (R389). -/
def Obj.REMAP_AUTO (u : UnitId) : Nat := 0x400204 + unitBase u
/-- 4003h.00 (R389). -/
def Obj.SCRUB_FIRST (u : UnitId) : Nat := 0x400300 + unitBase u
/-- 4003h.01 (R389). -/
def Obj.SCRUB_LAST (u : UnitId) : Nat := 0x400301 + unitBase u
/-- 4003h.02 (R389). -/
def Obj.SCRUB_COMMAND (u : UnitId) : Nat := 0x400302 + unitBase u
/-- 4003h.03 (R389). -/
def Obj.SCRUB_RATE (u : UnitId) : Nat := 0x400303 + unitBase u
/-- 4003h.04 (R389). -/
def Obj.SCRUB_INTERVAL (u : UnitId) : Nat := 0x400304 + unitBase u
/-- 4003h.05 (R389). -/
def Obj.SCRUB_SUMMARY (u : UnitId) : Nat := 0x400305 + unitBase u
/-- 4004h.00 (R389). -/
def Obj.FLIP_MODE (u : UnitId) : Nat := 0x400400 + unitBase u
/-- 4004h.01 (R389). -/
def Obj.FLIP_GROUP (u : UnitId) : Nat := 0x400401 + unitBase u
/-- 4004h.02 (R389). -/
def Obj.FLIP_WORD (u : UnitId) : Nat := 0x400402 + unitBase u
/-- 4004h.03 (R389). -/
def Obj.FLIP_BYTES (u : UnitId) : Nat := 0x400403 + unitBase u
/-- 4004h.04 (R389). -/
def Obj.FLIP_START (u : UnitId) : Nat := 0x400404 + unitBase u
/-- 4004h.05 (R389). -/
def Obj.FLIP_LEN (u : UnitId) : Nat := 0x400405 + unitBase u
/-- 4100h.00 (R391). -/
def Obj.CACHE_STATUS (u : UnitId) : Nat := 0x410000 + unitBase u
/-- 4100h.01 (R391). -/
def Obj.CACHE_INT_EN (u : UnitId) : Nat := 0x410001 + unitBase u
/-- 4100h.02 (R391). -/
def Obj.CACHE_STATE (u : UnitId) : Nat := 0x410002 + unitBase u
/-- 4100h.03 (R391). -/
def Obj.CACHE_CONTROL (u : UnitId) : Nat := 0x410003 + unitBase u
/-- 4100h.04 (R391). -/
def Obj.WAY_ENABLE (u : UnitId) : Nat := 0x410004 + unitBase u
/-- 4100h.05 (R391). -/
def Obj.WAY_POWERED (u : UnitId) : Nat := 0x410005 + unitBase u
/-- 4100h.06 (R391). -/
def Obj.WAY_CLEANING (u : UnitId) : Nat := 0x410006 + unitBase u
/-- 4100h.07 (R391). -/
def Obj.WINDOW_BASE (u : UnitId) : Nat := 0x410007 + unitBase u
/-- 4100h.08 (R391). -/
def Obj.WINDOW_SIZE (u : UnitId) : Nat := 0x410008 + unitBase u
/-- 4100h.09 (R391). -/
def Obj.HITS (u : UnitId) : Nat := 0x410009 + unitBase u
/-- 4100h.0A (R391). -/
def Obj.MISSES (u : UnitId) : Nat := 0x41000A + unitBase u
/-- 4100h.0B (R391). -/
def Obj.EVBUF_HITS (u : UnitId) : Nat := 0x41000B + unitBase u
/-- 4100h.0C (R391). -/
def Obj.WRITEBACKS (u : UnitId) : Nat := 0x41000C + unitBase u
/-- 4100h.0D (R391). -/
def Obj.DATA_CORRECTED_COUNT (u : UnitId) : Nat := 0x41000D + unitBase u
/-- 4100h.0E (R391). -/
def Obj.DATA_UNCORR_COUNT (u : UnitId) : Nat := 0x41000E + unitBase u
/-- 4100h.0F (R391). -/
def Obj.TAG_REPAIRS (u : UnitId) : Nat := 0x41000F + unitBase u
/-- 4100h.10 (R391). -/
def Obj.TAG_UNCORR_COUNT (u : UnitId) : Nat := 0x410010 + unitBase u
/-- 4100h.11 (R391). -/
def Obj.EVBUF_STALLS (u : UnitId) : Nat := 0x410011 + unitBase u
/-- 4300h.00 (R422). -/
def Obj.DOMAIN_POWERED (u : UnitId) : Nat := 0x430000 + unitBase u
/-- 4300h.01 (R422). -/
def Obj.DOMAIN_REQUEST (u : UnitId) : Nat := 0x430001 + unitBase u
/-- 4300h.02 (R422). -/
def Obj.DOMAIN_RESULT (u : UnitId) : Nat := 0x430002 + unitBase u
/-- 4300h.03 (R422). -/
def Obj.EV_FIRE (u : UnitId) : Nat := 0x430003 + unitBase u
/-- 4300h.04 (R422). -/
def Obj.DMA_BYTES_MOVED (u : UnitId) : Nat := 0x430004 + unitBase u
/-- 4301h.00 (R422). -/
def Obj.TIMER_PERIOD (u : UnitId) (i : Nat) : Nat := 0x430100 + i + unitBase u
/-- 4301h.08 (R422). -/
def Obj.TIMER_SWEEP (u : UnitId) : Nat := 0x430108 + unitBase u
/-- 4320h.00 (R422). -/
def Obj.CH_CTRL (u : UnitId) (n : Nat) : Nat := 0x432000 + n * 0x100 + unitBase u
/-- 4320h.01 (R422). -/
def Obj.DESC_ADDR (u : UnitId) (n : Nat) : Nat := 0x432001 + n * 0x100 + unitBase u
/-- 4320h.02 (R422). -/
def Obj.DMA_STATUS (u : UnitId) (n : Nat) : Nat := 0x432002 + n * 0x100 + unitBase u
/-- 4320h.03 (R422). -/
def Obj.DMA_INT_EN (u : UnitId) (n : Nat) : Nat := 0x432003 + n * 0x100 + unitBase u
/-- 4320h.04 (R422). -/
def Obj.CH_STATE (u : UnitId) (n : Nat) : Nat := 0x432004 + n * 0x100 + unitBase u
/-- 4320h.05 (R422). -/
def Obj.PRIORITY (u : UnitId) (n : Nat) : Nat := 0x432005 + n * 0x100 + unitBase u
/-- 4320h.06 (R422). -/
def Obj.REMAIN (u : UnitId) (n : Nat) : Nat := 0x432006 + n * 0x100 + unitBase u
/-- 4320h.07 (R422). -/
def Obj.CUR_DESC (u : UnitId) (n : Nat) : Nat := 0x432007 + n * 0x100 + unitBase u
/-- 4320h.08 (R422). -/
def Obj.ERR_ADDR (u : UnitId) (n : Nat) : Nat := 0x432008 + n * 0x100 + unitBase u
/-- 4320h.09 (R422). -/
def Obj.PACE_CREDITS (u : UnitId) (n : Nat) : Nat := 0x432009 + n * 0x100 + unitBase u
/-- 4400h.00 (R424). -/
def Obj.ENGINES_IDLE (u : UnitId) : Nat := 0x440000 + unitBase u
/-- 4410h.00 (R424). -/
def Obj.ENG_STATUS (u : UnitId) (e : Nat) : Nat := 0x441000 + e * 0x100 + unitBase u
/-- 4410h.01 (R424). -/
def Obj.ENG_INT_EN (u : UnitId) (e : Nat) : Nat := 0x441001 + e * 0x100 + unitBase u
/-- 4410h.02 (R424). -/
def Obj.RING_BASE (u : UnitId) (e : Nat) : Nat := 0x441002 + e * 0x100 + unitBase u
/-- 4410h.03 (R424). -/
def Obj.RING_TAIL (u : UnitId) (e : Nat) : Nat := 0x441003 + e * 0x100 + unitBase u
/-- 4410h.04 (R424). -/
def Obj.RING_HEAD (u : UnitId) (e : Nat) : Nat := 0x441004 + e * 0x100 + unitBase u
/-- 4410h.05 (R424). -/
def Obj.JOBS_DONE (u : UnitId) (e : Nat) : Nat := 0x441005 + e * 0x100 + unitBase u
/-- 4410h.06 (R424). -/
def Obj.JOBS_FAILED (u : UnitId) (e : Nat) : Nat := 0x441006 + e * 0x100 + unitBase u
/-- 4410h.07 (R424). -/
def Obj.BYTES_IN (u : UnitId) (e : Nat) : Nat := 0x441007 + e * 0x100 + unitBase u
/-- 4410h.08 (R424). -/
def Obj.BYTES_OUT (u : UnitId) (e : Nat) : Nat := 0x441008 + e * 0x100 + unitBase u
/-- 4410h.09 (R424). -/
def Obj.STORED_FORMS (u : UnitId) (e : Nat) : Nat := 0x441009 + e * 0x100 + unitBase u
/-- 4410h.0A (R424). -/
def Obj.CHECK_COUNT (u : UnitId) (e : Nat) : Nat := 0x44100A + e * 0x100 + unitBase u
/-- 1102h.00 (R463). -/
def Obj.T_VAUX3_GOOD : Nat := 0x110200
/-- 1102h.01 (R463). -/
def Obj.T_FIDDLEHEAD : Nat := 0x110201
/-- 1102h.02 (R463). -/
def Obj.T_BRINGUP : Nat := 0x110202
/-- 1102h.03 (R463). -/
def Obj.T_FW_LOADED : Nat := 0x110203
/-- 1102h.04 (R463). -/
def Obj.T_GDDR7_TRAINED : Nat := 0x110204
/-- 1102h.05 (R463). -/
def Obj.T_FIRST_LINKED : Nat := 0x110205
/-- 1102h.06 (R463). -/
def Obj.T_REDUCED : Nat := 0x110206
/-- 1102h.07 (R463). -/
def Obj.T_LAST_LOCKED : Nat := 0x110207
/-- 1102h.08 (R463). -/
def Obj.T_FROND : Nat := 0x110208
/-- 1103h.00 (R463). -/
def Obj.BOOT_SLOT : Nat := 0x110300
/-- 1103h.01 (R463). -/
def Obj.BOOT_RESULT : Nat := 0x110301
/-- 1103h.02 (R463). -/
def Obj.SLOT_CHECK (u : UnitId) (i : Nat) : Nat := 0x110302 + i + unitBase u
/-- 1103h.04 (R463). -/
def Obj.REDUCED_MIN : Nat := 0x110304
/-- 1103h.05 (R463). -/
def Obj.READ_READY_PORTS : Nat := 0x110305
/-- 1105h.00 (R463). -/
def Obj.FW_RECOVERY_STAGE : Nat := 0x110500
/-- 1105h.01 (R463). -/
def Obj.RECOVERY_CHECK : Nat := 0x110501
/-- 1110h.00 (R464). -/
def Obj.SURGE_BUDGET : Nat := 0x111000
/-- 1110h.01 (R464). -/
def Obj.SPINDLE_SURGE : Nat := 0x111001
/-- 1110h.02 (R464). -/
def Obj.MODULE_CONCURRENT : Nat := 0x111002
/-- 1110h.03 (R464). -/
def Obj.ORPHAN_CONCURRENT : Nat := 0x111003
/-- 1110h.04 (R464). -/
def Obj.ROOTLESS_WAIT : Nat := 0x111004
/-- 1110h.05 (R464). -/
def Obj.TOKENS_HELD : Nat := 0x111005
/-- 1110h.06 (R464). -/
def Obj.TREE_TOKENS : Nat := 0x111006
/-- 1110h.07 (R464). -/
def Obj.GRANTS : Nat := 0x111007
/-- 1110h.08 (R464). -/
def Obj.ORPHAN_GRANTS : Nat := 0x111008
/-- 1400h.00 (R465). -/
def Obj.CASC_STATUS : Nat := 0x140000
/-- 1400h.01 (R465). -/
def Obj.CASC_INT_EN : Nat := 0x140001
/-- 1400h.02 (R465). -/
def Obj.CASC_ROLE : Nat := 0x140002
/-- 1400h.03 (R465). -/
def Obj.MODULE_NO : Nat := 0x140003
/-- 1400h.04 (R465). -/
def Obj.DEPTH : Nat := 0x140004
/-- 1400h.05 (R465). -/
def Obj.TREE_MODULES : Nat := 0x140005
/-- 1400h.06 (R465). -/
def Obj.ENUM_TIME : Nat := 0x140006
/-- 1400h.07 (R465). -/
def Obj.GRIUG_HOLD : Nat := 0x140007
/-- 1400h.08 (R465). -/
def Obj.GRIUG_DROP : Nat := 0x140008
/-- 1401h.00 (R465). -/
def Obj.LINK_STATE (i : Nat) : Nat := 0x140100 + i
/-- 1401h.06 (R465). -/
def Obj.GRIUG_REPLAYS (i : Nat) : Nat := 0x140106 + i
/-- 1401h.0C (R465). -/
def Obj.GRIUG_RETRAINS (i : Nat) : Nat := 0x14010C + i
/-- 1402h.00 (R465). -/
def Obj.MODULE_TABLE : Nat := 0x140200
/-- 1403h.00 (R465). -/
def Obj.ROUTE_TABLE : Nat := 0x140300
/-- 1200h.00 (R488). -/
def Obj.PAIR_STATUS : Nat := 0x120000
/-- 1200h.01 (R488). -/
def Obj.PAIR_INT_EN : Nat := 0x120001
/-- 1200h.02 (R488). -/
def Obj.ANSWERING_UNIT (u : UnitId) : Nat := 0x120002 + unitBase u
/-- 1200h.03 (R488). -/
def Obj.ACTIVE_UNIT : Nat := 0x120003
/-- 1200h.04 (R488). -/
def Obj.PEER_STATE : Nat := 0x120004
/-- 1200h.05 (R488). -/
def Obj.UNITPREF_STRAP : Nat := 0x120005
/-- 1200h.06 (R488). -/
def Obj.SWITCHOVERS : Nat := 0x120006
/-- 1200h.07 (R488). -/
def Obj.LAST_RELEASE_CAUSE : Nat := 0x120007
/-- 1200h.08 (R488). -/
def Obj.LAST_TAKEOVER_US : Nat := 0x120008
/-- 1200h.09 (R488). -/
def Obj.LAST_REJOIN_MS : Nat := 0x120009
/-- 1200h.0A (R488). -/
def Obj.RELEASES_24H : Nat := 0x12000A
/-- 1201h.00 (R488). -/
def Obj.CE_RATE_LIMIT : Nat := 0x120100
/-- 1201h.01 (R488). -/
def Obj.UE_LIMIT : Nat := 0x120101
/-- 1201h.02 (R488). -/
def Obj.SEQ_STOP_LIMIT : Nat := 0x120102
/-- 1201h.03 (R488). -/
def Obj.MISMATCH_LIMIT : Nat := 0x120103
/-- 1201h.04 (R488). -/
def Obj.PACE_TRIP : Nat := 0x120104
/-- 1201h.05 (R488). -/
def Obj.ISLAND_TIMEOUT : Nat := 0x120105
/-- 1201h.06 (R488). -/
def Obj.AUTO_REJOIN : Nat := 0x120106
/-- 1201h.07 (R488). -/
def Obj.REJOIN_LIMIT : Nat := 0x120107
/-- 1201h.08 (R488). -/
def Obj.REJOIN_SETTLE : Nat := 0x120108
/-- 1201h.09 (R488). -/
def Obj.PAIR_COMMAND : Nat := 0x120109
/-- 1202h.00 (R488). -/
def Obj.MIRROR_STATE : Nat := 0x120200
/-- 1202h.01 (R488). -/
def Obj.MIRROR_REPLAYS : Nat := 0x120201
/-- 1202h.02 (R488). -/
def Obj.MIRROR_RETRAINS : Nat := 0x120202
/-- 1202h.03 (R488). -/
def Obj.MIRROR_LAG_MAX : Nat := 0x120203
/-- 5000h.00 (R515). -/
def Obj.PWR_STATUS (u : UnitId) : Nat := 0x500000 + unitBase u
/-- 5000h.01 (R515). -/
def Obj.PWR_INT_EN (u : UnitId) : Nat := 0x500001 + unitBase u
/-- 5000h.02 (R515). -/
def Obj.VIN12_MV (u : UnitId) : Nat := 0x500002 + unitBase u
/-- 5000h.03 (R515). -/
def Obj.VAUX3_MV (u : UnitId) : Nat := 0x500003 + unitBase u
/-- 5000h.04 (R515). -/
def Obj.HOLD_MV (u : UnitId) : Nat := 0x500004 + unitBase u
/-- 5000h.05 (R515). -/
def Obj.VCORE_MV (u : UnitId) : Nat := 0x500005 + unitBase u
/-- 5000h.06 (R515). -/
def Obj.VCORE_SET (u : UnitId) : Nat := 0x500006 + unitBase u
/-- 5000h.07 (R515). -/
def Obj.INPUT_POWER (u : UnitId) : Nat := 0x500007 + unitBase u
/-- 5000h.08 (R515). -/
def Obj.HOLD_CAP_UF (u : UnitId) : Nat := 0x500008 + unitBase u
/-- 5000h.09 (R515). -/
def Obj.HOLD_USABLE_MJ (u : UnitId) : Nat := 0x500009 + unitBase u
/-- 5000h.0A (R515). -/
def Obj.HOLD_STATE (u : UnitId) : Nat := 0x50000A + unitBase u
/-- 5000h.0B (R515). -/
def Obj.HOLDUPS (u : UnitId) : Nat := 0x50000B + unitBase u
/-- 5000h.0C (R515). -/
def Obj.LAST_HOLDUP_US (u : UnitId) : Nat := 0x50000C + unitBase u
/-- 5000h.0D (R515). -/
def Obj.PEN_STAGGER (u : UnitId) : Nat := 0x50000D + unitBase u
/-- 5000h.0E (R515). -/
def Obj.HARNESS_TRIP (u : UnitId) : Nat := 0x50000E + unitBase u
/-- 5001h.00 (R515). -/
def Obj.DIE_TEMP (u : UnitId) : Nat := 0x500100 + unitBase u
/-- 5001h.01 (R515). -/
def Obj.DIE_BAND (u : UnitId) : Nat := 0x500101 + unitBase u
/-- 5001h.02 (R515). -/
def Obj.DIODE_TEMP (u : UnitId) : Nat := 0x500102 + unitBase u
/-- 5001h.03 (R515). -/
def Obj.RING_TEMPS (u : UnitId) : Nat := 0x500103 + unitBase u
/-- 5001h.04 (R515). -/
def Obj.BOARD_TEMP (u : UnitId) (i : Nat) : Nat := 0x500104 + i + unitBase u
/-- 5001h.06 (R515). -/
def Obj.BOARD_BAND (u : UnitId) : Nat := 0x500106 + unitBase u
/-- 5001h.07 (R515). -/
def Obj.SENSORS_BROKEN (u : UnitId) : Nat := 0x500107 + unitBase u
/-- 5001h.08 (R515). -/
def Obj.PACE_SLACK (u : UnitId) : Nat := 0x500108 + unitBase u
/-- 5001h.09 (R515). -/
def Obj.PACE_MIN_SLACK (u : UnitId) : Nat := 0x500109 + unitBase u
/-- 5001h.0A (R515). -/
def Obj.PACE_THRESHOLD (u : UnitId) : Nat := 0x50010A + unitBase u
/-- 5001h.0B (R515). -/
def Obj.PACE_LOW_COUNT (u : UnitId) : Nat := 0x50010B + unitBase u
/-- 5002h.00 (R515). -/
def Obj.PACE_THRESH (u : UnitId) (i : Nat) : Nat := 0x500200 + i + unitBase u
/-- 3060h.00 (R517). -/
def Obj.HDA_TEMP (p : Nat) : Nat := 0x306000 + p * 0x10000
/-- 3060h.01 (R517). -/
def Obj.HDA_TEMP_PEER (p : Nat) : Nat := 0x306001 + p * 0x10000
/-- 3060h.02 (R517). -/
def Obj.HDA_BAND (p : Nat) : Nat := 0x306002 + p * 0x10000
/-- 3060h.03 (R517). -/
def Obj.DIODE_STATE (p : Nat) : Nat := 0x306003 + p * 0x10000
/-- 5100h.00 (R529). -/
def Obj.GRAVE_ACTION (b : Nat) : Nat := 0x510000 + b * 0x100
/-- 5100h.01 (R529). -/
def Obj.EMCY_MIN_CLASS (b : Nat) : Nat := 0x510001 + b * 0x100
/-- 5100h.02 (R529). -/
def Obj.FAULTS_RAISED (b : Nat) : Nat := 0x510002 + b * 0x100
/-- 5100h.03 (R529). -/
def Obj.LAST_FAULT_TIME (b : Nat) : Nat := 0x510003 + b * 0x100
/-- 5100h.04 (R529). -/
def Obj.LATCHED (b : Nat) : Nat := 0x510004 + b * 0x100
/-- 5200h.00 (R538). -/
def Obj.ER_STATUS (u : UnitId) : Nat := 0x520000 + unitBase u
/-- 5200h.01 (R538). -/
def Obj.ER_INT_EN (u : UnitId) : Nat := 0x520001 + unitBase u
/-- 5200h.02 (R538). -/
def Obj.ER_OLDEST (u : UnitId) : Nat := 0x520002 + unitBase u
/-- 5200h.03 (R538). -/
def Obj.ER_NEWEST (u : UnitId) : Nat := 0x520003 + unitBase u
/-- 5200h.04 (R538). -/
def Obj.ER_READ_SEQ (u : UnitId) : Nat := 0x520004 + unitBase u
/-- 5200h.05 (R538). -/
def Obj.ER_RECORD (u : UnitId) : Nat := 0x520005 + unitBase u
/-- 5200h.06 (R538). -/
def Obj.ER_READ_RESULT (u : UnitId) : Nat := 0x520006 + unitBase u
/-- 5200h.07 (R538). -/
def Obj.ER_USE (u : UnitId) : Nat := 0x520007 + unitBase u
/-- 5200h.08 (R538). -/
def Obj.ER_CLEARS (u : UnitId) : Nat := 0x520008 + unitBase u
/-- 5200h.09 (R538). -/
def Obj.ER_DROPPED (u : UnitId) : Nat := 0x520009 + unitBase u
/-- 5210h.00 (R538). -/
def Obj.ER_CHALLENGE (u : UnitId) : Nat := 0x521000 + unitBase u
/-- 5210h.01 (R538). -/
def Obj.ER_CLEAR_RESPONSE (u : UnitId) : Nat := 0x521001 + unitBase u
/-- 5210h.02 (R538). -/
def Obj.ER_CLEAR_RESULT (u : UnitId) : Nat := 0x521002 + unitBase u
/-- 4200h.00 (R557). -/
def Obj.JF_STATUS (u : UnitId) : Nat := 0x420000 + unitBase u
/-- 4200h.01 (R557). -/
def Obj.JF_INT_EN (u : UnitId) : Nat := 0x420001 + unitBase u
/-- 4200h.02 (R557). -/
def Obj.JF_STATE (u : UnitId) : Nat := 0x420002 + unitBase u
/-- 4200h.03 (R557). -/
def Obj.SPARES_LEFT (u : UnitId) : Nat := 0x420003 + unitBase u
/-- 4200h.04 (R557). -/
def Obj.RETIRED_BLOCKS (u : UnitId) : Nat := 0x420004 + unitBase u
/-- 4200h.05 (R557). -/
def Obj.INCOMPLETE_BLOCKS (u : UnitId) : Nat := 0x420005 + unitBase u
/-- 4200h.06 (R557). -/
def Obj.JOURNAL_BLOCKS (u : UnitId) : Nat := 0x420006 + unitBase u
/-- 4200h.07 (R557). -/
def Obj.NOT_BLANK_COUNT (u : UnitId) : Nat := 0x420007 + unitBase u
/-- 4200h.08 (R557). -/
def Obj.PROG_FAILS (u : UnitId) : Nat := 0x420008 + unitBase u
/-- 4200h.09 (R557). -/
def Obj.ERASE_FAILS (u : UnitId) : Nat := 0x420009 + unitBase u
/-- 4200h.0A (R557). -/
def Obj.CORRECTED_PAGES (u : UnitId) : Nat := 0x42000A + unitBase u
/-- 4200h.0B (R557). -/
def Obj.UNCORRECTABLE_PAGES (u : UnitId) : Nat := 0x42000B + unitBase u
/-- 4200h.0C (R557). -/
def Obj.SUSPENDS (u : UnitId) : Nat := 0x42000C + unitBase u
/-- 4200h.0D (R557). -/
def Obj.ERASE_COUNT_MAX (u : UnitId) : Nat := 0x42000D + unitBase u
/-- 4201h.00 (R557). -/
def Obj.JF_CMD (u : UnitId) : Nat := 0x420100 + unitBase u
/-- 4201h.01 (R557). -/
def Obj.JF_ADDR (u : UnitId) : Nat := 0x420101 + unitBase u
/-- 4201h.02 (R557). -/
def Obj.JF_DATA (u : UnitId) : Nat := 0x420102 + unitBase u
/-- 4201h.03 (R557). -/
def Obj.JF_STATUS_WORD (u : UnitId) : Nat := 0x420103 + unitBase u
/-- 4202h.00 (R557). -/
def Obj.ERASE_COUNTERS (u : UnitId) : Nat := 0x420200 + unitBase u
/-- 4202h.01 (R557). -/
def Obj.BLOCK_MAP (u : UnitId) : Nat := 0x420201 + unitBase u
/-- 4202h.02 (R557). -/
def Obj.BLOCK_STATES (u : UnitId) : Nat := 0x420202 + unitBase u
/-- 1000h.00 (R569). -/
def Obj.VENDOR_NAME : Nat := 0x100000
/-- 1000h.01 (R569). -/
def Obj.DEVICE_NAME : Nat := 0x100001
/-- 1000h.02 (R569). -/
def Obj.DEVICE_TYPE : Nat := 0x100002
/-- 1000h.03 (R569). -/
def Obj.ORDERING_CODE : Nat := 0x100003
/-- 1000h.04 (R569). -/
def Obj.STEPPING : Nat := 0x100004
/-- 1000h.05 (R569). -/
def Obj.MODULE_SERIAL : Nat := 0x100005
/-- 1000h.06 (R569). -/
def Obj.FW_VERSION (u : UnitId) : Nat := 0x100006 + unitBase u
/-- 1000h.07 (R569). -/
def Obj.FW_SVN (u : UnitId) : Nat := 0x100007 + unitBase u
/-- 1000h.08 (R569). -/
def Obj.BOOT_ROM_VERSION (u : UnitId) : Nat := 0x100008 + unitBase u
/-- 1000h.09 (R569). -/
def Obj.DICT_VERSION (u : UnitId) : Nat := 0x100009 + unitBase u
/-- 1000h.0A (R569). -/
def Obj.MAC_ADDRESS (u : UnitId) : Nat := 0x10000A + unitBase u
/-- 1000h.0B (R569). -/
def Obj.TIMESTAMP_NOW (u : UnitId) : Nat := 0x10000B + unitBase u
/-- 1000h.0C (R569). -/
def Obj.TIME_BASE_STATE (u : UnitId) : Nat := 0x10000C + unitBase u
/-- 1001h.00 (R569). -/
def Obj.KDAP_ETHERTYPE : Nat := 0x100100
/-- 1001h.01 (R569). -/
def Obj.PLCA_ENABLE : Nat := 0x100101
/-- 1001h.02 (R569). -/
def Obj.PLCA_NODE_ID : Nat := 0x100102
/-- 1001h.03 (R569). -/
def Obj.PLCA_TO_TIMER : Nat := 0x100103
/-- 1001h.04 (R569). -/
def Obj.PLCA_BURST_COUNT : Nat := 0x100104
/-- 1001h.05 (R569). -/
def Obj.PLCA_BURST_TIMER : Nat := 0x100105
/-- 1001h.06 (R569). -/
def Obj.PLCA_STATUS : Nat := 0x100106
/-- 1001h.07 (R569). -/
def Obj.STRAPS : Nat := 0x100107
/-- 1002h.00 (R569). -/
def Obj.HB_PERIOD : Nat := 0x100200
/-- 1002h.01 (R569). -/
def Obj.HB_DEST_MAC : Nat := 0x100201
/-- 1002h.02 (R569). -/
def Obj.HB_SENT : Nat := 0x100202
/-- 1003h.00 (R569). -/
def Obj.TIME_MASTER_MAC : Nat := 0x100300
/-- 1003h.01 (R569). -/
def Obj.TIME_STATE : Nat := 0x100301
/-- 1003h.02 (R569). -/
def Obj.TIME_OFFSET : Nat := 0x100302
/-- 1003h.03 (R569). -/
def Obj.WALL_TIME : Nat := 0x100303
/-- 1004h.00 (R569). -/
def Obj.EMCY_DEST_MAC : Nat := 0x100400
/-- 1004h.01 (R569). -/
def Obj.EMCY_SEQ : Nat := 0x100401
/-- 1004h.02 (R569). -/
def Obj.EMCY_DROPPED : Nat := 0x100402
/-- 1005h.00 (R569). -/
def Obj.KDAP_RX (u : UnitId) : Nat := 0x100500 + unitBase u
/-- 1005h.01 (R569). -/
def Obj.KDAP_TX (u : UnitId) : Nat := 0x100501 + unitBase u
/-- 1005h.02 (R569). -/
def Obj.KDAP_DROPPED (u : UnitId) : Nat := 0x100502 + unitBase u
/-- 1005h.03 (R569). -/
def Obj.KDAP_ABORTS (u : UnitId) : Nat := 0x100503 + unitBase u
/-- 1005h.04 (R569). -/
def Obj.PLCA_CONFLICTS (u : UnitId) : Nat := 0x100504 + unitBase u
/-- 1010h.00 (R569). -/
def Obj.SAVE_PENDING : Nat := 0x101000
/-- 1010h.01 (R569). -/
def Obj.SETTINGS_GEN : Nat := 0x101001
/-- 1010h.02 (R569). -/
def Obj.RESTORE_DEFAULTS : Nat := 0x101002
/-- 1020h.00 (R569). -/
def Obj.AUTH_CHALLENGE (u : UnitId) : Nat := 0x102000 + unitBase u
/-- 1020h.01 (R569). -/
def Obj.AUTH_RESPONSE (u : UnitId) : Nat := 0x102001 + unitBase u
/-- 1020h.02 (R569). -/
def Obj.AUTH_STATE (u : UnitId) : Nat := 0x102002 + unitBase u
/-- 1020h.03 (R569). -/
def Obj.AUTH_WINDOW (u : UnitId) : Nat := 0x102003 + unitBase u
/-- 1020h.04 (R569). -/
def Obj.AUTH_CLOSE (u : UnitId) : Nat := 0x102004 + unitBase u
/-- 1020h.05 (R569). -/
def Obj.AUTH_FAILS (u : UnitId) : Nat := 0x102005 + unitBase u
/-- 5F08h.00 (R588). -/
def Obj.MON_STATE (u : UnitId) : Nat := 0x5F0800 + unitBase u
/-- 5F08h.01 (R588). -/
def Obj.MON_BAUD (u : UnitId) : Nat := 0x5F0801 + unitBase u
/-- 5F08h.02 (R588). -/
def Obj.MON_LOCK (u : UnitId) : Nat := 0x5F0802 + unitBase u
/-- 5F08h.03 (R588). -/
def Obj.MON_LINES (u : UnitId) : Nat := 0x5F0803 + unitBase u
/-- 5F08h.04 (R588). -/
def Obj.MON_DROPPED (u : UnitId) : Nat := 0x5F0804 + unitBase u
/-- 5F00h.00 (R589). -/
def Obj.MONDIS (u : UnitId) : Nat := 0x5F0000 + unitBase u
/-- 5F00h.01 (R589). -/
def Obj.MONDIS_BLOW (u : UnitId) : Nat := 0x5F0001 + unitBase u
/-- 5F00h.02 (R589). -/
def Obj.FW_KEY_HASH (u : UnitId) : Nat := 0x5F0002 + unitBase u
/-- 5F00h.03 (R589). -/
def Obj.FW_MIN_SVN (u : UnitId) : Nat := 0x5F0003 + unitBase u
/-- 5F00h.04 (R589). -/
def Obj.MGMT_KEY (u : UnitId) : Nat := 0x5F0004 + unitBase u
/-- 5F00h.05 (R589). -/
def Obj.ER_KEY (u : UnitId) : Nat := 0x5F0005 + unitBase u
/-- 5F00h.06 (R589). -/
def Obj.KEYS_SET (u : UnitId) : Nat := 0x5F0006 + unitBase u
/-- 5F00h.07 (R589). -/
def Obj.MAC_BASE (u : UnitId) : Nat := 0x5F0007 + unitBase u
/-- 5F00h.08 (R589). -/
def Obj.FUSE_RESULT (u : UnitId) : Nat := 0x5F0008 + unitBase u
/-- 5F01h.00 (R589). -/
def Obj.PACE_REQUIRED (u : UnitId) : Nat := 0x5F0100 + unitBase u
/-- 5F01h.01 (R589). -/
def Obj.SENSOR_CAL (u : UnitId) : Nat := 0x5F0101 + unitBase u
/-- 8000h.00 (R592). -/
def Obj.RAW_TARGET (p a : Nat) : Nat := 0x800000 + p * 0x1000 + a * 0x100
/-- 8000h.01 (R592). -/
def Obj.RAW_COMMAND (p a : Nat) : Nat := 0x800001 + p * 0x1000 + a * 0x100
/-- 8000h.02 (R592). -/
def Obj.RAW_STATE (p a : Nat) : Nat := 0x800002 + p * 0x1000 + a * 0x100
/-- 8000h.03 (R592). -/
def Obj.RAW_DATA (p a : Nat) : Nat := 0x800003 + p * 0x1000 + a * 0x100
/-- 8000h.04 (R592). -/
def Obj.RAW_RESULT (p a : Nat) : Nat := 0x800004 + p * 0x1000 + a * 0x100
/-- 9000h.00 (R592). -/
def Obj.BUF_WIN_ADDR (u : UnitId) : Nat := 0x900000 + unitBase u
/-- 9000h.01 (R592). -/
def Obj.BUF_WIN_DATA (u : UnitId) : Nat := 0x900001 + unitBase u
/-- 3070h.08 (R520). -/
def Obj.PORT_FLT_STATUS (p : Nat) : Nat := 0x307008 + p * 0x10000
/-- 3070h.09 (R520). -/
def Obj.PORT_FLT_INT_EN (p : Nat) : Nat := 0x307009 + p * 0x10000

/-- The object rows of one chapter (mode), as its table gives them. -/
def objRows_mode : List ObjRow :=
  [⟨0x1100, 0x00, 0x00, .enum, .ro, 2, 0, 255, false, false⟩,
   ⟨0x1100, 0x01, 0x01, .enum, .ro, 0, 0, 255, false, false⟩,
   ⟨0x1100, 0x02, 0x02, .enum, .ro, 0, 0, 255, false, false⟩,
   ⟨0x1100, 0x03, 0x03, .uint 8, .ro, 0, 0, 18446744073709551615, false, false⟩,
   ⟨0x1100, 0x04, 0x04, .bool, .ro, 0, 0, 1, false, false⟩,
   ⟨0x1100, 0x05, 0x05, .enum, .ro, 0, 0, 255, false, false⟩,
   ⟨0x1100, 0x06, 0x06, .uint 4, .ro, 0, 0, 4294967295, false, true⟩,
   ⟨0x1101, 0x00, 0x00, .enum, .rw, 4, 2, 10, false, true⟩]

/-- The object rows of one chapter (port), as its table gives them. -/
def objRows_port : List ObjRow :=
  [⟨0x3000, 0x00, 0x00, .enum, .ro, 0, 0, 255, false, false⟩,
   ⟨0x3000, 0x01, 0x01, .enum, .wo, 0, 1, 3, false, false⟩,
   ⟨0x3000, 0x02, 0x02, .enum, .ro, 0, 0, 255, false, false⟩,
   ⟨0x3000, 0x03, 0x03, .uint 8, .ro, 0, 0, 18446744073709551615, false, false⟩,
   ⟨0x3000, 0x04, 0x04, .bool, .rw, 1, 0, 1, false, true⟩,
   ⟨0x3000, 0x05, 0x05, .uint 4, .ro, 0, 0, 4294967295, false, true⟩,
   ⟨0x3000, 0x06, 0x06, .enum, .ro, 0, 0, 255, false, true⟩,
   ⟨0x3001, 0x00, 0x00, .str, .ro, 0, 0, 0, false, false⟩,
   ⟨0x3001, 0x01, 0x01, .uint 2, .ro, 0, 0, 65535, false, false⟩,
   ⟨0x3001, 0x02, 0x02, .uint 1, .ro, 0, 0, 255, false, false⟩,
   ⟨0x3001, 0x03, 0x03, .uint 1, .ro, 0, 0, 255, false, false⟩,
   ⟨0x3001, 0x04, 0x04, .uint 4, .ro, 0, 0, 4294967295, false, false⟩,
   ⟨0x3010, 0x00, 0x00, .uint 2, .ro, 0, 0, 65535, false, false⟩,
   ⟨0x3010, 0x01, 0x01, .uint 4, .ro, 0, 0, 4294967295, false, false⟩,
   ⟨0x3010, 0x02, 0x02, .uint 1, .ro, 0, 0, 255, false, false⟩,
   ⟨0x3010, 0x03, 0x03, .uint 4, .ro, 0, 0, 4294967295, false, false⟩,
   ⟨0x3010, 0x04, 0x04, .uint 2, .rw, 64, 1, 65535, false, true⟩,
   ⟨0x3010, 0x05, 0x05, .uint 4, .ro, 0, 0, 4294967295, false, false⟩,
   ⟨0x3010, 0x06, 0x06, .enum, .ro, 0, 0, 255, false, false⟩,
   ⟨0x3011, 0x00, 0x0F, .uint 4, .ro, 0, 0, 4294967295, false, false⟩,
   ⟨0x3070, 0x00, 0x00, .enum, .rw, 1, 0, 2, false, true⟩,
   ⟨0x3070, 0x01, 0x01, .enum, .ro, 1, 0, 255, false, false⟩,
   ⟨0x3070, 0x02, 0x02, .enum, .ro, 1, 0, 255, false, false⟩,
   ⟨0x3070, 0x03, 0x03, .uint 1, .ro, 0, 0, 255, false, false⟩,
   ⟨0x3070, 0x04, 0x04, .uint 1, .ro, 0, 0, 255, false, false⟩,
   ⟨0x3070, 0x05, 0x05, .uint 4, .ro, 0, 0, 4294967295, false, false⟩,
   ⟨0x3070, 0x06, 0x06, .uint 4, .ro, 0, 0, 4294967295, false, false⟩,
   ⟨0x3070, 0x07, 0x07, .uint 2, .ro, 0, 0, 65535, false, false⟩]

/-- The object rows of one chapter (chan), as its table gives them. -/
def objRows_chan : List ObjRow :=
  [⟨0x3050, 0x00, 0x00, .uint 2, .rw, 0, 0, 65535, false, false⟩,
   ⟨0x3050, 0x01, 0x01, .uint 2, .rw, 0, 0, 65535, false, true⟩,
   ⟨0x3050, 0x02, 0x02, .enum, .rw, 1, 0, 1, false, true⟩,
   ⟨0x3050, 0x03, 0x03, .enum, .ro, 0, 0, 255, false, false⟩,
   ⟨0x3050, 0x04, 0x04, .uint 2, .ro, 0, 0, 65535, false, false⟩,
   ⟨0x3051, 0x00, 0x00, .uint 1, .rw, 24, 1, 24, false, true⟩,
   ⟨0x3051, 0x01, 0x01, .uint 1, .rw, 64, 24, 64, false, true⟩,
   ⟨0x3051, 0x02, 0x02, .uint 1, .rw, 2, 1, 4, false, true⟩,
   ⟨0x3051, 0x03, 0x03, .uint 1, .rw, 127, 0, 255, false, true⟩,
   ⟨0x3051, 0x04, 0x04, .uint 1, .rw, 12, 7, 24, false, true⟩,
   ⟨0x3051, 0x05, 0x05, .uint 1, .rw, 48, 8, 255, false, true⟩,
   ⟨0x3051, 0x06, 0x06, .bool, .rw, 1, 0, 1, false, true⟩,
   ⟨0x3052, 0x00, 0x00, .domain 131072 131072, .rwq, 0, 0, 0, false, true⟩,
   ⟨0x3053, 0x00, 0x00, .uint 8, .ro, 0, 0, 18446744073709551615, false, true⟩,
   ⟨0x3053, 0x01, 0x01, .uint 4, .ro, 0, 0, 4294967295, false, true⟩,
   ⟨0x3053, 0x02, 0x02, .uint 4, .ro, 0, 0, 4294967295, false, true⟩,
   ⟨0x3053, 0x03, 0x03, .uint 4, .ro, 0, 0, 4294967295, false, true⟩,
   ⟨0x3053, 0x04, 0x0A, .uint 4, .ro, 0, 0, 4294967295, false, true⟩,
   ⟨0x3053, 0x0B, 0x0B, .uint 4, .ro, 0, 0, 4294967295, false, true⟩,
   ⟨0x3053, 0x0C, 0x0C, .uint 4, .ro, 0, 0, 4294967295, false, true⟩,
   ⟨0x3054, 0x00, 0x00, .uint 8, .ro, 0, 0, 18446744073709551615, false, false⟩,
   ⟨0x3054, 0x01, 0x01, .uint 8, .ro, 0, 0, 18446744073709551615, false, false⟩,
   ⟨0x3054, 0x02, 0x02, .enum, .ro, 0, 0, 255, false, false⟩]

/-- The object rows of one chapter (fmt), as its table gives them. -/
def objRows_fmt : List ObjRow :=
  [⟨0x3055, 0x00, 0x00, .uint 4, .rwq, 255164845, 0, 4294967295, false, true⟩,
   ⟨0x3055, 0x01, 0x01, .uint 1, .rw, 4, 0, 8, false, true⟩,
   ⟨0x3055, 0x02, 0x02, .uint 2, .rwq, 3885, 0, 65535, false, true⟩,
   ⟨0x3055, 0x03, 0x03, .uint 1, .rw, 3, 0, 6, false, true⟩,
   ⟨0x3055, 0x04, 0x04, .uint 2, .rw, 960, 64, 3840, false, true⟩,
   ⟨0x3055, 0x05, 0x05, .uint 4, .ro, 0, 0, 4294967295, false, false⟩,
   ⟨0x3055, 0x06, 0x06, .uint 4, .ro, 0, 0, 4294967295, false, false⟩,
   ⟨0x3055, 0x07, 0x07, .uint 4, .ro, 0, 0, 4294967295, false, false⟩,
   ⟨0x3056, 0x00, 0x00, .uint 1, .rw, 8, 1, 24, false, true⟩,
   ⟨0x3056, 0x01, 0x01, .uint 2, .rw, 600, 0, 3840, false, true⟩,
   ⟨0x3056, 0x02, 0x02, .uint 1, .rw, 2, 0, 4, false, true⟩,
   ⟨0x3056, 0x03, 0x03, .uint 2, .rw, 16, 1, 1000, false, true⟩,
   ⟨0x3056, 0x04, 0x04, .uint 8, .ro, 0, 0, 18446744073709551615, false, false⟩,
   ⟨0x3056, 0x05, 0x05, .uint 4, .ro, 0, 0, 4294967295, false, false⟩,
   ⟨0x3056, 0x06, 0x06, .uint 4, .ro, 0, 0, 4294967295, false, false⟩,
   ⟨0x3056, 0x07, 0x07, .uint 4, .ro, 0, 0, 4294967295, false, false⟩,
   ⟨0x3056, 0x08, 0x08, .uint 4, .ro, 0, 0, 4294967295, false, false⟩,
   ⟨0x3057, 0x00, 0x00, .domain 16384 16384, .rwq, 0, 0, 0, false, true⟩,
   ⟨0x3057, 0x01, 0x01, .domain 4096 4096, .rwq, 0, 0, 0, false, true⟩,
   ⟨0x3057, 0x02, 0x02, .domain 256 256, .rwq, 0, 0, 0, false, true⟩,
   ⟨0x3057, 0x03, 0x03, .uint 2, .rw, 0, 0, 65535, false, false⟩,
   ⟨0x3057, 0x04, 0x04, .uint 2, .rw, 0, 0, 65535, false, true⟩,
   ⟨0x3057, 0x05, 0x05, .domain 64 64, .ro, 0, 0, 0, false, false⟩]

/-- The object rows of one chapter (seq), as its table gives them. -/
def objRows_seq : List ObjRow :=
  [⟨0x4500, 0x00, 0x00, .uint 4, .ro, 0, 0, 4294967295, false, false⟩,
   ⟨0x4500, 0x01, 0x01, .uint 4, .ro, 0, 0, 4294967295, false, false⟩,
   ⟨0x4500, 0x02, 0x02, .enum, .ro, 0, 0, 255, false, false⟩,
   ⟨0x4500, 0x03, 0x03, .enum, .wo, 0, 1, 4, false, false⟩,
   ⟨0x4500, 0x04, 0x04, .enum, .ro, 0, 0, 255, false, false⟩,
   ⟨0x4500, 0x05, 0x05, .uint 2, .rw, 1000, 10, 8000, false, true⟩,
   ⟨0x4501, 0x00, 0x00, .domain 41280 41280, .rwq, 0, 0, 0, false, false⟩,
   ⟨0x4502, 0x01, 0x01, .uint 2, .rw, 1, 1, 65535, false, true⟩,
   ⟨0x4502, 0x02, 0x02, .uint 2, .rw, 2, 1, 65535, false, true⟩,
   ⟨0x4502, 0x03, 0x03, .uint 2, .rw, 4, 1, 65535, false, true⟩,
   ⟨0x4502, 0x04, 0x04, .uint 2, .rw, 8, 1, 65535, false, true⟩,
   ⟨0x4502, 0x05, 0x05, .uint 2, .rw, 16, 1, 65535, false, true⟩,
   ⟨0x4502, 0x06, 0x06, .uint 2, .rw, 32, 1, 65535, false, true⟩,
   ⟨0x4502, 0x07, 0x07, .uint 2, .rw, 64, 1, 65535, false, true⟩,
   ⟨0x4502, 0x08, 0x08, .uint 2, .rw, 128, 1, 65535, false, true⟩,
   ⟨0x4502, 0x09, 0x09, .uint 2, .rw, 256, 1, 65535, false, true⟩,
   ⟨0x4502, 0x0A, 0x0A, .uint 2, .rw, 512, 1, 65535, false, true⟩,
   ⟨0x4502, 0x0B, 0x0B, .uint 2, .rw, 1024, 1, 65535, false, true⟩,
   ⟨0x4502, 0x0C, 0x0C, .uint 2, .rw, 2048, 1, 65535, false, true⟩,
   ⟨0x4502, 0x0D, 0x0D, .uint 2, .rw, 4096, 1, 65535, false, true⟩,
   ⟨0x4502, 0x0E, 0x0E, .uint 2, .rw, 8192, 1, 65535, false, true⟩,
   ⟨0x4502, 0x0F, 0x0F, .uint 2, .rw, 16384, 1, 65535, false, true⟩,
   ⟨0x4540, 0x00, 0x00, .uint 2, .rw, 0, 0, 65535, false, false⟩,
   ⟨0x4540, 0x01, 0x01, .uint 2, .rw, 0, 0, 65535, false, true⟩,
   ⟨0x4540, 0x02, 0x02, .uint 2, .ro, 0, 0, 65535, false, false⟩,
   ⟨0x4540, 0x03, 0x03, .enum, .ro, 0, 0, 255, false, false⟩,
   ⟨0x4540, 0x04, 0x04, .uint 4, .ro, 0, 0, 4294967295, false, false⟩,
   ⟨0x4540, 0x05, 0x05, .uint 4, .ro, 0, 0, 4294967295, false, false⟩,
   ⟨0x4540, 0x06, 0x06, .uint 1, .ro, 0, 0, 255, false, false⟩,
   ⟨0x4540, 0x07, 0x07, .uint 4, .rw, 4294967295, 0, 4294967295, false, true⟩,
   ⟨0x4540, 0x08, 0x08, .uint 4, .ro, 0, 0, 4294967295, false, false⟩,
   ⟨0x4540, 0x09, 0x09, .uint 2, .ro, 0, 0, 65535, false, false⟩,
   ⟨0x4540, 0x0A, 0x0A, .uint 4, .ro, 0, 0, 4294967295, false, false⟩]

/-- The object rows of one chapter (servo), as its table gives them. -/
def objRows_servo : List ObjRow :=
  [⟨0x3030, 0x00, 0x00, .enum, .ro, 0, 0, 255, false, false⟩,
   ⟨0x3030, 0x01, 0x01, .enum, .wo, 0, 1, 3, false, false⟩,
   ⟨0x3030, 0x02, 0x02, .uint 1, .ro, 0, 0, 255, false, false⟩,
   ⟨0x3030, 0x03, 0x03, .uint 1, .ro, 0, 0, 255, false, false⟩,
   ⟨0x3030, 0x04, 0x04, .uint 4, .ro, 0, 0, 4294967295, false, false⟩,
   ⟨0x3030, 0x05, 0x05, .sint 4, .ro, 0, (-2147483648), 2147483647, false, false⟩,
   ⟨0x3030, 0x06, 0x06, .uint 4, .ro, 0, 0, 4294967295, false, false⟩,
   ⟨0x3030, 0x07, 0x07, .uint 1, .ro, 0, 0, 255, false, false⟩,
   ⟨0x3030, 0x08, 0x08, .uint 2, .rw, 0, 0, 65535, false, false⟩,
   ⟨0x3030, 0x09, 0x09, .uint 2, .rw, 0, 0, 65535, false, true⟩,
   ⟨0x3030, 0x0A, 0x0A, .bool, .ro, 0, 0, 1, false, false⟩,
   ⟨0x3031, 0x00, 0x00, .domain 384 384, .rw, 0, 0, 0, false, true⟩,
   ⟨0x3031, 0x01, 0x01, .domain 384 384, .rw, 0, 0, 0, false, true⟩,
   ⟨0x3031, 0x02, 0x02, .domain 384 384, .rw, 0, 0, 0, false, true⟩,
   ⟨0x3031, 0x03, 0x03, .domain 384 384, .rw, 0, 0, 0, false, true⟩,
   ⟨0x3031, 0x04, 0x04, .uint 1, .ro, 0, 0, 255, false, false⟩,
   ⟨0x3031, 0x05, 0x05, .uint 1, .ro, 0, 0, 255, false, false⟩,
   ⟨0x3031, 0x06, 0x06, .enum, .wo, 0, 0, 255, false, false⟩,
   ⟨0x3032, 0x00, 0x00, .uint 4, .rw, 134217728, 65536, 536870912, false, true⟩,
   ⟨0x3032, 0x01, 0x01, .uint 4, .rw, 1048576, 16384, 16777216, false, true⟩,
   ⟨0x3032, 0x02, 0x02, .sint 4, .rw, 0, (-2147483648), 2147483647, false, true⟩,
   ⟨0x3032, 0x03, 0x03, .uint 1, .rw, 4, 0, 16, false, true⟩,
   ⟨0x3032, 0x04, 0x04, .uint 2, .rw, 6554, 0, 65535, false, true⟩,
   ⟨0x3032, 0x05, 0x05, .uint 1, .rw, 3, 1, 16, false, true⟩,
   ⟨0x3032, 0x06, 0x06, .uint 2, .rw, 40, 5, 1000, false, true⟩,
   ⟨0x3033, 0x00, 0x00, .uint 2, .rw, 5243, 0, 65535, false, true⟩,
   ⟨0x3033, 0x01, 0x01, .uint 2, .rw, 16384, 0, 65535, false, true⟩,
   ⟨0x3033, 0x02, 0x02, .uint 1, .rw, 1, 1, 4, false, true⟩,
   ⟨0x3033, 0x03, 0x03, .uint 1, .rw, 3, 1, 8, false, true⟩,
   ⟨0x3033, 0x04, 0x04, .uint 2, .rw, 20, 1, 1000, false, true⟩,
   ⟨0x3033, 0x05, 0x05, .uint 2, .rw, 500, 100, 2000, false, true⟩,
   ⟨0x3033, 0x06, 0x06, .uint 1, .rw, 3, 0, 8, false, true⟩,
   ⟨0x3033, 0x07, 0x07, .uint 1, .rw, 176, 128, 255, false, true⟩,
   ⟨0x3033, 0x08, 0x08, .uint 2, .rw, 150, 0, 5000, false, true⟩,
   ⟨0x3034, 0x00, 0x00, .uint 2, .rwq, 422, 0, 4095, false, true⟩,
   ⟨0x3034, 0x01, 0x01, .uint 1, .rw, 1, 0, 3, false, true⟩,
   ⟨0x3034, 0x02, 0x02, .uint 1, .rw, 16, 4, 64, false, true⟩,
   ⟨0x3034, 0x03, 0x03, .uint 1, .rw, 32, 1, 255, false, true⟩,
   ⟨0x3034, 0x04, 0x04, .uint 2, .rw, 65535, 0, 65535, false, true⟩,
   ⟨0x3034, 0x05, 0x05, .domain 1060 1060, .rwq, 0, 0, 0, false, true⟩] ++
  [⟨0x3034, 0x06, 0x06, .domain 48 48, .rwq, 0, 0, 0, false, true⟩,
   ⟨0x3034, 0x07, 0x07, .sint 2, .rw, 200, 1, 2047, false, true⟩,
   ⟨0x3034, 0x08, 0x08, .sint 2, .rw, 65136, (-2047), (-1), false, true⟩,
   ⟨0x3034, 0x09, 0x09, .uint 2, .rw, 512, 0, 65535, false, true⟩,
   ⟨0x3034, 0x0A, 0x0A, .uint 2, .rw, 6554, 0, 65535, false, true⟩,
   ⟨0x3035, 0x00, 0x00, .uint 4, .ro, 0, 0, 4294967295, false, false⟩,
   ⟨0x3035, 0x01, 0x01, .uint 4, .ro, 0, 0, 4294967295, false, false⟩,
   ⟨0x3035, 0x02, 0x02, .uint 4, .ro, 0, 0, 4294967295, false, false⟩,
   ⟨0x3035, 0x03, 0x03, .uint 4, .ro, 0, 0, 4294967295, false, false⟩,
   ⟨0x3035, 0x04, 0x04, .uint 4, .ro, 0, 0, 4294967295, false, false⟩,
   ⟨0x3035, 0x05, 0x05, .uint 4, .ro, 0, 0, 4294967295, false, false⟩,
   ⟨0x3035, 0x06, 0x06, .uint 4, .ro, 0, 0, 4294967295, false, false⟩,
   ⟨0x3035, 0x07, 0x07, .uint 4, .ro, 0, 0, 4294967295, false, false⟩,
   ⟨0x3035, 0x08, 0x08, .uint 4, .ro, 0, 0, 4294967295, false, false⟩,
   ⟨0x3035, 0x09, 0x09, .uint 4, .ro, 0, 0, 4294967295, false, false⟩,
   ⟨0x3035, 0x0A, 0x0A, .uint 4, .ro, 0, 0, 4294967295, false, false⟩,
   ⟨0x3035, 0x0B, 0x0B, .uint 4, .ro, 0, 0, 4294967295, false, false⟩,
   ⟨0x3035, 0x0C, 0x0C, .uint 4, .ro, 0, 0, 4294967295, false, false⟩]

/-- The object rows of one chapter (spindle), as its table gives them. -/
def objRows_spindle : List ObjRow :=
  [⟨0x3020, 0x00, 0x00, .enum, .ro, 0, 0, 255, false, false⟩,
   ⟨0x3020, 0x01, 0x01, .uint 2, .rw, 0, 0, 65535, false, false⟩,
   ⟨0x3020, 0x02, 0x02, .uint 2, .rw, 0, 0, 65535, false, true⟩,
   ⟨0x3020, 0x03, 0x03, .uint 4, .ro, 0, 0, 4294967295, false, false⟩,
   ⟨0x3020, 0x04, 0x04, .sint 4, .ro, 0, (-2147483648), 2147483647, false, false⟩,
   ⟨0x3020, 0x05, 0x05, .uint 2, .ro, 0, 0, 65535, false, false⟩,
   ⟨0x3020, 0x06, 0x06, .uint 2, .ro, 4095, 0, 65535, false, false⟩,
   ⟨0x3020, 0x07, 0x07, .enum, .ro, 0, 0, 255, false, false⟩,
   ⟨0x3020, 0x08, 0x08, .uint 4, .ro, 0, 0, 4294967295, false, false⟩,
   ⟨0x3020, 0x09, 0x09, .bool, .ro, 0, 0, 1, false, false⟩,
   ⟨0x3021, 0x00, 0x00, .uint 1, .ro, 0, 0, 255, false, false⟩,
   ⟨0x3021, 0x01, 0x01, .uint 2, .ro, 0, 0, 65535, false, false⟩,
   ⟨0x3021, 0x02, 0x02, .uint 2, .ro, 0, 0, 65535, false, false⟩,
   ⟨0x3021, 0x03, 0x03, .uint 4, .ro, 0, 0, 4294967295, false, false⟩,
   ⟨0x3021, 0x04, 0x04, .uint 1, .rw, 0, 0, 64, false, true⟩,
   ⟨0x3021, 0x05, 0x05, .uint 1, .rw, 20, 4, 100, false, true⟩,
   ⟨0x3021, 0x06, 0x06, .uint 1, .rw, 48, 0, 128, false, true⟩,
   ⟨0x3021, 0x07, 0x07, .uint 1, .rw, 64, 16, 128, false, true⟩,
   ⟨0x3021, 0x08, 0x08, .uint 1, .rw, 16, 4, 64, false, true⟩,
   ⟨0x3021, 0x09, 0x09, .uint 2, .rw, 600, 0, 4095, false, true⟩,
   ⟨0x3021, 0x0A, 0x0A, .uint 2, .rw, 300, 50, 2000, false, true⟩,
   ⟨0x3021, 0x0B, 0x0B, .uint 2, .rw, 20000, 2000, 60000, false, true⟩,
   ⟨0x3021, 0x0C, 0x0C, .uint 2, .rw, 60, 5, 1000, false, true⟩,
   ⟨0x3021, 0x0D, 0x0D, .uint 2, .rw, 800, 0, 4095, false, true⟩,
   ⟨0x3021, 0x0E, 0x0E, .uint 2, .rw, 1500, 200, 5000, false, true⟩,
   ⟨0x3021, 0x0F, 0x0F, .uint 2, .rw, 3000, 500, 30000, false, true⟩,
   ⟨0x3021, 0x10, 0x10, .uint 2, .rw, 64, 0, 65535, false, true⟩,
   ⟨0x3021, 0x11, 0x11, .uint 2, .rw, 4, 0, 65535, false, true⟩,
   ⟨0x3021, 0x12, 0x12, .uint 2, .rw, 200, 10, 5000, false, true⟩,
   ⟨0x3021, 0x13, 0x13, .uint 2, .rw, 2000, 200, 5000, false, true⟩,
   ⟨0x3022, 0x00, 0x00, .uint 4, .ro, 0, 0, 4294967295, false, true⟩,
   ⟨0x3022, 0x01, 0x01, .uint 4, .ro, 0, 0, 4294967295, false, true⟩,
   ⟨0x3022, 0x02, 0x02, .uint 4, .ro, 0, 0, 4294967295, false, true⟩,
   ⟨0x3022, 0x03, 0x03, .uint 4, .ro, 0, 0, 4294967295, false, true⟩,
   ⟨0x3022, 0x04, 0x04, .uint 4, .ro, 0, 0, 4294967295, false, true⟩,
   ⟨0x3022, 0x05, 0x05, .uint 4, .ro, 0, 0, 4294967295, false, true⟩,
   ⟨0x3022, 0x06, 0x06, .uint 4, .ro, 0, 0, 4294967295, false, true⟩,
   ⟨0x3022, 0x07, 0x07, .uint 4, .ro, 0, 0, 4294967295, false, true⟩,
   ⟨0x3022, 0x08, 0x08, .uint 4, .ro, 0, 0, 4294967295, false, true⟩,
   ⟨0x1130, 0x00, 0x00, .uint 2, .rwq, 7200, 4800, 7200, false, true⟩] ++
  [⟨0x1130, 0x01, 0x01, .uint 8, .ro, 0, 0, 18446744073709551615, false, false⟩,
   ⟨0x1130, 0x02, 0x02, .sint 4, .ro, 0, (-2147483648), 2147483647, false, false⟩,
   ⟨0x1130, 0x03, 0x03, .uint 2, .ro, 0, 0, 65535, false, false⟩]

/-- The object rows of one chapter (os), as its table gives them. -/
def objRows_os : List ObjRow :=
  [⟨0x2000, 0x00, 0x00, .enum, .ro, 0, 0, 255, false, false⟩,
   ⟨0x2000, 0x01, 0x01, .uint 2, .rw, 0, 0, 65535, false, false⟩,
   ⟨0x2000, 0x02, 0x02, .uint 2, .rw, 0, 0, 65535, false, true⟩,
   ⟨0x2000, 0x03, 0x03, .uint 1, .ro, 0, 0, 255, false, false⟩,
   ⟨0x2000, 0x04, 0x04, .uint 1, .ro, 0, 0, 255, false, false⟩,
   ⟨0x2000, 0x05, 0x05, .uint 4, .ro, 0, 0, 4294967295, false, false⟩,
   ⟨0x2000, 0x06, 0x06, .enum, .rw, 0, 0, 255, false, true⟩,
   ⟨0x2000, 0x07, 0x07, .uint 1, .rw, 64, 8, 255, false, true⟩,
   ⟨0x2000, 0x08, 0x08, .uint 2, .rw, 2000, 0, 30000, false, true⟩,
   ⟨0x2000, 0x09, 0x09, .uint 8, .ro, 0, 0, 18446744073709551615, false, false⟩,
   ⟨0x2000, 0x0A, 0x0A, .uint 8, .ro, 0, 0, 18446744073709551615, false, false⟩,
   ⟨0x2001, 0x00, 0x00, .uint 8, .ro, 0, 0, 18446744073709551615, false, false⟩,
   ⟨0x2001, 0x01, 0x01, .uint 8, .ro, 0, 0, 18446744073709551615, false, false⟩,
   ⟨0x2001, 0x02, 0x02, .uint 8, .ro, 0, 0, 18446744073709551615, false, false⟩,
   ⟨0x2001, 0x03, 0x03, .uint 8, .ro, 0, 0, 18446744073709551615, false, false⟩,
   ⟨0x2001, 0x04, 0x04, .uint 8, .ro, 0, 0, 18446744073709551615, false, false⟩,
   ⟨0x2001, 0x05, 0x05, .uint 8, .ro, 0, 0, 18446744073709551615, false, false⟩,
   ⟨0x2001, 0x06, 0x06, .uint 8, .ro, 0, 0, 18446744073709551615, false, false⟩,
   ⟨0x2001, 0x07, 0x07, .uint 1, .rw, 1, 0, 3, false, true⟩,
   ⟨0x2001, 0x08, 0x08, .uint 1, .rw, 3, 1, 20, false, true⟩,
   ⟨0x2002, 0x00, 0x00, .enum, .ro, 0, 0, 255, false, false⟩,
   ⟨0x2002, 0x01, 0x01, .uint 8, .ro, 0, 0, 18446744073709551615, false, false⟩,
   ⟨0x2002, 0x02, 0x02, .uint 8, .ro, 0, 0, 18446744073709551615, false, false⟩,
   ⟨0x2002, 0x03, 0x03, .uint 8, .ro, 0, 0, 18446744073709551615, false, false⟩,
   ⟨0x2002, 0x04, 0x04, .uint 1, .rw, 30, 5, 100, false, true⟩,
   ⟨0x2002, 0x05, 0x05, .uint 4, .ro, 0, 0, 4294967295, false, false⟩,
   ⟨0x2002, 0x06, 0x06, .uint 4, .ro, 0, 0, 4294967295, false, false⟩,
   ⟨0x2003, 0x00, 0x00, .uint 4, .rw, 64, 8, 4096, false, true⟩,
   ⟨0x2003, 0x01, 0x01, .uint 1, .rw, 20, 5, 50, false, true⟩,
   ⟨0x2003, 0x02, 0x02, .uint 1, .rw, 50, 10, 90, false, true⟩,
   ⟨0x2003, 0x03, 0x03, .uint 8, .ro, 0, 0, 18446744073709551615, false, false⟩,
   ⟨0x2004, 0x00, 0x00, .uint 2, .rw, 2000, 100, 60000, false, true⟩,
   ⟨0x2004, 0x01, 0x01, .uint 8, .ro, 0, 0, 18446744073709551615, false, false⟩,
   ⟨0x2004, 0x02, 0x02, .uint 1, .ro, 0, 0, 255, false, false⟩,
   ⟨0x2005, 0x00, 0x1F, .domain 32 32, .ro, 0, 0, 0, false, false⟩,
   ⟨0x2010, 0x00, 0x00, .enum, .ro, 0, 0, 255, false, false⟩,
   ⟨0x2010, 0x01, 0x01, .enum, .wo, 0, 1, 2, false, false⟩,
   ⟨0x2010, 0x02, 0x02, .enum, .rw, 0, 0, 255, false, true⟩,
   ⟨0x2010, 0x03, 0x03, .enum, .rw, 2, 0, 255, false, true⟩,
   ⟨0x2010, 0x04, 0x04, .uint 1, .rw, 240, 128, 255, false, true⟩] ++
  [⟨0x2010, 0x05, 0x05, .uint 1, .rw, 1, 0, 2, false, true⟩,
   ⟨0x2010, 0x06, 0x06, .uint 2, .rw, 2000, 0, 50000, false, true⟩,
   ⟨0x2010, 0x07, 0x07, .uint 8, .rw, 0, 0, 18446744073709551615, false, true⟩,
   ⟨0x2010, 0x08, 0x08, .uint 8, .ro, 0, 0, 18446744073709551615, false, false⟩,
   ⟨0x2010, 0x09, 0x09, .uint 8, .ro, 0, 0, 18446744073709551615, false, false⟩,
   ⟨0x2010, 0x0A, 0x0A, .uint 8, .ro, 0, 0, 18446744073709551615, false, false⟩]

/-- The object rows of one chapter (host), as its table gives them. -/
def objRows_host : List ObjRow :=
  [⟨0x1300, 0x00, 0x00, .uint 2, .rw, 0, 0, 65535, false, false⟩,
   ⟨0x1300, 0x01, 0x01, .uint 2, .rw, 0, 0, 65535, false, true⟩,
   ⟨0x1300, 0x02, 0x02, .uint 2, .ro, 0, 0, 65535, false, false⟩,
   ⟨0x1300, 0x03, 0x03, .uint 2, .ro, 0, 0, 65535, false, false⟩,
   ⟨0x1300, 0x04, 0x04, .uint 4, .rw, 2048, 256, 3072, false, true⟩,
   ⟨0x1300, 0x05, 0x05, .uint 4, .ro, 0, 0, 4294967295, false, false⟩,
   ⟨0x1300, 0x06, 0x06, .uint 4, .ro, 0, 0, 4294967295, false, false⟩,
   ⟨0x1300, 0x07, 0x07, .uint 4, .ro, 0, 0, 4294967295, false, false⟩,
   ⟨0x1300, 0x08, 0x08, .uint 2, .ro, 0, 0, 65535, false, false⟩,
   ⟨0x1301, 0x00, 0x01, .enum, .ro, 0, 0, 255, false, false⟩,
   ⟨0x1301, 0x02, 0x03, .uint 1, .ro, 0, 0, 255, false, false⟩,
   ⟨0x1301, 0x04, 0x05, .uint 8, .ro, 0, 0, 18446744073709551615, false, false⟩,
   ⟨0x1301, 0x06, 0x07, .uint 2, .ro, 0, 0, 65535, false, false⟩,
   ⟨0x1302, 0x00, 0x00, .uint 8, .ro, 0, 0, 18446744073709551615, false, false⟩]

/-- The object rows of one chapter (buf), as its table gives them. -/
def objRows_buf : List ObjRow :=
  [⟨0x4000, 0x00, 0x00, .uint 2, .rw, 0, 0, 65535, false, false⟩,
   ⟨0x4000, 0x01, 0x01, .uint 2, .rw, 0, 0, 65535, false, true⟩,
   ⟨0x4000, 0x02, 0x02, .enum, .ro, 0, 0, 255, false, false⟩,
   ⟨0x4000, 0x03, 0x03, .enum, .ro, 1, 0, 255, false, false⟩,
   ⟨0x4000, 0x04, 0x04, .uint 1, .ro, 1, 0, 255, false, false⟩,
   ⟨0x4000, 0x05, 0x05, .uint 8, .ro, 0, 0, 18446744073709551615, false, false⟩,
   ⟨0x4000, 0x06, 0x06, .uint 8, .ro, 0, 0, 18446744073709551615, false, false⟩,
   ⟨0x4000, 0x07, 0x07, .uint 8, .ro, 0, 0, 18446744073709551615, false, false⟩,
   ⟨0x4000, 0x08, 0x08, .uint 4, .ro, 0, 0, 4294967295, false, false⟩,
   ⟨0x4000, 0x09, 0x09, .uint 4, .ro, 0, 0, 4294967295, false, false⟩,
   ⟨0x4000, 0x0A, 0x0A, .uint 2, .rw, 100, 10, 10000, false, true⟩,
   ⟨0x4000, 0x0B, 0x0B, .uint 2, .rw, 2000, 100, 20000, false, true⟩,
   ⟨0x4000, 0x0C, 0x0C, .uint 8, .ro, 0, 0, 18446744073709551615, false, false⟩,
   ⟨0x4001, 0x00, 0x00, .domain 768 768, .ro, 0, 0, 0, false, false⟩,
   ⟨0x4001, 0x01, 0x01, .uint 4, .ro, 0, 0, 4294967295, false, false⟩,
   ⟨0x4001, 0x02, 0x02, .enum, .wo, 0, 1, 1, false, false⟩,
   ⟨0x4002, 0x00, 0x00, .domain 2048 2048, .ro, 0, 0, 0, false, false⟩,
   ⟨0x4002, 0x01, 0x01, .uint 4, .wo, 0, 0, 4294967295, false, false⟩,
   ⟨0x4002, 0x02, 0x02, .enum, .ro, 0, 0, 255, false, false⟩,
   ⟨0x4002, 0x03, 0x03, .uint 2, .ro, 0, 0, 65535, false, false⟩,
   ⟨0x4002, 0x04, 0x04, .bool, .rw, 1, 0, 1, false, true⟩,
   ⟨0x4003, 0x00, 0x00, .uint 4, .rw, 0, 0, 11184127, false, true⟩,
   ⟨0x4003, 0x01, 0x01, .uint 4, .rw, 11184127, 0, 11184127, false, true⟩,
   ⟨0x4003, 0x02, 0x02, .enum, .wo, 0, 1, 2, false, false⟩,
   ⟨0x4003, 0x03, 0x03, .uint 2, .rw, 1000, 100, 20000, false, true⟩,
   ⟨0x4003, 0x04, 0x04, .uint 2, .rw, 24, 1, 720, true, true⟩,
   ⟨0x4003, 0x05, 0x05, .domain 48 48, .ro, 0, 0, 0, false, false⟩,
   ⟨0x4004, 0x00, 0x00, .enum, .rwq, 0, 0, 255, false, false⟩,
   ⟨0x4004, 0x01, 0x01, .uint 4, .rwq, 0, 0, 11184127, false, false⟩,
   ⟨0x4004, 0x02, 0x02, .uint 1, .rwq, 0, 0, 7, false, false⟩,
   ⟨0x4004, 0x03, 0x03, .uint 8, .rwq, 18374966859414961920, 0, 18446744073709551615, false, false⟩,
   ⟨0x4004, 0x04, 0x04, .uint 2, .rwq, 0, 0, 575, false, false⟩,
   ⟨0x4004, 0x05, 0x05, .uint 1, .rwq, 1, 1, 32, false, false⟩,
   ⟨0x4100, 0x00, 0x00, .uint 2, .rw, 0, 0, 65535, false, false⟩,
   ⟨0x4100, 0x01, 0x01, .uint 2, .rw, 0, 0, 65535, false, true⟩,
   ⟨0x4100, 0x02, 0x02, .enum, .ro, 0, 0, 255, false, false⟩,
   ⟨0x4100, 0x03, 0x03, .enum, .wo, 0, 1, 2, false, false⟩,
   ⟨0x4100, 0x04, 0x04, .uint 2, .rw, 65535, 0, 65535, false, true⟩,
   ⟨0x4100, 0x05, 0x05, .uint 2, .ro, 0, 0, 65535, false, false⟩,
   ⟨0x4100, 0x06, 0x06, .uint 2, .ro, 0, 0, 65535, false, false⟩] ++
  [⟨0x4100, 0x07, 0x07, .uint 4, .rwq, 0, 0, 4294967295, false, true⟩,
   ⟨0x4100, 0x08, 0x08, .uint 4, .rwq, 1024, 0, 4294967295, false, true⟩,
   ⟨0x4100, 0x09, 0x09, .uint 8, .ro, 0, 0, 18446744073709551615, false, false⟩,
   ⟨0x4100, 0x0A, 0x0A, .uint 8, .ro, 0, 0, 18446744073709551615, false, false⟩,
   ⟨0x4100, 0x0B, 0x0B, .uint 8, .ro, 0, 0, 18446744073709551615, false, false⟩,
   ⟨0x4100, 0x0C, 0x0C, .uint 8, .ro, 0, 0, 18446744073709551615, false, false⟩,
   ⟨0x4100, 0x0D, 0x0D, .uint 4, .ro, 0, 0, 4294967295, false, false⟩,
   ⟨0x4100, 0x0E, 0x0E, .uint 4, .ro, 0, 0, 4294967295, false, false⟩,
   ⟨0x4100, 0x0F, 0x0F, .uint 4, .ro, 0, 0, 4294967295, false, false⟩,
   ⟨0x4100, 0x10, 0x10, .uint 4, .ro, 0, 0, 4294967295, false, false⟩,
   ⟨0x4100, 0x11, 0x11, .uint 4, .ro, 0, 0, 4294967295, false, false⟩]

/-- The object rows of one chapter (dma), as its table gives them. -/
def objRows_dma : List ObjRow :=
  [⟨0x4300, 0x00, 0x00, .uint 1, .ro, 0, 0, 255, false, false⟩,
   ⟨0x4300, 0x01, 0x01, .uint 1, .rwq, 0, 0, 255, false, false⟩,
   ⟨0x4300, 0x02, 0x02, .enum, .ro, 0, 0, 255, false, false⟩,
   ⟨0x4300, 0x03, 0x03, .uint 1, .rwq, 0, 112, 255, false, false⟩,
   ⟨0x4300, 0x04, 0x04, .uint 8, .ro, 0, 0, 18446744073709551615, false, false⟩,
   ⟨0x4301, 0x00, 0x07, .uint 4, .rwq, 0, 0, 1000000, false, false⟩,
   ⟨0x4301, 0x08, 0x08, .uint 1, .rwq, 0, 0, 255, false, false⟩,
   ⟨0x4320, 0x00, 0x00, .enum, .rwq, 0, 1, 2, false, false⟩,
   ⟨0x4320, 0x01, 0x01, .uint 8, .rwq, 0, 0, 18446744073709551615, false, false⟩,
   ⟨0x4320, 0x02, 0x02, .uint 2, .rw, 0, 0, 65535, false, false⟩,
   ⟨0x4320, 0x03, 0x03, .uint 2, .rw, 128, 0, 65535, false, false⟩,
   ⟨0x4320, 0x04, 0x04, .enum, .ro, 0, 0, 255, false, false⟩,
   ⟨0x4320, 0x05, 0x05, .uint 1, .rwq, 0, 0, 1, false, false⟩,
   ⟨0x4320, 0x06, 0x06, .uint 4, .ro, 0, 0, 4294967295, false, false⟩,
   ⟨0x4320, 0x07, 0x07, .uint 8, .ro, 0, 0, 18446744073709551615, false, false⟩,
   ⟨0x4320, 0x08, 0x08, .uint 8, .ro, 0, 0, 18446744073709551615, false, false⟩,
   ⟨0x4320, 0x09, 0x09, .uint 1, .ro, 0, 0, 255, false, false⟩,
   ⟨0x4400, 0x00, 0x00, .uint 2, .ro, 65535, 0, 65535, false, false⟩,
   ⟨0x4410, 0x00, 0x00, .uint 2, .rw, 0, 0, 65535, false, false⟩,
   ⟨0x4410, 0x01, 0x01, .uint 2, .rw, 0, 0, 65535, false, false⟩,
   ⟨0x4410, 0x02, 0x02, .uint 8, .rwq, 0, 0, 18446744073709551615, false, false⟩,
   ⟨0x4410, 0x03, 0x03, .uint 1, .rwq, 0, 0, 63, false, false⟩,
   ⟨0x4410, 0x04, 0x04, .uint 1, .ro, 0, 0, 255, false, false⟩,
   ⟨0x4410, 0x05, 0x05, .uint 8, .ro, 0, 0, 18446744073709551615, false, false⟩,
   ⟨0x4410, 0x06, 0x06, .uint 4, .ro, 0, 0, 4294967295, false, false⟩,
   ⟨0x4410, 0x07, 0x07, .uint 8, .ro, 0, 0, 18446744073709551615, false, false⟩,
   ⟨0x4410, 0x08, 0x08, .uint 8, .ro, 0, 0, 18446744073709551615, false, false⟩,
   ⟨0x4410, 0x09, 0x09, .uint 4, .ro, 0, 0, 4294967295, false, false⟩,
   ⟨0x4410, 0x0A, 0x0A, .uint 4, .ro, 0, 0, 4294967295, false, false⟩]

/-- The object rows of one chapter (casc), as its table gives them. -/
def objRows_casc : List ObjRow :=
  [⟨0x1102, 0x00, 0x00, .uint 8, .ro, 0, 0, 18446744073709551615, false, false⟩,
   ⟨0x1102, 0x01, 0x01, .uint 8, .ro, 0, 0, 18446744073709551615, false, false⟩,
   ⟨0x1102, 0x02, 0x02, .uint 8, .ro, 0, 0, 18446744073709551615, false, false⟩,
   ⟨0x1102, 0x03, 0x03, .uint 8, .ro, 0, 0, 18446744073709551615, false, false⟩,
   ⟨0x1102, 0x04, 0x04, .uint 8, .ro, 0, 0, 18446744073709551615, false, false⟩,
   ⟨0x1102, 0x05, 0x05, .uint 8, .ro, 0, 0, 18446744073709551615, false, false⟩,
   ⟨0x1102, 0x06, 0x06, .uint 8, .ro, 0, 0, 18446744073709551615, false, false⟩,
   ⟨0x1102, 0x07, 0x07, .uint 8, .ro, 0, 0, 18446744073709551615, false, false⟩,
   ⟨0x1102, 0x08, 0x08, .uint 8, .ro, 0, 0, 18446744073709551615, false, false⟩,
   ⟨0x1103, 0x00, 0x00, .uint 1, .rw, 1, 1, 2, false, true⟩,
   ⟨0x1103, 0x01, 0x01, .enum, .ro, 0, 0, 255, false, false⟩,
   ⟨0x1103, 0x02, 0x03, .enum, .ro, 0, 0, 255, false, false⟩,
   ⟨0x1103, 0x04, 0x04, .uint 1, .rw, 12, 12, 16, false, true⟩,
   ⟨0x1103, 0x05, 0x05, .uint 1, .ro, 0, 0, 255, false, false⟩,
   ⟨0x1105, 0x00, 0x00, .domain 1 16777216, .rw, 0, 0, 0, false, false⟩,
   ⟨0x1105, 0x01, 0x01, .enum, .ro, 0, 0, 255, false, false⟩,
   ⟨0x1110, 0x00, 0x00, .uint 2, .rw, 1600, 100, 20000, false, true⟩,
   ⟨0x1110, 0x01, 0x01, .uint 2, .rw, 22, 5, 60, false, true⟩,
   ⟨0x1110, 0x02, 0x02, .uint 1, .rw, 4, 1, 16, false, true⟩,
   ⟨0x1110, 0x03, 0x03, .uint 1, .rw, 1, 0, 4, false, true⟩,
   ⟨0x1110, 0x04, 0x04, .uint 2, .rw, 2000, 500, 60000, false, true⟩,
   ⟨0x1110, 0x05, 0x05, .uint 1, .ro, 0, 0, 255, false, false⟩,
   ⟨0x1110, 0x06, 0x06, .uint 1, .ro, 0, 0, 255, false, false⟩,
   ⟨0x1110, 0x07, 0x07, .uint 4, .ro, 0, 0, 4294967295, false, false⟩,
   ⟨0x1110, 0x08, 0x08, .uint 4, .ro, 0, 0, 4294967295, false, false⟩,
   ⟨0x1400, 0x00, 0x00, .uint 2, .rw, 0, 0, 65535, false, false⟩,
   ⟨0x1400, 0x01, 0x01, .uint 2, .rw, 0, 0, 65535, false, true⟩,
   ⟨0x1400, 0x02, 0x02, .enum, .ro, 0, 0, 255, false, false⟩,
   ⟨0x1400, 0x03, 0x03, .uint 1, .ro, 255, 0, 255, false, false⟩,
   ⟨0x1400, 0x04, 0x04, .uint 1, .ro, 255, 0, 255, false, false⟩,
   ⟨0x1400, 0x05, 0x05, .uint 1, .ro, 0, 0, 255, false, false⟩,
   ⟨0x1400, 0x06, 0x06, .uint 4, .ro, 0, 0, 4294967295, false, false⟩,
   ⟨0x1400, 0x07, 0x07, .uint 2, .rw, 200, 50, 5000, false, true⟩,
   ⟨0x1400, 0x08, 0x08, .uint 2, .rw, 10000, 1000, 60000, false, true⟩,
   ⟨0x1401, 0x00, 0x05, .enum, .ro, 0, 0, 255, false, false⟩,
   ⟨0x1401, 0x06, 0x0B, .uint 4, .ro, 0, 0, 4294967295, false, false⟩,
   ⟨0x1401, 0x0C, 0x11, .uint 4, .ro, 0, 0, 4294967295, false, false⟩,
   ⟨0x1402, 0x00, 0x00, .domain 2048 2048, .ro, 0, 0, 0, false, false⟩,
   ⟨0x1403, 0x00, 0x00, .domain 64 64, .ro, 0, 0, 0, false, false⟩]

/-- The object rows of one chapter (pair), as its table gives them. -/
def objRows_pair : List ObjRow :=
  [⟨0x1200, 0x00, 0x00, .uint 2, .rw, 0, 0, 65535, false, false⟩,
   ⟨0x1200, 0x01, 0x01, .uint 2, .rw, 0, 0, 65535, false, true⟩,
   ⟨0x1200, 0x02, 0x02, .enum, .ro, 0, 0, 255, false, false⟩,
   ⟨0x1200, 0x03, 0x03, .enum, .ro, 0, 0, 255, false, false⟩,
   ⟨0x1200, 0x04, 0x04, .enum, .ro, 0, 0, 255, false, false⟩,
   ⟨0x1200, 0x05, 0x05, .bool, .ro, 0, 0, 1, false, false⟩,
   ⟨0x1200, 0x06, 0x06, .uint 4, .ro, 0, 0, 4294967295, false, true⟩,
   ⟨0x1200, 0x07, 0x07, .enum, .ro, 0, 0, 255, false, true⟩,
   ⟨0x1200, 0x08, 0x08, .uint 4, .ro, 0, 0, 4294967295, false, false⟩,
   ⟨0x1200, 0x09, 0x09, .uint 4, .ro, 0, 0, 4294967295, false, false⟩,
   ⟨0x1200, 0x0A, 0x0A, .uint 1, .ro, 0, 0, 255, false, false⟩,
   ⟨0x1201, 0x00, 0x00, .uint 4, .rw, 10000, 100, 10000000, false, true⟩,
   ⟨0x1201, 0x01, 0x01, .uint 2, .rw, 4, 1, 1000, false, true⟩,
   ⟨0x1201, 0x02, 0x02, .uint 2, .rw, 8, 1, 1000, false, true⟩,
   ⟨0x1201, 0x03, 0x03, .uint 1, .rw, 2, 1, 16, false, true⟩,
   ⟨0x1201, 0x04, 0x04, .uint 2, .rw, 100, 10, 10000, false, true⟩,
   ⟨0x1201, 0x05, 0x05, .uint 2, .rw, 200, 50, 5000, false, true⟩,
   ⟨0x1201, 0x06, 0x06, .bool, .rw, 1, 0, 1, false, true⟩,
   ⟨0x1201, 0x07, 0x07, .uint 1, .rw, 3, 0, 16, false, true⟩,
   ⟨0x1201, 0x08, 0x08, .uint 2, .rw, 10, 0, 600, false, true⟩,
   ⟨0x1201, 0x09, 0x09, .enum, .wo, 0, 1, 2, false, false⟩,
   ⟨0x1202, 0x00, 0x00, .enum, .ro, 0, 0, 255, false, false⟩,
   ⟨0x1202, 0x01, 0x01, .uint 4, .ro, 0, 0, 4294967295, false, false⟩,
   ⟨0x1202, 0x02, 0x02, .uint 4, .ro, 0, 0, 4294967295, false, false⟩,
   ⟨0x1202, 0x03, 0x03, .uint 4, .ro, 0, 0, 4294967295, false, false⟩]

/-- The object rows of one chapter (power), as its table gives them. -/
def objRows_power : List ObjRow :=
  [⟨0x5000, 0x00, 0x00, .uint 2, .rw, 0, 0, 65535, false, false⟩,
   ⟨0x5000, 0x01, 0x01, .uint 2, .rw, 0, 0, 65535, false, true⟩,
   ⟨0x5000, 0x02, 0x02, .uint 2, .ro, 0, 0, 65535, false, false⟩,
   ⟨0x5000, 0x03, 0x03, .uint 2, .ro, 0, 0, 65535, false, false⟩,
   ⟨0x5000, 0x04, 0x04, .uint 2, .ro, 0, 0, 65535, false, false⟩,
   ⟨0x5000, 0x05, 0x05, .uint 2, .ro, 0, 0, 65535, false, false⟩,
   ⟨0x5000, 0x06, 0x06, .uint 2, .rwq, 720, 720, 880, false, true⟩,
   ⟨0x5000, 0x07, 0x07, .uint 4, .ro, 0, 0, 4294967295, false, false⟩,
   ⟨0x5000, 0x08, 0x08, .uint 2, .ro, 0, 0, 65535, false, true⟩,
   ⟨0x5000, 0x09, 0x09, .uint 2, .ro, 0, 0, 65535, false, false⟩,
   ⟨0x5000, 0x0A, 0x0A, .enum, .ro, 0, 0, 255, false, false⟩,
   ⟨0x5000, 0x0B, 0x0B, .uint 4, .ro, 0, 0, 4294967295, false, false⟩,
   ⟨0x5000, 0x0C, 0x0C, .uint 4, .ro, 0, 0, 4294967295, false, false⟩,
   ⟨0x5000, 0x0D, 0x0D, .uint 2, .rw, 50, 10, 1000, false, true⟩,
   ⟨0x5000, 0x0E, 0x0E, .uint 2, .rw, 60, 30, 100, false, true⟩,
   ⟨0x5001, 0x00, 0x00, .sint 2, .ro, 0, (-32768), 32767, false, false⟩,
   ⟨0x5001, 0x01, 0x01, .enum, .ro, 1, 0, 255, false, false⟩,
   ⟨0x5001, 0x02, 0x02, .sint 2, .ro, 0, (-32768), 32767, false, false⟩,
   ⟨0x5001, 0x03, 0x03, .domain 48 48, .ro, 0, 0, 0, false, false⟩,
   ⟨0x5001, 0x04, 0x05, .sint 2, .ro, 0, (-32768), 32767, false, false⟩,
   ⟨0x5001, 0x06, 0x06, .enum, .ro, 1, 0, 255, false, false⟩,
   ⟨0x5001, 0x07, 0x07, .uint 4, .ro, 0, 0, 4294967295, false, false⟩,
   ⟨0x5001, 0x08, 0x08, .sint 2, .ro, 0, (-32768), 32767, false, false⟩,
   ⟨0x5001, 0x09, 0x09, .sint 2, .ro, 32767, (-32768), 32767, false, false⟩,
   ⟨0x5001, 0x0A, 0x0A, .uint 2, .ro, 50, 0, 65535, false, false⟩,
   ⟨0x5001, 0x0B, 0x0B, .uint 4, .ro, 0, 0, 4294967295, false, false⟩,
   ⟨0x5002, 0x00, 0x00, .uint 2, .rw, 50, 50, 140, false, true⟩,
   ⟨0x5002, 0x01, 0x01, .uint 2, .rw, 50, 50, 140, false, true⟩,
   ⟨0x5002, 0x02, 0x02, .uint 2, .rw, 70, 70, 140, false, true⟩,
   ⟨0x5002, 0x03, 0x03, .uint 2, .rw, 90, 90, 140, false, true⟩,
   ⟨0x5002, 0x04, 0x04, .uint 2, .rw, 100, 100, 140, false, true⟩,
   ⟨0x3060, 0x00, 0x00, .sint 2, .ro, 32767, (-32768), 32767, false, false⟩,
   ⟨0x3060, 0x01, 0x01, .sint 2, .ro, 32767, (-32768), 32767, false, false⟩,
   ⟨0x3060, 0x02, 0x02, .enum, .ro, 4, 0, 255, false, false⟩,
   ⟨0x3060, 0x03, 0x03, .enum, .ro, 5, 0, 255, false, false⟩]

/-- The object rows of one chapter (fault), as its table gives them. -/
def objRows_fault : List ObjRow :=
  [⟨0x5100, 0x00, 0x00, .enum, .rwq, 0, 0, 1, false, true⟩,
   ⟨0x5100, 0x01, 0x01, .enum, .rw, 1, 0, 4, false, true⟩,
   ⟨0x5100, 0x02, 0x02, .uint 4, .ro, 0, 0, 4294967295, false, false⟩,
   ⟨0x5100, 0x03, 0x03, .uint 8, .ro, 0, 0, 18446744073709551615, false, false⟩,
   ⟨0x5100, 0x04, 0x04, .bool, .ro, 0, 0, 1, false, false⟩,
   ⟨0x5200, 0x00, 0x00, .uint 2, .rw, 0, 0, 65535, false, false⟩,
   ⟨0x5200, 0x01, 0x01, .uint 2, .rw, 0, 0, 65535, false, false⟩,
   ⟨0x5200, 0x02, 0x02, .uint 8, .ro, 0, 0, 18446744073709551615, false, false⟩,
   ⟨0x5200, 0x03, 0x03, .uint 8, .ro, 0, 0, 18446744073709551615, false, false⟩,
   ⟨0x5200, 0x04, 0x04, .uint 8, .rw, 0, 0, 18446744073709551615, false, false⟩,
   ⟨0x5200, 0x05, 0x05, .domain 12 256, .ro, 0, 0, 0, false, false⟩,
   ⟨0x5200, 0x06, 0x06, .enum, .ro, 0, 0, 255, false, false⟩,
   ⟨0x5200, 0x07, 0x07, .uint 1, .ro, 0, 0, 255, false, false⟩,
   ⟨0x5200, 0x08, 0x08, .uint 4, .ro, 0, 0, 4294967295, false, true⟩,
   ⟨0x5200, 0x09, 0x09, .uint 4, .ro, 0, 0, 4294967295, false, false⟩,
   ⟨0x5210, 0x00, 0x00, .domain 16 16, .ro, 0, 0, 0, false, false⟩,
   ⟨0x5210, 0x01, 0x01, .domain 16 16, .wo, 0, 0, 0, false, false⟩,
   ⟨0x5210, 0x02, 0x02, .enum, .ro, 0, 0, 255, false, false⟩,
   ⟨0x3070, 0x08, 0x08, .uint 2, .rw, 0, 0, 65535, false, false⟩,
   ⟨0x3070, 0x09, 0x09, .uint 2, .rw, 0, 0, 65535, false, false⟩]

/-- The object rows of one chapter (jf), as its table gives them. -/
def objRows_jf : List ObjRow :=
  [⟨0x4200, 0x00, 0x00, .uint 2, .rw, 0, 0, 65535, false, false⟩,
   ⟨0x4200, 0x01, 0x01, .uint 2, .rw, 0, 0, 65535, false, false⟩,
   ⟨0x4200, 0x02, 0x02, .enum, .ro, 0, 0, 255, false, false⟩,
   ⟨0x4200, 0x03, 0x03, .uint 1, .ro, 96, 0, 255, false, false⟩,
   ⟨0x4200, 0x04, 0x04, .uint 2, .ro, 0, 0, 65535, false, false⟩,
   ⟨0x4200, 0x05, 0x05, .uint 2, .ro, 0, 0, 65535, false, false⟩,
   ⟨0x4200, 0x06, 0x06, .uint 2, .ro, 3324, 0, 65535, false, false⟩,
   ⟨0x4200, 0x07, 0x07, .uint 4, .ro, 0, 0, 4294967295, false, false⟩,
   ⟨0x4200, 0x08, 0x08, .uint 4, .ro, 0, 0, 4294967295, false, false⟩,
   ⟨0x4200, 0x09, 0x09, .uint 4, .ro, 0, 0, 4294967295, false, false⟩,
   ⟨0x4200, 0x0A, 0x0A, .uint 4, .ro, 0, 0, 4294967295, false, false⟩,
   ⟨0x4200, 0x0B, 0x0B, .uint 4, .ro, 0, 0, 4294967295, false, false⟩,
   ⟨0x4200, 0x0C, 0x0C, .uint 4, .ro, 0, 0, 4294967295, false, false⟩,
   ⟨0x4200, 0x0D, 0x0D, .uint 4, .ro, 0, 0, 4294967295, false, false⟩,
   ⟨0x4201, 0x00, 0x00, .enum, .rwq, 0, 0, 255, false, false⟩,
   ⟨0x4201, 0x01, 0x01, .uint 4, .rwq, 0, 0, 4294967295, false, false⟩,
   ⟨0x4201, 0x02, 0x02, .domain 256 256, .rwq, 0, 0, 0, false, false⟩,
   ⟨0x4201, 0x03, 0x03, .uint 4, .ro, 0, 0, 4294967295, false, false⟩,
   ⟨0x4202, 0x00, 0x00, .domain 16384 16384, .ro, 0, 0, 0, false, false⟩,
   ⟨0x4202, 0x01, 0x01, .domain 8000 8000, .ro, 0, 0, 0, false, false⟩,
   ⟨0x4202, 0x02, 0x02, .domain 4096 4096, .ro, 0, 0, 0, false, false⟩]

/-- The object rows of one chapter (dict), as its table gives them. -/
def objRows_dict : List ObjRow :=
  [⟨0x1000, 0x00, 0x00, .str, .ro, 0, 0, 0, false, false⟩,
   ⟨0x1000, 0x01, 0x01, .str, .ro, 0, 0, 0, false, false⟩,
   ⟨0x1000, 0x02, 0x02, .uint 4, .ro, 71268, 0, 4294967295, false, false⟩,
   ⟨0x1000, 0x03, 0x03, .str, .ro, 0, 0, 0, false, false⟩,
   ⟨0x1000, 0x04, 0x04, .str, .ro, 0, 0, 0, false, false⟩,
   ⟨0x1000, 0x05, 0x05, .str, .ro, 0, 0, 0, false, false⟩,
   ⟨0x1000, 0x06, 0x06, .uint 4, .ro, 0, 0, 4294967295, false, false⟩,
   ⟨0x1000, 0x07, 0x07, .uint 4, .ro, 0, 0, 4294967295, false, false⟩,
   ⟨0x1000, 0x08, 0x08, .uint 4, .ro, 65536, 0, 4294967295, false, false⟩,
   ⟨0x1000, 0x09, 0x09, .uint 2, .ro, 1, 0, 65535, false, false⟩,
   ⟨0x1000, 0x0A, 0x0A, .uint 8, .ro, 0, 0, 18446744073709551615, false, false⟩,
   ⟨0x1000, 0x0B, 0x0B, .uint 8, .ro, 0, 0, 18446744073709551615, false, false⟩,
   ⟨0x1000, 0x0C, 0x0C, .enum, .ro, 0, 0, 255, false, false⟩,
   ⟨0x1001, 0x00, 0x00, .uint 2, .rw, 34997, 1536, 65535, false, true⟩,
   ⟨0x1001, 0x01, 0x01, .bool, .rw, 1, 0, 1, false, true⟩,
   ⟨0x1001, 0x02, 0x02, .uint 1, .ro, 0, 0, 255, false, false⟩,
   ⟨0x1001, 0x03, 0x03, .uint 1, .rw, 32, 1, 255, false, true⟩,
   ⟨0x1001, 0x04, 0x04, .uint 1, .rw, 3, 0, 15, false, true⟩,
   ⟨0x1001, 0x05, 0x05, .uint 1, .rw, 128, 0, 255, false, true⟩,
   ⟨0x1001, 0x06, 0x06, .enum, .ro, 0, 0, 255, false, false⟩,
   ⟨0x1001, 0x07, 0x07, .uint 2, .ro, 0, 0, 65535, false, false⟩,
   ⟨0x1002, 0x00, 0x00, .uint 2, .rw, 1000, 100, 60000, true, true⟩,
   ⟨0x1002, 0x01, 0x01, .uint 8, .rw, 281474976710655, 0, 281474976710655, false, true⟩,
   ⟨0x1002, 0x02, 0x02, .uint 4, .ro, 0, 0, 4294967295, false, false⟩,
   ⟨0x1003, 0x00, 0x00, .uint 8, .rw, 0, 0, 281474976710655, false, true⟩,
   ⟨0x1003, 0x01, 0x01, .enum, .ro, 0, 0, 255, false, false⟩,
   ⟨0x1003, 0x02, 0x02, .sint 8, .ro, 0, (-9223372036854775808), 9223372036854775807, false, false⟩,
   ⟨0x1003, 0x03, 0x03, .uint 8, .ro, 0, 0, 18446744073709551615, false, false⟩,
   ⟨0x1004, 0x00, 0x00, .uint 8, .rw, 281474976710655, 0, 281474976710655, false, true⟩,
   ⟨0x1004, 0x01, 0x01, .uint 4, .ro, 0, 0, 4294967295, false, false⟩,
   ⟨0x1004, 0x02, 0x02, .uint 4, .ro, 0, 0, 4294967295, false, false⟩,
   ⟨0x1005, 0x00, 0x00, .uint 4, .ro, 0, 0, 4294967295, false, false⟩,
   ⟨0x1005, 0x01, 0x01, .uint 4, .ro, 0, 0, 4294967295, false, false⟩,
   ⟨0x1005, 0x02, 0x02, .uint 4, .ro, 0, 0, 4294967295, false, false⟩,
   ⟨0x1005, 0x03, 0x03, .uint 4, .ro, 0, 0, 4294967295, false, false⟩,
   ⟨0x1005, 0x04, 0x04, .uint 4, .ro, 0, 0, 4294967295, false, false⟩,
   ⟨0x1010, 0x00, 0x00, .bool, .ro, 0, 0, 1, false, false⟩,
   ⟨0x1010, 0x01, 0x01, .uint 4, .ro, 0, 0, 4294967295, false, true⟩,
   ⟨0x1010, 0x02, 0x02, .enum, .rwa, 0, 90, 90, false, true⟩,
   ⟨0x1020, 0x00, 0x00, .domain 16 16, .ro, 0, 0, 0, false, false⟩] ++
  [⟨0x1020, 0x01, 0x01, .domain 16 16, .wo, 0, 0, 0, false, false⟩,
   ⟨0x1020, 0x02, 0x02, .enum, .ro, 0, 0, 255, false, false⟩,
   ⟨0x1020, 0x03, 0x03, .uint 2, .rw, 300, 30, 3600, false, true⟩,
   ⟨0x1020, 0x04, 0x04, .enum, .wo, 0, 1, 1, false, false⟩,
   ⟨0x1020, 0x05, 0x05, .uint 4, .ro, 0, 0, 4294967295, false, false⟩,
   ⟨0x5F08, 0x00, 0x00, .enum, .ro, 1, 0, 255, false, false⟩,
   ⟨0x5F08, 0x01, 0x01, .uint 4, .ro, 115200, 0, 4294967295, false, false⟩,
   ⟨0x5F08, 0x02, 0x02, .bool, .rwa, 0, 0, 1, false, true⟩,
   ⟨0x5F08, 0x03, 0x03, .uint 4, .ro, 0, 0, 4294967295, false, false⟩,
   ⟨0x5F08, 0x04, 0x04, .uint 4, .ro, 0, 0, 4294967295, false, false⟩,
   ⟨0x5F00, 0x00, 0x00, .bool, .ro, 0, 0, 1, false, false⟩,
   ⟨0x5F00, 0x01, 0x01, .enum, .rwa, 0, 165, 165, false, false⟩,
   ⟨0x5F00, 0x02, 0x02, .domain 48 48, .ro, 0, 0, 0, false, false⟩,
   ⟨0x5F00, 0x03, 0x03, .uint 4, .rwa, 0, 0, 63, false, false⟩,
   ⟨0x5F00, 0x04, 0x04, .domain 32 32, .rwa, 0, 0, 0, false, false⟩,
   ⟨0x5F00, 0x05, 0x05, .domain 32 32, .rwa, 0, 0, 0, false, false⟩,
   ⟨0x5F00, 0x06, 0x06, .uint 1, .ro, 0, 0, 255, false, false⟩,
   ⟨0x5F00, 0x07, 0x07, .uint 8, .ro, 0, 0, 18446744073709551615, false, false⟩,
   ⟨0x5F00, 0x08, 0x08, .enum, .ro, 0, 0, 255, false, false⟩,
   ⟨0x5F01, 0x00, 0x00, .domain 88 88, .ro, 0, 0, 0, false, false⟩,
   ⟨0x5F01, 0x01, 0x01, .domain 96 96, .ro, 0, 0, 0, false, false⟩,
   ⟨0x8000, 0x00, 0x00, .domain 12 12, .rw, 0, 0, 0, false, false⟩,
   ⟨0x8000, 0x01, 0x01, .enum, .wo, 0, 1, 1, false, false⟩,
   ⟨0x8000, 0x02, 0x02, .enum, .ro, 0, 0, 255, false, false⟩,
   ⟨0x8000, 0x03, 0x03, .domain 4112 65792, .rw, 0, 0, 0, false, false⟩,
   ⟨0x8000, 0x04, 0x04, .domain 8 128, .ro, 0, 0, 0, false, false⟩,
   ⟨0x9000, 0x00, 0x00, .uint 8, .rw, 0, 0, 18446744073709551615, false, false⟩,
   ⟨0x9000, 0x01, 0x01, .domain 65536 65536, .rw, 0, 0, 0, false, false⟩]

/-- Every object of the dictionary (R568 and the chapters' tables), by canonical index. -/
def objTable : List ObjRow :=
  objRows_mode ++ objRows_port ++ objRows_chan ++ objRows_fmt ++ objRows_seq ++ objRows_servo ++ objRows_spindle ++ objRows_os ++ objRows_host ++ objRows_buf ++ objRows_dma ++ objRows_casc ++ objRows_pair ++ objRows_power ++ objRows_fault ++ objRows_jf ++ objRows_dict

/-- The canonical index of an instance (R79, R120, R154, R189, R244, R275, R331, R422, R424, R529, R592):
instance 0 of its family; `none` when the index belongs to no family. -/
def canonIndex (i : Nat) : Option Nat :=
  if 0x3000 ≤ i ∧ i < 0x4000 then
    let off := i % 0x100
    if off = 0 ∨ off = 1 ∨ off = 0x10 ∨ off = 0x11 ∨ off = 0x60 ∨ off = 0x70 then some (0x3000 + off)
    else if 0x20 ≤ off ∧ off ≤ 0x22 then some (0x3000 + off)
    else if 0x30 ≤ off ∧ off ≤ 0x35 then some (0x3000 + off)
    else if 0x40 ≤ off ∧ off ≤ 0x45 then some (0x3000 + off - 0x10)
    else if 0x50 ≤ off ∧ off ≤ 0x57 then some (0x3000 + off)
    else if 0x58 ≤ off ∧ off ≤ 0x5F then some (0x3000 + off - 8)
    else none
  else if 0x2010 ≤ i ∧ i ≤ 0x201F then some 0x2010
  else if 0x4320 ≤ i ∧ i ≤ 0x433F then some 0x4320
  else if 0x4410 ≤ i ∧ i ≤ 0x441F then some 0x4410
  else if 0x4540 ≤ i ∧ i ≤ 0x457F then some 0x4540
  else if 0x5100 ≤ i ∧ i ≤ 0x5110 then some 0x5100
  else if 0x8000 ≤ i ∧ i ≤ 0x80FF then (if i % 0x10 ≤ 1 then some 0x8000 else none)
  else some i

/-- The row of an object: `none` for no allocated index (R559, error 01h), `some none` for an allocated index
without that subindex (error 02h). -/
def objLookup (i sub : Nat) : Option (Option ObjRow) :=
  match canonIndex i with
  | none => none
  | some c =>
    match objTable.filter (fun r => r.idx == c) with
    | [] => none
    | rows => some (rows.find? (fun r => r.sub ≤ sub && sub ≤ r.last))

/-- The default of a key: that of its row, 0 for a key that names no numeric object. -/
def objDefault (k : Nat) : Nat :=
  match objLookup (k / 256 % 65536) (k % 256) with
  | some (some r) => r.dflt
  | _ => 0

/-- Scope of an object (R568): `true` for unit scope. -/
def objUnitScope (i sub : Nat) (r : ObjRow) : Bool :=
  let c := r.idx
  (c == 0x1000 && 6 ≤ sub && sub ≤ 0xC) || c == 0x1005 || c == 0x1020 ||
  (c == 0x1103 && (sub == 2 || sub == 3)) || (c == 0x1200 && sub == 2) || (c == 0x3070 && sub == 3) ||
  (0x4000 ≤ i && i < 0x4500) || (0x4500 ≤ i && i < 0x4600 && r.acc == .ro) ||
  (0x5000 ≤ i && i ≤ 0x5002) || (0x5200 ≤ i && i < 0x6000) || c == 0x9000

/-- Whether the hardware dictionary engine serves the object in Fiddlehead (R567, R568). -/
def objInFiddlehead (i sub : Nat) (r : ObjRow) : Bool :=
  let c := r.idx
  (0x1000 ≤ c && c ≤ 0x1005) || (c == 0x1010 && sub ≤ 1) || c == 0x1020 || (0x1100 ≤ c && c ≤ 0x1105) ||
  (c == 0x1200 && 2 ≤ sub && sub ≤ 5) || (0x1400 ≤ c && c ≤ 0x1403) || c == 0x3000 || c == 0x3060 ||
  c == 0x3070 || (0x5000 ≤ i && i ≤ 0x5002) || (0x5100 ≤ i && i ≤ 0x5110) || c == 0x5200 || c == 0x5210 ||
  c == 0x5F00 || c == 0x5F01 || c == 0x5F08

/-- The key under which the answering unit `u` holds the object. -/
def objKey (u : UnitId) (i sub : Nat) (r : ObjRow) : Nat :=
  i * 256 + sub + (if objUnitScope i sub r then unitBase u else 0)

/-- Bytes of a numeric type (R560). -/
def ObjType.size : ObjType → Nat
  | .uint n => n
  | .sint n => n
  | .bool => 1
  | .enum => 1
  | .str => 0
  | .domain _ _ => 0

/-- Whether the type is a number held in the register store. -/
def ObjType.numeric : ObjType → Bool
  | .str => false
  | .domain _ _ => false
  | _ => true

/-- The length check of R561 step 6. -/
def ObjType.lengthOk (t : ObjType) (n : Nat) : Bool :=
  match t with
  | .str => n ≤ 64
  | .domain lo hi => lo ≤ n && n ≤ hi
  | t => n == t.size

/-- A raw value read in its type: two's complement for I16-I64 (R560). -/
def ObjType.toInt (t : ObjType) (v : Nat) : Int :=
  match t with
  | .sint n => if v < 2 ^ (8 * n - 1) then (v : Int) else (v : Int) - 2 ^ (8 * n)
  | _ => v

/-- The range check of R561 step 7. -/
def ObjRow.inRange (r : ObjRow) (v : Nat) : Bool :=
  (r.zero && v == 0) || (r.lo ≤ r.ty.toInt v && r.ty.toInt v ≤ r.hi)

end Sys2Proof.Machine
end

