-- ==== Sys2Proof/Machine/Store.lean ====
section
/-! DEFINITION. Sparse stores: reading and writing a sorted list of key and value pairs in one canonical form. Every
array of the model (dictionary registers, memories, per-port and per-channel records) is held in one. -/

namespace Sys2Proof.Machine

/-- The value at a key: the listed one, or the default of the key. -/
def mapGet {α : Type} (d : Nat → α) (m : Map α) (k : Nat) : α :=
  match m with
  | [] => d k
  | (i, v) :: t => if i = k then v else mapGet d t k

/-- The store without a key. -/
def mapDel {α : Type} (m : Map α) (k : Nat) : Map α :=
  match m with
  | [] => []
  | (i, v) :: t => if i = k then mapDel t k else (i, v) :: mapDel t k

/-- A pair put in key order. -/
def mapIns {α : Type} (m : Map α) (k : Nat) (v : α) : Map α :=
  match m with
  | [] => [(k, v)]
  | (i, w) :: t => if k < i then (k, v) :: (i, w) :: t else (i, w) :: mapIns t k v

/-- The store with the value at a key replaced; the default value removes the entry. -/
def mapPut {α : Type} [DecidableEq α] (d : Nat → α) (m : Map α) (k : Nat) (v : α) : Map α :=
  if v = d k then mapDel m k else mapIns (mapDel m k) k v

/-- Keys strictly rising, from a lower bound (exclusive when `some`). -/
def mapRising {α : Type} (lo : Option Nat) (m : Map α) : Bool :=
  match m with
  | [] => true
  | (i, _) :: t => (match lo with | none => true | some l => decide (l < i)) && mapRising (some i) t

/-- The canonical form: keys strictly rising and no entry equal to its default. -/
def mapWf {α : Type} [DecidableEq α] (d : Nat → α) (m : Map α) : Bool :=
  mapRising none m && m.all (fun e => decide (e.2 ≠ d e.1))

/-- Every listed value changed by one function of its key. -/
def mapEach {α : Type} [DecidableEq α] (d : Nat → α) (m : Map α) (ks : List Nat) (f : Nat → α → α) : Map α :=
  ks.foldl (fun m k => mapPut d m k (f k (mapGet d m k))) m

end Sys2Proof.Machine
end

