-- ==== Sys2Proof/Machine/State.lean ====
section
/-! DEFINITION. The state of the module as plain data: every register, FIFO, buffer, counter, mode and pin the chapters
give it, and the queue of commands that wait. Numeric dictionary registers stand in one store by object key; what is
more than a number (queues, machines, memories) has a record of its own. -/

namespace Sys2Proof.Machine

/-- Causes of a mode change (R40). -/
inductive ModeCause where
  | powerApplied | modeRequest | hdaLost | rebuildComplete | tokenReleased | vin12Lost | graveFault
  | activation | rstn | supply | bringUpDone | switchoverDone | holdUpDone | noUnit | holdExhausted
  | plannedSwitchover | vin12Good | resetReleased
  deriving DecidableEq, Repr

/-- The code of a cause in 1100h.02 (R40). -/
def ModeCause.code : ModeCause → Nat
  | .powerApplied => 0x00
  | .modeRequest => 0x01
  | .hdaLost => 0x02
  | .rebuildComplete => 0x03
  | .tokenReleased => 0x04
  | .vin12Lost => 0x05
  | .graveFault => 0x06
  | .activation => 0x07
  | .rstn => 0x08
  | .supply => 0x09
  | .bringUpDone => 0x0A
  | .switchoverDone => 0x0B
  | .holdUpDone => 0x0C
  | .noUnit => 0x0D
  | .holdExhausted => 0x0E
  | .plannedSwitchover => 0x0F
  | .vin12Good => 0x10
  | .resetReleased => 0x11

/-- The purposes of a Drain (R39, 1100h.05). -/
inductive DrainPurpose where
  | none | activation | powerDown | maintenance
  deriving DecidableEq, Repr

/-- The code of a Drain purpose (1100h.05). -/
def DrainPurpose.code : DrainPurpose → Nat
  | .none => 0
  | .activation => 1
  | .powerDown => 2
  | .maintenance => 3

/-- The code of LAST_RELEASE_CAUSE (1200h.07). -/
def ReleaseCause.code : ReleaseCause → Nat
  | .none => 0
  | .correctedWords => 1
  | .uncorrectable => 2
  | .seqStops => 3
  | .servoMismatch => 4
  | .engineChecks => 5
  | .pace => 6
  | .island => 7
  | .exception => 8
  | .pairCommand => 9
  | .activation => 0x0A
  | .thermal => 0x0B
  | .cacheTag => 0x0C

/-- The operating mode and what its transitions remember (R28-R40, R616-R618). -/
structure ModeSt where
  cur : Mode := .unpowered
  prev : Mode := .unpowered
  cause : ModeCause := .powerApplied
  entryTime : Nat := 0
  purpose : DrainPurpose := .none
  /-- The Drain in progress or last run was for a planned switchover (PAIR_COMMAND 01h), not an activation. -/
  planned : Bool := false
  drainFrom : Mode := .frond
  /-- Ports, as bits, that have passed a sweep edge since the Drain began (R30, R618). -/
  swept : Nat := 0
  switchFrom : Mode := .frond
  /-- The boot ROM has read the settings area in this stay in Fiddlehead (R32). -/
  settingsRead : Bool := false
  /-- A Grave latch is held by the always-on logic (R33). -/
  graveLatch : Bool := false
  /-- A spin-up token has been granted to the module in this Bring-up (R30, R31). -/
  tokenGranted : Bool := false
  /-- VAUX3 has been applied since it was last removed and Fiddlehead not yet reached (R616). -/
  freshPower : Bool := true
  /-- An HDA loss recorded and not yet acted on (R34, R77). -/
  hdaLostHeld : Bool := false
  /-- The steps of Bring-up were complete with fewer than 12 HDAs calibrated, and the event has been recorded (R437). -/
  stepsDone : Bool := false
  /-- Firmware on the part serves the objects not marked in the index (R567). -/
  served : Bool := false
  /-- A Grave bit has latched and the module has not yet entered Fault-latched (R527). -/
  latchDue : Bool := false
  /-- Checks of the units that have tripped and are not yet acted on (R475, R493, R525). -/
  checkDue : List (UnitId × ReleaseCause) := []
  deriving DecidableEq, Repr

/-- One record of the event recorder (R530). -/
structure Rec where
  ty : Nat
  cls : Nat := 0
  fault : Bool := false
  unit : UnitId := .A
  peer : Bool := false
  repLost : Bool := false
  holdup : Bool := false
  rep : Nat := 1
  time : Nat := 0
  body : List Byte := []
  deriving DecidableEq, Repr

/-- The recorder of one unit (R533-R538): numbering, retained buffer, open and due pages, ring. -/
structure ErSt where
  next : Nat := 0
  oldest : Nat := 0
  /-- The newest 1024 records, oldest first, each with its number. -/
  retained : List (Nat × Rec) := []
  /-- Bytes used in the page being filled, the number of its first record and the time of that record. -/
  pageFill : Nat := 0
  pageFirst : Nat := 0
  pageTime : Nat := 0
  /-- Closed pages that wait to be programmed: first record number and count. -/
  due : List (Nat × Nat) := []
  /-- Records below this number have been programmed. -/
  programmed : Nat := 0
  /-- Write point, in pages of the ring (0-32767), and the pages programmed. -/
  wp : Nat := 0
  ring : List (Nat × List (Nat × Rec)) := []
  /-- The first record appended since the unit last had a peer, while a gap is open. -/
  gapFrom : Option Nat := none
  /-- Challenges of R536: requester, 16 bytes, time of issue. -/
  challenges : List (Requester × List Byte × Nat) := []
  readResult : Nat := 0
  clearResult : Nat := 0
  deriving DecidableEq, Repr

/-- A message to the management network (R578) waiting in the emergency queue. -/
structure Emcy where
  index : Nat
  sub : Nat
  ty : Nat
  cls : Nat
  body : List Byte
  deriving DecidableEq, Repr

/-- The answer to a dictionary access: the requester, the access error code (R562; 0 for success) and the data. -/
structure Answer where
  dest : Requester
  err : Nat
  data : List Byte
  deriving DecidableEq, Repr

/-! ## Ports, low-speed lines and the PN2 (R41-R81) -/

/-- PORT_STATE (R73). -/
inductive PortState where
  | empty | present | powering | training | linked | spinningUp | calibrating | ready | ctLost | offline | failed
  | spinningDown
  deriving DecidableEq, Repr

/-- The code of a port state (R73). -/
def PortState.code : PortState → Nat
  | .empty => 0x00
  | .present => 0x01
  | .powering => 0x02
  | .training => 0x03
  | .linked => 0x04
  | .spinningUp => 0x05
  | .calibrating => 0x06
  | .ready => 0x07
  | .ctLost => 0x08
  | .offline => 0x09
  | .failed => 0x0A
  | .spinningDown => 0x0B

/-- PORT_CAUSE (R81). -/
inductive PortCause where
  | powerApplied | presence | removed | portCommand | modeChange | fltIsolation | laneFailure | ctLoss | ctNotRestored
  | rotorLost | spinMismatch | calibrationFailure | stepComplete | ctRestored
  deriving DecidableEq, Repr

/-- The code of a port cause (R81). -/
def PortCause.code : PortCause → Nat
  | .powerApplied => 0x00
  | .presence => 0x01
  | .removed => 0x02
  | .portCommand => 0x03
  | .modeChange => 0x04
  | .fltIsolation => 0x05
  | .laneFailure => 0x06
  | .ctLoss => 0x07
  | .ctNotRestored => 0x08
  | .rotorLost => 0x09
  | .spinMismatch => 0x0A
  | .calibrationFailure => 0x0B
  | .stepComplete => 0x0C
  | .ctRestored => 0x0D

/-- CT_STATE (R79). -/
inductive CtState where
  | noSignal | counting | inTolerance | lost
  deriving DecidableEq, Repr

/-- The code of CT_STATE (3010h.06). -/
def CtState.code : CtState → Nat
  | .noSignal => 0
  | .counting => 1
  | .inTolerance => 2
  | .lost => 3

/-- One port as the module holds it (R51-R54, R68-R81, R617). -/
structure PortSt where
  state : PortState := .empty
  cause : PortCause := .powerApplied
  entryTime : Nat := 0
  /-- The presence timer of 1 s has run out (R74, R76). -/
  confirmed : Bool := false
  /-- An ONLINE request is pending (R617). -/
  online : Bool := false
  /-- A PORT_COMMAND written during a transition (R75). -/
  heldCmd : Option Nat := none
  /-- FLT_CODE has been read for the assertion in progress (R68). -/
  codeRead : Bool := true
  /-- Media planning is stopped by FLTn (R68). -/
  fltStop : Bool := false
  /-- SPINNING_DOWN ends in OFFLINE (R74). -/
  downOffline : Bool := false
  /-- Actuators calibrated in this session, as bits (R233). -/
  calibrated : Nat := 0
  /-- Sweeps begun on this port (R26). -/
  sweepNo : Nat := 0
  /-- Time of the next sweep edge, for the commit bound of R23. -/
  nextEdge : Nat := 0
  /-- First sweep of media work permitted after a take-over (R27). -/
  mediaHeld : Bool := false
  deriving DecidableEq, Repr

/-- One filtered input with its chatter detector (R66, R67): raw level, filtered level, the time of the last accepted
change, the chatter state and the raw edges of the last 64 µs. Levels are `true` for asserted. -/
structure FiltSt where
  raw : Bool := false
  level : Bool := false
  since : Nat := 0
  chatter : Bool := false
  edges : List Nat := []
  deriving DecidableEq, Repr

/-- The low-speed lines of one side of a port as its unit drives and sees them (R57-R67). -/
structure LineSt where
  flt : FiltSt := {}
  prs : FiltSt := {}
  spin : FiltSt := {}
  pen : Bool := false
  token : Bool := false
  driven : SpinCode := .coast
  readback : Option SpinCode := some .coast
  /-- Consecutive telemetry frames that report OBEY none or the own side (R65), and the last OBEY seen. -/
  obeyRun : Nat := 0
  obey : Obey := .none
  /-- The frame counter of the last telemetry frame and its fault code (R48). -/
  frame : Nat := 0
  faultCode : Nat := 0
  /-- Steps of R51 completed on this side, and whether the sequence runs for the second time (R53). -/
  trainStep : Nat := 0
  /-- When the step of R51 in progress began. -/
  trainAt : Nat := 0
  retried : Bool := false
  /-- Failures of lanes in service, newest first: lane and time (R54); lanes that wait for retraining. -/
  laneFails : List (Nat × Nat) := []
  retrain : List Nat := []
  /-- Lanes whose retraining has begun (R54). -/
  retraining : List Nat := []
  /-- Block errors of the last second: lane, time and number (R54). -/
  laneErrs : List (Nat × Nat × Nat) := []
  /-- Clock track as this side counts it (R70-R72): its state, the time of the last loss, consecutive windows out of tolerance, and
  cycles counted in tolerance since a loss. -/
  ct : CtState := .noSignal
  ctSince : Nat := 0
  ctBad : Nat := 0
  ctGood : Nat := 0
  /-- Phase of the sampling synthesiser to the track and its lock bit, from the last clock-track frame (R49). -/
  synPhase : Nat := 0
  synLock : Bool := false
  deriving DecidableEq, Repr

/-- A read ticket (R169): its number in the order of queueing, the GDDR7 addresses of the data area and of the result word, and
whether an arm holds it. -/
structure Ticket where
  id : Nat := 0
  data : Nat
  result : Nat
  paired : Bool := false
  deriving DecidableEq, Repr

/-- A write feed (R169): its number in the order of queueing, payload address, tag bytes 4096-4111, address of the check result
word. -/
structure Feed where
  id : Nat := 0
  payload : Nat
  tag : List Byte
  result : Nat
  paired : Bool := false
  deriving DecidableEq, Repr

/-- An arm of the channel or the write encoder (R166). -/
structure Arm where
  start : Word
  endIdx : Word
  bits : Nat
  frag : Nat
  frags : Nat
  mode : ReaderMode
  psa : Psa
  /-- The plan item it serves (R88, R94). -/
  item : Nat := 0
  ticket : Option Ticket := none
  feed : Option Feed := none
  deriving DecidableEq, Repr

/-- A fragment as the sample counter places it (R131): the sample index of its first bit, its bits in all, the code-word bits it
carries, and what the sample index leaves of the predicted position, in 1/64 bit. -/
structure FragSpan where
  start : Word
  len : Nat
  bits : Nat
  frac : Int := 0
  deriving DecidableEq, Repr

/-- A fragment on its way to the decoder: the bits before its code-word bits, how many it carries, the offset at which its mark was
accepted, and the combiner outputs from 64 bits before it (R91, R134). -/
structure CodePiece where
  ovh : Nat
  bits : Nat
  off : Int := 0
  ys : List Int
  deriving DecidableEq, Repr

/-- A sector on its way through the channel: what the result word of R108 needs, the parameter set and set number in force, its
fragments, and what the decoder works on. -/
structure Sector where
  psa : Psa
  setNo : Nat := 0
  set : List Byte := []
  spans : List FragSpan := []
  /-- The samples of both readers, fragment by fragment, from 64 bits before each to 64 after (R111). -/
  samples : List (List (Int × Int)) := []
  pieces : List CodePiece := []
  /-- The samples of a read-after-write check have been taken. -/
  sampled : Bool := false
  step : Nat := 0
  mode : ReaderMode := .both
  alt : Bool := false
  held : Bool := false
  ticket : Option Ticket := none
  /-- Tag bytes of a sector being written (R127). -/
  tag : List Byte := []
  /-- A result that ends the sector without decoding (R82, R84, R89, R103, R105). -/
  abort : Option Nat := none
  sync : Option Int := none
  metric : Nat := 0
  deriving DecidableEq, Repr

/-- CH_HOLD_STATE (R111, R120). -/
inductive HoldBuf where
  | empty | held | pinned
  deriving DecidableEq, Repr

/-- The code of HOLD_STATE (3054h.02). -/
def HoldBuf.code : HoldBuf → Nat
  | .empty => 0
  | .held => 1
  | .pinned => 2

/-- The load of a parameter set into the inactive bank (R105, R162). -/
inductive BankLoad where
  | idle | loading | ready | failed
  deriving DecidableEq, Repr

/-- What the write encoder sends on the write lane (R46, R137): a gate block, or the bits of a fragment in data blocks. -/
inductive WriteItem where
  | gate (b : BitVec 64)
  | bits (l : List Bool)
  deriving DecidableEq, Repr

/-- A retry ladder in progress (R114-R117): the sector, its ticket, the step to run or running, the results of tested
steps (step and SYND_LAST), whether the step is a repeat, and whether the sorus coder has rebuilt the sector. -/
structure Ladder where
  psa : Psa
  ticket : Option Ticket
  mode : ReaderMode
  step : Nat := 1
  tested : List (Nat × Nat) := []
  repeated : Bool := false
  rebuilt : Bool := false
  deriving DecidableEq, Repr

/-- Where a fragment of a sorus stands (R306): member slot, actuator and head, zone, band, track within the band, and first
position; and the BAND_SEQ it was written with (R300). -/
structure FragRec where
  slot : Nat
  act : Nat
  head : Nat
  zone : Nat
  band : Nat
  track : Nat
  pos : Nat
  bandSeq : Nat := 0
  deriving DecidableEq, Repr

/-- A fragment under its read-after-write check (R143-R146). -/
structure FragCheck where
  sorus : Nat
  frag : Nat
  spot : FragRec
  sectors : Nat
  passed : Nat := 0
  checkFails : Nat := 0
  /-- The fragment is written as a rewrite: TAG_FLAGS bit 1 (R145). -/
  rewrite : Bool := false
  /-- A sector of the fragment has failed: the whole fragment is failed and waits for its rewrite. -/
  failed : Bool := false
  deriving DecidableEq, Repr

/-- The data channel and write encoder of one actuator (R82-R155). -/
structure ChanSt where
  readCur : Option Arm := none
  readPend : Option Arm := none
  writeCur : Option Arm := none
  writePend : Option Arm := none
  tickets : List Ticket := []
  feeds : List Feed := []
  /-- Tickets and feeds queued so far, and those that no wait under Ah or Bh has taken yet, oldest first, with whether the result
  is posted (R168). -/
  ticketNo : Nat := 0
  feedNo : Nat := 0
  ticketLog : List (Nat × Bool) := []
  feedLog : List (Nat × Bool) := []
  /-- Banks: the set in each bank by number and its content as loaded, the load of the inactive bank, a swap asked for (R105). -/
  activeSet : Option Nat := none
  activeBytes : List Byte := []
  nextSet : Option Nat := none
  nextBytes : List Byte := []
  load : BankLoad := .idle
  swap : Bool := false
  /-- The result of the last PSET: loaded and checked, or failed (R162). -/
  psetReady : Bool := false
  psetErr : Bool := false
  /-- The ratio block sent last, and whether the set in the active bank waits for the marker of its RATIO_CHANGE (R85); the same of
  the set in the inactive bank. -/
  ratioSent : Nat := 0
  ratioWait : Bool := false
  nextWait : Bool := false
  /-- HEAD of the last alignment marker (R84). -/
  laneHead : Option Nat := none
  /-- Combiner taps in use, loop phase and frequency (units of `loopBit`), mean |e| run of the plan item. -/
  tapsA : List Int := []
  tapsB : List Int := []
  phase : Int := 0
  freq : Int := 0
  diverged : Nat := 0
  fallback : Bool := false
  mode : ReaderMode := .both
  /-- The sector being received, and the sectors in flight in the decoder (at most four, R102). -/
  rx : Option Sector := none
  decoding : List Sector := []
  hold : HoldBuf := .empty
  /-- The sector held, with its samples (R111). -/
  holdSector : Option Sector := none
  replay : Option Sector := none
  ladder : Option Ladder := none
  /-- Write side: gate open, the fragments under check, failed checks per head in the band, void positions. -/
  gate : Bool := false
  checks : List FragCheck := []
  raw : List Sector := []
  headFails : Map Nat := []
  /-- Heads reported degraded (R147). -/
  degraded : List Nat := []
  void : List Psa := []
  /-- Entries sent by WRSET and not yet acknowledged (R140): the set number, the precompensation entry and the preset. -/
  wrSent : Bool := false
  wrAck : Bool := false
  wrSet : Option Nat := none
  wrEntry : List Byte := []
  wrPreset : List Byte := []
  /-- The 4120 bytes of the sector being written, and what the encoder has put on the write lane for its fragment (R127, R137). -/
  wrBody : List Byte := []
  /-- Code-word bits of that sector in the fragments begun so far. -/
  wrDone : Nat := 0
  wrOut : List WriteItem := []
  /-- Flags of R162. -/
  syncOk : Bool := false
  resyncOk : Bool := false
  gateCut : Bool := false
  late : Bool := false
  /-- SAMPLE_INDEX of the next group of each reader sub-lane (R45), by 4 × unit + sub-lane; and the sample counter (SIDX). -/
  laneNext : Map Nat := []
  sidx : Word := 0
  /-- The most recent clock-track frame: cycle count and the SAMPLE_INDEX paired with it (R49, R131). -/
  ctCycles : Nat := 0
  ctIndex : Word := 0
  /-- CT_INDEX_PHASE of each head (R131). -/
  indexPhase : Map Nat := []
  /-- Parameter sets by set number, zone entries, precompensation entries by head × 32 + zone, presets by head × 4 + band,
  where they differ from the defaults (R104, R121, R138, R139). -/
  sets : Map (List Byte) := []
  zones : Map (List Byte) := []
  precomp : Map (List Byte) := []
  presets : Map (List Byte) := []
  /-- The set in the active bank failed its checks, and that in the inactive bank; the entries of R140 were not acknowledged in
  time for the item. -/
  setBad : Bool := false
  nextBad : Bool := false
  wrFail : Bool := false
  /-- Sectors whose ladder waits for the one in progress, and whether the sorus coder has rebuilt them meanwhile (R116). -/
  ladderQ : List (Sector × Bool) := []
  /-- Sectors whose line read ended as not read and is to be planned again (R27). -/
  due : List Psa := []
  /-- The plan item of the last sector read (R88, R94). -/
  item : Option Nat := none
  /-- Sum of mean |e| and sectors of the plan item, all of them DECODED so far (R106). -/
  itemSum : Nat := 0
  itemCount : Nat := 0
  itemClean : Bool := true
  /-- The copies of the system records on the medium, newest first (R150). -/
  sys : List SysCopy := []
  /-- Frontiers by ((head × 32 + zone) × 2^24 + band) × 2048 + position (R152). -/
  frontier : Map Nat := []
  deriving DecidableEq, Repr

/-- SEQ_STATE (R189). -/
inductive SeqState where
  | waitEdge | running | waiting | stopped | draining
  deriving DecidableEq, Repr

/-- The code of SEQ_STATE (4540h.03). -/
def SeqState.code : SeqState → Nat
  | .waitEdge => 0
  | .running => 1
  | .waiting => 2
  | .stopped => 3
  | .draining => 4

/-- What a waiting sequencer waits for (R159, R164, R168): an engine for its word, its delay element, its wait
condition, the index of WAITIDX, or the sweep edge after ENDSWEEP. -/
inductive SeqWait where
  | none
  | op (o : SeqOp) (w : MicroWord)
  | delay (stages : Nat)
  | cond (c : Nat)
  | index (o : SeqOp) (w : MicroWord)
  | sweepEnd
  deriving DecidableEq, Repr

/-- One sequencer (R157, R163, R170). -/
structure SeqSt where
  state : SeqState := .waitEdge
  wait : SeqWait := .none
  /-- When the word began to wait (R188). -/
  waitAt : Nat := 0
  /-- The address of the current or last word (SEQ_PC, R189), and of the next. -/
  pc : BitVec 12 := 0
  next : BitVec 12 := 0
  /-- G0-G31. -/
  g : Map Word := []
  planPtr : Word := 0
  itemNo : Nat := 0
  pStart : Word := 0
  pBits : Word := 0
  pFrags : Word := 0
  pEnd : Word := 0
  /-- The sector position of the last PRED. -/
  pPos : Nat := 0
  stack : List (BitVec 12) := []
  mbox : List Word := []
  /-- Completion and error latches of inbound slots 0-3 (R170). -/
  comp : List Nat := []
  err : List Nat := []
  /-- Slot map in effect since the last drain (R170). -/
  slotMap : Nat := 0xFFFFFFFF
  /-- The sequencer interrupt raised to the application cores, with the code of the last TRAP (R160). -/
  trap : Option Nat := none
  /-- The sector of the last SRD or SWR, and whether it was a write. -/
  armPsa : Psa := ⟨0, 0, 0, 0⟩
  armWrite : Bool := false
  /-- Halted by the monitor at its word boundary (R586). -/
  halted : Bool := false
  /-- Reached ENDSWEEP in this sweep. -/
  ended : Bool := false
  /-- Stages of delay elements 1-15 after the last calibration (R165). -/
  stages : Map Nat := []
  deriving DecidableEq, Repr

/-- The plan memory of one actuator (R179-R186). -/
structure PlanSt where
  /-- Bytes of the two halves, by 16384 × half + offset. -/
  bytes : List Host.Cell := []
  exec : Nat := 0
  committed : Bool := false
  /-- The empty plan is selected for the sweep in progress (R23, R186). -/
  empty : Bool := true
  /-- The half being built missed its deadline or was refused: the next sweep runs the empty plan. -/
  discarded : Bool := false
  ringWr : Nat := 0
  ringRd : Nat := 0
  done : Nat := 0
  failed : Nat := 0
  /-- The write preset's temperature band as it stood when each plan was committed: of the executing plan, and of the committed
  one (R139). -/
  band : Nat := 1
  nextBand : Nat := 1
  deriving DecidableEq, Repr

/-- Where an image in service came from (MC_SOURCE, R189). -/
inductive McSource where
  | builtIn | loaded | stored
  deriving DecidableEq, Repr

/-- The code of MC_SOURCE (4500h.02). -/
def McSource.code : McSource → Nat
  | .builtIn => 0
  | .loaded => 1
  | .stored => 2

/-- The two control stores of a port cluster of a unit (R173): the images they hold, and the words corrected at a fetch that the next
drain rewrites from the master copy (R174), each with `true` for the transfer store. -/
structure StoreSt where
  images : List Byte := []
  flaws : List (Bool × Nat) := []
  deriving DecidableEq, Repr

/-- Microcode images and control stores (R173-R178). -/
structure McSt where
  /-- The control stores by 16 × unit + port. -/
  stores : Map StoreSt := []
  stage : List Byte := []
  verified : Bool := false
  /-- The master copy of the images in service. -/
  images : List Byte := []
  source : McSource := .builtIn
  result : Nat := 0
  /-- Images stored in journal flash by PERSIST. -/
  stored : Option (List Byte) := none
  loading : Option (List Byte) := none
  /-- The images being loaded are the built-in ones (REVERT). -/
  revert : Bool := false
  deriving DecidableEq, Repr

/-! ## Servo (R191-R245) -/

/-- ACT_STATE (R215). -/
inductive ActState where
  | off | parked | loading | acquire | seek | settle | follow | headSwitch | unloading | pn2Retract | fault
  deriving DecidableEq, Repr

/-- The code of an actuator state (R215). -/
def ActState.code : ActState → Nat
  | .off => 0
  | .parked => 1
  | .loading => 2
  | .acquire => 3
  | .seek => 4
  | .settle => 5
  | .follow => 6
  | .headSwitch => 7
  | .unloading => 8
  | .pn2Retract => 9
  | .fault => 0x0A

/-- Whether the outer loop is CLOSED (R215). -/
def ActState.outerClosed : ActState → Bool
  | .seek | .settle | .follow | .headSwitch => true
  | _ => false

/-- Whether the inner loop is CLOSED (R215). -/
def ActState.innerClosed : ActState → Bool
  | .off | .parked | .pn2Retract | .fault => false
  | _ => true

/-- HOLD of a loop command block (R233). -/
inductive HoldField where
  | slots4 | slots32 | retract
  deriving DecidableEq, Repr

/-- A loop command block (R233). -/
structure LoopCmd where
  vcm : Int := 0
  ma : Int := 0
  heatRd : Nat := 0
  heatWr : Nat := 0
  head : Nat := 0
  hold : HoldField := .slots32
  valid : Bool := false
  deriving DecidableEq, Repr

/-- The servo of one actuator (R191-R245). Positions, states and set-points are Q15.16. -/
structure SrvSt where
  st : ActState := .off
  /-- Selected head, last valid P_c, last e, reference position, seek velocity and its feedforward. -/
  head : Nat := 0
  pc : Int := 0
  e : Int := 0
  r : Int := 0
  vr : Int := 0
  dir : Int := 1
  aff : Int := 0
  dr : Int := 0
  /-- Target in effect; a target posted (track, head, boundaries since); whether the target in effect is the last one
  posted; a target stored for the next re-base. -/
  track : Nat := 0
  tHead : Nat := 0
  posted : Option (Nat × Nat × Nat) := none
  stored : Option (Nat × Nat) := none
  /-- When the state was entered, SETTLE reached from SEEK counting from SEEK (R216); when HEATER_SETTLE began (R224). -/
  since : Nat := 0
  heaterFrom : Nat := 0
  /-- The head selected before a head switch (R226). -/
  headWas : Nat := 0
  /-- States of the two loops, set-points and the ROW_POS prediction. -/
  outer : List Int := []
  inner : List Int := []
  iSet : Int := 0
  maSet : Int := 0
  pred : Int := 0
  /-- The outer product of the last boundary has been completed, and its input. -/
  outerDone : Bool := true
  outerIn : Int := 0
  lastValid : Bool := false
  /-- Last telemetry: coil current, microactuator sense, back-EMF, PARKED, WR_LOCK, head; consecutive frames without a good one. -/
  iMeas : Int := 0
  maMeas : Int := 0
  bemf : Int := 0
  isParked : Bool := false
  wrLock : Bool := false
  headSeen : Nat := 0
  tlmBad : Nat := 0
  /-- The command block sent last, and the set-points that the inner product in progress uses. -/
  sent : LoopCmd := {}
  inI : Int := 0
  inMa : Int := 0
  /-- The inner product of the next frame has been started by the telemetry of this one (R203); the sample index at which the last
  frame started; the servo window commanded last (R193, R234). -/
  innerReady : Bool := false
  frameAt : Word := 0
  win : Option (Word × Nat) := none
  /-- HOLD 10b has been ordered and is sent in the next block. -/
  retractAsked : Bool := false
  /-- Runs: consecutive valid decodes, consecutive invalid ones, samples within SETTLE_LIMIT, samples within
  WRITE_LIMIT, decodes since the head switch. -/
  valid : Nat := 0
  missed : Nat := 0
  settled : Nat := 0
  safeRun : Nat := 0
  switchRun : Nat := 0
  onTrack : Bool := false
  writeSafe : Bool := false
  /-- A disturbance of R224 since the last outer sample; a step took effect at the last one; HEATER_SETTLE runs. -/
  upset : Bool := false
  stepped : Bool := false
  heaterWait : Bool := false
  heatRd : Nat := 0
  heatWr : Nat := 0
  /-- Swaps pending, each with the boundaries since the request (R213). -/
  swapOuter : Option Nat := none
  swapInner : Option Nat := none
  outerBank : Nat := 0
  innerBank : Nat := 0
  /-- A load is asked for; consecutive failed loads; the load in progress has failed; an unload is a controlled stop. -/
  loadAsked : Bool := false
  loadFails : Nat := 0
  stopOrdered : Bool := false
  /-- The number of the outer sample (R243). -/
  sample : Nat := 0
  /-- Outer samples for which the loop-command safe value has been held (R524). -/
  safeHeld : Nat := 0
  deriving DecidableEq, Repr

/-! ## Spindles (R246-R277) -/

/-- SPD_STATE (R258). -/
inductive SpdState where
  | idle | measure | brakeToRest | coastToRest | atRest | trackForward | align | ramp | accelBemf | accelCt | pullIn
  | locked | bemfHold | recatch | stopping
  deriving DecidableEq, Repr

/-- The code of a spindle state (R258). -/
def SpdState.code : SpdState → Nat
  | .idle => 0
  | .measure => 1
  | .brakeToRest => 2
  | .coastToRest => 3
  | .atRest => 4
  | .trackForward => 5
  | .align => 6
  | .ramp => 7
  | .accelBemf => 8
  | .accelCt => 9
  | .pullIn => 0x0A
  | .locked => 0x0B
  | .bemfHold => 0x0C
  | .recatch => 0x0D
  | .stopping => 0x0E

/-- Whether the part drives the windings (R247, R269): ALIGN to BEMF_HOLD. -/
def SpdState.driven : SpdState → Bool
  | .align | .ramp | .accelBemf | .accelCt | .pullIn | .locked | .bemfHold => true
  | _ => false

/-- BRIDGE of a motor command block (R249). -/
inductive Bridge where
  | drive (k : Nat) | coast | shortBrake | pulsedBrake
  deriving DecidableEq, Repr

/-- A motor command block (R249): `apply` is APPLY_FRAME and APPLY_TIME, `none` with IMMEDIATE. -/
structure MotorCmd where
  bridge : Bridge := .coast
  duty : Nat := 0
  apply : Option (Nat × Nat) := none
  deriving DecidableEq, Repr

/-- One spindle (R246-R277). Times of crossings are in 1/256 motor frame since the spindle was last idle. -/
structure SpdSt where
  st : SpdState := .idle
  /-- When the state was entered, in µs. -/
  since : Nat := 0
  bridge : Bridge := .coast
  duty : Nat := 0
  /-- The integrator of R266, in DUTY / (256 × 10^9). -/
  integ : Int := 0
  /-- The motor command block sent last (R249). -/
  sent : MotorCmd := {}
  /-- Drive state, its start, and the moment of the next one. -/
  phase : Nat := 0
  commTime : Nat := 0
  commAt : Option Nat := none
  /-- Last crossing, the last two intervals; the first frame end of the state with CLAMP 0; whether its window is over;
  missed windows in a row; valid crossings in a row; length of the open-loop state of RAMP. -/
  lastZc : Nat := 0
  int1 : Nat := 0
  int2 : Nat := 0
  clampAt : Option Nat := none
  judged : Bool := false
  missRun : Nat := 0
  run : Nat := 0
  rampT : Nat := 0
  /-- Frames counted, and the time of the first in ns since power-on; the frame of the last duty update (R265); crossings observed in coast, newest first: index in the order of R252 and time. -/
  frame : Nat := 0
  zero : Nat := 0
  dutyAt : Nat := 0
  seen : List (Nat × Nat) := []
  /-- When the standstill test last failed (R263), and when the last probe began (R263, R271). -/
  quietFrom : Nat := 0
  probeAt : Nat := 0
  /-- When the re-catch attempt in progress began (R269). -/
  tryAt : Nat := 0
  /-- Last motor telemetry: phase current, bus current, bus voltage, back-EMF; consecutive frames of reverse current. -/
  iPhase : Int := 0
  iBus : Int := 0
  vBus : Nat := 0
  bemf : Nat := 0
  regen : Nat := 0
  /-- Spun up under a grant and not yet LOCKED, and the time of the grant; RAMP timeouts of the grant; ACCEL_CT reached. -/
  granted : Bool := false
  grantTime : Nat := 0
  rampFails : Nat := 0
  ctReached : Bool := false
  /-- Consecutive indices within 0.35°, re-catch attempts made, whether the attempt commutates, consecutive probes at
  standstill, clock-track windows that agree with the crossings (R266), and the speed of the last window in 1/1000 rpm. -/
  inPhase : Nat := 0
  attempts : Nat := 0
  restarted : Bool := false
  still : Nat := 0
  agree : Nat := 0
  ctSpeed : Nat := 0
  /-- Last phase error, in ns. -/
  phErr : Int := 0
  /-- The measured index phase, adopted at a sweep edge (R248). -/
  indexAt : Option Nat := none
  /-- How long after the last crossing the last index came, in ns, and the crossings since (R270). -/
  idxLag : Int := 0
  sinceIdx : Nat := 0
  /-- Since a re-catch the spindle counts as coming up, until LOCKED (R269). -/
  caught : Bool := false
  /-- Times since which the request has stayed above, and at or below, DUTY_CAP (R256). -/
  overFrom : Option Nat := none
  underFrom : Option Nat := none
  deriving DecidableEq, Repr

/-! ## The PN2 (R46-R50, R58, R59, R64, R234, R238, R239, R251) -/

/-- One actuator as its PN2 has it. -/
structure Pn2Act where
  /-- Write current, and the sample index of the last gate-on block (R46). -/
  gate : Bool := false
  gateAt : Word := 0
  /-- The sampling ratio in use, 256 × M + N (R85), and the reader sub-lanes whose next marker tells of a new ratio or a new head
  (R44). -/
  ratio : Nat := 0
  ratioDue : List Nat := []
  headDue : List Nat := []
  /-- The precompensation entry and the write preset in use (R138-R140). -/
  precomp : List Byte := []
  preset : List Byte := []
  /-- The transitions of the fragment being written: the bit of each, and its delay in 1/64 bit (R138). -/
  flux : List (Nat × Int) := []
  /-- The last valid loop command block (R238). -/
  vcm : Int := 0
  ma : Int := 0
  heatRd : Nat := 0
  heatWr : Nat := 0
  head : Nat := 0
  hold : HoldField := .slots32
  /-- Slots in a row without a valid block, and HOLDING. -/
  missed : Nat := 0
  holding : Bool := false
  /-- SELF_RETRACTED, and VCM_CMD and MA_CMD ignored since the retract (R239). -/
  retracted : Bool := false
  ignores : Bool := false
  /-- The servo window commanded last, and the start of the one opened last (R47). -/
  winStart : Word := 0
  winLen : Nat := 0
  opened : Option Word := none
  deriving DecidableEq, Repr

/-- One PN2. -/
structure Pn2St where
  /-- TOKEN levels accepted after 1 µs (R64). -/
  tokA : Bool := false
  tokB : Bool := false
  /-- SPIN codes decoded on each side; `none` for a waveform that has fitted no row for 1 ms (R58). -/
  spinA : Option SpinCode := some .coast
  spinB : Option SpinCode := some .coast
  /-- The side whose motor lane trained first (R50). -/
  firstLane : Option UnitId := none
  act0 : Pn2Act := {}
  act1 : Pn2Act := {}
  /-- What drives the windings, and the motor slots in a row without a valid block (R251). -/
  bridge : Bridge := .coast
  duty : Nat := 0
  noBlock : Nat := 0
  deriving DecidableEq, Repr

/-- One actuator of a PN2. -/
def Pn2St.act (q : Pn2St) (a : Nat) : Pn2Act := if a = 0 then q.act0 else q.act1

/-- One actuator of a PN2 changed by a function. -/
def Pn2St.modAct (q : Pn2St) (a : Nat) (f : Pn2Act → Pn2Act) : Pn2St :=
  if a = 0 then { q with act0 := f q.act0 } else { q with act1 := f q.act1 }

/-- The side a PN2 obeys (R64). -/
def Pn2St.obey (q : Pn2St) : Obey :=
  if q.tokA && !q.tokB then .side .A else if q.tokB && !q.tokA then .side .B else .none

/-! ## The object service (R278-R332) -/

/-- The state of a member slot (2005h). -/
inductive SlotState where
  | free | active | lost | retired
  deriving DecidableEq, Repr

/-- The code of a slot state. -/
def SlotState.code : SlotState → Nat
  | .free => 0
  | .active => 1
  | .lost => 2
  | .retired => 3

/-- One member slot (R283, R321): serial, port, epoch at joining, positions in its bands, and the bands in use as
(((act × 16 + head) × 32 + zone) × 2^24 + band). -/
structure Member where
  state : SlotState := .free
  serial : List Byte := []
  port : Option Nat := none
  epoch : Nat := 0
  bands : Nat := 0
  positions : Nat := 0
  used : List Nat := []
  /-- CHECKPOINT_SEQ of the root in its system records (R309). -/
  root : Nat := 0
  /-- Joined in this sweep: writable from the next sweep edge (R323). -/
  fresh : Bool := false
  deriving DecidableEq, Repr

/-- One sorus with its chunk (R286-R306). A sorus that waits to be placed has no SORUS_ID. -/
structure SorusSt where
  ns : Nat := 0
  /-- A sorus of the index (R296). -/
  index : Bool := false
  profile : Nat := 0
  /-- The chunk input, and N. -/
  input : List Byte := []
  n : Nat := 0
  slack : Nat := 1
  /-- The open packing chunk of its namespace (R289). -/
  packing : Bool := false
  packed : Bool := false
  hint : CompressMode := .auto
  /-- What its namespace's settings and the width were when the chunk was formed (R280, R286): ENTROPY_LIMIT, PACK_WAIT, the input
  limit; when its first record came, and how many it holds (R289). -/
  entropy : Nat := 240
  packWait : Nat := 0
  limit : Nat := 262144
  since : Nat := 0
  records : Nat := 0
  /-- The standby holds a copy of the chunk (R19). -/
  mirrored : Bool := false
  /-- SWEEP_COUNT when it was sealed (R313). -/
  sealedAt : Nat := 0
  k : Nat := 0
  f : Nat := 0
  width : Nat := 0
  sid : Option (Nat × Nat) := none
  frags : List (Nat × FragRec) := []
  /-- Bits by FRAG_INDEX: checked, missing, and abandoned or lost before a check. -/
  checked : Nat := 0
  missing : Nat := 0
  sealed : Bool := false
  lost : Bool := false
  dead : Bool := false
  thin : Bool := false
  abandons : Nat := 0
  /-- The sorus this one replaces when it is sealed (R316). -/
  replaces : Option Nat := none
  /-- Values repacked into this packing chunk: key, old sorus, offset here (R326). -/
  moves : List (List Byte × Nat × Nat) := []
  deriving DecidableEq, Repr

/-- A fragment that firmware reads for a chunk (R20): sweep edges since it was planned, the sectors delivered, and whether it will not
be delivered any more. -/
structure FragRead where
  frag : Nat
  age : Nat := 0
  got : List (Nat × List Byte) := []
  gone : Bool := false
  deriving DecidableEq, Repr

/-- A chunk that firmware reads (R20, R21, R316, R326): its fragments; whether a new sorus is to be written from it, or its live
values packed again; whether what was delivered has failed the chunk's check; whether the sorus coder has run. -/
structure ChunkRead where
  frags : List FragRead := []
  copy : Bool := false
  repack : Bool := false
  suspect : Bool := false
  coded : Bool := false
  deriving DecidableEq, Repr

/-- A value descriptor (R305); `chunks` are soruses in value order, `off` the record offset of a packed value. -/
structure ValueDesc where
  key : List Byte
  len : Nat
  packed : Bool := false
  lost : Bool := false
  chunks : List Nat := []
  off : Nat := 0
  deriving DecidableEq, Repr

/-- A band of a band set: member slot, head, zone, band, and its current data track. -/
structure SetBand where
  slot : Nat
  port : Nat
  head : Nat
  zone : Nat
  band : Nat
  track : Nat := 0
  deriving DecidableEq, Repr

/-- A band set (R301, R302). -/
structure BandSet where
  no : Nat
  act : Nat
  bands : List SetBand
  seq : Nat := 0
  isOpen : Bool := true
  deriving DecidableEq, Repr

/-- What a record of the index journal carries: the index change of a Store or Delete, another change of the index (a rebuilt or
repacked value), or the root of a checkpoint (R307, R309). -/
inductive RecordKind where
  | value | change | root
  deriving DecidableEq, Repr

/-- An index record staged and not yet programmed into the journal flash of every present unit (R307, R497): its size in bytes, the
key, the descriptor it replaced, the soruses it references, the command, the units whose program is due and whether any has ended. -/
structure StagedRec where
  kind : RecordKind := .change
  size : Nat
  ns : Nat := 0
  key : List Byte := []
  prev : Option ValueDesc := none
  chunks : List Nat := []
  tag : CmdTag := ⟨.A, 0, 0⟩
  need : List UnitId
  kept : Bool := false
  deriving DecidableEq, Repr

/-- OS_STATE (R331). -/
inductive OsMode where
  | stopped | recovering | reduced | readWrite | readOnly | indexUnavailable
  deriving DecidableEq, Repr

/-- The code of OS_STATE. -/
def OsMode.code : OsMode → Nat
  | .stopped => 0
  | .recovering => 1
  | .reduced => 2
  | .readWrite => 3
  | .readOnly => 4
  | .indexUnavailable => 5

/-- The object service (R278-R332). -/
structure OsSt where
  mode : OsMode := .stopped
  members : Map Member := []
  soruses : Map SorusSt := []
  nextSorus : Nat := 1
  /-- Value descriptors of each namespace, in the order of R282. -/
  index : Map (List ValueDesc) := []
  /-- Soruses that wait for a place, in order; soruses queued for rebuild or repair. -/
  queue : List Nat := []
  repair : List Nat := []
  sets : List BandSet := []
  /-- Frontiers of the bands written since their release, by slot, head, zone, band and position (R152). -/
  frontiers : Map (Map Nat) := []
  /-- The BAND_SEQ of the next fragment of a band written since its release, by slot, head, zone and band (R300). -/
  bandSeqs : Map Nat := []
  nextSet : Nat := 0
  /-- Chunks being read, by sorus. -/
  reads : Map ChunkRead := []
  /-- NS_STATE by namespace: 00h UNUSED, 01h ACTIVE, 02h DELETING. -/
  nsState : Map Nat := []
  /-- Bytes of the journal records since the last root; when that was taken (R309); the bytes older than a root that is not yet programmed
  on every present unit. -/
  journal : Nat := 0
  checkAt : Nat := 0
  rootOlder : Nat := 0
  blocked : Bool := false
  /-- Staged records, newest first. -/
  unprog : List StagedRec := []
  /-- Compaction runs until every member has twice FREE_BANDS_LOW free bands (R325). -/
  compacting : Bool := false
  /-- The index has been recovered in this Bring-up (R310). -/
  recovered : Bool := false
  deriving DecidableEq, Repr

/-! ## The command table (R342-R348) -/

/-- What a command in the table does. A finished one waits for completions to be posted again (R353, R476). -/
inductive CmdKind where
  | waiting | store | delete | retrieve | exist | list | flush | admin | aer | commit | forwarded | finished
  deriving DecidableEq, Repr

/-- One command in the command table. -/
structure HostCmd where
  tag : CmdTag
  kind : CmdKind := .waiting
  ns : Nat := 0
  all : Bool := false
  key : List Byte := []
  value : List Byte := []
  hint : CompressMode := .auto
  limit : Nat := 0
  /-- Soruses whose seal it waits for; their order is the value's. -/
  chunks : List Nat := []
  packed : Bool := false
  off : Nat := 0
  /-- A Store that has not been cut into chunks yet: held for width or in Bring-up (R285, R319). -/
  held : Bool := false
  heldAt : Nat := 0
  /-- Its record has been staged on the active unit and waits for the standby's acknowledgement (R307). -/
  staged : Bool := false
  /-- The standby's acknowledgement of its record is still to come (R307). -/
  ackDue : Bool := false
  /-- Entered through the other unit (R334). -/
  forwarded : Bool := false
  /-- What a Retrieve has looked up, the soruses whose chunks it waits for, and the chunks that have been read (R20). -/
  desc : Option ValueDesc := none
  waits : List Nat := []
  parts : List (Nat × List Byte) := []
  /-- A Retrieve has been served from this Store's data (R347). -/
  observed : Bool := false
  /-- The module a forwarded command runs on, with the tag of its CMD (R459). -/
  target : Option Nat := none
  fwdTag : Nat := 0
  /-- Bytes of a cascaded Store's value still to arrive (R459). -/
  need : Nat := 0
  /-- The options of a Store that waits for its data. -/
  opt : StoreOpt := .any
  /-- Slot and action of a Firmware Commit that is held (R37). -/
  slot : Nat := 0
  action : Nat := 0
  deriving DecidableEq, Repr

/-- One entry of log page C0h (R355). -/
structure Deferred where
  seq : Nat
  time : Nat
  cause : Nat
  ns : Nat
  key : List Byte := []
  sid : Option (Nat × Nat) := none
  deriving DecidableEq, Repr

/-- A completion posted to a completion queue: tag, status code type and code, DNR, CRD, Dword 0 (R351) and the MSI-X vector it raises
(R337). -/
structure Cpl where
  tag : CmdTag
  sct : Nat := 0
  sc : Nat := 0
  dnr : Bool := false
  crd : Nat := 0
  dw0 : Nat := 0
  data : List Byte := []
  vector : Nat := 0
  deriving DecidableEq, Repr

/-- An asynchronous event (R354): type, information and log page. -/
structure Aen where
  ty : Nat
  info : Nat
  log : Nat
  deriving DecidableEq, Repr

/-- A submission queue: its completion queue, its size and the next entry to fetch. -/
structure SubQueue where
  qid : Nat
  cq : Nat
  size : Nat
  head : Nat := 0
  deriving DecidableEq, Repr

/-- A completion queue: its size, interrupt vector, the next entry to post and its phase tag. -/
structure CplQueue where
  qid : Nat
  size : Nat
  vector : Nat := 0
  tail : Nat := 0
  phase : Bool := true
  deriving DecidableEq, Repr

/-- One controller of the subsystem (R333-R339, R619). -/
structure CtrlSt where
  linkUp : Bool := false
  ccEn : Bool := false
  rdy : Bool := false
  cfs : Bool := false
  pp : Bool := false
  sqs : List SubQueue := []
  cqs : List CplQueue := []
  /-- Outstanding Asynchronous Event Requests (R339, R354), events not yet delivered, and event types masked. -/
  aers : List Nat := []
  events : List Aen := []
  masked : List Nat := []
  /-- Feature values by feature identifier (02h, 04h, 07h, 08h, 0Bh). -/
  features : Map Nat := []
  /-- The downloaded firmware image pieces (R352): offset and bytes, newest first. -/
  download : List (Nat × List Byte) := []
  /-- The queue whose burst is in progress, and the entries fetched of it (R343). -/
  turn : Nat := 64
  burst : Nat := 0
  /-- Completions posted, newest first. -/
  posted : List Cpl := []
  deriving DecidableEq, Repr

/-- BUF_STATE (R389). -/
inductive BufState where
  | untrained | training | inService | selfRefresh | retraining | failed
  deriving DecidableEq, Repr

/-- The code of BUF_STATE (4000h.02). -/
def BufState.code : BufState → Nat
  | .untrained => 0
  | .training => 1
  | .inService => 2
  | .selfRefresh => 3
  | .retraining => 4
  | .failed => 5

/-- Temperature bands (R511): Cold, Normal, Warm, Hot, Critical. -/
inductive Band where
  | cold | normal | warm | hot | critical
  deriving DecidableEq, Repr

/-- The code of a band. -/
def Band.code : Band → Nat
  | .cold => 0
  | .normal => 1
  | .warm => 2
  | .hot => 3
  | .critical => 4

/-- Kinds of an error-log entry (R369). -/
inductive ErrKind where
  | corrected | uncorrectable | poisoned
  deriving DecidableEq, Repr

/-- One entry of the error log (R369). -/
structure LogEntry where
  group : Nat
  word : Nat
  kind : ErrKind
  rewritten : Bool := false
  remapped : Bool := false
  positions : List Nat := []
  count : Nat := 1
  first : Nat := 0
  last : Nat := 0
  deriving DecidableEq, Repr

/-- One remap entry (R371). -/
structure RemapEntry where
  valid : Bool := false
  retired : Bool := false
  group : Nat := 0
  deriving DecidableEq, Repr

/-- One merge-buffer entry (R374-R376): its group, its 512 bytes as filled and merged, the offsets written since it was
taken, the words that were uncorrectable or poisoned at the fill, and the time of its last write. Entries stand in the order of their last
write. -/
structure MergeEntry where
  group : Nat
  bytes : List Byte
  written : List Nat := []
  bad : List Nat := []
  since : Nat := 0
  deriving DecidableEq, Repr

/-- The scrubber and the summary of its last pass (R377-R379). -/
structure ScrubSt where
  passNo : Nat := 0
  result : Nat := 0
  first : Nat := 0
  last : Nat := 0
  next : Nat := 0
  done : Nat := 0
  corrected : Nat := 0
  uncorrectable : Nat := 0
  skipped : Nat := 0
  firstUncorr : Nat := 0xFFFFFFFF
  startTime : Nat := 0
  endTime : Nat := 0
  stopAsked : Bool := false
  /-- The pass running was started by firmware for SCRUB_INTERVAL. -/
  auto : Bool := false
  deriving DecidableEq, Repr

/-- An access held while the interface is untrained or retraining (R361, R362). -/
structure HeldAccess where
  write : Bool
  addr : Nat
  len : Nat
  bytes : List Byte := []
  deriving DecidableEq, Repr

/-- The response to an access: the bytes read, or an error response (R359, R367). -/
inductive BufResp where
  | none | ok (bytes : List Byte) | error
  deriving DecidableEq, Repr

/-- The buffer memory of one unit (R358-R381). -/
structure BufSt where
  state : BufState := .untrained
  trainFails : Nat := 0
  /-- Data bytes of the devices, by 512 × location + offset; a location is a group, or 11 184 128 + n for spare n. -/
  data : List Host.Cell := []
  /-- Error pattern of the devices, by 576 × location + 72 × word + byte: XOR of what is stored and a code word. -/
  err : List Host.Cell := []
  merge : List MergeEntry := []
  log : List LogEntry := []
  remap : Map RemapEntry := []
  scrub : ScrubSt := {}
  /-- When firmware last started a pass (R379), and when the devices were last accessed (R364). -/
  scrubAt : Nat := 0
  lastUse : Nat := 0
  /-- The address of the first word that answered the last failing access with an error (R406). -/
  errAt : Nat := 0
  held : List HeldAccess := []
  resp : BufResp := .none
  deriving DecidableEq, Repr

/-- CACHE_STATE (R391). -/
inductive CacheState where
  | disabled | enabled | disablePending
  deriving DecidableEq, Repr

/-- The code of CACHE_STATE (4100h.02). -/
def CacheState.code : CacheState → Nat
  | .disabled => 0
  | .enabled => 1
  | .disablePending => 2

/-- One cache line (R382): tag, dirty bit, time of last use and its 512 bytes. A line that is not listed is invalid. -/
structure Line where
  valid : Bool := false
  dirty : Bool := false
  tag : Nat := 0
  used : Nat := 0
  bytes : List Byte := []
  deriving DecidableEq, Repr

/-- One eviction-buffer entry (R384): its group and bytes, written again since its write-back was issued, and hit since,
so that the line is allocated again. -/
structure EvictEntry where
  group : Nat
  bytes : List Byte
  again : Bool := false
  wanted : Bool := false
  deriving DecidableEq, Repr

/-- The metadata cache of one unit (R382-R387). -/
structure CacheSt where
  state : CacheState := .disabled
  /-- Lines by 2048 × way + set. -/
  lines : Map Line := []
  evict : List EvictEntry := []
  stamp : Nat := 0
  /-- Accesses that wait for the oldest write-back (R384). -/
  waiting : List HeldAccess := []
  resp : BufResp := .none
  deriving DecidableEq, Repr

/-! ## Event fabric, DMA channels and compression engines (R393-R425) -/

/-- A stream of the sorus coder (R400): its profile, column count and parity addresses, the columns of the row in hand and of the element in
hand, and the rows coded. -/
structure CoderSt where
  profile : Nat := 0
  cols : Nat := 0
  addrs : List Nat := []
  got : List (List Byte) := []
  part : List Byte := []
  row : Nat := 0
  deriving DecidableEq, Repr

/-- Power domains and timers of a unit's object-service cluster (R395, R408-R411). -/
structure FabSt where
  /-- Domains that are up, as bits: DOMAIN_POWERED. -/
  powered : Nat := 0
  /-- Domains that are going down, and power-up requests held until they are down. -/
  going : List Nat := []
  upHeld : List Nat := []
  /-- DOMAIN_RESULT. -/
  result : Nat := 0
  /-- Time at which each timer last started (R395). -/
  timers : Map Nat := []
  /-- The sorus coder streams that are set up (R400). -/
  coder : Map CoderSt := []
  /-- The channel served last of each PRIORITY (R403). -/
  turns : Map Nat := []
  /-- Decompressors and job tags whose result was 24h, until another engine runs the job again (R420). -/
  recheck : List (Nat × Nat) := []
  deriving DecidableEq, Repr

/-- A DMA channel (R401-R405). -/
inductive DmaState where
  | idle | waitStart | running | waitCredit | stopping
  deriving DecidableEq, Repr

/-- One DMA channel: its descriptor, the element in hand and the bytes of it moved, and the credits (R396-R405). -/
structure DmaSt where
  st : DmaState := .idle
  desc : List Byte := []
  cur : Nat := 0
  i0 : Nat := 0
  i1 : Nat := 0
  i2 : Nat := 0
  off : Nat := 0
  credits : Nat := 0
  deriving DecidableEq, Repr

/-! ## Start, spin-up budget and cascade (R426-R466) -/

/-- CASC_ROLE (R465). -/
inductive CascRole where
  | undecided | root | member | isolated
  deriving DecidableEq, Repr

/-- The code of CASC_ROLE. -/
def CascRole.code : CascRole → Nat
  | .undecided => 0
  | .root => 1
  | .member => 2
  | .isolated => 3

/-- LINK_STATE of a Griug link (R465). -/
inductive GriugState where
  | noPartner | training | up4 | up2 | miswired | failed
  deriving DecidableEq, Repr

/-- The code of LINK_STATE. -/
def GriugState.code : GriugState → Nat
  | .noPartner => 0
  | .training => 1
  | .up4 => 2
  | .up2 => 3
  | .miswired => 4
  | .failed => 5

/-- One Griug link (R447-R449): steps of training done, the width and partner found, sequence numbers, the packets sent and
not acknowledged, and the replays of the oldest of them. -/
structure GriugLink where
  st : GriugState := .noPartner
  step : Nat := 0
  two : Bool := false
  ident : Option LinkIdent := none
  txSeq : BitVec 12 := 0
  rxSeq : BitVec 12 := 0
  replay : List (BitVec 12 × Packet) := []
  replays : Nat := 0
  /-- When the oldest packet not acknowledged was sent or replayed last (R449). -/
  sentAt : Nat := 0
  /-- The last acknowledgement or rejection sent (R449). -/
  answer : Option LinkFrame := none
  deriving DecidableEq, Repr

/-- One module of the root's table (MODULE_TABLE, R465). -/
structure TreeModule where
  serial : List Byte := []
  parent : Nat := 0
  port : Nat := 0
  depth : Nat := 0
  used : Bool := false
  reachable : Bool := false
  /-- When it was last found unreachable (R462). -/
  lostAt : Nat := 0
  deriving DecidableEq, Repr

/-- A spin-up token in the root's ledger (R439), and when it counts as returned at the latest (R443). -/
structure Grant where
  number : Nat
  module : Nat
  due : Nat
  deriving DecidableEq, Repr

/-- A spin-up token held by this module (R440-R445); a token it gave itself has no number at a root. -/
structure Token where
  number : Nat
  port : Nat
  surge : Nat
  time : Nat
  orphan : Bool := false
  deriving DecidableEq, Repr

/-- An enumeration in progress at the root (R455): the level queried, when, and its answers. -/
structure EnumSt where
  level : List Nat
  depth : Nat
  seen : Map (PartnerSeen × PartnerSeen) := []
  queried : Nat := 0
  start : Nat
  lastAssign : Nat
  deriving DecidableEq, Repr

/-- The cascade as this module holds it (R439-R462). -/
structure CascSt where
  role : CascRole := .undecided
  number : Option Nat := none
  depth : Option Nat := none
  /-- Links by 3 × unit + port; hops with both links down, and the packets that wait for a link, by hop. -/
  links : Map GriugLink := []
  downHops : List Nat := []
  /-- When each of these hops went down (R462). -/
  downAt : Map Nat := []
  /-- Modules whose subtree has been unreachable for GRIUG_DROP (R462). -/
  dropped : List Nat := []
  parked : Map (List Packet) := []
  table : Map TreeModule := []
  /-- ROUTE_TABLE by module number; an entry not listed is FFh. -/
  routes : Map Nat := []
  enumr : Option EnumSt := none
  enumDone : Bool := false
  /-- Downstream ports of modules that reported while another enumeration ran (R457). -/
  late : Map (PartnerSeen × PartnerSeen) := []
  /-- The root's ledger: tokens in use, requests waiting (module, port), the module granted last, the hold of R444 and the
  modules that have reported. -/
  ledger : List Grant := []
  requests : List (Nat × Nat) := []
  lastGranted : Nat := 63
  holdoff : Bool := false
  holdFrom : Nat := 0
  reported : List Nat := []
  /-- This module's tokens, the ports with a request outstanding, and whether ROOTLESS_WAIT has run out (R445). -/
  held : List Token := []
  asked : List Nat := []
  rootless : Bool := false
  /-- Packets sent, newest first. -/
  sent : List Packet := []
  nextTag : Nat := 0
  deriving DecidableEq, Repr

/-- The firmware of one unit (R430-R432): the images in its two slots as written since manufacture, and the image
that runs. -/
structure FwSt where
  slots : Map (List Byte) := []
  running : Option (List Byte) := none
  /-- Bytes of a recovery image being checked (R433). -/
  recovery : Option (List Byte) := none
  deriving DecidableEq, Repr

/-- PEER_STATE (R488): how the active unit sees the other unit. -/
inductive PeerState where
  | absent | selfTest | stateCopy | ready | released | refused | versionMismatch | failedSelfTest
  deriving DecidableEq, Repr

/-- The code of PEER_STATE (1200h.04). -/
def PeerState.code : PeerState → Nat
  | .absent => 0
  | .selfTest => 1
  | .stateCopy => 2
  | .ready => 3
  | .released => 4
  | .refused => 5
  | .versionMismatch => 6
  | .failedSelfTest => 7

/-- MIRROR_STATE (R488). -/
inductive MirrorState where
  | down | training | up16 | up8
  deriving DecidableEq, Repr

/-- The code of MIRROR_STATE (1202h.00). -/
def MirrorState.code : MirrorState → Nat
  | .down => 0
  | .training => 1
  | .up16 => 2
  | .up8 => 3

/-- One unit as the pair sees it: self-test, claim line, reset (R467, R474, R480). -/
structure UnitSt where
  present : Bool := true
  selfTest : Bool := false
  claim : Bool := false
  inReset : Bool := true
  /-- Time at which the unit was last released, until its rejoin is complete (R480). -/
  releasedAt : Option Nat := none
  /-- The release was planned: the unit restarts warm and its host port stays up (R336, R484). -/
  plannedRelease : Bool := false
  fwRunning : Bool := false
  gddrTrained : Bool := false
  /-- It has received the active unit's image in this rejoin and restarted once (R480). -/
  resent : Bool := false
  /-- A fatal check of this unit has tripped and the unit has not rejoined (R475, R487). -/
  tripped : Bool := false
  /-- PACE_SLACK is below the threshold (R508), and the time at which it fell below (R473). -/
  paceLow : Bool := false
  lowFrom : Nat := 0
  /-- Time since which the temperature that THERMAL_TRIP watches has been above 130 °C (R514). -/
  hotFrom : Option Nat := none
  /-- Events counted by the self-diagnosis, with their times, newest first (R475). -/
  diag : List (ReleaseCause × Nat) := []
  /-- Times of the releases of this unit in the last 24 hours, newest first (R482). -/
  releases : List Nat := []
  deriving DecidableEq, Repr

/-- Steps of a rolling activation (R483); `idle` when none runs. -/
inductive ActivationStep where
  | idle | sendImage | peerRestart | drain1 | switch1 | xRestart | drain2 | switch2
  deriving DecidableEq, Repr

/-- The pair of units (R467-R489, R620). -/
structure PairSt where
  roleDecided : Bool := false
  /-- Time at which the steps of R426 began, from which R467 counts. -/
  startAt : Nat := 0
  /-- CLAIM_TIMER has passed: the preferred unit can no longer claim in this start (R467). -/
  claimClosed : Bool := false
  active : UnitId := .A
  peer : PeerState := .absent
  mirror : MirrorState := .down
  /-- Time at which the mirror link went down or was last trained again (R470). -/
  mirrorAt : Nat := 0
  unitA : UnitSt := {}
  unitB : UnitSt := {}
  /-- A degrading check has tripped while no standby was ready (R475). -/
  heldCheck : Option ReleaseCause := none
  /-- Time of the last release, and of the fetch stop when it was planned (R479). -/
  releaseTime : Nat := 0
  gapStart : Nat := 0
  /-- Time of the last take-over, from which R27 counts its 200 µs. -/
  takeTime : Nat := 0
  /-- Ports the new active unit has still to claim (R477). -/
  toClaim : List Nat := []
  /-- Ports whose command rows differed from the last rows of the releasing unit where R478 asks for a confirmation. -/
  unlike : List Nat := []
  /-- Rejoin-settle running since (R478), and the test situation of an activation or planned switchover. -/
  settleFrom : Option Nat := none
  testHold : Bool := false
  /-- PAIR_COMMAND 01h accepted in Maintenance, waiting for the end of a raw operation (R486). -/
  maintSwitch : Bool := false
  step : ActivationStep := .idle
  /-- The activation in progress: its slot, the unit that was active when the commit arrived (R483), and the command slot of a
  Firmware Commit with action 011b. -/
  actSlot : Nat := 0
  actHome : UnitId := .A
  actCmd : Option CmdTag := none
  /-- Commits with activation that wait for a controller reset (R352, R621), and those held under R37. -/
  actPending : Option Nat := none
  deriving DecidableEq, Repr

/-! ## Supplies and the always-on logic (R426, R490-R505, R604) -/

/-- HOLD_STATE (R515). -/
inductive HoldState where
  | empty | charging | ready | weak | discharging | unmeasured
  deriving DecidableEq, Repr

/-- The code of HOLD_STATE (R515). -/
def HoldState.code : HoldState → Nat
  | .empty => 0
  | .charging => 1
  | .ready => 2
  | .weak => 3
  | .discharging => 4
  | .unmeasured => 5

/-- Supplies, straps and what the always-on logic holds. -/
structure SupSt where
  /-- VAUX3 is present, and is in its window. -/
  vaux3 : Bool := false
  vauxIn : Bool := false
  vin12 : Bool := false
  /-- HOLD_STATE (R497, R515), of the module's one capacitor; the voltage in mV at which the charge began. -/
  hold : HoldState := .empty
  holdFrom : Nat := 0
  /-- Times at which the charge of HOLD began, and at which the regulators of the cores were started (R494). -/
  holdSince : Nat := 0
  coresFrom : Nat := 0
  /-- The last PEN that rose, and when (R501). -/
  penAt : Option (Nat × Nat) := none
  /-- HOLD is below 8.0 V (R30, R505). -/
  holdSpent : Bool := true
  /-- HOLD was ready when VIN12 was lost (R505). -/
  holdReady : Bool := false
  /-- HOLD ran out with VAUX3 absent: HOLD_EXHAUSTED is set at the next start (R505). -/
  exhaustedDue : Bool := false
  rstLow : Bool := false
  /-- The straps latched in step 1 of R426, and the filtered level of BOOTSEL. -/
  straps : Straps := { plcaId := 0, root := false, unitPref := false, bootSel := false }
  deriving DecidableEq, Repr

/-- One temperature sensor (R509-R511): its last reading within range in tenths of a degree, its condition with the codes of
DIODE_STATE, consecutive readings with and without a broken condition, whether it counts as broken, and its band. -/
structure Reading where
  value : Option Int := none
  cause : Nat := 5
  bad : Nat := 0
  good : Nat := 0
  broken : Bool := false
  band : Band := .normal
  deriving DecidableEq, Repr

/-- The remote diode of an HDA as one unit reads it (R509, R517). -/
structure HdaSt where
  r : Reading := { band := .critical }
  deriving DecidableEq, Repr

/-! ## Journal flash (R539-R558) -/

/-- One copy of a state row (R540), and whether its ROW_CRC passes. -/
structure RowCopy where
  state : Nat
  seq : Nat
  count : Nat
  logical : Nat
  good : Bool := true
  deriving DecidableEq, Repr

/-- A state row: copies A and B (R540). -/
structure JfRow where
  a : RowCopy
  b : RowCopy
  deriving DecidableEq, Repr

/-- The factory row of a physical block (R540). -/
def jfFactoryRow (k : Nat) : JfRow :=
  let c : RowCopy := if k < 4000 then ⟨0x5A, 0, 0, k, true⟩ else ⟨0x0F, 0, 0, 0xFFFF, true⟩
  ⟨c, c⟩

/-- A page that is not blank: its 256 bytes, or a program that failed, after which the content is undefined (R547). -/
inductive JfPage where
  | blank
  | data (bytes : List Byte)
  | undefined
  deriving DecidableEq, Repr

/-- A program in progress. -/
structure JfProg where
  phys : Nat
  page : Nat
  bytes : List Byte
  iface : JfIface
  deriving DecidableEq, Repr

/-- An erase in progress or suspended. -/
structure JfErase where
  logical : Nat
  phys : Nat
  iface : JfIface
  suspended : Bool := false
  /-- Time at which its pulses started or were last resumed, and a suspension that waits for their 500 µs, with its interface (R549). -/
  since : Nat := 0
  asked : Option JfIface := none
  deriving DecidableEq, Repr

/-- The journal flash of one unit: die, controller and block map. -/
structure JfSt where
  /-- State rows that differ from the factory's, by physical block. -/
  rows : Map JfRow := []
  /-- Physical block of each logical block where it is not the factory's; FFFFh for none. -/
  map : Map Nat := []
  /-- Pages that are not blank, by 256 × physical block + page. -/
  pages : Map JfPage := []
  /-- Physical blocks that accept no program until erased (R547), and erase-incomplete blocks (R551). -/
  blocked : List Nat := []
  incomplete : List Nat := []
  prog : Option JfProg := none
  erase : Option JfErase := none
  /-- The index journal's ring in pages from logical block 676 on (R307, R503): the write point, the oldest page that holds a record
  newer than the last root, the page of a root that is not yet programmed on every unit, and the bytes of the oldest staged record that
  have been programmed. -/
  wp : Nat := 0
  tail : Nat := 0
  rootPage : Nat := 0
  sent : Nat := 0
  /-- The index journal can give up no more blocks (R555). -/
  exhausted : Bool := false
  /-- The scan of R541 has completed since VIN12 entered its window. -/
  scanned : Bool := false
  /-- Status word and data returned by the last command of each interface. -/
  fwWord : Nat := 0
  fwData : List Byte := []
  mgmtData : List Byte := []
  deriving DecidableEq, Repr

/-! ## Settings, dictionary engines, fuses and the monitor (R559-R592) -/

/-- Persistent objects of one unit (R565). -/
structure SetSt where
  /-- The newest copy of the settings area, by object key, and STR or DOMAIN objects. -/
  saved : Map Nat := []
  savedBlob : Map (List Byte) := []
  /-- Keys the newest copy holds. -/
  savedKeys : List Nat := []
  /-- Keys with a change staged and not yet programmed. -/
  staged : List Nat := []
  /-- Keys written while the journal flash is unpowered, held by the always-on logic. -/
  held : List Nat := []
  /-- The last saved timestamp count, if any has ever been saved (R566). -/
  savedTime : Option Nat := none
  /-- The settings area has been loaded since VAUX3 was applied. -/
  loaded : Bool := false
  deriving DecidableEq, Repr

/-- A segmented transfer (R575, R576). -/
structure Transfer where
  src : Nat
  transId : Nat
  index : Nat
  sub : Nat
  write : Bool
  total : Nat
  /-- Bytes of the transfer: those to be sent, or those received in order so far. -/
  bytes : List Byte
  /-- Segments received in order (write) or acknowledged (read); segments sent; sends of the same segments. -/
  inOrder : Nat := 0
  sent : Nat := 0
  tries : Nat := 0
  /-- The time of its last frame, and since when its sender waits for an acknowledgement (R575, R576). -/
  frameAt : Nat := 0
  waitFrom : Nat := 0
  deriving DecidableEq, Repr

/-- A KDAP frame sent by a unit. -/
structure KdapOut where
  unit : UnitId
  dest : Nat
  service : Nat
  transId : Nat := 0
  index : Nat := 0
  sub : Nat := 0
  param : Nat := 0
  seq : Nat := 0
  last : Bool := true
  data : List Byte := []
  deriving DecidableEq, Repr

/-- The dictionary engine and network port of one unit (R561-R584). -/
structure DictSt where
  transfers : List Transfer := []
  /-- Challenges of R583 by requester, with the time of issue; open sessions and when each ends; times of wrong responses; lockouts and
  when each ends. -/
  challenges : List (Requester × List Byte × Nat) := []
  sessions : List (Requester × Nat) := []
  wrong : List (Requester × Nat) := []
  locked : List (Requester × Nat) := []
  /-- The last time sync accepted: master, transaction and local time in ns (R580). -/
  sync : Option (Nat × Nat × Nat) := none
  /-- TIME_STATE and TIME_OFFSET of the unit, and the time of its last pair. -/
  timeState : Nat := 0
  timeOffset : Int := 0
  pairAt : Nat := 0
  beacon : Bool := false
  /-- The time of the last heartbeat sent (R579), and the broadcast reads still to be answered, with the time of each (R577). -/
  beatAt : Nat := 0
  found : List (KdapFrame × Nat) := []
  deriving DecidableEq, Repr

/-- The fuse array of one unit: the fuses that can be programmed (R589). -/
structure FuseSt where
  mondis : Bool := false
  mgmtKey : Option (List Byte) := none
  erKey : Option (List Byte) := none
  minSvn : Option Nat := none
  deriving DecidableEq, Repr

/-- A line or block of output of the monitor (R585, R586). -/
inductive MonOut where
  | ok
  | err (code : Nat)
  | help
  | value (index sub : Nat) (bytes : List Byte)
  | dump (offset : Nat) (bytes : List Byte)
  | mode (m : Nat)
  | event (number : Nat) (r : Rec)
  | trace (index sub : Nat) (value : Nat)
  | status (w : Nat) (bytes : List Byte)
  | regs (g : List Nat) (pc : Nat)
  | challenge (bytes : List Byte)
  deriving DecidableEq, Repr

/-- The Luzan monitor (R585-R588). -/
structure MonSt where
  out : List MonOut := []
  /-- Keys of the status objects traced, and the unit whose new records are followed. -/
  traces : List Nat := []
  tail : Option UnitId := none
  /-- When a rate was set at which no character has arrived yet (R587). -/
  rateSince : Option Nat := none
  deriving DecidableEq, Repr

/-! ## Raw block windows (R592) -/

/-- The raw window of one actuator (R592): the operation in progress, RAW_STATE while none is, and the result words and data of its
sectors so far, by their place in the target. -/
structure RawSt where
  op : Option Nat := none
  st : Nat := 0
  words : List (Nat × Nat) := []
  read : List (Nat × List Byte) := []
  deriving DecidableEq, Repr

/-! ## The module -/

/-- The state of the module. Sparse stores are keyed as their docstrings say; a key not listed reads as the default
record of its type (for registers, the default of the object table). -/
structure State where
  /-- Commands that wait, first in, first out. -/
  pending : List Instr := []
  /-- The timestamp (R566), µs. -/
  now : Nat := 0
  /-- The model's own counter of free values; the spec gives no such register. -/
  fresh : Nat := 0
  /-- Numeric registers by object key. -/
  obj : Map Nat := []
  /-- STR and DOMAIN objects by object key. -/
  blob : Map (List Byte) := []
  mode : ModeSt := {}
  sup : SupSt := {}
  /-- Ports by port number; line sides by 16 × unit + port; PN2s by port number. -/
  port : Map PortSt := []
  line : Map LineSt := []
  pn2 : Map Pn2St := []
  /-- Channels and plan memories by 2 × port + actuator; sequencers by 64 × unit + 4 × port + 2 × actuator + kind. -/
  chan : Map ChanSt := []
  plan : Map PlanSt := []
  /-- Servos by 2 × port + actuator. -/
  srv : Map SrvSt := []
  /-- The standby's shadow of each actuator (R243) and of each spindle (R273). -/
  shadow : Map SrvSt := []
  spdShadow : Map SpdSt := []
  seq : Map SeqSt := []
  mc : McSt := {}
  /-- Event pulses on their way in the event fabric of a unit (R394), oldest first. -/
  fabric : List (UnitId × Nat) := []
  /-- Power domains and timers by unit; DMA channels by 32 × unit + channel. -/
  fab : Map FabSt := []
  dma : Map DmaSt := []
  /-- Raw windows by 2 × port + actuator. -/
  raw : Map RawSt := []
  /-- Spindles by port; the last edge of the sweep reference in 2^-32 of a 20 ns tick. -/
  spd : Map SpdSt := []
  sweepRef : Nat := 0
  /-- SWEEP_RPM in effect (R247). -/
  rpm : Nat := 7200
  /-- Remote diodes of HDAs by 16 × unit + port; the other sensors by 32 × unit + number: rings 0-23, on-die diode 24, board
  diodes 25 and 26, GDDR7 devices 27 and 28 (R509). -/
  hda : Map HdaSt := []
  sensor : Map Reading := []
  os : OsSt := {}
  /-- The command table, in entry order (R342); the entries of page C0h, newest first. -/
  cmds : List HostCmd := []
  deferred : List Deferred := []
  /-- Completions of finished commands, which are posted when service resumes, oldest first (R353, R476). -/
  heldCpl : List Cpl := []
  /-- The unit whose controller's burst was admitted last (R343). -/
  lastCtrl : UnitId := .B
  /-- Controllers by unit. -/
  ctrl : Map CtrlSt := []
  /-- Buffer memories and metadata caches by unit. -/
  buf : Map BufSt := []
  cache : Map CacheSt := []
  pair : PairSt := {}
  casc : CascSt := {}
  /-- Firmware slots by unit. -/
  fw : Map FwSt := []
  /-- Journal flash by unit. -/
  jf : Map JfSt := []
  /-- Event recorders by unit. -/
  er : Map ErSt := []
  /-- Settings, dictionary engines and fuses by unit; frames sent, newest first; the monitor. -/
  set : Map SetSt := []
  dict : Map DictSt := []
  fuse : Map FuseSt := []
  kdapTx : List KdapOut := []
  mon : MonSt := {}
  /-- Emergency messages waiting, oldest first (R578); answers to dictionary accesses, newest first (R561). -/
  emcy : List Emcy := []
  answers : List Answer := []
  /-- Dictionary accesses that arrived during a Switchover, oldest first (R564). -/
  accHeld : List WaitingAccess := []
  deriving DecidableEq, Repr

/-- Why the block would stop. No command of the table stops: the type has one constructor that nothing raises. -/
inductive Fault where
  /-- Raised by no command (safe: nothing stops here). -/
  | unreachable
  deriving DecidableEq, Repr

/-- Why a command is refused. -/
inductive Refusal where
  /-- Raised by an arm of `exec` whose command has no meaning yet (safe: the run stops). -/
  | notModelled (mnemonic : String)
  deriving DecidableEq, Repr

/-- The module before VAUX3 is applied (R30): unpowered, every register at its default, nothing listed in any memory,
no command waiting; a TR1664-F has MONDIS blown at shipment (R3). -/
def State.reset : State :=
  { fuse := if Config.orderingFused then [(0, { mondis := true }), (1, { mondis := true })] else [] }

end Sys2Proof.Machine
end

