-- ==== Sys2Proof/Machine/Flags.lean ====
section
/-! DEFINITION. The fault status objects (R518): where each stands, their kinds, and the bits of each status map with their
classes. -/

namespace Sys2Proof.Machine

/-- Severity classes, by code (R523): Advisory 0, Recoverable 1, Severe 2, Grave 3. -/
abbrev FaultClass := Nat

def advisory : FaultClass := 0
def recoverable : FaultClass := 1
def severe : FaultClass := 2
def grave : FaultClass := 3

/-- A block that holds a fault status object (R518). -/
inductive Site where
  | ch (p a : Nat)
  | wr (p a : Nat)
  | srv (p a : Nat)
  | spd (p : Nat)
  | lines (p : Nat)
  | seq (k : Nat)
  | os
  | host
  | buf (u : UnitId)
  | cache (u : UnitId)
  | dma (u : UnitId) (n : Nat)
  | eng (u : UnitId) (e : Nat)
  | casc
  | pair
  | pwr (u : UnitId)
  | jf (u : UnitId)
  | er (u : UnitId)
  deriving DecidableEq, Repr

/-- Block kind b of R518: its configuration is at 5100h + b. -/
def Site.kind : Site → Nat
  | .ch _ _ => 0
  | .wr _ _ => 1
  | .srv _ _ => 2
  | .spd _ => 3
  | .lines _ => 4
  | .seq _ => 5
  | .os => 6
  | .host => 7
  | .buf _ => 8
  | .cache _ => 9
  | .dma _ _ => 10
  | .eng _ _ => 11
  | .casc => 12
  | .pair => 13
  | .pwr _ => 14
  | .jf _ => 15
  | .er _ => 16

/-- The key of the status object (R518). Its interrupt enables stand at the next subindex. -/
def Site.key : Site → Nat
  | .ch p a => Obj.CH_STATUS p a
  | .wr p a => Obj.WR_STATUS p a
  | .srv p a => Obj.SRV_STATUS p a
  | .spd p => Obj.SPD_STATUS p
  | .lines p => Obj.PORT_FLT_STATUS p
  | .seq k => Obj.SEQ_STATUS k
  | .os => Obj.OS_STATUS
  | .host => Obj.HOST_STATUS
  | .buf u => Obj.BUF_STATUS u
  | .cache u => Obj.CACHE_STATUS u
  | .dma u n => Obj.DMA_STATUS u n
  | .eng u e => Obj.ENG_STATUS u e
  | .casc => Obj.CASC_STATUS
  | .pair => Obj.PAIR_STATUS
  | .pwr u => Obj.PWR_STATUS u
  | .jf u => Obj.JF_STATUS u
  | .er u => Obj.ER_STATUS u

/-- The unit of a status object of unit scope (R518, R568). -/
def Site.unit : Site → Option UnitId
  | .buf u | .cache u | .dma u _ | .eng u _ | .pwr u | .jf u | .er u => some u
  | _ => none

/-- The site of a status object by index and subindex, at the answering unit (R518). -/
def siteAt (u : UnitId) (i sub : Nat) : Option Site :=
  let p := i / 256 % 16
  match canonIndex i, sub with
  | some 0x3050, 0 => some (.ch p (if i % 256 < 0x58 then 0 else 1))
  | some 0x3057, 3 => some (.wr p (if i % 256 < 0x58 then 0 else 1))
  | some 0x3030, 8 => some (.srv p (if i % 256 < 0x40 then 0 else 1))
  | some 0x3020, 1 => some (.spd p)
  | some 0x3070, 8 => some (.lines p)
  | some 0x4540, 0 => some (.seq (i - 0x4540))
  | some 0x2000, 1 => some .os
  | some 0x1300, 0 => some .host
  | some 0x4000, 0 => some (.buf u)
  | some 0x4100, 0 => some (.cache u)
  | some 0x4320, 2 => some (.dma u (i - 0x4320))
  | some 0x4410, 0 => some (.eng u (i - 0x4410))
  | some 0x1400, 0 => some .casc
  | some 0x1200, 0 => some .pair
  | some 0x5000, 0 => some (.pwr u)
  | some 0x4200, 0 => some (.jf u)
  | some 0x5200, 0 => some (.er u)
  | _, _ => none

/-- A status bit: its block kind, bit number and class. -/
structure Flag where
  kind : Nat
  bit : Nat
  cls : FaultClass
  deriving DecidableEq, Repr

/-- R110 bit 8. -/
def Flag.CH_PARAM_ERR : Flag := ⟨0, 8, recoverable⟩
/-- R110 bit 7. -/
def Flag.CH_HEAD_MISMATCH : Flag := ⟨0, 7, severe⟩
/-- R110 bit 6. -/
def Flag.CH_DECODER_BUSY : Flag := ⟨0, 6, severe⟩
/-- R110 bit 5. -/
def Flag.CH_LANE_DROP : Flag := ⟨0, 5, recoverable⟩
/-- R110 bit 4. -/
def Flag.CH_ADAPT_DIVERGED : Flag := ⟨0, 4, advisory⟩
/-- R110 bit 3. -/
def Flag.CH_TIMING_SLIP : Flag := ⟨0, 3, advisory⟩
/-- R110 bit 2. -/
def Flag.CH_MISCORRECT : Flag := ⟨0, 2, recoverable⟩
/-- R110 bit 1. -/
def Flag.CH_SAMPLE_OVERRUN : Flag := ⟨0, 1, recoverable⟩
/-- R110 bit 0. -/
def Flag.CH_LINE_FAIL : Flag := ⟨0, 0, advisory⟩
/-- R155 bit 7. -/
def Flag.WR_HEAD_DEGRADED : Flag := ⟨1, 7, severe⟩
/-- R155 bit 6. -/
def Flag.WR_SYNC_REJECT : Flag := ⟨1, 6, advisory⟩
/-- R155 bit 5. -/
def Flag.WR_CRITICAL_REFUSED : Flag := ⟨1, 5, advisory⟩
/-- R155 bit 4. -/
def Flag.WR_TABLE_ERR : Flag := ⟨1, 4, recoverable⟩
/-- R155 bit 3. -/
def Flag.WR_FRAG_ABANDONED : Flag := ⟨1, 3, recoverable⟩
/-- R155 bit 2. -/
def Flag.WR_GATE_CUT : Flag := ⟨1, 2, recoverable⟩
/-- R155 bit 1. -/
def Flag.WR_WRITE_UNDERRUN : Flag := ⟨1, 1, recoverable⟩
/-- R155 bit 0. -/
def Flag.WR_RAW_FAIL : Flag := ⟨1, 0, advisory⟩
/-- R245 bit 10. -/
def Flag.SRV_SAT : Flag := ⟨2, 10, advisory⟩
/-- R245 bit 9. -/
def Flag.SRV_LOOP_MISMATCH : Flag := ⟨2, 9, severe⟩
/-- R245 bit 8. -/
def Flag.SRV_OUTER_LATE : Flag := ⟨2, 8, recoverable⟩
/-- R245 bit 7. -/
def Flag.SRV_INNER_LATE : Flag := ⟨2, 7, recoverable⟩
/-- R245 bit 6. -/
def Flag.SRV_BANK_ERR : Flag := ⟨2, 6, recoverable⟩
/-- R245 bit 5. -/
def Flag.SRV_SEEK_TIMEOUT : Flag := ⟨2, 5, recoverable⟩
/-- R245 bit 4. -/
def Flag.SRV_SERVO_LOST : Flag := ⟨2, 4, recoverable⟩
/-- R245 bit 3. -/
def Flag.SRV_UNSAFE_CUT : Flag := ⟨2, 3, advisory⟩
/-- R245 bit 2. -/
def Flag.SRV_PN2_RETRACTED : Flag := ⟨2, 2, severe⟩
/-- R245 bit 1. -/
def Flag.SRV_ACT_FAULT : Flag := ⟨2, 1, severe⟩
/-- R245 bit 0. -/
def Flag.SRV_WEDGE_MISMATCH : Flag := ⟨2, 0, advisory⟩
/-- R276 bit 9. -/
def Flag.SPD_RPM_MISMATCH : Flag := ⟨3, 9, recoverable⟩
/-- R276 bit 8. -/
def Flag.SPD_START_FAIL : Flag := ⟨3, 8, severe⟩
/-- R276 bit 7. -/
def Flag.SPD_ROTOR_LOST : Flag := ⟨3, 7, severe⟩
/-- R276 bit 6. -/
def Flag.SPD_LOCK_LOST : Flag := ⟨3, 6, recoverable⟩
/-- R276 bit 5. -/
def Flag.SPD_VOLTAGE_LIMIT : Flag := ⟨3, 5, advisory⟩
/-- R276 bit 4. -/
def Flag.SPD_MOD_LIMITED : Flag := ⟨3, 4, advisory⟩
/-- R276 bit 3. -/
def Flag.SPD_REGEN_BLOCK : Flag := ⟨3, 3, advisory⟩
/-- R276 bit 2. -/
def Flag.SPD_REVERSE_SEEN : Flag := ⟨3, 2, advisory⟩
/-- R276 bit 1. -/
def Flag.SPD_BEMF_HOLD : Flag := ⟨3, 1, recoverable⟩
/-- R276 bit 0. -/
def Flag.SPD_ZC_MISS : Flag := ⟨3, 0, advisory⟩
/-- R520 bit 8. -/
def Flag.PORT_HDA_REMOVED : Flag := ⟨4, 8, recoverable⟩
/-- R520 bit 7. -/
def Flag.PORT_LINE_DISAGREE : Flag := ⟨4, 7, advisory⟩
/-- R520 bit 6. -/
def Flag.PORT_LANE_FAILED : Flag := ⟨4, 6, severe⟩
/-- R520 bit 5. -/
def Flag.PORT_CT_FAILED : Flag := ⟨4, 5, severe⟩
/-- R520 bit 4. -/
def Flag.PORT_CT_LOST : Flag := ⟨4, 4, recoverable⟩
/-- R520 bit 3. -/
def Flag.PORT_CHATTER : Flag := ⟨4, 3, advisory⟩
/-- R520 bit 2. -/
def Flag.PORT_SPIN_MISMATCH : Flag := ⟨4, 2, severe⟩
/-- R520 bit 1. -/
def Flag.PORT_FLT_ISOLATED : Flag := ⟨4, 1, severe⟩
/-- R520 bit 0. -/
def Flag.PORT_PN2_FAULT : Flag := ⟨4, 0, recoverable⟩
/-- R190 bit 9. -/
def Flag.SEQ_PLAN_REJECT : Flag := ⟨5, 9, recoverable⟩
/-- R190 bit 8. -/
def Flag.SEQ_ARM_LATE : Flag := ⟨5, 8, recoverable⟩
/-- R190 bit 7. -/
def Flag.SEQ_EV_OVERRUN : Flag := ⟨5, 7, advisory⟩
/-- R190 bit 6. -/
def Flag.SEQ_CS_UNCORRECTABLE : Flag := ⟨5, 6, severe⟩
/-- R190 bit 5. -/
def Flag.SEQ_CS_CORRECTED : Flag := ⟨5, 5, advisory⟩
/-- R190 bit 4. -/
def Flag.SEQ_WATCHDOG : Flag := ⟨5, 4, severe⟩
/-- R190 bit 3. -/
def Flag.SEQ_DRAIN_FORCED : Flag := ⟨5, 3, advisory⟩
/-- R190 bit 2. -/
def Flag.SEQ_ILLEGAL_OP : Flag := ⟨5, 2, severe⟩
/-- R190 bit 1. -/
def Flag.SEQ_STACK_ERR : Flag := ⟨5, 1, severe⟩
/-- R190 bit 0. -/
def Flag.SEQ_ABORTED : Flag := ⟨5, 0, recoverable⟩
/-- R332 bit 8. -/
def Flag.OS_INDEX_UNAVAILABLE : Flag := ⟨6, 8, grave⟩
/-- R332 bit 7. -/
def Flag.OS_CHUNK_LOST : Flag := ⟨6, 7, severe⟩
/-- R332 bit 6. -/
def Flag.OS_READ_ONLY : Flag := ⟨6, 6, severe⟩
/-- R332 bit 5. -/
def Flag.OS_REBUILD_BLOCKED : Flag := ⟨6, 5, severe⟩
/-- R332 bit 4. -/
def Flag.OS_CAPACITY_LIMIT : Flag := ⟨6, 4, advisory⟩
/-- R332 bit 3. -/
def Flag.OS_FOREIGN_HDA : Flag := ⟨6, 3, advisory⟩
/-- R332 bit 2. -/
def Flag.OS_SORUS_ABANDONED : Flag := ⟨6, 2, recoverable⟩
/-- R332 bit 1. -/
def Flag.OS_THIN_SORUS : Flag := ⟨6, 1, advisory⟩
/-- R332 bit 0. -/
def Flag.OS_DEGRADED : Flag := ⟨6, 0, recoverable⟩
/-- R357 bit 5. -/
def Flag.HOST_ACTIVATION_FAILED : Flag := ⟨7, 5, recoverable⟩
/-- R357 bit 4. -/
def Flag.HOST_GAP_OVERRUN : Flag := ⟨7, 4, severe⟩
/-- R357 bit 3. -/
def Flag.HOST_PORT_LOST : Flag := ⟨7, 3, severe⟩
/-- R357 bit 2. -/
def Flag.HOST_DEFERRED_ERROR : Flag := ⟨7, 2, advisory⟩
/-- R357 bit 1. -/
def Flag.HOST_BUFFER_PAUSED : Flag := ⟨7, 1, advisory⟩
/-- R357 bit 0. -/
def Flag.HOST_FETCH_PAUSED : Flag := ⟨7, 0, advisory⟩
/-- R390 bit 10. -/
def Flag.BUF_ADDR_ERR : Flag := ⟨8, 10, recoverable⟩
/-- R390 bit 9. -/
def Flag.BUF_TRAIN_FAIL : Flag := ⟨8, 9, severe⟩
/-- R390 bit 8. -/
def Flag.BUF_REMAP_FULL : Flag := ⟨8, 8, severe⟩
/-- R390 bit 7. -/
def Flag.BUF_RETRAINED : Flag := ⟨8, 7, recoverable⟩
/-- R390 bit 6. -/
def Flag.BUF_LINK_FAIL : Flag := ⟨8, 6, recoverable⟩
/-- R390 bit 5. -/
def Flag.BUF_LOG_OVERFLOW : Flag := ⟨8, 5, advisory⟩
/-- R390 bit 4. -/
def Flag.BUF_SCRUB_DONE : Flag := ⟨8, 4, advisory⟩
/-- R390 bit 3. -/
def Flag.BUF_POISON_READ : Flag := ⟨8, 3, recoverable⟩
/-- R390 bit 2. -/
def Flag.BUF_UNCORRECTABLE : Flag := ⟨8, 2, severe⟩
/-- R390 bit 1. -/
def Flag.BUF_CORRECTED : Flag := ⟨8, 1, advisory⟩
/-- R390 bit 0. -/
def Flag.BUF_BAND_CHANGE : Flag := ⟨8, 0, advisory⟩
/-- R392 bit 6. -/
def Flag.CACHE_TAG_UNCORRECTABLE : Flag := ⟨9, 6, grave⟩
/-- R392 bit 5. -/
def Flag.CACHE_DATA_UNCORRECTABLE : Flag := ⟨9, 5, severe⟩
/-- R392 bit 4. -/
def Flag.CACHE_DATA_CORRECTED : Flag := ⟨9, 4, advisory⟩
/-- R392 bit 3. -/
def Flag.CACHE_TAG_REPAIRED : Flag := ⟨9, 3, advisory⟩
/-- R392 bit 2. -/
def Flag.CACHE_EVBUF_FULL : Flag := ⟨9, 2, advisory⟩
/-- R392 bit 1. -/
def Flag.CACHE_WAY_CLEAN_DONE : Flag := ⟨9, 1, advisory⟩
/-- R392 bit 0. -/
def Flag.CACHE_CACHE_DISABLED : Flag := ⟨9, 0, advisory⟩
/-- R423 bit 7. -/
def Flag.DMA_LAST_BEAT_ERR : Flag := ⟨10, 7, recoverable⟩
/-- R423 bit 6. -/
def Flag.DMA_DOMAIN_OFF : Flag := ⟨10, 6, recoverable⟩
/-- R423 bit 5. -/
def Flag.DMA_CODER_ERR : Flag := ⟨10, 5, recoverable⟩
/-- R423 bit 4. -/
def Flag.DMA_PACE_OVERRUN : Flag := ⟨10, 4, advisory⟩
/-- R423 bit 3. -/
def Flag.DMA_STOPPED : Flag := ⟨10, 3, advisory⟩
/-- R423 bit 2. -/
def Flag.DMA_DESC_ERR : Flag := ⟨10, 2, recoverable⟩
/-- R423 bit 1. -/
def Flag.DMA_WRITE_ERR : Flag := ⟨10, 1, recoverable⟩
/-- R423 bit 0. -/
def Flag.DMA_READ_ERR : Flag := ⟨10, 0, recoverable⟩
/-- R425 bit 5. -/
def Flag.ENG_DOMAIN_OFF : Flag := ⟨11, 5, recoverable⟩
/-- R425 bit 4. -/
def Flag.ENG_VERIFY_FAIL : Flag := ⟨11, 4, severe⟩
/-- R425 bit 3. -/
def Flag.ENG_CHECK_FAIL : Flag := ⟨11, 3, recoverable⟩
/-- R425 bit 2. -/
def Flag.ENG_NO_SPACE : Flag := ⟨11, 2, recoverable⟩
/-- R425 bit 1. -/
def Flag.ENG_BUS_ERR : Flag := ⟨11, 1, recoverable⟩
/-- R425 bit 0. -/
def Flag.ENG_JOB_ERR : Flag := ⟨11, 0, recoverable⟩
/-- R466 bit 6. -/
def Flag.CASC_TREE_LIMIT : Flag := ⟨12, 6, advisory⟩
/-- R466 bit 5. -/
def Flag.CASC_ROOT_CONFLICT : Flag := ⟨12, 5, severe⟩
/-- R466 bit 4. -/
def Flag.CASC_MISWIRE : Flag := ⟨12, 4, recoverable⟩
/-- R466 bit 3. -/
def Flag.CASC_SUBTREE_LOST : Flag := ⟨12, 3, severe⟩
/-- R466 bit 2. -/
def Flag.CASC_LINK_RETRAINED : Flag := ⟨12, 2, advisory⟩
/-- R466 bit 1. -/
def Flag.CASC_HOP_SINGLE : Flag := ⟨12, 1, recoverable⟩
/-- R466 bit 0. -/
def Flag.CASC_LATE_JOIN : Flag := ⟨12, 0, advisory⟩
/-- R489 bit 7. -/
def Flag.PAIR_NO_HEALTHY_UNIT : Flag := ⟨13, 7, grave⟩
/-- R489 bit 6. -/
def Flag.PAIR_REJOIN_REFUSED : Flag := ⟨13, 6, severe⟩
/-- R489 bit 5. -/
def Flag.PAIR_HELD_RELEASE : Flag := ⟨13, 5, severe⟩
/-- R489 bit 4. -/
def Flag.PAIR_MIRROR_DOWN : Flag := ⟨13, 4, recoverable⟩
/-- R489 bit 3. -/
def Flag.PAIR_VERSION_MISMATCH : Flag := ⟨13, 3, recoverable⟩
/-- R489 bit 2. -/
def Flag.PAIR_SHADOW_INVALID : Flag := ⟨13, 2, advisory⟩
/-- R489 bit 1. -/
def Flag.PAIR_TAKEOVER : Flag := ⟨13, 1, recoverable⟩
/-- R489 bit 0. -/
def Flag.PAIR_ROLE_YIELDED : Flag := ⟨13, 0, advisory⟩
/-- R516 bit 10. -/
def Flag.PWR_THERMAL_TRIP : Flag := ⟨14, 10, grave⟩
/-- R516 bit 9. -/
def Flag.PWR_VCORE_FAULT : Flag := ⟨14, 9, severe⟩
/-- R516 bit 8. -/
def Flag.PWR_HOLD_EXHAUSTED : Flag := ⟨14, 8, severe⟩
/-- R516 bit 7. -/
def Flag.PWR_HOLD_WEAK : Flag := ⟨14, 7, severe⟩
/-- R516 bit 6. -/
def Flag.PWR_DIE_CRITICAL : Flag := ⟨14, 6, severe⟩
/-- R516 bit 5. -/
def Flag.PWR_BOARD_CRITICAL : Flag := ⟨14, 5, severe⟩
/-- R516 bit 4. -/
def Flag.PWR_PACE_LOW : Flag := ⟨14, 4, recoverable⟩
/-- R516 bit 3. -/
def Flag.PWR_SENSOR_BROKEN : Flag := ⟨14, 3, recoverable⟩
/-- R516 bit 2. -/
def Flag.PWR_VIN12_LOST : Flag := ⟨14, 2, recoverable⟩
/-- R516 bit 1. -/
def Flag.PWR_BAND_CHANGE : Flag := ⟨14, 1, advisory⟩
/-- R516 bit 0. -/
def Flag.PWR_HOLD_NOT_READY : Flag := ⟨14, 0, advisory⟩
/-- R558 bit 9. -/
def Flag.JF_JOURNAL_EXHAUSTED : Flag := ⟨15, 9, severe⟩
/-- R558 bit 8. -/
def Flag.JF_SPARES_USED_UP : Flag := ⟨15, 8, severe⟩
/-- R558 bit 7. -/
def Flag.JF_JOURNAL_SHRUNK : Flag := ⟨15, 7, recoverable⟩
/-- R558 bit 6. -/
def Flag.JF_UNCORRECTABLE : Flag := ⟨15, 6, severe⟩
/-- R558 bit 5. -/
def Flag.JF_CORRECTED : Flag := ⟨15, 5, advisory⟩
/-- R558 bit 4. -/
def Flag.JF_ERASE_INCOMPLETE : Flag := ⟨15, 4, advisory⟩
/-- R558 bit 3. -/
def Flag.JF_WEAR_LIMIT : Flag := ⟨15, 3, advisory⟩
/-- R558 bit 2. -/
def Flag.JF_PROG_FAIL : Flag := ⟨15, 2, recoverable⟩
/-- R558 bit 1. -/
def Flag.JF_ERASE_FAIL : Flag := ⟨15, 1, recoverable⟩
/-- R558 bit 0. -/
def Flag.JF_NOT_BLANK : Flag := ⟨15, 0, recoverable⟩
/-- R535 bit 5. -/
def Flag.ER_WRITE_FAIL : Flag := ⟨16, 5, severe⟩
/-- R535 bit 4. -/
def Flag.ER_RECORDS_DROPPED : Flag := ⟨16, 4, recoverable⟩
/-- R535 bit 3. -/
def Flag.ER_AUTH_FAIL : Flag := ⟨16, 3, recoverable⟩
/-- R535 bit 2. -/
def Flag.ER_CLEARED : Flag := ⟨16, 2, advisory⟩
/-- R535 bit 1. -/
def Flag.ER_MIRROR_GAP : Flag := ⟨16, 1, advisory⟩
/-- R535 bit 0. -/
def Flag.ER_WRAPPED : Flag := ⟨16, 0, advisory⟩

/-- All status bits of the module. -/
def allFlags : List Flag :=
  [Flag.CH_PARAM_ERR, Flag.CH_HEAD_MISMATCH, Flag.CH_DECODER_BUSY, Flag.CH_LANE_DROP, Flag.CH_ADAPT_DIVERGED, Flag.CH_TIMING_SLIP, Flag.CH_MISCORRECT, Flag.CH_SAMPLE_OVERRUN, Flag.CH_LINE_FAIL, Flag.WR_HEAD_DEGRADED, Flag.WR_SYNC_REJECT, Flag.WR_CRITICAL_REFUSED, Flag.WR_TABLE_ERR, Flag.WR_FRAG_ABANDONED, Flag.WR_GATE_CUT, Flag.WR_WRITE_UNDERRUN, Flag.WR_RAW_FAIL, Flag.SRV_SAT, Flag.SRV_LOOP_MISMATCH, Flag.SRV_OUTER_LATE] ++
  [Flag.SRV_INNER_LATE, Flag.SRV_BANK_ERR, Flag.SRV_SEEK_TIMEOUT, Flag.SRV_SERVO_LOST, Flag.SRV_UNSAFE_CUT, Flag.SRV_PN2_RETRACTED, Flag.SRV_ACT_FAULT, Flag.SRV_WEDGE_MISMATCH, Flag.SPD_RPM_MISMATCH, Flag.SPD_START_FAIL, Flag.SPD_ROTOR_LOST, Flag.SPD_LOCK_LOST, Flag.SPD_VOLTAGE_LIMIT, Flag.SPD_MOD_LIMITED, Flag.SPD_REGEN_BLOCK, Flag.SPD_REVERSE_SEEN, Flag.SPD_BEMF_HOLD, Flag.SPD_ZC_MISS, Flag.PORT_HDA_REMOVED, Flag.PORT_LINE_DISAGREE] ++
  [Flag.PORT_LANE_FAILED, Flag.PORT_CT_FAILED, Flag.PORT_CT_LOST, Flag.PORT_CHATTER, Flag.PORT_SPIN_MISMATCH, Flag.PORT_FLT_ISOLATED, Flag.PORT_PN2_FAULT, Flag.SEQ_PLAN_REJECT, Flag.SEQ_ARM_LATE, Flag.SEQ_EV_OVERRUN, Flag.SEQ_CS_UNCORRECTABLE, Flag.SEQ_CS_CORRECTED, Flag.SEQ_WATCHDOG, Flag.SEQ_DRAIN_FORCED, Flag.SEQ_ILLEGAL_OP, Flag.SEQ_STACK_ERR, Flag.SEQ_ABORTED, Flag.OS_INDEX_UNAVAILABLE, Flag.OS_CHUNK_LOST, Flag.OS_READ_ONLY] ++
  [Flag.OS_REBUILD_BLOCKED, Flag.OS_CAPACITY_LIMIT, Flag.OS_FOREIGN_HDA, Flag.OS_SORUS_ABANDONED, Flag.OS_THIN_SORUS, Flag.OS_DEGRADED, Flag.HOST_ACTIVATION_FAILED, Flag.HOST_GAP_OVERRUN, Flag.HOST_PORT_LOST, Flag.HOST_DEFERRED_ERROR, Flag.HOST_BUFFER_PAUSED, Flag.HOST_FETCH_PAUSED, Flag.BUF_ADDR_ERR, Flag.BUF_TRAIN_FAIL, Flag.BUF_REMAP_FULL, Flag.BUF_RETRAINED, Flag.BUF_LINK_FAIL, Flag.BUF_LOG_OVERFLOW, Flag.BUF_SCRUB_DONE, Flag.BUF_POISON_READ] ++
  [Flag.BUF_UNCORRECTABLE, Flag.BUF_CORRECTED, Flag.BUF_BAND_CHANGE, Flag.CACHE_TAG_UNCORRECTABLE, Flag.CACHE_DATA_UNCORRECTABLE, Flag.CACHE_DATA_CORRECTED, Flag.CACHE_TAG_REPAIRED, Flag.CACHE_EVBUF_FULL, Flag.CACHE_WAY_CLEAN_DONE, Flag.CACHE_CACHE_DISABLED, Flag.DMA_LAST_BEAT_ERR, Flag.DMA_DOMAIN_OFF, Flag.DMA_CODER_ERR, Flag.DMA_PACE_OVERRUN, Flag.DMA_STOPPED, Flag.DMA_DESC_ERR, Flag.DMA_WRITE_ERR, Flag.DMA_READ_ERR, Flag.ENG_DOMAIN_OFF, Flag.ENG_VERIFY_FAIL] ++
  [Flag.ENG_CHECK_FAIL, Flag.ENG_NO_SPACE, Flag.ENG_BUS_ERR, Flag.ENG_JOB_ERR, Flag.CASC_TREE_LIMIT, Flag.CASC_ROOT_CONFLICT, Flag.CASC_MISWIRE, Flag.CASC_SUBTREE_LOST, Flag.CASC_LINK_RETRAINED, Flag.CASC_HOP_SINGLE, Flag.CASC_LATE_JOIN, Flag.PAIR_NO_HEALTHY_UNIT, Flag.PAIR_REJOIN_REFUSED, Flag.PAIR_HELD_RELEASE, Flag.PAIR_MIRROR_DOWN, Flag.PAIR_VERSION_MISMATCH, Flag.PAIR_SHADOW_INVALID, Flag.PAIR_TAKEOVER, Flag.PAIR_ROLE_YIELDED, Flag.PWR_THERMAL_TRIP] ++
  [Flag.PWR_VCORE_FAULT, Flag.PWR_HOLD_EXHAUSTED, Flag.PWR_HOLD_WEAK, Flag.PWR_DIE_CRITICAL, Flag.PWR_BOARD_CRITICAL, Flag.PWR_PACE_LOW, Flag.PWR_SENSOR_BROKEN, Flag.PWR_VIN12_LOST, Flag.PWR_BAND_CHANGE, Flag.PWR_HOLD_NOT_READY, Flag.JF_JOURNAL_EXHAUSTED, Flag.JF_SPARES_USED_UP, Flag.JF_JOURNAL_SHRUNK, Flag.JF_UNCORRECTABLE, Flag.JF_CORRECTED, Flag.JF_ERASE_INCOMPLETE, Flag.JF_WEAR_LIMIT, Flag.JF_PROG_FAIL, Flag.JF_ERASE_FAIL, Flag.JF_NOT_BLANK] ++
  [Flag.ER_WRITE_FAIL, Flag.ER_RECORDS_DROPPED, Flag.ER_AUTH_FAIL, Flag.ER_CLEARED, Flag.ER_MIRROR_GAP, Flag.ER_WRAPPED]

/-- The class of a bit of a block kind (R523); Advisory for a reserved bit. -/
def bitClass (kind bit : Nat) : FaultClass :=
  match allFlags.find? (fun f => f.kind == kind && f.bit == bit) with
  | some f => f.cls
  | none => advisory

/-- The mask of the bits a status map allocates. -/
def statusMask (kind : Nat) : Nat :=
  (allFlags.filter (fun f => f.kind == kind)).foldl (fun m f => m ||| 2 ^ f.bit) 0

/-- The block kinds that hold a Grave bit (R525): port lines through PN2_FAULT, object service, metadata cache, unit
pair, power and thermal. -/
def graveKind (kind : Nat) : Bool := [4, 6, 9, 13, 14].contains kind

/-- Bits as a mask. -/
def flagMask (fs : List Flag) : Nat := fs.foldl (fun m f => m ||| 2 ^ f.bit) 0

/-- Bits that follow a condition while it holds, so that a clearing write has no effect then (R526): MOD_LIMITED,
VOLTAGE_LIMIT, FETCH_PAUSED, BUFFER_PAUSED, MIRROR_DOWN, HOLD_NOT_READY and JOURNAL_EXHAUSTED. -/
def conditionBits (kind : Nat) : List Nat :=
  match kind with
  | 3 => [4, 5]
  | 7 => [0, 1]
  | 13 => [4]
  | 14 => [0]
  | 15 => [9]
  | _ => []

end Sys2Proof.Machine
end

