-- ==== Sys2Proof/Machine/Cells.lean ====
section
/-! DEFINITION. Reading and writing the parts of the state: registers by object key with their defaults, byte-string
objects, and the record of each port, channel, sequencer, unit and so on in its sparse store. -/

namespace Sys2Proof.Machine

/-- The value of a register: what was last written, or the default of its object. -/
def State.rd (s : State) (k : Nat) : Nat := mapGet objDefault s.obj k

/-- A register written. -/
def State.wr (s : State) (k v : Nat) : State := { s with obj := mapPut objDefault s.obj k v }

/-- The bytes of an STR or DOMAIN object. -/
def State.rdBlob (s : State) (k : Nat) : List Byte := mapGet (fun _ => []) s.blob k

/-- An STR or DOMAIN object written. -/
def State.wrBlob (s : State) (k : Nat) (v : List Byte) : State := { s with blob := mapPut (fun _ => []) s.blob k v }

/-- The port record at a key. -/
def State.getPort (s : State) (k : Nat) : PortSt := mapGet (fun _ => {}) s.port k

/-- The port record at a key replaced. -/
def State.putPort (s : State) (k : Nat) (v : PortSt) : State := { s with port := mapPut (fun _ => {}) s.port k v }

/-- The port record at a key changed by a function. -/
def State.modPort (s : State) (k : Nat) (f : PortSt → PortSt) : State := s.putPort k (f (s.getPort k))

/-- The line record at a key. -/
def State.getLine (s : State) (k : Nat) : LineSt := mapGet (fun _ => {}) s.line k

/-- The line record at a key replaced. -/
def State.putLine (s : State) (k : Nat) (v : LineSt) : State := { s with line := mapPut (fun _ => {}) s.line k v }

/-- The line record at a key changed by a function. -/
def State.modLine (s : State) (k : Nat) (f : LineSt → LineSt) : State := s.putLine k (f (s.getLine k))

/-- The pn2 record at a key. -/
def State.getPn2 (s : State) (k : Nat) : Pn2St := mapGet (fun _ => {}) s.pn2 k

/-- The pn2 record at a key replaced. -/
def State.putPn2 (s : State) (k : Nat) (v : Pn2St) : State := { s with pn2 := mapPut (fun _ => {}) s.pn2 k v }

/-- The pn2 record at a key changed by a function. -/
def State.modPn2 (s : State) (k : Nat) (f : Pn2St → Pn2St) : State := s.putPn2 k (f (s.getPn2 k))

/-- The chan record at a key. -/
def State.getChan (s : State) (k : Nat) : ChanSt := mapGet (fun _ => {}) s.chan k

/-- The chan record at a key replaced. -/
def State.putChan (s : State) (k : Nat) (v : ChanSt) : State := { s with chan := mapPut (fun _ => {}) s.chan k v }

/-- The chan record at a key changed by a function. -/
def State.modChan (s : State) (k : Nat) (f : ChanSt → ChanSt) : State := s.putChan k (f (s.getChan k))

/-- The plan record at a key. -/
def State.getPlan (s : State) (k : Nat) : PlanSt := mapGet (fun _ => {}) s.plan k

/-- The plan record at a key replaced. -/
def State.putPlan (s : State) (k : Nat) (v : PlanSt) : State := { s with plan := mapPut (fun _ => {}) s.plan k v }

/-- The plan record at a key changed by a function. -/
def State.modPlan (s : State) (k : Nat) (f : PlanSt → PlanSt) : State := s.putPlan k (f (s.getPlan k))

/-- The srv record at a key. -/
def State.getSrv (s : State) (k : Nat) : SrvSt := mapGet (fun _ => {}) s.srv k

/-- The srv record at a key replaced. -/
def State.putSrv (s : State) (k : Nat) (v : SrvSt) : State := { s with srv := mapPut (fun _ => {}) s.srv k v }

/-- The srv record at a key changed by a function, and in the same way the standby's shadow of it, which follows the active unit over
the mirror link (R243). -/
def State.modSrv (s : State) (k : Nat) (f : SrvSt → SrvSt) : State :=
  { s.putSrv k (f (s.getSrv k)) with shadow := mapPut (fun _ => {}) s.shadow k (f (mapGet (fun _ => {}) s.shadow k)) }

/-- The shadow record at a key. -/
def State.getShadow (s : State) (k : Nat) : SrvSt := mapGet (fun _ => {}) s.shadow k

/-- The shadow record at a key replaced. -/
def State.putShadow (s : State) (k : Nat) (v : SrvSt) : State := { s with shadow := mapPut (fun _ => {}) s.shadow k v }

/-- The shadow record at a key changed by a function. -/
def State.modShadow (s : State) (k : Nat) (f : SrvSt → SrvSt) : State := s.putShadow k (f (s.getShadow k))

/-- The spdShadow record at a key. -/
def State.getSpdShadow (s : State) (k : Nat) : SpdSt := mapGet (fun _ => {}) s.spdShadow k

/-- The spdShadow record at a key replaced. -/
def State.putSpdShadow (s : State) (k : Nat) (v : SpdSt) : State := { s with spdShadow := mapPut (fun _ => {}) s.spdShadow k v }

/-- The spdShadow record at a key changed by a function. -/
def State.modSpdShadow (s : State) (k : Nat) (f : SpdSt → SpdSt) : State := s.putSpdShadow k (f (s.getSpdShadow k))

/-- The seq record at a key. -/
def State.getSeq (s : State) (k : Nat) : SeqSt := mapGet (fun _ => {}) s.seq k

/-- The seq record at a key replaced. -/
def State.putSeq (s : State) (k : Nat) (v : SeqSt) : State := { s with seq := mapPut (fun _ => {}) s.seq k v }

/-- The seq record at a key changed by a function. -/
def State.modSeq (s : State) (k : Nat) (f : SeqSt → SeqSt) : State := s.putSeq k (f (s.getSeq k))

/-- The fab record at a key. -/
def State.getFab (s : State) (k : Nat) : FabSt := mapGet (fun _ => {}) s.fab k

/-- The fab record at a key replaced. -/
def State.putFab (s : State) (k : Nat) (v : FabSt) : State := { s with fab := mapPut (fun _ => {}) s.fab k v }

/-- The fab record at a key changed by a function. -/
def State.modFab (s : State) (k : Nat) (f : FabSt → FabSt) : State := s.putFab k (f (s.getFab k))

/-- The dma record at a key. -/
def State.getDma (s : State) (k : Nat) : DmaSt := mapGet (fun _ => {}) s.dma k

/-- The dma record at a key replaced. -/
def State.putDma (s : State) (k : Nat) (v : DmaSt) : State := { s with dma := mapPut (fun _ => {}) s.dma k v }

/-- The dma record at a key changed by a function. -/
def State.modDma (s : State) (k : Nat) (f : DmaSt → DmaSt) : State := s.putDma k (f (s.getDma k))

/-- The raw record at a key. -/
def State.getRaw (s : State) (k : Nat) : RawSt := mapGet (fun _ => {}) s.raw k

/-- The raw record at a key replaced. -/
def State.putRaw (s : State) (k : Nat) (v : RawSt) : State := { s with raw := mapPut (fun _ => {}) s.raw k v }

/-- The raw record at a key changed by a function. -/
def State.modRaw (s : State) (k : Nat) (f : RawSt → RawSt) : State := s.putRaw k (f (s.getRaw k))

/-- The spd record at a key. -/
def State.getSpd (s : State) (k : Nat) : SpdSt := mapGet (fun _ => {}) s.spd k

/-- The spd record at a key replaced. -/
def State.putSpd (s : State) (k : Nat) (v : SpdSt) : State := { s with spd := mapPut (fun _ => {}) s.spd k v }

/-- The spd record at a key changed by a function, and in the same way the standby's shadow of it, which follows the active unit over
the mirror link (R273). -/
def State.modSpd (s : State) (k : Nat) (f : SpdSt → SpdSt) : State :=
  { s.putSpd k (f (s.getSpd k)) with spdShadow := mapPut (fun _ => {}) s.spdShadow k (f (mapGet (fun _ => {}) s.spdShadow k)) }

/-- The hda record at a key. -/
def State.getHda (s : State) (k : Nat) : HdaSt := mapGet (fun _ => {}) s.hda k

/-- The hda record at a key replaced. -/
def State.putHda (s : State) (k : Nat) (v : HdaSt) : State := { s with hda := mapPut (fun _ => {}) s.hda k v }

/-- The hda record at a key changed by a function. -/
def State.modHda (s : State) (k : Nat) (f : HdaSt → HdaSt) : State := s.putHda k (f (s.getHda k))

/-- The sensor record at a key. -/
def State.getSensor (s : State) (k : Nat) : Reading := mapGet (fun _ => {}) s.sensor k

/-- The sensor record at a key replaced. -/
def State.putSensor (s : State) (k : Nat) (v : Reading) : State := { s with sensor := mapPut (fun _ => {}) s.sensor k v }

/-- The sensor record at a key changed by a function. -/
def State.modSensor (s : State) (k : Nat) (f : Reading → Reading) : State := s.putSensor k (f (s.getSensor k))

/-- The ctrl record at a key. -/
def State.getCtrl (s : State) (k : Nat) : CtrlSt := mapGet (fun _ => {}) s.ctrl k

/-- The ctrl record at a key replaced. -/
def State.putCtrl (s : State) (k : Nat) (v : CtrlSt) : State := { s with ctrl := mapPut (fun _ => {}) s.ctrl k v }

/-- The ctrl record at a key changed by a function. -/
def State.modCtrl (s : State) (k : Nat) (f : CtrlSt → CtrlSt) : State := s.putCtrl k (f (s.getCtrl k))

/-- The buf record at a key. -/
def State.getBuf (s : State) (k : Nat) : BufSt := mapGet (fun _ => {}) s.buf k

/-- The buf record at a key replaced. -/
def State.putBuf (s : State) (k : Nat) (v : BufSt) : State := { s with buf := mapPut (fun _ => {}) s.buf k v }

/-- The buf record at a key changed by a function. -/
def State.modBuf (s : State) (k : Nat) (f : BufSt → BufSt) : State := s.putBuf k (f (s.getBuf k))

/-- The cache record at a key. -/
def State.getCache (s : State) (k : Nat) : CacheSt := mapGet (fun _ => {}) s.cache k

/-- The cache record at a key replaced. -/
def State.putCache (s : State) (k : Nat) (v : CacheSt) : State := { s with cache := mapPut (fun _ => {}) s.cache k v }

/-- The cache record at a key changed by a function. -/
def State.modCache (s : State) (k : Nat) (f : CacheSt → CacheSt) : State := s.putCache k (f (s.getCache k))

/-- The fw record at a key. -/
def State.getFw (s : State) (k : Nat) : FwSt := mapGet (fun _ => {}) s.fw k

/-- The fw record at a key replaced. -/
def State.putFw (s : State) (k : Nat) (v : FwSt) : State := { s with fw := mapPut (fun _ => {}) s.fw k v }

/-- The fw record at a key changed by a function. -/
def State.modFw (s : State) (k : Nat) (f : FwSt → FwSt) : State := s.putFw k (f (s.getFw k))

/-- The jf record at a key. -/
def State.getJf (s : State) (k : Nat) : JfSt := mapGet (fun _ => {}) s.jf k

/-- The jf record at a key replaced. -/
def State.putJf (s : State) (k : Nat) (v : JfSt) : State := { s with jf := mapPut (fun _ => {}) s.jf k v }

/-- The jf record at a key changed by a function. -/
def State.modJf (s : State) (k : Nat) (f : JfSt → JfSt) : State := s.putJf k (f (s.getJf k))

/-- The er record at a key. -/
def State.getEr (s : State) (k : Nat) : ErSt := mapGet (fun _ => {}) s.er k

/-- The er record at a key replaced. -/
def State.putEr (s : State) (k : Nat) (v : ErSt) : State := { s with er := mapPut (fun _ => {}) s.er k v }

/-- The er record at a key changed by a function. -/
def State.modEr (s : State) (k : Nat) (f : ErSt → ErSt) : State := s.putEr k (f (s.getEr k))

/-- The set record at a key. -/
def State.getSet (s : State) (k : Nat) : SetSt := mapGet (fun _ => {}) s.set k

/-- The set record at a key replaced. -/
def State.putSet (s : State) (k : Nat) (v : SetSt) : State := { s with set := mapPut (fun _ => {}) s.set k v }

/-- The set record at a key changed by a function. -/
def State.modSet (s : State) (k : Nat) (f : SetSt → SetSt) : State := s.putSet k (f (s.getSet k))

/-- The dict record at a key. -/
def State.getDict (s : State) (k : Nat) : DictSt := mapGet (fun _ => {}) s.dict k

/-- The dict record at a key replaced. -/
def State.putDict (s : State) (k : Nat) (v : DictSt) : State := { s with dict := mapPut (fun _ => {}) s.dict k v }

/-- The dict record at a key changed by a function. -/
def State.modDict (s : State) (k : Nat) (f : DictSt → DictSt) : State := s.putDict k (f (s.getDict k))

/-- The fuse record at a key. -/
def State.getFuse (s : State) (k : Nat) : FuseSt := mapGet (fun _ => {}) s.fuse k

/-- The fuse record at a key replaced. -/
def State.putFuse (s : State) (k : Nat) (v : FuseSt) : State := { s with fuse := mapPut (fun _ => {}) s.fuse k v }

/-- The fuse record at a key changed by a function. -/
def State.modFuse (s : State) (k : Nat) (f : FuseSt → FuseSt) : State := s.putFuse k (f (s.getFuse k))

/-- A number as n bytes, least significant first (R560). -/
def leBytes : Nat → Nat → List Byte
  | 0, _ => []
  | n + 1, v => BitVec.ofNat 8 v :: leBytes n (v / 256)

/-- Bytes read least significant first (R560). -/
def leNat : List Byte → Nat
  | [] => 0
  | b :: t => b.toNat + 256 * leNat t

/-- The largest value a register's type holds. -/
def regMax (k : Nat) : Nat :=
  match objLookup (k / 256 % 65536) (k % 256) with
  | some (some r) => 2 ^ (8 * r.ty.size) - 1
  | _ => 0

/-- A counter raised, saturating at the largest value of its type. -/
def State.add (s : State) (k n : Nat) : State := s.wr k (min (s.rd k + n) (regMax k))

/-- A counter raised by one. -/
def State.inc (s : State) (k : Nat) : State := s.add k 1

/-- Whether bit i of a register is set. -/
def State.bit (s : State) (k i : Nat) : Bool := (s.rd k).testBit i

/-- A bit of a register set or cleared. -/
def State.setBit (s : State) (k i : Nat) (b : Bool) : State :=
  if b then s.wr k (s.rd k ||| 2 ^ i) else s.wr k (s.rd k - (s.rd k &&& 2 ^ i))

/-- A free value: the model's counter, advanced. -/
def State.next (s : State) : Nat × State := (s.fresh, { s with fresh := s.fresh + 1 })

/-- The key of a line side. -/
def sideKey (u : UnitId) (p : Nat) : Nat := 16 * u.code + p

/-- The key of a channel. -/
def chanKey (p a : Nat) : Nat := 2 * p + a

/-- The actions of a list performed one after another. -/
def State.forEach {α : Type} (s : State) (l : List α) (f : State → α → State) : State := l.foldl f s

end Sys2Proof.Machine
end

