-- ==== Sys2Proof/Machine/Links.lean ====
section
/-! DEFINITION. The links of the module in its tree: packets and the hops they take (R449-R453). -/

namespace Sys2Proof.Machine

/-! ## Packets and links -/

/-- Bytes of payload (LEN of R450). -/
def PktBody.len : PktBody → Nat
  | .cmd _ => 72
  | .data b => b.length
  | .cpl .. => 16
  | .tokenReq _ | .tokenReturn _ => 1
  | .tokenGrant .. | .enumAssign .. | .event .. => 3
  | .dictReq _ _ _ _ _ d => d.length
  | .dictRsp _ d => d.length
  | .enumQuery | .enumState .. | .dataReq _ => 0

/-- TYPE of a packet (R451). -/
def PktBody.ty : PktBody → Nat
  | .enumQuery => 0x01
  | .enumState .. => 0x02
  | .enumAssign .. => 0x03
  | .cmd _ => 0x10
  | .dataReq _ => 0x11
  | .data _ => 0x12
  | .cpl .. => 0x13
  | .tokenReq _ => 0x20
  | .tokenGrant .. => 0x21
  | .tokenReturn _ => 0x22
  | .event .. => 0x30
  | .dictReq .. | .dictRsp .. => 0x40

/-- VC of a packet (R451). -/
def PktBody.vc (b : PktBody) : Nat := if b.ty / 16 = 1 || b.ty = 0x40 then 0 else 1

/-- The 16-byte header of a packet (R450). -/
def Packet.header (p : Packet) : List Byte :=
  leBytes 1 p.body.ty ++ leBytes 1 p.dest ++ leBytes 1 p.src ++ leBytes 1 p.body.vc ++ leBytes 4 p.tag ++
  leBytes 4 p.offset ++ leBytes 2 p.body.len ++ leBytes 2 0

/-- The hop of a link: upstream 0, downstream 0 and 1 as 1 and 2. -/
def GriugPort.hop : GriugPort → Nat
  | .up => 0
  | .down0 => 1
  | .down1 => 2

/-- The key of a link (R465). -/
def linkKey (u : UnitId) (h : Nat) : Nat := 3 * u.code + h

/-- A link, and a link changed. -/
def State.link (s : State) (u : UnitId) (h : Nat) : GriugLink := mapGet (fun _ => {}) s.casc.links (linkKey u h)
def State.modLink (s : State) (u : UnitId) (h : Nat) (f : GriugLink → GriugLink) : State :=
  { s with casc := { s.casc with links := mapPut (fun _ => {}) s.casc.links (linkKey u h) (f (s.link u h)) } }

/-- Whether a link is up, at either width (R446). -/
def GriugState.isUp : GriugState → Bool
  | .up4 | .up2 => true
  | _ => false

/-- Bytes in a replay buffer of 16 KiB (R449). -/
def GriugLink.fill (l : GriugLink) : Nat := (l.replay.map (fun e => 16 + e.2.body.len)).sum

/-- The unit whose link carries a hop: A while its link is up, B otherwise (R453). -/
def State.hopUnit (s : State) (h : Nat) : Option UnitId :=
  if (s.link .A h).st.isUp then some .A else if (s.link .B h).st.isUp then some .B else none

/-- A packet put on a hop (R449, R453): it stands in the replay buffer until it is acknowledged, and waits for a link or for
room, behind those of its virtual channel that wait. -/
def State.sendHop (s : State) (h : Nat) (p : Packet) : State :=
  let wait := { s with casc := { s.casc with
    parked := mapPut (fun _ => []) s.casc.parked h (mapGet (fun _ => []) s.casc.parked h ++ [p]) } }
  match s.hopUnit h with
  | none => wait
  | some u =>
    if 16384 < (s.link u h).fill + 16 + p.body.len || (mapGet (fun _ => []) s.casc.parked h).any (fun q => q.body.vc == p.body.vc) then wait
    else
      (s.modLink u h (fun l => { l with
        replay := l.replay ++ [(l.txSeq, p)], txSeq := l.txSeq + 1, sentAt := if l.replay.isEmpty then s.now else l.sentAt }))

/-- The hop of a destination (R452): the route table, upstream where it has no entry and for the root. -/
def State.hopOf (s : State) (dest : Nat) : Nat :=
  let r := mapGet (fun _ => 0xFF) s.casc.routes dest
  if r = 1 || r = 2 then r else 0

/-- SRC of this module's packets (R450). -/
def CascSt.src (c : CascSt) : Nat := c.number.getD 0xFE

/-- A packet of this module sent (R450, R452). A packet to the module itself stays in it. -/
def State.send (s : State) (body : PktBody) (dest : Nat) (tag : Nat := 0) (offset : Nat := 0) : State :=
  let p : Packet := { body := body, dest := dest, src := s.casc.src, tag := tag, offset := offset }
  let own := s.casc.number == some dest || (dest == 0xFF && s.casc.role == .root)
  let s := { s with casc := { s.casc with sent := p :: s.casc.sent } }
  if own then s else s.sendHop (s.hopOf dest) p

end Sys2Proof.Machine
end

