-- ==== Sys2Proof/Machine/Ops.lean ====
section
/-! DEFINITION. The operations every family shares: the event recorder and emergency queue, fault occurrences,
asynchronous events, mode changes, answers. -/

namespace Sys2Proof.Machine

/-! ## Records (R530-R533) -/

/-- Bytes of a record in its page: header and body. -/
def Rec.size (r : Rec) : Nat := 12 + r.body.length

/-- FLAGS of a record (R530). -/
def Rec.flags (r : Rec) : Nat :=
  (if r.fault then 4 + r.cls % 4 else 0) + (if r.unit = .B then 8 else 0) + (if r.peer then 16 else 0) +
  (if r.repLost then 32 else 0) + (if r.holdup then 64 else 0)

/-- The bytes of a record (R530). -/
def Rec.bytes (r : Rec) : List Byte :=
  leBytes 2 r.ty ++ leBytes 1 r.body.length ++ leBytes 1 r.flags ++ leBytes 2 r.rep ++ leBytes 6 r.time ++ r.body

/-- Two records with equal TYPE, FLAGS and body; REPEAT_LOST, which belongs to the repeats, is left out (R532). -/
def Rec.same (a b : Rec) : Bool :=
  a.ty == b.ty && a.body == b.body && { a with repLost := false }.flags == { b with repLost := false }.flags

/-- One more occurrence of the open record (R532). -/
def Rec.again (r : Rec) : Rec := if 0xFFFF ≤ r.rep then { r with repLost := true } else { r with rep := r.rep + 1 }

/-- The record closed into the list of pages due when the next one does not fit (R533). -/
def ErSt.closePage (e : ErSt) : ErSt :=
  if e.pageFill = 0 then e
  else { e with due := e.due ++ [(e.pageFirst, e.next - e.pageFirst)], pageFill := 0 }

/-- Records of the retained buffer not yet programmed. -/
def ErSt.unprogrammed (e : ErSt) : Nat := (e.retained.filter (fun x => e.programmed ≤ x.1)).length

/-- A record appended as a new one, in the page being filled or in a fresh page; dropped when 1024 records wait (R533). -/
def ErSt.appendNew (e : ErSt) (r : Rec) : ErSt × Bool :=
  if 1024 ≤ e.unprogrammed then (e, true)
  else
    let e := if 256 < e.pageFill + r.size then e.closePage else e
    let e := if e.pageFill = 0 then { e with pageFirst := e.next, pageTime := r.time } else e
    let kept := e.retained ++ [(e.next, r)]
    ({ e with retained := kept.drop (kept.length - 1024), next := e.next + 1, pageFill := e.pageFill + r.size }, false)

/-- A record appended to the recorder of one unit, or merged into its open record, or dropped (R532, R533). The
second part tells whether it was dropped. -/
def ErSt.append (e : ErSt) (r : Rec) : ErSt × Bool :=
  match e.retained.getLast? with
  | some (n, q) =>
    if e.programmed ≤ n && q.same r then
      ({ e with retained := e.retained.dropLast ++ [(n, q.again)] }, false)
    else e.appendNew r
  | none => e.appendNew r

/-- A message put in the queue of at most 32, or dropped and counted (R578). -/
def State.emergency (s : State) (m : Emcy) : State :=
  if s.emcy.length < 32 then { s with emcy := s.emcy ++ [m] } else s.inc Obj.EMCY_DROPPED

/-- A traced status object that gains a bit is printed by the monitor (R586). -/
def State.traced (s : State) (key old new : Nat) : State :=
  if s.mon.traces.contains key && new != old then
    { s with mon := { s.mon with out := s.mon.out ++ [.trace (key / 256 % 65536) (key % 256) new] } }
  else s

/-- An occurrence of a bit that the recorder itself sets (R519, R522): the bit, the counts of the block kind, and an emergency message for
a bit that goes from 0 to 1. -/
def State.erNote (s : State) (u : UnitId) (f : Flag) : State :=
  let old := s.rd (Obj.ER_STATUS u)
  let body := leBytes 2 0x5200 ++ leBytes 1 0 ++ leBytes 1 f.cls ++ leBytes 2 (2 ^ f.bit) ++ leBytes 2 (old ||| 2 ^ f.bit) ++ leBytes 4 0
  let s := (((s.traced (Obj.ER_STATUS u) old (old ||| 2 ^ f.bit)).setBit (Obj.ER_STATUS u) f.bit true).inc (Obj.FAULTS_RAISED f.kind)).wr (Obj.LAST_FAULT_TIME f.kind) s.now
  if !old.testBit f.bit && s.rd (Obj.EMCY_MIN_CLASS f.kind) ≤ f.cls then
    s.emergency { index := 0x5200, sub := 0, ty := 2, cls := f.cls, body := body }
  else s

/-- A record appended on one unit; a record dropped is counted and sets RECORDS_DROPPED (R533). -/
def State.logOn (s : State) (u : UnitId) (r : Rec) : State :=
  let (e, dropped) := (s.getEr u.code).append { r with time := s.now }
  if dropped then
    (s.inc (Obj.ER_DROPPED u)).erNote u .ER_RECORDS_DROPPED
  else
    let s := s.putEr u.code e
    match s.mon.tail == some u, e.retained.getLast? with
    | true, some (n, q) => { s with mon := { s.mon with out := s.mon.out ++ [.event n q] } }
    | _, _ => s

/-- The unit that reports for the module (R522): the unit holding TOKEN, or the winner of the role decision. -/
def State.reporter (s : State) : UnitId := s.pair.active

/-- Whether a standby is ready (R469). -/
def State.peerReady (s : State) : Bool := s.pair.peer == .ready

/-- A record appended by the module (R533): on both units while a standby is ready; otherwise on the unit that made it,
which then has a gap, marked once by MIRROR_GAP. -/
def State.log (s : State) (r : Rec) : State :=
  let r := { r with holdup := s.mode.cur == .holdUp }
  if s.peerReady then (s.logOn .A r).logOn .B r
  else
    let s1 := s.logOn r.unit r
    let e := s1.getEr r.unit.code
    if e.gapFrom.isSome then s1
    else
      let s2 := s1.modEr r.unit.code (fun e => { e with gapFrom := some ((s.getEr r.unit.code).next) })
      let s3 := s2.erNote r.unit .ER_MIRROR_GAP
      s3.logOn r.unit
        { ty := 2, cls := advisory, fault := true, unit := r.unit, holdup := r.holdup,
          body := leBytes 2 0x5200 ++ leBytes 1 0 ++ leBytes 1 advisory ++ leBytes 2 2 ++
            leBytes 2 (s3.rd (Obj.ER_STATUS r.unit)) ++ leBytes 4 0 }

/-- A record that is no fault (R531). -/
def State.logPlain (s : State) (ty : Nat) (body : List Byte) : State :=
  s.log { ty := ty, unit := s.reporter, body := body }

/-- An event of a class without a status bit: a firmware record (R531). Its type and text are free values. -/
def State.logFirmware (s : State) (u : UnitId) (cls : FaultClass) : State :=
  let (n, s) := s.next
  s.log { ty := 0x8000 + (Config.recordType n).val, cls := cls, fault := true, unit := u,
          body := (Config.recordText n).take 244 }

/-! ## Event fabric (R393, R395) -/

/-- A pulse issued. -/
def State.pulse (s : State) (u : UnitId) (e : Nat) : State := { s with fabric := s.fabric ++ [(u, e)] }

/-! ## Asynchronous events (R354) -/

/-- A completion posted to the completion queue of its submission queue: the tail moves on, and the phase tag turns over when
the queue wraps (R335). -/
def CtrlSt.post (c : CtrlSt) (x : Cpl) : CtrlSt :=
  let q := ((c.sqs.find? (fun s => s.qid == x.tag.sq)).map SubQueue.cq).getD 0
  { c with
    posted := { x with vector := ((c.cqs.find? (fun k => k.qid == q)).map CplQueue.vector).getD 0 } :: c.posted
    cqs := c.cqs.map (fun (k : CplQueue) =>
      if k.qid ≠ q then k
      else if k.tail + 1 < k.size then { k with tail := k.tail + 1 }
      else { k with tail := 0, phase := !k.phase }) }

/-- An asynchronous event of a controller: it completes an outstanding request and is masked until its log page is
read, waits when none is outstanding, and is dropped while masked. -/
def CtrlSt.event (c : CtrlSt) (u : UnitId) (a : Aen) : CtrlSt :=
  if c.masked.contains a.ty then c
  else
    match c.aers with
    | [] => if c.events.contains a then c else { c with events := c.events ++ [a] }
    | cid :: rest =>
      ({ c with aers := rest, masked := a.ty :: c.masked } : CtrlSt).post
        { tag := ⟨u, 0, cid⟩, dw0 := a.ty + 256 * a.info + 65536 * a.log }

/-- The table slots of Asynchronous Event Requests that are no longer outstanding are freed (R342). -/
def State.aerSlots (s : State) : State :=
  { s with cmds := s.cmds.filter (fun (c : HostCmd) =>
      c.kind != .aer || (s.getCtrl c.tag.ctrl.code).aers.contains c.tag.cid) }

/-- The Asynchronous Event Configuration of a controller (feature 0Bh), all zero until host software sets it. -/
def CtrlSt.aenConfig (c : CtrlSt) : Nat := mapGet (fun _ => 0) c.features 0x0B

/-- An event raised on every controller that is ready and whose configuration sets one of the mask bits; a mask of 0
stands for an event that the configuration does not gate. A member module sends it to the root (R460). -/
def State.aenAll (s : State) (mask : Nat) (a : Aen) : State :=
  let s := if s.casc.role = .member then s.send (.event a.ty a.info a.log) 0xFF else s
  (s.forEach [UnitId.A, UnitId.B] (fun s u =>
    s.modCtrl u.code (fun c => if c.rdy && (mask == 0 || c.aenConfig &&& mask != 0) then c.event u a else c))).aerSlots

/-- SMART / Health Status for a Severe or Grave fault (R354, R522): type 1, subsystem reliability, log page 02h. -/
def State.smartEvent (s : State) : State := s.aenAll 0x04 { ty := 1, info := 0, log := 2 }

/-! ## Fault occurrences (R519, R522, R527, R532) -/

/-- The body of a fault record (R531). -/
def faultBody (key cls set status detail : Nat) : List Byte :=
  leBytes 2 (key / 256 % 65536) ++ leBytes 1 (key % 256) ++ leBytes 1 cls ++ leBytes 2 set ++ leBytes 2 status ++
  leBytes 4 detail

/-- DETAIL of a fault record (R531): the set number for data channels and write encoders, FLT_CODE for port lines, the low half
of ERR_ADDR for DMA. -/
def State.detail (s : State) : Site → Nat
  | .ch p a | .wr p a => (s.getChan (chanKey p a)).activeSet.getD 0
  | .lines p => s.rd (Obj.FLT_CODE p)
  | .dma u n => s.rd (Obj.ERR_ADDR u n) % 4294967296
  | _ => 0

/-- An occurrence that sets bits of a status object (R519): the record of R532, the counts of the block kind, an
emergency message for a bit that goes from 0 to 1 with a class of at least EMCY_MIN_CLASS, SMART / Health for Severe and
Grave, and the latch of R527 for a Grave bit of a block kind with GRAVE_ACTION 01h. The class of a PN2 fault is given
by its code (R521). -/
def State.raise (s : State) (x : Site) (fs : List Flag) (cls : Option FaultClass := none) : State :=
  let set := flagMask fs
  let old := s.rd x.key
  let c := cls.getD (fs.foldl (fun m f => max m f.cls) 0)
  let u := x.unit.getD s.reporter
  let body := faultBody x.key c set (old ||| set) (s.detail x)
  let risen := fs.any (fun f => !old.testBit f.bit && s.rd (Obj.EMCY_MIN_CLASS x.kind) ≤ cls.getD f.cls)
  let s := s.traced x.key old (old ||| set)
  let s := ((s.wr x.key (old ||| set)).inc (Obj.FAULTS_RAISED x.kind)).wr (Obj.LAST_FAULT_TIME x.kind) s.now
  let s := s.log { ty := 2, cls := c, fault := true, unit := u, body := body }
  let s := if risen then
      s.emergency { index := x.key / 256 % 65536, sub := x.key % 256, ty := 2, cls := c, body := body }
    else s
  let s := if severe ≤ c then s.smartEvent else s
  if c = grave && s.rd (Obj.GRAVE_ACTION x.kind) = 1 && s.rd (Obj.LATCHED x.kind) = 0 then
    let bit := ((fs.find? (fun f => cls.getD f.cls == grave)).map Flag.bit).getD 0
    let s := s.wr (Obj.LATCHED x.kind) 1
    let s := s.log { ty := 4, unit := u, body := leBytes 2 (x.key / 256 % 65536) ++ leBytes 1 (x.key % 256) ++ leBytes 1 bit }
    { s with mode := { s.mode with graveLatch := true, latchDue := true } }
  else s

/-- The interrupt line of a block to the application cores of its unit (R110, R519): asserted while STATUS AND INT_EN is not 0, and by
LAST_BEAT_ERR whatever INT_EN holds (R407). -/
def State.interrupt (s : State) (x : Site) : Bool :=
  (s.rd x.key &&& s.rd (x.key + 1)) != 0 || (x.kind == Flag.DMA_LAST_BEAT_ERR.kind && s.bit x.key Flag.DMA_LAST_BEAT_ERR.bit)

/-- The unit whose application cores an interrupt line goes to. -/
def State.interruptUnit (s : State) (x : Site) : UnitId := x.unit.getD s.pair.active

/-- A condition bit that has ended (R526). -/
def State.lower (s : State) (x : Site) (f : Flag) : State := s.setBit x.key f.bit false

/-! ## Units -/

/-- The record of a unit. -/
def State.unitSt (s : State) (u : UnitId) : UnitSt := match u with | .A => s.pair.unitA | .B => s.pair.unitB

/-- The record of a unit changed. -/
def State.modUnit (s : State) (u : UnitId) (f : UnitSt → UnitSt) : State :=
  { s with pair := match u with
    | .A => { s.pair with unitA := f s.pair.unitA }
    | .B => { s.pair with unitB := f s.pair.unitB } }

/-! ## Persistent values (R565) -/

/-- The unit that a key of unit scope belongs to. -/
def keyUnit (k : Nat) : Option UnitId :=
  if k / 0x1000000 = 1 then some .A else if k / 0x1000000 = 2 then some .B else none

/-- A change of a persistent object staged for saving (R565): on both units for module scope, on its own unit for unit
scope; held by the always-on logic while the journal flash is unpowered. -/
def State.stage (s : State) (k : Nat) : State :=
  let us := match keyUnit k with | some u => [u] | none => [UnitId.A, UnitId.B]
  s.forEach us (fun s u =>
    s.modSet u.code (fun t =>
      if s.sup.vin12 then (if t.staged.contains k then t else { t with staged := k :: t.staged })
      else if t.held.contains k then t else { t with held := k :: t.held }))

/-! ## Modes (R28, R38-R40) -/

/-- A change of mode counted (R39). The count goes on from the saved one, which is known once the settings have been loaded. -/
def State.countMode (s : State) : State :=
  let s := s.inc Obj.MODE_CHANGES
  if (s.getSet s.pair.active.code).loaded then s.stage Obj.MODE_CHANGES else s

/-- A change of mode: 1100h and the mode record. The effects of entering the mode are those of the mode family. -/
def State.setMode (s : State) (m : Mode) (c : ModeCause) : State :=
  let s1 := { s with mode := { s.mode with cur := m, prev := s.mode.cur, cause := c, entryTime := s.now } }
  s1.countMode.logPlain 1
    (leBytes 1 s.mode.cur.code ++ leBytes 1 m.code ++ leBytes 1 c.code)

/-- A number of bytes whose content the spec does not give: free values. -/
def State.freeBytes (s : State) (len : Nat) : List Byte × State :=
  let (n, s) := s.next
  ((List.range len).map (fun i => Config.freeByte n i), s)

/-! ## Answers to dictionary accesses (R561, R562) -/

/-- The answer of an access: its error code, 0 for success, and the data. -/
def State.answer (s : State) (dest : Requester) (err : Nat) (data : List Byte := []) : State :=
  { s with answers := { dest := dest, err := err, data := data } :: s.answers }

/-- The application cores take the completion entries that have come (R183), while their firmware runs. -/
def State.coresRead (s : State) : State :=
  if s.mode.served then { s with plan := s.plan.map (fun (e : Nat × PlanSt) => (e.1, { e.2 with ringRd := e.2.ringWr })) } else s

/-- No command waits: one microsecond passes on the timestamp count, which runs while VAUX3 is present (R566), and the cores take what
has been posted (R183). -/
def State.idle (s : State) : Host.Outcome State Fault Refusal :=
  .next (if s.sup.vaux3 then { s.coresRead with now := s.now + 1 } else s)

end Sys2Proof.Machine
end

