-- ==== Sys2Proof/Machine/Access.lean ====
section
/-! DEFINITION. The checks of a dictionary access in the order of R561, and the staging of persistent objects
(R565). A command that writes one object runs the checks, then the object's own rule, then its effect, and answers. -/

namespace Sys2Proof.Machine

/-- Whether an object is served in the current mode (R561 step 2, R567, R29). -/
def State.served (s : State) (i sub : Nat) (r : ObjRow) : Bool :=
  match s.mode.cur with
  | .unpowered | .resetHold => false
  | .fiddlehead | .faultLatched | .holdUp => objInFiddlehead i sub r
  | _ => s.mode.served || objInFiddlehead i sub r

/-- Whether the module is in a mode that permits a write of a rwq object (R561 step 4). -/
def modeQuiet : Mode → Bool
  | .drain | .quiescent | .maintenance => true
  | _ => false

/-- Objects whose own rule confines every access to Maintenance (R561 step 4, R592). -/
def maintenanceWindow (c : Nat) : Bool := c == 0x8000 || c == 0x9000

/-- Objects whose own rule confines writes to Maintenance: RESTORE_DEFAULTS, MC_COMMAND, MC_STAGE, ACT_COMMAND. -/
def maintenanceWrite (c sub : Nat) : Bool :=
  (c == 0x1010 && sub == 2) || (c == 0x4500 && sub == 3) || (c == 0x4501 && sub == 0) || (c == 0x3030 && sub == 1)

/-- Whether a requester holds a session with a unit that is still open (R583). Firmware on the part needs none. -/
def State.session (s : State) (u : UnitId) (q : Requester) : Bool :=
  q == .firmware || (s.getDict u.code).sessions.any (fun e => e.1 == q && decide (s.now < e.2))

/-- Steps 1 to 4 of R561 for an object that exists: served, access code, mode. 0 when all pass. -/
def State.modeErr (s : State) (i sub : Nat) (r : ObjRow) (q : Requester) (write : Bool) : Nat :=
  if !s.served i sub r || (write && s.mode.cur == .holdUp && !(r.idx == 0x5210 && sub == 1)) then 0x0E
  else if write && r.acc == .ro then 0x03
  else if !write && r.acc == .wo then 0x04
  else if write && r.acc == .rwq && q != .firmware && !modeQuiet s.mode.cur then 0x05
  else if maintenanceWindow r.idx && s.mode.cur != .maintenance then 0x05
  else if write && maintenanceWrite r.idx sub && s.mode.cur != .maintenance then 0x05
  else if write && r.idx == 0x1105 && s.mode.cur != .fiddlehead then 0x05
  else 0

/-- A segmented write of the object by another requester is in progress (R564): at either unit for an object of module scope. -/
def State.writeHeld (s : State) (u : UnitId) (i sub : Nat) (r : ObjRow) (q : Requester) : Bool :=
  [UnitId.A, UnitId.B].any (fun w =>
    (w == u || !objUnitScope i sub r) &&
    (s.getDict w.code).transfers.any (fun t => t.write && t.index == i && t.sub == sub && q != .kdap t.src))

/-- Steps 1 to 7 of R561 for a write, and the hold of R564: 0 when all pass. -/
def State.writeErr (s : State) (u : UnitId) (i sub : Nat) (q : Requester) (data : List Byte) : Nat :=
  match objLookup i sub with
  | none => 0x01
  | some none => 0x02
  | some (some r) =>
    let e := s.modeErr i sub r q true
    if e ≠ 0 then e
    else if r.acc == .rwa && !s.session u q then 0x06
    else if !r.ty.lengthOk data.length then 0x08
    else if r.ty.numeric && !r.inRange (leNat data) then 0x07
    else if s.writeHeld u i sub r q then 0x0A
    else 0

/-- Steps 1 to 4 of R561 for a read: 0 when all pass. -/
def State.readErr (s : State) (i sub : Nat) (q : Requester) : Nat :=
  match objLookup i sub with
  | none => 0x01
  | some none => 0x02
  | some (some r) => s.modeErr i sub r q false

/-- HDA_BAND of a port as the active unit reads it, which governs writes, presets and heaters (R512). -/
def State.hdaBand (s : State) (p : Nat) : Band := (s.getHda (sideKey s.pair.active p)).r.band

/-- A persistent register written and staged. -/
def State.save (s : State) (k v : Nat) : State := (s.wr k v).stage k

/-- A counter raised, and staged where its object is persistent. -/
def State.incSave (s : State) (k : Nat) : State :=
  match objLookup (k / 256 % 65536) (k % 256) with
  | some (some r) => if r.pers then (s.inc k).stage k else s.inc k
  | _ => s.inc k

/-- A value written to a register, staged when its object is persistent. -/
def State.store (s : State) (k v : Nat) : State :=
  match objLookup (k / 256 % 65536) (k % 256) with
  | some (some r) => if r.pers then s.save k v else s.wr k v
  | _ => s.wr k v

/-- Whether the units answer on the network: from Fiddlehead onward (R29, R426). -/
def State.kdapUp (s : State) : Bool := s.mode.cur != .unpowered && s.mode.cur != .resetHold

/-- The data of a frame: LENGTH bytes after the header. -/
def KdapFrame.body (f : KdapFrame) : List Byte := f.data.take f.length

/-- A well-formed header: version 01h, LENGTH at most 1024 and within the payload (R571, R572). -/
def KdapFrame.formed (f : KdapFrame) : Bool :=
  f.version == 1 && decide (f.length ≤ 1024) && decide (f.length ≤ f.data.length)

/-- The unit TARGET names, when it can be reached (R572). -/
def State.kdapTarget (s : State) (u : UnitId) (f : KdapFrame) : Option UnitId :=
  let t := match f.target.toNat % 4 with | 0 => u | 1 => .A | 2 => .B | _ => s.pair.active
  if t = u || s.pair.peer != .absent then some t else none

/-- The monitor is disabled for good: MONDIS blown in either array (R4, R591). -/
def State.monDisabled (s : State) : Bool := (s.getFuse 0).mondis || (s.getFuse 1).mondis

/-- The monitor runs from Fiddlehead onward unless MONDIS is blown in either unit's array (R591). -/
def State.monUp (s : State) : Bool :=
  s.kdapUp && !s.monDisabled

/-- The answering unit of a line (R585): the unit of its prefix, or the one that serves the balls. -/
def State.monUnit (s : State) : MonUnit → UnitId
  | .serving => s.pair.active
  | .unit u => u

/-- A write of a mode request that passes its checks, stored (R37). -/
def State.modeWritten (s : State) (q : Requester) (u : UnitId) (i sub : Nat) (data : List Byte) : State :=
  if i = 0x1101 ∧ sub = 0 ∧ [0x02, 0x04, 0x07, 0x0A].contains (leNat data) = true ∧ s.writeErr u i sub q data = 0 then
    s.save Obj.REQUESTED_MODE (leNat data)
  else s

/-- A mode request that a monitor line writes, stored unless the line is not run (R37, R588, R591). -/
def State.lineWritten (s : State) (m : MonUnit) (i sub : Nat) (data : List Byte) : State :=
  if s.monUp && (s.rd (Obj.MON_LOCK s.pair.active) ≠ 1 || s.session s.pair.active .monitor) then
    s.modeWritten .monitor (s.monUnit m) i sub data
  else s

/-- What a held access does at once: a mode request written during Switchover is stored, although its answer waits (R37, R487, R564). -/
def State.atOnce (s : State) (c : WaitingAccess) : State :=
  match c with
  | .write q u i sub data => s.modeWritten q u i sub data
  | .expeditedWrite u f =>
    if s.kdapUp && f.etherType = s.rd Obj.KDAP_ETHERTYPE && !f.broadcast && f.queued < 2 && f.formed && f.target.toNat < 4 then
      match s.kdapTarget u f with
      | some t => s.modeWritten (.kdap f.src) t f.index f.sub f.body
      | none => s
    else s
  | .poke m i sub data => s.lineWritten m i sub data
  | .modeLine (some v) => s.lineWritten .serving 0x1101 0 [v]
  | _ => s

/-- An access that arrives during Switchover is held until the new unit holding TOKEN answers it (R564). -/
def State.hold (s : State) (c : WaitingAccess) (run : State → State) : State :=
  if s.mode.cur = .switchover then
    let s := s.atOnce c
    { s with accHeld := s.accHeld ++ [c] }
  else run s

/-- A write of one object by a requester: the checks of R561, then the object's own rule (0 to accept), then its effect,
and the answer (R561, R565). -/
def State.tryWrite (s : State) (q : Requester) (u : UnitId) (i sub : Nat) (data : List Byte) (own : Nat)
    (effect : State → State) : State :=
  s.hold (.write q u i sub data) fun s =>
    let e := s.writeErr u i sub q data
    if e ≠ 0 then s.answer q e else if own ≠ 0 then s.answer q own else (effect s).answer q 0

/-- The index and subindex of a key. -/
def keyIndex (k : Nat) : Nat := k / 256 % 65536
def keySub (k : Nat) : Nat := k % 256

/-- A write of the object at a key (R561): as `tryWrite`. -/
def State.tryKey (s : State) (q : Requester) (u : UnitId) (k : Nat) (data : List Byte) (own : Nat)
    (effect : State → State) : State :=
  s.tryWrite q u (keyIndex k) (keySub k) data own effect

/-- A firmware or part count for the self-diagnosis of a unit (R187, R210, R475). -/
def State.diag (s : State) (u : UnitId) (c : ReleaseCause) : State :=
  let f := fun x : UnitSt => { x with diag := (c, s.now) :: x.diag }
  { s with pair := match u with
    | .A => { s.pair with unitA := f s.pair.unitA }
    | .B => { s.pair with unitB := f s.pair.unitB } }

end Sys2Proof.Machine
end

