-- ==== Sys2Proof/Machine/Crypto.lean ====
section
/-! DEFINITION. The checks over byte strings the chapters use: SHA-256 and HMAC-SHA-256 (R536, R583), SHA-384 and ECDSA on
P-384 (R175, R431), CRC-8 (R236),
CRC-32C (R414) and CRC-64 (R128). -/

namespace Sys2Proof.Machine

/-! ## SHA-2 (FIPS 180-4) and HMAC (RFC 2104) -/

/-- The whole part of the k-th root of a number that has at most b bits. -/
def rootFloor (k n : Nat) : Nat → Nat → Nat
  | 0, r => r
  | b + 1, r => rootFloor k n b (if (r + 2 ^ b) ^ k ≤ n then r + 2 ^ b else r)

/-- The first w bits of the fraction of the k-th root of a number below 512. -/
def rootFraction (k w v : Nat) : Nat := rootFloor k (v * 2 ^ (k * w)) (w + 5) 0 % 2 ^ w

/-- The first 80 primes. -/
def primes80 : List Nat :=
  [2, 3, 5, 7, 11, 13, 17, 19, 23, 29, 31, 37, 41, 43, 47, 53, 59, 61, 67, 71, 73, 79, 83, 89, 97, 101, 103, 107, 109, 113] ++
  [127, 131, 137, 139, 149, 151, 157, 163, 167, 173, 179, 181, 191, 193, 197, 199, 211, 223, 227, 229, 233, 239, 241, 251] ++
  [257, 263, 269, 271, 277, 281, 283, 293, 307, 311, 313, 317, 331, 337, 347, 349, 353, 359, 367, 373, 379, 383, 389, 397] ++
  [401, 409]

/-- One of the two forms of SHA-2 in use: bits of a word, rounds, the roots that start it, and the rotations of its functions Σ0, Σ1,
σ0 and σ1, the last number of a σ being a shift. -/
structure ShaForm where
  bits : Nat
  rounds : Nat
  start : List Nat
  sum0 : Nat × Nat × Nat
  sum1 : Nat × Nat × Nat
  mix0 : Nat × Nat × Nat
  mix1 : Nat × Nat × Nat

/-- SHA-256. -/
def form256 : ShaForm where
  bits := 32
  rounds := 64
  start := primes80.take 8
  sum0 := (2, 13, 22)
  sum1 := (6, 11, 25)
  mix0 := (7, 18, 3)
  mix1 := (17, 19, 10)

/-- SHA-384, whose words are those of SHA-512. -/
def form384 : ShaForm where
  bits := 64
  rounds := 80
  start := (primes80.drop 8).take 8
  sum0 := (28, 34, 39)
  sum1 := (14, 18, 41)
  mix0 := (1, 8, 7)
  mix1 := (19, 61, 6)

/-- A word turned three ways and summed without carry; the last turn a shift for σ. -/
def turned {w : Nat} (x : BitVec w) (n : Nat × Nat × Nat) (shift : Bool) : BitVec w :=
  x.rotateRight n.1 ^^^ x.rotateRight n.2.1 ^^^ (if shift then x >>> n.2.2 else x.rotateRight n.2.2)

/-- A number of big-endian bytes. -/
def beNat (b : List Byte) : Nat := b.foldl (fun v x => 256 * v + x.toNat) 0

/-- A number as n big-endian bytes. -/
def beBytes (n v : Nat) : List Byte := (leBytes n v).reverse

/-- The bytes of a word and of a block of sixteen words. -/
def ShaForm.bytes (f : ShaForm) : Nat := f.bits / 8

/-- The message schedule, newest word first. -/
def ShaForm.schedule (f : ShaForm) (block : List Byte) : List (BitVec f.bits) :=
  let words := (List.range 16).map (fun i => BitVec.ofNat f.bits (beNat ((block.drop (i * f.bytes)).take f.bytes)))
  (List.range (f.rounds - 16)).foldl (fun w _ =>
    (turned (w.getD 1 0) f.mix1 true + w.getD 6 0 + turned (w.getD 14 0) f.mix0 true + w.getD 15 0) :: w) words.reverse

/-- The eight working words, a to h. -/
structure ShaWork (w : Nat) where
  a : BitVec w
  b : BitVec w
  c : BitVec w
  d : BitVec w
  e : BitVec w
  f : BitVec w
  g : BitVec w
  h : BitVec w

/-- Eight words from a list, and as one. -/
def ShaWork.ofList {w : Nat} (l : List (BitVec w)) : ShaWork w :=
  { a := l.getD 0 0, b := l.getD 1 0, c := l.getD 2 0, d := l.getD 3 0, e := l.getD 4 0, f := l.getD 5 0, g := l.getD 6 0, h := l.getD 7 0 }
def ShaWork.toList {w : Nat} (x : ShaWork w) : List (BitVec w) := [x.a, x.b, x.c, x.d, x.e, x.f, x.g, x.h]

/-- One round, with the constant of its prime and a word of the schedule. -/
def ShaForm.round (f : ShaForm) (x : ShaWork f.bits) (p : Nat) (w : BitVec f.bits) : ShaWork f.bits :=
  let choose := (x.e &&& x.f) ^^^ (~~~x.e &&& x.g)
  let major := (x.a &&& (x.b ^^^ x.c)) ^^^ (x.b &&& x.c)
  let t := x.h + turned x.e f.sum1 false + choose + BitVec.ofNat f.bits (rootFraction 3 f.bits p) + w
  { a := t + turned x.a f.sum0 false + major, b := x.a, c := x.b, d := x.c, e := x.d + t, f := x.e, g := x.f, h := x.g }

/-- The hash after a block. -/
def ShaForm.block (f : ShaForm) (h : List (BitVec f.bits)) (block : List Byte) : List (BitVec f.bits) :=
  let w := (f.schedule block).reverse
  let x := (primes80.zip w).foldl (fun x (p, w) => f.round x p w) (ShaWork.ofList h)
  List.zipWith (· + ·) h x.toList

/-- The blocks of a padded message, one after another. -/
def ShaForm.blocks (f : ShaForm) : Nat → List (BitVec f.bits) → List Byte → List (BitVec f.bits)
  | 0, h, _ => h
  | n + 1, h, m => f.blocks n (f.block h (m.take (16 * f.bytes))) (m.drop (16 * f.bytes))

/-- The first n bytes of the hash of a byte string. -/
def ShaForm.hash (f : ShaForm) (n : Nat) (m : List Byte) : List Byte :=
  let size := 16 * f.bytes
  let used := (m.length + 1 + 2 * f.bytes) % size
  let pad := m ++ 0x80 :: List.replicate ((size - used) % size) 0 ++ beBytes (2 * f.bytes) (8 * m.length)
  let start := f.start.map (fun p => BitVec.ofNat f.bits (rootFraction 2 f.bits p))
  ((f.blocks (pad.length / size) start pad).flatMap (fun x => beBytes f.bytes x.toNat)).take n

/-- SHA-256. -/
def sha256 (m : List Byte) : List Byte := form256.hash 32 m

/-- SHA-384. -/
def sha384 (m : List Byte) : List Byte := form384.hash 48 m

/-- HMAC-SHA-256 with a key of at most 64 bytes. -/
def hmac256 (key msg : List Byte) : List Byte :=
  let k := key ++ List.replicate (64 - key.length) 0
  sha256 (k.map (· ^^^ 0x5C) ++ sha256 (k.map (· ^^^ 0x36) ++ msg))

/-! ## ECDSA on P-384 (FIPS 186-5) -/

/-- The field prime, the order of the base point, the coefficient b and the base point. -/
def p384 : Nat := 2 ^ 384 - 2 ^ 128 - 2 ^ 96 + 2 ^ 32 - 1
def p384Order : Nat :=
  0xffffffffffffffffffffffffffffffffffffffffffffffffc7634d81f4372ddf581a0db248b0a77aecec196accc52973
def p384B : Nat :=
  0xb3312fa7e23ee7e4988e056be3f82d19181d9c6efe8141120314088f5013875ac656398d8a2ed19d2a85c8edd3ec2aef
def p384Base : Nat × Nat :=
  (0xaa87ca22be8b05378eb1c71ef320ad746e1d3b628ba79b9859f741e082542a385502f25dbf55296c3a545e3872760ab7,
   0x3617de4a96262c6f5d9e98bf9292dc29f8f41dbd289a147ce9da3113b5f0b8c00a60b1ce1d7e819d7a431d7c90ea0e5f)

/-- A power modulo m, over the low n bits of the exponent. -/
def powMod (m : Nat) : Nat → Nat → Nat → Nat
  | 0, _, _ => 1
  | n + 1, b, e => (if e % 2 = 1 then b else 1) * powMod m n (b * b % m) (e / 2) % m

/-- The inverse modulo a prime of 384 bits. -/
def invMod (m v : Nat) : Nat := powMod m 384 (v % m) (m - 2)

/-- The sum of two points; `none` is the point at infinity. -/
def pointAdd : Option (Nat × Nat) → Option (Nat × Nat) → Option (Nat × Nat)
  | none, q => q
  | p, none => p
  | some (x, y), some (u, v) =>
    if x = u ∧ (y + v) % p384 = 0 then none
    else
      let l := if x = u then (3 * x * x + p384 - 3) * invMod p384 (2 * y) % p384
        else (v + p384 - y) * invMod p384 (u + p384 - x) % p384
      let z := (l * l + 2 * p384 - x - u) % p384
      some (z, (l * (x + p384 - z) + p384 - y) % p384)

/-- A multiple of a point, over the low n bits of the factor. -/
def pointMul : Nat → Nat → Option (Nat × Nat) → Option (Nat × Nat)
  | 0, _, _ => none
  | n + 1, k, q => pointAdd (if k % 2 = 1 then q else none) (pointMul n (k / 2) (pointAdd q q))

/-- Whether a signature (r, then s) over SHA-384 of a message verifies under a public key (X, then Y). -/
def ecdsaOk (key msg sig : List Byte) : Bool :=
  let x := beNat (key.take 48)
  let y := beNat ((key.drop 48).take 48)
  let r := beNat (sig.take 48)
  let s := beNat ((sig.drop 48).take 48)
  if p384 ≤ x ∨ p384 ≤ y ∨ y * y % p384 ≠ (x * x * x + (p384 - 3) * x + p384B) % p384 then false
  else if r = 0 ∨ p384Order ≤ r ∨ s = 0 ∨ p384Order ≤ s then false
  else
    let w := invMod p384Order s
    match pointAdd (pointMul 384 (beNat (sha384 msg) * w % p384Order) (some p384Base)) (pointMul 384 (r * w % p384Order) (some (x, y))) with
    | some (z, _) => z % p384Order == r
    | none => false

/-! ## CRCs -/

/-- One bit of CRC-8 with polynomial 07h, msb first (R236). -/
def crc8Bits : Nat → Byte → Byte
  | 0, c => c
  | n + 1, c => crc8Bits n (if c.getLsbD 7 then (c <<< 1) ^^^ 0x07 else c <<< 1)

/-- CRC-8 of R236: start 00h, msb first, not inverted. -/
def crc8 (m : List Byte) : Byte := m.foldl (fun c b => crc8Bits 8 (c ^^^ b)) 0

/-- Eight bits of a reflected CRC-32C. -/
def crc32cBits : Nat → BitVec 32 → BitVec 32
  | 0, c => c
  | n + 1, c => crc32cBits n (if c.getLsbD 0 then (c >>> 1) ^^^ 0x82F63B78 else c >>> 1)

/-- CRC-32C (R414): Castagnoli, reflected, initial value and final XOR all ones. -/
def crc32c (m : List Byte) : BitVec 32 :=
  ~~~(m.foldl (fun c b => crc32cBits 8 (c ^^^ b.setWidth 32)) 0xFFFFFFFF)

end Sys2Proof.Machine
end

