-- ==== Sys2Proof/Machine/JournalFlash.lean ====
section
/-! DEFINITION. The journal flash of a unit: state rows, block map, the commands of R543 and the status word of R544. -/

namespace Sys2Proof.Machine

/-! ## Rows, map and pages -/

/-- The copy in force (R541): the only good one, or the one with the newer SEQ (difference modulo 256 below 128). -/
def JfRow.inForce (r : JfRow) : Option RowCopy :=
  match r.a.good, r.b.good with
  | true, true => if (r.a.seq + 256 - r.b.seq) % 256 < 128 then some r.a else some r.b
  | true, false => some r.a
  | false, true => some r.b
  | false, false => none

/-- The content of a row: a row with no good copy is treated as RETIRED (R541). -/
def JfRow.now (r : JfRow) : RowCopy := r.inForce.getD ⟨0xC3, 0, 0, 0xFFFF, true⟩

/-- STATE as the controller treats it: other values count as RETIRED (R540). -/
def RowCopy.treated (c : RowCopy) : Nat := if [0x5A, 0xA5, 0x0F].contains c.state then c.state else 0xC3

/-- A row written: the copy that does not hold the newer SEQ takes the new content with the next SEQ (R540). -/
def JfRow.write (r : JfRow) (state count logical : Nat) : JfRow :=
  let n := r.now
  let c : RowCopy := ⟨state, (n.seq + 1) % 256, count, logical, true⟩
  let aNewer := match r.a.good, r.b.good with
    | true, true => decide ((r.a.seq + 256 - r.b.seq) % 256 < 128)
    | g, _ => g
  if aNewer then { r with b := c } else { r with a := c }

/-- The bytes of a row copy (R540). -/
def RowCopy.bytes (c : RowCopy) : List Byte :=
  let b := leBytes 1 c.state ++ leBytes 1 c.seq ++ leBytes 4 c.count ++ leBytes 2 c.logical
  b ++ [crc8 b, 0]

/-- The row of a physical block. -/
def JfSt.row (j : JfSt) (k : Nat) : RowCopy := (mapGet jfFactoryRow j.rows k).now

/-- A row of the die written. -/
def JfSt.writeRow (j : JfSt) (k state count logical : Nat) : JfSt :=
  { j with rows := mapPut jfFactoryRow j.rows k ((mapGet jfFactoryRow j.rows k).write state count logical) }

/-- The physical block of a logical block; FFFFh for none. -/
def JfSt.phys (j : JfSt) (l : Nat) : Nat := mapGet id j.map l

/-- The block map entry of a logical block set. -/
def JfSt.setMap (j : JfSt) (l p : Nat) : JfSt := { j with map := mapPut id j.map l p }

/-- A page of a physical block. -/
def JfSt.page (j : JfSt) (k n : Nat) : JfPage := mapGet (fun _ => .blank) j.pages (256 * k + n)

/-- A page of a physical block set. -/
def JfSt.setPage (j : JfSt) (k n : Nat) (g : JfPage) : JfSt :=
  { j with pages := mapPut (fun _ => .blank) j.pages (256 * k + n) g }

/-- All pages of a physical block blank. -/
def JfSt.blankBlock (j : JfSt) (k : Nat) : JfSt := { j with pages := j.pages.filter (fun e => e.1 / 256 ≠ k) }

/-- The lowest-numbered SPARE block (R553): among the rows below 4000 that differ from the factory's, then above. -/
def JfSt.spare (j : JfSt) : Option Nat :=
  ((j.rows.map Prod.fst).filter (· < 4000) ++ (List.range 96).map (· + 4000)).find?
    (fun k => (j.row k).treated == 0x0F)

/-- An active erase, not suspended. -/
def JfSt.erasing (j : JfSt) : Bool := match j.erase with | some e => !e.suspended | none => false

/-- An erase is suspended. -/
def JfSt.suspended (j : JfSt) : Bool := match j.erase with | some e => e.suspended | none => false

/-- A program or an active erase is in progress (R544). -/
def JfSt.busy (j : JfSt) : Bool := j.prog.isSome || j.erasing

/-! ## The ring of the index journal (R307, R503, R542) -/

/-- Pages of the index journal's logical blocks. -/
def journalPages : Nat := 3324 * 256

/-- Whether a journal block, counted from logical block 676, is erased: its erase complete, no page programmed. -/
def JfSt.erased (j : JfSt) (b : Nat) : Bool :=
  let p := j.phys (676 + b)
  (j.row p).treated == 0x5A && !j.incomplete.contains p && !j.pages.any (fun e => e.1 / 256 == p)

/-- Whether the next blocks of the ring from one on are erased, as many as asked for; unmapped blocks are not in the ring. -/
def JfSt.aheadErased (j : JfSt) : Nat → Nat → Nat → Bool
  | _, _, 0 => true
  | 0, _, _ + 1 => false
  | f + 1, b, n + 1 =>
    let next := if b + 1 < 3324 then b + 1 else 0
    if j.phys (676 + b) = 0xFFFF then j.aheadErased f next (n + 1) else j.erased b && j.aheadErased f next n

/-- The erased reserve (R503): four erased blocks ahead of the write point. -/
def JfSt.reserve (j : JfSt) : Bool := j.aheadErased 3324 ((j.wp + 255) / 256 % 3324) 4

/-- Whether a journal page lies in the ring between two points. -/
def ringBetween (first last p : Nat) : Bool :=
  if first ≤ last then decide (first ≤ p) && decide (p < last) else decide (first ≤ p) || decide (p < last)

/-- Whether a journal block holds a page newer than the last root (R551, R554). -/
def JfSt.live (j : JfSt) (l : Nat) : Bool :=
  decide (676 ≤ l) && decide (l < 4000) && (List.range 256).any (fun k => ringBetween j.tail j.wp (256 * (l - 676) + k))

/-- The highest-numbered free block of the index journal, from a block downwards (R554). -/
def JfSt.freeBelow (j : JfSt) : Nat → Option Nat
  | 0 => none
  | n + 1 => if j.phys (676 + n) ≠ 0xFFFF && !j.live (676 + n) then some (676 + n) else j.freeBelow n

/-- A page programmed in the journal: the write point moves past it. -/
def JfSt.advance (j : JfSt) (l page : Nat) : JfSt :=
  if 676 ≤ l ∧ l < 4000 then { j with wp := (256 * (l - 676) + page + 1) % journalPages } else j

/-- The write point past blocks that are not mapped, a number of them at most. -/
def JfSt.skip (j : JfSt) : Nat → JfSt
  | 0 => j
  | n + 1 =>
    if j.wp % 256 = 0 && j.phys (676 + j.wp / 256) = 0xFFFF then ({ j with wp := (j.wp + 256) % journalPages } : JfSt).skip n else j

/-- The page at the write point of the journal programmed. -/
def JfSt.writeNext (j : JfSt) (bytes : List Byte) : JfSt :=
  let j := j.skip 3324
  let l := 676 + j.wp / 256
  (j.setPage (j.phys l) (j.wp % 256) (.data bytes)).advance l (j.wp % 256)

/-! ## Addresses and status words -/

/-- JF_ADDR: BLOCK in bits 27-16, PAGE in bits 15-8 (R543). -/
def jfBlock (addr : BitVec 32) : Nat := (addr.extractLsb' 16 12).toNat
def jfPageNo (addr : BitVec 32) : Nat := (addr.extractLsb' 8 8).toNat

/-- An address the controller refuses: BLOCK above 3999, a reserved bit set, or PAGE bits where there is no page. -/
def jfBadAddr (addr : BitVec 32) (paged : Bool) : Bool :=
  decide (3999 < jfBlock addr) || addr.extractLsb' 28 4 != 0 || addr.extractLsb' 0 8 != 0 ||
  (!paged && jfPageNo addr != 0)

/-- Bits of the status word (R544). -/
def swDone : Nat := 0x1
def swRefusedIface : Nat := 0x2
def swRefusedAddr : Nat := 0x4
def swRefusedState : Nat := 0x8
def swRetired : Nat := 0x10
def swEraseFail : Nat := 0x20
def swProgFail : Nat := 0x40
def swIncomplete : Nat := 0x80
def swNotBlank : Nat := 0x100
def swUncorrectable : Nat := 0x200
def swCorrected : Nat := 0x400
def swDataValid : Nat := 0x800

/-- The status word of a command on a logical block (R544): the state of the block and of the die, the opcode, and the
bits the command adds. A refused address leaves no block addressed. -/
def JfSt.word (j : JfSt) (op : Nat) (l : Option Nat) (bits : Nat) : Nat :=
  let p := match l with | some l => j.phys l | none => 0xFFFF
  let mapped := decide (p ≠ 0xFFFF)
  let st := if mapped then (j.row p).treated else 0
  let act := match j.prog with | some g => decide (g.phys = p) | none => false
  let er := match j.erase with | some e => decide (e.phys = p) && !e.suspended | none => false
  st * 0x1000000 + op * 0x10000 +
  ((if j.busy then 0x8000 else 0) ||| (if act then 0x4000 else 0) ||| (if er then 0x2000 else 0) |||
   (if j.suspended then 0x1000 else 0) ||| (if mapped && j.incomplete.contains p then swIncomplete else 0) |||
   (if l.isSome && !mapped then swRetired else 0) ||| bits)

/-- Whether a command of an interface is refused for its interface (R550). -/
def State.jfIfaceRefused (s : State) (i : JfIface) (op : Nat) : Bool :=
  i == .management &&
  (s.mode.cur == .holdUp || ([2, 3, 9, 10].contains op && s.mode.cur != .maintenance))

/-- Whether the die is powered: VIN12 in window, or HOLD during Hold-up, and its rows scanned. -/
def State.jfUp (s : State) (u : UnitId) : Bool :=
  (s.sup.vin12 || s.mode.cur == .holdUp) && (s.getJf u.code).scanned

/-- The status word and data of a command handed to its interface (R543, R557). -/
def State.jfAnswer (s : State) (u : UnitId) (i : JfIface) (w : Nat) (data : List Byte := []) : State :=
  match i with
  | .firmware => s.modJf u.code (fun j => { j with fwWord := w, fwData := data })
  | .management =>
    let s := s.wr (Obj.JF_STATUS_WORD u) w
    if data.isEmpty then s
    else (s.modJf u.code (fun j => { j with mgmtData := data })).wrBlob (Obj.JF_DATA u) data

/-- The checks every command passes first: address, interface, power. The word of a refusal, or none. -/
def State.jfRefuse (s : State) (u : UnitId) (i : JfIface) (op : Nat) (addr : BitVec 32) (paged : Bool) : Option Nat :=
  let j := s.getJf u.code
  if jfBadAddr addr paged then some (j.word op none (swRefusedAddr ||| swDone))
  else if s.jfIfaceRefused i op then some (j.word op (some (jfBlock addr)) (swRefusedIface ||| swDone))
  else if !s.jfUp u then some (j.word op (some (jfBlock addr)) (swRefusedState ||| swDone))
  else none

/-- A command run behind the checks: its body gives the state, the bits of its word and its data. -/
def State.jfRun (s : State) (u : UnitId) (i : JfIface) (op : Nat) (addr : BitVec 32) (paged : Bool)
    (body : State → State × Nat × List Byte) : State :=
  match s.jfRefuse u i op addr paged with
  | some w => s.jfAnswer u i w
  | none =>
    let (t, bits, data) := body s
    t.jfAnswer u i ((t.getJf u.code).word op (some (jfBlock addr)) bits) data

/-! ## Spares, retirement and shrinking (R553-R555) -/

/-- The index journal's logical blocks (R542). -/
def inJournal (l : Nat) : Bool := decide (676 ≤ l ∧ l ≤ 3999)

/-- The journal can give up no more blocks (R555): JOURNAL_EXHAUSTED with an emergency message whatever EMCY_MIN_CLASS
holds; the object service of the unit holding TOKEN becomes read-only; a standby stops being ready. -/
def State.journalExhausted (s : State) (u : UnitId) : State :=
  let s1 := s.raise (.jf u) [.JF_JOURNAL_EXHAUSTED]
  let s2 := if s.rd (Obj.EMCY_MIN_CLASS 15) ≤ severe && !s.bit (Obj.JF_STATUS u) 9 then s1
    else s1.emergency { index := 0x4200, sub := 0, ty := 2, cls := severe,
                        body := faultBody (Obj.JF_STATUS u) severe 0x200 (s1.rd (Obj.JF_STATUS u)) 0 }
  let s3 := s2.modJf u.code (fun j => { j with exhausted := true })
  if u = s.pair.active then s3
  else { s3 with pair := { s3.pair with peer := if s3.pair.peer = .ready then .stateCopy else s3.pair.peer } }

/-- The index journal gives up a block (R554), or is exhausted when fewer than 64 would remain (R555). -/
def State.journalShrink (s : State) (u : UnitId) : State :=
  if s.rd (Obj.JOURNAL_BLOCKS u) ≤ 64 then s.journalExhausted u
  else (s.wr (Obj.JOURNAL_BLOCKS u) (s.rd (Obj.JOURNAL_BLOCKS u) - 1)).raise (.jf u) [.JF_JOURNAL_SHRUNK]

/-- A physical block retired and the lowest-numbered spare mapped in its place (R553); with no spare the logical block
stays unmapped, and a block of the index journal is dropped from the journal ring (R554). -/
def State.jfRetire (s : State) (u : UnitId) (l : Nat) : State :=
  let j := s.getJf u.code
  let p := j.phys l
  let j1 := { j.writeRow p 0xC3 (j.row p).count 0xFFFF with
              incomplete := j.incomplete.filter (· ≠ p), blocked := j.blocked.filter (· ≠ p) }
  let s := (s.inc (Obj.RETIRED_BLOCKS u)).wr (Obj.INCOMPLETE_BLOCKS u) j1.incomplete.length
  match j1.spare with
  | some q =>
    let s := s.putJf u.code ((j1.writeRow q 0x5A (j1.row q).count l).setMap l q)
    let left := s.rd (Obj.SPARES_LEFT u) - 1
    let s := s.wr (Obj.SPARES_LEFT u) left
    if left = 0 then s.raise (.jf u) [.JF_SPARES_USED_UP] else s
  | none =>
    let s := s.putJf u.code (j1.setMap l 0xFFFF)
    if inJournal l then s.journalShrink u else s

/-! ## Commands (R543-R549) -/

/-- READ_PAGE (R546): data unless the die is busy, the block is suspended or erase-incomplete, or correction fails. -/
def State.readPage (s : State) (u : UnitId) (i : JfIface) (addr : BitVec 32) (errs : Nat) : State :=
  s.jfRun u i 1 addr true fun s =>
    let j := s.getJf u.code
    let p := j.phys (jfBlock addr)
    let held := match j.erase with | some e => decide (e.phys = p) | none => false
    if j.busy || decide (p = 0xFFFF) || held || j.incomplete.contains p then (s, swDone, [])
    else
      match j.page p (jfPageNo addr) with
      | .blank => (s, swDataValid ||| swDone, List.replicate 256 0xFF)
      | g =>
        if 8 < errs then
          ((s.inc (Obj.UNCORRECTABLE_PAGES u)).raise (.jf u) [.JF_UNCORRECTABLE], swUncorrectable ||| swDone, [])
        else
          let (n, s1) := s.next
          let (bytes, s2) := match g with
            | .data b => (b, s)
            | _ => ((List.range 256).map (fun k => Config.freeByte n k), s1)
          if errs = 0 then (s2, swDataValid ||| swDone, bytes)
          else ((s2.inc (Obj.CORRECTED_PAGES u)).raise (.jf u) [.JF_CORRECTED],
                swDataValid ||| swCorrected ||| swDone, bytes)

/-- PROGRAM_PAGE: the checks of R547 in order, then the program starts. -/
def State.programPage (s : State) (u : UnitId) (i : JfIface) (addr : BitVec 32) (data : List Byte) : State :=
  s.jfRun u i 2 addr true fun s =>
    let j := s.getJf u.code
    let p := j.phys (jfBlock addr)
    let held := match j.erase with | some e => decide (e.phys = p) | none => false
    if p = 0xFFFF then (s, swRetired ||| swDone, [])
    else if j.busy || held then (s, swRefusedState ||| swDone, [])
    else if j.incomplete.contains p then (s, swIncomplete ||| swRefusedState ||| swDone, [])
    else if j.blocked.contains p then (s, swRefusedState ||| swDone, [])
    else if j.page p (jfPageNo addr) ≠ .blank then
      ((s.inc (Obj.NOT_BLANK_COUNT u)).raise (.jf u) [.JF_NOT_BLANK], swNotBlank ||| swDone, [])
    else
      (s.modJf u.code (fun j => { j with prog := some ⟨p, jfPageNo addr, (data ++ List.replicate 256 0xFF).take 256, i⟩ }), 0, [])

/-- The program in progress ends (R547): with more than 2 bit errors read back the page is undefined and the block takes
no further program; the write point of the journal then leaves it. -/
def State.programComplete (s : State) (u : UnitId) (errs : Nat) : State :=
  let j := s.getJf u.code
  match j.prog with
  | none => s
  | some g =>
    let l := (j.row g.phys).logical
    let j := if g.iface = .firmware then j.advance l (if errs ≤ 2 then g.page else 255) else j
    if errs ≤ 2 then
      let s := s.putJf u.code { j.setPage g.phys g.page (.data g.bytes) with prog := none }
      s.jfAnswer u g.iface ((s.getJf u.code).word 2 (some l) swDone)
    else
      let s := s.putJf u.code { j.setPage g.phys g.page .undefined with prog := none, blocked := g.phys :: j.blocked }
      let s := (s.inc (Obj.PROG_FAILS u)).raise (.jf u) [.JF_PROG_FAIL]
      s.jfAnswer u g.iface ((s.getJf u.code).word 2 (some l) (swProgFail ||| swDone))

/-- ERASE_BLOCK, step 1 (R548): the row is written ERASING with its count raised before any pulse starts. Firmware erases no block of
the journal that holds anything live (R551). WEAR_LIMIT is set and no erase is refused (R556). -/
def State.eraseBlock (s : State) (u : UnitId) (i : JfIface) (addr : BitVec 32) : State :=
  s.jfRun u i 3 addr false fun s =>
    let j := s.getJf u.code
    let p := j.phys (jfBlock addr)
    if p = 0xFFFF then (s, swRetired ||| swDone, [])
    else if j.busy || j.suspended then (s, swRefusedState ||| swDone, [])
    else if i = .firmware && j.live (jfBlock addr) then (s, swDone, [])
    else
      let n := min ((j.row p).count + 1) 0xFFFFFFFF
      let s := s.putJf u.code { j.writeRow p 0xA5 n (jfBlock addr) with
        erase := some { logical := jfBlock addr, phys := p, iface := i, since := s.now } }
      let s := if s.rd (Obj.ERASE_COUNT_MAX u) < n then s.wr (Obj.ERASE_COUNT_MAX u) n else s
      let s := if n = 100000000 then s.raise (.jf u) [.JF_WEAR_LIMIT] else s
      (s, 0, [])

/-- The erase in progress ends (R548): verified, its block is blank and ERASE_DONE; failed, the block is retired and a
spare takes its place. -/
def State.eraseComplete (s : State) (u : UnitId) (verified : Bool) : State :=
  let j := s.getJf u.code
  match j.erase with
  | none => s
  | some e =>
    if e.suspended then s
    else if verified then
      let j1 := (j.writeRow e.phys 0x5A (j.row e.phys).count e.logical).blankBlock e.phys
      let s1 := s.putJf u.code
        { j1 with erase := none, incomplete := j.incomplete.filter (· ≠ e.phys)
                  blocked := j.blocked.filter (· ≠ e.phys) }
      let s2 := s1.wr (Obj.INCOMPLETE_BLOCKS u) (s1.getJf u.code).incomplete.length
      s2.jfAnswer u e.iface ((s2.getJf u.code).word 3 (some e.logical) swDone)
    else
      let s1 := s.putJf u.code { j.blankBlock e.phys with erase := none }
      let s2 := ((s1.inc (Obj.ERASE_FAILS u)).raise (.jf u) [.JF_ERASE_FAIL]).jfRetire u e.logical
      let s3 := s2.wr (Obj.INCOMPLETE_BLOCKS u) (s2.getJf u.code).incomplete.length
      s3.jfAnswer u e.iface ((s3.getJf u.code).word 3 (some e.logical) (swRetired ||| swEraseFail ||| swDone))

/-- An active erase halted (R549), or asked to halt once its pulses have run for 500 µs. -/
def State.suspendErase (s : State) (u : UnitId) (i : JfIface) : State :=
  match (s.getJf u.code).erase with
  | some e =>
    if e.suspended then s
    else if s.now < e.since + 500 then s.modJf u.code (fun j => { j with erase := some { e with asked := some i } })
    else (s.modJf u.code (fun j => { j with erase := some { e with suspended := true, asked := none } })).inc (Obj.SUSPENDS u)
  | none => s

/-- A suspension that waited for the 500 µs of pulses takes effect as time passes. -/
def State.suspendTick (s : State) (u : UnitId) : State :=
  match (s.getJf u.code).erase with
  | some e =>
    match e.asked with
    | some i =>
      if s.now < e.since + 500 then s
      else
        let s := s.suspendErase u i
        s.jfAnswer u i ((s.getJf u.code).word 4 (some e.logical) swDone)
    | none => s
  | none => s

/-- ERASE_SUSPEND (R549, R550): halts an active erase of the same interface. -/
def State.eraseSuspend (s : State) (u : UnitId) (i : JfIface) (addr : BitVec 32) : State :=
  s.jfRun u i 4 addr false fun s =>
    match (s.getJf u.code).erase with
    | some e =>
      if e.suspended then (s, swRefusedState ||| swDone, [])
      else if e.iface ≠ i then (s, swRefusedIface ||| swDone, [])
      else
        let s := s.suspendErase u i
        (s, if (s.getJf u.code).suspended then swDone else 0, [])
    | none => (s, swRefusedState ||| swDone, [])

/-- ERASE_RESUME (R549, R550): continues the suspended erase of the same interface while no program runs. -/
def State.eraseResume (s : State) (u : UnitId) (i : JfIface) (addr : BitVec 32) : State :=
  s.jfRun u i 5 addr false fun s =>
    let j := s.getJf u.code
    match j.erase with
    | some e =>
      if !e.suspended || j.prog.isSome then (s, swRefusedState ||| swDone, [])
      else if e.iface ≠ i then (s, swRefusedIface ||| swDone, [])
      else (s.modJf u.code (fun j => { j with erase := some { e with suspended := false, since := s.now } }), swDone, [])
    | none => (s, swRefusedState ||| swDone, [])

/-- BLANK_CHECK (R543): NOT_BLANK when any bit of the page is 0; changes nothing. What a page of a block whose erase has not completed
shows is a free value. -/
def State.blankCheck (s : State) (u : UnitId) (i : JfIface) (addr : BitVec 32) : State :=
  s.jfRun u i 7 addr true fun s =>
    let j := s.getJf u.code
    let p := j.phys (jfBlock addr)
    if j.busy then (s, swRefusedState ||| swDone, [])
    else if p = 0xFFFF then (s, swRetired ||| swDone, [])
    else if j.page p (jfPageNo addr) = .blank then (s, swDone, [])
    else if j.incomplete.contains p || (match j.erase with | some e => decide (e.phys = p) | none => false) then
      let (n, s) := s.next
      (s, (if Config.halfErased n then 0 else swNotBlank) ||| swDone, [])
    else (s, swNotBlank ||| swDone, [])

/-- READ_STATE_ROW (R543): the chosen copy of the row of the physical block mapped to BLOCK. -/
def State.readStateRow (s : State) (u : UnitId) (i : JfIface) (addr : BitVec 32) : State :=
  s.jfRun u i 8 addr false fun s =>
    let j := s.getJf u.code
    let p := j.phys (jfBlock addr)
    if p = 0xFFFF then (s, swDone, []) else (s, swDone, (j.row p).bytes)

/-- RETIRE_BLOCK (R553). -/
def State.retireBlock (s : State) (u : UnitId) (i : JfIface) (addr : BitVec 32) : State :=
  s.jfRun u i 9 addr true fun s =>
    let j := s.getJf u.code
    let p := j.phys (jfBlock addr)
    let held := match j.erase with | some e => decide (e.phys = p) | none => false
    if j.busy || held then (s, swRefusedState ||| swDone, [])
    else if p = 0xFFFF then (s, swRetired ||| swDone, [])
    else (s.jfRetire u (jfBlock addr), swRetired ||| swDone, [])

/-- The content of a firmware slot whose block has been replaced: that of the other unit's slot over the mirror link, else no valid
image (R554). -/
def State.slotRestore (s : State) (u : UnitId) (l : Nat) : State :=
  if l < 36 ∨ 547 < l then s
  else
    let n := if l < 292 then 1 else 2
    let img := if s.peerReady then mapGet Config.factoryImage (s.getFw u.other.code).slots n else []
    s.modFw u.code (fun f => { f with slots := mapIns (mapDel f.slots n) n img })

/-- MOVE_MAP (R554): the source's physical block takes the unmapped destination's number; firmware takes the highest-numbered free
block of the index journal. A block taken from the index journal shrinks it; where that would leave fewer than 64 blocks nothing
moves (R555). -/
def State.moveMap (s : State) (u : UnitId) (i : JfIface) (addr : BitVec 32) (src : BitVec 16) : State :=
  s.jfRun u i 10 addr true fun s =>
    let j := s.getJf u.code
    let p := j.phys src.toNat
    let held := match j.erase with | some e => decide (e.phys = p) | none => false
    if j.busy || held || decide (j.phys (jfBlock addr) ≠ 0xFFFF) || decide (p = 0xFFFF) || decide (3999 < src.toNat) then
      (s, swRefusedState ||| swDone, [])
    else if inJournal src.toNat && s.rd (Obj.JOURNAL_BLOCKS u) ≤ 64 then
      (s.journalExhausted u, swRefusedState ||| swDone, [])
    else if i = .firmware && j.freeBelow 3324 ≠ some src.toNat then (s, swDone, [])
    else
      let s := s.putJf u.code
        (((j.writeRow p (j.row p).state (j.row p).count (jfBlock addr)).setMap (jfBlock addr) p).setMap src.toNat 0xFFFF)
      let s := s.slotRestore u (jfBlock addr)
      (if inJournal src.toNat then s.journalShrink u else s, swDone, [])

/-! ## Scan and reset (R541, R549, R551) -/

/-- An erase in progress suspended for a commit, whichever interface issued it (R502, R549). -/
def State.jfSuspend (s : State) (u : UnitId) : State := s.suspendErase u .firmware

/-- The die loses power or is reset: what runs is cut (R551, R552). A page being programmed keeps a content that may
read anything. -/
def State.jfPowerLoss (s : State) (u : UnitId) : State :=
  s.modJf u.code (fun j =>
    let j := match j.prog with
      | some g => { (j.advance (j.row g.phys).logical g.page).setPage g.phys g.page .undefined with prog := none }
      | none => j
    { j with erase := none, scanned := false })

/-- The scan of R541: copies found bad, rows with no good copy rewritten RETIRED, the block map and counts built, blocks
found ERASING taken as erase-incomplete. -/
def State.jfScan (s : State) (u : UnitId) (bad : List (Nat × Bool × Bool)) : State :=
  let j := s.getJf u.code
  let j := bad.foldl (fun j x =>
    let r := mapGet jfFactoryRow j.rows x.1
    let r := { a := { r.a with good := r.a.good && !x.2.1 }, b := { r.b with good := r.b.good && !x.2.2 } }
    { j with rows := mapPut jfFactoryRow j.rows x.1 r }) { j with erase := none }
  let ks := j.rows.map Prod.fst
  let lost := ks.filter (fun k => (mapGet jfFactoryRow j.rows k).inForce.isNone)
  let j := lost.foldl (fun j k => j.writeRow k 0xC3 0 0xFFFF) j
  let holds := fun l k => (j.row k).logical == l && ((j.row k).treated == 0x5A || (j.row k).treated == 0xA5)
  let owner := fun l => if l < 4000 && holds l l then l else (ks.find? (holds l)).getD 0xFFFF
  let touched := (ks ++ ks.map (fun k => (j.row k).logical)).filter (· < 4000)
  let inc := ks.filter (fun k => (j.row k).treated == 0xA5)
  let spare := fun k => (j.row k).treated == 0x0F
  let spares := (ks.filter (fun k => decide (k < 4000) && spare k)).length +
    ((List.range 96).filter (fun k => spare (k + 4000))).length
  let j := { j with
    map := touched.foldl (fun m l => mapPut id m l (owner l)) [], incomplete := inc, scanned := true }
  let s := (s.putJf u.code j).wr (Obj.SPARES_LEFT u) spares
  let s := s.wr (Obj.RETIRED_BLOCKS u) (ks.filter (fun k => (j.row k).treated == 0xC3)).length
  let s := s.wr (Obj.INCOMPLETE_BLOCKS u) inc.length
  let s := s.wr (Obj.ERASE_COUNT_MAX u) (ks.foldl (fun m k => max m (j.row k).count) 0)
  let s := s.wr (Obj.JOURNAL_BLOCKS u) (max 64 (3324 - (j.map.filter (fun e => inJournal e.1 && e.2 == 0xFFFF)).length))
  let s := if j.exhausted then s.setBit (Obj.JF_STATUS u) Flag.JF_JOURNAL_EXHAUSTED.bit true else s
  if inc.isEmpty then s else s.raise (.jf u) [.JF_ERASE_INCOMPLETE]

/-- JF_STATE (R557): unpowered, scanning, idle, busy, erase suspended. -/
def State.jfState (s : State) (u : UnitId) : Nat :=
  let j := s.getJf u.code
  if !(s.sup.vin12 || s.mode.cur == .holdUp) then 0
  else if !j.scanned then 1 else if j.busy then 3 else if j.suspended then 4 else 2

end Sys2Proof.Machine
end

