-- ==== Sys2Proof/Machine/Recorder.lean ====
section
/-! DEFINITION. The event recorder and the clearing of status bits: clearing writes, emergency messages, page
programming, reading and the authorised clear (R526, R533-R537, R578). -/

namespace Sys2Proof.Machine

/-- The interface code of a requester in records (R531). -/
def ifaceCode : Requester → Nat
  | .kdap _ => 1
  | .inband _ => 2
  | .monitor => 3
  | .firmware => 4

/-! ## Clearing status bits (R526, R527) -/

/-- A Grave bit whose cause is not gone (R527): a bit of unit scope until its unit has been released and has rejoined,
INDEX_UNAVAILABLE while the index is unavailable, NO_HEALTHY_UNIT while no unit has passed its self-test; any Grave bit of
a block kind that holds the latch, so that one that latches is not cleared (R528). -/
def State.graveHeld (s : State) (x : Site) (bit : Nat) : Bool :=
  bitClass x.kind bit == grave &&
  (s.rd (Obj.LATCHED x.kind) == 1 ||
   match x with
   | .cache u | .pwr u => (match u with | .A => s.pair.unitA.tripped | .B => s.pair.unitB.tripped)
   | .os => s.rd Obj.OS_STATE == 5
   | .pair => !(s.pair.unitA.selfTest || s.pair.unitB.selfTest)
   | _ => false)

/-- The bits a clearing write may clear: set, asked for, following no condition that holds, and not held (R526). -/
def State.clearable (s : State) (x : Site) (ones : Nat) : Nat :=
  (List.range 16).foldl (fun m b =>
    if (s.rd x.key).testBit b && ones.testBit b && !(conditionBits x.kind).contains b && !s.graveHeld x b &&
       !(x.kind == 4 && b == 0 && s.rd (Obj.LATCHED 4) == 1)
    then m + 2 ^ b else m) 0

/-- A clearing write (R526): the bits cleared, and the record of a write that clears at least one. -/
def State.clearStatus (s : State) (q : Requester) (x : Site) (ones : Nat) : State :=
  let c := s.clearable x ones
  if c = 0 then s
  else
    let s := s.wr x.key (s.rd x.key - c)
    s.log { ty := 3, unit := x.unit.getD s.reporter,
            body := leBytes 2 (keyIndex x.key) ++ leBytes 1 (keySub x.key) ++ leBytes 2 c ++ leBytes 1 (ifaceCode q) }

/-- STATUS_CLEAR (R526). A subindex that is no status object is an ordinary write and is left to REGISTER_WRITE. -/
def execStatusClear (q : Requester) (u : UnitId) (index : Nat) (sub : Nat) (ones : BitVec 16) (s : State) :
    Host.Outcome State Fault Refusal :=
  .next (match siteAt u index sub with
    | some x => s.tryWrite q u index sub (leBytes 2 ones.toNat) 0 (fun s => s.clearStatus q x ones.toNat)
    | none => s)

/-! ## Emergency messages (R578) -/

/-- PLCA is active on a unit's network port (R570): PLCA_ENABLE is 1 and beacons arrive. -/
def State.plcaActive (s : State) (u : UnitId) : Bool := s.rd Obj.PLCA_ENABLE == 1 && (s.getDict u.code).beacon

/-- Messages a transmit opportunity carries: one, and the burst frames while PLCA is active (R578). -/
def State.burst (s : State) : Nat := if s.plcaActive s.reporter then 1 + s.rd Obj.PLCA_BURST_COUNT else 1

/-- One queued message sent: it leaves the queue and is counted (R578). -/
def State.sendEmergency (s : State) : State :=
  match s.emcy with
  | [] => s
  | m :: rest =>
    let f : KdapOut := { unit := s.reporter, dest := s.rd Obj.EMCY_DEST_MAC, service := 0x10, index := m.index,
                         sub := m.sub, param := m.ty + 0x10000 * m.cls, data := m.body }
    (({ s with emcy := rest, kdapTx := f :: s.kdapTx }).inc Obj.EMCY_SEQ).inc (Obj.KDAP_TX s.reporter)

/-- EMERGENCY: a transmit opportunity of the unit holding TOKEN. -/
def execEmergency (s : State) : Host.Outcome State Fault Refusal :=
  .next ((List.range s.burst).foldl (fun s _ => s.sendEmergency) s)

/-! ## The ring (R533) -/

/-- Whether the write point is about to enter a ring block that holds records (R533). -/
def ErSt.wraps (e : ErSt) : Bool :=
  e.wp % 256 == 0 && e.ring.any (fun g => g.1 / 256 == e.wp / 256)

/-- The records of a ring block dropped; the oldest record is then the first one left (R533). -/
def ErSt.dropBlock (e : ErSt) (b : Nat) : ErSt :=
  let gone := (e.ring.filter (fun g => g.1 / 256 == b)).flatMap (fun g => g.2.map Prod.fst)
  { e with
    ring := e.ring.filter (fun g => g.1 / 256 ≠ b)
    oldest := gone.foldl (fun m n => max m (n + 1)) e.oldest }

/-- The oldest page due put in the ring at the write point. -/
def ErSt.programPage (e : ErSt) : ErSt × List (Nat × Rec) :=
  match e.due with
  | [] => (e, [])
  | (n0, cnt) :: rest =>
    let recs := e.retained.filter (fun x => n0 ≤ x.1 && x.1 < n0 + cnt)
    ({ e with due := rest, programmed := n0 + cnt, ring := e.ring ++ [(e.wp, recs)], wp := (e.wp + 1) % 32768 }, recs)

/-- Whether pages may be programmed: journal flash powered and the time base set (R533, R566). -/
def State.canProgram (s : State) (u : UnitId) : Bool := s.jfUp u && s.rd (Obj.TIME_BASE_STATE u) == 1

/-- A block of the ring erased at once (R533, R548): nothing is left of it. -/
def JfSt.eraseRing (j : JfSt) (l : Nat) : JfSt :=
  let p := j.phys l
  if p = 0xFFFF then j
  else
    let n := min ((j.row p).count + 1) 0xFFFFFFFF
    let j := ((j.writeRow p 0xA5 n l).writeRow p 0x5A n l).blankBlock p
    { j with incomplete := j.incomplete.filter (· ≠ p), blocked := j.blocked.filter (· ≠ p) }

/-- Whether a block shows anything of an earlier use: a page, or an erase that has not completed. -/
def JfSt.stale (j : JfSt) (l : Nat) : Bool :=
  let p := j.phys l
  j.incomplete.contains p || j.pages.any (fun e => e.1 / 256 == p)

/-- A block of a ring erased, with what the unit counts of its erases. -/
def State.ringErase (s : State) (u : UnitId) (l : Nat) : State :=
  let s := s.modJf u.code (fun j => j.eraseRing l)
  let j := s.getJf u.code
  (s.wr (Obj.ERASE_COUNT_MAX u) (max (s.rd (Obj.ERASE_COUNT_MAX u)) (j.row (j.phys l)).count)).wr (Obj.INCOMPLETE_BLOCKS u) j.incomplete.length

/-- A page of the recorder programmed into the ring of its unit (R533): the page due first, or the page being filled once its second has
passed, or at once in a commit. It waits while the die is busy. The journal flash refuses it by the checks of R547; a page that
fails its verify leaves its block, and its records go to the next one. -/
def State.erProgram (s : State) (u : UnitId) (now : Bool) (errs : Nat) : State :=
  let e := s.getEr u.code
  let e := if e.due.isEmpty && (now || decide (e.pageTime + 1000000 ≤ s.now)) then e.closePage else e
  if !s.canProgram u || (s.getJf u.code).busy || e.due.isEmpty then s
  else
    let l := 548 + e.wp / 256
    let wraps := e.wraps
    let s := if e.wp % 256 = 0 && (s.getJf u.code).stale l then s.ringErase u l else s
    let j := s.getJf u.code
    let p := j.phys l
    let held := match j.erase with | some x => decide (x.phys = p) | none => false
    let e := if wraps then e.dropBlock (e.wp / 256) else e
    if p = 0xFFFF || held || j.incomplete.contains p || j.blocked.contains p || j.page p (e.wp % 256) ≠ .blank then
      (s.putEr u.code e).raise (.er u) [.ER_WRITE_FAIL]
    else
      let s := if 2 < errs then
          let s := (s.putJf u.code { j.setPage p (e.wp % 256) .undefined with blocked := p :: j.blocked }).putEr u.code
            { e with wp := (e.wp / 256 + 1) * 256 % 32768 }
          (s.inc (Obj.PROG_FAILS u)).raise (.jf u) [.JF_PROG_FAIL]
        else
          let (e', recs) := e.programPage
          let bytes := recs.flatMap (fun x => x.2.bytes)
          (s.putJf u.code (j.setPage p (e.wp % 256) (.data (bytes ++ List.replicate (256 - bytes.length) 0xFF)))).putEr u.code e'
      if wraps then s.raise (.er u) [.ER_WRAPPED] else s

def execEventPageProgram (u : UnitId) (errs : Nat) (s : State) : Host.Outcome State Fault Refusal :=
  .next (s.erProgram u false errs)

/-! ## Reading (R534) -/

/-- The record with a number, and whether it is in the retained buffer. -/
def ErSt.find (e : ErSt) (n : Nat) : Option (Rec × Bool) :=
  match e.retained.find? (fun x => x.1 == n) with
  | some x => some (x.2, true)
  | none => ((e.ring.flatMap Prod.snd).find? (fun x => x.1 == n)).map (fun x => (x.2, false))

/-- A read of ER_RECORD (R534). -/
def State.erRead (s : State) (q : Requester) (u : UnitId) : State :=
  s.hold (.erRecord q u) fun s =>
  let err := s.readErr 0x5200 5 q
  if err ≠ 0 then s.answer q err
  else
    let e := s.getEr u.code
    let n := s.rd (Obj.ER_READ_SEQ u)
    let ends (s : State) (r : Nat) (data : List Byte) : State :=
      (s.modEr u.code (fun e => { e with readResult := r })).answer q 0 data
    if e.next ≤ n then ends s 3 []
    else
      match (if n < e.oldest then none else e.find n) with
      | none => ends (s.wr (Obj.ER_READ_SEQ u) e.oldest) 1 []
      | some (r, retained) =>
        if !retained && !s.sup.vin12 then ends s 2 []
        else ends (s.wr (Obj.ER_READ_SEQ u) (n + 1)) 0 r.bytes

def execErRecordRead (q : Requester) (u : UnitId) (s : State) : Host.Outcome State Fault Refusal :=
  .next (s.erRead q u)

/-! ## The authorised clear (R536, R537) -/

/-- 16 fresh random bytes: a free value. -/
def State.random16 (s : State) : List Byte × State :=
  let (n, s) := s.next
  (leBytes 16 (Config.challenge n).toNat, s)

/-- A challenge of R536 still valid: held and issued at most 60 s ago. -/
def ErSt.challengeOf (e : ErSt) (q : Requester) (now : Nat) : Option (List Byte) :=
  (e.challenges.find? (fun c => c.1 == q && decide (now ≤ c.2.2 + 60000000))).map (fun c => c.2.1)

/-- The challenges without those of a requester. -/
def ErSt.forget (e : ErSt) (q : Requester) : ErSt := { e with challenges := e.challenges.filter (fun c => c.1 != q) }

/-- A read of ER_CHALLENGE (R536): a fresh challenge for the requester; a ninth requester gets 0Ah. -/
def State.erChallenge (s : State) (q : Requester) (u : UnitId) : State :=
  s.hold (.erChallenge q u) fun s =>
  let err := s.readErr 0x5210 0 q
  if err ≠ 0 then s.answer q err
  else if 8 ≤ (((s.getEr u.code).forget q).challenges.filter (fun c => decide (s.now ≤ c.2.2 + 60000000))).length then s.answer q 0x0A
  else
    let (c, s) := s.random16
    (s.modEr u.code (fun e => { e.forget q with challenges := (q, c, s.now) :: (e.forget q).challenges })).answer q 0 c

def execErChallengeRead (q : Requester) (u : UnitId) (s : State) : Host.Outcome State Fault Refusal :=
  .next (s.erChallenge q u)

/-- The response that clears the recorder (R536): over the challenge, ER_NEWEST and 5Ah. -/
def erResponse (key challenge : List Byte) (newest : Nat) : List Byte :=
  (hmac256 key (challenge ++ leBytes 8 newest ++ [0x5A])).take 16

/-- ER_NEWEST (R538): 0 while no record has been made. -/
def ErSt.newest (e : ErSt) : Nat := e.next - 1

/-- A refused clear: its result, the record of type 0009h, AUTH_FAIL for a wrong response, the challenge invalidated. -/
def State.erRefuse (s : State) (q : Requester) (u : UnitId) (result : Nat) (challenge : List Byte) : State :=
  let s := s.modEr u.code (fun e => { e.forget q with clearResult := result })
  let s := s.log { ty := 9, unit := u, body := leBytes 1 (ifaceCode q) ++ leBytes 1 result ++ challenge }
  if result = 2 then s.raise (.er u) [.ER_AUTH_FAIL] else s

/-- Both units' rings and retained buffers erased; numbering continues (R537). Blocks of a die without power are erased when the write point
comes to them. -/
def State.erErase (s : State) : State :=
  s.forEach [UnitId.A, UnitId.B] (fun s u =>
    let s := if s.jfUp u then
        s.forEach ((List.range 128).filter (fun b => (s.getJf u.code).stale (548 + b))) (fun s b => s.ringErase u (548 + b))
      else s
    s.modEr u.code (fun e =>
      { e with oldest := e.next, retained := [], ring := [], due := [], pageFill := 0, programmed := e.next, wp := 0 }))

/-- A write of ER_CLEAR_RESPONSE of the right length (R537). -/
def State.erClear (s : State) (q : Requester) (u : UnitId) (data : List Byte) : State :=
  let e := s.getEr u.code
  let held := e.challengeOf q s.now
  let (n, s0) := s.next
  let noChallenge := leBytes 16 (Config.challenge n).toNat
  if s.mode.cur = .holdUp then
    (if held.isSome then s else s0).erRefuse q u 4 (held.getD noChallenge)
  else
    match (s.getFuse u.code).erKey, held with
    | none, _ => (if held.isSome then s else s0).erRefuse q u 5 (held.getD noChallenge)
    | some _, none => s0.erRefuse q u 3 noChallenge
    | some key, some c =>
      if data = erResponse key c e.newest then
        let s := s.erErase
        let s := s.modEr u.code (fun e => { e.forget q with clearResult := 1 })
        let body := leBytes 8 e.oldest ++ leBytes 8 e.newest ++ leBytes 1 (ifaceCode q) ++ c
        let s := s.log { ty := 8, unit := u, body := body }
        let s := (s.raise (.er u) [.ER_CLEARED]).incSave (Obj.ER_CLEARS u)
        s.emergency { index := 0, sub := 0, ty := 8, cls := 0, body := body }
      else s.erRefuse q u 2 c

def execErClearResponseWrite (q : Requester) (u : UnitId) (data : List Byte) (s : State) :
    Host.Outcome State Fault Refusal :=
  .next (s.tryWrite q u 0x5210 1 data 0 (fun s => s.erClear q u data))

/-- ER_CHALLENGE_EXPIRY: a challenge held 60 s becomes invalid (R536). -/
def execErChallengeExpiry (q : Requester) (u : UnitId) (s : State) : Host.Outcome State Fault Refusal :=
  .next (s.modEr u.code (fun e =>
    { e with challenges := e.challenges.filter (fun c => c.1 != q || decide (s.now < c.2.2 + 60000000)) }))

end Sys2Proof.Machine
end

