-- ==== Sys2Proof/Machine/Buffer.lean ====
section
/-! DEFINITION. Buffer memory of a unit (R358-R381): the inline code, the error log, remap, merge buffer, scrubber and flip
mask. -/

namespace Sys2Proof.Machine

/-! ## GF(2^8) with polynomial 11Dh (R290, R365) -/

/-- A field element times x. -/
def gfDouble (a : Byte) : Byte := if a.getLsbD 7 then (a <<< 1) ^^^ 0x1D else a <<< 1

/-- The product of two field elements, over the low n bits of the second. -/
def gfMulBits : Nat → Byte → Byte → Byte
  | 0, _, _ => 0
  | n + 1, a, b => (if b.getLsbD 0 then a else 0) ^^^ gfMulBits n (gfDouble a) (b >>> 1)

/-- The product of two field elements. -/
def gfMul (a b : Byte) : Byte := gfMulBits 8 a b

/-- A field element to a power. -/
def gfPow (a : Byte) : Nat → Byte
  | 0 => 1
  | n + 1 => gfMul a (gfPow a n)

/-- The inverse of a field element (0 for 0). -/
def gfInv (a : Byte) : Byte := gfPow a 254

/-! ## Layout (R358, R359) -/

/-- Bytes of the buffer, and its code groups. -/
def bufLimit : Nat := 5726273536
def bufGroups : Nat := 11184128

/-- The entry of the remap table that redirects a group. -/
def BufSt.redirect (b : BufSt) (g : Nat) : Option Nat :=
  (b.remap.find? (fun e => e.2.valid && e.2.group == g)).map Prod.fst

/-- Where a group lies on the devices: itself, or its spare (R371). -/
def BufSt.loc (b : BufSt) (g : Nat) : Nat :=
  match b.redirect g with | some n => bufGroups + n | none => g

/-- n consecutive bytes of a sparse byte store. -/
def cellsRead (m : List Host.Cell) (a : Nat) : Nat → List Byte
  | 0 => []
  | n + 1 => mapGet (fun _ => 0) m a :: cellsRead m (a + 1) n

/-- Consecutive bytes of a sparse byte store written. -/
def cellsWrite (m : List Host.Cell) (a : Nat) : List Byte → List Host.Cell
  | [] => m
  | v :: t => cellsWrite (mapPut (fun _ => 0) m a v) (a + 1) t

/-! ## The inline code (R365-R368) -/

/-- The check-byte mask of a poisoned word, byte 64 first (R368). -/
def poisonMask : List Byte := [0x5A, 0x3C, 0x96, 0xF0, 0x0F, 0x69, 0xC3, 0xA5]

/-- The eight check bytes of a data word (R365): the remainder of the data polynomial times x^8 by g(x). -/
def rsCheck (data : List Byte) : List Byte :=
  data.foldl (fun rem d =>
    let f := d ^^^ rem.getD 0 0
    List.zipWith (fun r g => r ^^^ gfMul f g) (rem.drop 1 ++ [0]) rsGen) (List.replicate 8 0)
where
  /-- Coefficients of x^7 to x^0 of g(x). -/
  rsGen : List Byte :=
    ((List.range 8).foldl (fun p i =>
      List.zipWith (· ^^^ ·) (p ++ [0]) (0 :: p.map (gfMul (gfPow 2 i)))) [1]).drop 1

/-- An error pattern of one word, 72 bytes: its nonzero positions with their masks. -/
def patternOf (bytes : List Byte) : List (Nat × Byte) :=
  (bytes.zipIdx.filter (fun x => x.1 ≠ 0)).map (fun x => (x.2, x.1))

/-- The syndrome of an error pattern: its value at α^0 to α^7, byte i being the coefficient of x^(71-i) (R365). -/
def syndrome (p : List (Nat × Byte)) : List Byte :=
  (List.range 8).map (fun j => p.foldl (fun a x => a ^^^ gfMul x.2 (gfPow 2 (j * (71 - x.1) % 255))) 0)

/-- The pattern of the poison mask. -/
def poisonPattern : List (Nat × Byte) := poisonMask.zipIdx.map (fun x => (64 + x.2, x.1))

/-- What the decoder reports of a word (R367). -/
inductive WordKind where
  | clean
  | corrected (positions : List Nat)
  | uncorrectable
  | poisoned
  deriving DecidableEq, Repr

/-- The decoder on the error pattern of a word: what it reports, and the pattern left in the data it returns (R366,
R368). At most four bytes changed are corrected; the syndrome of the poison mask is a poisoned word; a pattern with zero
syndrome is not seen; another is uncorrectable unless the decoder miscorrects it. -/
def decodeWord (p : List (Nat × Byte)) : WordKind × List (Nat × Byte) :=
  if p.isEmpty then (.clean, [])
  else if p.length ≤ 4 then (.corrected (p.map Prod.fst), [])
  else
    let y := syndrome p
    if y = syndrome poisonPattern then (.poisoned, p)
    else if y.all (· == 0) then (.clean, p)
    else
      match Config.miscorrection p with
      | some c => (.corrected (c.map Prod.fst), p ++ c)
      | none => (.uncorrectable, p)

/-- Bytes with masks applied at positions. -/
def applyMasks (bytes : List Byte) (p : List (Nat × Byte)) : List Byte :=
  bytes.zipIdx.map (fun x => p.foldl (fun v e => if e.1 = x.2 then v ^^^ e.2 else v) x.1)

/-! ## Flip mask (R380) -/

/-- The corruption FLIP_MODE arms: by bytes, or a burst of code-word bits. -/
def State.flipPattern (s : State) (u : UnitId) (mode : Nat) : List (Nat × Byte) :=
  if mode = 1 ∨ mode = 3 then
    let b := leBytes 8 (s.rd (Obj.FLIP_BYTES u))
    (List.range 4).filterMap (fun j =>
      let pos := (b.getD (2 * j) 0).toNat
      let m := b.getD (2 * j + 1) 0
      if pos ≤ 71 ∧ m ≠ 0 then some (pos, m) else none)
  else
    let a := s.rd (Obj.FLIP_START u)
    let n := s.rd (Obj.FLIP_LEN u)
    (List.range 72).filterMap (fun i =>
      let m := (List.range 8).foldl (fun m b => if a ≤ 8 * i + b ∧ 8 * i + b < a + n then m + 2 ^ b else m) 0
      if m = 0 then none else some (i, BitVec.ofNat 8 m))

/-- The corruption that an access of a kind to a group meets, as masks by 72 × word + byte; FLIP_MODE is then 00h. -/
def State.flip (s : State) (u : UnitId) (g : Nat) (write : Bool) (ws : List Nat := List.range 8) : State × List (Nat × Byte) :=
  let m := s.rd (Obj.FLIP_MODE u)
  let mine := if write then m = 1 ∨ m = 2 else m = 3 ∨ m = 4
  if mine ∧ s.rd (Obj.FLIP_GROUP u) = g ∧ s.rd (Obj.FLIP_WORD u) ∈ ws then
    (s.wr (Obj.FLIP_MODE u) 0, (s.flipPattern u m).map (fun x => (72 * s.rd (Obj.FLIP_WORD u) + x.1, x.2)))
  else (s, [])

/-! ## The error log (R369, R370) -/

/-- KIND of a log entry (R369). -/
def ErrKind.code : ErrKind → Nat
  | .corrected => 1
  | .uncorrectable => 2
  | .poisoned => 3

/-- An entry of the log in its 24 bytes (R369). -/
def LogEntry.image (e : LogEntry) : List Byte :=
  leBytes 3 e.group ++ leBytes 1 e.word ++ leBytes 1 e.kind.code ++
  leBytes 1 ((if e.rewritten then 1 else 0) + (if e.remapped then 2 else 0)) ++
  ((e.positions.map (fun n => (BitVec.ofNat 8 n : Byte)) ++ List.replicate 4 0xFF).take 4) ++ leBytes 2 e.count ++
  leBytes 6 e.first ++ leBytes 6 e.last

/-- The place of the oldest entry whose COUNT is 1. -/
def oldestSingle (l : List LogEntry) : Option Nat :=
  (l.zipIdx.foldl (fun best x =>
    if x.1.count ≠ 1 then best
    else match best with
      | some (b, _) => if x.1.first < b then some (x.1.first, x.2) else best
      | none => some (x.1.first, x.2)) none).map Prod.snd

/-- An error entered in the log (R370): into a matching entry, an empty one, or the oldest with COUNT 1. -/
def State.logError (s : State) (u : UnitId) (g w : Nat) (k : ErrKind) (pos : List Nat) : State :=
  let b := s.getBuf u.code
  let fresh : LogEntry := { group := g, word := w, kind := k, positions := pos, first := s.now, last := s.now }
  if b.log.any (fun e => e.group == g && e.word == w && e.kind == k) then
    s.putBuf u.code { b with log := b.log.map (fun e =>
      if e.group == g && e.word == w && e.kind == k then
        { e with count := min (e.count + 1) 0xFFFF, last := s.now, positions := pos } else e) }
  else if b.log.length < 32 then s.putBuf u.code { b with log := b.log ++ [fresh] }
  else
    match oldestSingle b.log with
    | some i => s.putBuf u.code { b with log := b.log.set i fresh }
    | none => (s.inc (Obj.LOG_OVERFLOWS u)).raise (.buf u) [.BUF_LOG_OVERFLOW]

/-- Words written: REWRITTEN in every entry of them (R370). -/
def BufSt.rewritten (b : BufSt) (g : Nat) (ws : List Nat) : BufSt :=
  { b with log := b.log.map (fun e => if e.group = g ∧ ws.contains e.word then { e with rewritten := true } else e) }

/-! ## Reading and writing groups -/

/-- The bytes of a group that travel on a lane (R360): byte i of word w on lane (i + 8w) mod 64, at 72 w + i. -/
def laneBytes (n : Nat) : List Nat :=
  (List.range 8).flatMap (fun w => ((List.range 72).filter (fun i => (i + 8 * w) % 64 == n)).map (fun i => 72 * w + i))

/-- The error masks an access meets, with those of failed lanes. -/
def MemErrs.masks (e : MemErrs) : List (Nat × Byte) := e.noise ++ e.lanes.flatMap (fun x => (laneBytes x.1).zip x.2)

/-- A group as the decoder returns it: for each word its report and its 64 bytes (raw where it has none). The devices
show the patterns stored and the noise of this access. -/
def BufSt.decode (b : BufSt) (g : Nat) (noise : List (Nat × Byte)) : List (WordKind × List Byte) :=
  (List.range 8).map (fun w =>
    let l := b.loc g
    let stored := cellsRead b.err (576 * l + 72 * w) 72
    let here := (noise.filter (fun x => x.1 / 72 == w)).map (fun x => (x.1 % 72, x.2))
    let p := patternOf (applyMasks stored here)
    let (k, left) := decodeWord p
    (k, applyMasks (cellsRead b.data (512 * l + 64 * w) 64) left))

/-- The counts, status bits and log entries of one word read (R367). -/
def State.countWord (s : State) (u : UnitId) (g w : Nat) (k : WordKind) : State :=
  match k with
  | .clean => s
  | .corrected ps =>
    ((s.inc (Obj.CORRECTED_WORDS u)).logError u g w .corrected ps).raise (.buf u) [.BUF_CORRECTED]
  | .uncorrectable =>
    ((s.inc (Obj.UNCORRECTABLE_WORDS u)).logError u g w .uncorrectable []).raise (.buf u) [.BUF_UNCORRECTABLE]
  | .poisoned =>
    ((s.inc (Obj.POISONED_READS u)).logError u g w .poisoned []).raise (.buf u) [.BUF_POISON_READ]

/-- Words of a group read from the devices with correction (R367, R380); a word not read counts nothing. -/
def State.readGroup (s : State) (u : UnitId) (g : Nat) (noise : List (Nat × Byte)) (only : List Nat := List.range 8) :
    State × List (WordKind × List Byte) :=
  let (s, f) := s.flip u g false only
  let ws := (s.getBuf u.code).decode g (noise ++ f)
  let ws := ws.zipIdx.map (fun x => if only.contains x.2 then x.1 else (.clean, x.1.2))
  (ws.zipIdx.foldl (fun s x => s.countWord u g x.2 x.1.1) s, ws)

/-- A word that gives no data. -/
def WordKind.bad : WordKind → Bool
  | .uncorrectable | .poisoned => true
  | _ => false

/-- One word put on the devices with fresh check bytes, or poisoned (R368). -/
def BufSt.putWord (b : BufSt) (g w : Nat) (bytes : List Byte) (poison : Bool) : BufSt :=
  let l := b.loc g
  let pattern := List.replicate 64 0 ++ (if poison then poisonMask else List.replicate 8 0)
  { b with data := cellsWrite b.data (512 * l + 64 * w) bytes, err := cellsWrite b.err (576 * l + 72 * w) pattern }

/-- Words of a group written: fresh check bytes or poison, REWRITTEN in the log, and the flip mask of a write. -/
def State.writeWords (s : State) (u : UnitId) (g : Nat) (ws : List (Nat × List Byte × Bool)) : State :=
  let s := s.modBuf u.code (fun b =>
    (ws.foldl (fun b x => b.putWord g x.1 x.2.1 x.2.2) b).rewritten g (ws.map Prod.fst))
  let (s, f) := s.flip u g true (ws.map Prod.fst)
  if f.isEmpty then s
  else
    s.modBuf u.code (fun b => f.foldl (fun b x =>
      let a := 576 * b.loc g + x.1
      { b with err := mapPut (fun _ => 0) b.err a (mapGet (fun _ => 0) b.err a ^^^ x.2) }) b)

/-- The eight words of 512 bytes. -/
def wordsOf (bytes : List Byte) : List (Nat × List Byte) :=
  (List.range 8).map (fun w => (w, (bytes.drop (64 * w)).take 64))

/-- A whole group written (R374). -/
def State.writeGroup (s : State) (u : UnitId) (g : Nat) (bytes : List Byte) : State :=
  s.writeWords u g ((wordsOf bytes).map (fun x => (x.1, x.2, false)))

/-! ## Remap (R371-R373) -/

/-- The lowest entry neither VALID nor RETIRED (R372). -/
def BufSt.freeEntry (b : BufSt) : Option Nat :=
  (List.range 512).find? (fun n =>
    let e := mapGet (fun _ => ({} : RemapEntry)) b.remap n
    !e.valid && !e.retired)

/-- A merge-buffer entry written back as a whole group: words bad at the fill and not wholly covered go out poisoned
(R375, R376). -/
def State.mergeWriteback (s : State) (u : UnitId) (g : Nat) : State :=
  let b := s.getBuf u.code
  match b.merge.find? (fun e => e.group == g) with
  | none => s
  | some e =>
    let covered := fun w => (List.range 64).all (fun i => e.written.contains (64 * w + i))
    let s := s.putBuf u.code { b with merge := b.merge.filter (fun e => e.group ≠ g) }
    let s := s.writeWords u g ((wordsOf e.bytes).map (fun x => (x.1, x.2, e.bad.contains x.1 && !covered x.1)))
    s.inc (Obj.MERGE_WRITEBACKS u)

/-- Every merge-buffer entry written back (R364, R375). -/
def State.mergeFlush (s : State) (u : UnitId) : State :=
  s.forEach ((s.getBuf u.code).merge.map (·.group)) (fun s g => s.mergeWriteback u g)

/-- A remap of a group (R372): its REMAP_RESULT. The copy goes to the spare of the lowest free entry. -/
def State.remap (s : State) (u : UnitId) (g : Nat) : State × Nat :=
  if bufGroups ≤ g then (s.wr (Obj.REMAP_RESULT u) 4, 4)
  else
    let s := s.mergeWriteback u g
    match (s.getBuf u.code).freeEntry with
    | none => ((s.wr (Obj.REMAP_RESULT u) 3).raise (.buf u) [.BUF_REMAP_FULL], 3)
    | some n =>
      let (s, ws) := s.readGroup u g []
      let old := (s.getBuf u.code).redirect g
      let put := fun (m : Map RemapEntry) k e => mapPut (fun _ => ({} : RemapEntry)) m k e
      let s := s.modBuf u.code (fun b =>
        match old with
        | some o => { b with
            remap := put (put b.remap o { valid := false, retired := true, group := g }) n { valid := true, group := g }
            log := b.log.map (fun e => if e.group = g then { e with remapped := true } else e) }
        | none => { b with remap := put b.remap n { valid := true, group := g } })
      let s := s.writeWords u g (ws.zipIdx.map (fun x => (x.2, x.1.2, x.1.1.bad)))
      let r := if old.isSome then 5 else 2
      ((s.wr (Obj.REMAP_RESULT u) r).wr (Obj.REMAP_USED u) (s.getBuf u.code).remap.length, r)

/-- Whether firmware asks for a remap after a read (R373): an error again in a rewritten word, or an uncorrectable one. -/
def BufSt.wantsRemap (b : BufSt) (g : Nat) (ws : List (WordKind × List Byte)) : Bool :=
  ws.zipIdx.any (fun x =>
    match x.1.1 with
    | .corrected _ => b.log.any (fun e => e.group == g && e.word == x.2 && e.kind == .corrected && e.rewritten)
    | .uncorrectable => true
    | _ => false)

/-- Words of a group read (R367), with the remap that firmware may ask for (R373). -/
def State.readChecked (s : State) (u : UnitId) (g : Nat) (noise : List (Nat × Byte)) (only : List Nat := List.range 8) :
    State × List (WordKind × List Byte) :=
  let b := s.getBuf u.code
  let (s, ws) := s.readGroup u g noise only
  if s.rd (Obj.REMAP_AUTO u) = 1 && b.wantsRemap g ws then ((s.remap u g).1, ws) else (s, ws)

/-! ## Accesses outside the cache (R374-R376) -/

/-- Bytes put at offsets of a group image. -/
def overlay (img : List Byte) (off : Nat) (bytes : List Byte) : List Byte :=
  img.take off ++ bytes ++ img.drop (off + bytes.length)

/-- A narrow write into the merge buffer (R374): into the entry of its group, or into a free one filled with correction, but for the
words that the write covers in full; with none free the entry that has waited longest is written first. A group wholly written goes out at once. -/
def State.mergeWrite (s : State) (u : UnitId) (g off : Nat) (bytes : List Byte) (noise : List (Nat × Byte)) : State :=
  let offs := (List.range bytes.length).map (· + off)
  let b := s.getBuf u.code
  match b.merge.find? (fun e => e.group == g) with
  | some e =>
    let e := { e with bytes := overlay e.bytes off bytes, written := e.written ++ offs.filter (fun o => !e.written.contains o), since := s.now }
    let s := s.putBuf u.code { b with merge := b.merge.filter (fun e => e.group ≠ g) ++ [e] }
    if e.written.length = 512 then s.mergeWriteback u g else s
  | none =>
    let s := if 64 ≤ b.merge.length then
        match b.merge.head? with | some o => s.mergeWriteback u o.group | none => s
      else s
    let part := (List.range 8).filter (fun w => !((List.range 64).all (fun i => offs.contains (64 * w + i))))
    let (s, ws) := s.readChecked u g noise part
    let e : MergeEntry :=
      { group := g, since := s.now, bytes := overlay (ws.flatMap Prod.snd) off bytes, written := offs
        bad := (ws.zipIdx.filter (fun x => x.1.1.bad)).map Prod.snd }
    s.modBuf u.code (fun b => { b with merge := b.merge ++ [e] })

/-- The parts of an address range that lie in one group each: group, offset, length. -/
def groupParts : Nat → Nat → Nat → List (Nat × Nat × Nat)
  | 0, _, _ => []
  | fuel + 1, a, n =>
    if n = 0 then []
    else
      let k := min n (512 - a % 512)
      (a / 512, a % 512, k) :: groupParts fuel (a + k) (n - k)

/-- The parts of a range of n bytes at address a. -/
def rangeParts (a n : Nat) : List (Nat × Nat × Nat) := groupParts (n / 512 + 2) a n

/-- A write of one group's part to the memory itself (R374). -/
def State.bufWritePart (s : State) (u : UnitId) (g off : Nat) (bytes : List Byte) (noise : List (Nat × Byte)) : State :=
  if bytes.length = 512 then
    (s.modBuf u.code (fun b => { b with merge := b.merge.filter (fun e => e.group ≠ g) })).writeGroup u g bytes
  else s.mergeWrite u g off bytes noise

/-- A read of one group's part from the memory itself (R376): from the merge-buffer entry that holds it, or decoded. -/
def State.bufReadPart (s : State) (u : UnitId) (g off len : Nat) (noise : List (Nat × Byte)) :
    State × Option (List Byte) :=
  let used := (List.range 8).filter (fun w => off < 64 * (w + 1) ∧ 64 * w < off + len)
  match (s.getBuf u.code).merge.find? (fun e => e.group == g) with
  | some e =>
    match (List.range len).find? (fun i => e.bad.contains ((off + i) / 64) && !e.written.contains (off + i)) with
    | some i => (s.modBuf u.code (fun b => { b with errAt := 512 * g + off + i }), none)
    | none => (s, some ((e.bytes.drop off).take len))
  | none =>
    let (s, ws) := s.readChecked u g noise
    match (ws.zipIdx.find? (fun x => used.contains x.2 && x.1.1.bad)).map Prod.snd with
    | some w => (s.modBuf u.code (fun b => { b with errAt := 512 * g + max off (64 * w) }), none)
    | none => (s, some (((ws.flatMap Prod.snd).drop off).take len))

/-! ## Scrubber (R377-R379) -/

/-- The scrubber's summary in its 48 bytes (R379). -/
def ScrubSt.image (c : ScrubSt) : List Byte :=
  leBytes 4 c.passNo ++ leBytes 1 c.result ++ [0, 0, 0] ++ leBytes 4 c.first ++ leBytes 4 c.last ++ leBytes 4 c.done ++
  leBytes 4 c.corrected ++ leBytes 4 c.uncorrectable ++ leBytes 4 c.skipped ++ leBytes 4 c.firstUncorr ++
  leBytes 6 c.startTime ++ leBytes 6 c.endTime

/-- A pass started over a range (R377); a range error ends it at once with result 04h. -/
def State.scrubStart (s : State) (u : UnitId) (first last : Nat) (auto : Bool) : State :=
  let bad := bufGroups ≤ last || decide (last < first)
  let s := s.modBuf u.code (fun b => { b with scrub :=
    { passNo := b.scrub.passNo + 1, result := if bad then 4 else 1, first := first, last := last, next := first
      startTime := s.now, endTime := if bad then s.now else 0, auto := auto } })
  if bad then s.raise (.buf u) [.BUF_SCRUB_DONE] else s

/-- The pass ended with a result (R379). -/
def State.scrubEnd (s : State) (u : UnitId) (result : Nat) : State :=
  (s.modBuf u.code (fun b => { b with scrub := { b.scrub with result := result, endTime := s.now } })).raise
    (.buf u) [.BUF_SCRUB_DONE]

/-- An access reaches the devices: one in self-refresh wakes them (R364). -/
def State.wake (s : State) (u : UnitId) : State :=
  s.modBuf u.code (fun b => { b with lastUse := s.now, state := if b.state = .selfRefresh then .inService else b.state })

/-- Accesses that are held: before training, while the interface retrains, and after a failed training (R361, R362). -/
def BufState.holds : BufState → Bool
  | .inService | .selfRefresh => false
  | _ => true

/-- The next group of a running pass (R377): skipped while the merge buffer holds it; otherwise read with correction and
written back when a word was corrected. It waits while accesses are held (R388), and SCRUB_RATE bounds the groups by the time since
the start. -/
def State.scrubGroup (s : State) (u : UnitId) (noise : List (Nat × Byte)) : State :=
  let b := s.getBuf u.code
  if b.scrub.result ≠ 1 || b.state.holds || decide (s.rd (Obj.SCRUB_RATE u) * (s.now - b.scrub.startTime) < 512 * b.scrub.done) then s
  else
    let g := b.scrub.next
    let s :=
      if b.merge.any (fun e => e.group == g) then
        s.modBuf u.code (fun b => { b with scrub := { b.scrub with skipped := b.scrub.skipped + 1 } })
      else
        let (s, ws) := (s.wake u).readChecked u g noise
        let fixed := ws.filter (fun x => match x.1 with | .corrected _ => true | _ => false)
        let bad := ws.filter (fun x => x.1.bad)
        let hard := ws.any (fun x => x.1 == .uncorrectable)
        let s := if fixed.isEmpty then s
          else s.writeWords u g ((ws.zipIdx.filter (fun x => !x.1.1.bad)).map (fun x => (x.2, x.1.2, false)))
        s.modBuf u.code (fun b => { b with scrub := { b.scrub with
          done := b.scrub.done + 1
          corrected := b.scrub.corrected + fixed.length
          uncorrectable := b.scrub.uncorrectable + bad.length
          firstUncorr := if hard && b.scrub.firstUncorr == 0xFFFFFFFF then g else b.scrub.firstUncorr } })
    let s := s.modBuf u.code (fun b => { b with scrub := { b.scrub with next := g + 1 } })
    let c := (s.getBuf u.code).scrub
    if c.last ≤ g then s.scrubEnd u 2 else if c.stopAsked then s.scrubEnd u 3 else s

/-! ## Meanings of the memory cluster's own commands -/

/-- MERGE_WRITEBACK: MERGE_HOLD has passed since the last write of an entry (R375). -/
def execMergeWriteback (u : UnitId) (group : Nat) (s : State) : Host.Outcome State Fault Refusal :=
  let b := s.getBuf u.code
  .next (if !b.state.holds && b.merge.any (fun e => e.group == group && decide (s.rd (Obj.MERGE_HOLD u) ≤ 1000 * (s.now - e.since))) then
      (s.wake u).mergeWriteback u group
    else s)

/-- LINK_TRANSFER_FAIL (R362): its repeats are counted; with all three failed the interface retrains, and a write sets LINK_FAIL. -/
def execLinkTransferFail (u : UnitId) (write : Bool) (fails : Fin 4) (s : State) : Host.Outcome State Fault Refusal :=
  let t := s.add (Obj.LINK_RETRIES u) (min (fails.val + 1) 3)
  .next (
    if (s.getBuf u.code).state.holds then s
    else if fails.val < 3 then t
    else
      ((t.inc (Obj.RETRAINS u)).modBuf u.code (fun b => { b with state := .retraining })).raise (.buf u)
        (if write then [.BUF_LINK_FAIL, .BUF_RETRAINED] else [.BUF_RETRAINED]))

/-- The devices enter self-refresh (R364): with no access pending, once the merge buffer is written back. -/
def State.selfRefresh (s : State) (u : UnitId) : State :=
  if (s.getBuf u.code).state = .inService ∧ (s.getBuf u.code).held.isEmpty then
    (s.mergeFlush u).modBuf u.code (fun b => { b with state := .selfRefresh })
  else s

/-- The devices leave self-refresh with the mode (R364). -/
def State.selfRefreshEnd (s : State) (u : UnitId) : State :=
  if (s.getBuf u.code).state = .selfRefresh then s.modBuf u.code (fun b => { b with state := .inService }) else s

/-- SELF_REFRESH_IDLE (R364): in Quiescent, SR_IDLE has passed since the last access. -/
def execSelfRefreshIdle (u : UnitId) (s : State) : Host.Outcome State Fault Refusal :=
  .next (if s.mode.cur = .quiescent ∧ (s.getBuf u.code).lastUse + s.rd (Obj.SR_IDLE u) ≤ s.now then s.selfRefresh u else s)

/-- REMAP_REQUEST (R372): refused with an access error out of range or with no free entry. -/
def execRemapRequest (q : Requester) (u : UnitId) (group : BitVec 32) (s : State) :
    Host.Outcome State Fault Refusal :=
  .next (s.hold (.write q u 0x4002 1 (leBytes 4 group.toNat)) fun s =>
    let e := s.writeErr u 0x4002 1 q (leBytes 4 group.toNat)
    if e ≠ 0 then s.answer q e
    else
      let (t, r) := s.remap u group.toNat
      t.answer q (if r = 4 then 0x07 else if r = 3 then 0x09 else 0))

/-- LOG_CLEAR (R370). -/
def execLogClear (q : Requester) (u : UnitId) (v : BitVec 8) (s : State) : Host.Outcome State Fault Refusal :=
  .next (s.tryKey q u (Obj.LOG_CLEAR u) [v] (if v = 1 then 0 else 0x07)
    (fun s => s.modBuf u.code (fun b => { b with log := [] })))

/-- SCRUB_START (R377): refused while a pass is running. -/
def execScrubStart (q : Requester) (u : UnitId) (s : State) : Host.Outcome State Fault Refusal :=
  .next (s.tryKey q u (Obj.SCRUB_COMMAND u) [1] (if (s.getBuf u.code).scrub.result = 1 then 0x09 else 0)
    (fun s => s.scrubStart u (s.rd (Obj.SCRUB_FIRST u)) (s.rd (Obj.SCRUB_LAST u)) false))

/-- SCRUB_STOP (R377): the pass ends after the current group. -/
def execScrubStop (q : Requester) (u : UnitId) (s : State) : Host.Outcome State Fault Refusal :=
  .next (s.tryKey q u (Obj.SCRUB_COMMAND u) [2] 0 (fun s =>
    if (s.getBuf u.code).scrub.result = 1 then
      s.modBuf u.code (fun b => { b with scrub := { b.scrub with stopAsked := true } })
    else s))

def execScrubGroup (u : UnitId) (e : MemErrs) (s : State) : Host.Outcome State Fault Refusal :=
  .next (s.scrubGroup u e.masks)

/-- SCRUB_INTERVAL_EXPIRY (R379): SCRUB_INTERVAL has passed since firmware last started a pass, and it starts one over the whole buffer in
Frond, Frond-degraded and Quiescent. -/
def execScrubIntervalExpiry (u : UnitId) (s : State) : Host.Outcome State Fault Refusal :=
  .next (if s.rd (Obj.SCRUB_INTERVAL u) ≠ 0 ∧ (s.getBuf u.code).scrubAt + 3600000000 * s.rd (Obj.SCRUB_INTERVAL u) ≤ s.now ∧
      (s.mode.cur = .frond ∨ s.mode.cur = .frondDegraded ∨ s.mode.cur = .quiescent) ∧
      (s.getBuf u.code).scrub.result ≠ 1 then
        (s.modBuf u.code (fun b => { b with scrubAt := s.now })).scrubStart u 0 (bufGroups - 1) true
    else s)

/-- Whether the fields a FLIP_MODE uses lie in their ranges (R380, R381). -/
def State.flipFieldsOk (s : State) (u : UnitId) (m : Nat) : Bool :=
  if m = 1 ∨ m = 3 then
    let b := leBytes 8 (s.rd (Obj.FLIP_BYTES u))
    (List.range 4).all (fun j => let p := (b.getD (2 * j) 0).toNat; decide (p ≤ 71) || p == 255)
  else if m = 2 ∨ m = 4 then
    1 ≤ s.rd (Obj.FLIP_LEN u) && s.rd (Obj.FLIP_LEN u) ≤ 32 &&
    s.rd (Obj.FLIP_START u) + s.rd (Obj.FLIP_LEN u) ≤ 576
  else m == 0

/-- FLIP_MODE_WRITE (R380, R381). -/
def execFlipModeWrite (q : Requester) (u : UnitId) (v : BitVec 8) (s : State) : Host.Outcome State Fault Refusal :=
  .next (s.tryKey q u (Obj.FLIP_MODE u) [v] (if s.flipFieldsOk u v.toNat then 0 else 0x07)
    (fun s => s.wr (Obj.FLIP_MODE u) v.toNat))

end Sys2Proof.Machine
end

