-- ==== Sys2Proof/Machine/Cache.lean ====
section
/-! DEFINITION. The metadata cache in front of the buffer (R382-R388), the access path of every engine, and the buffer
accesses that take it. -/

namespace Sys2Proof.Machine

/-! ## Lines (R382) -/

/-- Set and tag of a group. -/
def cacheSet (g : Nat) : Nat := g % 2048
def cacheTag (g : Nat) : Nat := g / 2048

/-- The line of a way in a set. -/
def CacheSt.line (c : CacheSt) (way set : Nat) : Line := mapGet (fun _ => ({} : Line)) c.lines (2048 * way + set)

/-- The line of a way in a set replaced. -/
def CacheSt.setLine (c : CacheSt) (way set : Nat) (l : Line) : CacheSt :=
  { c with lines := mapPut (fun _ => ({} : Line)) c.lines (2048 * way + set) l }

/-- The group a line holds. -/
def lineGroup (set : Nat) (l : Line) : Nat := l.tag * 2048 + set

/-- The way that holds a group. -/
def CacheSt.find (c : CacheSt) (g : Nat) : Option Nat :=
  (List.range 16).find? (fun w => let l := c.line w (cacheSet g); l.valid && l.tag == cacheTag g)

/-- Whether an address lies in the window of a cache that is not disabled (R382, R387). -/
def State.inWindow (s : State) (u : UnitId) (a : Nat) : Bool :=
  (s.getCache u.code).state != .disabled &&
  decide (s.rd (Obj.WINDOW_BASE u) * 1048576 ≤ a) &&
  decide (a < (s.rd (Obj.WINDOW_BASE u) + s.rd (Obj.WINDOW_SIZE u)) * 1048576)

/-- Ways that take a new line: enabled, powered and not being cleaned. -/
def State.wayOpen (s : State) (u : UnitId) (w : Nat) : Bool :=
  s.bit (Obj.WAY_ENABLE u) w && s.bit (Obj.WAY_POWERED u) w && !s.bit (Obj.WAY_CLEANING u) w

/-- The victim of a set (R382): an invalid line first, else the one used least recently. -/
def State.victim (s : State) (u : UnitId) (set : Nat) : Option Nat :=
  let c := s.getCache u.code
  let ws := (List.range 16).filter (s.wayOpen u)
  match ws.find? (fun w => !(c.line w set).valid) with
  | some w => some w
  | none => (ws.foldl (fun best w =>
      match best with
      | some b => if (c.line w set).used < (c.line b set).used then some w else best
      | none => some w) none)

/-- A line's use stamped. -/
def CacheSt.touch (c : CacheSt) (way set : Nat) : CacheSt :=
  { c.setLine way set { c.line way set with used := c.stamp + 1 } with stamp := c.stamp + 1 }

/-! ## Write-backs and allocation (R384) -/

/-- A dirty line moved to the eviction buffer, its write-back started and counted. -/
def State.evictLine (s : State) (u : UnitId) (way set : Nat) : State :=
  let c := s.getCache u.code
  let l := c.line way set
  if l.valid && l.dirty then
    (s.putCache u.code { c.setLine way set {} with evict := c.evict ++ [{ group := lineGroup set l, bytes := l.bytes }] }).inc
      (Obj.WRITEBACKS u)
  else s.putCache u.code (c.setLine way set {})

/-- A group allocated in its set: `none` when the eviction buffer is full and the victim is dirty (R384). -/
def State.allocate (s : State) (u : UnitId) (g : Nat) (bytes : List Byte) (dirty : Bool) : Option State :=
  let set := cacheSet g
  match s.victim u set with
  | none => some s
  | some w =>
    let c := s.getCache u.code
    if (c.line w set).valid && (c.line w set).dirty && decide (32 ≤ c.evict.length) then none
    else
      let s := s.evictLine u w set
      some (s.modCache u.code (fun c =>
        (c.setLine w set { valid := true, dirty := dirty, tag := cacheTag g, bytes := bytes }).touch w set))

/-- A dirty line written to the memory and left clean, as cleaning does (R386). -/
def State.cleanLine (s : State) (u : UnitId) (way set : Nat) : State :=
  let l := (s.getCache u.code).line way set
  if l.valid && l.dirty then
    ((s.writeGroup u (lineGroup set l) l.bytes).modCache u.code
      (fun c => c.setLine way set { l with dirty := false })).inc (Obj.WRITEBACKS u)
  else s

/-- Sets of a way that hold a line, lowest first. -/
def CacheSt.setsOf (c : CacheSt) (way : Nat) : List Nat :=
  (c.lines.filter (fun e => e.1 / 2048 == way)).map (fun e => e.1 % 2048)

/-- The lowest set of a way that holds a dirty line (R386). -/
def CacheSt.firstDirty (c : CacheSt) (way : Nat) : Option Nat := (c.setsOf way).find? (fun set => (c.line way set).dirty)

/-- A way invalidated and powered down. -/
def State.wayDown (s : State) (u : UnitId) (way : Nat) : State :=
  let s := s.modCache u.code (fun c => { c with lines := c.lines.filter (fun e => e.1 / 2048 ≠ way) })
  (s.setBit (Obj.WAY_CLEANING u) way false).setBit (Obj.WAY_POWERED u) way false

/-! ## Array errors (R383) -/

/-- A tag copy fails its parity: copy 0 is rewritten from copy 1; with both bad the way is invalidated and the Grave bit
set, which without a latch counts as a tripped fatal check of the unit (R525). -/
def State.tagError (s : State) (u : UnitId) (set : Nat) (e : Option (Nat × Bool)) : State :=
  match e with
  | none => s
  | some (_, false) => (s.inc (Obj.TAG_REPAIRS u)).raise (.cache u) [.CACHE_TAG_REPAIRED]
  | some (w, true) =>
    let s := s.modCache u.code (fun c => c.setLine w set {})
    let s := (s.inc (Obj.TAG_UNCORR_COUNT u)).raise (.cache u) [.CACHE_TAG_UNCORRECTABLE]
    if s.mode.latchDue then s
    else { s with mode := { s.mode with checkDue := s.mode.checkDue ++ [(u, .cacheTag)] } }

/-- What the data code of a line leaves of an access to it (R383). -/
inductive LineUse where
  | usable
  | refill
  | failed
  deriving DecidableEq, Repr

/-- Errors in the data of a line hit (R383): single bits corrected; a double bit invalidates a clean line, and sends a
dirty one back with the words poisoned. -/
def State.lineError (s : State) (u : UnitId) (way set : Nat) (errs : List (Nat × Bool)) : State × LineUse :=
  if errs.isEmpty then (s, .usable)
  else
    let l := (s.getCache u.code).line way set
    let doubles := (errs.filter (·.2)).map Prod.fst
    let singles := errs.length - doubles.length
    let s := if singles = 0 then s else (s.add (Obj.DATA_CORRECTED_COUNT u) singles).raise (.cache u) [.CACHE_DATA_CORRECTED]
    if doubles.isEmpty then (s, .usable)
    else if !l.dirty then (s.modCache u.code (fun c => c.setLine way set {}), .refill)
    else
      let s := s.writeWords u (lineGroup set l)
        ((wordsOf l.bytes).map (fun x => (x.1, x.2, doubles.any (fun d => d / 8 == x.1))))
      let s := (s.modCache u.code (fun c => c.setLine way set {})).inc (Obj.WRITEBACKS u)
      ((s.inc (Obj.DATA_UNCORR_COUNT u)).raise (.cache u) [.CACHE_DATA_UNCORRECTABLE], .failed)

/-! ## One access to the window (R382-R384, R387) -/

/-- Whether write hits in a way go through to the memory: while the way is being cleaned or the cache is being disabled. -/
def State.writeThrough (s : State) (u : UnitId) (way : Nat) : Bool :=
  (s.getCache u.code).state == .disablePending || s.bit (Obj.WAY_CLEANING u) way

/-- A hit in a line. -/
def State.lineHit (s : State) (u : UnitId) (way g off len : Nat) (data : Option (List Byte)) : State × BufResp :=
  let set := cacheSet g
  let s := s.modCache u.code (fun c => c.touch way set)
  let l := (s.getCache u.code).line way set
  let s := s.inc (Obj.HITS u)
  match data with
  | none => (s, .ok ((l.bytes.drop off).take len))
  | some d =>
    let img := overlay l.bytes off d
    if s.writeThrough u way then
      ((s.writeGroup u g img).modCache u.code (fun c => c.setLine way set { l with bytes := img, dirty := false }),
       .ok [])
    else (s.modCache u.code (fun c => c.setLine way set { l with bytes := img, dirty := true }), .ok [])

/-- A hit in the eviction buffer (R384). -/
def State.evictHit (s : State) (u : UnitId) (g off len : Nat) (data : Option (List Byte)) : State × BufResp :=
  let s := s.inc (Obj.EVBUF_HITS u)
  let c := s.getCache u.code
  let bytes := ((c.evict.find? (fun e => e.group == g)).map (·.bytes)).getD []
  let upd := fun (f : EvictEntry → EvictEntry) =>
    s.putCache u.code { c with evict := c.evict.map (fun e => if e.group = g then f e else e) }
  match data with
  | none => (upd (fun e => { e with wanted := true }), .ok ((bytes.drop off).take len))
  | some d => (upd (fun e => { e with wanted := true, again := true, bytes := overlay e.bytes off d }), .ok [])

/-- A miss: the group is fetched and allocated; while the cache is being disabled it goes to the memory and does not
allocate; a fill with a bad word allocates nothing; an allocation that finds the eviction buffer full waits (R384). -/
def State.cacheMiss (s : State) (u : UnitId) (g off len : Nat) (data : Option (List Byte))
    (noise : List (Nat × Byte)) : State × BufResp :=
  let s := s.inc (Obj.MISSES u)
  if (s.getCache u.code).state = .disablePending then
    match data with
    | some d => (s.bufWritePart u g off d noise, .ok [])
    | none => let (s, r) := s.bufReadPart u g off len noise
              (s, match r with | some b => .ok b | none => .error)
  else
    let s := s.mergeWriteback u g
    let (s1, ws) := s.readChecked u g noise
    if ws.any (fun x => x.1.bad) then (s1.modBuf u.code (fun b => { b with errAt := 512 * g + off }), .error)
    else
      let img := ws.flatMap Prod.snd
      let img' := match data with | some d => overlay img off d | none => img
      match s1.allocate u g img' data.isSome with
      | some t => (t, match data with | some _ => .ok [] | none => .ok ((img.drop off).take len))
      | none =>
        let t := (s1.inc (Obj.EVBUF_STALLS u)).raise (.cache u) [.CACHE_EVBUF_FULL]
        (t.modCache u.code (fun c => { c with waiting := c.waiting ++
          [{ write := data.isSome, addr := 512 * g + off, len := len, bytes := data.getD [] }] }), .none)

/-- An access to one group through the cache. -/
def State.cachePart (s : State) (u : UnitId) (g off len : Nat) (data : Option (List Byte)) (e : MemErrs) :
    State × BufResp :=
  let s := s.tagError u (cacheSet g) e.tag
  let c := s.getCache u.code
  match c.find g with
  | some w =>
    match s.lineError u w (cacheSet g) e.line with
    | (s, .usable) => s.lineHit u w g off len data
    | (s, .refill) => s.cacheMiss u g off len data e.masks
    | (s, .failed) => (s.modBuf u.code (fun b => { b with errAt := 512 * g + off }), .error)
  | none =>
    if c.evict.any (fun x => x.group == g) then s.evictHit u g off len data
    else s.cacheMiss u g off len data e.masks

/-! ## The access path of every engine (R359, R364, R376, R382) -/

/-- Answers of the parts of an access put together: an error anywhere is an error of the access. -/
def BufResp.join : BufResp → BufResp → BufResp
  | .ok a, .ok b => .ok (a ++ b)
  | .error, _ => .error
  | _, .error => .error
  | _, _ => .none

/-- The part of an access that falls into one group: from the metadata cache or the buffer. -/
def State.accessGroup (s : State) (u : UnitId) (g off k : Nat) (part : Option (List Byte)) (e : MemErrs) : State × BufResp :=
  if s.inWindow u (512 * g) then s.cachePart u g off k part e
  else
    match part with
    | some d => (s.bufWritePart u g off d e.masks, .ok [])
    | none =>
      let (s, r) := s.bufReadPart u g off k e.masks
      (s, match r with | some b => .ok b | none => .error)

/-- An access goes on with its next part; the first error keeps its address. -/
def accessStep (u : UnitId) (a : Nat) (data : Option (List Byte)) (e : MemErrs) (x : State × BufResp) (p : Nat × Nat × Nat) :
    State × BufResp :=
  let at_ := (x.1.getBuf u.code).errAt
  let (s, q) := x.1.accessGroup u p.1 p.2.1 p.2.2 (data.map (fun d => (d.drop (512 * p.1 + p.2.1 - a)).take p.2.2)) e
  let s := if x.2 == .error then s.modBuf u.code (fun b => { b with errAt := at_ }) else s
  (s, x.2.join q)

/-- An access of an engine to a range of the buffer: a read of n bytes, or a write of data. -/
def State.access (s : State) (u : UnitId) (a n : Nat) (data : Option (List Byte)) (e : MemErrs) : State × BufResp :=
  if bufLimit < a + n ∨ bufLimit ≤ a then (s.raise (.buf u) [.BUF_ADDR_ERR], .error)
  else
    (rangeParts a n).foldl (accessStep u a data e) (s.wake u, .ok [])

/-- A read by an engine: the bytes, or none for an error response. -/
def State.engRead (s : State) (u : UnitId) (a n : Nat) : State × Option (List Byte) :=
  let (s, r) := s.access u a n none {}
  (s, match r with | .ok b => some b | _ => none)

/-- A write by an engine, and whether it was accepted. -/
def State.engWrite (s : State) (u : UnitId) (a : Nat) (d : List Byte) : State × Bool :=
  let (s, r) := s.access u a d.length (some d) {}
  (s, r != .error)

/-- An access of a command: held, or made at once. -/
def State.bufCommand (s : State) (u : UnitId) (a n : Nat) (data : Option (List Byte)) (e : MemErrs) : State :=
  let b := s.getBuf u.code
  if b.state.holds then
    s.putBuf u.code { b with resp := .none, held := b.held ++
      [{ write := data.isSome, addr := a, len := n, bytes := data.getD [] }] }
  else
    let (s, r) := s.access u a n data e
    s.modBuf u.code (fun b => { b with resp := r })

/-- Held accesses made in their order of arrival (R361, R362). -/
def State.replayHeld (s : State) (u : UnitId) : State :=
  let h := (s.getBuf u.code).held
  let s := s.modBuf u.code (fun b => { b with held := [] })
  s.forEach h (fun s x => s.bufCommand u x.addr x.len (if x.write then some x.bytes else none) {})

/-- GDDR7 training ends (R361): held accesses proceed, or the second failure sets TRAIN_FAIL and counts as a failed
self-test. -/
def State.gddrTrained (s : State) (u : UnitId) (ok : Bool) : State :=
  let b := s.getBuf u.code
  if ok then
    let s := (s.putBuf u.code { b with state := .inService, trainFails := 0 }).replayHeld u
    { s with pair := match u with
        | .A => { s.pair with unitA := { s.pair.unitA with gddrTrained := true } }
        | .B => { s.pair with unitB := { s.pair.unitB with gddrTrained := true } } }
  else if 1 ≤ b.trainFails then
    let s := (s.putBuf u.code { b with state := .failed, trainFails := b.trainFails + 1 }).raise (.buf u) [.BUF_TRAIN_FAIL]
    { s with pair := match u with
        | .A => { s.pair with unitA := { s.pair.unitA with selfTest := false } }
        | .B => { s.pair with unitB := { s.pair.unitB with selfTest := false } } }
  else s.putBuf u.code { b with state := .training, trainFails := b.trainFails + 1 }

/-! ## Meanings -/

/-- The oldest write-back of the eviction buffer completes (R384): a write since then sends the entry again; an entry
hit since is allocated again; the accesses that wait are then made. It waits while accesses are held (R388) and wakes the devices
(R364). -/
def State.writebackDone (s : State) (u : UnitId) : State :=
  let c := s.getCache u.code
  match if (s.getBuf u.code).state.holds then [] else c.evict with
  | [] => s
  | e :: rest =>
    let s := (s.wake u).writeGroup u e.group e.bytes
    if e.again then
      (s.modCache u.code (fun c => { c with evict := rest ++ [{ e with again := false }] })).inc (Obj.WRITEBACKS u)
    else
      let s := s.modCache u.code (fun c => { c with evict := rest })
      let s := if e.wanted && c.state == .enabled then (s.allocate u e.group e.bytes false).getD s else s
      let w := (s.getCache u.code).waiting
      let s := s.modCache u.code (fun c => { c with waiting := [] })
      s.forEach w (fun s x =>
        let (s, r) := s.access u x.addr x.len (if x.write then some x.bytes else none) {}
        s.modCache u.code (fun c => { c with resp := r }))

/-- A write of WAY_ENABLE (R386): bits cleared start cleaning, bits set power up or stop cleaning. -/
def State.wayEnable (s : State) (u : UnitId) (v : Nat) : State :=
  let s0 := s.save (Obj.WAY_ENABLE u) v
  if (s.getCache u.code).state = .disabled then s0
  else
    s0.forEach (List.range 16) (fun s w =>
      if v.testBit w then
        if (s.getCache u.code).state = .disablePending then s
        else (s.setBit (Obj.WAY_CLEANING u) w false).setBit (Obj.WAY_POWERED u) w true
      else if s.bit (Obj.WAY_POWERED u) w then s.setBit (Obj.WAY_CLEANING u) w true
      else s)

def execWayEnableWrite (q : Requester) (u : UnitId) (v : BitVec 16) (s : State) : Host.Outcome State Fault Refusal :=
  .next (s.tryKey q u (Obj.WAY_ENABLE u) (leBytes 2 v.toNat) (if v = 0 then 0x09 else 0)
    (fun s => s.wayEnable u v.toNat))

/-- The cleaning of ways as time passes (R386, R387): the lowest way being cleaned that holds a dirty line writes back the one of its lowest
set, while accesses are not held. -/
def State.cleanTick (s : State) (u : UnitId) : State :=
  if s.rd (Obj.WAY_CLEANING u) = 0 || (s.getBuf u.code).state.holds then s
  else
    match (List.range 16).find? (fun w => s.bit (Obj.WAY_CLEANING u) w && ((s.getCache u.code).firstDirty w).isSome) with
    | none => s
    | some w => match (s.getCache u.code).firstDirty w with
      | some set => (s.wake u).cleanLine u w set
      | none => s

/-- WAY_CLEAN_DONE (R386): no dirty line of a way being cleaned remains; the way powers down. -/
def execWayCleanDone (u : UnitId) (way : Nat) (s : State) : Host.Outcome State Fault Refusal :=
  .next (if way < 16 ∧ s.bit (Obj.WAY_CLEANING u) way ∧ (s.getCache u.code).firstDirty way = none then
      (s.wayDown u way).raise (.cache u) [.CACHE_WAY_CLEAN_DONE]
    else s)

/-- CACHE_CONTROL 01h (R387). -/
def State.cacheEnable (s : State) (u : UnitId) : State :=
  match (s.getCache u.code).state with
  | .enabled => s
  | .disablePending =>
    let powered := s.rd (Obj.WAY_POWERED u) ||| s.rd (Obj.WAY_ENABLE u)
    ((s.modCache u.code (fun c => { c with state := .enabled })).wr (Obj.WAY_POWERED u) powered).wr (Obj.WAY_CLEANING u)
      (powered - (powered &&& s.rd (Obj.WAY_ENABLE u)))
  | .disabled =>
    (s.modCache u.code (fun c => { c with state := .enabled, lines := [], evict := [] })).wr (Obj.WAY_POWERED u)
      (s.rd (Obj.WAY_ENABLE u))

/-- CACHE_CONTROL 02h (R387). -/
def State.cacheDisable (s : State) (u : UnitId) : State :=
  if (s.getCache u.code).state = .enabled then
    (s.modCache u.code (fun c => { c with state := .disablePending })).wr (Obj.WAY_CLEANING u)
      (s.rd (Obj.WAY_POWERED u))
  else s

def execCacheEnable (q : Requester) (u : UnitId) (s : State) : Host.Outcome State Fault Refusal :=
  .next (s.tryKey q u (Obj.CACHE_CONTROL u) [1] 0 (fun s => s.cacheEnable u))

def execCacheDisable (q : Requester) (u : UnitId) (s : State) : Host.Outcome State Fault Refusal :=
  .next (s.tryKey q u (Obj.CACHE_CONTROL u) [2] 0 (fun s => s.cacheDisable u))

/-- CACHE_DISABLE_COMPLETE (R387): every dirty line and every eviction-buffer entry has been written. -/
def State.cacheDisabled (s : State) (u : UnitId) : State :=
  let c := s.getCache u.code
  if c.state ≠ .disablePending || !c.evict.isEmpty || (List.range 16).any (fun w => (c.firstDirty w).isSome) then s
  else
    let s := s.forEach (List.range 16) (fun s w => s.wayDown u w)
    (s.modCache u.code (fun c => { c with state := .disabled })).raise (.cache u) [.CACHE_CACHE_DISABLED]

def execCacheDisableComplete (u : UnitId) (s : State) : Host.Outcome State Fault Refusal :=
  .next (s.cacheDisabled u)

end Sys2Proof.Machine
end

