-- ==== Sys2Proof/Machine/Numbers.lean ====
section
/-! DEFINITION. Numbers as the rules write them: little-endian fields, two's complement, rounding and bounds. -/

namespace Sys2Proof.Machine

/-! ## Little-endian fields -/

/-- The unsigned field of n bytes at an offset. -/
def fldU (b : List Byte) (off n : Nat) : Nat := leNat ((b.drop off).take n)

/-- A number of n bytes read as two's complement. -/
def asSigned (n v : Nat) : Int := if 2 ^ (8 * n - 1) ≤ v then (v : Int) - 2 ^ (8 * n) else v

/-- The signed field of n bytes at an offset. -/
def fldI (b : List Byte) (off n : Nat) : Int := asSigned n (fldU b off n)

/-- A number as the bytes of an n-byte two's complement field. -/
def leSigned (n : Nat) (v : Int) : List Byte := leBytes n (v % 2 ^ (8 * n)).toNat

/-- The quotient rounded to nearest. An exact half goes the way the configuration says, since the spec says only
"rounded". -/
def roundDiv (v : Int) (d : Nat) : Int :=
  let q := v / d
  let r := v % d
  if 2 * r < d then q else if (d : Int) < 2 * r then q + 1 else if Config.halfUp v.natAbs then q + 1 else q

/-- A quotient whose rounding the spec does not give: one of the two whole numbers beside it, which of them a free value. -/
def openDiv (v : Int) (d : Nat) : Int := if v % d = 0 then v / d else if Config.roundUp v d then v / d + 1 else v / d

/-- A value held within bounds. -/
def clampI (lo hi v : Int) : Int := max lo (min hi v)

end Sys2Proof.Machine
end

