-- ==== Sys2Proof/Machine/Lanes.lean ====
section
/-! DEFINITION. What the high-speed lanes carry (R43-R46): control blocks, sample groups, and the sample stream of a reader
rebuilt from its two sub-lanes (R82). -/

namespace Sys2Proof.Machine

/-! ## Control blocks (R44) -/

/-- A control block read from its 64 bits; `none` for another block type or a reserved kind. -/
def controlBlock (w : BitVec 64) : Option ControlBlock :=
  if w.extractLsb' 56 8 ≠ 0x96 then none
  else
    let make := fun (k : BlockKind) =>
      some ({ kind := k, act := (w.extractLsb' 51 1).toNat, sublane := (w.extractLsb' 48 3).toNat, ratioChange := w.getLsbD 47
              headChange := w.getLsbD 46, head := (w.extractLsb' 32 4).toNat, sampleIndex := w.extractLsb' 0 32 } : ControlBlock)
    match (w.extractLsb' 52 4).toNat with
    | 0 => make .marker
    | 1 => make .servoHeader
    | 2 => make .gateOn
    | 3 => make .gateOff
    | 4 => make .ratioChange
    | _ => none

/-- The code of a kind. -/
def BlockKind.code : BlockKind → Nat
  | .marker => 0
  | .servoHeader => 1
  | .gateOn => 2
  | .gateOff => 3
  | .ratioChange => 4

/-- The 64 bits of a control block. -/
def ControlBlock.word (b : ControlBlock) : BitVec 64 :=
  BitVec.ofNat 64 (0x96 * 2 ^ 56 + b.kind.code * 2 ^ 52 + b.act % 2 * 2 ^ 51 + b.sublane % 8 * 2 ^ 48 +
    (if b.ratioChange then 2 ^ 47 else 0) + (if b.headChange then 2 ^ 46 else 0) + b.head % 16 * 2 ^ 32 + b.sampleIndex.toNat)

/-! ## Sample groups (R43) -/

/-- The 448 bits of seven payloads as one number, the first payload highest. -/
def groupBits (l : List (BitVec 64)) : Nat := l.foldl (fun v w => v * 2 ^ 64 + w.toNat) 0

/-- The 64 samples of a group: 7-bit two's complement, in time order from the msb on (R43). -/
def groupSamples (l : List (BitVec 64)) : List Int :=
  let n := groupBits l
  (List.range 64).map (fun (j : Nat) =>
    let v : Nat := n / 2 ^ (441 - 7 * j) % 128
    if 64 ≤ v then (v : Int) - 128 else (v : Int))

/-- The seven payloads that carry 64 samples (R43): what the PN2 packs. -/
def packGroup (xs : List Int) : List (BitVec 64) :=
  let n := xs.foldl (fun (v : Nat) (x : Int) => v * 128 + (x % 128).toNat) 0
  (List.range 7).map (fun j => BitVec.ofNat 64 (n / 2 ^ (64 * (6 - j)) % 2 ^ 64))

/-- A stretch of samples of one reader: the sample index of its first, and its samples. -/
abbrev Stretch := Word × List Int

/-- A lane on its way through its blocks: how many samples later each next group begins, the sample index of its next group, and the payloads of the group begun, `none` for
one that arrived in error. -/
structure LaneRun where
  stride : Word
  next : Word
  part : List (Option (BitVec 64)) := []
  done : List Stretch := []

/-- One data position of a group; seven make it whole. -/
def LaneRun.put (r : LaneRun) (w : Option (BitVec 64)) : LaneRun :=
  let part := r.part ++ [w]
  if part.length < 7 then { r with part := part }
  else
    let good := part.all Option.isSome
    { r with next := r.next + r.stride, part := [], done := if good then (r.next, groupSamples (part.filterMap id)) :: r.done else r.done }

/-- One block of a reader sub-lane (R43-R45): a marker gives the index of the next group; a group broken by another block is
not intact. -/
def LaneRun.take (r : LaneRun) : LaneBlock → LaneRun
  | .data w => r.put (some w)
  | .bad => r.put none
  | .idle => { r with part := [] }
  | .control w =>
    match controlBlock w with
    | some b => if b.kind = .marker then { r with next := b.sampleIndex, part := [] } else { r with part := [] }
    | none => { r with part := [] }

/-- The intact groups of a lane from the sample index of its next group on: a reader sub-lane carries every other group, a stride of
128 samples, the servo-window lane every group (R43, R47). -/
def laneGroups (stride next : Word) (l : List LaneBlock) : LaneRun := l.foldl LaneRun.take { stride := stride, next := next }

/-- Key of a reader sub-lane of a unit's side. -/
def subLaneKey (u : UnitId) (lane : Nat) : Nat := 4 * u.code + lane

/-- The sample of an index, where its group arrived intact (R82). -/
def sampleAt (l : List Stretch) (i : Word) : Option Int :=
  match l.find? (fun g => decide ((i - g.1).toNat < 64)) with
  | some g => g.2[(i - g.1).toNat]?
  | none => none

end Sys2Proof.Machine
end

