-- ==== Sys2Proof/Machine/Ldpc.lean ====
section
/-! DEFINITION. The sector's code (R98, R99): the parity-check matrix, the encoder and the code word's bits; and the layered
offset min-sum decoder (R100). A block of 256 bits is a `BitVec 256`, its position 0 in bit 0. -/

namespace Sys2Proof.Machine

/-! ## The parity-check matrix (R99) -/

/-- Offsets o of the rows q. -/
def ldpcOffsets : List (List Nat) :=
  [[0, 1, 3], [0, 2, 7], [0, 4, 9], [0, 5, 11], [0, 6, 8], [0, 3, 10], [0, 7, 12], [0, 2, 8], [0, 4, 13]]

/-- The shift of the circulant in block row i and block column j; `none` for a zero block (R99). -/
def ldpcShift (i j : Nat) : Option Nat :=
  if j < 129 then
    if (ldpcOffsets.getD (j / 15) []).any (fun o => (j % 15 + o) % 15 == i) then some ((37 * i + 61 * j + i * j) % 256) else none
  else if j = 129 then
    if i = 0 ∨ i = 14 then some 1 else if i = 7 then some 0 else none
  else if i + 130 = j ∨ i + 129 = j then some 0
  else none

/-- The nonzero blocks of a block row: column and shift. -/
def ldpcRow (i : Nat) : List (Nat × Nat) :=
  (List.range 144).filterMap (fun j => (ldpcShift i j).map (fun s => (j, s)))

/-- A circulant P^s applied to a block: row r takes position (r + s) mod 256. -/
def circulant (s : Nat) (v : BitVec 256) : BitVec 256 := v.rotateRight s

/-- The checks of a block row over a code word: a bit is set where a check is not satisfied. -/
def ldpcCheck (w : List (BitVec 256)) (i : Nat) : BitVec 256 :=
  (ldpcRow i).foldl (fun x (j, s) => x ^^^ circulant s (w.getD j 0)) 0

/-- Bits set in a block. -/
def blockWeight (v : BitVec 256) : Nat := (List.range 256).foldl (fun n i => if v.getLsbD i then n + 1 else n) 0

/-- Unsatisfied checks of a code word, 0 to 3840. -/
def ldpcUnsatisfied (w : List (BitVec 256)) : Nat := ((List.range 15).map (fun i => blockWeight (ldpcCheck w i))).sum

/-! ## The encoder (R98, R99, R127) -/

/-- The bits of bytes, each most significant bit first. -/
def msbBits (b : List Byte) : List Bool := b.flatMap (fun x => (List.range 8).map (fun m => x.getLsbD (7 - m)))

/-- The bytes of bits, each most significant bit first. -/
def msbBytes : Nat → List Bool → List Byte
  | 0, _ => []
  | n + 1, l => BitVec.ofNat 8 ((l.take 8).foldl (fun v b => 2 * v + (if b then 1 else 0)) 0) :: msbBytes n (l.drop 8)

/-- A block of 256 bits from a list, position 0 first. -/
def blockOf (l : List Bool) : BitVec 256 :=
  BitVec.ofNat 256 ((l.take 256).reverse.foldl (fun v b => 2 * v + (if b then 1 else 0)) 0)

/-- Blocks of 256 bits. -/
def blocksOf : Nat → List Bool → List (BitVec 256)
  | 0, _ => []
  | n + 1, l => blockOf l :: blocksOf n (l.drop 256)

/-- The information blocks of 4120 bytes: 64 zero pad bits, then the bytes in order (R98, R127). -/
def infoBlocks (body : List Byte) : List (BitVec 256) := blocksOf 129 (List.replicate 64 false ++ msbBits (body.take 4120))

/-- λ_i: the information blocks of a block row summed (R99). -/
def ldpcLambda (info : List (BitVec 256)) (i : Nat) : BitVec 256 :=
  ((ldpcRow i).filter (fun e => e.1 < 129)).foldl (fun x (j, s) => x ^^^ circulant s (info.getD j 0)) 0

/-- p(k+1) from p(k), for k from 1 to 13 (R99). -/
def parityChain (lam : Nat → BitVec 256) (p0 : BitVec 256) : Nat → Nat → BitVec 256 → List (BitVec 256)
  | 0, _, _ => []
  | n + 1, k, p =>
    let q := lam k ^^^ p ^^^ (if k = 7 then p0 else 0)
    q :: parityChain lam p0 n (k + 1) q

/-- The fifteen parity blocks (R99). -/
def parityBlocks (info : List (BitVec 256)) : List (BitVec 256) :=
  let lams := (List.range 15).map (ldpcLambda info)
  let p0 := lams.foldl (· ^^^ ·) 0
  let p1 := lams.getD 0 0 ^^^ circulant 1 p0
  p0 :: p1 :: parityChain (fun k => lams.getD k 0) p0 13 1 p1

/-- The code word of 4120 bytes (R98, R99). -/
def codeWord (body : List Byte) : List (BitVec 256) := let i := infoBlocks body; i ++ parityBlocks i

/-- The bits of a code word in ascending order. -/
def wordBits (w : List (BitVec 256)) : List Bool := w.flatMap (fun b => (List.range 256).map b.getLsbD)

/-- The 36 800 bits written: code-word bits 64 to 36 863 (R98). -/
def writtenBits (body : List Byte) : List Bool := (wordBits (codeWord body)).drop 64

/-- The 4120 bytes that a code word's information bits carry (R98, R127). -/
def wordBytes (w : List (BitVec 256)) : List Byte := msbBytes 4120 ((wordBits w).drop 64)

/-! ## The decoder (R100) -/

/-- A message of 6 bits. -/
def sat6 (v : Int) : Int := clampI (-31) 31 v

/-- The decoder's memory: the sum at each bit of its channel value and its messages, and the message of each check to each
of its bits, by ((block row × 32) + place in the row) × 256 + row. -/
structure LdpcMem where
  post : Array Int
  msgs : Array Int

/-- What a check sends to one of its bits: the product of the signs and the least magnitude of the others, less the offset of
1 LSB (R100). -/
def checkMsg (others : List Int) : Int :=
  let neg := others.foldl (fun b v => if v < 0 then !b else b) false
  let least := others.foldl (fun m v => min m v.natAbs) 31
  let mag : Int := ((least - 1 : Nat) : Int)
  if neg then -mag else mag

/-- One check of a layer. -/
def LdpcMem.check (m : LdpcMem) (i : Nat) (row : List (Nat × Nat)) (r : Nat) : LdpcMem :=
  let spot := fun (e : Nat × Nat) => e.1 * 256 + (r + e.2) % 256
  let key := fun (k : Nat) => (i * 32 + k) * 256 + r
  let ins := row.zipIdx.map (fun (e, k) => sat6 (m.post.getD (spot e) 0 - m.msgs.getD (key k) 0))
  row.zipIdx.foldl (fun m (e, k) =>
    let out := checkMsg (ins.eraseIdx k)
    { post := m.post.setIfInBounds (spot e) (ins.getD k 0 + out), msgs := m.msgs.setIfInBounds (key k) out }) m

/-- One layer: a block row (R100). -/
def LdpcMem.layer (m : LdpcMem) (i : Nat) : LdpcMem :=
  let row := ldpcRow i
  (List.range 256).foldl (fun m r => m.check i row r) m

/-- The hard decisions: 1 where the sum is negative (R97). -/
def LdpcMem.hard (m : LdpcMem) : List (BitVec 256) :=
  (List.range 144).map (fun j => blockOf ((List.range 256).map (fun r => decide (m.post.getD (j * 256 + r) 0 < 0))))

/-- Local iterations, which end early at a zero syndrome (R100). -/
def LdpcMem.iterate : Nat → LdpcMem → LdpcMem
  | 0, m => m
  | n + 1, m =>
    let m := (List.range 15).foldl LdpcMem.layer m
    if ldpcUnsatisfied m.hard = 0 then m else m.iterate n

/-- The decoder before its first iteration: no message sent. -/
def ldpcEmpty : LdpcMem := { post := #[], msgs := Array.replicate 122880 0 }

/-- The channel values of a code word put in, with the messages kept from the last global iteration; the 64 pad bits get +31
(R100). -/
def LdpcMem.load (m : LdpcMem) (llr : Array Int) : LdpcMem :=
  let chan := fun (b : Nat) => if b < 64 then (31 : Int) else llr.getD (b - 64) 0
  let base : Array Int := Array.ofFn (fun b : Fin 36864 => chan b)
  let post := (List.range 15).foldl (fun p i =>
    (ldpcRow i).zipIdx.foldl (fun p (e, k) =>
      (List.range 256).foldl (fun (p : Array Int) r =>
        let b := e.1 * 256 + (r + e.2) % 256
        p.setIfInBounds b (p.getD b 0 + m.msgs.getD ((i * 32 + k) * 256 + r) 0)) p) p) base
  { m with post := post }

/-- What the decoder tells the detector of each bit written (R96): its own share of the sum, in 6 bits. -/
def LdpcMem.aPriori (m : LdpcMem) (llr : Array Int) : Array Int :=
  Array.ofFn (fun b : Fin 36800 => sat6 (m.post.getD (b + 64) 0 - llr.getD b 0))

end Sys2Proof.Machine
end

