-- ==== Sys2Proof/Machine/Encoder.lean ====
section
/-! DEFINITION. What the write encoder sends (R126-R129, R137, R167) and what the PN2 makes of it (R138). -/

namespace Sys2Proof.Machine

/-! ## The fields of a fragment (R126, R129) -/

/-- The 2T pattern 1100b, starting with 1 (R126). -/
def pattern2T (i : Nat) : Bool := decide (i % 4 < 2)

/-- The bits of a pattern of n bits, msb first. -/
def patternBits (n v : Nat) : List Bool := (List.range n).map (fun i => v.testBit (n - 1 - i))

/-- The fragment number of a continuation and its inverse (R129). -/
def fragmentMark (n : Nat) : List Bool := patternBits 8 (16 * n + (15 - n))

/-- The bits of a fragment in the order written (R126, R129), with the code-word bits it carries. -/
def fragmentBits (sync resync frag frags : Nat) (code : List Bool) : List Bool :=
  (if frag = 0 then (List.range 128).map pattern2T ++ patternBits 32 sync
   else (List.range 32).map pattern2T ++ patternBits 16 resync ++ fragmentMark frag) ++ code ++
  (if frag + 1 = frags then (List.range 16).map pattern2T else [])

/-- A gate block of the write lane (R44): the actuator, the write-data sub-lane, the head, and the sample it refers to. -/
def gateBlock (k : BlockKind) (a head : Nat) (at_ : Word) : BitVec 64 :=
  ({ kind := k, act := a, sublane := 5, ratioChange := false, headChange := false, head := head, sampleIndex := at_ } :
    ControlBlock).word

/-- What the encoder sends for a fragment (R137, R167): the write-gate-on block at its first bit, its bits, and the write-gate-off
block one past its last. -/
def fragmentItems (a head : Nat) (first past : Word) (bits : List Bool) : List WriteItem :=
  [.gate (gateBlock .gateOn a head first), .bits bits, .gate (gateBlock .gateOff a head past)]

/-! ## Precompensation (R138) -/

/-- Whether bit n is a transition. The bits outside the fragment make none (DESIGN CHOICE: log 192). -/
def transition (b : Array Bool) (n : Int) : Bool :=
  if n < 1 then false
  else
    match b[n.toNat]?, b[(n - 1).toNat]? with
    | some x, some y => x != y
    | _, _ => false

/-- The index c of the shift of a transition at bit n (R138). -/
def shiftIndex (b : Array Bool) (n : Int) : Nat :=
  (if transition b (n + 1) then 4 else 0) + (if transition b (n - 1) then 2 else 0) + (if transition b (n - 2) then 1 else 0)

/-- The transitions of a fragment as the PN2 writes them (R138): the bit of each, and its delay in 1/64 bit. -/
def fluxOf (pc : List Byte) (bits : List Bool) : List (Nat × Int) :=
  let b := bits.toArray
  ((List.range bits.length).filter (fun (n : Nat) => transition b n)).map (fun (n : Nat) => (n, fldI pc (shiftIndex b n) 1))

end Sys2Proof.Machine
end

