-- ==== Sys2Proof/Machine/Media.lean ====
section
/-! DEFINITION. What the channel, the write path and the sequencers share: parameter sets (R104, R105), zone entries and
the layout of a track (R121-R125), the sector CRC (R128), result words (R108), cut write gates (R142) and sectors that
end unread (R27, R71). -/

namespace Sys2Proof.Machine

/-! ## CRC-64 (R128) -/

/-- One bit of the CRC-64 of ECMA-182, msb first. -/
def crc64Bits : Nat → BitVec 64 → BitVec 64
  | 0, c => c
  | n + 1, c => crc64Bits n (if c.getLsbD 63 then (c <<< 1) ^^^ 0x42F0E1EBA9EA3693 else c <<< 1)

/-- CRC-64 of R128: start and final XOR all ones, msb first. -/
def crc64 (m : List Byte) : BitVec 64 :=
  ~~~(m.foldl (fun (c : BitVec 64) (b : Byte) => crc64Bits 8 (c ^^^ ((b.setWidth 64 : BitVec 64) <<< 56))) 0xFFFFFFFFFFFFFFFF)

/-- The 8-byte physical sector address (R128), most significant byte first. -/
def Psa.bytes (a : Psa) : List Byte :=
  (leBytes 8 (a.act % 2 * 2 ^ 56 + a.head % 16 * 2 ^ 52 + a.track % 2 ^ 32 * 2 ^ 20 + a.pos % 4096 * 2 ^ 8)).reverse

/-- The CRC bytes of a sector, most significant byte first (R127). -/
def sectorCrc (a : Psa) (body : List Byte) : List Byte := (leBytes 8 (crc64 (a.bytes ++ body.take 4112)).toNat).reverse

/-- Whether the 4120 bytes of a code word carry the CRC of their address (R101). -/
def sectorCrcOk (a : Psa) (body : List Byte) : Bool := (body.drop 4112).take 8 == sectorCrc a body

/-! ## Parameter sets (R104, R105) -/

/-- Twenty taps with one of them set. -/
def tapBytes (k v : Nat) : List Byte := (List.range 20).flatMap (fun i => leBytes 2 (if i = k then v else 0))

/-- The default set without its CRC. -/
def defaultSetBody : List Byte :=
  tapBytes 9 256 ++ tapBytes 9 256 ++ tapBytes 9 512 ++ tapBytes 9 512 ++
  [0x50, 0x30, 0x10, 16, 0x40, 0, 0, 16] ++ List.replicate 16 0 ++ List.replicate 8 64 ++
  [0, 0, 0, 0, 0, 0, 0, 16, 3, 8, 5, 11, 9, 1, 3, 0] ++ List.replicate 44 0

/-- A body with its CRC-32C appended. -/
def withCrc (b : List Byte) : List Byte := b ++ leBytes 4 (crc32c b).toNat

/-- The parameter set of a number (head × 32 + zone) of a channel. -/
def ChanSt.set (c : ChanSt) (n : Nat) : List Byte := mapGet (fun _ => withCrc defaultSetBody) c.sets n

/-- A zone table entry by head × 32 + zone; an entry never written is unused (R121). -/
def defaultZoneBody : List Byte :=
  List.replicate 11 0 ++ [8, 0, 0] ++ leBytes 2 256 ++ leBytes 2 4352 ++ leBytes 2 256 ++ leBytes 4 230400 ++
  leBytes 2 4352 ++ leBytes 2 0

/-- The zone table entry of a set number. -/
def ChanSt.zone (c : ChanSt) (n : Nat) : List Byte := mapGet (fun _ => withCrc defaultZoneBody) c.zones n

/-- The write preset of a head and band where it has not been written (R139), by head × 4 + band. -/
def defaultPreset (k : Nat) : List Byte := [([176, 160, 152, 144] : List Byte).getD (k % 4) 0, 60, 12, 0]

/-- The precompensation entry and the write preset of a head (R138, R139). -/
def ChanSt.precompOf (c : ChanSt) (k : Nat) : List Byte := mapGet (fun _ => List.replicate 8 0) c.precomp k
def ChanSt.presetOf (c : ChanSt) (k : Nat) : List Byte := mapGet defaultPreset c.presets k

/-- Signed fields from an offset that all lie within bounds. -/
def fieldsIn (b : List Byte) (off size count : Nat) (lo hi : Int) : Bool :=
  (List.range count).all (fun i => let v := fldI b (off + size * i) size; lo ≤ v && v ≤ hi)

/-- One unsigned byte field within bounds. -/
def byteIn (b : List Byte) (off lo hi : Nat) : Bool := lo ≤ fldU b off 1 && fldU b off 1 ≤ hi

/-- The ratio of a set or zone entry gives a sampling rate above fs_max of the port (R85): CT_CYCLES_PER_REV × M / N
bits per revolution at SWEEP_RPM. -/
def State.rateOver (s : State) (p m n : Nat) : Bool :=
  s.rd (Obj.FS_MAX p) * 1000000 * 60 * n < s.rd (Obj.CT_CYCLES_PER_REV p) * m * s.rd Obj.SWEEP_RPM

/-- The checks of R105 on a parameter set. -/
def State.setOk (s : State) (p : Nat) (b : List Byte) : Bool :=
  fldU b 252 4 == (crc32c (b.take 252)).toNat &&
  fieldsIn b 0 2 40 (-512) 511 && fieldsIn b 80 2 40 (-2048) 2047 &&
  byteIn b 163 4 63 && byteIn b 167 4 63 && (List.range 8).all (fun c => byteIn b (184 + c) 1 255) &&
  decide (fldI b 192 2 ≤ 32704) && fldU b 195 1 == 0 &&
  decide (1 ≤ fldU b 196 2) && decide (fldU b 196 2 ≤ 16383) && byteIn b 198 1 255 && byteIn b 199 1 255 &&
  byteIn b 200 0 15 && byteIn b 201 0 15 && byteIn b 202 0 15 && byteIn b 203 0 15 && byteIn b 204 0 19 &&
  byteIn b 205 1 15 && byteIn b 206 0 3 && (fldU b 207 1 == 0xA5 || fldU b 207 1 == 0) &&
  ((b.drop 208).take 44).all (· == 0) && !s.rateOver p (fldU b 196 2) (fldU b 198 1)

/-! ## Layout of a track (R122-R124) -/

/-- The fields of a zone entry that place sectors. -/
structure Zone where
  first : Nat
  tracks : Nat
  m : Nat
  n : Nat
  cal : Nat
  spt : Nat
  lead : Nat
  trail : Nat
  gap : Nat
  step : Nat
  offset : Nat
  delay : Nat
  deriving DecidableEq, Repr

/-- A zone entry read (R121). -/
def zoneOf (b : List Byte) : Zone where
  first := fldU b 0 4
  tracks := fldU b 4 4
  m := fldU b 8 2
  n := fldU b 10 1
  cal := fldU b 11 1
  spt := fldU b 12 2
  lead := fldU b 14 2
  trail := fldU b 16 2
  gap := fldU b 18 2
  step := fldU b 20 4
  offset := fldU b 24 2
  delay := fldU b 26 2

/-- A fragment of a sector: its first bit from index, overhead before the code-word bits, the code-word bits it carries,
and its end, postamble included in the last. -/
structure Frag where
  pos : Nat
  ovh : Nat
  take : Nat
  fin : Nat
  deriving DecidableEq, Repr

/-- WEDGE_POS(k) (R122), with ct cycles of the clock track per revolution. -/
def Zone.wedge (z : Zone) (ct k : Nat) : Nat := k * ct * z.m / (z.n * 512)

/-- The wedge gap that a bit lies in or that follows it: its start and end (R122). Before the next index stands the step region
and no gap. -/
def Zone.gapAt (z : Zone) (ct pos : Nat) : Nat × Nat :=
  let k := pos * z.n * 512 / (ct * z.m)
  let g := fun k => (z.wedge ct k - (if k = 512 then 0 else z.lead), z.wedge ct k + z.trail)
  if pos < (g k).2 then g k else if pos < (g (k + 1)).2 then g (k + 1) else g (k + 2)

/-- The fragments of one sector from a bit position (R123), with the code-word bits left; `none` for a layout error. -/
def Zone.sector (z : Zone) (ct : Nat) : Nat → Nat → Nat → List Frag → Option (List Frag)
  | 0, _, _, _ => none
  | fuel + 1, pos, rest, done =>
    let (lo, hi) := z.gapAt ct pos
    if lo ≤ pos && done.isEmpty then z.sector ct fuel hi rest done
    else
      let ovh := if done.isEmpty then 160 else 56
      if pos + ovh + rest + 16 ≤ lo then some (done ++ [⟨pos, ovh, rest, pos + ovh + rest + 16⟩])
      else
        let t0 := lo - pos - ovh
        let t := if rest < t0 + 1024 then rest - 1024 else t0
        if t < 1024 || lo < pos + ovh + t then (if done.isEmpty then z.sector ct fuel hi rest done else none)
        else z.sector ct fuel hi (rest - t) (done ++ [⟨pos, ovh, t, pos + ovh + t⟩])

/-- The end of a sector. -/
def fragsEnd (l : List Frag) : Nat := (l.getLast?.map Frag.fin).getD 0

/-- The fragments of the sectors from position `pos` on: as many as asked for (R123). -/
def Zone.sectors (z : Zone) (ct : Nat) : Nat → Nat → Option (List (List Frag))
  | 0, _ => some []
  | n + 1, pos =>
    match z.sector ct 520 pos 36800 [] with
    | none => none
    | some fs =>
      match z.sectors ct n (fragsEnd fs + z.gap) with
      | none => none
      | some rest => some (fs :: rest)

/-- The whole layout of a zone, or `none` for a layout error (R123). -/
def Zone.layout (z : Zone) (ct : Nat) : Option (List (List Frag)) :=
  match z.sectors ct z.spt z.offset with
  | none => none
  | some l =>
    if (l.getLast?.map fragsEnd).getD 0 * z.n + z.step * z.n ≤ ct * z.m then some l else none

/-- Cells of the servo field and its margin that GAP_TRAIL covers (R193): ceil(716 × B / 8388608) + 64. -/
def Zone.trailMin (z : Zone) (ct : Nat) : Nat :=
  (716 * ct * z.m + 8388608 * z.n - 1) / (8388608 * z.n) + 64

/-- Firmware refuses a zone entry (R124, R193). -/
def State.zoneBad (s : State) (p : Nat) (b : List Byte) : Bool :=
  let z := zoneOf b
  let ct := s.rd (Obj.CT_CYCLES_PER_REV p)
  fldU b 28 4 != (crc32c (b.take 28)).toNat || z.n == 0 || z.m == 0 || ct == 0 || z.offset < z.trail ||
  s.rateOver p z.m z.n || z.trail < z.trailMin ct ||
  (match z.layout ct with
   | none => true
   | some l => l.any (fun f => 3 < f.length))

/-- The fragments of one sector position, none where the position does not exist. -/
def Zone.position (z : Zone) (ct pos : Nat) : List Frag :=
  if z.n = 0 ∨ z.m = 0 ∨ ct = 0 ∨ z.spt ≤ pos then []
  else
    match z.sectors ct (pos + 1) z.offset with
    | none => []
    | some l => (l.getLast?).getD []

/-- Data tracks of a shingled band (R151). -/
def Zone.bandTracks (z : Zone) : Nat := (65536 + z.spt - 1) / z.spt

/-- Bands of a zone of a head (R149-R151). -/
def Zone.bands (z : Zone) (head zone : Nat) : Nat :=
  if z.tracks = 0 || z.spt = 0 then 0
  else (z.tracks - (z.cal + if head ≤ 1 ∧ zone = 0 then 512 else 0)) / (z.bandTracks + 1)

/-- The first track of a band (R151). -/
def Zone.bandStart (z : Zone) (head zone band : Nat) : Nat :=
  z.first + z.cal + (if head ≤ 1 ∧ zone = 0 then 512 else 0) + band * (z.bandTracks + 1)

/-! ## Result words (R108, R109) -/

/-- The code of a reader mode (R91). -/
def ReaderMode.code : ReaderMode → Nat
  | .both => 0
  | .aOnly => 1
  | .bOnly => 2

/-- What the decoder adds to a result word. -/
structure Verdict where
  code : Nat
  offset : Option Int := none
  iters : Nat := 0
  first : Nat := 0
  last : Nat := 0
  data : List Byte := []
  /-- Some position of ladder step 6 gave a zero syndrome and failed its CRC (R101). -/
  miscorrect : Bool := false
  deriving DecidableEq, Repr

/-- The result word of a sector (R108). -/
def resultWord (x : Sector) (v : Verdict) : Nat :=
  v.code * 2 ^ 56 + x.step * 2 ^ 52 + x.mode.code * 2 ^ 50 + (if x.alt then 2 ^ 49 else 0) + (if x.held then 2 ^ 48 else 0) +
  (match v.offset with | some o => (o % 256).toNat | none => 0x7F) * 2 ^ 40 + min v.iters 255 * 2 ^ 32 +
  min v.first 4095 * 2 ^ 20 + min v.last 4095 * 2 ^ 8 + min x.metric 255

/-- A result of 00h or 01h delivers data (R109). -/
def delivers (code : Nat) : Bool := code ≤ 1

/-! ## Raw windows (R592) -/

/-- The fields of RAW_TARGET (R592). -/
structure RawTarget where
  head : Nat
  zone : Nat
  track : Nat
  pos : Nat
  count : Nat
  op : Nat
  reader : Nat
  deriving DecidableEq, Repr

/-- A target read from its 12 bytes. -/
def rawTarget (b : List Byte) : RawTarget where
  head := fldU b 0 1
  zone := fldU b 1 1
  track := fldU b 2 4
  pos := fldU b 6 2
  count := fldU b 8 2
  op := fldU b 10 1
  reader := fldU b 11 1

/-- The target a window holds. -/
def State.rawTargetOf (s : State) (p a : Nat) : RawTarget := rawTarget (s.rdBlob (Obj.RAW_TARGET p a))

/-- A sector's result kept by the raw operation in progress whose target holds it (R592). -/
def State.rawTake (s : State) (p a : Nat) (x : Sector) (v : Verdict) : State :=
  let t := s.rawTargetOf p a
  let k := chanKey p a
  let i := x.psa.pos - t.pos
  if (s.getRaw k).op.isSome && x.psa.head == t.head && x.psa.track == t.track && decide (t.pos ≤ x.psa.pos) && decide (i < t.count) then
    s.modRaw k (fun r => { r with
      words := (i, resultWord x v) :: r.words.filter (fun e => e.1 != i)
      read := (i, if delivers v.code then v.data else []) :: r.read.filter (fun e => e.1 != i) })
  else s

/-! ## Result words (R108, R120) -/

/-- A result word posted: LAST_RESULT and LAST_FAILED_RESULT (R120), the words at the ticket's addresses (R169), and the
counters of the code. The data are written only for DECODED and DECODED_OFFSET (R101). -/
def State.postResult (s : State) (p a : Nat) (x : Sector) (v : Verdict) : State :=
  let w := resultWord x v
  let s := s.wr (Obj.LAST_RESULT p a) w
  let s := if delivers v.code then s else s.wr (Obj.LAST_FAILED_RESULT p a) w
  let s := if v.code = 1 then s.incSave (Obj.OFFSET_DECODES p a) else s
  let s := if v.code = 3 then s.incSave (Obj.CRC_FAILURES p a) else s
  let s := if v.code = 6 then s.incSave (Obj.TIMING_SLIPS p a) else s
  match x.ticket with
  | none => s
  | some t =>
    let s := if delivers v.code && !v.data.isEmpty then (s.engWrite s.pair.active t.data v.data).1 else s
    (s.engWrite s.pair.active t.result (leBytes 8 w)).1

/-- The result of a ticket is posted: the ticket leaves the queue, and a wait under Ah may end (R168, R169). -/
def ChanSt.answered (c : ChanSt) (t : Ticket) : ChanSt :=
  { c with
    tickets := c.tickets.filter (fun q => q.id != t.id)
    ticketLog := c.ticketLog.map (fun e => if e.1 = t.id then (e.1, true) else e) }

/-- The check result of a feed is posted, and a wait under Bh may end (R168). -/
def ChanSt.checkPosted (c : ChanSt) (t : Ticket) : ChanSt :=
  { c with feedLog := c.feedLog.map (fun e => if e.1 = t.id then (e.1, true) else e) }

/-- A line read ends (R110, R120, R184): its counters, LINE_FAIL for a code other than 00h and 01h together with the bits of
the event, the result word, and the ticket leaves the queue. One that ended as not read is to be planned again (R27). -/
def State.lineEnd (s : State) (p a : Nat) (x : Sector) (v : Verdict) (flags : List Flag := []) : State :=
  let line := x.step = 0 && !x.held
  let s := (s.postResult p a x v).rawTake p a x v
  let s := if line then s.incSave (Obj.SECTORS_READ p a) else s
  let fail := line && !delivers v.code
  let s := if line then
      s.modPlan (chanKey p a) (fun l => if fail then { l with failed := l.failed + 1 } else { l with done := l.done + 1 })
    else s
  let s := if fail then s.incSave (Obj.LINE_FAILURES p a) else s
  let fs := flags ++ (if fail then [Flag.CH_LINE_FAIL] else [])
  let s := if fs.isEmpty then s else s.raise (.ch p a) fs
  s.modChan (chanKey p a) (fun c =>
    let c := match x.ticket with | some t => c.answered t | none => c
    { c with
      itemClean := c.itemClean && v.code == 0
      due := if line then (if v.code = 0x0A then [x.psa] else []) ++ c.due.filter (· != x.psa) else c.due })

/-- A sector that ends without a decode. -/
def verdictOf (code : Nat) : Verdict := { code := code }

/-! ## Arms, failed writes and cut gates (R142, R166) -/

/-- The sector of an arm. -/
def Arm.sector (r : Arm) : Sector :=
  { psa := r.psa, mode := r.mode, tag := (r.feed.map Feed.tag).getD [],
    ticket := match r.ticket, r.feed with
      | some t, _ => some t
      | none, some f => some { id := f.id, data := 0, result := f.result, paired := true }
      | none, none => none }

/-- A sector that is a failed write (R142, R166): its check can only fail, and its position is void when a gate of it was
open. -/
def State.failWrite (s : State) (p a : Nat) (r : Arm) (cut : Bool) : State :=
  s.modChan (chanKey p a) (fun c =>
    { c with
      raw := if c.raw.any (fun x => x.psa == r.psa) then
          c.raw.map (fun x => if x.psa == r.psa then { x with abort := some 0x0A } else x)
        else c.raw ++ [{ r.sector with mode := .bOnly, abort := some 0x0A }]
      feeds := match r.feed with
        | some f => c.feeds.filter (fun g => g.id != f.id)
        | none => c.feeds
      void := if cut && !c.void.contains r.psa then r.psa :: c.void else c.void })

/-- The write gate of an actuator turned off (R142): the sector is a failed write at a void position, the bit is set and
the cut counted. With no gate open only the PN2's write current is off. -/
def State.cutGate (s : State) (p a : Nat) (f : Flag) : State :=
  let c := s.getChan (chanKey p a)
  let s := s.modPn2 p (fun q => q.modAct a (fun x => { x with gate := false }))
  if c.gate then
    let s := s.modChan (chanKey p a) (fun c => { c with gate := false, gateCut := true, writeCur := none, wrOut := [] })
    let s := match c.writeCur with | some r => s.failWrite p a r true | none => s
    (s.incSave (Obj.WRITE_INTERRUPTS p a)).raise (.wr p a) [f]
  else s

/-- Both gates of a port (R68, R71, R74). -/
def State.cutPort (s : State) (p : Nat) : State := (s.cutGate p 0 .WR_GATE_CUT).cutGate p 1 .WR_GATE_CUT

/-! ## Banks and taps (R93, R94, R105) -/

/-- Taps of the combiner of a set. -/
def setTaps (b : List Byte) (off : Nat) : List Int := (List.range 20).map (fun k => fldI b (off + 2 * k) 2)

/-- The taps reloaded from the set in the active bank, at the start of each plan item (R94, R88). -/
def ChanSt.itemStart (c : ChanSt) : ChanSt :=
  let b := if c.activeSet.isNone then [] else c.activeBytes
  { c with
    tapsA := if b.isEmpty then [] else setTaps b 80, tapsB := if b.isEmpty then [] else setTaps b 120
    freq := 0, fallback := false, diverged := 0, itemSum := 0, itemCount := 0, itemClean := true, wrFail := false }

/-- The banks swapped when a swap is asked for and the channel is between sectors (R105, R160). A set still being loaded is
waited for. -/
def ChanSt.trySwap (c : ChanSt) : ChanSt :=
  if c.swap && c.rx.isNone && c.writeCur.isNone && c.load != BankLoad.loading then
    ({ c with
      swap := false, setBad := c.nextBad, nextBad := c.setBad, load := .idle
      activeSet := c.nextSet, activeBytes := c.nextBytes, ratioWait := c.nextWait
      nextSet := c.activeSet, nextBytes := c.activeBytes, nextWait := c.ratioWait }).itemStart
  else c

/-! ## Position prediction (R131) -/

/-- Cycles of the clock track from wedge 0 of a head to the last clock-track frame. -/
def State.ctSince (s : State) (p a head : Nat) : Nat :=
  let c := s.getChan (chanKey p a)
  let ct := s.rd (Obj.CT_CYCLES_PER_REV p)
  (c.ctCycles + ct - mapGet (fun _ => 0) c.indexPhase head % ct) % ct

/-- Sample index of a bit of the track in the current sweep (R131): the index of the last clock-track frame, taken back to
wedge 0 of the head. -/
def State.bitIndex (s : State) (p a head bit : Nat) (z : Zone) : Word :=
  (s.getChan (chanKey p a)).ctIndex - BitVec.ofNat 32 (s.ctSince p a head * z.m / z.n) + BitVec.ofNat 32 bit

/-- What that sample index leaves of the predicted position, in 1/64 bit. -/
def State.bitFraction (s : State) (p a head : Nat) (z : Zone) : Int :=
  -((s.ctSince p a head * z.m % z.n * 64 / z.n : Nat) : Int)

/-! ## Arms and banks (R105, R160) -/

/-- The set that a newly armed sector uses: the one in the inactive bank while a swap waits. -/
def ChanSt.armSet (c : ChanSt) : Option Nat := if c.swap then c.nextSet else c.activeSet

end Sys2Proof.Machine
end

