-- ==== Sys2Proof/Machine/Front.lean ====
section
/-! DEFINITION. The data channel's path from samples to a verdict: reader alignment (R83), interpolation (R86), the timing loop
(R87-R89), FIRs and combiner (R90-R94), the detector (R95-R97), sync search (R133, R134), and decoding over the candidate
positions (R100, R101, R114, R135, R136). -/

namespace Sys2Proof.Machine

/-! ## Filters (R86, R90, R91) -/

/-- Sum of products of two lists. -/
def dot : List Int → List Int → Int
  | a :: l, b :: m => a * b + dot l m
  | _, _ => 0

/-- The polyphase interpolator at one of its 64 phases over the 8 samples about the pointer, newest first (R86). Its coefficients
are fixed in the part and not given: free values. -/
def interpolate (phase : Nat) (xs : List Int) : Int :=
  clampI (-64) 63 (roundDiv (dot ((List.range 8).map (Config.interpTap phase)) xs) Config.interpScale)

/-- One reader's FIR (R90). -/
def fir (taps xs : List Int) : Int := clampI (-255) 255 (roundDiv (dot taps xs) 256)

/-- Taps in effect in a reader mode (R91). -/
def modeTaps (m : ReaderMode) (a b : List Int) : List Int × List Int :=
  match m with
  | .both => (a, b)
  | .aOnly => (a.map (fun w => clampI (-2048) 2047 (2 * w)), [])
  | .bOnly => ([], b.map (fun w => clampI (-2048) 2047 (2 * w)))

/-- The combiner over FIR outputs, newest first (R91). -/
def combine (m : ReaderMode) (a b : List Int) (us : List (Int × Int)) : Int :=
  let (ta, tb) := modeTaps m a b
  clampI (-127) 127 (roundDiv (dot ta (us.map Prod.fst) + dot tb (us.map Prod.snd)) 1024)

/-! ## Settings of a pass and the target (R95, R114) -/

/-- Settings of one pass of a sector: its set, whether its taps adapt and the factor on MU, its mode and target. -/
structure FoldSet where
  set : List Byte
  running : Bool
  gain : Nat := 1
  mode : ReaderMode
  alt : Bool
  deriving DecidableEq, Repr

/-- TARGET_AMP and G1-G3 in force (R95). -/
def FoldSet.target (q : FoldSet) : Int × Int × Int × Int :=
  let g := if q.alt then 164 else 160
  (fldU q.set (g + 3) 1, fldI q.set g 1, fldI q.set (g + 1) 1, fldI q.set (g + 2) 1)

/-- A channel bit as +1 or −1 (R95). -/
def pm (b : Bool) : Int := if b then 1 else -1

/-- 64 times the ideal level for bits n, n−1, n−2 and n−3 (R95). -/
def FoldSet.ideal64 (q : FoldSet) (b0 b1 b2 b3 : Bool) : Int :=
  let (amp, g1, g2, g3) := q.target
  amp * (64 * pm b0 + g1 * pm b1 + g2 * pm b2 + g3 * pm b3)

/-- 64 times the ideal level for the newest of a list of decisions. -/
def FoldSet.idealOf (q : FoldSet) : List Bool → Option Int
  | b0 :: b1 :: b2 :: b3 :: _ => some (q.ideal64 b0 b1 b2 b3)
  | _ => none

/-! ## The trellis (R96) -/

/-- The metric of a branch from state s with bit b0, from y(n), y(n−1) and y(n−2) (R96), times LLR_SCALE and in units of 2^-36 of a
message of the decoder (R97). A state is (a(n−1) … a(n−5)), a(n−1) its highest bit. -/
def FoldSet.branch (q : FoldSet) (y0 y1 y2 : Int) (s : Nat) (b0 : Bool) : Int :=
  let b := fun k => s.testBit (5 - k)
  let e0 := 64 * y0 - q.ideal64 b0 (b 1) (b 2) (b 3)
  let e1 := 64 * y1 - q.ideal64 (b 1) (b 2) (b 3) (b 4)
  let e2 := 64 * y2 - q.ideal64 (b 2) (b 3) (b 4) (b 5)
  let c := (if b0 then 4 else 0) + (if b 1 then 2 else 0) + (if b 2 then 1 else 0)
  let w := 128 * e0 - fldI q.set (168 + 2 * c) 1 * e1 - fldI q.set (169 + 2 * c) 1 * e2
  w * w * fldU q.set (184 + c) 1 * fldU q.set 199 1

/-- The state after a state and a bit. -/
def trellisNext (s : Nat) (b0 : Bool) : Nat := (if b0 then 16 else 0) + s / 2

/-- One step forward: the least metric into each state, with the state it comes from (R96). A 1 costs what the decoder has told
of the bit. -/
def FoldSet.forward (q : FoldSet) (y0 y1 y2 apri : Int) (alpha : List Int) : List (Int × Nat) :=
  (List.range 32).map (fun t =>
    let b0 := decide (16 ≤ t)
    let cost := fun s => alpha.getD s 0 + q.branch y0 y1 y2 s b0 + (if b0 then apri * 2 ^ 36 else 0)
    let s0 := t % 16 * 2
    if cost (s0 + 1) < cost s0 then (cost (s0 + 1), s0 + 1) else (cost s0, s0))

/-- One step backward: the least metric out of each state. -/
def FoldSet.backward (q : FoldSet) (y0 y1 y2 apri : Int) (beta : List Int) : List Int :=
  (List.range 32).map (fun s =>
    let cost := fun b0 => beta.getD (trellisNext s b0) 0 + q.branch y0 y1 y2 s b0 + (if b0 then apri * 2 ^ 36 else 0)
    min (cost false) (cost true))

/-- The least metric over the branches of one bit value. -/
def FoldSet.best (q : FoldSet) (y0 y1 y2 : Int) (alpha beta : List Int) (b0 : Bool) : Int :=
  let costs := (List.range 32).map (fun s => alpha.getD s 0 + q.branch y0 y1 y2 s b0 + beta.getD (trellisNext s b0) 0)
  costs.tail.foldl min (costs.headD 0)

/-- The place of the least of a list. -/
def leastAt (l : List Int) : Nat := (l.zipIdx.foldl (fun (b : Int × Nat) e => if e.1 < b.1 then e else b) (l.headD 0, 0)).2

/-! ## One bit through the channel (R86-R94) -/

/-- Where a bit of a fragment lies (R87, R94, R126, R129): `none` of them outside the fragment. -/
def fragZone (first last : Bool) (len : Nat) (i : Int) : SampleZone :=
  if i < 0 ∨ (len : Int) ≤ i then .idle
  else if first && i < 128 then .preamble
  else if !first && i < 32 then .shortPreamble
  else if last && (len : Int) ≤ i + 16 then .postamble
  else .data

/-- The known decisions of a preamble from its bit i back, newest first. -/
def knownBits (i : Nat) : List Bool := ((List.range (min (i + 1) 4)).map (fun k => pattern2T (i - k)))

/-- A bit in the units of the loop's phase, in which 1/64 of err × 2^-15 is whole: how far an err of 1 shifts the phase is not given
(R87). -/
def loopBit : Int := 2 ^ (27 + Config.loopScale)

/-- The channel's arithmetic over a sector: the loop, the taps, the newest interpolated samples and FIR outputs, the combiner
outputs, 64 times the loop's last ideal level, the detector's metrics and survivors, and the decisions 24 bits deep, newest first. -/
structure Fold where
  phase : Int
  freq : Int
  tapsA : List Int
  tapsB : List Int
  xs : List (Int × Int) := []
  us : List (Int × Int) := []
  ys : List Int := []
  was : Int := 0
  zones : List SampleZone := []
  alpha : List Int := List.replicate 32 0
  paths : List (List Bool) := List.replicate 32 []
  decs : List Bool := []
  slip : Bool := false
  sum : Nat := 0
  count : Nat := 0

/-- Sign-sign LMS over one group of taps (R93); the anchor, when given, is left alone. -/
def lms (mu : Int) (e : Int) (us : List Int) (anchor : Option Nat) : Nat → List Int → List Int
  | _, [] => []
  | k, w :: t =>
    (if anchor = some k then w else clampI (-2048) 2047 (w - mu * e.sign * (us.getD k 0).sign)) :: lms mu e us anchor (k + 1) t

/-- The anchor of a group of taps: COMB_A's, or COMB_B's in mode B only (R93). -/
def FoldSet.anchor (q : FoldSet) (b : Bool) : Option Nat :=
  if b = (q.mode == .bOnly) then some (fldU q.set 204 1) else none

/-- Whether a group of taps adapts in the mode of the pass (R91, R93): group 0 COMB_A, group 1 COMB_B. -/
def FoldSet.adapts (q : FoldSet) (b : Bool) : Bool :=
  if b then (fldU q.set 206 1).testBit 1 && q.mode != .aOnly else (fldU q.set 206 1).testBit 0 && q.mode != .bOnly

/-- The taps after the error at one bit (R93). -/
def FoldSet.adapt (q : FoldSet) (f : Fold) (e : Int) (us : List (Int × Int)) : Fold :=
  let mu := fldU q.set 205 1 * q.gain
  { f with
    tapsA := if q.adapts false then lms mu e (us.map Prod.fst) (q.anchor false) 0 f.tapsA else f.tapsA
    tapsB := if q.adapts true then lms mu e (us.map Prod.snd) (q.anchor true) 0 f.tapsB else f.tapsB }

/-- The delay from a bit to the sample that bears on it most: FIR tap 9 and the anchor tap (R90, R93). -/
def FoldSet.delay (q : FoldSet) : Int := 9 + fldU q.set 204 1

/-- The interpolated samples at a bit (R83, R86): the samples about the pointer, which the phase delays (DEDUCED: log 74), with the
fraction of READER_B_OFFSET in reader B's phase. -/
def FoldSet.sampled (q : FoldSet) (xs : Array (Int × Int)) (fracB : Int) (phase i : Int) : Int × Int :=
  let take := fun (pick : Int × Int → Int) (ph : Int) =>
    let p := i + 64 + q.delay - ph / loopBit
    let l := (List.range 8).map (fun (k : Nat) => let j := p + 4 - k; if j < 0 then (0 : Int) else pick (xs.getD j.toNat (0, 0)))
    interpolate (ph % loopBit * 64 / loopBit).toNat l
  (take Prod.fst phase, take Prod.snd (phase + fracB * (loopBit / 64)))

/-- The detector at a new combiner output: its metrics, less the least of them, and its survivors of 28 bits. -/
def FoldSet.survive (q : FoldSet) (f : Fold) (y : Int) : List Int × List (List Bool) :=
  let fw := q.forward y (f.ys.headD 0) (f.ys.getD 1 0) 0 f.alpha
  let low := (fw.map Prod.fst).foldl min ((fw.map Prod.fst).headD 0)
  (fw.map (fun e => e.1 - low), fw.zipIdx.map (fun (e, t) => (decide (16 ≤ t) :: f.paths.getD e.2 []).take 28))

/-- The timing loop after a bit of a fragment (R87), with 64 times the ideal level of the decisions at the bit. -/
def FoldSet.loop (q : FoldSet) (f : Fold) (ct y d : Int) (acq : Bool) : Fold :=
  let kp := fldU q.set (if acq then 200 else 202) 1
  let ki := fldU q.set (if acq then 201 else 203) 1
  let err := f.ys.headD 0 * d - y * f.was
  let phase := f.phase + f.freq + err * 2 ^ (15 - kp)
  let freq := f.freq + err * 2 ^ (15 - ki)
  { f with
    phase := phase, freq := freq
    slip := f.slip || decide (500 * loopBit ≤ freq.natAbs * 1000000) || decide (2 * loopBit < (phase - ct * (loopBit / 64)).natAbs) }

/-- The error e(n) of R93 that is known at a bit, times 64, with the FIR outputs it belongs to: on a preamble that of the bit itself,
elsewhere that of the bit 24 before, where it was a bit of data. `ys` holds the combiner outputs, the newest first. -/
def FoldSet.errorAt (q : FoldSet) (zones : List SampleZone) (i : Nat) (ys : List Int) (us : List (Int × Int)) (path : List Bool) :
    Option (Int × List (Int × Int)) :=
  match zones.head? with
  | some .preamble | some .shortPreamble => (q.idealOf (knownBits i)).map (fun d => (64 * ys.headD 0 - d, us))
  | _ =>
    match zones[24]?, ys[24]? with
    | some SampleZone.data, some y => (q.idealOf (path.drop 24)).map (fun d => (64 * y - d, us.drop 24))
    | _, _ => none

/-- Whether the taps may move at a bit: not in a gap or the postamble (R94). -/
def SampleZone.adapts : SampleZone → Bool
  | .preamble | .shortPreamble | .data => true
  | .postamble | .idle => false

/-- One bit of a fragment through interpolators, FIRs, combiner, detector, loop and LMS (R86-R96); `ct` is the phase that the clock
track predicts, in 1/64 bit. -/
def FoldSet.step (q : FoldSet) (samples : Array (Int × Int)) (fracB ct : Int) (first last : Bool) (len : Nat) (f : Fold) (i : Int) :
    Fold :=
  let zone := fragZone first last len i
  let xs := (q.sampled samples fracB f.phase i :: f.xs).take 20
  let u := (fir (setTaps q.set 0) (xs.map Prod.fst), fir (setTaps q.set 40) (xs.map Prod.snd))
  let us := (u :: f.us).take 44
  let y := combine q.mode f.tapsA f.tapsB us
  let (alpha, paths) := q.survive f y
  let path := paths.getD (leastAt alpha) []
  let acq := zone == .preamble && decide (i < 96) || zone == .shortPreamble
  let bits := if acq then knownBits i.toNat ++ path.drop (i.toNat + 1) else path
  let d := (q.idealOf bits).getD 0
  let f1 := if zone = .idle then f else q.loop f ct y d acq
  let zones := (zone :: f.zones).take 25
  let err := q.errorAt zones i.toNat (y :: f.ys) us path
  let f2 := { f1 with
    xs := xs, us := us, ys := y :: f.ys, was := d, zones := zones, alpha := alpha, paths := paths
    decs := path.getD 24 false :: f.decs
    sum := match err with | some e => f.sum + e.1.natAbs | none => f.sum
    count := if err.isSome then f.count + 1 else f.count }
  match err with
  | some e => if q.running && zone.adapts then q.adapt f2 e.1 e.2 else f2
  | none => f2

/-! ## A sector through the channel -/

/-- Mean |e| of a pass in 1/4 LSB (R108). -/
def Fold.metric (f : Fold) : Nat := min 255 (f.sum / (16 * max f.count 1))

/-- Whether mean |e| exceeds a limit given in 1/4 LSB (R94). -/
def Fold.exceeds (f : Fold) (limit : Nat) : Bool := decide (limit * 16 * f.count < f.sum)

/-- Whether an adapted tap sits at its clamp (R94). -/
def FoldSet.clamped (q : FoldSet) (f : Fold) : Bool :=
  let stuck := fun (b : Bool) (l : List Int) =>
    q.adapts b && l.zipIdx.any (fun (w, k) => q.anchor b != some k && (w == -2048 || w == 2047))
  stuck false f.tapsA || stuck true f.tapsB

/-- What the channel makes of one fragment: the combiner outputs from 64 bits before it on, and the decisions, the first of which is
that of the bit 88 before it. -/
structure FragOut where
  ys : List Int
  decs : List Bool

/-- One fragment: from 64 bits before it to 32 after. -/
def FoldSet.fragment (q : FoldSet) (f : Fold) (samples : List (Int × Int)) (fracB ct : Int) (first last : Bool) (len : Nat) :
    Fold × FragOut :=
  let arr := samples.toArray
  let f0 : Fold := { phase := ct * (loopBit / 64), freq := f.freq, tapsA := f.tapsA, tapsB := f.tapsB, slip := f.slip, sum := f.sum, count := f.count }
  let f1 := (List.range (len + 96)).foldl (fun f (k : Nat) => q.step arr fracB ct first last len f ((k : Int) - 64)) f0
  (f1, { ys := f1.ys.reverse, decs := f1.decs.reverse })

/-- The fragments of a sector in order (R88): the loop starts each at the phase that the clock track predicts, PHASE_INIT for the
first. -/
def FoldSet.fragments (q : FoldSet) (fracB frac0 : Int) : Bool → List (FragSpan × List (Int × Int)) → Fold → Fold × List FragOut
  | _, [], f => (f, [])
  | first, (sp, xs) :: rest, f =>
    let (f, o) := q.fragment f xs fracB (fldI q.set 194 1 - (sp.frac - frac0)) first rest.isEmpty sp.len
    let (f, os) := q.fragments fracB frac0 false rest f
    (f, o :: os)

/-- One pass over a sector from given taps and frequency. -/
def FoldSet.pass (q : FoldSet) (fracB : Int) (l : List (FragSpan × List (Int × Int))) (freq : Int) (tapsA tapsB : List Int) :
    Fold × List FragOut :=
  q.fragments fracB ((l.head?.map (fun e => e.1.frac)).getD 0) true l { phase := 0, freq := freq, tapsA := tapsA, tapsB := tapsB }

/-! ## Sync marks (R133, R134) -/

/-- The better of two matches: fewer differing bits, then nearer, then earlier (R133). -/
def SyncMatch.better (m n : SyncMatch) : Bool :=
  m.diffs < n.diffs || m.diffs == n.diffs &&
    (m.offset.natAbs < n.offset.natAbs || m.offset.natAbs == n.offset.natAbs && m.offset < n.offset)

/-- The match accepted within ±6 bits (R133, R134). -/
def acceptSync (maxErr : Nat) (l : List SyncMatch) : Option Int :=
  ((l.filter (fun m => m.diffs ≤ maxErr && m.offset.natAbs ≤ 6)).foldl (fun (b : Option SyncMatch) m =>
    match b with
    | none => some m
    | some n => if m.better n then some m else some n) none).map SyncMatch.offset

/-- The decision of a bit of a fragment. -/
def FragOut.dec (o : FragOut) (i : Int) : Bool := if i + 88 < 0 then false else o.decs.getD (i + 88).toNat false

/-- A pattern compared with the decisions at every bit within a span of its predicted place. -/
def FragOut.compare (o : FragOut) (pattern : List Bool) (place : Int) (span : Nat) : List SyncMatch :=
  (List.range (2 * span + 1)).map (fun (k : Nat) =>
    let off : Int := (k : Int) - span
    { offset := off, diffs := (pattern.zipIdx.filter (fun (b, j) => o.dec (place + off + j) != b)).length })

/-- The sync search of a sector's first fragment (R133). -/
def FragOut.syncs (o : FragOut) (pattern : Nat) : List SyncMatch := o.compare (patternBits 32 pattern) 128 16

/-- The resync search of continuation fragment n: the fragment number must match as well (R129, R134). -/
def FragOut.resyncs (o : FragOut) (pattern n : Nat) : List SyncMatch :=
  (o.compare (patternBits 16 pattern) 32 6).filter (fun m =>
    (fragmentMark n).zipIdx.all (fun (b, j) => o.dec (48 + m.offset + j) == b))

/-! ## The detector over a code word (R96, R97) -/

/-- Combiner outputs at a place; 0 outside. -/
def outAt (ys : Array Int) (k : Int) : Int := if k < 0 then 0 else ys.getD k.toNat 0

/-- A window of the detector over bits t0 to t0 + m − 1 of a fragment's code-word bits, whose first lies at k0: warm-up of 32 bits at
each end, and the extrinsic value of each bit in the decoder's 6 bits. -/
def FoldSet.window (q : FoldSet) (ys : Array Int) (k0 : Int) (bits t0 m : Nat) (apri : Nat → Int) : List Int :=
  let y := fun (t d : Int) => outAt ys (k0 + t - d)
  let ap := fun (t : Int) => if t < 0 ∨ (bits : Int) ≤ t then 0 else apri t.toNat
  let fwd := fun (a : List Int) (t : Int) => (q.forward (y t 0) (y t 1) (y t 2) (ap t) a).map Prod.fst
  let bwd := fun (b : List Int) (t : Int) => q.backward (y t 0) (y t 1) (y t 2) (ap t) b
  let zero := List.replicate 32 (0 : Int)
  let a0 := (List.range 32).foldl (fun a (k : Nat) => fwd a ((t0 : Int) - 32 + k)) zero
  let b0 := (List.range 32).foldl (fun b (k : Nat) => bwd b ((t0 : Int) + m + 31 - k)) zero
  let alphas := ((List.range m).foldl (fun (l : List (List Int)) (k : Nat) => fwd (l.headD zero) ((t0 : Int) + k) :: l) [a0]).tail.reverse
  let betas := ((List.range m).foldl (fun (l : List (List Int)) (k : Nat) => bwd (l.headD zero) ((t0 : Int) + m - 1 - k) :: l) [b0]).tail
  (List.range m).map (fun (k : Nat) =>
    let t : Int := (t0 : Int) + k
    let best := q.best (y t 0) (y t 1) (y t 2) (alphas.getD k zero) (betas.getD k zero)
    sat6 (openDiv (best true - best false) (2 ^ 36)))

/-- The detector over the code-word bits of one piece, whose first is bit `base` of those written. -/
def FoldSet.detect (q : FoldSet) (p : CodePiece) (o : Int) (base : Nat) (apri : Array Int) : List Int :=
  let ys := p.ys.toArray
  let k0 : Int := 64 + p.ovh + p.off + o
  (List.range ((p.bits + 63) / 64)).flatMap (fun w =>
    q.window ys k0 p.bits (64 * w) (min 64 (p.bits - 64 * w)) (fun t => apri.getD (base + t) 0))

/-- The detector over a code word, its first fragment at an offset from the prediction (R134, R135). -/
def FoldSet.detectAll (q : FoldSet) (apri : Array Int) : List CodePiece → Int → Nat → List Int
  | [], _, _ => []
  | p :: rest, o, base => q.detect p o base apri ++ q.detectAll apri rest 0 (base + p.bits)

/-! ## Decoding (R100, R101, R114, R135, R136) -/

/-- What the decoder finds at one start position within a budget: unsatisfied checks after the first global iteration, the global
iteration at which the syndrome became zero, the unsatisfied checks at the stop, and the 4120 bytes. -/
structure DecodeTrial where
  first : Nat := 3840
  zeroAt : Option Nat := none
  last : Nat := 3840
  bytes : List Byte := []
  deriving DecidableEq, Repr

/-- Global iterations (R100): a detector pass and the local iterations after it, up to a zero syndrome or the end of the budget. -/
def FoldSet.globals (q : FoldSet) (ps : List CodePiece) (o : Int) (loc : Nat) : Nat → Nat → LdpcMem → Array Int → DecodeTrial → DecodeTrial
  | 0, _, _, _, t => t
  | fuel + 1, g, m, apri, t =>
    let llr := (q.detectAll apri ps o 0).toArray
    let m := (m.load llr).iterate loc
    let w := m.hard
    let n := ldpcUnsatisfied w
    let t := { t with first := if g = 1 then n else t.first, last := n }
    if n = 0 then { t with zeroAt := some g, bytes := wordBytes w }
    else q.globals ps o loc fuel (g + 1) m (m.aPriori llr) t

/-- The code word of a sector tried at an offset within a budget. -/
def FoldSet.trial (q : FoldSet) (ps : List CodePiece) (loc : Nat) (o : Int) (budget : Nat) : DecodeTrial :=
  q.globals ps o loc budget 1 ldpcEmpty #[] {}

/-- Offsets in order of distance from prediction, negative first (R135, R114). -/
def offsetsTo (n : Nat) : List Int :=
  0 :: (List.range n).flatMap (fun (i : Nat) => [-((i : Int) + 1), (i : Int) + 1])

/-- The outcome of a search: the offset and bytes of a zero syndrome, the iterations used, SYND_FIRST and SYND_LAST. -/
structure Found where
  zero : Option (Int × List Byte) := none
  iters : Nat := 0
  first : Nat := 0
  last : Nat := 0
  deriving DecidableEq, Repr

/-- The candidates tried in order within a budget of global iterations (R135): one iteration each, and on with the one that passes
the screen. -/
def search (trial : Int → Nat → DecodeTrial) (screen budget : Nat) : List Int → Found → Found
  | [], f => f
  | o :: rest, f =>
    if budget ≤ f.iters then f
    else
      let t := trial o 1
      if t.zeroAt.isSome then { zero := some (o, t.bytes), iters := f.iters + 1, first := t.first, last := 0 }
      else if t.first ≤ screen then
        let t := trial o (budget - f.iters)
        match t.zeroAt with
        | some k => { zero := some (o, t.bytes), iters := f.iters + k, first := t.first, last := 0 }
        | none => { f with iters := budget, first := t.first, last := t.last }
      else search trial screen budget rest { f with iters := f.iters + 1, first := t.first, last := t.first }

/-- The verdict of a search (R136, R101). -/
def verdict (psa : Psa) (sync : Option Int) (f : Found) : Verdict :=
  match f.zero with
  | some (o, b) =>
    { code := if sectorCrcOk psa b then (if sync = some o then 0 else 1) else 3
      offset := some o, iters := f.iters, first := f.first, last := 0, data := b.take 4120 }
  | none =>
    { code := if sync.isSome then 2 else 4, offset := sync, iters := f.iters, first := f.first, last := f.last }

/-- The candidate list of R135. -/
def candidates (sync : Option Int) : List Int :=
  match sync with
  | some o => o :: (offsetsTo 6).filter (· != o)
  | none => offsetsTo 6

/-- Step 6 (R114): the first offset that passes LDPC within a limit of iterations and CRC. A zero syndrome whose CRC fails is a
miscorrection (R101) and is passed over: it delivers no data and shows in `miscorrect` (DEDUCED: log 191). -/
def syncless (psa : Psa) (trial : Int → Nat → DecodeTrial) (limit : Nat) : List Int → Found → Verdict
  | [], f => { code := 4, iters := f.iters, first := f.first, last := f.last, miscorrect := f.zero.isSome }
  | o :: rest, f =>
    let t := trial o limit
    match t.zeroAt with
    | some k =>
      if sectorCrcOk psa t.bytes then
        { code := 1, offset := some o, iters := f.iters + k, first := t.first, last := 0, data := t.bytes.take 4120, miscorrect := f.zero.isSome }
      else syncless psa trial limit rest { zero := some (o, []), iters := f.iters + k, first := t.first, last := 0 }
    | none => syncless psa trial limit rest { f with iters := f.iters + limit, first := t.first, last := t.last }

end Sys2Proof.Machine
end

