-- ==== Sys2Proof/Machine/Inflate.lean ====
section
/-! DEFINITION. RFC 1951 as a decompressor reads it (R415, R419): a stream of bits, least significant first, in stored, fixed and
dynamic blocks. -/

namespace Sys2Proof.Machine

/-- How a body fails (R419): the stream is invalid, or its length or that of its output does not fit. -/
inductive InfErr where
  | stream | length
  deriving DecidableEq, Repr

/-- The bits of a body. -/
def bitsOf (l : List Byte) : List Bool := l.flatMap (fun b => (List.range 8).map b.getLsbD)

/-- A number of bits taken, the first the least significant. -/
def getBits (n : Nat) (bs : List Bool) : Except InfErr (Nat × List Bool) :=
  let h := bs.take n
  if h.length < n then .error .length else .ok (h.foldr (fun b v => 2 * v + b.toNat) 0, bs.drop n)

/-- A canonical Huffman code: codes of each length 1 to 15, and the symbols in order of their codes. -/
structure Huff where
  counts : List Nat
  symbols : List Nat
  deriving DecidableEq, Repr

/-- The code of a list of code lengths. -/
def Huff.make (lens : List Nat) : Huff :=
  let ls := (List.range 15).map (· + 1)
  let ix := lens.zip (List.range lens.length)
  { counts := ls.map (fun n => (lens.filter (· == n)).length)
    symbols := ls.flatMap (fun n => (ix.filter (fun x => x.1 == n)).map Prod.snd) }

/-- Code space left over in units of 2^-15; negative when over-subscribed. -/
def Huff.left (h : Huff) : Int :=
  (32768 : Int) - ((h.counts.zip ((List.range 15).map (fun i => 2 ^ (14 - i)))).map (fun (x : Nat × Nat) => x.1 * x.2)).sum

/-- A complete code, or, where `sparse`, one of a single symbol of one bit or of no symbol. -/
def Huff.ok (h : Huff) (sparse : Bool) : Bool :=
  h.left == 0 || (sparse && (h.symbols.isEmpty || (h.symbols.length == 1 && h.counts.headD 0 == 1)))

/-- The next symbol of a code. -/
def Huff.walk (h : Huff) : List Nat → Nat → Nat → Nat → List Bool → Except InfErr (Nat × List Bool)
  | [], _, _, _, _ => .error .stream
  | _ :: _, _, _, _, [] => .error .length
  | c :: cs, code, first, index, b :: bs =>
    let code := code + b.toNat
    if code < first + c then
      match h.symbols[index + (code - first)]? with
      | some x => .ok (x, bs)
      | none => .error .stream
    else h.walk cs (2 * code) (2 * (first + c)) (index + c) bs

/-- The next symbol. -/
def Huff.next (h : Huff) (bs : List Bool) : Except InfErr (Nat × List Bool) := h.walk h.counts 0 0 0 bs

/-- Base and extra bits of length codes 257-285, and of distance codes 0-29. -/
def lenCode (i : Nat) : Option (Nat × Nat) :=
  if i < 8 then some (i + 3, 0)
  else if i < 28 then some ((4 + i % 4) * 2 ^ (i / 4 - 1) + 3, i / 4 - 1)
  else if i = 28 then some (258, 0) else none
def distCode (i : Nat) : Option (Nat × Nat) :=
  if i < 4 then some (i + 1, 0) else if i < 30 then some ((2 + i % 2) * 2 ^ (i / 2 - 1) + 1, i / 2 - 1) else none

/-- Bytes copied from a distance back; the output is held newest first. -/
def copyBack : Nat → Nat → List Byte → List Byte
  | 0, _, out => out
  | n + 1, d, out => copyBack n d (out.getD (d - 1) 0 :: out)

/-- The symbols of a block up to its end code, with at most `limit` bytes of output in all. -/
def infBlock (lit dist : Huff) (limit : Nat) : Nat → List Bool → List Byte → Except InfErr (List Bool × List Byte)
  | 0, _, _ => .error .length
  | fuel + 1, bs, out =>
    match lit.next bs with
    | .error e => .error e
    | .ok (x, bs) =>
      if x < 256 then
        if limit < out.length + 1 then .error .length else infBlock lit dist limit fuel bs (BitVec.ofNat 8 x :: out)
      else if x = 256 then .ok (bs, out)
      else
        match lenCode (x - 257) with
        | none => .error .stream
        | some (base, extra) => do
          let (v, bs) ← getBits extra bs
          let (y, bs) ← dist.next bs
          match distCode y with
          | none => .error .stream
          | some (dbase, dextra) =>
            let (w, bs) ← getBits dextra bs
            if out.length < dbase + w then .error .stream
            else if limit < out.length + base + v then .error .length
            else infBlock lit dist limit fuel bs (copyBack (base + v) (dbase + w) out)

/-- The code lengths of a dynamic block, read with its code-length code. -/
def infLens (h : Huff) : Nat → Nat → List Bool → List Nat → Except InfErr (List Bool × List Nat)
  | 0, n, bs, acc => if acc.length = n then .ok (bs, acc) else .error .stream
  | fuel + 1, n, bs, acc =>
    if n ≤ acc.length then (if acc.length = n then .ok (bs, acc) else .error .stream)
    else
      match h.next bs with
      | .error e => .error e
      | .ok (x, bs) =>
        if x < 16 then infLens h fuel n bs (acc ++ [x])
        else if x = 16 then
          match acc.getLast? with
          | none => .error .stream
          | some p => do
            let (v, bs) ← getBits 2 bs
            infLens h fuel n bs (acc ++ List.replicate (v + 3) p)
        else do
          let (v, bs) ← getBits (if x = 17 then 3 else 7) bs
          infLens h fuel n bs (acc ++ List.replicate (v + if x = 17 then 3 else 11) 0)

/-- The order in which the lengths of the code-length code stand. -/
def lensOrder : List Nat := [16, 17, 18, 0, 8, 7, 9, 6, 10, 5, 11, 4, 12, 3, 13, 2, 14, 1, 15]

/-- Three-bit code lengths, one after another. -/
def infThrees : Nat → List Bool → Except InfErr (List Nat × List Bool)
  | 0, bs => .ok ([], bs)
  | n + 1, bs => do
    let (v, bs) ← getBits 3 bs
    let (l, bs) ← infThrees n bs
    return (v :: l, bs)

/-- The two codes of a dynamic block. -/
def infCodes (bs : List Bool) : Except InfErr (Huff × Huff × List Bool) := do
  let (hlit, bs) ← getBits 5 bs
  let (hdist, bs) ← getBits 5 bs
  let (hclen, bs) ← getBits 4 bs
  let (cl, bs) ← infThrees (hclen + 4) bs
  let at_ := lensOrder.zip cl
  let h := Huff.make ((List.range 19).map (fun i => ((at_.find? (fun x => x.1 == i)).map Prod.snd).getD 0))
  if !h.ok false then .error .stream
  else
    let (bs, l) ← infLens h 320 (hlit + 257 + hdist + 1) bs []
    let lit := Huff.make (l.take (hlit + 257))
    let dist := Huff.make (l.drop (hlit + 257))
    if 29 < hlit || !lit.ok true || !dist.ok true || l.getD 256 0 == 0 then .error .stream else .ok (lit, dist, bs)

/-- The codes of a fixed block. -/
def fixedLit : Huff := Huff.make
  (List.replicate 144 8 ++ List.replicate 112 9 ++ List.replicate 24 7 ++ List.replicate 8 8)
def fixedDist : Huff := Huff.make (List.replicate 32 5)

/-- A stored block: the rest of the byte is skipped, LEN and its complement agree, and LEN bytes follow. -/
def infStored (limit : Nat) (bs : List Bool) (out : List Byte) : Except InfErr (List Bool × List Byte) := do
  let bs := bs.drop (bs.length % 8)
  let (n, bs) ← getBits 16 bs
  let (m, bs) ← getBits 16 bs
  if n + m ≠ 65535 then .error .stream
  else if limit < out.length + n then .error .length
  else if bs.length < 8 * n then .error .length
  else
    let b : List Byte := (List.range n).map (fun i => BitVec.ofNat 8 (((bs.drop (8 * i)).take 8).foldr (fun b v => 2 * v + b.toNat) 0))
    .ok (bs.drop (8 * n), b.reverse ++ out)

/-- The blocks of a stream up to the one with BFINAL, each of which its type and output length allow. -/
def infBlocks (limit : Nat) (allow : Nat → Nat → Bool) : Nat → List Bool → List Byte → Except InfErr (List Bool × List Byte)
  | 0, _, _ => .error .length
  | fuel + 1, bs, out => do
    let (final, bs) ← getBits 1 bs
    let (kind, bs) ← getBits 2 bs
    let (bs, made) ←
      match kind with
      | 0 => infStored limit bs out
      | 1 => infBlock fixedLit fixedDist limit (bs.length + 1) bs out
      | 2 => do
        let (lit, dist, bs) ← infCodes bs
        infBlock lit dist limit (bs.length + 1) bs out
      | _ => .error .stream
    if !allow kind (made.length - out.length) then .error .stream
    else if final = 1 then .ok (bs, made) else infBlocks limit allow fuel bs made

/-- A body decompressed to at most `limit` bytes; the stream must end in the last byte of the body. -/
def inflate (body : List Byte) (limit : Nat) : Except InfErr (List Byte) :=
  match infBlocks limit (fun _ _ => true) (8 * body.length + 1) (bitsOf body) [] with
  | .error e => .error e
  | .ok (rest, out) => if 8 ≤ rest.length then .error .length else .ok out.reverse

/-- Whether a body is one that a compressor emits for an input (R415): fixed and dynamic blocks of at most 65 536 bytes each, the last byte
padded with zero bits, that inflate to the input. -/
def deflates (body input : List Byte) : Bool :=
  match infBlocks input.length (fun kind n => kind != 0 && decide (n ≤ 65536)) (8 * body.length + 1) (bitsOf body) [] with
  | .error _ => false
  | .ok (rest, out) => decide (rest.length < 8) && rest.all (fun b => !b) && out.reverse == input

end Sys2Proof.Machine
end

