-- ==== Sys2Proof/Machine/Chunk.lean ====
section
/-! DEFINITION. The stored form of a chunk opened with its checks (R414, R419), and a sorus's columns rebuilt from its parities
(R293, R297, R298). -/

namespace Sys2Proof.Machine

/-! ## Stored forms (R414, R419) -/

/-- The header of a stored form passes step 1 of R419, but for what a job adds to it. -/
def chunkHeaderOk (b : List Byte) : Bool :=
  let f := fun off n => fldU b off n
  b.take 4 == [0x4B, 0x43, 0x48, 0x4B] && f 4 1 == 1 && f 5 1 ≤ 1 && f 44 4 == (crc32c (b.take 44)).toNat &&
  1 ≤ f 8 4 && f 8 4 ≤ 262144 && (if f 5 1 = 0 then f 12 4 == f 8 4 else decide (f 12 4 < f 8 4))

/-- Steps 2 to 4 of R419 on the body and the trailer of a chunk: the output, or the STATUS of the first failure. -/
def chunkBodyOpen (method inLen bodyLen : Nat) (b : List Byte) : Except Nat (List Byte) :=
  let body := b.take bodyLen
  let t := b.drop bodyLen
  match (if method = 0 then Except.ok body else inflate body inLen) with
  | .error .stream => .error 0x21
  | .error .length => .error 0x22
  | .ok out =>
    if out.length ≠ inLen then .error 0x22
    else if fldU t 8 4 ≠ inLen || (t.drop 12).take 4 ≠ [0x4B, 0x43, 0x54, 0x52] then .error 0x20
    else if fldU t 4 4 ≠ (crc32c body).toNat then .error 0x23
    else if fldU t 0 4 ≠ (crc32c out).toNat then .error 0x24
    else .ok out

/-- The chunk input that a stored form, with what follows it in its last sector, holds; `none` where a check of R419 fails. -/
def openChunk (b : List Byte) : Option (List Byte) :=
  if !chunkHeaderOk b || decide (b.length < 64 + fldU b 12 4) then none
  else
    match chunkBodyOpen (fldU b 5 1) (fldU b 8 4) (fldU b 12 4) ((b.drop 48).take (fldU b 12 4 + 16)) with
    | .ok out => some out
    | .error _ => none

/-- The DEFLATE body of an input (R6, R415, R417): what the compressor makes, if it is such a body. -/
def deflateBody (input : List Byte) : Option (List Byte) :=
  if deflates (Config.deflate input) input then some (Config.deflate input) else none

/-! ## Columns (R297) -/

/-- Bytes of equal offset added. -/
def xorBytes (a b : List Byte) : List Byte := List.zipWith (· ^^^ ·) a b

/-- Bytes multiplied by a field element. -/
def scaleBytes (c : Byte) (a : List Byte) : List Byte := a.map (gfMul c)

/-- A linear system over GF(2^8), its rows coefficients and right-hand side, solved for n unknown columns of bytes; the rows are
taken in their order. `none` without n independent rows. -/
def gfSolve : Nat → List (List Byte × List Byte) → Option (List (List Byte))
  | 0, _ => some []
  | n + 1, rows =>
    match rows.find? (fun r => r.1.headD 0 != 0) with
    | none => none
    | some p =>
      let inv := gfInv (p.1.headD 0)
      let lead := (p.1.map (gfMul inv), scaleBytes inv p.2)
      let rest := (rows.erase p).map (fun r =>
        let c := r.1.headD 0
        ((xorBytes r.1 (scaleBytes c lead.1)).drop 1, xorBytes r.2 (scaleBytes c lead.2)))
      match gfSolve n rest with
      | none => none
      | some xs => some (((lead.1.drop 1).zip xs).foldl (fun v e => xorBytes v (scaleBytes e.1 e.2)) lead.2 :: xs)

/-- The missing ones of some data columns from those present and from parities (R293, R297): `have_` are fragments by FRAG_INDEX, `row`
is a parity's coefficient of a column. -/
def rebuildColumns (cols parities : List Nat) (row : Nat → Nat → Byte) (have_ : List (Nat × List Byte)) : Option (List (Nat × List Byte)) :=
  let got := fun f => (have_.find? (fun (e : Nat × List Byte) => e.1 == f)).map Prod.snd
  let missing := cols.filter (fun j => (got j).isNone)
  let rows := parities.filterMap (fun f => (got f).map (fun q =>
    (missing.map (row f), cols.foldl (fun v j => match got j with | some d => xorBytes v (scaleBytes (row f j) d) | none => v) q)))
  (gfSolve missing.length rows).map (fun xs =>
    cols.map (fun j => (j, (got j).getD ((((missing.zip xs).find? (fun e => e.1 == j)).map Prod.snd).getD []))))

/-- The chunk sectors of data columns in their order (R298): sector n is sector n div k of the (n mod k)-th column. -/
def interleave (cols : List (Nat × List Byte)) (n : Nat) : List Byte :=
  (List.range n).flatMap (fun i =>
    (((cols[i % cols.length]?).map Prod.snd).getD []).drop (4096 * (i / cols.length)) |>.take 4096)

/-- The ways of leaving out m of a list. -/
def leaveOut {α : Type} : Nat → List α → List (List α)
  | 0, l => [l]
  | _ + 1, [] => []
  | m + 1, a :: l => leaveOut m l ++ (leaveOut (m + 1) l).map (fun r => a :: r)

end Sys2Proof.Machine
end

