-- ==== Sys2Proof/Machine/Tree.lean ====
section
/-! DEFINITION. The spin-up tokens of the root's ledger and of the module (R439-R445). -/

namespace Sys2Proof.Machine

/-! ## The ledger of the root (R439, R441, R443, R444) -/

/-- Whether the root may grant a further token to a module (R439, R444). -/
def State.mayGrant (s : State) (m : Nat) : Bool :=
  decide (s.casc.ledger.length + 1 ≤ s.rd Obj.SURGE_BUDGET / s.rd Obj.SPINDLE_SURGE) &&
  decide ((s.casc.ledger.filter (fun g => g.module = m)).length + 1 ≤ s.rd Obj.MODULE_CONCURRENT) &&
  (!s.casc.holdoff || s.casc.reported.contains m)

/-- The next module in turn whose request can be granted: round robin from the one after the last (R441). -/
def State.nextGrant (s : State) : Option Nat :=
  ((List.range 64).map (fun i => (s.casc.lastGranted + 1 + i) % 64)).find?
    (fun m => s.casc.requests.any (fun r => r.1 = m) && s.mayGrant m)

/-- The lowest token number not in use. -/
def CascSt.freeNumber (c : CascSt) : Nat :=
  ((List.range 256).find? (fun n => !c.ledger.any (fun g => g.number = n))).getD 0

/-- A module's oldest request taken from the list. -/
def dropRequest (m : Nat) : List (Nat × Nat) → List (Nat × Nat)
  | [] => []
  | r :: t => if r.1 = m then t else r :: dropRequest m t

/-- The root serves requests as far as it can (R441). -/
def State.serveLedger : Nat → State → State
  | 0, s => s
  | n + 1, s =>
    match s.nextGrant with
    | none => s
    | some m =>
      let k := s.casc.freeNumber
      let g : Grant := ⟨k, m, s.now + 14000000⟩
      let s := { s with casc := { s.casc with
        ledger := s.casc.ledger ++ [g], requests := dropRequest m s.casc.requests, lastGranted := m } }
      serveLedger n (s.send (.tokenGrant k (s.rd Obj.SPINDLE_SURGE)) m k)

/-- The root's service after a change of its ledger or of its requests. -/
def State.serve (s : State) : State := if s.casc.role = .root then s.serveLedger s.casc.requests.length else s

/-- A request of a module enters the ledger's list (R440, R441). -/
def State.request (s : State) (m p : Nat) : State :=
  if s.casc.requests.contains (m, p) then s
  else ({ s with casc := { s.casc with requests := s.casc.requests ++ [(m, p)] } } : State).serve

/-- A token counts as returned at the root (R443). -/
def State.ledgerFree (s : State) (n : Nat) : State :=
  ({ s with casc := { s.casc with ledger := s.casc.ledger.filter (fun (g : Grant) => g.number ≠ n) } } : State).serve

/-- Every Griug link of the module down, with what it carried (R427). -/
def State.linksOff (s : State) : State := { s with casc := { s.casc with links := [], parked := [] } }

/-! ## Tokens of this module (R440, R443) -/

/-- The object REQUESTED_MODE as it reads (R32, R565): as written since VAUX3 was applied, else as stored. -/
def State.requested (s : State) : Nat := s.rd Obj.REQUESTED_MODE

/-- A port that waits for a grant (R440): its spindle AT_REST or TRACK_FORWARD, the port LINKED, not in Maintenance, and no
request for another mode during Bring-up (R31). -/
def State.awaits (s : State) (p : Nat) : Bool :=
  let q := (s.getSpd p).st
  (q == .atRest || q == .trackForward) && (s.getPort p).state == .linked && s.mode.cur != .maintenance &&
  !(s.mode.cur == .bringUp && s.requested != 4) && s.rd (Obj.RATED_RPM p) == s.rpm

/-- A request for a port that waits, while the module has a root (R440). -/
def State.tokenAsk (s : State) (p : Nat) : State :=
  if !s.awaits p || s.casc.asked.contains p then s
  else if s.casc.role = .root then
    ({ s with casc := { s.casc with asked := p :: s.casc.asked } } : State).request 0 p
  else if s.casc.number.isSome then
    ({ s with casc := { s.casc with asked := p :: s.casc.asked } } : State).send (.tokenReq p) 0xFF
  else s

/-- Requests for every port that waits. -/
def State.tokenAskAll (s : State) : State := s.forEach (List.range 16) (fun s p => s.tokenAsk p)

/-- The token of a port returned (R443). -/
def State.tokenBack (s : State) (p : Nat) : State :=
  match s.casc.held.find? (fun t => t.port = p) with
  | none => s
  | some t =>
    let s := { s with casc := { s.casc with held := s.casc.held.filter (fun t => t.port ≠ p) } }
    if t.orphan && s.casc.number.isNone then s
    else if s.casc.role = .root then s.ledgerFree t.number
    else s.send (.tokenReturn t.number) 0xFF

end Sys2Proof.Machine
end

