-- ==== Sys2Proof/Machine/Sorus.lean ====
section
/-! DEFINITION. The operations of the object service and the command table that other blocks call: completions and their
status (R351), deferred errors (R355), members and width (R283, R284), decodability (R295), seals, abandoned and lost
soruses (R311-R318). -/

namespace Sys2Proof.Machine

/-! ## Status of a completion (R330, R351) -/

/-- Outcomes and conditions of R351. -/
inductive Outcome where
  | success | keyNotFound | keyExists | invalidKey | valueTooLarge | nsUnused | nsDeleting | notReady | readOnly
  | journalExhausted | capacity | quota | writeFault | dataLost | indexUnavailable | queueDeletion | abortRequested
  | activationProhibited | invalidField | invalidOpcode | invalidImage
  deriving DecidableEq, Repr

/-- SCT, status code, DNR and CRD (R351). Invalid Firmware Image is command specific 07h in NVM Express. -/
def Outcome.status : Outcome → Nat × Nat × Bool × Nat
  | .success => (0, 0x00, false, 0)
  | .keyNotFound => (1, 0x87, true, 0)
  | .keyExists => (1, 0x89, true, 0)
  | .invalidKey => (1, 0x86, true, 0)
  | .valueTooLarge => (1, 0x85, true, 0)
  | .nsUnused => (0, 0x0B, true, 0)
  | .nsDeleting => (0, 0x82, true, 0)
  | .notReady => (0, 0x82, false, 1)
  | .readOnly => (0, 0x20, true, 0)
  | .journalExhausted => (0, 0xC1, true, 0)
  | .capacity => (0, 0x81, true, 0)
  | .quota => (0, 0xC0, true, 0)
  | .writeFault => (2, 0x80, false, 0)
  | .dataLost => (2, 0x81, true, 0)
  | .indexUnavailable => (0, 0x06, true, 0)
  | .queueDeletion => (0, 0x08, false, 0)
  | .abortRequested => (0, 0x07, false, 0)
  | .activationProhibited => (1, 0x13, false, 0)
  | .invalidField => (0, 0x02, true, 0)
  | .invalidOpcode => (0, 0x01, true, 0)
  | .invalidImage => (1, 0x07, false, 0)

/-- A command leaves the command table with no completion. -/
def State.dropCmd (s : State) (t : CmdTag) : State := { s with cmds := s.cmds.filter (fun (c : HostCmd) => c.tag != t) }

/-- The queue number that marks a command that came as a CMD packet (R459); its identifier is the packet's tag. -/
def cascQueue : Nat := 65536

/-- Data sent to the root in packets of at most 4096 bytes (R450, R459). -/
def State.sendData (s : State) (tag : Nat) : Nat → Nat → List Byte → State
  | 0, _, _ => s
  | n + 1, off, d =>
    if d.isEmpty then s else (s.send (.data (d.take 4096)) 0xFF tag off).sendData tag n (off + 4096) (d.drop 4096)

/-- Whether the part holds every command of the table without completion: in Switchover and in the Drain of an activation or of
a planned switchover (R353, R476, R618). -/
def State.postsHeld (s : State) : Bool :=
  s.mode.cur == .switchover || (s.mode.cur == .drain && s.mode.purpose == .activation)

/-- A completion posted to the controller its command came through, or sent to the root as CPL (R459); the command's slot is
freed (R342). -/
def State.postCpl (s : State) (x : Cpl) : State :=
  let s := s.dropCmd x.tag
  if x.tag.sq = cascQueue then
    (s.sendData x.tag.cid (x.data.length / 4096 + 1) 0 x.data).send (.cpl x.sct x.sc x.dnr x.crd x.dw0) 0xFF x.tag.cid
  else s.modCtrl x.tag.ctrl.code (fun c => c.post x)

/-- A command completes with a status: at once, or when service resumes while the table is held. -/
def State.completeWith (s : State) (t : CmdTag) (sct sc : Nat) (dnr : Bool) (crd dw0 : Nat) (data : List Byte) : State :=
  let x : Cpl := { tag := t, sct := sct, sc := sc, dnr := dnr, crd := crd, dw0 := dw0, data := data }
  if s.postsHeld && s.cmds.any (fun (c : HostCmd) => c.tag == t) then
    { s with
      cmds := s.cmds.map (fun (c : HostCmd) => if c.tag == t then { c with kind := .finished } else c)
      heldCpl := s.heldCpl ++ [x] }
  else s.postCpl x

/-- The completions held are posted, in their order, once the table is held no more. -/
def State.postHeld (s : State) : State :=
  if s.postsHeld then s
  else
    let l := s.heldCpl
    ({ s with heldCpl := [] } : State).forEach l (fun s x => s.postCpl x)

/-- A command completes with an outcome of R351. -/
def State.complete (s : State) (t : CmdTag) (o : Outcome) (dw0 : Nat := 0) (data : List Byte := []) : State :=
  let (sct, sc, dnr, crd) := o.status
  s.completeWith t sct sc dnr crd dw0 data

/-- An entry added to log page C0h (R355): DEFERRED_ERROR, and the Vendor Specific event. -/
def State.deferredError (s : State) (cause ns : Nat) (key : List Byte := []) (sid : Option (Nat × Nat) := none) : State :=
  let n := s.rd Obj.DEFERRED_ENTRIES + 1
  let s := s.wr Obj.DEFERRED_ENTRIES n
  let e : Deferred := { seq := n, time := s.now, cause := cause, ns := ns, key := key, sid := sid }
  let s := { s with deferred := (e :: s.deferred).take 256 }
  (s.raise .host [.HOST_DEFERRED_ERROR]).aenAll 0 { ty := 7, info := 0, log := 0xC0 }

/-! ## Members and width (R283, R284) -/

/-- A member whose port is READY. -/
def State.memberHealthy (s : State) (m : Member) : Bool :=
  m.state == .active && (match m.port with | some p => (s.getPort p).state == .ready | none => false)

/-- A member that can be written (R284). -/
def State.memberWritable (s : State) (m : Member) : Bool :=
  s.memberHealthy m && !m.fresh &&
  (match m.port with | some p => (s.getSpd p).st == .locked && s.hdaBand p != .critical | none => false)

/-- h (R283). -/
def State.healthy (s : State) : Nat := (s.os.members.filter (fun e => s.memberHealthy e.2)).length

/-- w (R284). -/
def State.width (s : State) : Nat := min 16 (s.os.members.filter (fun e => s.memberWritable e.2)).length

/-- The member slot of a port. -/
def OsSt.slotOf (o : OsSt) (p : Nat) : Option Nat :=
  (o.members.find? (fun e => e.2.state == .active && e.2.port == some p)).map Prod.fst

/-! ## Codes (R290-R297) -/

/-- P of a profile (R291). -/
def parityCount (profile : Nat) : Nat := if profile ≤ 1 then 4 else if profile = 2 then 3 else 2

/-- The data columns in use at k (R294). -/
def dataColumns (profile k : Nat) : List Nat :=
  if profile = 0 then List.range ((k + 1) / 2) ++ (List.range (k / 2)).map (· + 6) else List.range k

/-- The Cauchy matrix, as R292 lists its entries; each is the inverse of i + (j + 4) in the field. -/
def cauchyTable : List (List Byte) :=
  [[0x47, 0xA7, 0x7A, 0xBA, 0xAD, 0x9D, 0xDD, 0x98, 0x3D, 0xAA, 0x5D, 0x96, 0xD8, 0x72],
   [0xA7, 0x47, 0xBA, 0x7A, 0x9D, 0xAD, 0x98, 0xDD, 0xAA, 0x3D, 0x96, 0x5D, 0x72, 0xD8],
   [0x7A, 0xBA, 0x47, 0xA7, 0xDD, 0x98, 0xAD, 0x9D, 0x5D, 0x96, 0x3D, 0xAA, 0xC0, 0x58],
   [0xBA, 0x7A, 0xA7, 0x47, 0x98, 0xDD, 0x9D, 0xAD, 0x96, 0x5D, 0xAA, 0x3D, 0x58, 0xC0]]

/-- An entry of the matrix. -/
def cauchy (i j : Nat) : Byte := (cauchyTable.getD i []).getD j 0

/-- The row of a parity over the data columns (R292, R293): parity i of the profile at column j. -/
def parityCoef (profile i j : Nat) : Byte :=
  if profile = 0 then
    if i = 0 then (if j < 6 then 1 else 0) else if i = 1 then (if 6 ≤ j then 1 else 0) else cauchy (i - 2) j
  else cauchy i j

/-- Rows of present parities restricted to the missing data columns. -/
def missingRows (profile k missing : Nat) : List (List Byte) :=
  let p := parityCount profile
  let cols := (dataColumns profile k).filter (fun j => missing.testBit j)
  ((List.range p).filter (fun i => !missing.testBit (16 - p + i))).map (fun i => cols.map (fun j => parityCoef profile i j))

/-- A row with the pivot's column cleared. -/
def clearRow (pivot row : List Byte) : List Byte :=
  match pivot, row with
  | p :: _, r :: _ => (List.zipWith (fun a b => b ^^^ gfMul (gfMul r (gfInv p)) a) pivot row).drop 1
  | _, _ => []

/-- Rank of a matrix over GF(2^8), by its columns from the left. -/
def gfRank : Nat → List (List Byte) → Nat
  | 0, _ => 0
  | n + 1, rows =>
    match rows.find? (fun r => r.headD 0 != 0) with
    | none => gfRank n (rows.map (·.drop 1))
    | some p => 1 + gfRank n ((rows.erase p).map (clearRow p))

/-- R295: a sorus of a profile at k decodes with the fragments of a mask missing. -/
def decodable (profile k missing : Nat) : Bool :=
  let cols := (dataColumns profile k).filter (fun j => missing.testBit j)
  gfRank cols.length (missingRows profile k missing) == cols.length

/-- The fragments a sorus has: data columns, then parities at 16 − P + i (R291). -/
def fragIndexes (profile k : Nat) : List Nat :=
  dataColumns profile k ++ (List.range (parityCount profile)).map (· + (16 - parityCount profile))

/-- Whether every set of m further missing fragments leaves a sorus decodable. -/
def survives (profile k : Nat) : Nat → List Nat → Nat → Bool
  | 0, _, missing => decodable profile k missing
  | _ + 1, [], missing => decodable profile k missing
  | m + 1, f :: rest, missing =>
    survives profile k (m + 1) rest missing &&
    (missing.testBit f || survives profile k m rest (missing ||| 2 ^ f))

/-- The margin of a sorus (R315). -/
def SorusSt.margin (x : SorusSt) : Nat :=
  ((List.range 5).filter (fun m => survives x.profile x.k m (fragIndexes x.profile x.k) x.missing)).length - 1

/-! ## Soruses -/

/-- A sorus by its number in the store. -/
def State.sorus (s : State) (n : Nat) : SorusSt := mapGet (fun _ => {}) s.os.soruses n

/-- A sorus changed. -/
def State.modSorus (s : State) (n : Nat) (f : SorusSt → SorusSt) : State :=
  { s with os := { s.os with soruses := mapPut (fun _ => {}) s.os.soruses n (f (s.sorus n)) } }

/-- A new sorus in the store. -/
def State.newSorus (s : State) (x : SorusSt) : Nat × State :=
  let n := s.os.nextSorus
  (n, ({ s with os := { s.os with nextSorus := n + 1 } }).modSorus n (fun _ => x))

/-- The value descriptors of a namespace. -/
def OsSt.values (o : OsSt) (ns : Nat) : List ValueDesc := mapGet (fun _ => []) o.index ns

/-- The value descriptors of a namespace replaced. -/
def State.setValues (s : State) (ns : Nat) (l : List ValueDesc) : State :=
  { s with os := { s.os with index := mapPut (fun _ => []) s.os.index ns l } }

/-- Every value descriptor changed. -/
def State.mapValues (s : State) (f : Nat → ValueDesc → ValueDesc) : State :=
  { s with os := { s.os with index := s.os.index.map (fun e => (e.1, e.2.map (f e.1))) } }

/-- Values that reference a sorus: LIVE (R306). -/
def OsSt.live (o : OsSt) (n : Nat) : Nat :=
  (o.index.map (fun e => (e.2.filter (fun v => v.chunks.contains n)).length)).sum

/-- A member's free bands. -/
def Member.free (m : Member) : Nat := m.bands - m.used.length

/-- SORUS_ID as a number (R299). -/
def SorusSt.idNumber (x : SorusSt) : Nat := match x.sid with | some (a, b) => a * 4294967296 + b | none => 0

/-- What every fragment checked, or the late-fragment disposition applied, releases (R19, R313): the chunk in the buffers of both
units. -/
def State.releaseChunk (s : State) (n : Nat) : State :=
  let x := s.sorus n
  if x.sealed && x.frags.all (fun f => (x.checked ||| x.missing).testBit f.1) then
    s.modSorus n (fun x => { x with input := [], mirrored := false })
  else s

/-! ## Chunks being read (R20, R21) -/

/-- A read of a chunk changed. -/
def State.modRead (s : State) (n : Nat) (f : ChunkRead → ChunkRead) : State :=
  { s with os := { s.os with reads := s.os.reads.map (fun (e : Nat × ChunkRead) => if e.1 = n then (n, f e.2) else e) } }

/-- A read of a chunk begun, unless one is under way. -/
def State.readWant (s : State) (n : Nat) (f : ChunkRead → ChunkRead) : State :=
  if s.os.reads.any (fun e => e.1 == n) then s.modRead n f
  else { s with os := { s.os with reads := s.os.reads ++ [(n, f {})] } }

/-- The fragments being read that a sector of a port belongs to: sorus, FRAG_INDEX and SECTOR_IN_FRAG. -/
def State.readsAt (s : State) (p : Nat) (has : FragRec → Nat → Bool) (pos : Nat) : List (Nat × Nat × Nat) :=
  match s.os.slotOf p with
  | none => []
  | some slot =>
    s.os.reads.flatMap (fun e =>
      let x := s.sorus e.1
      (x.frags.filter (fun q => decide (q.2.slot = slot) && has q.2 x.f && e.2.frags.any (fun r => r.frag == q.1))).map
        (fun q => (e.1, q.1, pos - q.2.pos)))

/-- A fragment of a chunk being read changed. -/
def State.modFragRead (s : State) (n f : Nat) (g : FragRead → FragRead) : State :=
  s.modRead n (fun r => { r with frags := r.frags.map (fun q => if q.frag = f then g q else q) })

/-- A sorus that waits for a place is queued; one queued for rebuild or repair is queued once. -/
def State.queueSorus (s : State) (n : Nat) : State := { s with os := { s.os with queue := s.os.queue ++ [n] } }
def State.queueRepair (s : State) (n : Nat) : State :=
  if s.os.repair.contains n then s else { s with os := { s.os with repair := s.os.repair ++ [n] } }

/-- A sorus that cannot be decoded has lost its chunk (R318). -/
def State.chunkLost (s : State) (n : Nat) : State :=
  let x := s.sorus n
  if x.lost then s
  else
    let s := s.modSorus n (fun x => { x with lost := true, k := 0 })
    let s := s.mapValues (fun _ v => if v.chunks.contains n then { v with lost := true } else v)
    let s := (s.inc Obj.LOST_CHUNKS).raise .os [.OS_CHUNK_LOST]
    let s := s.deferredError 0x01 x.ns [] x.sid
    if x.index then
      ({ s with os := { s.os with mode := .indexUnavailable } }.raise .os [.OS_INDEX_UNAVAILABLE]).deferredError 0x03 x.ns
    else s

/-- A fragment becomes missing: the sorus is degraded, thin when it was late, queued by its margin, or lost (R313, R315). -/
def State.fragMissing (s : State) (n f : Nat) : State :=
  let x := s.sorus n
  if x.dead || x.lost || x.missing.testBit f then s
  else
    let late := x.sealed && !x.checked.testBit f
    let m := x.missing ||| 2 ^ f
    let s := s.modSorus n (fun x => { x with missing := m, thin := x.thin || late })
    let s := if late && !x.thin then (s.inc Obj.THIN_SORUSES).raise .os [.OS_THIN_SORUS] else s
    if !x.sealed then s
    else if !decodable x.profile x.k m then s.chunkLost n
    else s.queueRepair n

/-! ## Seals and abandoned soruses (R308, R311, R312) -/

/-- Soruses sealed that carry the value of a Store. -/
def State.cmdSealed (s : State) (c : HostCmd) : Bool := !c.held && c.chunks.all (fun n => (s.sorus n).sealed)

/-- Keys compared in the order of R282: unsigned bytes from the first, a prefix before the longer key. -/
def keyLe : List Byte → List Byte → Bool
  | [], _ => true
  | _ :: _, [] => false
  | a :: x, b :: y => a.ult b || a == b && keyLe x y

/-- A descriptor put in key order in the place of the key's previous one. -/
def putValue (l : List ValueDesc) (v : ValueDesc) : List ValueDesc :=
  let l := l.filter (fun w => w.key != v.key)
  l.filter (fun w => keyLe w.key v.key) ++ [v] ++ l.filter (fun w => !keyLe w.key v.key)

/-- The units whose journal flash programs the records: the active unit, and the standby while it is ready (R307). -/
def State.journalUnits (s : State) : List UnitId :=
  if s.peerReady then [s.pair.active, s.pair.active.other] else [s.pair.active]

/-- Bytes of a journal record (R307, R503). -/
def recordBytes (key : List Byte) (chunks : List Nat) : Nat := (Config.recordSize key.length chunks.length).val + 1

/-- A record staged in the journal (R307). -/
def State.stage1 (s : State) (r : StagedRec) : State :=
  { s with os := { s.os with journal := s.os.journal + r.size, unprog := r :: s.os.unprog } }

/-- A change of the index that no command makes (R316, R326) staged in the journal (R307). -/
def State.stageChange (s : State) (key : List Byte) (chunks : List Nat) : State :=
  s.stage1 { size := recordBytes key chunks, need := s.journalUnits }

/-- Bytes that stand in the staging area of a unit (R503). -/
def State.stagedBytes (s : State) (u : UnitId) : Nat :=
  ((s.os.unprog.filter (fun r => r.need.contains u)).map StagedRec.size).sum - (s.getJf u.code).sent

/-- Whether the journal of every unit that takes the records has room for one more (R503): within the 512 pages of the staging area,
with the erased reserve of four blocks. -/
def State.journalRoom (s : State) (size : Nat) : Bool :=
  s.journalUnits.all (fun u => decide (s.stagedBytes u + size ≤ 131072) && (s.getJf u.code).reserve)

/-- The index change of a Store or Delete, in one step (R307, R308): its record is staged, and soruses no value references
become dead. -/
def State.applyRecord (s : State) (c : HostCmd) : State :=
  let l := s.os.values c.ns
  let r : StagedRec :=
    { kind := .value, size := recordBytes c.key c.chunks, ns := c.ns, key := c.key, prev := l.find? (fun w => w.key == c.key)
      chunks := c.chunks, tag := c.tag, need := s.journalUnits }
  let s := s.setValues c.ns (
    if c.kind = .store then
      putValue l { key := c.key, len := c.value.length, packed := c.packed, chunks := c.chunks, off := c.off }
    else l.filter (fun w => w.key != c.key))
  let s := s.stage1 r
  let old := (l.filter (fun w => w.key == c.key)).flatMap ValueDesc.chunks
  s.forEach old (fun s n => if s.os.live n = 0 && (s.sorus n).sealed then s.modSorus n (fun x => { x with dead := true }) else s)

/-- Whether an earlier command of the list is a Store or Delete of the same key (R347). -/
def keyBusy (l : List HostCmd) (c : HostCmd) : Bool :=
  l.any (fun d => (d.kind == .store || d.kind == .delete) && d.ns == c.ns && d.key == c.key)

/-- Whether the record of a command is programmed as far as R497 asks for: HOLD ready, or programmed on every present unit. -/
def State.recordSafe (s : State) (t : CmdTag) : Bool :=
  s.sup.hold == .ready || !s.os.unprog.any (fun r => r.kind == .value && r.tag == t && !r.need.isEmpty)

/-- The record of a Store or Delete staged on the active unit and mirrored to the standby (R307). -/
def State.stageRecord (s : State) (c : HostCmd) : State :=
  let s := s.applyRecord c
  { s with cmds := s.cmds.map (fun (d : HostCmd) => if d.tag == c.tag then { d with staged := true, ackDue := s.peerReady } else d) }

/-- Stores and Deletes go on in entry order (R307, R308, R347, R497, R503): one whose soruses are sealed and that no earlier command of
its key precedes stages its record once the journal has room for it, and completes once the standby has staged it and HOLD can be
counted on. -/
def State.settleWrites (s : State) : List HostCmd → List HostCmd → State
  | [], _ => s
  | c :: rest, before =>
    if (c.kind = .store || c.kind = .delete) && (c.staged || (s.cmdSealed c && s.journalRoom (recordBytes c.key c.chunks))) &&
        !keyBusy before c then
      let s := if c.staged then s else s.stageRecord c
      if s.cmds.any (fun (d : HostCmd) => d.tag == c.tag && d.ackDue) || !s.recordSafe c.tag then s.settleWrites rest (before ++ [c])
      else (s.complete c.tag .success).settleWrites rest before
    else s.settleWrites rest (before ++ [c])

/-- Whether a Flush waits for a command of the table that entered before it (R348). -/
def flushWaits (f c : HostCmd) : Bool := (c.kind == .store || c.kind == .delete) && (f.all || c.ns == f.ns)

/-- Flushes that wait for nothing any more complete (R348). -/
def State.settleFlushes (s : State) : List HostCmd → List HostCmd → State
  | [], _ => s
  | c :: rest, before =>
    if c.kind = .flush && c.waits.isEmpty && !(before.any (flushWaits c)) then
      (if s.os.mode = .indexUnavailable then s.complete c.tag .indexUnavailable
       else if c.limit ≠ 0 then
         s.completeWith c.tag (c.limit / 65536) (c.limit / 256 % 256) (c.limit % 2 == 1) (c.limit / 2 % 4) 0 []
       else s.complete c.tag .success).settleFlushes rest before
    else s.settleFlushes rest (before ++ [c])

/-- The namespaces' capacity figures as the index holds them (R331). -/
def State.nsCounts (s : State) : State :=
  s.forEach (List.range 16) (fun s n =>
    let l := s.os.values n
    let s := s.wr (Obj.NS_VALUES n) l.length
    let s := s.wr (Obj.NS_USER_BYTES n) ((l.filter (fun v => !v.lost)).map ValueDesc.len).sum
    s.wr (Obj.NS_LOST_VALUES n) (l.filter ValueDesc.lost).length)

/-- The command table settled: Stores and Deletes, then Flushes, then the counts. -/
def State.settleCmds (s : State) : State :=
  let s := s.settleWrites s.cmds []
  (s.settleFlushes s.cmds []).nsCounts

/-! ## Staged records (R307, R497, R505) -/

/-- The staged records of a unit, oldest first, after a number of their bytes has been programmed in order (R307), and the bytes
programmed of the first that is not complete. -/
def takeStaged (u : UnitId) : Nat → List StagedRec → List StagedRec × Nat
  | _, [] => ([], 0)
  | b, r :: rest =>
    if !r.need.contains u then
      let (l, n) := takeStaged u b rest
      (r :: l, n)
    else if r.size ≤ b then
      let (l, n) := takeStaged u (b - r.size) rest
      ({ r with need := r.need.filter (· != u), kept := true } :: l, n)
    else (r :: rest, b)

/-- Records programmed wherever they are needed leave the staging areas; behind a root, the records older than it are free (R309). -/
def State.dropKept (s : State) : State :=
  let roots := s.os.unprog.filter (fun r => r.kind == .root)
  let free := !roots.isEmpty && roots.all (fun r => r.need.isEmpty)
  let s := { s with os := { s.os with unprog := s.os.unprog.filter (fun r => !r.need.isEmpty) } }
  if !free then s
  else
    { s with
      os := { s.os with journal := s.os.journal - s.os.rootOlder, rootOlder := 0 }
      jf := s.jf.map (fun (e : Nat × JfSt) => (e.1, { e.2 with tail := e.2.rootPage })) }

/-- The unit has staged a checkpoint's root and not programmed it. -/
def State.rootWaits (s : State) (u : UnitId) : Bool := s.os.unprog.any (fun r => r.kind == .root && r.need.contains u)

/-- The next bytes of the staging area of a unit are in its journal (R307). -/
def State.stagedOut (s : State) (u : UnitId) (bytes : Nat) : State :=
  let root := s.rootWaits u
  let (l, n) := takeStaged u ((s.getJf u.code).sent + bytes) s.os.unprog.reverse
  let s := { s with os := { s.os with unprog := l.reverse } }
  let s := s.modJf u.code (fun j => { j with
    sent := n, rootPage := if root && !s.rootWaits u then (j.wp + journalPages - 1) % journalPages else j.rootPage })
  s.dropKept

/-- A page of 256 staged bytes is in the journal of a unit. -/
def State.recordsProgrammed (s : State) (u : UnitId) : State := (s.stagedOut u 256).settleCmds

/-- Pages of the staged records of a unit. -/
def State.stagedPages (s : State) (u : UnitId) : Nat := (s.stagedBytes u + 255) / 256

/-- Step 5 of R502 for one unit: its staged records are programmed in order, and then a closing record of one page. What the pages hold is
a free value, since the spec gives records no layout. -/
def State.journalCommit (s : State) (u : UnitId) : State :=
  let page := fun (s : State) =>
    let (bytes, s) := s.freeBytes 256
    s.modJf u.code (fun j => j.writeNext bytes)
  page (s.forEach (List.range (s.stagedPages u)) (fun s _ => (page s).stagedOut u 256))

/-- The standby is no longer present or ready: nothing waits for it (R307). -/
def State.recordsAlone (s : State) : State :=
  let s := { s with
    cmds := s.cmds.map (fun (c : HostCmd) => { c with ackDue := false })
    os := { s.os with
      unprog := s.os.unprog.map (fun (r : StagedRec) => { r with need := r.need.filter (· == s.pair.active) }) } }
  let s := s.modJf s.pair.active.other.code (fun j => { j with sent := 0 })
  s.dropKept.settleCmds

/-- A record that no unit has programmed is lost with the staging area (R350, R505, R597): its key has the value it replaced. -/
def State.undoRecord (s : State) (r : StagedRec) : State :=
  if r.kept || r.kind ≠ .value then s
  else
    let l := (s.os.values r.ns).filter (fun w => w.key != r.key)
    let s := s.setValues r.ns (match r.prev with | some v => putValue l v | none => l)
    let s := s.forEach ((r.prev.map ValueDesc.chunks).getD []) (fun s n => s.modSorus n (fun x => { x with dead := false }))
    s.forEach r.chunks (fun s n => if s.os.live n = 0 then s.modSorus n (fun x => { x with dead := true }) else s)

/-- The staging areas of both units lose their content. -/
def State.recordsLost (s : State) : State :=
  let l := s.os.unprog
  let s := { s with
    os := { s.os with unprog := [] }
    jf := s.jf.map (fun (e : Nat × JfSt) => (e.1, { e.2 with sent := 0 })) }
  (s.forEach l (fun s r => s.undoRecord r)).nsCounts

/-- The repacked values of a packing chunk now sealed leave their old soruses (R326). -/
def State.takeMoves (s : State) (n : Nat) : State :=
  s.forEach (s.sorus n).moves (fun s (key, old, off) =>
    let s := s.setValues (s.sorus n).ns ((s.os.values (s.sorus n).ns).map (fun (v : ValueDesc) =>
      if v.key == key && v.packed && v.chunks == [old] then { v with chunks := [n], off := off } else v))
    let s := s.stageChange key [n]
    if s.os.live old = 0 then s.modSorus old (fun x => { x with dead := true }) else s)

/-- A sealed sorus takes the references of the one it replaces, which is dead; with none to take it is dead itself (R307, R316). -/
def State.supersede (s : State) (n : Nat) (index : Bool) (o : Nat) : State :=
  let s := if s.os.repair.contains o then s.inc Obj.REBUILT_SORUSES else s
  let s := s.mapValues (fun _ v => { v with chunks := v.chunks.map (fun c => if c = o then n else c) })
  let s := { s with cmds := s.cmds.map (fun (c : HostCmd) => { c with chunks := c.chunks.map (fun k => if k = o then n else k) }) }
  let s := s.modSorus o (fun y => { y with dead := true })
  let s := if index || 0 < s.os.live n || s.cmds.any (fun c => c.chunks.contains n) then s else s.modSorus n (fun y => { y with dead := true })
  let s := if index then s else s.stageChange [] [o, n]
  { s with os := { s.os with repair := s.os.repair.filter (· != o) } }

/-- A sorus is sealed (R311): a rebuilt copy takes over the references of the one it replaces (R316). -/
def State.sealSorus (s : State) (n : Nat) : State :=
  let x := s.sorus n
  if x.sealed then s
  else
    let s := s.modSorus n (fun x => { x with sealed := true, sealedAt := s.rd Obj.SWEEP_COUNT })
    let s := s.takeMoves n
    let s := match x.replaces with
      | some o => s.supersede n x.index o
      | none => s
    let s := if x.missing = 0 then s
      else if decodable x.profile x.k x.missing then s.queueRepair n
      else s.chunkLost n
    (s.releaseChunk n).settleCmds

/-- T of a sorus (R311). -/
def SorusSt.threshold (x : SorusSt) : Nat := x.width - x.slack

/-- Fragments checked. -/
def bitCount (m : Nat) : Nat := ((List.range 16).filter (fun i => m.testBit i)).length

/-- The commands that carry a sorus fail (R312). -/
def State.failStores (s : State) (n : Nat) (o : Outcome) : State :=
  (s.forEach (s.cmds.filter (fun c => c.kind = .store && c.chunks.contains n)) (fun s c => s.complete c.tag o)).settleCmds

/-- A sorus that is not sealed has changed (R311, R312): sealed at T checked fragments; abandoned when T can no longer be
reached, and written again in a next slot, or the Store fails at the third abandonment. -/
def State.judgeSorus (s : State) (n : Nat) : State :=
  let x := s.sorus n
  if x.sealed then s.releaseChunk n
  else if x.dead || x.sid.isNone then s
  else if x.threshold ≤ bitCount (x.checked &&& (0xFFFF - x.missing)) then s.sealSorus n
  else if x.threshold ≤ x.frags.length - bitCount x.missing then s
  else
    let s := s.raise .os [.OS_SORUS_ABANDONED]
    if 3 ≤ x.abandons + 1 then
      (s.modSorus n (fun x => { x with dead := true, abandons := x.abandons + 1 })).failStores n .writeFault
    else
      (s.modSorus n (fun x =>
        { x with sid := none, frags := [], checked := 0, missing := 0, abandons := x.abandons + 1 })).queueSorus n

/-! ## Loss of an HDA (R77, R315) -/

/-- The HDA of a port is reported lost (R77, R315): its ACTIVE slot becomes LOST, its fragments missing, the module degraded;
the mode follows at the next sweep edge (R30) or at the next entry to a service mode (R34). -/
def State.hdaLost (s : State) (p : Nat) : State :=
  match s.os.slotOf p with
  | none => s
  | some slot =>
    let m : Member := mapGet (fun _ => {}) s.os.members slot
    let s := { s with os := { s.os with
      members := mapPut (fun _ => {}) s.os.members slot { m with state := .lost, port := none, fresh := false } } }
    let s := { s with mode := { s.mode with hdaLostHeld := true } }
    let s := s.raise .os [.OS_DEGRADED]
    let s := s.forEach [0, 1] (fun s a => s.modChan (chanKey p a) (fun c => { c with checks := [] }))
    s.forEach (s.os.soruses.map Prod.fst) (fun s n =>
      let x := s.sorus n
      (s.forEach (x.frags.filter (fun f => f.2.slot = slot)) (fun s f => s.fragMissing n f.1)).judgeSorus n)

end Sys2Proof.Machine
end

