-- ==== Sys2Proof/Machine/Ladder.lean ====
section
/-! DEFINITION. What becomes of a sector that was not delivered: the fragment it belongs to, the retry ladder (R114-R117), reads that
end unread (R27, R71, R109) and arms withdrawn (R166). -/

namespace Sys2Proof.Machine

/-! ## Sectors of soruses (R116, R306, R316) -/

/-- The track of a fragment on its head (R151). -/
def State.fragTrack (s : State) (p : Nat) (r : FragRec) : Nat :=
  (zoneOf ((s.getChan (chanKey p r.act)).zone (r.head * 32 + r.zone))).bandStart r.head r.zone r.band + r.track

/-- Whether a sector of a port lies in a fragment of f sectors. -/
def State.fragHas (s : State) (p : Nat) (r : FragRec) (f : Nat) (x : Psa) : Bool :=
  decide (r.act = x.act) && decide (r.head = x.head) && decide (r.pos ≤ x.pos) && decide (x.pos < r.pos + f) &&
  decide (s.fragTrack p r = x.track)

/-- The sorus and the FRAG_INDEX that a sector of a port belongs to. -/
def State.sorusAt (s : State) (p : Nat) (x : Psa) : Option (Nat × Nat) :=
  match s.os.slotOf p with
  | none => none
  | some slot =>
    s.os.soruses.findSome? (fun e =>
      if e.2.dead then none
      else (e.2.frags.find? (fun q => decide (q.2.slot = slot) && s.fragHas p q.2 e.2.f x)).map (fun q => (e.1, q.1)))

/-- A sector that will not be delivered to the chunks being read (R20). -/
def State.sectorGone (s : State) (p : Nat) (x : Psa) : State :=
  s.forEach (s.readsAt p (fun r f => s.fragHas p r f x) x.pos) (fun s (n, f, _) => s.modFragRead n f (fun q => { q with gone := true }))

/-- A sector is reported weak (R116, R316): its sorus is queued for repair. -/
def State.reportWeak (s : State) (p : Nat) (x : Psa) : State :=
  let s := s.inc Obj.WEAK_REPORTS
  match s.sorusAt p x with
  | some (n, _) => if (s.sorus n).lost || !(s.sorus n).sealed then s else s.queueRepair n
  | none => s

/-- A sector is reported unreadable (R116, R316): its fragment is missing, and its sorus queued by its margin. -/
def State.reportErased (s : State) (p : Nat) (x : Psa) : State :=
  let s := (s.inc Obj.UNREADABLE_REPORTS).sectorGone p x
  match s.sorusAt p x with
  | some (n, f) => (s.fragMissing n f).judgeSorus n
  | none => s

/-- A sector's data delivered to the chunks being read that hold it (R20); data whose tag names another fragment are handled as
unreadable (R128, R322). -/
def State.sectorRead (s : State) (p : Nat) (x : Psa) (data : List Byte) : State :=
  if data.isEmpty then s
  else
    s.forEach (s.readsAt p (fun r f => s.fragHas p r f x) x.pos) (fun s (n, f, i) =>
      if leNat ((data.drop 4096).take 8) = (s.sorus n).idNumber ∧ leNat ((data.drop 4104).take 1) = f ∧ leNat ((data.drop 4106).take 2) = i then
        s.modFragRead n f (fun q => { q with got := (i, data.take 4096) :: q.got.filter (fun e => e.1 != i) })
      else s.reportErased p x)

/-- Whether a sector lies beyond the calibration and system tracks of its zone, where data are written (R149-R151). -/
def State.holdsData (s : State) (p : Nat) (x : Sector) : Bool :=
  decide ((zoneOf ((s.getChan (chanKey p x.psa.act)).zone x.setNo)).bandStart (x.setNo / 32) (x.setNo % 32) 0 ≤ x.psa.track)

/-! ## The retry ladder (R114-R117) -/

/-- A result that shows the sector untested (R117). -/
def untested (code : Nat) : Bool := code == 0x0A || code == 0x07 || code == 0x08 || code == 0x0B

/-- Whether the hold buffer holds the sector of a ladder (R111). -/
def ChanSt.holds (c : ChanSt) (x : Psa) : Bool := c.hold != .empty && c.holdSector.any (fun y => y.psa == x)

/-- The first step above n that runs (R115, R116). -/
def ladderNext (enable n : Nat) (rebuilt held : Bool) : Nat :=
  ((List.range 8).find? (fun k => n < k && (k == 7 || (2 ≤ k && enable.testBit (k - 1) && (!rebuilt || held))))).getD 7

/-- The step of 1 to 4 that tested the sector with the lowest SYND_LAST, the earliest of several (R114 step 5). -/
def bestTested (l : List (Nat × Nat)) : Option Nat :=
  (l.foldl (fun (b : Option (Nat × Nat)) e =>
    match b with
    | none => some e
    | some q => if e.2 < q.2 then some e else some q) none).map Prod.fst

/-- Reader mode and target of a ladder step (R114): `true` for the alternative target. -/
def Ladder.settings (l : Ladder) (n : Nat) : ReaderMode × Bool :=
  let base := fun k : Nat =>
    match k with
    | 2 => (ReaderMode.both, false)
    | 3 => (.bOnly, false)
    | 4 => (.both, true)
    | _ => (l.mode, false)
  if n ≤ 4 then base n else match bestTested l.tested with | some k => base k | none => (l.mode, false)

/-- The ladder of a sector, at its first step. -/
def Ladder.of (x : Sector) (rebuilt : Bool) : Ladder := { psa := x.psa, ticket := x.ticket, mode := x.mode, rebuilt := rebuilt }

/-- A ladder counted where it ended, and what the object service learns of its sector (R115, R116). -/
def State.ladderClose (s : State) (p a : Nat) (x : Psa) (step : Nat) : State :=
  let s := s.incSave (Obj.STEP_SUCCESS p a (step - 1))
  if step = 7 then s.reportErased p x else if 2 ≤ step then s.reportWeak p x else s

/-- The next sector whose ladder waits begins it. One that the sorus coder has rebuilt meanwhile goes straight to the steps that
run from held samples, and with none of them to step 7 (R116). -/
def State.ladderQueue (p a : Nat) : List (Sector × Bool) → State → State
  | [], s => s.modChan (chanKey p a) (fun c => { c with ladder := none, ladderQ := [] })
  | (x, rebuilt) :: rest, s =>
    let c := s.getChan (chanKey p a)
    let n := if rebuilt then ladderNext (s.rd (Obj.LADDER_ENABLE p a)) 1 true (c.holds x.psa) else 1
    if n = 7 then State.ladderQueue p a rest (s.ladderClose p a x.psa 7)
    else
      s.modChan (chanKey p a) (fun c =>
        { c with
          ladder := some { Ladder.of x rebuilt with step := n }, ladderQ := rest
          hold := if 2 ≤ n && c.holds x.psa then .pinned else c.hold })

/-- A ladder begun for a failed line read, or queued behind the one in progress. -/
def State.ladderStart (s : State) (p a : Nat) (x : Sector) : State :=
  s.modChan (chanKey p a) (fun c =>
    match c.ladder with
    | none => { c with ladder := some (Ladder.of x false) }
    | some _ => { c with ladderQ := c.ladderQ ++ [(x, false)] })

/-- The ladder in progress ends at a step (R115, R116): the hold buffer is unpinned, the ladder counted and reported, and the next
sector of the queue taken up. -/
def State.ladderEnd (s : State) (p a : Nat) (l : Ladder) (step : Nat) : State :=
  let s := s.modChan (chanKey p a) (fun c => { c with hold := if c.hold = .pinned then .held else c.hold })
  (s.ladderClose p a l.psa step).ladderQueue p a (s.getChan (chanKey p a)).ladderQ

/-- The ladder in progress goes on to its next step (R115, R116), the hold buffer pinned while it uses it (R111). -/
def State.ladderMove (s : State) (p a : Nat) (l : Ladder) : State :=
  let c := s.getChan (chanKey p a)
  let n := ladderNext (s.rd (Obj.LADDER_ENABLE p a)) l.step l.rebuilt (c.holds l.psa)
  if n = 7 then s.ladderEnd p a l 7
  else
    s.modChan (chanKey p a) (fun c =>
      { c with
        ladder := some { l with step := n, repeated := false }
        hold := if c.holds l.psa then .pinned else c.hold })

/-- The result of a step of a sector's ladder (R115-R117). A step that has not tested the sector is repeated once, but never by
another read of the medium after a rebuild (R116). -/
def State.ladderResult (s : State) (p a : Nat) (x : Sector) (v : Verdict) : State :=
  let c := s.getChan (chanKey p a)
  match c.ladder with
  | none => s
  | some l =>
    if l.psa ≠ x.psa ∨ l.step ≠ x.step then s
    else if delivers v.code then s.ladderEnd p a l l.step
    else if untested v.code && !l.repeated && (!l.rebuilt || c.holds l.psa) then
      s.modChan (chanKey p a) (fun c => { c with ladder := some { l with repeated := true } })
    else s.ladderMove p a (if untested v.code || 4 < l.step then l else { l with tested := l.tested ++ [(l.step, v.last)] })

/-- The sorus coder has rebuilt a sector before its ladder ends (R116): a step that would read the medium again and has not
begun is left out, and only the steps that run from held samples follow. -/
def State.ladderRebuilt (s : State) (p a : Nat) (hit : Psa → Bool) : State :=
  let s := s.modChan (chanKey p a) (fun c => { c with ladderQ := c.ladderQ.map (fun e => (e.1, e.2 || hit e.1.psa)) })
  let c := s.getChan (chanKey p a)
  match c.ladder with
  | none => s
  | some l =>
    if !hit l.psa || l.rebuilt then s
    else if 2 ≤ l.step && c.holds l.psa || c.replay.isSome || (c.rx.toList ++ c.decoding).any (fun x => x.psa == l.psa) then
      s.modChan (chanKey p a) (fun c => { c with ladder := some { l with rebuilt := true } })
    else s.ladderMove p a { l with rebuilt := true }

/-- What a ladder's result supplies: no data once the sorus coder has rebuilt the sector (R116). -/
def ChanSt.supplies (c : ChanSt) (x : Sector) (v : Verdict) : Verdict :=
  if c.ladder.any (fun l => l.psa == x.psa && l.rebuilt) then { v with data := [] } else v

/-- The pace monitor of the active unit reports slack above its threshold: no synchronising FIFO overruns or underruns (R15). -/
def State.paceAbove (s : State) : Bool := !(s.unitSt s.pair.active).paceLow

/-! ## Sectors that end unread (R27, R71, R109, R166) -/

/-- The sector of an arm as the ladder of its channel sets it (R114, R92). -/
def ChanSt.armSector (c : ChanSt) (m : Mode) (r : Arm) : Sector :=
  let x := r.sector
  let x := match c.ladder with
    | some l =>
      if l.psa == r.psa then
        let (mode, alt) := l.settings l.step
        { x with step := l.step, mode := mode, alt := alt }
      else x
    | none => x
  if m = .bringUp && x.step ≠ 0 then { x with mode := .aOnly } else x

/-- A sector's read ends with a code before anything of it is decoded: the word is posted (R108), and a ladder's step counted
(R117). -/
def State.readEnds (s : State) (p a : Nat) (x : Sector) (code : Nat) (flags : List Flag := []) : State :=
  let s := s.lineEnd p a x (verdictOf code) flags
  if x.step = 0 then s else s.ladderResult p a x (verdictOf code)

/-- The sector being received ends as not read. -/
def State.dropRead (s : State) (p a : Nat) : State :=
  let c := s.getChan (chanKey p a)
  let s := s.modChan (chanKey p a) (fun c => { c with rx := none, readCur := none }.trySwap)
  match c.rx with
  | some x => s.readEnds p a x 0x0A
  | none => s

/-- A ticket that no arm took is answered with NOT_READ (R184). -/
def State.ticketUnread (s : State) (p a : Nat) (t : Ticket) : State :=
  (s.postResult p a { psa := ⟨a, 0, 0, 0⟩, ticket := some t } (verdictOf 0x0A)).modChan (chanKey p a) (fun c => c.answered t)

/-- The sectors of a port in flight count as not read or not written (R27, R71, R269). -/
def State.dropInFlight (s : State) (p : Nat) : State :=
  ((s.cutPort p).dropRead p 0).dropRead p 1

/-- Pending arms withdrawn, their sectors treated as a late arm's is (R166): a sector of which no fragment has started gets NOT_READ
on the ticket of its arm, one in progress ends so; a write is a failed write. -/
def State.withdraw (s : State) (p a : Nat) : State :=
  let c := s.getChan (chanKey p a)
  let s := s.modChan (chanKey p a) (fun c => { c with readPend := none, writePend := none })
  let s := match c.readPend with
    | some r => if r.frag = 0 then s.readEnds p a (c.armSector s.mode.cur r) 0x0A else s.dropRead p a
    | none => s
  match c.writePend with
  | some r => s.failWrite p a r (r.frag != 0)
  | none => s

/-- An arm refused as late (R166): LATE and ARM_LATE; a read answers NOT_READ on its ticket, a write is a failed write. -/
def State.armLate (s : State) (p a : Nat) (r : Arm) (write : Bool) : State :=
  let s := s.modChan (chanKey p a) (fun c => { c with late := true })
  let s := s.raise (.seq (4 * p + 2 * a)) [.SEQ_ARM_LATE]
  if write then s.failWrite p a r (r.frag != 0)
  else if r.frag = 0 then s.readEnds p a ((s.getChan (chanKey p a)).armSector s.mode.cur r) 0x0A
  else s.dropRead p a

end Sys2Proof.Machine
end

