-- ==== Sys2Proof/Machine/Shadow.lean ====
section
/-! DEFINITION. What the standby computes beside the active unit (R243, R273): its shadow of each actuator and spindle. -/

namespace Sys2Proof.Machine

/-- The standby runs its shadows (R12, R243, R273): out of reset with its firmware, the mirror link up, and past its self-test. -/
def State.shadowRuns (s : State) : Bool :=
  let x := s.unitSt s.pair.active.other
  x.fwRunning && !x.inReset && s.pair.mirror != .down && (s.pair.peer == .stateCopy || s.pair.peer == .ready)

/-- The state as the standby computes in it: its shadows in place of the active unit's records, and its own side of each port. -/
def State.asStandby (s : State) : State :=
  { s with srv := s.shadow, spd := s.spdShadow, pair := { s.pair with active := s.pair.active.other } }

/-- What the standby computes for an actuator beside the active unit (R243): `t` is what the active unit made of `s`, `g` the standby's
own run, of which its shadow of the actuator stands. An actuator that is OFF is so for both. -/
def State.shadowAct (s t : State) (k : Nat) (g : State → State) : State :=
  if s.shadowRuns && (t.getSrv k).st != .off then t.putShadow k ((g s.asStandby).getSrv k) else t

/-- The same for a spindle (R273); a change of state of the active unit's is mirrored instead. -/
def State.shadowSpin (s t : State) (p : Nat) (g : State → State) : State :=
  if s.shadowRuns && (t.getSpd p).st == (s.getSpd p).st then t.putSpdShadow p ((g s.asStandby).getSpd p) else t

/-- The shadow of an actuator agrees with the active unit's record (R243): state, outer sample number and command rows. -/
def State.actShadowed (s : State) (k : Nat) : Bool :=
  let v := s.getSrv k
  let w := s.getShadow k
  v.st == w.st && v.sample == w.sample && v.sent == w.sent

/-- The shadow of a spindle agrees with the active unit's record (R273): SPD_STATE, DUTY and the state of commutation. -/
def State.spinShadowed (s : State) (p : Nat) : Bool :=
  let q := s.getSpd p
  let w := s.getSpdShadow p
  q.st == w.st && q.duty == w.duty && q.bridge == w.bridge && q.phase == w.phase

/-- The shadows of a standby that takes the state copy begin as the active unit's records (DESIGN CHOICE: log 269). -/
def State.shadowsCopy (s : State) : State := { s with shadow := s.srv, spdShadow := s.spd }

end Sys2Proof.Machine
end

