-- ==== Sys2Proof/Machine/PortOps.lean ====
section
/-! DEFINITION. Changes of state of a port, its lines, its actuators and its spindle that several families make: the port
state machine's entries (R62, R73-R77), servo states (R215-R217, R225) and spindle states (R258, R259). -/

namespace Sys2Proof.Machine

/-! ## Lines (R57-R65) -/

/-- The code of a SPIN waveform (3070h). -/
def SpinCode.code : SpinCode → Nat
  | .shortBrake => 0
  | .coast => 1
  | .retractBrake => 2
  | .follow => 3

/-- The SPIN code of SPIN_POLICY. -/
def spinOf (n : Nat) : SpinCode := if n = 0 then .shortBrake else if n = 2 then .retractBrake else .coast

/-- The units whose lines follow at once: the active one, and the other while its always-on logic drives them. A ready standby
follows the mirror link's messages (R63, R472); a released unit holds SPIN at coast (R476). -/
def State.lineUnits (s : State) : List UnitId :=
  let u := s.pair.active.other
  let x := match u with | .A => s.pair.unitA | .B => s.pair.unitB
  if s.peerReady || x.releasedAt.isSome then [s.pair.active] else [s.pair.active, u]

/-- SPIN of a port driven (R60). -/
def State.spinDrive (s : State) (p : Nat) (c : SpinCode) : State :=
  s.forEach s.lineUnits (fun s u =>
    s.modLine (sideKey u p) (fun l => if l.driven = c then l else { l with driven := c, readback := some c }))

/-- What SPIN carries for a port (R60): retract-then-brake for a FAILED port, follow while the part commands its motor,
SPIN_POLICY otherwise. -/
def State.spinFor (s : State) (p : Nat) : SpinCode :=
  if (s.getPort p).state = .failed then .retractBrake
  else if (s.getSpd p).st ≠ .idle then .follow
  else spinOf (s.rd (Obj.SPIN_POLICY p))

/-- PEN of a port driven; with PEN low the TOKEN is low, and the telemetry frames seen until then do not count for the next claim
(R63, R65). -/
def State.penDrive (s : State) (p : Nat) (b : Bool) : State :=
  s.forEach s.lineUnits (fun s u =>
    s.modLine (sideKey u p) (fun l => { l with pen := b, token := b && l.token, obeyRun := if b then l.obeyRun else 0 }))

/-- Whether a lane of a side is in service. -/
def State.laneUpOn (s : State) (u : UnitId) (p n : Nat) : Bool := s.bit (Obj.LANES_IN_SERVICE u p) n

/-- Whether a lane of the active side is in service. -/
def State.laneUp (s : State) (p n : Nat) : Bool := s.laneUpOn s.pair.active p n

/-- The motor lane of a side is trained (R65): in service, or past step 1 of R51. -/
def State.motorUp (s : State) (u : UnitId) (p : Nat) : Bool :=
  s.laneUpOn u p 15 || decide (1 ≤ (s.getLine (sideKey u p)).trainStep)

/-- TOKEN of a side low while its motor lane is not trained (R65). -/
def State.tokenLow (s : State) (u : UnitId) (p : Nat) : State :=
  s.modLine (sideKey u p) (fun l => { l with token := false, obeyRun := 0 })

/-- A port that the new active unit does not claim (R478): its command rows are not the releasing unit's last, and an inner loop is
closed. The PN2 retracts such an actuator by itself (R239; log 271). -/
def State.rowsDiffer (s : State) (p : Nat) : Bool :=
  s.pair.unlike.contains p && [0, 1].any (fun a => (s.getSrv (chanKey p a)).st.innerClosed)

/-- TOKEN raised by the active unit when telemetry on its own side allows it (R65): PEN high, motor lane trained, and OBEY
none or the own side in two consecutive frames. -/
def State.tokenTry (s : State) (p : Nat) : State :=
  let u := s.pair.active
  let l := s.getLine (sideKey u p)
  if !s.rowsDiffer p && l.pen && decide (2 ≤ l.obeyRun) && s.motorUp u p && !l.token then
    s.modLine (sideKey u p) (fun l => { l with token := true })
  else s

/-! ## Servo states (R209, R215-R217, R225) -/

/-- WRITE_SAFE cleared; an open gate is cut and counted (R225). -/
def State.clearSafe (s : State) (p a : Nat) : State :=
  let k := chanKey p a
  let gate := (s.getChan k).gate
  let s := s.modSrv k (fun v => { v with writeSafe := false })
  if gate then ((s.cutGate p a .WR_GATE_CUT).incSave (Obj.UNSAFE_CUTS p a)).raise (.srv p a) [.SRV_UNSAFE_CUT] else s

/-- An actuator enters a state (R209, R215): loops that open start from zero again, the flags clear, and the entry is
counted and reported. An `ordered` retract belongs to a controlled stop. -/
def State.srvTo (s : State) (p a : Nat) (st : ActState) (ordered : Bool := false) : State :=
  let k := chanKey p a
  let old := (s.getSrv k).st
  let s := s.clearSafe p a
  let s := s.modSrv k (fun v =>
    { v with
      st := st, since := if old = .seek && st == .settle then v.since else s.now
      onTrack := false, valid := 0, missed := 0, settled := 0, safeRun := 0, switchRun := 0
      outer := if st.outerClosed && old.outerClosed then v.outer else []
      iSet := if st.outerClosed && old.outerClosed then v.iSet else 0
      maSet := if st.outerClosed && old.outerClosed then v.maSet else 0
      pred := if st.outerClosed && old.outerClosed then v.pred else 0
      inner := if st.innerClosed && old.innerClosed then v.inner else []
      loadAsked := if st = .loading then false else v.loadAsked
      retractAsked := v.retractAsked && st == .pn2Retract
      loadFails := if st = .off then 0 else v.loadFails
      stopOrdered := ordered || (v.stopOrdered && (st == .unloading || st == .pn2Retract)) })
  match st with
  | .seek => s.incSave (Obj.SEEKS p a)
  | .loading => s.incSave (Obj.LOADS p a)
  | .acquire => s.raise (.srv p a) [.SRV_SERVO_LOST]
  | .fault => s.raise (.srv p a) [.SRV_ACT_FAULT]
  | .pn2Retract =>
    let s := s.incSave (Obj.PN2_RETRACTS p a)
    if ordered || (s.getSrv k).stopOrdered then s
    else (s.modSrv k (fun v => { v with loadFails := v.loadFails + 1 })).raise (.srv p a) [.SRV_PN2_RETRACTED]
  | _ => s

/-- HOLD 10b sent and the actuator retracted (R216). -/
def State.srvRetract (s : State) (p a : Nat) (ordered : Bool := false) : State :=
  match (s.getSrv (chanKey p a)).st with
  | .off | .fault | .pn2Retract => s
  | _ => (s.srvTo p a .pn2Retract ordered).modSrv (chanKey p a) (fun v => { v with retractAsked := true })

/-- The heads of an actuator unloaded (R216): from LOADING to HEAD_SWITCH and ACQUIRE. -/
def State.srvUnload (s : State) (p a : Nat) : State :=
  match (s.getSrv (chanKey p a)).st with
  | .loading | .acquire | .seek | .settle | .follow | .headSwitch => s.srvTo p a .unloading true
  | _ => s

/-- Both actuators of a port off (R216). -/
def State.srvOff (s : State) (p : Nat) : State :=
  s.forEach [0, 1] (fun s a => if (s.getSrv (chanKey p a)).st = .off then s else s.srvTo p a .off)

/-! ## Spindle states (R258, R259) -/

/-- SWEEP_RPM takes effect while no spindle of the module is driven (R247). -/
def State.rpmTake (s : State) : State :=
  if s.spd.any (fun e => e.2.st.driven || e.2.st == .recatch || e.2.st == .stopping) then s
  else { s with rpm := s.rd Obj.SWEEP_RPM }

/-- A spindle enters a state (R258, R259); its token goes back at LOCKED, STOPPING and IDLE (R443). -/
def State.spdTo (s : State) (p : Nat) (st : SpdState) : State :=
  let ends := st == .locked || st == .stopping || st == .idle
  let coasts := match st with
    | .idle | .measure | .coastToRest | .atRest | .trackForward | .recatch | .brakeToRest | .stopping => true
    | _ => false
  let s := s.modSpd p (fun q =>
    { q with
      st := st, since := s.now, tryAt := s.now, quietFrom := s.now, probeAt := s.now, dutyAt := q.frame
      run := 0, missRun := 0, still := 0, inPhase := 0, regen := 0, restarted := false, judged := false
      seen := if st = .trackForward then q.seen else []
      clampAt := none
      commAt := if coasts then none else q.commAt
      agree := if st = .accelBemf then 0 else q.agree
      attempts := if st = .recatch then 0 else q.attempts
      bridge := if st = .brakeToRest then (if s.rd (Obj.BEMF_TARGET p) ≤ 5 * q.bemf then .pulsedBrake else .shortBrake)
        else if st = .stopping then .pulsedBrake
        else if coasts then .coast else q.bridge
      duty := if coasts then 0 else q.duty
      overFrom := none, underFrom := none
      frame := if st = .idle then 0 else q.frame
      zero := if st = .measure then 1000 * s.now else q.zero
      idxLag := if st.driven then q.idxLag else 0
      sinceIdx := if st.driven then q.sinceIdx else 0
      ctReached := q.ctReached || st == .accelCt
      caught := q.caught && st != .locked && st != .idle
      granted := q.granted && !ends })
  let s := s.setBit Obj.PORTS_LOCKED p (st == .locked)
  let s := if ends then s.tokenBack p else s
  let s := if st = .atRest || st = .trackForward then
      if s.rd (Obj.RATED_RPM p) = s.rpm then s.tokenAsk p else s.raise (.spd p) [.SPD_RPM_MISMATCH]
    else s
  (s.spinDrive p (s.spinFor p)).rpmTake

/-- A spindle of a port that has become LINKED, in a mode that starts spindles, goes to MEASURE (R259). -/
def State.measureTry (s : State) (p : Nat) : State :=
  if (s.getSpd p).st = .idle && (s.getPort p).state = .linked &&
      (s.mode.cur = .bringUp || s.mode.cur = .frond || s.mode.cur = .frondDegraded) then s.spdTo p .measure
  else s

/-- Whether an actuator keeps its spindle from stopping: not PARKED, off or at fault (R259, R271). -/
def ActState.flies : ActState → Bool
  | .off | .parked | .fault => false
  | _ => true

/-- The controlled stop goes on to STOPPING once both actuators are parked; ALIGN, RAMP and RECATCH end first (R259, R261,
R271). -/
def State.stopTry (s : State) (p : Nat) : State :=
  if (s.getPort p).state = .spinningDown && !(s.getSrv (chanKey p 0)).st.flies && !(s.getSrv (chanKey p 1)).st.flies then
    match (s.getSpd p).st with
    | .accelBemf | .accelCt | .pullIn | .locked | .bemfHold => s.spdTo p .stopping
    | _ => s
  else s

/-! ## Port states (R62, R73-R77) -/

/-- States in which a port is not powered. -/
def PortState.unpowered : PortState → Bool
  | .empty | .present | .offline | .failed => true
  | _ => false

/-- PERSIST_STATE of a state entered (R76): a port that enters PRESENT or EMPTY is no longer OFFLINE or FAILED. -/
def State.persistState (s : State) (p : Nat) (st : PortState) : State :=
  let v := match st with
    | .offline => some 0x09
    | .failed => some 0x0A
    | .present | .empty => some 0x00
    | _ => none
  match v with
  | some n => if s.rd (Obj.PERSIST_STATE p) = n then s else s.save (Obj.PERSIST_STATE p) n
  | none => s

/-- A side's lanes out of service, untrained, with what was counted on them (R51, R54, R70). -/
def State.lanesLost (s : State) (u : UnitId) (p : Nat) : State :=
  (s.wr (Obj.LANES_IN_SERVICE u p) 0).modLine (sideKey u p) (fun l =>
    { l with
      trainStep := 0, trainAt := s.now, retried := false, laneFails := [], retrain := [], retraining := [], laneErrs := []
      ct := .noSignal, ctBad := 0, ctGood := 0, synLock := false, obeyRun := 0 })

/-- A port loses its power (R62, R74): gates off, sectors in flight void, PEN and TOKEN low, lanes out of service, spindle
IDLE, actuators OFF. -/
def State.portDown (s : State) (p : Nat) : State :=
  let s := (s.dropInFlight p).penDrive p false
  let s := ((s.lanesLost .A p).lanesLost .B p).modPn2 p (fun q => { q with firstLane := none })
  let s := (s.srvOff p).forEach [0, 1] (fun s a => s.modSrv (chanKey p a) (fun v => { v with wrLock := false }))
  let s := s.modPort p (fun q => { q with fltStop := false, calibrated := 0, sweepNo := 0, nextEdge := 0 })
  if (s.getSpd p).st = .idle then s else s.spdTo p .idle

/-- A port enters a state with a cause (R73-R77, R81): the record, the outputs, PERSIST_STATE, FAIL_COUNT and the report of a
lost HDA. -/
def State.portMove (s : State) (p : Nat) (st : PortState) (cause : PortCause) : State :=
  let old := (s.getPort p).state
  let s := s.modPort p (fun q =>
    { q with
      state := st, cause := cause, entryTime := s.now
      online := q.online && st == .present
      confirmed := q.confirmed && st != .empty
      downOffline := st == .spinningDown && cause == .portCommand })
  let s := s.logPlain 5 (leBytes 1 p ++ leBytes 1 old.code ++ leBytes 1 st.code ++ leBytes 1 cause.code)
  let s := if st = .linked && s.rd Obj.T_FIRST_LINKED = 0 then s.wr Obj.T_FIRST_LINKED s.now else s
  let s := if st.unpowered then s.portDown p else s
  let s := if st = .failed then s.incSave (Obj.FAIL_COUNT p) else s
  let s := s.persistState p st
  let s := s.spinDrive p (s.spinFor p)
  let s := if st = .training then s.forEach [UnitId.A, UnitId.B] (fun s u => s.modLine (sideKey u p) (fun l => { l with trainAt := s.now }))
    else s
  let s := if st = .spinningDown then ((s.srvUnload p 0).srvUnload p 1).stopTry p else s
  if st = .empty || st = .failed || st = .offline || (st = .spinningDown && cause = .portCommand) then s.hdaLost p else s

/-- POWERING to SPINNING_DOWN: the states from which a port fails (R74). -/
def PortState.inPower : PortState → Bool
  | .powering | .training | .linked | .spinningUp | .calibrating | .ready | .ctLost | .spinningDown => true
  | _ => false

/-- Module modes in which a PRESENT port powers (R74). -/
def modePowers : Mode → Bool
  | .bringUp | .frond | .frondDegraded | .maintenance => true
  | _ => false

/-- A PRESENT port that waits for its PEN grant (R74, R501, R617). -/
def State.portWaits (s : State) (p : Nat) : Bool :=
  let q := s.getPort p
  q.state == .present && (s.rd (Obj.AUTO_POWER p) == 1 || q.online) && modePowers s.mode.cur

/-- A PORT_COMMAND acted on (R74, R617): `none` when it has no row from the port's state. -/
def State.portCommand (s : State) (p v : Nat) : Option State :=
  match v, (s.getPort p).state with
  | 1, .ready | 1, .calibrating | 1, .spinningUp | 1, .ctLost => some (s.portMove p .spinningDown .portCommand)
  | 2, .offline => some ((s.portMove p .present .portCommand).modPort p (fun q => { q with online := true }))
  | 2, .present => some (s.modPort p (fun q => { q with online := true }))
  | 3, .failed => some (s.portMove p .present .portCommand)
  | _, _ => none

/-- Whether a port is in a transition that holds a PORT_COMMAND (R75). -/
def PortState.moving : PortState → Bool
  | .powering | .training | .spinningDown => true
  | _ => false

/-- A held PORT_COMMAND acted on once the transition has ended, or refused (R75). -/
def State.portSettle (s : State) (p : Nat) : State :=
  let q := s.getPort p
  match q.heldCmd with
  | none => s
  | some v =>
    if q.state.moving then s
    else
      let s := s.modPort p (fun q => { q with heldCmd := none })
      (s.portCommand p v).getD s

/-- A port enters a state, which ends the transition it was in: a PORT_COMMAND held until then is acted on (R75). -/
def State.portTo (s : State) (p : Nat) (st : PortState) (cause : PortCause) : State := (s.portMove p st cause).portSettle p

/-- A port fails with a cause (R74). -/
def State.portFail (s : State) (p : Nat) (cause : PortCause) : State :=
  if (s.getPort p).state.inPower then s.portTo p .failed cause else s

/-! ## Lanes (R54) -/

/-- What the unit holding TOKEN does without a lane (R54, R65, R216, R225, R240): without its servo-window lane an actuator is not
safe to write; without its command lane it is OFF and loads again later; without the motor lane TOKEN is low. -/
def State.laneOut (s : State) (p n : Nat) : State :=
  match n with
  | 10 | 11 => s.clearSafe p (n % 2)
  | 12 | 13 =>
    let flew := (s.getSrv (chanKey p (n % 2))).st.flies
    (s.srvTo p (n % 2) .off).modSrv (chanKey p (n % 2)) (fun v => { v with loadAsked := flew || v.loadAsked })
  | 15 => s.tokenLow s.pair.active p
  | _ => s

/-- The shadow that a standby keeps through a lane of its own is not valid without it (R55, R273). -/
def State.shadowOut (s : State) (p n : Nat) : State :=
  match n with
  | 10 | 11 => s.wr (Obj.SHADOW_VALID p (n % 2)) 0
  | 15 => (s.wr (Obj.SPD_SHADOW_VALID p) 0).tokenLow s.pair.active.other p
  | _ => s

/-- A lane of a side in service fails (R54): a reader or write lane waits for the next sweep edge, any other is retrained at once; the
third failure of a lane of the active side within 10 s makes the port FAILED. -/
def State.laneFail (s : State) (u : UnitId) (p n : Nat) : State :=
  if !s.laneUpOn u p n then s
  else
    let fails := ((n, s.now) :: (s.getLine (sideKey u p)).laneFails).filter (fun e => s.now ≤ e.2 + 10000000)
    let s := (s.setBit (Obj.LANES_IN_SERVICE u p) n false).modLine (sideKey u p) (fun l =>
      { l with
        laneFails := fails, laneErrs := l.laneErrs.filter (fun e => e.1 != n)
        retrain := if n < 10 then l.retrain ++ [n] else l.retrain
        retraining := if n < 10 then l.retraining else l.retraining ++ [n] })
    if u ≠ s.pair.active then s.shadowOut p n
    else if 3 ≤ (fails.filter (fun e => e.1 = n)).length then (s.raise (.lines p) [.PORT_LANE_FAILED]).portFail p .laneFailure
    else s.laneOut p n

/-! ## Clock-track loss (R71, R270) -/

/-- A spindle under clock-track control falls back to BEMF_HOLD (R259, R270). -/
def State.bemfHold (s : State) (p : Nat) : State :=
  match (s.getSpd p).st with
  | .accelCt | .pullIn | .locked => (s.raise (.spd p) [.SPD_BEMF_HOLD]).spdTo p .bemfHold
  | _ => s

/-- What the unit holding TOKEN does on clock-track loss (R71, R270): gates off, sectors in flight void, CT_LOST, the spindle held on
back-EMF. -/
def State.ctLoss (s : State) (p : Nat) : State :=
  let s := ((s.dropInFlight p).raise (.lines p) [.PORT_CT_LOST]).bemfHold p
  if (s.getPort p).state = .ready then s.portTo p .ctLost .ctLoss else s

end Sys2Proof.Machine
end

