-- ==== Sys2Proof/Machine/ObjectOps.lean ====
section
/-! DEFINITION. What the object service does with values: chunks and their stored form (R286-R289), capacity (R328, R329),
band sets and the placement of soruses (R301-R304), and the acceptance of a Store. -/

namespace Sys2Proof.Machine

/-! ## Chunks and stored forms (R286-R289, R414-R416) -/

/-- CHUNK_INPUT(k) (R286). -/
def chunkInput (k : Nat) : Nat := min 262144 ((5 * k - 1) * 4096)

/-- k of a chunk formed now (R284, R286): the full-width value in Bring-up and while w is below 13. -/
def State.kNow (s : State) (profile : Nat) : Nat :=
  if s.mode.cur = .bringUp || s.width < 13 then 16 - parityCount profile else s.width - parityCount profile

/-- The count of a byte value in a sample. -/
def byteCount (l : List Byte) (v : Nat) : Nat := (l.filter (fun b => b.toNat == v)).length

/-- Π c^c over the byte values of a sample: its estimate is log2 n − (1/n) log2 of this (R288). -/
def entropyProduct (l : List Byte) : Nat := ((List.range 256).map (fun v => let c := byteCount l v; c ^ c)).foldl (· * ·) 1

/-- The samples of R288. -/
def entropySamples (l : List Byte) : List (List Byte) :=
  let n := l.length
  if n < 12288 then [l] else [l.take 4096, (l.drop (n / 2 - 2048)).take 4096, l.drop (n - 4096)]

/-- Whether the mean estimate of an input is at least, or exceeds, limit / 32 bits per byte (R288), in whole numbers: with
samples of n bytes, n^(32 n m) against 2^(limit n m) × Π c^(32 c). -/
def entropyCmp (l : List Byte) (limit : Nat) : Nat × Nat :=
  let ss := entropySamples l
  let n := (ss.headD []).length
  let m := ss.length
  (n ^ (32 * n * m), 2 ^ (limit * n * m) * (ss.map entropyProduct).foldl (· * ·) 1 ^ 32)

/-- The mean estimate exceeds limit / 32 bits per byte. -/
def entropyOver (l : List Byte) (limit : Nat) : Bool := let (a, b) := entropyCmp l limit; decide (b < a)

/-- ENTROPY of a job result (R421): the mean estimate in 1/32 bit per byte, rounded down. -/
def entropyFloor (l : List Byte) : Nat :=
  ((List.range 257).filter (fun i => let (a, b) := entropyCmp l i; decide (b ≤ a))).length - 1

/-- The body and METHOD of a chunk (R415, R416): METHOD 01h only for a DEFLATE body shorter than the input. -/
def chunkBody (mode : CompressMode) (limit : Nat) (input : List Byte) : Nat × List Byte :=
  let tries := match mode with
    | .off => false
    | .on => true
    | .auto => !entropyOver input limit
  match if tries then deflateBody input else none with
  | some body => if body.length < input.length then (1, body) else (0, input)
  | none => (0, input)

/-- The stored form of a chunk (R414). -/
def storedForm (method : Nat) (body input : List Byte) (tag : List Byte) : List Byte :=
  let head : List Byte :=
    [0x4B, 0x43, 0x48, 0x4B, 1, BitVec.ofNat 8 method, 0, 0] ++ leBytes 4 input.length ++ leBytes 4 body.length ++ tag ++
    List.replicate 20 0
  head ++ leBytes 4 (crc32c head).toNat ++ body ++ leBytes 4 (crc32c input).toNat ++ leBytes 4 (crc32c body).toNat ++
    leBytes 4 input.length ++ [0x4B, 0x43, 0x54, 0x52]

/-- Sectors of a stored form (R287). -/
def chunkSectors (body : List Byte) : Nat := (body.length + 64 + 4095) / 4096

/-- COMPRESSION of a namespace as a treatment (R288). -/
def compressionOf (n : Nat) : CompressMode := if n = 0 then .off else if n = 1 then .on else .auto

/-- A chunk closed: its N, and a place in the queue (R287, R289, R304). -/
def State.closeChunk (s : State) (n : Nat) (mode : CompressMode) : State :=
  let x := s.sorus n
  let (_, body) := chunkBody mode x.entropy x.input
  (s.modSorus n (fun x => { x with packing := false, n := chunkSectors body })).queueSorus n

/-- A chunk of a namespace as it is formed, with the settings in force (R280, R286), mirrored to a ready standby (R19). -/
def State.newChunk (s : State) (ns : Nat) (mode : CompressMode) (input : List Byte) : SorusSt :=
  let profile := s.rd (Obj.PROFILE ns)
  { ns := ns, profile := profile, input := input, slack := s.rd (Obj.THRESHOLD_SLACK ns), hint := mode
    entropy := s.rd (Obj.ENTROPY_LIMIT ns), packWait := s.rd (Obj.PACK_WAIT ns), limit := chunkInput (s.kNow profile)
    since := s.now, records := 1, mirrored := s.peerReady }

/-- The open packing chunk of a namespace. -/
def OsSt.openPack (o : OsSt) (ns : Nat) : Option Nat :=
  (o.soruses.find? (fun e => e.2.packing && e.2.ns = ns)).map Prod.fst

/-- The open packing chunk of a namespace sealed (R289). -/
def State.sealPack (s : State) (ns : Nat) : State :=
  match s.os.openPack ns with
  | some n => s.closeChunk n (s.sorus n).hint
  | none => s

/-- Every open packing chunk sealed, as on entry to Drain (R289). -/
def State.sealPacks (s : State) : State := s.forEach (List.range 16) (fun s ns => s.sealPack ns)

/-- The record of a packed value (R289). -/
def packRecord (key value : List Byte) : List Byte :=
  [BitVec.ofNat 8 key.length, 0, 0, 0] ++ leBytes 4 value.length ++ key ++ List.replicate (16 - key.length) 0 ++ value

/-- A value of 1 to 49 151 bytes appended to the open packing chunk, or to a new one (R289): the chunk and the offset. -/
def State.packValue (s : State) (ns : Nat) (key value : List Byte) : Nat × Nat × State :=
  let r := packRecord key value
  let s := match s.os.openPack ns with
    | some n => if (s.sorus n).limit < (s.sorus n).input.length + r.length then s.sealPack ns else s
    | none => s
  match s.os.openPack ns with
  | some n => (n, (s.sorus n).input.length, s.modSorus n (fun x => { x with input := x.input ++ r, records := x.records + 1 }))
  | none =>
    let x := s.newChunk ns (compressionOf (s.rd (Obj.COMPRESSION ns))) r
    let (n, s) := s.newSorus { x with packing := true, packed := true }
    (n, 0, s)

/-- A value cut into chunks of CHUNK_INPUT(k) bytes (R286). -/
def State.cutValue : Nat → State → Nat → CompressMode → List Byte → List Nat × State
  | 0, s, _, _, _ => ([], s)
  | fuel + 1, s, ns, mode, v =>
    if v.isEmpty then ([], s)
    else
      let c := chunkInput (s.kNow (s.rd (Obj.PROFILE ns)))
      let (n, s) := s.newSorus (s.newChunk ns mode (v.take c))
      let s := s.closeChunk n mode
      let (rest, s) := State.cutValue fuel s ns mode (v.drop c)
      (n :: rest, s)

/-- The chunks of a Store (R281, R286): none for an empty value. -/
def State.formChunks (s : State) (c : HostCmd) : State :=
  let put (s : State) (f : HostCmd → HostCmd) : State :=
    { s with cmds := s.cmds.map (fun (d : HostCmd) => if d.tag == c.tag then f d else d) }
  if c.value.isEmpty then put s (fun d => { d with held := false })
  else if c.value.length < 49152 then
    let (n, off, s) := s.packValue c.ns c.key c.value
    put s (fun d => { d with held := false, chunks := [n], packed := true, off := off })
  else
    let (ns, s) := State.cutValue (c.value.length / 4096 + 1) s c.ns c.hint c.value
    put s (fun d => { d with held := false, chunks := ns })

/-! ## Capacity (R328, R329) -/

/-- w′ (R328). -/
def State.wReserve (s : State) : Nat := max (s.width - s.rd Obj.RESERVE_HDAS) 13

/-- k′ of a profile (R328). -/
def State.kReserve (s : State) (profile : Nat) : Nat := s.wReserve - parityCount profile

/-- The live soruses: those a value references (R324), and index soruses. -/
def OsSt.liveSoruses (o : OsSt) : List (Nat × SorusSt) :=
  o.soruses.filter (fun e => !e.2.dead && (e.2.index || 0 < o.live e.1))

/-- PROJECTED_BYTES in positions (R328). -/
def State.projected (s : State) : Nat :=
  ((s.os.liveSoruses.map (fun e => s.wReserve * ((e.2.n + s.kReserve e.2.profile - 1) / s.kReserve e.2.profile)))).sum

/-- Numbers in rising order. -/
def insertNat (n : Nat) : List Nat → List Nat
  | [] => [n]
  | m :: t => if n ≤ m then n :: m :: t else m :: insertNat n t

/-- The positions LIMIT_BYTES rests on, before HEADROOM (R328): those of the w′ ACTIVE members with the fewest. -/
def State.limitBase (s : State) : Nat :=
  (((s.os.members.filter (fun e => e.2.state = .active)).map (fun e => e.2.positions)).foldl (fun l n => insertNat n l) []
    |>.take s.wReserve).sum

/-- The sectors of the incompressible chunks of a value (R329). -/
def chunkPlan (c : Nat) : Nat → Nat → List Nat
  | 0, _ => []
  | fuel + 1, len => if len = 0 then [] else ((min c len + 64 + 4095) / 4096) :: chunkPlan c fuel (len - min c len)

/-- A new value would take PROJECTED_BYTES beyond LIMIT_BYTES (R329); a packed value counts its share unrounded. Both sides
are in positions, times 100 × 4096 × k′. -/
def State.overCapacity (s : State) (ns len : Nat) : Bool :=
  let profile := s.rd (Obj.PROFILE ns)
  let k := s.kReserve profile
  let w := s.wReserve
  let add := if len = 0 then 0
    else if len < 49152 then 100 * (24 + len) * w
    else 100 * 4096 * k * ((chunkPlan (chunkInput (s.kNow profile)) (len / 4096 + 1) len).map (fun n => w * ((n + k - 1) / k))).sum
  s.limitBase = 0 || decide (s.limitBase * (100 - s.rd Obj.HEADROOM) * 4096 * k < 100 * 4096 * k * s.projected + add)

/-- USER_BYTES of a namespace (R328, R331). -/
def State.userBytes (s : State) (ns : Nat) : Nat := (((s.os.values ns).filter (fun v => !v.lost)).map ValueDesc.len).sum

/-- A new value would take a namespace beyond its quota (R329). -/
def State.overQuota (s : State) (ns len : Nat) : Bool :=
  s.rd (Obj.QUOTA ns) ≠ 0 && decide (s.rd (Obj.QUOTA ns) < s.userBytes ns + len)

/-! ## Bands and band sets (R151, R152, R301, R302) -/

/-- The key of a band on a member: (((actuator × 16 + head) × 32 + zone) × 2^24 + band). -/
def bandNo (act head zone band : Nat) : Nat := ((act * 16 + head) * 32 + zone) * 2 ^ 24 + band

/-- The key of a band of a member slot. -/
def bandSlotKey (slot act head zone band : Nat) : Nat := slot * 2 ^ 40 + bandNo act head zone band

/-- The lowest free band of a zone of a head. -/
def lowestFree (m : Member) (z : Zone) (act head zone : Nat) : Option Nat :=
  (List.range (min (z.bands head zone) (m.used.length + 1))).find? (fun b => !m.used.contains (bandNo act head zone b))

/-- The free band a set takes on a member (R301): the lowest zone, then the lowest band number, on a head not degraded, and
of no zone entry that is refused (R124). -/
def State.pickBand (s : State) (m : Member) (p a : Nat) : Option (Nat × Nat × Nat) :=
  let c := s.getChan (chanKey p a)
  let heads := (List.range (s.rd (Obj.HEADS_PER_ACTUATOR p))).filter (fun h => !c.degraded.contains h)
  ((List.range 32).map (fun z =>
    heads.foldl (fun (best : Option (Nat × Nat × Nat)) h =>
      match if s.zoneBad p (c.zone (h * 32 + z)) then none else lowestFree m (zoneOf (c.zone (h * 32 + z))) a h z with
      | none => best
      | some b => match best with
        | some (_, _, b0) => if b < b0 then some (h, z, b) else best
        | none => some (h, z, b)) none)).findSome? id

/-- The writable members in ascending slot, at most 16 (R284, R303). -/
def State.writableSlots (s : State) : List (Nat × Member) := (s.os.members.filter (fun e => s.memberWritable e.2)).take 16

/-- A band set opened on an actuator (R301), when the width allows and every writable member has a free band. -/
def State.openSet (s : State) (a : Nat) : State :=
  let ms := s.writableSlots
  let bands : List (Option SetBand) := ms.map (fun e =>
    match e.2.port with
    | some p => (s.pickBand e.2 p a).map (fun (h, z, b) => ⟨e.1, p, h, z, b, 0⟩)
    | none => none)
  if ms.length < 13 || bands.any Option.isNone then s
  else
    let bs := bands.filterMap id
    let set : BandSet := { no := s.os.nextSet, act := a, bands := bs }
    let s := s.forEach bs (fun s b =>
      let m : Member := mapGet (fun _ => {}) s.os.members b.slot
      { s with os := { s.os with
        members := mapPut (fun _ => {}) s.os.members b.slot { m with used := bandNo a b.head b.zone b.band :: m.used } } })
    { s with os := { s.os with sets := s.os.sets ++ [set], nextSet := s.os.nextSet + 1 } }

/-- The frontier of a position of a band (R152). -/
def OsSt.frontier (o : OsSt) (r : FragRec) (pos : Nat) : Nat :=
  mapGet (fun _ => 0) (mapGet (fun _ => []) o.frontiers (bandSlotKey r.slot r.act r.head r.zone r.band)) pos

/-- Whether the band of a set is full (R152): every frontier, or the set's own track, has passed the last data track. -/
def State.bandFull (s : State) (a : Nat) (x : SetBand) : Bool :=
  let z := zoneOf ((s.getChan (chanKey x.port a)).zone (x.head * 32 + x.zone))
  decide (z.bandTracks ≤ x.track) ||
    (List.range z.spt).all (fun pos => decide (z.bandTracks ≤ s.os.frontier ⟨x.slot, a, x.head, x.zone, x.band, x.track, pos, 0⟩ pos))

/-- Whether a set must close (R302): a band full, a member no longer writable, a head degraded, or the width changed. -/
def State.setEnds (s : State) (b : BandSet) : Bool :=
  let ws := s.writableSlots
  b.bands.length != ws.length ||
  b.bands.any (fun x =>
    !ws.any (fun e => e.1 = x.slot) || (s.getChan (chanKey x.port b.act)).degraded.contains x.head ||
    s.bandFull b.act x)

/-- Whether every writable member has two actuators (R301). -/
def State.twoActs (s : State) : Bool :=
  s.writableSlots.all (fun e => match e.2.port with | some p => s.rd (Obj.ACTUATOR_COUNT p) == 2 | none => false)

/-- Sets that end are closed (R302), and the second of two where a writable member has one actuator (R301); their soruses stay in the
queue. -/
def State.closeSets (s : State) : State :=
  let closed := (s.os.sets.filter (fun b => b.isOpen && (s.setEnds b || b.act == 1 && !s.twoActs))).map BandSet.no
  { s with os := { s.os with
    sets := s.os.sets.map (fun (b : BandSet) => if closed.contains b.no then { b with isOpen := false } else b) } }

/-- Sets opened while soruses wait: one on actuator 0, a second on actuator 1 (R301). -/
def State.openSets (s : State) : State :=
  let isOpen := fun (s : State) a => s.os.sets.any (fun b => b.isOpen && b.act = a)
  if s.os.queue.isEmpty then s
  else
    let s := if isOpen s 0 then s else s.openSet 0
    if isOpen s 1 || !s.twoActs then s else s.openSet 1

/-! ## Placement (R303, R304) -/

/-- A place of a fragment with the BAND_SEQ its next write carries (R300). -/
def OsSt.stamped (o : OsSt) (r : FragRec) : FragRec :=
  { r with bandSeq := mapGet (fun _ => 0) o.bandSeqs (bandSlotKey r.slot r.act r.head r.zone r.band) }

/-- The frontiers of the f positions of a fragment moved past its track, the positions on the tracks skipped void (R152), and the
BAND_SEQ of its band raised (R300). -/
def State.raiseFrontier (s : State) (r : FragRec) (f : Nat) : State :=
  let s := match (mapGet (fun _ => {}) s.os.members r.slot : Member).port with
    | some p =>
      let skipped := (List.range f).flatMap (fun i =>
        let low := s.os.frontier r (r.pos + i)
        (List.range (r.track - low)).map (fun t => (⟨r.act, r.head, s.fragTrack p { r with track := low + t }, r.pos + i⟩ : Psa)))
      s.modChan (chanKey p r.act) (fun c => { c with void := skipped.filter (fun x => !c.void.contains x) ++ c.void })
    | none => s
  let k := bandSlotKey r.slot r.act r.head r.zone r.band
  let m : Map Nat := mapGet (fun _ => []) s.os.frontiers k
  { s with os := { s.os with
    bandSeqs := mapPut (fun _ => 0) s.os.bandSeqs k (r.bandSeq + 1)
    frontiers := mapPut (fun _ => []) s.os.frontiers k
      ((List.range f).foldl (fun m i => mapPut (fun _ => 0) m (r.pos + i) (r.track + 1)) m) } }

/-- A position of a band of a set on its current track. -/
def SetBand.spot (b : SetBand) (act pos : Nat) : FragRec := ⟨b.slot, act, b.head, b.zone, b.band, b.track, pos, 0⟩

/-- The layout of a band of a set: its zone, the clock-track cycles and the fragments of its sectors. -/
structure SlotMap where
  b : SetBand
  act : Nat
  z : Zone
  ct : Nat
  starts : List Nat

/-- The slot maps of a set. -/
def State.slotMaps (s : State) (t : BandSet) : List SlotMap :=
  t.bands.map (fun b =>
    let z := zoneOf ((s.getChan (chanKey b.port t.act)).zone (b.head * 32 + b.zone))
    let ct := s.rd (Obj.CT_CYCLES_PER_REV b.port)
    { b := b, act := t.act, z := z, ct := ct
      starts := if s.zoneBad b.port ((s.getChan (chanKey b.port t.act)).zone (b.head * 32 + b.zone)) then []
        else ((z.layout ct).getD []).map (fun fs => (fs.headD ⟨0, 0, 0, 0⟩).pos) })

/-- The first position of a slot W on one member for F sectors, when the slot is usable there (R304). -/
def State.slotOn (s : State) (m : SlotMap) (w f : Nat) : Option Nat :=
  match m.starts.findIdx? (fun x => m.z.wedge m.ct w ≤ x) with
  | none => none
  | some pos =>
    let start := m.starts.getD pos 0
    if pos + f ≤ m.starts.length && decide ((start - m.z.wedge m.ct w) * 512 * m.z.n ≤ 2 * m.ct * m.z.m) &&
        (List.range f).all (fun i => decide (s.os.frontier (m.b.spot m.act pos) (pos + i) ≤ m.b.track)) then some pos
    else none

/-- The earliest slot from W on and below a limit that every member can use, with its positions (R304). -/
def State.findSlot (s : State) (ms : List SlotMap) (w lim f : Nat) : Option (Nat × List Nat) :=
  ((List.range (lim - w)).map (· + w)).findSome? (fun w =>
    let ps := ms.map (fun m => s.slotOn m w f)
    if ps.any Option.isNone then none else some (w, ps.filterMap id))

/-- A sorus takes a slot of a set (R303): fragment i goes to member (i + SEQ) mod w, and its check begins (R144). -/
def State.placeSorus (s : State) (t : BandSet) (ms : List SlotMap) (n : Nat) (ps : List Nat) : State :=
  let x := s.sorus n
  let w := ms.length
  let k := w - parityCount x.profile
  let f := (x.n + k - 1) / k
  let frags := fragIndexes x.profile k
  let seq := ((s.os.sets.find? (fun b => b.no = t.no)).map BandSet.seq).getD 0
  let spots : List (Nat × SetBand × Nat) := frags.zipIdx.filterMap (fun (fi, i) =>
    match ms[(i + seq) % w]?, ps[(i + seq) % w]? with
    | some m, some pos => some (fi, m.b, pos)
    | _, _ => none)
  let place := fun (b : SetBand) pos => s.os.stamped (b.spot t.act pos)
  let s := s.modSorus n (fun x =>
    { x with
      k := k, f := f, width := w, sid := some (t.no, seq)
      frags := spots.map (fun (fi, b, pos) => (fi, place b pos)) })
  let s := s.forEach spots (fun s (fi, b, pos) =>
    let chk : FragCheck := { sorus := n, frag := fi, spot := place b pos, sectors := f }
    (s.raiseFrontier (place b pos) f).modChan (chanKey b.port t.act) (fun c => { c with checks := c.checks ++ [chk] }))
  { s with os := { s.os with
    queue := s.os.queue.filter (· != n)
    sets := s.os.sets.map (fun (b : BandSet) => if b.no = t.no then { b with seq := seq + 1 } else b) } }

/-- Queued soruses placed in one sweep of a set, in queue order, each after the slot of the one before and below a limit (R304): how
many were placed, and the slot that follows the last. -/
def State.placeQueue (t : BandSet) (ms : List SlotMap) (lim : Nat) : List Nat → Nat → State → Nat × Nat × State
  | [], w, s => (0, w, s)
  | n :: rest, w, s =>
    let x := s.sorus n
    let k := ms.length - parityCount x.profile
    match s.findSlot ms w lim ((x.n + k - 1) / k) with
    | none => (0, w, s)
    | some (w', ps) =>
      let (c, w, s) := placeQueue t ms lim rest (w' + 1) (s.placeSorus t ms n ps)
      (c + 1, w, s)

/-- Percent of a sweep that rebuild takes while host work waits (R317). -/
def State.rebuildShare (s : State) (l : List Nat) : Nat :=
  if l.any (fun n => match (s.sorus n).replaces with | some o => (s.sorus o).margin == 0 | none => false) then max 70 (s.rd Obj.REBUILD_SHARE)
  else s.rd Obj.REBUILD_SHARE

/-- Fewer than a quarter of FREE_BANDS_LOW free bands on some member (R325, R327). -/
def State.bandsShort (s : State) : Bool :=
  s.os.members.any (fun e => e.2.state == .active && decide (4 * e.2.free < s.rd Obj.FREE_BANDS_LOW))

/-- Percent of a sweep that compaction takes while host work waits (R325). -/
def State.compactShare (s : State) : Nat := if s.bandsShort then 50 else s.rd Obj.COMPACT_SHARE

/-- The queue placed in one sweep of a set (R304, R317, R325): in queue order; while soruses of host work wait among it, rebuild and
then compaction take their shares of the sweep's wedges first and no more. -/
def State.placeShares (s : State) (t : BandSet) (ms : List SlotMap) : Nat × State :=
  let moves := s.os.queue.filter (fun n => (s.sorus n).replaces.isSome && !(s.sorus n).index)
  let host := s.os.queue.filter (fun n => !moves.contains n)
  if host.isEmpty || moves.isEmpty then
    let (c, _, s) := State.placeQueue t ms 512 s.os.queue 0 s
    (c, s)
  else
    let rebuilds := moves.filter (fun n => match (s.sorus n).replaces with | some o => s.os.repair.contains o | none => false)
    let others := moves.filter (fun n => !rebuilds.contains n)
    let share := fun (w pct : Nat) => min 512 (w + 512 * pct / 100)
    let (c, w, s') := State.placeQueue t ms (share 0 (s.rebuildShare rebuilds)) rebuilds 0 s
    let (d, w, s') := State.placeQueue t ms (share w s.compactShare) others w s'
    let (e, _, s') := State.placeQueue t ms 512 host w s'
    (c + d + e, s')

/-- A sweep of an open set: soruses are placed on the current tracks; when none finds a slot, the tracks advance. -/
def State.placeSet (s : State) (no : Nat) : State :=
  match s.os.sets.find? (fun b => b.no = no && b.isOpen) with
  | none => s
  | some t =>
    if s.os.queue.isEmpty then s
    else
      let (c, s) := s.placeShares t (s.slotMaps t)
      if c ≠ 0 then s
      else { s with os := { s.os with
        sets := s.os.sets.map (fun (b : BandSet) =>
          if b.no = no then { b with bands := b.bands.map (fun (x : SetBand) => { x with track := x.track + 1 }) } else b) } }

/-- Writes not planned because an HDA is Critical (R141, R155): soruses wait and a healthy member takes none of them. -/
def State.criticalWaits (s : State) : State :=
  if s.os.queue.isEmpty then s
  else
    s.forEach ((s.os.members.filter (fun e => s.memberHealthy e.2)).filterMap (fun e => e.2.port)) (fun s p =>
      if s.hdaBand p = .critical then
        s.forEach (List.range (s.rd (Obj.ACTUATOR_COUNT p))) (fun s a => s.raise (.wr p a) [.WR_CRITICAL_REFUSED])
      else s)

/-- The placement of a sweep (R285, R301-R304): in Frond and Frond-degraded with 13 writable members, unless writes are
stopped. -/
def State.placeSweep (s : State) : State :=
  if (s.mode.cur = .frond || s.mode.cur = .frondDegraded) && 13 ≤ s.width && s.os.mode != .indexUnavailable then
    let s := s.criticalWaits.closeSets.openSets
    s.forEach ((s.os.sets.filter BandSet.isOpen).map BandSet.no) (fun s n => s.placeSet n)
  else s.closeSets

/-! ## Checks, rewrites and reports of fragments (R143-R147, R316) -/

/-- A fragment is abandoned (R146). -/
def State.abandonFrag (s : State) (p a : Nat) (c : FragCheck) : State :=
  let s := s.modChan (chanKey p a) (fun n => { n with checks := n.checks.filter (fun (d : FragCheck) => !(d.sorus == c.sorus && d.frag == c.frag)) })
  let s := (s.inc (Obj.FRAGMENTS_ABANDONED p a)).raise (.wr p a) [.WR_FRAG_ABANDONED]
  (s.fragMissing c.sorus c.frag).judgeSorus c.sorus

/-- A failed fragment moves to a later track of its band, at the same positions (R145, R152); it waits while its HDA takes no
write (R141, R148), and is abandoned when the band has no later track or its check has failed too often (R146). -/
def State.rewriteFrag (s : State) (p a : Nat) (c : FragCheck) : State :=
  let z := zoneOf ((s.getChan (chanKey p a)).zone (c.spot.head * 32 + c.spot.zone))
  let track := (List.range c.sectors).foldl (fun t i => max t (s.os.frontier c.spot (c.spot.pos + i)))
    (((s.os.sets.flatMap (fun (b : BandSet) => if b.act = a then b.bands else [])).find? (fun (b : SetBand) =>
        decide (b.slot = c.spot.slot) && b.head == c.spot.head && b.zone == c.spot.zone && b.band == c.spot.band)).map SetBand.track |>.getD 0)
  if s.rd (Obj.MAX_REWRITES p a) < c.checkFails || z.bandTracks ≤ track then s.abandonFrag p a c
  else if s.zoneBad p ((s.getChan (chanKey p a)).zone (c.spot.head * 32 + c.spot.zone)) then s
  else if s.hdaBand p = .critical then s.raise (.wr p a) [.WR_CRITICAL_REFUSED]
  else
    let spot := s.os.stamped { c.spot with track := track }
    let s := s.raiseFrontier spot c.sectors
    let s := s.modSorus c.sorus (fun x => { x with frags := x.frags.map (fun q => if q.1 = c.frag then (q.1, spot) else q) })
    let s := s.modChan (chanKey p a) (fun n => { n with
      checks := n.checks.map (fun (d : FragCheck) =>
        if d.sorus == c.sorus && d.frag == c.frag then { d with spot := spot, rewrite := true, failed := false, passed := 0 } else d) })
    { s with os := { s.os with
      sets := s.os.sets.map (fun (b : BandSet) =>
        if b.act = a then
          { b with bands := b.bands.map (fun (x : SetBand) =>
              if x.slot = c.spot.slot && x.head = c.spot.head && x.zone = c.spot.zone && x.band = c.spot.band then { x with track := max x.track track } else x) }
        else b) } }

/-- The failed fragments of an actuator planned again (R145, R148). -/
def State.rewriteAll (s : State) (p a : Nat) : State :=
  s.forEach ((s.getChan (chanKey p a)).checks.filter FragCheck.failed) (fun s c => s.rewriteFrag p a c)

/-- The check of a sector of a fragment ends (R144, R147): the fragment is checked when its last sector has passed; a failing
sector fails the whole of it, its positions become void, and the head is degraded beyond RAW_HEAD_LIMIT. A write whose check
never ran does not count towards MAX_REWRITES (R146). -/
def State.fragResult (s : State) (p a : Nat) (c : FragCheck) (pass ran : Bool) : State :=
  let change (f : FragCheck → FragCheck) (s : State) : State :=
    s.modChan (chanKey p a) (fun n => { n with
      checks := n.checks.map (fun (d : FragCheck) => if d.sorus == c.sorus && d.frag == c.frag then f d else d) })
  if c.failed then s
  else if pass then
    if c.passed + 1 < c.sectors then change (fun d => { d with passed := d.passed + 1 }) s
    else
      let s := s.modChan (chanKey p a) (fun n => { n with checks := n.checks.filter (fun (d : FragCheck) => !(d.sorus == c.sorus && d.frag == c.frag)) })
      (s.modSorus c.sorus (fun x => { x with checked := x.checked ||| 2 ^ c.frag })).judgeSorus c.sorus
  else
    let k := bandNo a c.spot.head c.spot.zone c.spot.band
    let track := s.fragTrack p c.spot
    let void := (List.range c.sectors).map (fun i => (⟨a, c.spot.head, track, c.spot.pos + i⟩ : Psa))
    let s := s.modChan (chanKey p a) (fun n => { n with
      void := void.filter (fun x => !n.void.contains x) ++ n.void
      headFails := mapPut (fun _ => 0) n.headFails k (mapGet (fun _ => 0) n.headFails k + 1) })
    let s := ((s.inc (Obj.RAW_FAILS p a)).inc (Obj.REWRITES p a)).raise (.wr p a) [.WR_RAW_FAIL]
    let n := s.getChan (chanKey p a)
    let s := if s.rd (Obj.RAW_HEAD_LIMIT p a) < mapGet (fun _ => 0) n.headFails k && !n.degraded.contains c.spot.head then
        (s.modChan (chanKey p a) (fun n => { n with degraded := n.degraded ++ [c.spot.head] })).raise (.wr p a) [.WR_HEAD_DEGRADED]
      else s
    let c := { c with failed := true, checkFails := if ran then c.checkFails + 1 else c.checkFails }
    (change (fun _ => c) s).rewriteFrag p a c

/-! ## Service state (R319, R331) -/

/-- OS_STATE of the service modes (R319, R331): read-only with fewer than 13 healthy members or with the journal exhausted. -/
def State.osRefresh (s : State) : State :=
  if s.os.mode = .indexUnavailable then s
  else if s.mode.cur = .frond || s.mode.cur = .frondDegraded then
    if s.healthy < 13 || (s.getJf s.pair.active.code).exhausted then
      if s.os.mode = .readOnly then s
      else
        let s := ({ s with os := { s.os with mode := .readOnly } } : State).raise .os [.OS_READ_ONLY]
        s.deferredError (if s.healthy < 13 then 0x02 else 0x04) 0
    else { s with os := { s.os with mode := .readWrite } }
  else s

/-- Whether Stores and Deletes are refused as read-only (R319). -/
def State.readOnly (s : State) : Bool := s.healthy < 13

/-! ## Acceptance of a Store (R281, R285, R319, R329, R340) -/

/-- The value descriptor an entering command sees (R346): what the latest earlier Store or Delete of its key in the table
leaves, or the index. -/
inductive Seen where
  | absent | stored (v : ValueDesc) | pendingStore (c : HostCmd)

/-- The latest Store or Delete of a key in the table. -/
def State.latest (s : State) (ns : Nat) (key : List Byte) : Option HostCmd :=
  (s.cmds.filter (fun (c : HostCmd) => (c.kind == .store || c.kind == .delete) && c.ns == ns && c.key == key)).getLast?

/-- What a command observes at entry (R346). -/
def State.observe (s : State) (ns : Nat) (key : List Byte) : Seen :=
  match s.latest ns key with
  | some c => if c.kind = .store then .pendingStore c else .absent
  | none =>
    match (s.os.values ns).find? (fun v => v.key == key) with
    | some v => .stored v
    | none => .absent

/-- Whether a key is present to an entering command. -/
def State.present (s : State) (ns : Nat) (key : List Byte) : Bool :=
  match s.observe ns key with
  | .absent => false
  | _ => true

/-- NS_STATE of a namespace (R278). -/
def OsSt.nsStateOf (o : OsSt) (ns : Nat) : Nat := mapGet (fun _ => 0) o.nsState ns

/-- The common refusals of a key-value command on this module (R279, R281, R318, R351, R436): the mode, the namespace, the key. -/
def State.kvRefusal (s : State) (ns : Nat) (key : Option (List Byte)) (write del : Bool) : Option Outcome :=
  if s.os.mode = .indexUnavailable then some .indexUnavailable
  else if s.os.nsStateOf ns = 0 then some .nsUnused
  else if s.os.nsStateOf ns = 2 then some .nsDeleting
  else
    match s.mode.cur with
    | .frond | .frondDegraded | .drain | .switchover =>
      if (match key with | some k => k.isEmpty || decide (16 < k.length) | none => false) then some .invalidKey
      else if write && (s.getJf s.pair.active.code).exhausted then some .journalExhausted
      else if write && s.readOnly then some .readOnly
      else none
    | .bringUp =>
      if s.rd Obj.REDUCED_SERVICE = 0 || del then some .notReady
      else if (match key with | some k => k.isEmpty || decide (16 < k.length) | none => false) then some .invalidKey
      else if write && (s.getJf s.pair.active.code).exhausted then some .journalExhausted
      else none
    | _ => some .notReady

/-- The refusal of a Store beyond the common ones (R281, R329, R340). -/
def State.storeRefusal (s : State) (ns : Nat) (key : List Byte) (len : Nat) (opt : StoreOpt) : Option Outcome :=
  match s.kvRefusal ns (some key) true false with
  | some o => some o
  | none =>
    if 67108864 < len then some .valueTooLarge
    else if opt = .mustExist && !s.present ns key then some .keyNotFound
    else if opt = .mustNotExist && s.present ns key then some .keyExists
    else if s.overQuota ns len then some .quota
    else if s.overCapacity ns len then some .capacity
    else none

/-- A command enters the table (R342). -/
def State.enterCmd (s : State) (c : HostCmd) : State := { s with cmds := s.cmds ++ [c] }

/-- A Store executes: refused, or its chunks are formed and wait for their seals; held while the width is below 13 (R285,
R308, R319). CAPACITY_LIMIT marks a refusal of R329. -/
def State.runStore (s : State) (t : CmdTag) (ns : Nat) (key value : List Byte) (opt : StoreOpt) (hint : CompressMode) : State :=
  match s.storeRefusal ns key value.length opt with
  | some o =>
    let s := if o = .quota || o = .capacity then s.raise .os [.OS_CAPACITY_LIMIT] else s
    s.complete t o
  | none =>
    let store := fun (c : HostCmd) =>
      { c with kind := .store, ns := ns, key := key, value := value, hint := hint, held := true, heldAt := s.now }
    let c := store ((s.cmds.find? (fun (c : HostCmd) => c.tag == t)).getD { tag := t })
    let s := { s with cmds := s.cmds.map (fun (d : HostCmd) => if d.tag == t then c else d) }
    if s.width < 13 && s.mode.cur != .bringUp then s else (s.formChunks c).settleCmds

/-- Stores held for width go on once the width is back (R319). -/
def State.releaseHeld (s : State) : State :=
  if s.width < 13 then s
  else (s.forEach (s.cmds.filter (fun (c : HostCmd) => c.kind = .store && c.held)) (fun s c => s.formChunks c)).settleCmds

end Sys2Proof.Machine
end

