-- ==== Sys2Proof/Machine/HostOps.lean ====
section
/-! DEFINITION. The command table and the controllers as other blocks change them: entry of commands (R342-R344), controllers
that lose their link or are reset (R336, R349, R350, R619), and readiness (R338). -/

namespace Sys2Proof.Machine

/-! ## Entry to the command table (R334, R342-R344) -/

/-- Modes in which controllers fetch (R29): not in Drain, Switchover, Hold-up or before Bring-up. -/
def fetches : Mode → Bool
  | .bringUp | .frond | .frondDegraded | .quiescent | .maintenance => true
  | _ => false

/-- A slot of the table changed. -/
def State.modCmd (s : State) (t : CmdTag) (f : HostCmd → HostCmd) : State :=
  { s with cmds := s.cmds.map (fun (c : HostCmd) => if c.tag == t then f c else c) }

/-- Value bytes of Stores in the write buffer (R344). -/
def State.bufferBytes (s : State) : Nat :=
  ((s.cmds.filter (fun (c : HostCmd) => c.kind = .store)).map (fun (c : HostCmd) => c.value.length + c.need)).sum

/-- Whether a unit's controller can reach the command table: the active unit's own, or the other's over the mirror link while
that unit runs firmware (R334). -/
def State.reachesTable (s : State) (u : UnitId) : Bool :=
  u == s.pair.active ||
  ((s.pair.mirror == .up16 || s.pair.mirror == .up8) &&
    (match u with | .A => s.pair.unitA.fwRunning | .B => s.pair.unitB.fwRunning))

/-- The head of a submission queue moves past the entry fetched (R335). -/
def CtrlSt.takeEntry (c : CtrlSt) (sq : Nat) : CtrlSt :=
  { c with sqs := c.sqs.map (fun (q : SubQueue) =>
      if q.qid = sq then { q with head := if q.head + 1 < q.size then q.head + 1 else 0 } else q) }

/-! ## Arbitration (R343, R344) -/

/-- A Store of a value length finds no room in the write buffer (R344). -/
def State.bufferFull (s : State) (len : Nat) : Bool := len != 0 && decide (s.rd Obj.WRITE_BUFFER_LIMIT * 1048576 < s.bufferBytes + len)

/-- Of the queues with commands waiting, those their controller may fetch from: a queue whose Store finds no room is left out. -/
def State.eligible (s : State) (u : UnitId) (ready : List (Nat × Nat)) : List Nat :=
  let k := s.getCtrl u.code
  if !k.rdy || !s.reachesTable u then []
  else (ready.filter (fun e => k.sqs.any (fun q => q.qid == e.1) && !s.bufferFull e.2)).map Prod.fst

/-- The burst of 8 of a queue goes on. -/
def CtrlSt.goesOn (c : CtrlSt) (qs : List Nat) : Bool := decide (0 < c.burst) && decide (c.burst < 8) && qs.contains c.turn

/-- The queue to fetch from next: the one whose burst goes on, else the next of the round of the 65 queues. -/
def CtrlSt.pick (c : CtrlSt) (qs : List Nat) : Option Nat :=
  if c.goesOn qs then some c.turn else ((List.range 65).map (fun i => (c.turn + 1 + i) % 65)).find? (fun q => qs.contains q)

/-- Whether the next entry admitted is one of a controller's queue (R343): its own round robin picks the queue, and while both controllers
have commands waiting their bursts take turns. -/
def State.admits (s : State) (t : CmdTag) (ready other : List (Nat × Nat)) : Bool :=
  let k := s.getCtrl t.ctrl.code
  let qs := s.eligible t.ctrl ready
  let os := s.eligible t.ctrl.other other
  k.pick qs == some t.sq &&
    (if s.lastCtrl = t.ctrl then k.goesOn qs || os.isEmpty else !(s.getCtrl t.ctrl.other.code).goesOn os)

/-- The head of a submission queue moves past the entry fetched (R335), and its burst counts it (R343). -/
def CtrlSt.fetched (c : CtrlSt) (sq : Nat) (qs : List Nat) : CtrlSt :=
  let c := if c.goesOn qs then { c with burst := c.burst + 1 } else { c with turn := sq, burst := 1 }
  c.takeEntry sq

/-- A command is fetched from a queue of its controller, with the value length of a Store: it takes a slot, or stays in its
queue because the table is full (R342), the write buffer is (R344), or its controller does not fetch. A command that holds a
slot is in the table. `ready` and `other` are the queues with commands waiting, of its controller and of the other one. -/
def State.fetch (s : State) (t : CmdTag) (len : Nat := 0) (ready other : List (Nat × Nat) := []) : State × Bool :=
  let k := s.getCtrl t.ctrl.code
  let ready := (t.sq, len) :: ready.filter (fun e => e.1 != t.sq)
  if s.cmds.any (fun (c : HostCmd) => c.tag == t) then (s, true)
  else if !k.rdy || !fetches s.mode.cur || !s.reachesTable t.ctrl || !k.sqs.any (fun q => q.qid == t.sq) then (s, false)
  else if 16384 ≤ s.cmds.length then
    (if s.bit Obj.HOST_STATUS Flag.HOST_FETCH_PAUSED.bit then s
     else (s.inc Obj.FETCH_PAUSES).raise .host [.HOST_FETCH_PAUSED], false)
  else if s.bufferFull len then
    (s.raise .host [.HOST_BUFFER_PAUSED], false)
  else if !s.admits t ready other then (s, false)
  else
    let fwd := t.ctrl != s.pair.active
    let qs := s.eligible t.ctrl ready
    let s := (s.inc (Obj.COMMANDS_ENTERED t.ctrl.code)).modCtrl t.ctrl.code (fun c => c.fetched t.sq qs)
    let s := { s with lastCtrl := t.ctrl }
    let s := s.enterCmd { tag := t, forwarded := fwd }
    let s := s.wr Obj.CMD_SLOTS_PEAK (max (s.rd Obj.CMD_SLOTS_PEAK) s.cmds.length)
    (if len ≠ 0 then s.lower .host .HOST_BUFFER_PAUSED else s, true)

/-- The pauses that have ended (R342, R344). -/
def State.pauseEnd (s : State) : State :=
  let s := if s.cmds.length < 16384 && s.bit Obj.HOST_STATUS Flag.HOST_FETCH_PAUSED.bit then
      s.lower .host .HOST_FETCH_PAUSED else s
  if s.bufferBytes = 0 && s.bit Obj.HOST_STATUS Flag.HOST_BUFFER_PAUSED.bit then s.lower .host .HOST_BUFFER_PAUSED else s

/-! ## Commands abandoned (R350) -/

/-- A command affected by a reset or by a loss of power (R350): a Store or Delete that is not staged never becomes visible; one
that a Retrieve has observed leaves an entry in page C0h (R355). -/
def State.abandonCmd (s : State) (c : HostCmd) : State :=
  let s := s.dropCmd c.tag
  let s := { s with heldCpl := s.heldCpl.filter (fun x => x.tag != c.tag) }
  if (c.kind = .store || c.kind = .delete) && !c.staged then
    let s := if c.observed then s.deferredError 0x05 c.ns c.key else s
    if c.packed then s
    else s.forEach c.chunks (fun s n =>
      if s.os.live n = 0 then
        let s := s.modSorus n (fun x => { x with dead := true })
        { s with os := { s.os with queue := s.os.queue.filter (· != n) } }
      else s)
  else s

/-- The commands of a controller in the table. -/
def State.ctrlCmds (s : State) (u : UnitId) : List HostCmd :=
  s.cmds.filter (fun (c : HostCmd) => c.tag.ctrl = u && c.tag.sq != cascQueue)

/-- The commands of a controller handled as at a controller reset (R350). -/
def State.abandonCtrl (s : State) (u : UnitId) : State :=
  (s.forEach (s.ctrlCmds u) (fun s c => s.abandonCmd c)).settleCmds

/-- Every command of the table lost with its unit (R350): a loss of power or a reset of the module. -/
def State.abandonAll (s : State) : State := (s.forEach s.cmds (fun s c => s.abandonCmd c)).settleCmds

/-! ## Controllers (R336, R338, R619) -/

/-- Queues, outstanding requests and features of a controller gone. -/
def CtrlSt.cleared (c : CtrlSt) : CtrlSt :=
  { c with sqs := [], cqs := [], aers := [], events := [], masked := [], features := [], rdy := false, turn := 64, burst := 0 }

/-- A controller's link goes down (R336): PORT_LOST when commands were outstanding; it comes back as a new controller. -/
def State.ctrlDown (s : State) (u : UnitId) : State :=
  let c := s.getCtrl u.code
  if !c.linkUp then s
  else
    let lost := !(s.ctrlCmds u).isEmpty || !c.aers.isEmpty
    let s := s.abandonCtrl u
    let s := s.modCtrl u.code (fun c => { c.cleared with linkUp := false, ccEn := false, cfs := false, pp := false })
    if lost then s.raise .host [.HOST_PORT_LOST] else s

/-- Entry to Fiddlehead from a mode with ready controllers (R619): CSTS.CFS, CSTS.RDY 0, the commands discarded. -/
def State.ctrlFatal (s : State) (u : UnitId) : State :=
  if (s.getCtrl u.code).rdy then
    (s.abandonCtrl u).modCtrl u.code (fun c => { c.cleared with cfs := true })
  else s

/-- Firmware runs and GDDR7 is trained on the active unit. -/
def State.loaded (s : State) : Bool := let x := s.unitSt s.pair.active; x.fwRunning && x.gddrTrained

/-- CSTS.RDY sets once CC.EN is 1 and firmware and GDDR7 are ready (R338, R428), outside Fiddlehead. -/
def State.readyTry (s : State) (u : UnitId) : State :=
  let c := s.getCtrl u.code
  if c.linkUp && c.ccEn && !c.cfs && s.loaded && fetches s.mode.cur then s.modCtrl u.code (fun c => { c with rdy := true })
  else s

/-- R338 for both controllers. -/
def State.readyBoth (s : State) : State := (s.readyTry .A).readyTry .B

end Sys2Proof.Machine
end

