-- ==== Sys2Proof/Machine/ModeOps.lean ====
section
/-! DEFINITION. The operating modes as every family meets them: what entering a mode does (R29, R30, R74, R502, R519), the grant
of a spin-up token to a port (R440, R445), and what follows at once from a command's effect: a Grave latch (R527), the next
step of a mode request (R30, R31), the end of Bring-up (R435, R437). -/

namespace Sys2Proof.Machine

/-! ## Ports under a mode change (R74) -/

/-- What the always-on logic of each unit drives in Reset hold, Fiddlehead and Fault-latched (R60, R62): PEN and TOKEN low, SPIN at
policy. It runs once no standby follows the active unit any more. -/
def State.linesSafe (s : State) : State :=
  s.forEach (List.range 16) (fun s p => (s.penDrive p false).spinDrive p (s.spinFor p))

/-- Every powered port taken to PRESENT (R74): Reset hold, Fiddlehead, Fault-latched and Hold-up. -/
def State.portsOff (s : State) : State :=
  s.forEach (List.range 16) (fun s p => if (s.getPort p).state.inPower then s.portTo p .present .modeChange else s)

/-- The ports on entry to Quiescent (R74): a controlled stop for those that turn, PRESENT for those that only have power. -/
def State.portsQuiet (s : State) : State :=
  s.forEach (List.range 16) (fun s p =>
    match (s.getPort p).state with
    | .ready | .calibrating | .spinningUp | .ctLost => s.portTo p .spinningDown .modeChange
    | .powering | .training | .linked => s.portTo p .present .modeChange
    | _ => s)

/-- Spindles not yet started go IDLE when the module leaves the modes that start them (R259). -/
def State.spindlesIdle (s : State) : State :=
  s.forEach (List.range 16) (fun s p =>
    match (s.getSpd p).st with
    | .measure | .brakeToRest | .coastToRest | .atRest | .trackForward => s.spdTo p .idle
    | _ => s)

/-! ## Units and memories (R426, R428, R519) -/

/-- A unit as its reset leaves it: nothing tested, loaded or trained. -/
def UnitSt.cold (x : UnitSt) : UnitSt :=
  { x with
    selfTest := false, claim := false, inReset := true, fwRunning := false, gddrTrained := false, releasedAt := none
    plannedRelease := false, tripped := false, resent := false, paceLow := false, lowFrom := 0, hotFrom := none, diag := [] }

/-- What a unit's own memories lose with its power or reset: buffer and cache, sequencers and plans. -/
def State.memoriesLost (s : State) : State :=
  let down := fun (s : State) (u : UnitId) => (s.wr (Obj.WAY_POWERED u) 0).wr (Obj.WAY_CLEANING u) 0
  { down (down s .A) .B with
    buf := s.buf.map (fun (e : Nat × BufSt) => (e.1, { e.2 with
      state := .untrained, held := [], merge := [], data := [], err := []
      scrub := if e.2.scrub.result = 1 then { e.2.scrub with result := 3, endTime := s.now } else e.2.scrub }))
    cache := [], seq := [], plan := [], fabric := [], fab := [], dma := [] }

/-- Soruses as a loss of buffer memory leaves them (R314): one not sealed is dead, and a sealed one misses the fragments that were
not yet checked. -/
def State.sorusesLost (s : State) : State :=
  let s := { s with
    chan := s.chan.map (fun (e : Nat × ChanSt) => (e.1, { e.2 with checks := [], raw := [] }))
    os := { s.os with
      queue := []
      soruses := s.os.soruses.map (fun (e : Nat × SorusSt) =>
        if e.2.sealed then e else (e.1, { e.2 with dead := true, packing := false })) } }
  s.forEach s.os.soruses (fun s e =>
    if e.2.sealed && !e.2.dead then
      s.forEach ((e.2.frags.map Prod.fst).filter (fun f => !e.2.checked.testBit f && !e.2.missing.testBit f)) (fun s f => s.fragMissing e.1 f)
    else s)

/-- Firmware no longer runs on either unit (R29, R427): no standby is ready, and a switchover, an activation or a release that waited
ends; the charger of HOLD stops with the regulators (R494, R498). -/
def State.firmwareStopped (s : State) : State :=
  let stop := fun (x : UnitSt) => { x with fwRunning := false, gddrTrained := false }
  let s := (s.modUnit .A stop).modUnit .B stop
  let s := { s with sup := { s.sup with hold := .empty } }
  let s := { s with mode := { s.mode with served := false }, os := { s.os with mode := .stopped, recovered := false } }
  let s := { s with pair := { s.pair with
    peer := if s.pair.peer = PeerState.ready ∨ s.pair.peer = PeerState.stateCopy then PeerState.selfTest else s.pair.peer
    step := .idle, actCmd := none, testHold := false, maintSwitch := false, settleFrom := none, heldCheck := none, toClaim := [] } }
  s.sorusesLost.memoriesLost

/-- Status bits read 0 at each entry to Fiddlehead (R519), but for a Grave bit that has latched (R527). -/
def State.statusCleared (s : State) : State :=
  { s with obj := s.obj.filter (fun e =>
      match siteAt .A (e.1 / 256 % 65536) (e.1 % 256) with
      | some x => s.rd (Obj.LATCHED x.kind) = 1
      | none => true) }

/-! ## Entering a mode (R29, R30) -/

/-- What leaving a mode ends. -/
def State.leave (s : State) : State :=
  let flips := fun (s : State) => (s.wr (Obj.FLIP_MODE .A) 0).wr (Obj.FLIP_MODE .B) 0
  match s.mode.cur with
  | .bringUp => s.wr Obj.REDUCED_SERVICE 0
  | .drain => flips s
  | .quiescent => ((flips s).selfRefreshEnd .A).selfRefreshEnd .B
  | .maintenance =>
    let s := flips s
    let s := s.forEach [UnitId.A, UnitId.B] (fun s u => if s.rd (Obj.VCORE_SET u) = 720 then s else s.save (Obj.VCORE_SET u) 720)
    { s with raw := s.raw.map (fun (e : Nat × RawSt) => (e.1, { e.2 with op := none })) }
  | _ => s

/-- The module returns to a mode it has left for a Drain or a Switchover, where everything stands as it was (R30, R479). -/
def State.back (s : State) (m : Mode) (c : ModeCause) : State :=
  let s := s.setMode m c
  if m = .bringUp && s.os.recovered then s.wr Obj.REDUCED_SERVICE 1 else s

/-- An occurrence each unit sets in its own PWR_STATUS: supplies and HOLD are those of both. -/
def State.pwrBoth (s : State) (f : Flag) : State := (s.raise (.pwr .A) [f]).raise (.pwr .B) [f]

/-- HOLD is not ready (R497): HOLD_NOT_READY, until it is. -/
def State.holdWaits (s : State) : State :=
  if s.sup.hold = .ready || s.bit (Obj.PWR_STATUS .A) Flag.PWR_HOLD_NOT_READY.bit then s else s.pwrBoth .PWR_HOLD_NOT_READY

/-- Bring-up begins (R428, R429): from Quiescent and Maintenance firmware and GDDR7 stand; from elsewhere every step runs. -/
def State.bringUpBegin (s : State) (old : Mode) : State :=
  let kept := old == .quiescent || old == .maintenance
  let s := s.wr Obj.T_BRINGUP s.now
  let s := { s with mode := { s.mode with tokenGranted := false, stepsDone := false }
                    os := { s.os with recovered := false }
                    casc := { s.casc with rootless := false } }
  if kept then (s.forEach (List.range 16) (fun s p => s.measureTry p)).readyBoth
  else ({ s with sup := { s.sup with coresFrom := s.now } } : State).holdWaits

/-- Service begins in Frond or Frond-degraded (R285, R434): what Bring-up held goes on. -/
def State.serviceBegin (s : State) (old : Mode) : State :=
  let s := if old = .bringUp then s.wr Obj.T_FROND s.now else s
  let s := s.forEach (List.range 16) (fun s p => s.measureTry p)
  ({ s with os := { s.os with mode := if s.os.mode = .indexUnavailable then .indexUnavailable else .readWrite } } : State).osRefresh

/-- The module enters a mode with a cause (R29, R30): outputs, ports, controllers and services as the mode has them. -/
def State.enter (s : State) (m : Mode) (c : ModeCause) : State :=
  let old := s.mode.cur
  let s := s.leave.setMode m c
  let s := if fetches m && m != .quiescent && m != .maintenance then s else s.spindlesIdle
  match m with
  | .fiddlehead =>
    let s := if old = .switchover || c = .holdExhausted then s.recordsLost else s
    let s := if old = .resetHold || old = .unpowered then s else ((s.ctrlFatal .A).ctrlFatal .B).abandonAll
    let s := (((s.portsOff).firmwareStopped).linesSafe).statusCleared
    let s := s.forEach [Obj.T_BRINGUP, Obj.T_FW_LOADED, Obj.T_GDDR7_TRAINED, Obj.T_FIRST_LINKED, Obj.T_REDUCED,
      Obj.T_LAST_LOCKED, Obj.T_FROND] (fun s k => s.wr k 0)
    let s := s.wr Obj.T_FIDDLEHEAD s.now
    { s with mode := { s.mode with freshPower := false, settingsRead := false } }
  | .resetHold =>
    let s := s.recordsLost
    let s := ((s.portsOff.ctrlDown .A).ctrlDown .B).abandonAll
    let s := s.firmwareStopped
    ({ s with
      casc := {}, accHeld := []
      pair := { active := s.pair.active, unitA := s.pair.unitA.cold, unitB := s.pair.unitB.cold } } : State).linesSafe
  | .faultLatched =>
    let s := if old = .holdUp then (s.jfPowerLoss .A).jfPowerLoss .B else s
    ((((s.recordsLost.portsOff.ctrlDown .A).ctrlDown .B).abandonAll).firmwareStopped).linesSafe
  | .bringUp => s.bringUpBegin old
  | .frond | .frondDegraded => s.serviceBegin old
  | .quiescent => (s.portsQuiet.selfRefresh .A).selfRefresh .B
  | .drain => s.sealPacks
  | .unpowered | .holdUp | .switchover | .maintenance => s

/-- A Drain begins (R30, R289, R618). -/
def State.drainBegin (s : State) (p : DrainPurpose) (c : ModeCause) (planned : Bool := false) : State :=
  let from_ := s.mode.cur
  let s := s.enter .drain c
  { s with mode := { s.mode with purpose := p, drainFrom := from_, planned := planned, swept := 0 }
           pair := { s.pair with gapStart := s.now } }

/-! ## Spin-up grants (R440, R442, R445) -/

/-- The back-EMF duty of R257 at a speed in 1/1000 rpm. -/
def State.dBemf (s : State) (p speed : Nat) : Nat :=
  let v := (s.getSpd p).vBus
  if v = 0 then 4095 else min 4095 (openDiv (4095 * s.rd (Obj.BEMF_TARGET p) * speed : Nat) (s.rpm * 1000 * v * 8)).toNat

/-- The speed that crossing intervals give, in 1/1000 rpm (POLE_PAIRS and the mean of two intervals of 1/256 frame). -/
def speedOf (poles a b : Nat) : Nat := if poles * (a + b) = 0 then 0 else (openDiv 1280000000000 (poles * (a + b))).toNat

/-- A spindle's speed from its last two crossing intervals. -/
def State.zcSpeed (s : State) (p : Nat) : Nat :=
  let q := s.getSpd p
  speedOf (s.rd (Obj.POLE_PAIRS p)) q.int1 q.int2

/-- Commutation taken up on a turning rotor (R264): the first state is the one whose floating winding crosses next. -/
def State.catchRotor (s : State) (p : Nat) : State :=
  let q := s.getSpd p
  let (i, t) := q.seen.headD (0, 0)
  let t1 := ((q.seen[1]?).map Prod.snd).getD t
  let t2 := ((q.seen[2]?).map Prod.snd).getD t1
  let s := s.modSpd p (fun q => { q with
    phase := (i + 1) % 6, commTime := q.frame * 256, commAt := none, clampAt := none, judged := false
    lastZc := t, int1 := t - t1, int2 := t1 - t2, run := 0, missRun := 0 })
  let d := s.dBemf p (s.zcSpeed p)
  s.modSpd p (fun q => { q with duty := d, bridge := .drive q.phase })

/-- A grant given to a port that waits (R440, R259): SPINNING_UP, and the spindle aligned, or caught at speed. -/
def State.grantPort (s : State) (p number surge : Nat) (orphan : Bool) : State :=
  let t : Token := { number := number, port := p, surge := surge, time := s.now, orphan := orphan }
  let s := { s with casc := { s.casc with held := s.casc.held ++ [t], asked := s.casc.asked.filter (· != p) }
                    mode := { s.mode with tokenGranted := true } }
  let s := s.inc (if orphan then Obj.ORPHAN_GRANTS else Obj.GRANTS)
  let s := s.portTo p .spinningUp .stepComplete
  let s := s.modSpd p (fun q => { q with granted := true, grantTime := s.now, rampFails := 0, ctReached := false })
  if (s.getSpd p).st = .trackForward then
    (((s.spdTo p .accelBemf).catchRotor p).modSpd p (fun q => { q with seen := [] })).incSave (Obj.CATCHES p)
  else
    (s.spdTo p .align).modSpd p (fun q => { q with
      bridge := .drive 0, phase := 0, duty := s.rd (Obj.ALIGN_DUTY p), commTime := q.frame * 256, commAt := none })

/-- The lowest-numbered port that waits for a grant. -/
def State.firstWaiting (s : State) : Option Nat := (List.range 16).find? (fun p => s.awaits p)

/-- The lowest token number that this module does not hold; a token it gives itself has no number at a root. -/
def CascSt.ownNumber (c : CascSt) : Nat := ((List.range 256).find? (fun n => !c.held.any (fun t => t.number = n))).getD 0

/-- A module without a root grants to itself, at most ORPHAN_CONCURRENT tokens at once (R445). -/
def State.orphanServe : Nat → State → State
  | 0, s => s
  | n + 1, s =>
    if s.casc.rootless && s.casc.number.isNone &&
        decide ((s.casc.held.filter Token.orphan).length < s.rd Obj.ORPHAN_CONCURRENT) then
      match s.firstWaiting with
      | some p => orphanServe n (s.grantPort p s.casc.ownNumber (s.rd Obj.SPINDLE_SURGE) true)
      | none => s
    else s

/-! ## What follows at once -/

/-- A Grave bit that has latched takes the module to Fault-latched (R30, R36, R527); in Reset hold it waits for the release. -/
def State.grave (s : State) : State :=
  if !s.mode.latchDue then s
  else
    let s := { s with mode := { s.mode with latchDue := false } }
    match s.mode.cur with
    | .unpowered | .resetHold | .faultLatched => s
    | _ => s.enter .faultLatched .graveFault

/-- The answer of a command whose effect can latch a Grave bit. -/
def State.after (s : State) : Host.Outcome State Fault Refusal := .next s.grave

/-- A port that has settled (R437). -/
def State.portSettled (s : State) (p : Nat) : Bool :=
  match (s.getPort p).state with
  | .empty | .ready | .offline | .failed => true
  | .present => s.rd (Obj.AUTO_POWER p) = 0 && !(s.getPort p).online
  | _ => false

/-- A port that is read-ready (R434); one that leaves CALIBRATING other than for READY is so no more (R436, R438). -/
def State.readReady (s : State) (p : Nat) : Bool :=
  let q := s.getPort p
  q.calibrated.testBit 0 && (q.state == .calibrating || q.state == .ready)

/-- Ports read-ready: READ_READY_PORTS. -/
def State.readReadyPorts (s : State) : Nat := ((List.range 16).filter (fun p => s.readReady p)).length

/-- HDAs calibrated (R437): READY, and accepted as members. -/
def State.calibratedHdas (s : State) : Nat :=
  ((List.range 16).filter (fun p => (s.getPort p).state == .ready && (s.os.slotOf p).isSome)).length

/-- The recovery of R310 starts (R435). -/
def State.recoverTry (s : State) : State :=
  if s.mode.cur = .bringUp && !s.os.recovered && s.os.mode != .recovering && s.mode.served &&
      (decide (s.rd Obj.REDUCED_MIN ≤ s.readReadyPorts) ||
        (List.range 16).all (fun p => s.portSettled p) && decide (12 ≤ s.readReadyPorts)) then
    { s with os := { s.os with mode := .recovering } }
  else s

/-- The steps of Bring-up are complete (R437). -/
def State.stepsComplete (s : State) : Bool :=
  (List.range 16).all (fun p => s.portSettled p) &&
  (s.os.recovered || (decide (s.readReadyPorts < 12) && s.os.mode != .recovering))

/-- The end of Bring-up (R30, R437). -/
def State.bringUpTry (s : State) : State :=
  if s.mode.cur ≠ .bringUp || !s.mode.served || s.requested ≠ 4 then s
  else if !s.stepsComplete then { s with mode := { s.mode with stepsDone := false } }
  else if s.calibratedHdas = 16 then s.enter .frond .bringUpDone
  else if 12 ≤ s.calibratedHdas then s.enter .frondDegraded .bringUpDone
  else if s.mode.stepsDone then s
  else ({ s with mode := { s.mode with stepsDone := true } } : State).logFirmware s.reporter advisory

/-- Lane training is over on every port (R30, Bring-up to Maintenance). -/
def State.lanesDone (s : State) : Bool :=
  (List.range 16).all (fun p =>
    match (s.getPort p).state with
    | .powering | .training => false
    | .present => !s.portWaits p
    | _ => true)

/-- No raw operation is in progress (R592). -/
def State.rawIdle (s : State) : Bool := s.raw.all (fun e => e.2.op.isNone)

/-- The next step toward the requested mode (R30, R31, R37). -/
def State.pathTry (s : State) : State :=
  let r := s.requested
  if r = 4 then
    match s.mode.cur with
    | .quiescent | .maintenance => s.enter .bringUp .modeRequest
    | _ => s
  else
    match s.mode.cur with
    | .bringUp =>
      if s.mode.tokenGranted then s.drainBegin (if r = 0x0A then .maintenance else .powerDown) .modeRequest
      else if !s.loaded then s
      else if r = 0x0A then (if s.lanesDone then s.enter .maintenance .modeRequest else s)
      else s.enter .quiescent .modeRequest
    | .frond | .frondDegraded => s.drainBegin (if r = 0x0A then .maintenance else .powerDown) .modeRequest
    | .quiescent => if r = 0x0A then s.enter .bringUp .modeRequest else s
    | .maintenance => if r ≠ 0x0A && s.rawIdle then s.enter .quiescent .modeRequest else s
    | _ => s

/-- Entry to RECATCH without a rotor loss (R269, R477): media work waits until the spindle is LOCKED. -/
def State.recatchEnter (s : State) (p : Nat) : State :=
  (s.spdTo p .recatch).modPort p (fun t => { t with mediaHeld := true })

end Sys2Proof.Machine
end

