-- ==== Sys2Proof/Machine/Settings.lean ====
section
/-! DEFINITION. Authorisation, settings, fuses and the other dictionary objects with rows of their own (R565, R566, R569,
R583, R584, R589-R591). -/

namespace Sys2Proof.Machine

/-! ## Authorisation (R583, R584) -/

/-- The engine without a challenge of a requester. -/
def DictSt.forget (d : DictSt) (q : Requester) : DictSt :=
  { d with challenges := d.challenges.filter (fun c => c.1 != q) }

/-- A challenge still valid: held, and issued at most 60 s ago (R583). -/
def DictSt.challengeOf (d : DictSt) (q : Requester) (now : Nat) : Option (List Byte) :=
  (d.challenges.find? (fun c => c.1 == q && decide (now ≤ c.2.2 + 60000000))).map (fun c => c.2.1)

/-- Whether a requester is locked out (R584). -/
def DictSt.lockedOut (d : DictSt) (q : Requester) (now : Nat) : Bool := d.locked.any (fun e => e.1 == q && decide (now < e.2))

/-- A fresh challenge for a requester, or 0Ah while it is locked out (R583, R584). -/
def State.authChallenge (s : State) (q : Requester) (u : UnitId) : State :=
  s.hold (.authChallenge q u) fun s =>
  let err := s.readErr 0x1020 0 q
  if err ≠ 0 then s.answer q err
  else if (s.getDict u.code).lockedOut q s.now then s.answer q 0x0A
  else
    let (c, s) := s.random16
    (s.modDict u.code (fun d => { d.forget q with challenges := (q, c, s.now) :: (d.forget q).challenges })).answer q 0 c

def execAuthChallengeRead (q : Requester) (u : UnitId) (s : State) : Host.Outcome State Fault Refusal :=
  .next (s.authChallenge q u)

/-- The response that opens a session (R583): over the challenge, the interface code and A5h. -/
def authResponse (key challenge : List Byte) (q : Requester) : List Byte :=
  (hmac256 key (challenge ++ leBytes 1 (ifaceCode q) ++ [0xA5])).take 16

/-- A wrong response (R584): counted, recorded as Advisory, and the fifth within 60 s locks the requester out for 60 s, after which its
count starts anew. -/
def State.authWrong (s : State) (q : Requester) (u : UnitId) : State :=
  let s := (s.inc (Obj.AUTH_FAILS u)).logFirmware u advisory
  s.modDict u.code (fun d =>
    let w := (q, s.now) :: d.wrong.filter (fun x => decide (s.now ≤ x.2 + 60000000))
    if (w.filter (fun x => x.1 == q)).length < 5 then { d with wrong := w }
    else
      { d with
        wrong := w.filter (fun x => x.1 != q)
        locked := (q, s.now + 60000000) :: d.locked.filter (fun e => e.1 != q) })

/-- A write of AUTH_RESPONSE (R583, R584). -/
def State.authRespond (s : State) (q : Requester) (u : UnitId) (data : List Byte) : State :=
  s.hold (.write q u 0x1020 1 data) fun s =>
  let err := s.writeErr u 0x1020 1 q data
  if err ≠ 0 then s.answer q err
  else
    let d := s.getDict u.code
    match d.challengeOf q s.now with
    | none => s.answer q 0x09
    | some c =>
      let s := s.modDict u.code (fun d => d.forget q)
      match (s.getFuse u.code).mgmtKey with
      | none => (s.authWrong q u).answer q 0x06
      | some key =>
        if data = authResponse key c q then
          let others := d.sessions.filter (fun e => e.1 != q && decide (s.now < e.2))
          if 8 ≤ others.length then s.answer q 0x0A
          else (s.modDict u.code (fun d => { d with sessions := (q, s.now + 1000000 * s.rd (Obj.AUTH_WINDOW u)) :: others })).answer q 0
        else (s.authWrong q u).answer q 0x06

def execAuthResponseWrite (q : Requester) (u : UnitId) (data : List Byte) (s : State) :
    Host.Outcome State Fault Refusal := .next (s.authRespond q u data)

/-- A requester's session ended. -/
def State.closeSession (s : State) (q : Requester) (u : UnitId) : State :=
  s.modDict u.code (fun d => { d with sessions := d.sessions.filter (fun e => e.1 != q) })

def execAuthClose (q : Requester) (u : UnitId) (v : BitVec 8) (s : State) : Host.Outcome State Fault Refusal :=
  .next (s.tryKey q u (Obj.AUTH_CLOSE u) (leBytes 1 v.toNat) 0 (fun s => s.closeSession q u))

/-- AUTH_WINDOW_EXPIRY (R583): a session whose AUTH_WINDOW seconds have passed is ended. -/
def execAuthWindowExpiry (q : Requester) (u : UnitId) (s : State) : Host.Outcome State Fault Refusal :=
  .next (s.modDict u.code (fun d => { d with sessions := d.sessions.filter (fun e => e.1 != q || decide (s.now < e.2)) }))

/-- AUTH_LOCKOUT_EXPIRY (R584): the requester's 60 s have passed and its challenges are given again. -/
def execAuthLockoutExpiry (q : Requester) (u : UnitId) (s : State) : Host.Outcome State Fault Refusal :=
  .next (s.modDict u.code (fun d => { d with locked := d.locked.filter (fun e => e.1 != q || decide (s.now < e.2)) }))

/-- AUTH_CHALLENGE_EXPIRY (R583): a challenge that is older than 60 s is forgotten. -/
def execAuthChallengeExpiry (q : Requester) (u : UnitId) (s : State) : Host.Outcome State Fault Refusal :=
  .next (if ((s.getDict u.code).challengeOf q s.now).isNone then s.modDict u.code (fun d => d.forget q) else s)

/-! ## Settings and the timestamp (R565, R566) -/

/-- Staged changes of a unit programmed into its settings area (R565). -/
def State.settingsSave (s : State) (u : UnitId) : State :=
  let t := s.getSet u.code
  let ks := t.staged ++ t.held.filter (fun k => !t.staged.contains k)
  if ks.isEmpty then s
  else
    let s1 := s.modSet u.code (fun t =>
      { t with
        saved := ks.foldl (fun m k => mapPut objDefault m k (s.rd k)) t.saved
        savedBlob := ks.foldl (fun m k => mapPut (fun _ => []) m k (s.rdBlob k)) t.savedBlob
        savedKeys := t.savedKeys ++ ks.filter (fun k => !t.savedKeys.contains k)
        staged := []
        held := [] })
    s1.inc Obj.SETTINGS_GEN

/-- SETTINGS_SAVE: firmware programs what is staged, while VIN12 is in window (R565). -/
def execSettingsSave (u : UnitId) (s : State) : Host.Outcome State Fault Refusal :=
  .next (if s.sup.vin12 && s.mode.served && !(s.unitSt u).inReset then s.settingsSave u else s)

/-- TIMESTAMP_SAVE: the count saved while VIN12 is in window and the time base is set (R566). -/
def State.timestampSave (s : State) (u : UnitId) : State :=
  if s.sup.vin12 && s.rd (Obj.TIME_BASE_STATE u) == 1 then
    s.modSet u.code (fun t => { t with savedTime := some s.now })
  else s

/-- TIMESTAMP_SAVE (R566): every 10 s. -/
def execTimestampSave (u : UnitId) (s : State) : Host.Outcome State Fault Refusal :=
  .next (if (s.getSet u.code).savedTime.all (fun t => decide (t + 10000000 ≤ s.now)) then s.timestampSave u else s)

/-! ## Identity and fused switches (R569, R589, R591) -/

/-- MAC_BASE (R569): its bit 0 is 0. -/
def macBase : Nat := 2 * Config.macHalf % 2 ^ 48

/-- The MAC of a unit (R569). -/
def macOf (u : UnitId) : Nat := macBase + u.code

/-! ## Own-rule writes of 1001h and 1010h (R569) -/

/-- EtherTypes that KDAP_ETHERTYPE refuses (R569). -/
def reservedEtherType (v : Nat) : Bool := [0x0800, 0x0806, 0x86DD, 0x8100, 0x88A8].contains v

def execKdapEthertypeWrite (q : Requester) (u : UnitId) (v : BitVec 16) (s : State) :
    Host.Outcome State Fault Refusal :=
  .next (s.tryKey q u Obj.KDAP_ETHERTYPE (leBytes 2 v.toNat) (if reservedEtherType v.toNat then 0x09 else 0)
    (fun s => s.save Obj.KDAP_ETHERTYPE v.toNat))

/-- A key whose object RESTORE_DEFAULTS sets (R569): persistent, writable, outside 1001h and the fuses. -/
def restorable (k : Nat) : Bool :=
  match objLookup (keyIndex k) (keySub k) with
  | some (some r) =>
    r.pers && (r.acc == .rw || r.acc == .rwq || r.acc == .rwa) && r.idx != 0x1001 && r.idx != 0x5F00 && r.idx != 0x5F01
  | _ => false

/-- Every persistent object at its default, and the changes staged (R569). The restored REQUESTED_MODE is a stored
setting, not a request. -/
def State.restoreDefaults (s : State) : State :=
  let ks := (s.obj.map Prod.fst ++ s.blob.map Prod.fst).filter restorable
  let s := { s with
    obj := s.obj.filter (fun e => !restorable e.1), blob := s.blob.filter (fun e => !restorable e.1) }
  s.forEach ks (fun s k => s.stage k)

/-! ## Fuses (R589-R591) -/

/-- FUSE_RESULT set on the answering unit. -/
def State.fuseResult (s : State) (u : UnitId) (r : Nat) : State := s.wr (Obj.FUSE_RESULT u) r

/-- Both arrays programmed and read back (R590): an array that does not verify keeps its old value in the model, and a fuse once
programmed stays. -/
def State.fuseProgram (s : State) (u : UnitId) (okA okB : Bool) (f : FuseSt → FuseSt) : State :=
  let s := if okA then s.modFuse 0 f else s
  let s := if okB then s.modFuse 1 f else s
  if okA && okB then s.fuseResult u 1 else (s.fuseResult u 3).logFirmware u severe

/-- The common refusals of a fuse write (R590): VIN12 absent, then peer not ready. The error and FUSE_RESULT. -/
def State.fuseRefusal (s : State) : Option (Nat × Nat) :=
  if !s.sup.vin12 then some (0x0E, 5) else if !s.peerReady then some (0x0A, 4) else none

/-- A fuse write behind the checks of R561 already passed (R590). -/
def State.fuseWrite (s : State) (q : Requester) (u : UnitId) (refuse : Option (Nat × Nat)) (okA okB : Bool)
    (f : FuseSt → FuseSt) : State :=
  match s.fuseRefusal, refuse with
  | some (e, r), _ => (s.fuseResult u r).answer q e
  | none, some (e, 0) => s.answer q e
  | none, some (e, r) => (s.fuseResult u r).answer q e
  | none, none => (s.fuseProgram u okA okB f).answer q 0

def execMondisBlow (q : Requester) (u : UnitId) (v : BitVec 8) (okA okB : Bool) (s : State) :
    Host.Outcome State Fault Refusal :=
  .next (s.hold (.mondis q u v okA okB) fun s =>
    let e := s.writeErr u 0x5F00 1 q (leBytes 1 v.toNat)
    if e ≠ 0 then s.answer q e
    else if v ≠ 0xA5 then s.answer q 0x07
    else
      let s := s.fuseWrite q u none okA okB (fun f => { f with mondis := true })
      if (s.getFuse 0).mondis || (s.getFuse 1).mondis then { s with mon := {} } else s)

/-- FW_MIN_SVN of an array: what has been fused since manufacture, or the manufactured value. -/
def FuseSt.svn (f : FuseSt) : Nat := f.minSvn.getD Config.minSvn.val

/-- FW_MIN_SVN in force on a unit. -/
def State.minSvn (s : State) (u : UnitId) : Nat := (s.getFuse u.code).svn

def execFwMinSvnWrite (q : Requester) (u : UnitId) (v : BitVec 32) (okA okB : Bool) (s : State) :
    Host.Outcome State Fault Refusal :=
  .next (s.hold (.minSvn q u v okA okB) fun s =>
    let e := s.writeErr u 0x5F00 3 q (leBytes 4 v.toNat)
    if e ≠ 0 then s.answer q e
    else if v.toNat = s.minSvn u then (s.fuseResult u 2).answer q 0
    else
      s.fuseWrite q u (if v.toNat < s.minSvn u || s.rd (Obj.FW_SVN u) < v.toNat then some (0x07, 0) else none) okA okB
        (fun f => { f with minSvn := some (max f.svn v.toNat) }))

def execMgmtKeyWrite (q : Requester) (u : UnitId) (data : List Byte) (okA okB : Bool) (s : State) :
    Host.Outcome State Fault Refusal :=
  .next (s.hold (.mgmtKey q u data okA okB) fun s =>
    let f := s.getFuse u.code
    match f.mgmtKey, objLookup 0x5F00 4 with
    | none, some (some r) =>
      let e := s.modeErr 0x5F00 4 r q true
      if e ≠ 0 then s.answer q e
      else if s.mode.cur ≠ .maintenance then s.answer q 0x05
      else if data.length ≠ 32 then s.answer q 0x08
      else s.fuseWrite q u none okA okB (fun f => { f with mgmtKey := f.mgmtKey.or (some data) })
    | _, _ =>
      let e := s.writeErr u 0x5F00 4 q data
      if e ≠ 0 then s.answer q e else s.fuseWrite q u (some (0x09, 2)) okA okB id)

def execErKeyWrite (q : Requester) (u : UnitId) (data : List Byte) (okA okB : Bool) (s : State) :
    Host.Outcome State Fault Refusal :=
  .next (s.hold (.erKey q u data okA okB) fun s =>
    let e := s.writeErr u 0x5F00 5 q data
    if e ≠ 0 then s.answer q e
    else s.fuseWrite q u (if (s.getFuse u.code).erKey.isSome then some (0x09, 2) else none) okA okB
      (fun f => { f with erKey := f.erKey.or (some data) }))

end Sys2Proof.Machine
end

