-- ==== Sys2Proof/Machine/Firmware.lean ====
section
/-! DEFINITION. Firmware images and the slots of a unit: their layout, the checks of the boot ROM and the choice of a slot
(R430-R432). -/

namespace Sys2Proof.Machine

/-! ## Images (R430) -/

/-- Fields of an image. -/
def fwLen (img : List Byte) : Nat := fldU img 8 4
def fwVersion (img : List Byte) : Nat := fldU img 12 4
def fwSvn (img : List Byte) : Nat := fldU img 16 4

/-- Check 1 of R431: MAGIC, IMG_FORMAT, IMAGE_LEN and the reserved bytes. -/
def fwHeaderOk (img : List Byte) : Bool :=
  img.take 4 == [0x4B, 0x46, 0x57, 0x49] && fldU img 4 1 == 1 && fldU img 5 3 == 0 && ((img.drop 121).take 7).all (· == 0) &&
  decide (0 < fwLen img) && decide (fwLen img ≤ 16777216) && fwLen img % 4096 == 0 && decide (fwLen img ≤ img.length)

/-- Check 3 of R431: the signature, the image's last 96 bytes, verifies under the image's public key. -/
def fwSigned (img : List Byte) : Bool :=
  img.getD 24 0 == 4 && ecdsaOk ((img.drop 25).take 96) (img.take (fwLen img - 96)) ((img.drop (fwLen img - 96)).take 96)

/-- The checks of R431 in their order, as a code of SLOT_CHECK (R463). -/
def State.fwCheck (s : State) (u : UnitId) (img : List Byte) : Nat :=
  if !fwHeaderOk img then 0x02
  else if sha384 ((img.drop 24).take 97) ≠ Config.fwKeyHash then 0x03
  else if !fwSigned img then 0x04
  else if fwSvn img < s.minSvn u then 0x05
  else 0x01

/-! ## Slots (R430, R432) -/

/-- The image in a slot of a unit: as written since manufacture, or the one put there at manufacture. -/
def State.slotImage (s : State) (u : UnitId) (n : Nat) : List Byte := mapGet Config.factoryImage (s.getFw u.code).slots n

/-- A slot of a unit written. -/
def State.writeSlot (s : State) (u : UnitId) (n : Nat) (img : List Byte) : State :=
  s.modFw u.code (fun f => { f with slots := mapIns (mapDel f.slots n) n img })

/-- The check of one slot, with whether its pages cannot be read. -/
def State.slotCheck (s : State) (u : UnitId) (n : Nat) (bad : Bool) : Nat :=
  if bad then 0x06 else s.fwCheck u (s.slotImage u n)

/-- A unit tries its slots (R432): BOOT_SLOT first, the other second; the slot it runs, with SLOT_CHECK and BOOT_RESULT. -/
def State.fwTry (s : State) (u : UnitId) (bad1 bad2 : Bool) : State × Option Nat :=
  let bad := fun n => if n = 1 then bad1 else bad2
  let n := s.rd Obj.BOOT_SLOT
  let m := 3 - n
  let c := s.slotCheck u n (bad n)
  let s := s.wr (Obj.SLOT_CHECK u (n - 1)) c
  if c = 1 then ((s.wr (Obj.SLOT_CHECK u (m - 1)) 0).wr Obj.BOOT_RESULT 1, some n)
  else
    let d := s.slotCheck u m (bad m)
    let s := s.wr (Obj.SLOT_CHECK u (m - 1)) d
    if d = 1 then ((s.wr Obj.BOOT_RESULT 2).logFirmware u advisory, some m)
    else (s.wr Obj.BOOT_RESULT 3, none)

/-- A unit runs the image of a slot: its version and security version are those reported (R430, R569). -/
def State.fwRun (s : State) (u : UnitId) (n : Nat) : State :=
  let img := s.slotImage u n
  let s := s.modFw u.code (fun f => { f with running := some img })
  let s := (s.wr (Obj.FW_VERSION u) (fwVersion img)).wr (Obj.FW_SVN u) (fwSvn img)
  s.modUnit u (fun x => { x with fwRunning := true })

end Sys2Proof.Machine
end

