-- ==== Sys2Proof/Machine/Boot.lean ====
section
/-! DEFINITION. What the boot ROM and the firmware read from the settings area at a start (R32, R565, R566), and the step from
Fiddlehead to Bring-up (R30, R433). -/

namespace Sys2Proof.Machine

/-! ## Settings (R565) -/

/-- A persistent object taken from the settings area of a unit, unless a newer value waits to be saved. -/
def State.loadKey (s : State) (u : UnitId) (k : Nat) : State :=
  let t := s.getSet u.code
  if t.staged.contains k || t.held.contains k then s
  else (s.wr k (mapGet objDefault t.saved k)).wrBlob k (mapGet (fun _ => []) t.savedBlob k)

/-- The changes of mode of the start so far counted on from the saved count (R39). -/
def State.modesLoad (s : State) (u : UnitId) : State :=
  let t := s.getSet u.code
  if u ≠ s.pair.active || t.loaded then s
  else
    let n := s.rd Obj.MODE_CHANGES + mapGet objDefault t.saved Obj.MODE_CHANGES
    (s.wr Obj.MODE_CHANGES (min n 0xFFFFFFFF)).stage Obj.MODE_CHANGES

/-- The settings loaded in step 1 of R428: module-scope values from the unit holding TOKEN, unit-scope values from each unit. -/
def State.settingsLoad (s : State) (u : UnitId) : State :=
  let s := s.modesLoad u
  let t := s.getSet u.code
  let ks := t.savedKeys.filter (fun k => match keyUnit k with | some v => v == u | none => u == s.pair.active)
  (s.forEach ks (fun s k => s.loadKey u k)).modSet u.code (fun t => { t with loaded := true })

/-! ## The time base (R566) -/

/-- Every time taken in the provisional state moved by a number of microseconds. -/
def State.shiftTimes (s : State) (d : Nat) : State :=
  let keys := [Obj.T_VAUX3_GOOD, Obj.T_FIDDLEHEAD] ++
    ((List.range 17).filter (fun b => s.rd (Obj.FAULTS_RAISED b) ≠ 0)).map (fun b => Obj.LAST_FAULT_TIME b)
  let s := s.forEach keys (fun s k => s.wr k (s.rd k + d))
  let er := fun (e : Nat × ErSt) => (e.1, { e.2 with
    retained := e.2.retained.map (fun (n, r) => (n, { r with time := r.time + d }))
    pageTime := if e.2.pageFill = 0 then e.2.pageTime else e.2.pageTime + d
    challenges := e.2.challenges.map (fun (q, b, t) => (q, b, t + d)) })
  let dict := fun (e : Nat × DictSt) => (e.1, { e.2 with
    challenges := e.2.challenges.map (fun (q, b, t) => (q, b, t + d))
    wrong := e.2.wrong.map (fun (q, t) => (q, t + d))
    sessions := e.2.sessions.map (fun (q, t) => (q, t + d))
    locked := e.2.locked.map (fun (q, t) => (q, t + d))
    transfers := e.2.transfers.map (fun t => { t with frameAt := t.frameAt + d, waitFrom := t.waitFrom + d })
    pairAt := e.2.pairAt + d
    beatAt := e.2.beatAt + d
    found := e.2.found.map (fun (f, t) => (f, t + d))
    sync := e.2.sync.map (fun (m, n, t) => (m, n, t + 1000 * d)) })
  let unit := fun (x : UnitSt) => { x with
    releasedAt := x.releasedAt.map (· + d), releases := x.releases.map (· + d), diag := x.diag.map (fun (c, t) => (c, t + d)), lowFrom := x.lowFrom + d, hotFrom := x.hotFrom.map (· + d) }
  { s with
    now := s.now + d
    sup := { s.sup with
      holdSince := s.sup.holdSince + d, coresFrom := s.sup.coresFrom + d, penAt := s.sup.penAt.map (fun (p, t) => (p, t + d)) }
    jf := s.jf.map (fun e => (e.1, { e.2 with erase := e.2.erase.map (fun x => { x with since := x.since + d }) }))
    mon := { s.mon with rateSince := s.mon.rateSince.map (· + d) }
    mode := { s.mode with entryTime := s.mode.entryTime + d }
    port := s.port.map (fun e => (e.1, { e.2 with entryTime := e.2.entryTime + d }))
    line := s.line.map (fun e => (e.1, { e.2 with flt := { e.2.flt with since := e.2.flt.since + d } }))
    er := s.er.map er
    casc := { s.casc with
      ledger := s.casc.ledger.map (fun g => { g with due := g.due + d }), holdFrom := s.casc.holdFrom + d
      held := s.casc.held.map (fun t => { t with time := t.time + d }), downAt := s.casc.downAt.map (fun e => (e.1, e.2 + d))
      enumr := s.casc.enumr.map (fun e => { e with queried := e.queried + d, start := e.start + d, lastAssign := e.lastAssign + d })
      table := s.casc.table.map (fun e => (e.1, { e.2 with lostAt := e.2.lostAt + d }))
      links := s.casc.links.map (fun e => (e.1, { e.2 with sentAt := e.2.sentAt + d })) }
    dict := s.dict.map dict
    pair := { s.pair with startAt := s.pair.startAt + d, mirrorAt := s.pair.mirrorAt + d, unitA := unit s.pair.unitA, unitB := unit s.pair.unitB } }

/-- The time base set at the first read of the settings area since VAUX3 was applied: the saved count and 10 s added. -/
def State.timeBase (s : State) (u : UnitId) : State :=
  if s.rd (Obj.TIME_BASE_STATE u) = 1 then s
  else
    let s := match (s.getSet u.code).savedTime with | some t => s.shiftTimes (t + 10000000) | none => s
    (s.wr (Obj.TIME_BASE_STATE .A) 1).wr (Obj.TIME_BASE_STATE .B) 1

/-! ## The read of R32 -/

/-- PERSIST_STATE of a port as read takes a PRESENT port to OFFLINE or FAILED (R76). -/
def State.persistApply (s : State) (p : Nat) : State :=
  if (s.getPort p).state ≠ .present then s
  else
    match s.rd (Obj.PERSIST_STATE p) with
    | 0x09 => s.portTo p .offline .powerApplied
    | 0x0A => s.portTo p .failed .powerApplied
    | _ => s

/-- The boot ROM reads the settings area (R32): REQUESTED_MODE, PERSIST_STATE of every port, the saved count. -/
def State.bootRead (s : State) : State :=
  let u := s.pair.active
  let s := s.timeBase u
  let s := s.loadKey u Obj.REQUESTED_MODE
  let s := s.forEach (List.range 16) (fun s p => (s.loadKey u (Obj.PERSIST_STATE p)).persistApply p)
  { s with mode := { s.mode with settingsRead := true } }

/-- Whether Fiddlehead may be left for Bring-up (R30, R433): with BOOTSEL high only once a recovery image has been taken. A unit
held in reset starts nothing. -/
def State.mayBringUp (s : State) : Bool :=
  s.mode.cur == .fiddlehead && s.sup.vin12 && s.mode.settingsRead && !(s.unitSt s.pair.active).inReset &&
  (!s.sup.straps.bootSel || (s.rd Obj.BOOT_RESULT == 4 && s.rd Obj.RECOVERY_CHECK == 1)) &&
  (s.requested == 4 || s.requested == 7 || s.requested == 0x0A)

/-- In Fiddlehead with VIN12 in window and the state rows scanned, the boot ROM makes its read and acts on it (R30, R32). -/
def State.bootTry (s : State) : State :=
  let s := if s.mode.cur = .fiddlehead && s.sup.vin12 && (s.getJf s.pair.active.code).scanned && !s.mode.settingsRead then s.bootRead
    else s
  if s.mayBringUp then s.enter .bringUp .vin12Good else s

end Sys2Proof.Machine
end

