-- ==== Sys2Proof/Machine/PairOps.lean ====
section
/-! DEFINITION. The pair of units: the release of TOKEN and the take-over (R476-R479), Drains for an activation or a planned
switchover (R353, R486, R618), rolling firmware activation (R352, R353, R483-R485, R621). -/

namespace Sys2Proof.Machine

/-! ## A unit released (R475, R476, R480, R482) -/

/-- Microseconds in 24 hours. -/
def day : Nat := 86400000000

/-- What a unit loses when it is held in reset: its own memories and control stores, its lanes, and PEN and TOKEN, which the module
pulls down (R57, R61, R476). -/
def State.unitLost (s : State) (u : UnitId) : State :=
  let s := (s.modBuf u.code (fun b => { b with
    state := .untrained, held := [], merge := [], data := [], err := []
    scrub := if b.scrub.result = 1 then { b.scrub with result := 3, endTime := s.now } else b.scrub })).modCache u.code (fun _ => {})
  let s := (s.wr (Obj.WAY_POWERED u) 0).wr (Obj.WAY_CLEANING u) 0
  let s := { s with
    seq := s.seq.filter (fun e => e.1 / 64 ≠ u.code), fabric := s.fabric.filter (fun e => e.1 ≠ u)
    fab := s.fab.filter (fun e => e.1 ≠ u.code), dma := s.dma.filter (fun e => e.1 / 32 ≠ u.code)
    mc := { s.mc with stores := s.mc.stores.filter (fun e => e.1 / 16 ≠ u.code) } }
  let s := s.forEach (List.range 16) (fun s p =>
    (s.lanesLost u p).modLine (sideKey u p) (fun l => { l with pen := false, token := false }))
  s.modUnit u (fun x => { x with inReset := true, selfTest := false, claim := false, fwRunning := false, gddrTrained := false })

/-- The sixteen port clusters of a unit loaded with the images in service (R173, R176, R177). -/
def State.mcCopy (s : State) (u : UnitId) : State :=
  s.forEach (List.range 16) (fun s p =>
    { s with mc := { s.mc with stores := mapPut (fun _ => {}) s.mc.stores (16 * u.code + p) { images := s.mc.images } } })

/-- A unit counted as released: held in reset until it rejoins when the release was not planned. -/
def State.markReleased (s : State) (u : UnitId) (planned : Bool) : State :=
  let s := s.modUnit u (fun x => { x with
    releasedAt := some s.now, plannedRelease := planned, tripped := !planned, diag := [], resent := false
    releases := s.now :: x.releases.filter (fun t => decide (s.now < t + day)) })
  if planned then s else s.unitLost u

/-- What was in flight on a port at the release (R27, R113, R148): sectors count as not read or not written, with NOT_READ (R109) on
every ticket an arm holds; ladders start again, and unchecked fragments are written again. The channels, encoders and plan memories
of the unit that takes over have been idle (R12): nothing is loaded into them. -/
def State.releasePort (s : State) (p : Nat) : State :=
  s.forEach [0, 1] (fun s a =>
    let k := chanKey p a
    let s := (s.dropRead p a).withdraw p a
    let s := s.forEach (s.getChan k).decoding (fun s x => s.readEnds p a x 0x0A)
    let s := s.modPn2 p (fun q => q.modAct a (fun x => { x with gate := false }))
    let s := s.modChan k (fun c => { c with
      writeCur := none, decoding := [], raw := [], wrOut := [], wrSent := false, wrAck := false
      tickets := [], feeds := [], ticketLog := [], feedLog := [], gate := false, hold := .empty, holdSector := none, replay := none
      laneHead := none, activeSet := none, activeBytes := [], nextSet := none, nextBytes := [], load := .idle, swap := false
      psetReady := false, psetErr := false, setBad := false, nextBad := false, ratioWait := false, nextWait := false
      syncOk := false, resyncOk := false, gateCut := false, late := false, item := none
      ladder := c.ladder.map (fun l => { l with step := 1, tested := [], repeated := false })
      checks := c.checks.map (fun d => { d with failed := true, passed := 0 }) })
    let s := s.modPlan k (fun _ => {})
    s.rewriteAll p a)

/-- TOKEN low and SPIN at coast on the side of a unit (R476). -/
def State.dropLines (s : State) (u : UnitId) : State :=
  s.forEach (List.range 16) (fun s p =>
    s.modLine (sideKey u p) (fun l => { l with token := false, driven := .coast, readback := some .coast }))

/-- No unit is ready to take TOKEN (R30, R475): Fiddlehead, reported and served by the other unit when its self-test has passed;
that unit is the active unit of the Bring-up that follows. -/
def State.noUnit (s : State) : State :=
  let v := s.pair.active.other
  let x := s.unitSt v
  let s := s.enter .fiddlehead .noUnit
  if x.selfTest && !x.inReset && !x.tripped then { s with pair := { s.pair with active := v, peer := .released } } else s

/-- The module enters Switchover; the mode to return to is the one left, or the one from which the Drain of an activation or of a
planned switchover was entered (R30, R479). -/
def State.toSwitchover (s : State) (c : ModeCause) : State :=
  let planned := s.mode.cur == .drain && s.mode.purpose == .activation
  let from_ := if planned then s.mode.drainFrom else s.mode.cur
  let s := if s.mode.cur = .maintenance then s.leave else s
  let s := { s with mode := { s.mode with switchFrom := from_, purpose := if planned then .none else s.mode.purpose } }
  s.setMode .switchover c

/-- Whether a mode has a row to Switchover (R30). -/
def Mode.releases : Mode → Bool
  | .bringUp | .frond | .frondDegraded | .drain | .quiescent | .maintenance => true
  | _ => false

/-- The step at which an activation goes on after a release that was not its own (R487): the unit that takes over runs the committed
image once the standby has restarted with it. -/
def ActivationStep.afterRelease (x : ActivationStep) : ActivationStep :=
  match x with
  | .peerRestart | .drain1 | .drain2 => .xRestart
  | x => x

/-- The active unit gives up TOKEN (R475, R476). With no unit ready the module goes through Switchover to Fiddlehead; in Hold-up
the other unit goes on with the commit (R35). -/
def State.releaseToken (s : State) (cause : Option ReleaseCause) (c : ModeCause) (planned : Bool) : State :=
  let u := s.pair.active
  let ready := s.peerReady
  let old := s.mode.cur
  let gap := if planned && old == .drain then s.pair.gapStart else s.now
  let s := (s.forEach (List.range 16) (fun s p => s.releasePort p)).dropLines u
  let s := s.markReleased u planned
  let s := match cause with | some x => s.save Obj.LAST_RELEASE_CAUSE x.code | none => s
  let s := { s with pair := { s.pair with
    releaseTime := s.now, gapStart := gap, heldCheck := none, maintSwitch := false
    step := if planned then s.pair.step else s.pair.step.afterRelease } }
  if old.releases || old == .switchover then
    let s := if old = .switchover then s else s.toSwitchover c
    if ready then s else s.noUnit
  else if old = .holdUp && (s.unitSt u.other).selfTest then
    { s with pair := { s.pair with active := u.other, peer := .released } }
  else s

/-! ## Self-diagnosis (R473, R620) -/

/-- Occurrences of a check counted for a unit in a number of microseconds. -/
def State.diagCount (s : State) (u : UnitId) (c : ReleaseCause) (window : Nat) : Nat :=
  ((s.unitSt u).diag.filter (fun e => e.1 == c && decide (s.now ≤ e.2 + window))).length

/-- Whether a check of a unit is tripped (R473): its count over its window, slack below its threshold for PACE_TRIP µs, or an exception of
the firmware that runs. -/
def State.checkTripped (s : State) (u : UnitId) (c : ReleaseCause) : Bool :=
  match c with
  | .correctedWords => decide (s.rd Obj.CE_RATE_LIMIT < s.diagCount u c 1000000)
  | .uncorrectable => decide (s.rd Obj.UE_LIMIT < s.diagCount u c 10000000)
  | .seqStops => decide (s.rd Obj.SEQ_STOP_LIMIT < s.diagCount u c 10000000)
  | .servoMismatch => decide (s.rd Obj.MISMATCH_LIMIT < s.diagCount u c 1000000)
  | .engineChecks => decide (2 ≤ s.diagCount u c 60000000)
  | .exception => (s.unitSt u).fwRunning
  | .pace => (s.unitSt u).fwRunning && (s.unitSt u).paceLow && decide ((s.unitSt u).lowFrom + s.rd Obj.PACE_TRIP ≤ s.now)
  | _ => false

/-- The checks of class Degrading (R473). -/
def ReleaseCause.degrading : ReleaseCause → Bool
  | .correctedWords | .uncorrectable | .seqStops | .engineChecks => true
  | _ => false

/-- A tripped check of the active unit acts by its class (R475). -/
def State.checkTrip (s : State) (c : ReleaseCause) : State :=
  let u := s.pair.active
  if !s.pair.roleDecided || (s.unitSt u).inReset || !s.checkTripped u c then s
  else
    if !c.degrading || s.peerReady then s.releaseToken (some c) .tokenReleased false
    else if s.pair.heldCheck.isSome then s
    else
      let s := ({ s with pair := { s.pair with heldCheck := some c } } : State).save Obj.LAST_RELEASE_CAUSE c.code
      s.raise .pair [.PAIR_HELD_RELEASE]

/-- A unit that is standby, or on the way to it, trips (R620): it is not ready any more, reports it and is held in reset, which
counts as a release. When it was about to take over, no unit is ready (R487). -/
def State.standbyTrip (s : State) (c : ReleaseCause) : State :=
  let v := s.pair.active.other
  let s := (s.ctrlDown v).markReleased v false
  let s := s.dropLines v
  let s := s.save Obj.LAST_RELEASE_CAUSE c.code
  let s := ({ s with pair := { s.pair with peer := .released, settleFrom := none } } : State).recordsAlone
  if s.mode.cur = .switchover && (s.unitSt s.pair.active).releasedAt.isSome then s.noUnit else s

/-- Whether the other unit runs the checks of R620. -/
def State.standbyRuns (s : State) : Bool :=
  s.pair.roleDecided && !(s.unitSt s.pair.active.other).inReset && (s.pair.peer == .ready || s.pair.peer == .stateCopy)

/-- Conditions of a unit that count as a tripped fatal check act at once (R475, R493, R525, R620). -/
def State.checksAct (s : State) : State :=
  let due := s.mode.checkDue
  if due.isEmpty then s
  else
    ({ s with mode := { s.mode with checkDue := [] } } : State).forEach due (fun s x =>
      if !s.pair.roleDecided || (s.unitSt x.1).inReset then s
      else if x.1 = s.pair.active then s.releaseToken (some x.2) .tokenReleased false
      else s.standbyTrip x.2)

/-! ## Take-over (R477-R479) -/

/-- The records that the new active unit takes from its shadows (R27, R274, R477): those of its valid ones
(log 272). -/
def State.adopt (s : State) (p : Nat) : State :=
  let s := s.forEach ([0, 1].filter (fun a => s.rd (Obj.SHADOW_VALID p a) == 1)) (fun s a =>
    s.putSrv (chanKey p a) (s.getShadow (chanKey p a)))
  if s.rd (Obj.SPD_SHADOW_VALID p) == 1 then s.putSpd p (s.getSpdShadow p) else s

/-- A port's actuators and spindle as the new active unit first commands them (R477): from its shadows, with HOLD 10b and RECATCH
where the shadow was not valid. -/
def State.shadowPort (s : State) (p : Nat) : State × Bool :=
  let s := s.adopt p
  let badAct := [0, 1].filter (fun a => (s.getSrv (chanKey p a)).st.flies && s.rd (Obj.SHADOW_VALID p a) == 0)
  let badSpd := (s.getSpd p).st.driven && s.rd (Obj.SPD_SHADOW_VALID p) == 0
  let s := s.forEach badAct (fun s a => s.srvRetract p a)
  (if badSpd then s.recatchEnter p else s, badSpd || !badAct.isEmpty)

/-- The ports for which the confirmation of R478 fails: in a test or rejoin situation, those of whose actuators the command rows of the
standby are not the active unit's last ones. -/
def State.rowsUnlike (s : State) : List Nat :=
  if !s.pair.testHold && s.pair.settleFrom.isNone then []
  else (List.range 16).filter (fun p => [0, 1].any (fun a =>
    (s.getSrv (chanKey p a)).sent != (s.getShadow (chanKey p a)).sent))

/-- LAST_TAKEOVER_US once the last port is claimed (R488). -/
def State.claimedAll (s : State) : State :=
  if s.pair.toClaim.isEmpty then s.wr Obj.LAST_TAKEOVER_US (s.now - s.pair.releaseTime) else s

/-- The standby takes the role (R477, R479): the released unit's host port down when the release was not planned, every
powered port to be claimed on its own, the monitor's balls served by the other unit (R585), and a clock track that the new active unit has lost treated so (R71, R72). -/
def State.takeRole (s : State) : State :=
  let u := s.pair.active
  let v := u.other
  if s.mode.cur ≠ .switchover || (s.unitSt u).releasedAt.isNone || !s.peerReady then s
  else
    let s := if (s.unitSt u).plannedRelease then s else s.ctrlDown u
    let s := { s with
      pair := { s.pair with active := v, peer := .released, settleFrom := none, takeTime := s.now, unlike := s.rowsUnlike }
      mon := { s.mon with traces := [], tail := none, rateSince := none } }
    let s := s.recordsAlone
    let ps := (List.range 16).filter (fun p => (s.getPort p).state.inPower)
    let (s, bad) := ps.foldl (fun (s, b) p => let (s, x) := s.shadowPort p; (s, b || x)) (s, false)
    let s := s.forEach (ps.filter (fun p => (s.getLine (sideKey v p)).ct = .lost)) (fun s p => s.ctLoss p)
    let s := s.forEach (List.range 16) (fun s p =>
      (((s.penDrive p ((s.getPort p).state.inPower)).spinDrive p (s.spinFor p)).modPort p (fun q => { q with mediaHeld := true })))
    let s := { s with pair := { s.pair with toClaim := ps } }
    (if bad then s.raise .pair [.PAIR_SHADOW_INVALID] else s).claimedAll

/-- A port claimed (R65, R477). -/
def State.claim (s : State) (p : Nat) : State :=
  let s := s.tokenTry p
  if (s.getLine (sideKey s.pair.active p)).token && s.pair.toClaim.contains p then
    ({ s with pair := { s.pair with toClaim := s.pair.toClaim.filter (· != p) } } : State).claimedAll
  else s

/-! ## Firmware activation (R352, R353, R483-R485, R621) -/

/-- CSTS.PP of both controllers. -/
def State.paused (s : State) (b : Bool) : State :=
  s.forEach [UnitId.A, UnitId.B] (fun s u => s.modCtrl u.code (fun c => { c with pp := b }))

/-- A Drain for an activation step or a planned switchover begins (R353, R478, R486): the longer hold, and for an activation the
Firmware Activation Starting notice and CSTS.PP. -/
def State.switchDrain (s : State) (planned : Bool) : State :=
  let s := { s with pair := { s.pair with testHold := true } }
  let s := s.drainBegin .activation (if planned then .plannedSwitchover else .activation) planned
  if planned then s else (s.aenAll 0x200 { ty := 2, info := 1, log := 3 }).paused true

/-- An activation stops before its first switchover, or cannot start (R353, R485, R621). -/
def State.activationFailed (s : State) : State :=
  let s := match s.pair.actCmd with | some t => s.complete t .invalidImage | none => s
  let s := { s with pair := { s.pair with step := .idle, actCmd := none, testHold := false } }
  (s.paused false).raise .host [.HOST_ACTIVATION_FAILED]

/-- A rolling activation of a slot begins (R352, R483). -/
def State.startActivation (s : State) (slot : Nat) (cmd : Option CmdTag) : State :=
  let s := s.save Obj.BOOT_SLOT slot
  { s with pair := { s.pair with step := .sendImage, actSlot := slot, actHome := s.pair.active, actCmd := cmd, actPending := none } }

/-- A unit restarts warm (R484): firmware is loaded again; lanes, links and the host port stay up. -/
def State.warmRestart (s : State) (u : UnitId) : State :=
  let s := (s.modUnit u (fun x => { x with fwRunning := false })).modFw u.code (fun f => { f with running := none })
  if u = s.pair.active then s else { s with pair := { s.pair with peer := .selfTest } }

/-- A rolling activation is complete (R353, R483). -/
def State.activationDone (s : State) : State :=
  let s := match s.pair.actCmd with | some t => s.complete t .success | none => s
  { s with pair := { s.pair with step := .idle, actCmd := none } }

/-- The next step of an activation (R483): the image sent and checked; the standby ready with it, or the releasing unit back as
standby, and a Drain begins. With the roles as they were before it, both units running the image, it is complete (R487). -/
def State.activationAdvance (s : State) : State :=
  let u := s.pair.active
  match s.pair.step with
  | .sendImage =>
    let y := s.pair.actHome.other
    let img := s.slotImage s.pair.actHome s.pair.actSlot
    if s.fwCheck y img ≠ 1 then s.activationFailed
    else
      let s := (s.writeSlot y s.pair.actSlot img).warmRestart u.other
      { s with pair := { s.pair with step := .peerRestart } }
  | .peerRestart =>
    if s.peerReady && (s.mode.cur == .frond || s.mode.cur == .frondDegraded || s.mode.cur == .bringUp) then
      ({ s with pair := { s.pair with step := .drain1 } } : State).switchDrain false
    else s
  | .xRestart =>
    if s.peerReady && u = s.pair.actHome then s.activationDone
    else if s.peerReady && (s.mode.cur == .frond || s.mode.cur == .frondDegraded || s.mode.cur == .bringUp) then
      ({ s with pair := { s.pair with step := .drain2 } } : State).switchDrain false
    else s
  | _ => s

/-- The Drain of an activation or of a planned switchover ends once media work has ended at a sweep edge (R30, R618): TOKEN is
released, or the Drain is abandoned because the standby has stopped being ready (R486, R487). -/
def State.drainTry (s : State) : State :=
  let turning := (List.range 16).filter (fun p => (s.getPort p).state == .ready)
  if s.mode.cur ≠ .drain || s.mode.purpose ≠ .activation || !turning.all (fun p => s.mode.swept.testBit p) then s
  else
    let planned := s.mode.planned
    let c : ModeCause := if planned then .plannedSwitchover else .activation
    if s.peerReady then
      let s := s.releaseToken (some (if planned then .pairCommand else .activation)) c true
      { s with pair := { s.pair with step := match s.pair.step with
        | .drain1 => .switch1 | .drain2 => .switch2 | x => x } }
    else
      let s := (s.paused false).back s.mode.drainFrom c
      let s := { s with
        mode := { s.mode with purpose := .none }
        pair := { s.pair with
          testHold := false, step := match s.pair.step with | .drain1 => .peerRestart | .drain2 => .xRestart | x => x } }
      s.logFirmware s.reporter advisory

/-- The switchover of PAIR_COMMAND 01h in Maintenance, once no raw operation runs; abandoned when the standby has stopped being
ready (R486). -/
def State.maintSwitchTry (s : State) : State :=
  if !s.pair.maintSwitch || s.mode.cur ≠ .maintenance || !s.rawIdle then s
  else if s.peerReady then
    ({ s with pair := { s.pair with testHold := true } } : State).releaseToken (some .pairCommand) .plannedSwitchover true
  else ({ s with pair := { s.pair with maintSwitch := false } } : State).logFirmware s.reporter advisory

/-- A step of an activation ends with its take-over (R483). -/
def State.activationTook (s : State) : State :=
  match s.pair.step with
  | .switch1 => { s with pair := { s.pair with step := .xRestart } }
  | .switch2 => s.activationDone
  | _ => s

/-- The take-over is complete (R479): service resumes in the mode that was left. -/
def State.takeover (s : State) : State :=
  if s.mode.cur ≠ .switchover || !s.pair.toClaim.isEmpty || (s.unitSt s.pair.active).releasedAt.isSome then s
  else
    let gap := s.now - s.pair.gapStart
    let s := (s.wr Obj.LAST_GAP gap).wr Obj.HELD_AT_LAST_GAP s.cmds.length
    let s := (s.incSave Obj.SWITCHOVERS).raise .pair [.PAIR_TAKEOVER]
    let s := s.logPlain 6 (leBytes 1 s.pair.active.code ++ leBytes 1 (s.rd Obj.LAST_RELEASE_CAUSE) ++ leBytes 4 gap)
    let s := if 250000 < gap then s.raise .host [.HOST_GAP_OVERRUN] else s
    let s := { s with pair := { s.pair with testHold := false } }
    (((s.paused false).back s.mode.switchFrom .switchoverDone).postHeld).settleCmds.activationTook

/-! ## Firmware commits (R352, R621) -/

/-- The modes in which a commit with activation acts (R37). -/
def activates : Mode → Bool
  | .frond | .frondDegraded | .bringUp => true
  | _ => false

/-- The slot that a Firmware Commit names; 0 leaves the choice to the controller: the slot not named by BOOT_SLOT. -/
def State.commitSlot (s : State) (n : Nat) : Nat := if n = 0 then 3 - s.rd Obj.BOOT_SLOT else n

/-- The image downloaded to a controller: its pieces in the order they came, the later over the earlier. -/
def CtrlSt.image (c : CtrlSt) : List Byte :=
  c.download.foldr (fun (off, b) img => overlay (img ++ List.replicate (off + b.length - img.length) 0) off b) []

/-- A Firmware Commit acts (R352, R621). -/
def State.commitRun (s : State) (t : CmdTag) (slot action : Nat) : State :=
  let u := s.pair.active
  let n := s.commitSlot slot
  if s.pair.step ≠ .idle then s.complete t .activationProhibited
  else if 2 < n then s.complete t .invalidField
  else
    let img := if action = 2 then s.slotImage u n else (s.getCtrl t.ctrl.code).image
    if s.fwCheck u img ≠ 1 then s.complete t .invalidImage
    else
      let s := if action = 2 then s else s.writeSlot u n (img.take (fwLen img))
      match action with
      | 0 => s.complete t .success
      | 3 =>
        if s.peerReady then
          (s.modCmd t (fun c => { c with kind := .commit, slot := n, action := 3 })).startActivation n (some t)
        else (s.complete t .activationProhibited).raise .host [.HOST_ACTIVATION_FAILED]
      | _ => ({ s with pair := { s.pair with actPending := some n } } : State).complete t .success

/-- Commits held under R37 act once the module is in a mode that has their row. -/
def State.commitTry (s : State) : State :=
  if !activates s.mode.cur then s
  else
    s.forEach (s.cmds.filter (fun (c : HostCmd) => c.kind == .commit && s.pair.actCmd != some c.tag)) (fun s c =>
      s.commitRun c.tag c.slot c.action)

end Sys2Proof.Machine
end

