-- ==== Sys2Proof/Machine/Reads.lean ====
section
/-! DEFINITION. Reads of chunks (R20, R21, R297, R316, R326): which fragments firmware plans, what the coder and the decompressor make
of those delivered, and what is done with a chunk once it is read. -/

namespace Sys2Proof.Machine

/-! ## What can be read (R20, R285, R295, R435) -/

/-- Whether a fragment can be read: its member is in service and its actuator calibrated; in reduced service actuator 0 of a
read-ready port (R435). -/
def State.fragReadable (s : State) (r : FragRec) : Bool :=
  let m : Member := mapGet (fun _ => {}) s.os.members r.slot
  match m.state, m.port with
  | .active, some p =>
    if s.mode.cur = .bringUp then r.act == 0 && s.readReady p else (s.getPort p).state == .ready
  | _, _ => false

/-- The fragments of a sorus that are missing or cannot be read, as bits by FRAG_INDEX. -/
def State.unread (s : State) (x : SorusSt) : Nat :=
  (x.frags.filter (fun f => !s.fragReadable f.2)).foldl (fun m f => m ||| 2 ^ f.1) x.missing

/-! ## Fragments planned (R20, R297) -/

/-- Fragments of some FRAG_INDEXes as bits. -/
def fragMask (l : List Nat) : Nat := l.foldl (fun m f => if m.testBit f then m else m + 2 ^ f) 0

/-- Whether a set of fragments makes a sorus decodable. -/
def SorusSt.decodes (x : SorusSt) (l : List Nat) : Bool := decodable x.profile x.k (0xFFFF - fragMask l)

/-- A fragment all of whose sectors have been delivered. -/
def FragRead.whole (q : FragRead) (f : Nat) : Bool := decide (f ≤ q.got.length)

/-- Fragments still expected (R20): delivered, or planned for a sweep that has not ended. -/
def ChunkRead.expected (r : ChunkRead) (f : Nat) : List Nat :=
  (r.frags.filter (fun q => q.whole f || (!q.gone && decide (q.age < 2)))).map FragRead.frag

/-- Fragments delivered. -/
def ChunkRead.there (r : ChunkRead) (f : Nat) : List Nat := (r.frags.filter (fun q => q.whole f)).map FragRead.frag

/-- The order in which parities are planned (R297): of the LRC the local parity of a group with one missing data fragment, then G0
and G1, then the local parity of a group with more; of RS, Q0 upward. -/
def SorusSt.parityOrder (x : SorusSt) (missing : List Nat) : List Nat :=
  let p := parityCount x.profile
  if x.profile ≠ 0 then (List.range p).map (· + (16 - p))
  else
    let lost := fun g => (missing.filter (fun j => decide (j < 6) == (g == 0))).length
    [0, 1].filter (fun g => lost g == 1) |>.map (· + 12) |>.append [14, 15] |>.append
      ([0, 1].filter (fun g => 2 ≤ lost g) |>.map (· + 12))

/-- Parities planned until the fragments expected make the sorus decodable (R20). -/
def addParities (x : SorusSt) : List Nat → List Nat → List Nat
  | [], l => l
  | f :: rest, l => if x.decodes l then l else addParities x rest (l ++ [f])

/-- The fragments that firmware plans now for a chunk: first the data fragments, then as many parities as R20 asks for; after a failed
check every parity that is left (R21). -/
def State.readPlan (s : State) (x : SorusSt) (r : ChunkRead) : List Nat :=
  let free := fun f => !(s.unread x).testBit f && !r.frags.any (fun q => q.frag == f)
  let cols := dataColumns x.profile x.k
  let first := if r.frags.isEmpty then cols.filter free else []
  let have_ := r.expected x.f ++ first
  let order := (x.parityOrder (cols.filter (fun j => !have_.contains j))).filter free
  let more := if r.suspect then order else (addParities x order have_).drop have_.length
  first ++ more

/-- Nothing can come any more: every fragment not delivered is missing, or will not be delivered. -/
def ChunkRead.over (r : ChunkRead) (x : SorusSt) : Bool :=
  (fragIndexes x.profile x.k).all (fun f =>
    x.missing.testBit f || r.frags.any (fun q => q.frag == f && (q.gone || q.whole x.f)))

/-! ## Chunks from their fragments (R21, R297, R298) -/

/-- The bytes of a fragment delivered, sector after sector. -/
def FragRead.bytes (q : FragRead) (f : Nat) : List Byte :=
  (List.range f).flatMap (fun i => ((q.got.find? (fun e => e.1 == i)).map Prod.snd).getD [])

/-- The chunk that some fragments give, if it passes its checks: missing columns rebuilt (R297), the sectors in their order (R298),
the chunk decompressed and checked (R419). -/
def SorusSt.chunkFrom (x : SorusSt) (l : List (Nat × List Byte)) : Option (List Byte) :=
  let p := parityCount x.profile
  let row := fun f j => parityCoef x.profile (f - (16 - p)) j
  match rebuildColumns (dataColumns x.profile x.k) ((List.range p).map (· + (16 - p))) row l with
  | some cols => openChunk (interleave cols x.n)
  | none => none

/-- The fragments delivered. -/
def ChunkRead.parts (r : ChunkRead) (x : SorusSt) : List (Nat × List Byte) :=
  (r.frags.filter (fun q => q.whole x.f)).map (fun q => (q.frag, q.bytes x.f))

/-- The chunk with suspect fragments as erasures (R21): the first decodable set of those delivered, fewest erasures first, whose
chunk passes its check. -/
def ChunkRead.rebuilt (r : ChunkRead) (x : SorusSt) : Option (List Byte) :=
  (List.range 5).findSome? (fun m => (leaveOut m (r.parts x)).findSome? (fun l => if x.decodes (l.map Prod.fst) then x.chunkFrom l else none))

/-! ## What is done with a chunk that has been read (R20, R316, R326) -/

/-- The bytes of a value from its chunks (R286, R289). -/
def valueFrom (v : ValueDesc) (parts : List (Nat × List Byte)) : List Byte :=
  let all := v.chunks.flatMap (fun n => ((parts.find? (fun e => e.1 == n)).map Prod.snd).getD [])
  if v.packed then (all.drop (v.off + 24)).take v.len else all

/-- A Retrieve goes on with a chunk of its value, and completes with the last. -/
def State.retrieveStep (s : State) (c : HostCmd) (n : Nat) (input : List Byte) : State :=
  let parts := (n, input) :: c.parts
  let waits := c.waits.filter (· != n)
  match waits, c.desc with
  | [], some v => s.complete c.tag .success v.len ((valueFrom v parts).take c.limit)
  | _, _ => { s with cmds := s.cmds.map (fun (d : HostCmd) => if d.tag == c.tag then { d with parts := parts, waits := waits } else d) }

/-- A copy of a sorus's chunk queued as a new sorus, that takes its references when sealed (R316). -/
def State.copySorus (s : State) (n : Nat) (input : List Byte) : State :=
  let x := s.sorus n
  let (m, s) := s.newSorus
    { ns := x.ns, index := x.index, profile := x.profile, input := input, n := x.n, packed := x.packed, hint := x.hint
      records := x.records, mirrored := s.peerReady
      slack := if x.index then 1 else s.rd (Obj.THRESHOLD_SLACK x.ns), replaces := some n }
  s.queueSorus m

/-- The live values of a packing chunk appended to the open packing chunk (R326). -/
def State.repack (s : State) (n : Nat) (input : List Byte) : State :=
  let ns := (s.sorus n).ns
  s.forEach ((s.os.values ns).filter (fun v => v.packed && v.chunks == [n])) (fun s v =>
    let (m, off, s) := s.packValue ns v.key (valueFrom v [(n, input)])
    s.modSorus m (fun x => { x with moves := x.moves ++ [(v.key, n, off)] }))

/-- The Retrieves that wait for a chunk. -/
def State.waiting (s : State) (n : Nat) : List HostCmd :=
  s.cmds.filter (fun (c : HostCmd) => c.kind == .retrieve && c.waits.contains n)

/-- A read of a chunk is over. -/
def State.readDrop (s : State) (n : Nat) : State := { s with os := { s.os with reads := s.os.reads.filter (fun e => e.1 != n) } }

/-- A chunk has been read. -/
def State.readDone (s : State) (n : Nat) (r : ChunkRead) (input : List Byte) : State :=
  let s := (s.readDrop n).forEach (s.waiting n) (fun s c => s.retrieveStep c n input)
  let s := if r.repack then s.repack n input else s
  if r.copy then s.copySorus n input else s

/-- A chunk cannot be read (R21, R318): the Retrieves that wait for it fail. -/
def State.readFail (s : State) (n : Nat) : State :=
  (s.readDrop n).forEach (s.waiting n) (fun s c => s.complete c.tag .dataLost)

/-- One chunk being read goes on (R20, R21): it is done when its data fragments, or a decodable set that the coder has worked on,
give a chunk that passes its check; it fails when nothing more can come; else the fragments of the plan are added. -/
def State.readStep (s : State) (n : Nat) (r : ChunkRead) : State :=
  let x := s.sorus n
  if x.lost then s.readFail n
  else
    let full := (dataColumns x.profile x.k).all (fun j => (r.there x.f).contains j)
    let good := if full || (r.coded && x.decodes (r.there x.f)) then
        (if r.suspect then r.rebuilt x else x.chunkFrom (r.parts x))
      else none
    match good with
    | some input => s.readDone n r input
    | none =>
      let suspect := r.suspect || full || (r.coded && x.decodes (r.there x.f))
      if r.over x && (suspect || !x.decodes (r.there x.f)) then
        (match r.rebuilt x with | some input => s.readDone n r input | none => s.readFail n)
      else
        let r := { r with suspect := suspect }
        s.modRead n (fun _ => { r with frags := r.frags ++ (s.readPlan x r).map (fun f => { frag := f }) })

/-- Every chunk being read goes on. -/
def State.readsSettle (s : State) : State := s.forEach s.os.reads (fun s e => s.readStep e.1 e.2)

/-- A sweep edge: what was planned for the sweep that ends and has not come is expected no more (R20). -/
def State.readsAge (s : State) : State :=
  { s with os := { s.os with reads := s.os.reads.map (fun (e : Nat × ChunkRead) =>
      (e.1, { e.2 with frags := e.2.frags.map (fun q => { q with age := q.age + 1 }) })) } }

/-- The sorus coder has worked on a chunk's fragments. -/
def State.coderDone (s : State) (n : Nat) : State := s.modRead n (fun r => { r with coded := true })

end Sys2Proof.Machine
end

