-- ==== Sys2Proof/Machine/Settle.lean ====
section
/-! DEFINITION. What follows at once from a command's effect: the service state, retired slots, Grave latches, the next step of a
start, of a mode request or of a commit (R30, R34). -/

namespace Sys2Proof.Machine

/-- A LOST slot is RETIRED as soon as no sorus record references it (R321). -/
def State.retireSlots (s : State) : State :=
  { s with os := { s.os with members := s.os.members.map (fun (e : Nat × Member) =>
      if e.2.state = .lost && !s.os.soruses.any (fun x => !x.2.dead && x.2.frags.any (fun f => decide (f.2.slot = e.1))) then
        (e.1, { e.2 with state := .retired })
      else e) } }

/-- With no standby ready, nothing waits for it (R307, R497). -/
def State.aloneTry (s : State) : State :=
  if !s.peerReady && (s.cmds.any HostCmd.ackDue || s.os.unprog.any (fun r => r.need.contains s.pair.active.other)) then s.recordsAlone
  else s

/-- The chunks in flight as the standby holds them (R19): all of them while it is ready. -/
def State.mirrorKeep (s : State) : State :=
  let held := fun (x : SorusSt) => s.peerReady && !x.input.isEmpty
  if s.os.soruses.all (fun e => e.2.mirrored == held e.2) then s
  else { s with os := { s.os with soruses := s.os.soruses.map (fun (e : Nat × SorusSt) => (e.1, { e.2 with mirrored := held e.2 })) } }

/-- What follows from a command's effect, in the order of R34: a Grave latch, a tripped check, the service state, the reads of chunks, then the start, self-granted
tokens, recovery and the end of Bring-up, a planned release, then commits and the mode request; and the pauses of fetching that
have ended. -/
def State.settle (s : State) : State :=
  let s := s.grave.checksAct.retireSlots.osRefresh.aloneTry.readsSettle.mirrorKeep
  let s := (s.bootTry.orphanServe 16).recoverTry.bringUpTry
  (s.maintSwitchTry.commitTry).pathTry.pauseEnd

/-- The answer of a command whose effect the mode and the ports may follow at once. -/
def State.conclude (s : State) : Host.Outcome State Fault Refusal := .next s.settle

end Sys2Proof.Machine
end

