-- ==== Sys2Proof/Machine/Channel.lean ====
section
/-! DEFINITION. The data channel (R82-R120) and the reading side of the media format (R131-R136): sample overruns, markers,
arms that start, sectors whose samples have arrived, decoding, replays and read-after-write checks; and the write encoder's
fragments (R137, R140-R143, R167). -/

namespace Sys2Proof.Machine

/-! ## Sectors that end (R108, R111, R112) -/

/-- A sector copied into the hold buffer (R111). -/
def State.capture (s : State) (p a : Nat) (x : Sector) (code : Nat) : State :=
  if !x.held && (code == 2 || code == 3 || code == 4 || code == 6) && s.rd (Obj.HOLD_ENABLE p a) == 1 then
    s.modChan (chanKey p a) (fun c =>
      if c.hold = .pinned then c else { c with hold := .held, holdSector := some { x with pieces := [] } })
  else s

/-- MISCORRECT where a zero syndrome failed its CRC (R101). -/
def Verdict.flags (v : Verdict) : List Flag := if v.code = 3 || v.miscorrect then [.CH_MISCORRECT] else []

/-- A replay ends (R112): its result word is posted with HELD set, and its ladder goes on. -/
def State.replayEnd (s : State) (p a : Nat) (x : Sector) (v : Verdict) (flags : List Flag := []) : State :=
  let v := (s.getChan (chanKey p a)).supplies x v
  let s := (s.postResult p a x v).rawTake p a x v
  let s := if delivers v.code then s.sectorRead p x.psa v.data else s
  let s := match x.ticket with | some t => s.modChan (chanKey p a) (fun c => c.answered t) | none => s
  let fs := flags ++ v.flags
  let s := if fs.isEmpty then s else s.raise (.ch p a) fs
  s.ladderResult p a x v

/-- A sector's end: posted, counted, held, and handed to the ladder (R108, R111, R114). NOT_READ sectors of line reads
are planned again (R27) and start no ladder; nor does a read of reserved tracks, which is no data sector. -/
def State.sectorEnd (s : State) (p a : Nat) (x : Sector) (v : Verdict) (flags : List Flag := []) : State :=
  let v := (s.getChan (chanKey p a)).supplies x v
  let s := (s.lineEnd p a x v (flags ++ v.flags)).capture p a x v.code
  let s := if delivers v.code then s.sectorRead p x.psa v.data else s
  if x.step ≠ 0 then s.ladderResult p a x v
  else if delivers v.code || v.code = 0x0A || !s.holdsData p x then s
  else s.ladderStart p a x

/-- The sector being received ends with a code before its last sample. -/
def State.rxEnd (s : State) (p a : Nat) (code : Nat) (flags : List Flag) : State :=
  match (s.getChan (chanKey p a)).rx with
  | none => if flags.isEmpty then s else s.raise (.ch p a) flags
  | some x =>
    (s.modChan (chanKey p a) (fun c => { c with rx := none, readCur := none }.trySwap)).sectorEnd p a x (verdictOf code) flags

/-! ## Overruns, underruns and markers -/

/-- SAMPLE_OVERRUN (R16): the sector is not read with result SAMPLE_OVERRUN, left to the ladder. While the pace monitor reports
slack above its threshold there is none (R15). -/
def execSampleOverrun (p : PortId) (a : ActId) (s : State) : Host.Outcome State Fault Refusal :=
  State.after (if s.paceAbove then s else s.rxEnd p a 0x05 [.CH_SAMPLE_OVERRUN])

/-- WRITE_UNDERRUN (R17, R142): the gate goes off and the sector is a failed write; never while the slack is above its
threshold (R15). -/
def execWriteUnderrun (p : PortId) (a : ActId) (s : State) : Host.Outcome State Fault Refusal :=
  State.after (if s.paceAbove then s else s.cutGate p a .WR_WRITE_UNDERRUN)

/-- A control block received on a reader sub-lane of a unit (R44, R45, R84, R85): a marker fixes the index of the sub-lane's next
group, and on the active unit tells of a new ratio and of the head selected; a head that is not the one being read ends the
sector with HEAD_MISMATCH. -/
def State.markerIn (s : State) (u : UnitId) (p a lane : Nat) (w : BitVec 64) : State :=
  match controlBlock w with
  | none => s
  | some b =>
    if b.kind ≠ .marker ∨ b.act ≠ a ∨ b.sublane ≠ lane then s
    else
      let s := s.modChan (chanKey p a) (fun c =>
        { c with laneNext := mapPut (fun _ => 0) c.laneNext (subLaneKey u lane) b.sampleIndex.toNat })
      if u ≠ s.pair.active then s
      else
        let s := s.modChan (chanKey p a) (fun c =>
          { c with
            laneHead := some b.head, ratioWait := c.ratioWait && !b.ratioChange, nextWait := c.nextWait && !b.ratioChange })
        match (s.getChan (chanKey p a)).rx with
        | some x => if x.psa.head = b.head then s else s.rxEnd p a 0x09 [.CH_HEAD_MISMATCH]
        | none => s

/-- The alignment marker that a PN2 sends on a sub-lane of a side (R44). -/
def Pn2Act.marker (x : Pn2Act) (u : UnitId) (a lane : Nat) (index : Word) : ControlBlock where
  kind := .marker
  act := a
  sublane := lane
  ratioChange := x.ratioDue.contains (subLaneKey u lane)
  headChange := x.headDue.contains (subLaneKey u lane)
  head := x.head
  sampleIndex := index

/-- ALIGNMENT_MARKER (R44, R45, R56): the PN2 sends the marker on a sub-lane of either side, and the lane carries it when it is in
service. -/
def execAlignmentMarker (u : UnitId) (p : PortId) (a : ActId) (lane : Fin 4) (index : Word) (s : State) :
    Host.Outcome State Fault Refusal :=
  let b := ((s.getPn2 p).act a).marker u a lane index
  let k := subLaneKey u lane
  let s := s.modPn2 p (fun q => q.modAct a (fun x =>
    { x with ratioDue := x.ratioDue.filter (· != k), headDue := x.headDue.filter (· != k) }))
  State.after (if s.laneUpOn u p (4 * a + lane) then s.markerIn u p a lane b.word else s)

/-! ## Arms that start (R166, R167) -/

/-- A replay pre-empted by a line read (R112): NOT_READ with HELD set, the buffer unchanged. -/
def State.preempt (s : State) (p a : Nat) : State :=
  match (s.getChan (chanKey p a)).replay with
  | none => s
  | some x =>
    (s.modChan (chanKey p a) (fun c => { c with replay := none })).replayEnd p a x (verdictOf 0x0A)

/-- The active bank serves no sector of its item (R105, R125): no set in it, one that failed its checks, or one with another ratio
than its zone's. -/
def ChanSt.bankUnfit (c : ChanSt) : Bool :=
  c.setBad || c.activeSet.isNone || fldU (c.zone (c.activeSet.getD 0)) 8 3 != fldU c.activeBytes 196 3

/-- A bank still being loaded when its item's first sector starts has not come in time (R105). -/
def ChanSt.bankDue (c : ChanSt) : ChanSt :=
  (if c.swap && c.load == BankLoad.loading then { c with load := .failed, nextBad := true, psetErr := true } else c).trySwap

/-- The span of an arm's fragment (R131). -/
def State.armSpan (s : State) (p a : Nat) (r : Arm) : FragSpan :=
  let z := zoneOf ((s.getChan (chanKey p a)).zone ((s.getChan (chanKey p a)).activeSet.getD 0))
  { start := r.start, len := (r.endIdx - r.start).toNat, bits := r.bits
    frac := if z.n = 0 then 0 else s.bitFraction p a r.psa.head z }

/-- A read arm starts (R84, R85, R105, R112, R125). -/
def State.readStart (s : State) (p a : Nat) (r : Arm) : State :=
  let s := s.preempt p a
  let s := s.modChan (chanKey p a) (fun c => { c with readPend := none })
  if r.frag = 0 then
    let s := s.modChan (chanKey p a) ChanSt.bankDue
    let c := s.getChan (chanKey p a)
    let x := { c.armSector s.mode.cur r with setNo := c.activeSet.getD 0, set := c.activeBytes, spans := [s.armSpan p a r] }
    let s := (s.wr (Obj.READER_MODE p a) x.mode.code).modChan (chanKey p a) (fun c => { c with syncOk := false })
    if c.bankUnfit then s.sectorEnd p a x (verdictOf 0x0B) [.CH_PARAM_ERR]
    else if c.ratioWait then s.sectorEnd p a x (verdictOf 0x07) [.CH_LANE_DROP]
    else if c.laneHead.any (· != x.psa.head) then s.sectorEnd p a x (verdictOf 0x09) [.CH_HEAD_MISMATCH]
    else s.modChan (chanKey p a) (fun c => { c with rx := some x, readCur := some r })
  else
    let f := s.armSpan p a r
    s.modChan (chanKey p a) (fun c =>
      match c.rx with
      | some x => { c with rx := some { x with spans := x.spans ++ [f] }, readCur := some r }
      | none => c)

/-- The write-gate-off block of the fragment being written is sent (R137, R167). -/
def ChanSt.gateEnds (c : ChanSt) : ChanSt := { c with gate := false, writeCur := none, wrOut := [] }

/-- The payload of a feed, read from the buffer when its arm starts (R169). What an access answered with an error brings is
open. -/
def State.feedPayload (s : State) (addr : Nat) : State × List Byte :=
  match s.engRead s.pair.active addr 4096 with
  | (s, some b) => (s, b)
  | (s, none) => let (n, s) := s.next; (s, (List.range 4096).map (fun i => Config.freeByte n i))

/-- A fragment goes on the write lane (R126, R129, R137). At the sector's first fragment the encoder reads the payload and forms CRC
and parity (R127, R169). -/
def State.writeFragment (s : State) (p a : Nat) (r : Arm) : State :=
  let k := chanKey p a
  let (s, body) := match r.frag, r.feed with
    | 0, some f =>
      let (s, d) := s.feedPayload f.payload
      (s, d ++ f.tag ++ sectorCrc r.psa (d ++ f.tag))
    | _, _ => (s, (s.getChan k).wrBody)
  let done := if r.frag = 0 then 0 else (s.getChan k).wrDone
  let bits := fragmentBits (s.rd (Obj.SYNC_PATTERN p a)) (s.rd (Obj.RESYNC_PATTERN p a)) r.frag r.frags
    (((writtenBits body).drop done).take r.bits)
  let f := s.armSpan p a r
  s.modChan k (fun c =>
    { c with
      gate := true, gateCut := false, writeCur := some r, wrBody := body, wrDone := done + r.bits
      wrOut := fragmentItems a r.psa.head r.start r.endIdx bits
      raw := if r.frag = 0 then
          c.raw ++ [{ r.sector with mode := .bOnly, setNo := c.activeSet.getD 0, set := c.activeBytes, spans := [f] }]
        else c.raw.map (fun x => if x.psa == r.psa then { x with spans := x.spans ++ [f] } else x)
      feeds := match r.feed with
        | some f => c.feeds.filter (fun g => g.id != f.id)
        | none => c.feeds })

/-- Whether the entries of R140 were sent for the set in the active bank and are acknowledged. -/
def ChanSt.entriesIn (c : ChanSt) : Bool := c.wrAck && c.wrSet == c.activeSet && !c.wrFail

/-- Writes end at the next sector edge though the HDA is not Critical (R502, R524): in Hold-up, and those of soruses while the object
service is read-only or its index unavailable. -/
def State.writesEnd (s : State) (p : Nat) (x : Sector) : Bool :=
  s.mode.cur == .holdUp || (s.holdsData p x && (s.os.mode == .readOnly || s.os.mode == .indexUnavailable))

/-- A write arm starts: the gate opens when the item's set serves (R105, R125), its entries are acknowledged (R140), the actuator is
write-safe (R225) and writes have not ended at the sector edge before (R141, R524); otherwise the sector is a failed write. -/
def State.writeStart (s : State) (p a : Nat) (r : Arm) : State :=
  let s := s.modChan (chanKey p a) (fun c => (({ c with writePend := none } : ChanSt).gateEnds).bankDue)
  let c := s.getChan (chanKey p a)
  let begun := r.frag != 0
  if begun && !c.raw.any (fun x => x.psa == r.psa && x.abort.isNone) then s
  else if c.bankUnfit then s.failWrite p a r begun
  else if !c.entriesIn then (s.failWrite p a r begun).raise (.wr p a) [.WR_TABLE_ERR]
  else if !begun && s.hdaBand p = .critical then (s.failWrite p a r false).raise (.wr p a) [.WR_CRITICAL_REFUSED]
  else if !begun && s.writesEnd p r.sector then s.failWrite p a r false
  else if !(s.getSrv (chanKey p a)).writeSafe then s.failWrite p a r begun
  else s.writeFragment p a r

/-- ARM_START (R167): a pending arm reaches its start index; without a ticket or feed it is refused as late (R166). -/
def execArmStart (p : PortId) (a : ActId) (write : Bool) (s : State) : Host.Outcome State Fault Refusal :=
  let c := s.getChan (chanKey p a)
  State.after (
    match (if write then c.writePend else c.readPend) with
    | none => s
    | some r =>
      if r.frag = 0 && (if write then r.feed.isNone else r.ticket.isNone) then
        (s.modChan (chanKey p a) (fun c => if write then { c with writePend := none } else { c with readPend := none })).armLate p a r write
      else if write then s.writeStart p a r else s.readStart p a r)

/-! ## The samples of a sector (R82-R95) -/

/-- The intact groups of both readers of an actuator. -/
structure Readers where
  a : List Stretch
  b : List Stretch

/-- The sub-lanes' blocks taken apart, and where each sub-lane goes on (R43, R45, R82). -/
def State.readers (s : State) (p a : Nat) (d : SectorSamples) : State × Readers :=
  let c := s.getChan (chanKey p a)
  let u := s.pair.active
  let run := fun (lane : Nat) (l : List LaneBlock) =>
    laneGroups 128 (BitVec.ofNat 32 (mapGet (fun _ => lane % 2 * 64) c.laneNext (subLaneKey u lane))) l
  let rs := [run 0 d.a0, run 1 d.a1, run 2 d.b0, run 3 d.b1]
  let next := rs.zipIdx.foldl (fun m (r, i) => mapPut (fun _ => 0) m (subLaneKey u i) r.next.toNat) c.laneNext
  let at_ := fun (i : Nat) => (rs[i]?.map LaneRun.done).getD []
  (s.modChan (chanKey p a) (fun c => { c with laneNext := next }), { a := at_ 0 ++ at_ 1, b := at_ 2 ++ at_ 3 })

/-- Samples of a reader over a fragment, from 64 bits before it to 64 after, n bits later in its stream; 0 where none came. -/
def spanSamples (l : List Stretch) (f : FragSpan) (n : Int) : List Int :=
  (List.range (f.len + 128)).map (fun k => (sampleAt l (f.start - 64 + BitVec.ofInt 32 n + BitVec.ofNat 32 k)).getD 0)

/-- Whether a reader's samples are all there from the first fragment's start to the last one's end (R82), n bits later. -/
def spansWhole (l : List Stretch) (fs : List FragSpan) (n : Int) : Bool :=
  match fs.head?, fs.getLast? with
  | some f, some g =>
    (List.range (g.start + BitVec.ofNat 32 g.len - f.start).toNat).all (fun k =>
      (sampleAt l (f.start + BitVec.ofInt 32 n + BitVec.ofNat 32 k)).isSome)
  | _, _ => true

/-- The samples of a sector read, reader B delayed by the whole part of READER_B_OFFSET, or reader A by a negative one (R83). -/
def Sector.aligned (x : Sector) (r : Readers) : List (List (Int × Int)) :=
  let q := fldI x.set 192 2 / 64
  x.spans.map (fun f => (spanSamples r.a f (min q 0)).zip (spanSamples r.b f (-(max q 0))))

/-- The samples of a sector under its read-after-write check: reader B, WR_B_DELAY bits behind the writer (R143). -/
def Sector.behind (x : Sector) (r : Readers) (delay : Nat) : List (List (Int × Int)) :=
  x.spans.map (fun f => (spanSamples r.b f delay).map (fun v => (0, v)))

/-- A sector's samples through the channel in its settings (R92-R95, R114, R118); in ladder steps 2 and 4 a first pass adapts from
the stored taps, with MU × 4 in step 2, and the second runs on its taps. -/
def Sector.equalise (x : Sector) (running : Bool) (freq : Int) (tapsA tapsB : List Int) : Fold × List FragOut :=
  let q : FoldSet := { set := x.set, mode := x.mode, alt := x.alt, running := running }
  let l := x.spans.zip x.samples
  let frac := fldI x.set 192 2 % 64
  if x.step = 2 ∨ x.step = 4 then
    let f := (({ q with gain := if x.step = 2 then 4 else 1 }).pass frac l freq tapsA tapsB).1
    ({ q with running := false }).pass frac l freq f.tapsA f.tapsB
  else q.pass frac l freq tapsA tapsB

/-- The sync mark judged: the offset accepted, SYNC_MISSES, and SYNC_REJECTS with SYNC_REJECT for each match outside the
window (R133, R136). -/
def State.judgeSync (s : State) (p a : Nat) (l : List SyncMatch) : State × Option Int :=
  let lim := s.rd (Obj.SYNC_MAX_ERRORS p a)
  let o := acceptSync lim l
  let s := s.forEach (l.filter (fun m => m.diffs ≤ lim && 6 < m.offset.natAbs && m.offset.natAbs ≤ 16)) (fun s _ =>
    (s.inc (Obj.SYNC_REJECTS p a)).raise (.wr p a) [.WR_SYNC_REJECT])
  (if o.isSome then s else s.inc (Obj.SYNC_MISSES p a), o)

/-- A sector after its last pass: its marks judged (R133, R134; any sync mark is ignored in ladder step 6, R114), its mean |e| and
what the decoder works on; with the offsets of its continuation fragments. -/
def State.judge (s : State) (p a : Nat) (x : Sector) (f : Fold) (os : List FragOut) : State × Sector × List (Option Int) :=
  let first := (os.head?.map (fun o => o.syncs (s.rd (Obj.SYNC_PATTERN p a)))).getD []
  let (s, o) := if x.step = 6 then (s, none) else s.judgeSync p a first
  let lim := s.rd (Obj.RESYNC_MAX_ERRORS p a)
  let cont := os.tail.zipIdx.map (fun (o, i) => acceptSync lim (o.resyncs (s.rd (Obj.RESYNC_PATTERN p a)) (i + 1)))
  let s := s.add (Obj.RESYNC_MISSES p a) (cont.filter Option.isNone).length
  let pieces := (x.spans.zip (os.zip (none :: cont))).zipIdx.map (fun ((sp, o, off), i) =>
    ({ ovh := if i = 0 then 160 else 56, bits := sp.bits, off := off.getD 0, ys := o.ys } : CodePiece))
  (s, { x with sync := o, metric := f.metric, pieces := pieces }, cont)

/-- Code words in flight in the decoder (R102): of reads, and of checks whose samples have come. -/
def ChanSt.inFlight (c : ChanSt) : Nat :=
  c.decoding.length + (c.raw.filter (fun x => x.sampled && x.abort.isNone)).length

/-- The taps run on or fall back after a sector (R94): four in a row whose mean |e| exceeds DIVERGE_LIMIT or with an adapted tap at
its clamp restore the taps and freeze them for the item. -/
def State.carryTaps (s : State) (p a : Nat) (x : Sector) (q : FoldSet) (f : Fold) : State :=
  let c := s.getChan (chanKey p a)
  let bad := q.running && (f.exceeds (s.rd (Obj.DIVERGE_LIMIT p a)) || q.clamped f)
  let run := if bad then c.diverged + 1 else 0
  let fall := run = 4
  let s := s.modChan (chanKey p a) (fun c =>
    { c with
      tapsA := if fall then setTaps x.set 80 else f.tapsA
      tapsB := if fall then setTaps x.set 120 else f.tapsB
      diverged := if fall then 0 else run, fallback := c.fallback || fall })
  if fall then (s.incSave (Obj.ADAPT_DIVERGENCES p a)).raise (.ch p a) [.CH_ADAPT_DIVERGED] else s

/-- Taps that a sector's first pass starts from: those of the item, or the stored ones from ladder step 2 on (R94, R114). -/
def Sector.startTaps (x : Sector) (c : ChanSt) : List Int × List Int :=
  if 2 ≤ x.step then (setTaps x.set 80, setTaps x.set 120) else (c.tapsA, c.tapsB)

/-- Whether a sector's taps adapt (R94). -/
def State.adapting (s : State) (p a : Nat) : Bool :=
  s.rd (Obj.ADAPT_MODE p a) = 1 && !(s.getChan (chanKey p a)).fallback

/-- A marker among a sector's blocks that names another head (R84). -/
def SectorSamples.otherHead (d : SectorSamples) (head : Nat) : Bool :=
  (d.a0 ++ d.a1 ++ d.b0 ++ d.b1).any (fun
    | .control w => (controlBlock w).any (fun b => b.kind == .marker && b.head != head)
    | _ => false)

/-- The last sample of the sector being read arrives (R82-R94, R103, R133, R134): a missing sample gives LANE_DROP and another head
HEAD_MISMATCH; otherwise the loop and the taps run over it, its marks are judged, and it ends with TIMING_SLIP or DECODER_BUSY
or is queued for decoding. -/
def State.samplesEnd (s : State) (p a : Nat) (x : Sector) (d : SectorSamples) : State :=
  let k := chanKey p a
  let (s, r) := s.readers p a d
  let s := s.modChan k (fun c => { c with rx := none, readCur := none }.trySwap)
  if d.otherHead x.psa.head then s.sectorEnd p a x (verdictOf 0x09) [.CH_HEAD_MISMATCH]
  else if !(spansWhole r.a x.spans 0 && spansWhole r.b x.spans 0) then s.sectorEnd p a x (verdictOf 0x07) [.CH_LANE_DROP]
  else
    let c := s.getChan k
    let x := { x with samples := x.aligned r }
    let (ta, tb) := x.startTaps c
    let (f, os) := x.equalise (s.adapting p a) c.freq ta tb
    let s := if 2 ≤ x.step then s
      else s.carryTaps p a x { set := x.set, mode := x.mode, alt := x.alt, running := s.adapting p a } f
    let (s, x, cont) := s.judge p a x f os
    let s := s.modChan k (fun c =>
      { c with
        phase := f.phase, freq := f.freq, itemSum := c.itemSum + x.metric, itemCount := c.itemCount + 1
        syncOk := x.sync.isSome
        resyncOk := match cont.getLast? with | some o => o.isSome | none => c.resyncOk })
    if f.slip then s.sectorEnd p a x { code := 6, offset := x.sync } [.CH_TIMING_SLIP]
    else if 4 ≤ (s.getChan k).inFlight then s.sectorEnd p a x { code := 8, offset := x.sync } [.CH_DECODER_BUSY]
    else s.modChan k (fun c => { c with decoding := c.decoding ++ [x] })

/-- The sector of a read-after-write check changed in its place. -/
def ChanSt.modRaw (c : ChanSt) (x : Psa) (f : Sector → Sector) : ChanSt :=
  { c with raw := c.raw.map (fun y => if y.psa == x then f y else y) }

/-- The samples of a sector written have come from reader B, WR_B_DELAY bits behind the writer (R118, R143): its taps stay as the
set holds them, and LANE_DROP, TIMING_SLIP or DECODER_BUSY leaves it untested. -/
def State.rawSamples (s : State) (p a : Nat) (x : Sector) (d : SectorSamples) : State :=
  let k := chanKey p a
  let (s, r) := s.readers p a d
  let c := s.getChan k
  let delay := (zoneOf (c.zone x.setNo)).delay
  let s := s.wr (Obj.READER_MODE p a) x.mode.code
  let ends := fun (s : State) (code : Nat) (f : Flag) =>
    (s.modChan k (fun c => c.modRaw x.psa (fun y => { y with abort := some code }))).raise (.ch p a) [f]
  if !spansWhole r.b x.spans delay then ends s 0x07 .CH_LANE_DROP
  else
    let x := { x with samples := x.behind r delay, set := x.set }
    let (f, os) := x.equalise false c.freq (setTaps x.set 80) (setTaps x.set 120)
    let (s, x, _) := s.judge p a x f os
    let s := s.modChan k (fun c => c.modRaw x.psa (fun _ => { x with samples := [] }))
    if f.slip then ends s 0x06 .CH_TIMING_SLIP
    else if 4 ≤ (s.getChan k).inFlight then ends s 0x08 .CH_DECODER_BUSY
    else s.modChan k (fun c => c.modRaw x.psa (fun y => { y with sampled := true }))

/-- SECTOR_SAMPLES_END: of the sector being read; with none, of the oldest sector written whose samples have not been taken. -/
def execSectorSamplesEnd (p : PortId) (a : ActId) (d : SectorSamples) (s : State) : Host.Outcome State Fault Refusal :=
  let c := s.getChan (chanKey p a)
  State.after (
    match c.rx with
    | some x => s.samplesEnd p a x d
    | none =>
      match c.raw.find? (fun x => !x.sampled && x.abort.isNone) with
      | some x => s.rawSamples p a x d
      | none => s)

/-! ## Decoding (R100, R101, R135, R136) -/

/-- The verdict on a code word in the settings of its sector (R100, R114, R135). -/
def State.decode (s : State) (p a : Nat) (x : Sector) : Verdict :=
  let q : FoldSet := { set := x.set, running := false, mode := x.mode, alt := x.alt }
  let trial := q.trial x.pieces (s.rd (Obj.LOCAL_ITER p a))
  if x.step = 6 then syncless x.psa trial (min 8 (s.rd (Obj.RETRY_ITER_MAX p a))) (offsetsTo (s.rd (Obj.SYNCLESS_SPAN p a))) {}
  else
    verdict x.psa x.sync (search trial (s.rd (Obj.SEARCH_SCREEN_LIMIT p a))
      (s.rd (if x.step = 5 then Obj.RETRY_ITER_MAX p a else Obj.LINE_ITER_MAX p a)) (candidates x.sync) {})

/-- DECODE_COMPLETE (R101, R135, R136): the oldest code word in the decoder ends; the sector's bytes and result word are
posted, a miscorrection sets MISCORRECT, and a failing sector goes to the hold buffer and the ladder. -/
def execDecodeComplete (p : PortId) (a : ActId) (s : State) : Host.Outcome State Fault Refusal :=
  State.after (
    match (s.getChan (chanKey p a)).decoding with
    | [] => s
    | x :: rest =>
      (s.modChan (chanKey p a) (fun c => { c with decoding := rest })).sectorEnd p a x (s.decode p a x))

/-- A replay's outcome (R112, R114): the held samples through the channel in the settings of its step, or TIMING_SLIP, DECODER_BUSY
or PARAM_ERR with its bit. -/
def State.replayRun (s : State) (p a : Nat) (x : Sector) : State × Sector × Verdict × List Flag :=
  let c := s.getChan (chanKey p a)
  if c.bankUnfit then (s, x, verdictOf 0x0B, [.CH_PARAM_ERR])
  else
    let x := { x with set := c.activeBytes }
    let (f, os) := x.equalise (s.adapting p a) 0 (setTaps x.set 80) (setTaps x.set 120)
    let (s, x, _) := s.judge p a x f os
    if f.slip then (s, x, { code := 6, offset := x.sync }, [.CH_TIMING_SLIP])
    else if 4 ≤ c.inFlight then (s, x, { code := 8, offset := x.sync }, [.CH_DECODER_BUSY])
    else (s, x, s.decode p a x, [])

/-- REPLAY_COMPLETE (R112, R114): the replay in progress posts its result word with HELD set and moves the ladder on. -/
def execReplayComplete (p : PortId) (a : ActId) (s : State) : Host.Outcome State Fault Refusal :=
  State.after (
    match (s.getChan (chanKey p a)).replay with
    | none => s
    | some x =>
      let s := s.modChan (chanKey p a) (fun c => { c with replay := none })
      let (s, x, v, fs) := s.replayRun p a x
      s.replayEnd p a x v fs)

/-! ## Read-after-write checks (R143-R147) -/

/-- The verdict of a check that has become final: NOT_READ for a failed write, a code that shows the sector untested, or the
decoder's. -/
def State.rawVerdict (s : State) (p a : Nat) (x : Sector) : Verdict :=
  match x.abort with
  | some code => { code := code, offset := x.sync }
  | none => { s.decode p a x with data := [] }

/-- Whether a check passes (R143). -/
def State.rawPasses (s : State) (p a : Nat) (v : Verdict) : Bool :=
  v.code == 0 && decide (v.iters ≤ s.rd (Obj.RAW_ITER_LIMIT p a)) && decide (v.first ≤ s.rd (Obj.RAW_SYND_LIMIT p a))

/-- A sector written is due for its result: its samples have been taken, or it ended without. -/
def Sector.checkDue (x : Sector) : Bool := x.sampled || x.abort.isSome

/-- The check of a sector becomes final (R108, R143-R147): its result word is posted, and its fragment is checked, or failed and
rewritten or abandoned. -/
def State.rawFinal (s : State) (p a : Nat) (x : Sector) : State :=
  let v := s.rawVerdict p a x
  let s := (s.postResult p a x v).rawTake p a x v
  let s := match x.ticket with | some t => s.modChan (chanKey p a) (fun c => c.checkPosted t) | none => s
  let s := if x.abort.isNone then s.inc (Obj.RAW_CHECKED p a) else s
  let s := if v.flags.isEmpty then s else s.raise (.ch p a) v.flags
  let pass := s.rawPasses p a v
  let s := s.modPlan (chanKey p a) (fun l => if pass then { l with done := l.done + 1 } else { l with failed := l.failed + 1 })
  match (s.getChan (chanKey p a)).checks.find? (fun c => s.fragHas p c.spot c.sectors x.psa) with
  | some c => s.fragResult p a c pass (x.abort != some 0x0A)
  | none => s

/-- RAW_CHECK_COMPLETE (R143): the check of the oldest sector written becomes final, once its samples have been taken. -/
def execRawCheckComplete (p : PortId) (a : ActId) (s : State) : Host.Outcome State Fault Refusal :=
  State.conclude (
    match (s.getChan (chanKey p a)).raw with
    | [] => s
    | x :: rest =>
      if x.checkDue then (s.modChan (chanKey p a) (fun c => { c with raw := rest })).rawFinal p a x else s)

/-! ## Parameter sets and write entries (R105, R140) -/

/-- PARAM_LOAD_COMPLETE (R105): the set in the inactive bank passes its checks in time, or PARAM_ERR is set. -/
def execParamLoadComplete (p : PortId) (a : ActId) (late : Bool) (s : State) : Host.Outcome State Fault Refusal :=
  let c := s.getChan (chanKey p a)
  let b := c.set (c.nextSet.getD 0)
  let ok := !late && s.setOk p b
  State.after (
    if c.load ≠ .loading then s
    else
      let s := s.modChan (chanKey p a) (fun c =>
        ({ c with load := if ok then .ready else .failed, nextBytes := b, nextBad := !ok, psetReady := ok, psetErr := !ok } : ChanSt).trySwap)
      if ok then s else s.raise (.ch p a) [.CH_PARAM_ERR])

/-- WRSET_TIMEOUT (R140): the entries are not acknowledged 2 µs before the first gate: every write of the item fails and
TABLE_ERR is set. -/
def execWrsetTimeout (p : PortId) (a : ActId) (s : State) : Host.Outcome State Fault Refusal :=
  let c := s.getChan (chanKey p a)
  State.after (
    if c.wrSent && !c.wrAck then
      (s.modChan (chanKey p a) (fun c => { c with wrFail := true })).raise (.wr p a) [.WR_TABLE_ERR]
    else s)

end Sys2Proof.Machine
end

