-- ==== Sys2Proof/Machine/KvOps.lean ====
section
/-! DEFINITION. What the key-value commands do once they hold a slot of the command table, on the module that owns the
namespace (R281, R282, R308, R340, R346-R348), the background work of the object service (R316, R325-R327), and what
members hold (R321-R323). -/

namespace Sys2Proof.Machine

/-! ## Key-value commands -/

/-- Retrieve (R20, R285, R318, R340, R346, R347): the value as the command observes it at its entry; the chunks of a stored value are
read. -/
def State.runRetrieve (s : State) (t : CmdTag) (ns : Nat) (key : List Byte) (len : Nat) : State :=
  match s.kvRefusal ns (some key) false false with
  | some o => s.complete t o
  | none =>
    match s.observe ns key with
    | .absent => s.complete t .keyNotFound
    | .pendingStore c =>
      (s.modCmd c.tag (fun c => { c with observed := true })).complete t .success c.value.length (c.value.take len)
    | .stored v =>
      if v.lost then s.complete t .dataLost
      else if s.mode.cur = .bringUp && v.chunks.any (fun n => !decodable (s.sorus n).profile (s.sorus n).k (s.unread (s.sorus n))) then
        s.complete t .notReady
      else if v.chunks.isEmpty then s.complete t .success v.len []
      else
        let s := s.modCmd t (fun c => { c with kind := .retrieve, ns := ns, key := key, limit := len, desc := some v, waits := v.chunks })
        s.forEach v.chunks (fun s n => s.readWant n id)

/-- Delete (R308, R346): KEY_NOT_FOUND, or its record is staged in its turn. -/
def State.runDelete (s : State) (t : CmdTag) (ns : Nat) (key : List Byte) : State :=
  match s.kvRefusal ns (some key) true true with
  | some o => s.complete t o
  | none =>
    if s.present ns key then (s.modCmd t (fun c => { c with kind := .delete, ns := ns, key := key })).settleCmds
    else s.complete t .keyNotFound

/-- Exist (R340). -/
def State.runExist (s : State) (t : CmdTag) (ns : Nat) (key : List Byte) : State :=
  match s.kvRefusal ns (some key) false false with
  | some o => s.complete t o
  | none => s.complete t (if s.present ns key then .success else .keyNotFound)

/-- A key put in its place in a rising list without repeats. -/
def insertKey (k : List Byte) : List (List Byte) → List (List Byte)
  | [] => [k]
  | a :: t => if k == a then a :: t else if keyLe k a then k :: a :: t else a :: insertKey k t

/-- The keys of a namespace that a command observes, in the order of R282. -/
def State.keysOf (s : State) (ns : Nat) : List (List Byte) :=
  let index := (s.os.values ns).map ValueDesc.key
  let table := (s.cmds.filter (fun (c : HostCmd) => c.kind == .store && c.ns == ns)).map HostCmd.key
  (table.foldl (fun l k => insertKey k l) index).filter (fun k => s.present ns k)

/-- One key of List data: its length in two bytes, its bytes, padding to a multiple of four (PRESUMED: the list data format
of the Key Value Command Set). -/
def listEntry (k : List Byte) : List Byte := leBytes 2 k.length ++ k ++ List.replicate ((4 - (k.length + 2) % 4) % 4) 0

/-- The keys that fit in a number of bytes, from the first on. -/
def keysFit : Nat → List (List Byte) → List (List Byte)
  | _, [] => []
  | room, k :: t => if (listEntry k).length ≤ room then k :: keysFit (room - (listEntry k).length) t else []

/-- List (R282, R340): a count in four bytes, then the keys from the given one on that fit. -/
def State.runList (s : State) (t : CmdTag) (ns : Nat) (key : List Byte) (len : Nat) : State :=
  match s.kvRefusal ns (some key) false false with
  | some o => s.complete t o
  | none =>
    let ks := keysFit (len - 4) ((s.keysOf ns).filter (fun k => keyLe key k))
    s.complete t .success 0 ((leBytes 4 ks.length ++ ks.flatMap listEntry).take len)

/-- Whether the mode serves I/O commands (R29, R351). -/
def State.ioServed (s : State) : Bool :=
  match s.mode.cur with
  | .frond | .frondDegraded | .drain | .switchover => true
  | .bringUp => s.rd Obj.REDUCED_SERVICE == 1
  | _ => false

/-- Flush of one namespace, or of all with the modules it is forwarded to (R348, R460). -/
def State.runFlush (s : State) (t : CmdTag) (ns : Nat) (all : Bool) (mods : List Nat) : State :=
  let refusal := if all then
      (if s.os.mode = .indexUnavailable then some Outcome.indexUnavailable else if s.ioServed then none else some .notReady)
    else s.kvRefusal ns none false false
  match refusal with
  | some o => s.complete t o
  | none =>
    let s := if all then s.sealPacks else s.sealPack ns
    (s.modCmd t (fun c => { c with kind := .flush, ns := ns, all := all, waits := mods })).settleCmds

/-! ## Namespaces (R279, R354) -/

/-- NS_STATE changed; Namespace Attribute Changed when it passes between UNUSED and ACTIVE (R354). -/
def State.nsTo (s : State) (n v : Nat) : State :=
  ({ s with os := { s.os with nsState := mapPut (fun _ => 0) s.os.nsState n v } } : State).aenAll 0x100 { ty := 2, info := 0, log := 4 }

/-- The index entries of a namespace removed; their soruses become dead where nothing else references them. -/
def State.dropNamespace (s : State) (n : Nat) : State :=
  let old := (s.os.values n).flatMap ValueDesc.chunks
  let s := s.setValues n []
  let s := { s with os := { s.os with soruses := s.os.soruses.map (fun (e : Nat × SorusSt) =>
    if e.2.packing && e.2.ns = n then (e.1, { e.2 with packing := false, dead := true }) else e) } }
  (s.forEach old (fun s k => if s.os.live k = 0 then s.modSorus k (fun x => { x with dead := true }) else s)).nsCounts

/-! ## Rebuild (R316, R317, R319, R329) -/

/-- Whether a sorus is already being replaced or repacked. -/
def OsSt.moving (o : OsSt) (n : Nat) : Bool :=
  o.reads.any (fun e => e.1 == n && (e.2.copy || e.2.repack)) || o.soruses.any (fun e => !e.2.dead && (e.2.replaces == some n || e.2.moves.any (fun m => m.2.1 == n)))

/-- Whether one sorus comes before another: lower margin, then older band set (R316). -/
def rebuildBefore (a b : SorusSt) : Bool :=
  decide (a.margin < b.margin) || a.margin == b.margin && decide ((a.sid.getD (0, 0)).1 < (b.sid.getD (0, 0)).1)

/-- The sorus to rebuild or repair next. -/
def State.nextRepair (s : State) : Option Nat :=
  (s.os.repair.filter (fun n => !(s.sorus n).dead && !(s.sorus n).lost && !s.os.moving n)).foldl
    (fun (best : Option Nat) n =>
      match best with
      | none => some n
      | some b => if rebuildBefore (s.sorus n) (s.sorus b) then some n else some b) none

/-- Whether rebuild and compaction may run (R29, R319): in Frond and Frond-degraded, not read-only, with the width. -/
def State.backgroundRuns (s : State) : Bool :=
  (s.mode.cur == .frond || s.mode.cur == .frondDegraded) && decide (13 ≤ s.healthy) && decide (13 ≤ s.width) &&
  s.os.mode != .indexUnavailable

/-- The next rebuild or repair begins with the read of its chunk (R316); repair comes after compaction while bands are short
(R327). -/
def State.repairBegin (s : State) : State :=
  match s.nextRepair with
  | none => s
  | some n => if (s.sorus n).missing = 0 && s.os.compacting && s.bandsShort then s else s.readWant n (fun r => { r with copy := true })

/-- A rebuilt sorus that waits finds no band set to be written to: rebuild is blocked (R329). -/
def State.blockedStep (s : State) : State :=
  let t := s.closeSets.openSets
  if t.os.sets.any BandSet.isOpen || !s.os.queue.any (fun n => (s.sorus n).replaces.isSome) then
    { t with os := { t.os with blocked := false } }
  else if s.os.blocked then s
  else ({ s with os := { s.os with blocked := true } } : State).raise .os [.OS_REBUILD_BLOCKED]

/-- A step of rebuild and repair (R316, R319, R329). -/
def State.rebuildStep (s : State) : State := if s.backgroundRuns then s.repairBegin.blockedStep else s

/-- R320. -/
def State.rebuildComplete (s : State) : Bool :=
  s.os.soruses.all (fun e => e.2.dead || e.2.lost || e.2.missing == 0) &&
  s.os.members.all (fun e => e.2.state != .lost) &&
  (List.range 16).all (fun p => (s.getPort p).state != .ready || (s.os.slotOf p).isSome)

/-! ## Compaction (R324-R327) -/

/-- Whether a sorus counts for its band set: written and not dead, with a reference in the index or in the table. -/
def State.holds (s : State) (n : Nat) (x : SorusSt) : Bool :=
  !x.dead && (x.index || !x.sealed || decide (0 < s.os.live n) || s.cmds.any (fun (c : HostCmd) => c.chunks.contains n))

/-- The soruses of a band set. -/
def OsSt.inSet (o : OsSt) (no : Nat) : List (Nat × SorusSt) :=
  o.soruses.filter (fun e => (e.2.sid.map Prod.fst) == some no)

/-- Positions of a set held by live soruses. -/
def State.liveOf (s : State) (no : Nat) : Nat :=
  (((s.os.inSet no).filter (fun e => s.holds e.1 e.2)).map (fun e => e.2.width * e.2.f)).sum

/-- Positions of a set. -/
def State.setSize (s : State) (t : BandSet) : Nat :=
  (t.bands.map (fun b =>
    let z := zoneOf ((s.getChan (chanKey b.port t.act)).zone (b.head * 32 + b.zone))
    z.bandTracks * z.spt)).sum

/-- The closed sets in ascending order of their live fraction: the first that still holds a sorus to move. -/
def State.nextSetToCompact (s : State) : Option BandSet :=
  let movable := fun (t : BandSet) => (s.os.inSet t.no).any (fun e => s.holds e.1 e.2 && e.2.sealed && !e.2.lost && !s.os.moving e.1)
  (s.os.sets.filter (fun t => !t.isOpen && movable t)).foldl (fun (best : Option BandSet) t =>
    match best with
    | none => some t
    | some b => if s.liveOf t.no * s.setSize b < s.liveOf b.no * s.setSize t then some t else some b) none

/-- A live sorus moved (R326): its chunk is read, to be written as a new sorus, or its live values packed again. -/
def State.moveSorus (s : State) (n : Nat) : State :=
  let x := s.sorus n
  if x.packed && decide (100 * s.os.live n < s.rd Obj.REPACK_LIMIT * x.records) then s.readWant n (fun r => { r with repack := true })
  else s.readWant n (fun r => { r with copy := true })

/-- The bands of the sets that hold no live sorus released (R153, R327), and their dead soruses' records with them. -/
def State.releaseSets (s : State) : State :=
  let busy := fun (t : BandSet) =>
    (s.os.inSet t.no).any (fun e => s.holds e.1 e.2 ||
      s.os.unprog.any (fun r => ((r.prev.map ValueDesc.chunks).getD []).contains e.1) || s.cmds.any (fun (c : HostCmd) => c.waits.contains e.1))
  s.forEach (s.os.sets.filter (fun t => !t.isOpen && !busy t)) (fun s t =>
    let s := s.forEach t.bands (fun s b =>
      let m : Member := mapGet (fun _ => {}) s.os.members b.slot
      let k := bandNo t.act b.head b.zone b.band
      let first := s.fragTrack b.port (b.spot t.act 0) - b.track
      let z := zoneOf ((s.getChan (chanKey b.port t.act)).zone (b.head * 32 + b.zone))
      let s := { s with os := { s.os with
        members := mapPut (fun _ => {}) s.os.members b.slot { m with used := m.used.filter (· != k) }
        frontiers := mapPut (fun _ => []) s.os.frontiers (bandSlotKey b.slot t.act b.head b.zone b.band) []
        bandSeqs := mapPut (fun _ => 0) s.os.bandSeqs (bandSlotKey b.slot t.act b.head b.zone b.band) 0 } }
      (s.inc Obj.BANDS_RELEASED).modChan (chanKey b.port t.act) (fun c => { c with
        headFails := mapPut (fun _ => 0) c.headFails k 0
        void := c.void.filter (fun x => !(x.head == b.head && decide (first ≤ x.track) && decide (x.track < first + z.bandTracks))) }))
    let gone := (s.os.inSet t.no).map Prod.fst
    { s with os := { s.os with
      sets := s.os.sets.filter (fun (b : BandSet) => b.no != t.no)
      repair := s.os.repair.filter (fun n => !gone.contains n)
      soruses := s.os.soruses.filter (fun e => !gone.contains e.1) } })

/-- Rebuild, or repair where it ranks higher, comes before compaction (R327). -/
def State.repairFirst (s : State) : Bool :=
  match s.nextRepair with
  | some n => (s.sorus n).missing != 0 || !s.bandsShort
  | none => false

/-- Whether compaction runs (R325): from when a writable member has fewer than FREE_BANDS_LOW free bands until every member has twice
as many. -/
def State.compacts (s : State) : Bool :=
  let low := s.rd Obj.FREE_BANDS_LOW
  (s.os.members.filter (fun e => s.memberWritable e.2)).any (fun e => decide (e.2.free < low)) ||
  (s.os.compacting && (s.os.members.filter (fun e => e.2.state = .active)).any (fun e => decide (e.2.free < 2 * low)))

/-- The sets that hold nothing live released, and whether compaction runs after it. -/
def State.compactMark (s : State) : State :=
  { s.releaseSets with os := { s.releaseSets.os with compacting := s.releaseSets.compacts } }

/-- The next sorus of the set to compact moved, where compaction runs and rebuild does not come first. -/
def State.compactMove (s : State) : State :=
  if !s.os.compacting || !s.backgroundRuns || s.repairFirst then s
  else
    match s.nextSetToCompact with
    | none => s
    | some t =>
      match (s.os.inSet t.no).find? (fun e => s.holds e.1 e.2 && e.2.sealed && !e.2.lost && !s.os.moving e.1) with
      | some e => s.moveSorus e.1
      | none => s

/-- One step of compaction (R325-R327). -/
def State.compactStep (s : State) : State := s.compactMark.compactMove

/-! ## Checkpoint (R309) -/

/-- JOURNAL_USE: percent of the index journal area of the unit holding TOKEN in use (R331, R554). -/
def State.journalUse (s : State) : Nat := min 100 (100 * s.os.journal / (65536 * s.rd (Obj.JOURNAL_BLOCKS s.pair.active)))

/-- A checkpoint is due (R309): CHECKPOINT_INTERVAL has passed, or the journal area is half full. -/
def State.checkpointDue (s : State) : Bool :=
  decide (s.os.checkAt + 1000 * s.rd Obj.CHECKPOINT_INTERVAL ≤ s.now) || decide (50 ≤ s.journalUse)

/-- A checkpoint: changed nodes and records go into a new index sorus that replaces the last one; the root is written with the
next CHECKPOINT_SEQ to the journal and to the system records of every writable member; the journal records before it are free once
every present unit has programmed it. How many sectors the nodes fill is a free value. -/
def State.checkpoint (s : State) : State :=
  if !s.checkpointDue || !((s.mode.cur == .frond || s.mode.cur == .frondDegraded) && decide (13 ≤ s.width)) || s.os.mode = .indexUnavailable then s
  else
    let old := (s.os.soruses.find? (fun e => e.2.index && !e.2.dead && !s.os.moving e.1)).map Prod.fst
    let (c, s) := s.next
    let (n, s) := s.newSorus { index := true, profile := 1, slack := 1, n := 1 + (Config.indexSectors c).val, replaces := old }
    let s := s.queueSorus n
    let s := s.inc Obj.CHECKPOINT_SEQ
    let s := { s with os := { s.os with
      checkAt := s.now, rootOlder := s.os.journal
      members := s.os.members.map (fun (e : Nat × Member) =>
        (e.1, if s.memberWritable e.2 then { e.2 with root := s.rd Obj.CHECKPOINT_SEQ } else e.2)) } }
    (s.stage1 { kind := .root, size := recordBytes [] [], need := s.journalUnits }).settleCmds

/-! ## Members (R321-R323) -/

/-- Bands and band positions of an actuator of a port, from its zone table (R151). -/
def State.actBands (s : State) (p a : Nat) : Nat × Nat :=
  ((List.range (s.rd (Obj.HEADS_PER_ACTUATOR p))).flatMap (fun h => (List.range 32).map (fun z => (h, z)))).foldl
    (fun (n, q) (h, zn) =>
      let z := zoneOf ((s.getChan (chanKey p a)).zone (h * 32 + zn))
      let b := z.bands h zn
      (n + b, q + b * (z.bandTracks * z.spt))) (0, 0)

/-- Bands and band positions of the HDA of a port. -/
def State.hdaBands (s : State) (p : Nat) : Nat × Nat :=
  (List.range (s.rd (Obj.ACTUATOR_COUNT p))).foldl (fun (n, q) a => let (m, r) := s.actBands p a; (n + m, q + r)) (0, 0)

/-- A member slot replaced. -/
def State.putMember (s : State) (slot : Nat) (m : Member) : State :=
  { s with os := { s.os with members := mapPut (fun _ => {}) s.os.members slot m } }

/-- A new member (R323): the lowest free slot; with all 32 in use the HDA is not accepted. -/
def State.newMember (s : State) (p : Nat) : State :=
  match (List.range 32).find? (fun i => (mapGet (fun _ => ({} : Member)) s.os.members i).state == .free) with
  | none => s
  | some i =>
    let s := s.inc Obj.MEMBER_EPOCH
    let (b, q) := s.hdaBands p
    s.putMember i { state := .active, serial := s.rdBlob (Obj.HDA_SERIAL p), port := some p, epoch := s.rd Obj.MEMBER_EPOCH
                    bands := b, positions := q, fresh := true }

/-- A returning member (R322): its fragments are present again, and its bands that hold no live fragment are freed (R153). -/
def State.memberBack (s : State) (slot p : Nat) : State :=
  let m : Member := mapGet (fun _ => {}) s.os.members slot
  let s := s.forEach (s.os.soruses.map Prod.fst) (fun s n =>
    let x := s.sorus n
    if x.dead then s
    else
      let mask := (x.frags.filter (fun f => f.2.slot = slot)).foldl (fun m f => m ||| 2 ^ f.1) 0
      if x.missing &&& mask = 0 then s
      else s.modSorus n (fun x => { x with missing := x.missing &&& (0xFFFF - mask) }))
  let s := { s with os := { s.os with repair := s.os.repair.filter (fun n => (s.sorus n).missing ≠ 0) } }
  let kept := m.used.filter (fun k => s.os.soruses.any (fun e => !e.2.dead && e.2.frags.any (fun f =>
    decide (f.2.slot = slot) && bandNo f.2.act f.2.head f.2.zone f.2.band == k)))
  let freed := fun (k : Nat) => decide (k / 2 ^ 40 = slot) && !kept.contains (k % 2 ^ 40)
  let s := { s with os := { s.os with
    frontiers := s.os.frontiers.filter (fun e => !freed e.1)
    bandSeqs := s.os.bandSeqs.filter (fun e => !freed e.1)
    sets := s.os.sets.map (fun (t : BandSet) => { t with
      bands := t.bands.filter (fun b => !freed (bandSlotKey b.slot t.act b.head b.zone b.band)) }) } }
  s.putMember slot { m with state := .active, port := some p, used := kept, fresh := false }

/-- The classification of R321 for a READY port: the member whose slot is ACTIVE there stays; any other HDA stands in for one that is no
longer there. -/
def State.recognise (s : State) (p : Nat) (r : MemberRecord) : State :=
  let here := s.os.slotOf p
  if (s.getPort p).state ≠ .ready || (match r with | .own n => here == some n.val | _ => false) then s
  else
    let s := if here.isSome then s.hdaLost p else s
    match r with
    | .none => s.newMember p
    | .foreign => if s.rd Obj.FOREIGN_POLICY = 0 then s.raise .os [.OS_FOREIGN_HDA] else s.newMember p
    | .own slot =>
      match (mapGet (fun _ => ({} : Member)) s.os.members slot).state with
      | .lost => s.memberBack slot p
      | .active => s.raise .os [.OS_FOREIGN_HDA]
      | .free | .retired => s.newMember p

end Sys2Proof.Machine
end

