-- ==== Sys2Proof/Machine/ObjectService.lean ====
section
/-! DEFINITION. The object service's commands (R278-R332, R340, R348): key-value commands as a controller submits them, the
waits of the object service, rebuild, compaction, checkpoint and members. -/

namespace Sys2Proof.Machine

/-! ## Entry of an I/O command (R334, R341, R342, R351, R454, R459) -/

/-- The module and the namespace of an NSID (R341). -/
def nsidOf (nsid : Nat) : Option (Nat × Nat) :=
  if nsid = 0 ∨ 1024 < nsid then none else some ((nsid - 1) / 16, (nsid - 1) % 16)

/-- A command of a controller runs: it is fetched when it is not in the table yet, it waits there while the table is held (R29, R353), and one
that runs already is left alone. -/
def State.begin (s : State) (t : CmdTag) (len : Nat) (f : State → State) : State :=
  if s.cmds.any (fun (c : HostCmd) => c.tag == t && c.kind != .waiting) then s
  else
    let (s, ok) := s.fetch t len
    if !ok || s.postsHeld then s else f s

/-- Whether every I/O command that entered the table before a command runs already: commands to one key take effect in entry order
(R346). -/
def State.inTurn (s : State) (t : CmdTag) : Bool :=
  (s.cmds.takeWhile (fun (c : HostCmd) => c.tag != t)).all (fun c => c.kind != .waiting || c.tag.sq == 0)

/-- An I/O command runs (`begin`) in its turn; it waits in the table until those before it run. -/
def State.beginIo (s : State) (t : CmdTag) (len : Nat) (f : State → State) : State :=
  s.begin t len (fun s => if s.inTurn t then f s else s)

/-- A key-value command forwarded to a cascaded module as CMD (R459). -/
def State.forwardKv (s : State) (t : CmdTag) (m : Nat) (c : KvSub) (value : List Byte) : State :=
  let tag := s.casc.nextTag
  let s := { s with casc := { s.casc with nextTag := tag + 1 } }
  (s.modCmd t (fun h => { h with kind := .forwarded, target := some m, fwdTag := tag, value := value, need := value.length, limit := c.len })).send
    (.cmd c) m tag

/-- An I/O command on an NSID: on the module's own namespace, forwarded, or failed when its module is not reachable (R341,
R458, R462). -/
def State.onNsid (s : State) (t : CmdTag) (nsid : Nat) (c : KvSub) (value : List Byte) (own : Nat → State → State) : State :=
  if s.casc.role = .isolated then s.complete t .notReady
  else
    match nsidOf nsid with
    | none => s.complete t .nsUnused
    | some (0, n) => own n s
    | some (m, n) =>
      let e := mapGet (fun _ => ({} : TreeModule)) s.casc.table m
      if s.casc.role ≠ .root || !e.used || s.casc.dropped.contains m then s.complete t .nsUnused
      else if !e.reachable then s.complete t .notReady
      else s.forwardKv t m { c with ns := n } value

/-! ## Key-value commands (R340) -/

/-- STORE (R281, R308, R340). -/
def execStore (t : CmdTag) (nsid : Nat) (key value : List Byte) (opt : StoreOpt) (hint : Option CompressMode) (s : State) :
    Host.Outcome State Fault Refusal :=
  State.conclude (s.beginIo t value.length (fun s =>
    s.onNsid t nsid { op := .store, ns := 0, key := key, len := value.length, opt := opt, hint := hint } value
      (fun n s => s.runStore t n key value opt (hint.getD (compressionOf (s.rd (Obj.COMPRESSION n)))))))

/-- RETRIEVE (R20, R285, R340). -/
def execRetrieve (t : CmdTag) (nsid : Nat) (key : List Byte) (len : Nat) (s : State) : Host.Outcome State Fault Refusal :=
  State.conclude (s.beginIo t 0 (fun s =>
    s.onNsid t nsid { op := .retrieve, ns := 0, key := key, len := len } [] (fun n s => s.runRetrieve t n key len)))

/-- DELETE (R308, R346). -/
def execDelete (t : CmdTag) (nsid : Nat) (key : List Byte) (s : State) : Host.Outcome State Fault Refusal :=
  State.conclude (s.beginIo t 0 (fun s =>
    s.onNsid t nsid { op := .delete, ns := 0, key := key } [] (fun n s => s.runDelete t n key)))

/-- EXIST (R340). -/
def execExist (t : CmdTag) (nsid : Nat) (key : List Byte) (s : State) : Host.Outcome State Fault Refusal :=
  State.conclude (s.beginIo t 0 (fun s =>
    s.onNsid t nsid { op := .exist, ns := 0, key := key } [] (fun n s => s.runExist t n key)))

/-- LIST (R282, R340). -/
def execList (t : CmdTag) (nsid : Nat) (key : List Byte) (len : Nat) (s : State) : Host.Outcome State Fault Refusal :=
  State.conclude (s.beginIo t 0 (fun s =>
    s.onNsid t nsid { op := .list, ns := 0, key := key, len := len } [] (fun n s => s.runList t n key len)))

/-- The modules a Flush of every namespace goes to (R460). -/
def State.flushMods (s : State) : List Nat :=
  if s.casc.role = .root then
    (s.casc.table.filter (fun e => e.1 ≠ 0 && e.2.used && e.2.reachable && !s.casc.dropped.contains e.1)).map Prod.fst
  else []

/-- FLUSH (R348, R460): of one namespace, or with NSID FFFFFFFFh of every active namespace of the tree. -/
def execFlush (t : CmdTag) (nsid : Nat) (s : State) : Host.Outcome State Fault Refusal :=
  State.conclude (s.beginIo t 0 (fun s =>
    if nsid = 0xFFFFFFFF then
      if s.casc.role = .isolated then s.complete t .notReady
      else
        let mods := s.flushMods
        let tag := s.casc.nextTag
        let s := if mods.isEmpty then s else { s with casc := { s.casc with nextTag := tag + 1 } }
        let s := s.forEach mods (fun s m => s.send (.cmd { op := .flush, ns := 0, all := true }) m tag)
        (s.modCmd t (fun c => { c with fwdTag := tag })).runFlush t 0 true mods
    else s.onNsid t nsid { op := .flush, ns := 0 } [] (fun n s => s.runFlush t n false [])))

/-! ## Namespaces (R279) -/

/-- NS_CREATE (R279). -/
def execNsCreate (q : Requester) (u : UnitId) (n : Fin 16) (s : State) : Host.Outcome State Fault Refusal :=
  .next (s.tryKey q u (Obj.NS_COMMAND n) [1] (if s.os.nsStateOf n = 0 then 0 else 0x09) (fun s => s.nsTo n 1))

/-- DELETE written to NS_COMMAND: DELETING at once (R279). -/
def State.nsDelete (s : State) (n : Nat) : State := { s with os := { s.os with nsState := mapPut (fun _ => 0) s.os.nsState n 2 } }

/-- NS_DELETE (R279). -/
def execNsDelete (q : Requester) (u : UnitId) (n : Fin 16) (s : State) : Host.Outcome State Fault Refusal :=
  .next (s.tryKey q u (Obj.NS_COMMAND n) [2] (if s.os.nsStateOf n = 1 then 0 else 0x09) (fun s => s.nsDelete n))

/-- NS_DELETION_COMPLETE (R279): the background removal ends, once no Store or Delete of the namespace is in the table. -/
def execNsDeletionComplete (n : Fin 16) (s : State) : Host.Outcome State Fault Refusal :=
  .next (
    if s.os.nsStateOf n ≠ 2 || s.cmds.any (fun (c : HostCmd) => (c.kind == .store || c.kind == .delete) && c.ns == n.val) then s
    else (s.dropNamespace n).nsTo n 0)

/-! ## Waits of the object service -/

/-- PACK_WAIT_EXPIRY (R289): PACK_WAIT has passed since the first record of the open packing chunk. -/
def execPackWaitExpiry (n : Fin 16) (s : State) : Host.Outcome State Fault Refusal :=
  .next (match s.os.openPack n with
    | some k => if (s.sorus k).since + (s.sorus k).packWait ≤ s.now then s.sealPack n else s
    | none => s)

/-- The sorus of a SORUS_ID. -/
def OsSt.byId (o : OsSt) (set seq : Nat) : Option Nat :=
  (o.soruses.find? (fun e => e.2.sid == some (set, seq))).map Prod.fst

/-- The late fragments of a sealed sorus abandoned (R313), LATE_LIMIT sweeps after the seal, counted as sweep-reference edges. -/
def State.lateLimit (s : State) (n : Nat) : State :=
  let x := s.sorus n
  if !x.sealed || decide (s.rd Obj.SWEEP_COUNT < x.sealedAt + s.rd Obj.LATE_LIMIT) then s
  else
    let late := (x.frags.map Prod.fst).filter (fun f => !x.checked.testBit f && !x.missing.testBit f)
    let s := { s with chan := s.chan.map (fun (e : Nat × ChanSt) =>
      (e.1, { e.2 with checks := e.2.checks.filter (fun (c : FragCheck) => c.sorus != n) })) }
    (s.forEach late (fun s f => s.fragMissing n f)).releaseChunk n

/-- LATE_LIMIT_EXPIRY (R313). -/
def execLateLimitExpiry (set : Nat) (seq : Nat) (s : State) : Host.Outcome State Fault Refusal :=
  State.conclude (match s.os.byId set seq with | some n => s.lateLimit n | none => s)

/-- WIDTH_WAIT_EXPIRY (R319): a Store held for width fails with NO_WIDTH. -/
def execWidthWaitExpiry (t : CmdTag) (s : State) : Host.Outcome State Fault Refusal :=
  State.conclude (
    if s.cmds.any (fun (c : HostCmd) => c.tag == t && c.kind == .store && c.held && decide (c.heldAt + 1000 * s.rd Obj.WIDTH_WAIT ≤ s.now)) &&
        decide (s.width < 13) then
      (s.complete t .notReady).settleCmds
    else s)

/-- STAGING_ACK (R307): the standby has staged a command's record. -/
def execStagingAck (t : CmdTag) (s : State) : Host.Outcome State Fault Refusal :=
  State.conclude (
    if s.cmds.any (fun (c : HostCmd) => c.tag == t && c.ackDue) then (s.modCmd t (fun c => { c with ackDue := false })).settleCmds
    else s)

/-- SORUS_DECODE_COMPLETE (R297, R318): the coder has rebuilt the missing columns of a chunk being read from a decodable set of
fragments delivered, and a ladder of one of its sectors goes on with held samples only (R116); a sorus that cannot be decoded has
lost its chunk. -/
def execSorusDecodeComplete (set : Nat) (seq : Nat) (s : State) : Host.Outcome State Fault Refusal :=
  State.conclude (
    match s.os.byId set seq with
    | none => s
    | some n =>
      let x := s.sorus n
      if x.lost || !decodable x.profile x.k x.missing then s.chunkLost n
      else if !s.os.reads.any (fun e => e.1 == n && x.decodes (e.2.there x.f)) then s
      else
        let s := s.forEach x.frags (fun s f =>
          match (mapGet (fun _ => ({} : Member)) s.os.members f.2.slot).port with
          | none => s
          | some p => s.ladderRebuilt p f.2.act (fun y => s.fragHas p f.2 x.f y))
        s.coderDone n)

/-! ## Background work -/

/-- REBUILD_STEP (R316). -/
def execRebuildStep (s : State) : Host.Outcome State Fault Refusal := State.conclude s.rebuildStep

/-- CHECKPOINT (R309). -/
def execCheckpoint (s : State) : Host.Outcome State Fault Refusal := .next s.checkpoint

/-- COMPACTION_STEP (R325-R327). -/
def execCompactionStep (s : State) : Host.Outcome State Fault Refusal := State.conclude s.compactStep

/-- MEMBER_RECOGNITION (R321-R323). -/
def execMemberRecognition (p : PortId) (r : MemberRecord) (s : State) : Host.Outcome State Fault Refusal :=
  State.conclude ((s.recognise p r).osRefresh)

/-- INDEX_RECOVERY_COMPLETE (R310, R435): the recovery in progress ends and reduced service starts, or no root can be read and
the index is unavailable. -/
def execIndexRecoveryComplete (ok : Bool) (s : State) : Host.Outcome State Fault Refusal :=
  State.conclude (
    if s.os.mode ≠ .recovering then s
    else if ok then
      let s := { s with os := { s.os with mode := .reduced, recovered := true } }
      if s.mode.cur = .bringUp then (s.wr Obj.REDUCED_SERVICE 1).wr Obj.T_REDUCED s.now else s
    else
      ({ s with os := { s.os with mode := .indexUnavailable, recovered := true } }.raise .os [.OS_INDEX_UNAVAILABLE]).deferredError 0x03 0)

end Sys2Proof.Machine
end

