-- ==== Sys2Proof/Machine/Cascade.lean ====
section
/-! DEFINITION. The cascade: Griug links, the role of the module, enumeration, spin-up tokens and what crosses the tree for
commands (R439-R462). -/

namespace Sys2Proof.Machine

/-! ## Reachability of subtrees (R458, R462) -/

/-- The modules below a downstream port of a module, by the table of the root: those at the port, and theirs. -/
def subtree (t : Map TreeModule) : Nat → Nat → Nat → List Nat
  | 0, _, _ => []
  | n + 1, m, port =>
    let at_ := (t.filter (fun e => e.2.used && e.1 != 0 && e.2.parent == m && e.2.port == port)).map Prod.fst
    at_ ++ at_.flatMap (fun k => subtree t n k 0 ++ subtree t n k 1)

/-- The subtree at a port, at most six levels deep (R455). -/
def CascSt.below (c : CascSt) (m port : Nat) : List Nat := subtree c.table 6 m port

/-- An entry of the root's table changed. -/
def State.modTable (s : State) (m : Nat) (f : TreeModule → TreeModule) : State :=
  { s with casc := { s.casc with
      table := mapPut (fun _ => {}) s.casc.table m (f (mapGet (fun _ => {}) s.casc.table m)) } }

/-- Namespace Attribute Changed for the namespaces of a cascaded module (R354, R458). -/
def State.nsNotice (s : State) : State := s.aenAll 0x100 { ty := 2, info := 0, log := 4 }

/-- Modules reached again: their namespaces become active where they had become inactive. -/
def State.reached (s : State) (ms : List Nat) : State :=
  let back := ms.any (fun m => s.casc.dropped.contains m)
  let s := s.forEach ms (fun s m => s.modTable m (fun e => { e with reachable := true }))
  let s := { s with casc := { s.casc with dropped := s.casc.dropped.filter (fun m => !ms.contains m) } }
  if back then s.nsNotice else s

/-- Forwarded commands to modules that cannot be reached complete with Transient Transport Error (R462). -/
def State.transportError (s : State) (ms : List Nat) : State :=
  let hit := fun (c : HostCmd) =>
    (c.kind == .forwarded && (match c.target with | some m => ms.contains m | none => false)) ||
    (c.kind == .flush && c.all && c.waits.any (fun m => ms.contains m))
  (s.forEach (s.cmds.filter hit) (fun s c => s.completeWith c.tag 0 0x22 false 0 0 [])).settleCmds

/-- GRIUG_HOLD_EXPIRY (R462): at the root, of a hop of its own whose links have been down for GRIUG_HOLD, or of a hop deeper in the tree. -/
def execGriugHoldExpiry (m : Nat) (port : Fin 2) (s : State) : Host.Outcome State Fault Refusal :=
  State.conclude (
    if s.casc.role ≠ .root || (m = 0 && !(s.casc.downHops.contains (port + 1) &&
        decide (mapGet (fun _ => 0) s.casc.downAt (port + 1) + 1000 * s.rd Obj.GRIUG_HOLD ≤ s.now))) then s
    else
      let ms := (s.casc.below m port).filter (fun k => (mapGet (fun _ => ({} : TreeModule)) s.casc.table k).reachable)
      if ms.isEmpty then s
      else
        let s := s.forEach ms (fun s k => s.modTable k (fun e => { e with reachable := false, lostAt := s.now }))
        (s.transportError ms).raise .casc [.CASC_SUBTREE_LOST])

/-- GRIUG_DROP_EXPIRY (R458, R462): the namespaces of the subtree become inactive once it has been unreachable for GRIUG_DROP. -/
def execGriugDropExpiry (m : Nat) (port : Fin 2) (s : State) : Host.Outcome State Fault Refusal :=
  State.conclude (
    let ms := (s.casc.below m port).filter (fun k =>
      let e := mapGet (fun _ => ({} : TreeModule)) s.casc.table k
      !e.reachable && !s.casc.dropped.contains k && decide (e.lostAt + 1000 * s.rd Obj.GRIUG_DROP ≤ s.now))
    if s.casc.role ≠ .root || ms.isEmpty then s
    else ({ s with casc := { s.casc with dropped := s.casc.dropped ++ ms } } : State).nsNotice)

/-! ## The role of the module (R454) -/

/-- An upstream link is trained. -/
def State.upstream (s : State) : Bool := (s.hopUnit 0).isSome

/-- A downstream port as this module sees it: its partner by the link of the unit that carries the hop. -/
def State.partnerAt (s : State) (port : Nat) : PartnerSeen :=
  match s.hopUnit (port + 1) with
  | some u =>
    match (s.link u (port + 1)).ident with
    | some i => .partner i.serial i.tokens
    | none => .none
  | none =>
    if [UnitId.A, UnitId.B].any (fun u => (s.link u (port + 1)).st == .training) then .training else .none

/-- A query of a level at the root (R455): its own ports it sees itself, the others answer. -/
def State.queryLevel (s : State) (level : List Nat) : State :=
  s.forEach (level.filter (· ≠ 0)) (fun s m => s.send .enumQuery m)

/-- The module becomes the root (R444, R454, R455): number 0, an empty ledger in its hold, and enumeration of level 0. -/
def State.becomeRoot (s : State) : State :=
  let own : TreeModule := { serial := Config.moduleSerial, used := true, reachable := true }
  let e : EnumSt := { level := [0], depth := 0, queried := s.now, start := s.now, lastAssign := s.now }
  let s := { s with casc := { s.casc with
    role := .root, number := some 0, depth := some 0, table := [(0, own)], routes := [], dropped := [], rootless := false
    enumr := some e, enumDone := false, late := [], ledger := [], requests := [], asked := [], holdoff := true, holdFrom := s.now
    reported := [0] } }
  s.tokenAskAll

/-- A module whose ROOT strap is high becomes root once a host port of its has trained while no upstream link is trained. -/
def State.rootTry (s : State) : State :=
  if s.sup.straps.root && !s.upstream && s.casc.role != .root && s.casc.role != .member && s.sup.vin12 &&
      ((s.getCtrl 0).linkUp || (s.getCtrl 1).linkUp) then s.becomeRoot
  else s

/-- Modes in which the links of the module train (R427, R447, R462). -/
def linksTrain : Mode → Bool
  | .unpowered | .resetHold | .holdUp | .faultLatched => false
  | _ => true

/-- HOST_PORT_TRAINED (R336, R427, R454). -/
def execHostPortTrained (u : UnitId) (up : Bool) (s : State) : Host.Outcome State Fault Refusal :=
  State.conclude (
    if !up then s.ctrlDown u
    else if (s.getCtrl u.code).linkUp || !s.sup.vin12 || !linksTrain s.mode.cur || (s.unitSt u).inReset then s
    else (s.modCtrl u.code (fun c => { c with linkUp := true })).rootTry)

/-- ISOLATION_TIMEOUT (R454): a module with the strap low and no trained upstream link 100 ms after it reached Fiddlehead is isolated. -/
def execIsolationTimeout (s : State) : Host.Outcome State Fault Refusal :=
  State.conclude (
    if s.sup.straps.root || s.upstream || s.casc.role ≠ .undecided || !linksTrain s.mode.cur ||
        decide (s.now < s.rd Obj.T_FIDDLEHEAD + 100000) then s
    else { s with casc := { s.casc with role := .isolated } })

/-- An upstream link has trained (R454): the module is a member, whatever its strap. -/
def State.becomeMember (s : State) : State :=
  let s := if s.sup.straps.root then s.raise .casc [.CASC_ROOT_CONFLICT] else s
  if s.casc.role = .member then s
  else
    { s with casc := { s.casc with
      role := .member, number := none, depth := none, table := [], routes := [], dropped := [], enumr := none, enumDone := false, late := []
      ledger := [], requests := [], asked := [], holdoff := false, reported := [] } }

/-! ## Enumeration (R455-R457) -/

/-- The hop by which the root reaches a downstream port of a module. -/
def CascSt.hopVia (c : CascSt) (m port : Nat) : Nat := if m = 0 then port + 1 else mapGet (fun _ => 0xFF) c.routes m

/-- The number of a partner (R455, R457): the one its serial has in this run of the root, else the lowest free one. -/
def CascSt.numberFor (c : CascSt) (serial : List Byte) : Option Nat :=
  match c.table.find? (fun e => e.1 ≠ 0 && e.2.used && e.2.serial == serial) with
  | some e => some e.1
  | none => ((List.range 63).map (· + 1)).find? (fun n => !(mapGet (fun _ => ({} : TreeModule)) c.table n).used)

/-- The tokens a module reports enter the ledger (R444): each with the time it has left of its 14 s. -/
def State.reportTokens (s : State) (m : Nat) (tokens : List (Nat × Nat)) : State :=
  let new := tokens.filter (fun t => !s.casc.ledger.any (fun g => g.module = m && g.number = t.1))
  ({ s with casc := { s.casc with
      ledger := s.casc.ledger ++ new.map (fun t => ⟨t.1, m, s.now + t.2⟩)
      reported := if s.casc.reported.contains m then s.casc.reported else m :: s.casc.reported } } : State).serve

/-- A partner numbered (R455): its entry, its route and ENUM_ASSIGN to its parent, or to the partner itself at the root's own
port. The second part is its number. -/
def State.assign (s : State) (m port depth : Nat) (serial : List Byte) (tokens : List (Nat × Nat)) : State × Option Nat :=
  match s.casc.numberFor serial with
  | none => (s.raise .casc [.CASC_TREE_LIMIT], none)
  | some n =>
    let hop := s.casc.hopVia m port
    let s := s.modTable n (fun e => { e with serial := serial, parent := m, port := port, depth := depth, used := true })
    let s := { s with casc := { s.casc with routes := mapPut (fun _ => 0xFF) s.casc.routes n hop } }
    let s := s.reached [n]
    let s := if m = 0 then s.sendHop hop { body := .enumAssign port n depth, dest := 0xFE, src := 0 }
      else s.send (.enumAssign port n depth) m
    (s.reportTokens n tokens, some n)

/-- The partners of a level numbered in ascending order of their parents (R455). -/
def State.assignLevel (s : State) (e : EnumSt) : State × List Nat :=
  let ports := e.level.flatMap (fun m =>
    let seen := if m = 0 then (s.partnerAt 0, s.partnerAt 1) else mapGet (fun _ => (PartnerSeen.none, PartnerSeen.none)) e.seen m
    [(m, 0, seen.1), (m, 1, seen.2)])
  ports.foldl (fun (s, l) (m, port, p) =>
    match p with
    | .partner serial tokens =>
      let (s, n) := s.assign m port (e.depth + 1) serial tokens
      (s, match n with | some n => l ++ [n] | none => l)
    | _ => (s, l)) (s, [])

/-- The wait of a level ends (R455, R456): its partners are numbered, and the next level is queried, or enumeration is complete. -/
def State.levelDone (s : State) (e : EnumSt) : State :=
  let (s, new) := s.assignLevel e
  let last := if new.isEmpty then e.lastAssign else s.now
  if new.isEmpty || 6 ≤ e.depth + 1 then
    ({ s with casc := { s.casc with enumr := none, enumDone := true } } : State).wr Obj.ENUM_TIME (last - e.start)
  else
    let next : EnumSt := { level := new, depth := e.depth + 1, queried := s.now, start := e.start, lastAssign := last }
    ({ s with casc := { s.casc with enumr := some next } } : State).queryLevel new

/-- A module whose upstream link has trained after enumeration (R457): its number, LATE_JOIN, and its subtree enumerated; a module
that comes back is only reached again. -/
def State.lateJoin (s : State) (m : Nat) (ports : List (Nat × PartnerSeen)) : State :=
  let depth := (mapGet (fun _ => ({} : TreeModule)) s.casc.table m).depth + 1
  let (s, new) := ports.foldl (fun (x : State × List Nat) e =>
    let (s, l) := x
    match e.2 with
    | .partner serial tokens =>
      match (s.casc.table.find? (fun r => r.2.used && r.2.serial == serial && r.2.parent == m && r.2.port == e.1)).map Prod.fst with
      | some n =>
        if (mapGet (fun _ => ({} : TreeModule)) s.casc.table n).reachable then (s, l)
        else (((s.assign m e.1 depth serial tokens).1).reached (s.casc.below m e.1), l)
      | none =>
        if 6 < depth then (s, l)
        else
          let (s, n) := s.assign m e.1 depth serial tokens
          match n with
          | none => (s, l)
          | some n => ((s.raise .casc [.CASC_LATE_JOIN]).nsNotice, l ++ [n])
    | _ => (s, l)) (s, [])
  if new.isEmpty || 6 ≤ depth then s
  else
    let e : EnumSt := { level := new, depth := depth, queried := s.now, start := s.now, lastAssign := s.now }
    ({ s with casc := { s.casc with enumr := some e } } : State).queryLevel new

/-- The partners reported while an enumeration ran join once it is complete (R457). -/
def State.lateServe : Nat → State → State
  | 0, s => s
  | n + 1, s =>
    match s.casc.enumr, s.casc.late with
    | none, (m, p0, p1) :: rest => lateServe n (({ s with casc := { s.casc with late := rest } } : State).lateJoin m [(0, p0), (1, p1)])
    | _, _ => s

/-- What a module tells of its downstream ports outside its own level (R457): it is acted on now, or once the enumeration in progress is
complete. -/
def State.lateSeen (s : State) (m : Nat) (p0 p1 : PartnerSeen) : State :=
  if s.casc.enumr.isSome then { s with casc := { s.casc with late := mapIns (mapDel s.casc.late m) m (p0, p1) } }
  else State.lateServe 64 (s.lateJoin m [(0, p0), (1, p1)])

/-- A level has been waited for (R455): every module of it has answered and no port of it is training, or 100 ms have passed. -/
def State.levelWaited (s : State) (e : EnumSt) : Bool :=
  let seen := fun (m : Nat) => if m = 0 then some (s.partnerAt 0, s.partnerAt 1) else (e.seen.find? (fun x => x.1 == m)).map Prod.snd
  decide (e.queried + 100000 ≤ s.now) ||
    e.level.all (fun m => match seen m with | some (a, b) => a != .training && b != .training | none => false)

/-- ENUM_LEVEL_WAIT (R455). -/
def execEnumLevelWait (s : State) : Host.Outcome State Fault Refusal :=
  State.conclude (match s.casc.enumr with
    | some e => if s.casc.role = .root && s.levelWaited e then State.lateServe 64 (s.levelDone e) else s
    | none => s)

/-- ENUM_STATE (R455, R457): an answer of the level queried is noted; at any other time it tells of partners that have come. -/
def execEnumState (m : Nat) (p0 p1 : PartnerSeen) (s : State) : Host.Outcome State Fault Refusal :=
  State.conclude (
    if s.casc.role ≠ .root || !(mapGet (fun _ => ({} : TreeModule)) s.casc.table m).used then s
    else
      match s.casc.enumr with
      | some e =>
        if e.level.contains m then
          { s with casc := { s.casc with enumr := some { e with seen := mapIns (mapDel e.seen m) m (p0, p1) } } }
        else s.lateSeen m p0 p1
      | none => s.lateSeen m p0 p1)

/-- ENUM_QUERY (R451, R455): a module answers with the state of its downstream ports. -/
def execEnumQuery (tag : Nat) (s : State) : Host.Outcome State Fault Refusal :=
  State.conclude (
    if s.casc.role ≠ .member then s else s.send (.enumState (s.partnerAt 0) (s.partnerAt 1)) 0xFF tag)

/-- ENUM_ASSIGN (R445, R451, R455): for the partner of a downstream port, it is routed and passed to it; for this module, it is the
number, and the module stops granting to itself and asks the root. -/
def execEnumAssign (port : Option (Fin 2)) (number depth : Nat) (s : State) : Host.Outcome State Fault Refusal :=
  State.conclude (
    if s.casc.role ≠ .member || 64 ≤ number then s
    else
      match port with
      | some p =>
        let s := { s with casc := { s.casc with routes := mapPut (fun _ => 0xFF) s.casc.routes number (p + 1) } }
        s.sendHop (p + 1) { body := .enumAssign p number depth, dest := 0xFE, src := s.casc.src }
      | none =>
        ({ s with casc := { s.casc with number := some number, depth := some depth, rootless := false } } : State).tokenAskAll)

/-! ## Training of a link (R446-R448, R453) -/

/-- One link of each hop down while the other is up (R453). -/
def State.hopSingle (s : State) (h : Nat) : Bool := (s.link .A h).st.isUp != (s.link .B h).st.isUp

/-- Packets that wait for a hop sent on it again, in their order. -/
def State.unpark (s : State) (h : Nat) : State :=
  let l := mapGet (fun _ => []) s.casc.parked h
  ({ s with casc := { s.casc with parked := mapDel s.casc.parked h } } : State).forEach l (fun s p => s.sendHop h p)

/-- A link leaves service (R453, R462): what it had not had acknowledged moves to the other link of the hop, or waits; a hop with
no link left is held. -/
def State.linkLeaves (s : State) (u : UnitId) (h : Nat) (st : GriugState) : State :=
  let l := s.link u h
  let s := s.modLink u h (fun l => { l with st := st, step := 0, two := false, replay := [], replays := 0, answer := none })
  let up := l.st.isUp
  let late := mapGet (fun _ => []) s.casc.parked h
  let s := if up then
      (({ s with casc := { s.casc with parked := mapDel s.casc.parked h } } : State).forEach (l.replay.map Prod.snd ++ late)
        (fun s p => s.sendHop h p))
    else s
  if !up then s
  else if (s.hopUnit h).isSome then s.raise .casc [.CASC_HOP_SINGLE]
  else if s.casc.downHops.contains h then s
  else { s with casc := { s.casc with downHops := h :: s.casc.downHops, downAt := mapPut (fun _ => 0) s.casc.downAt h s.now } }

/-- What follows a link that has trained (R453, R454, R457, R462): the hop carries traffic again, its packets go on, the role is
settled, and a partner below is numbered or reached again. -/
def State.linkServes (s : State) (h : Nat) : State :=
  let s := { s with casc := { s.casc with downHops := s.casc.downHops.filter (· ≠ h) } }
  let s := if s.hopSingle h then s.raise .casc [.CASC_HOP_SINGLE] else s
  let s := s.unpark h
  if h = 0 then s.becomeMember
  else if s.casc.role = .root then
    s.lateSeen 0 (s.partnerAt 0) (s.partnerAt 1)
  else if s.casc.number.isSome then s.send (.enumState (s.partnerAt 0) (s.partnerAt 1)) 0xFF
  else s

/-- Whether an identity exchange shows an upstream link that meets a downstream link of the same unit side (R448). -/
def identGood (u : UnitId) (l : GriugPort) (i : LinkIdent) : Bool :=
  i.side == u && (if l = .up then i.role != .up else i.role == .up)

/-- The last step of a training passed: the link serves, or stays trained without traffic (R446, R448). -/
def State.linkTrained (s : State) (u : UnitId) (l : GriugPort) : State :=
  let k := s.link u l.hop
  match k.ident with
  | some i =>
    if identGood u l i then
      (s.modLink u l.hop (fun k => { k with st := if k.two then .up2 else .up4, step := 6 })).linkServes l.hop
    else (s.modLink u l.hop (fun k => { k with st := .miswired, step := 6 })).raise .casc [.CASC_MISWIRE]
  | none => s

/-- GRIUG_TRAINING_STEP (R446-R448): step 4 brings the identity, step 5 sets the sequence numbers to 0. -/
def execGriugTrainingStep (u : UnitId) (l : GriugPort) (r : GriugStep) (s : State) : Host.Outcome State Fault Refusal :=
  State.conclude (
    let h := l.hop
    let k := s.link u h
    if !s.sup.vin12 || !linksTrain s.mode.cur || (s.unitSt u).inReset || k.st.isUp || k.st = .miswired then s
    else
      let step := fun (f : GriugLink → GriugLink) => s.modLink u h (fun k => f { k with st := .training, step := k.step + 1 })
      match r with
      | .failed => s.modLink u h (fun k => { k with st := .failed, step := 0, two := false })
      | .ident i => if k.step = 3 then step (fun k => { k with ident := some i, two := k.two || i.two }) else s
      | .done | .twoLanes =>
        if k.step = 3 then s
        else
          let s := step (fun k =>
            let two := k.two || r == .twoLanes
            if k.step = 5 then { k with two := two, txSeq := 0, rxSeq := 0, replay := [], replays := 0 } else { k with two := two })
          if (s.link u h).step = 6 then s.linkTrained u l else s)

/-- GRIUG_LINK_DOWN (R453, R462). -/
def execGriugLinkDown (u : UnitId) (l : GriugPort) (s : State) : Host.Outcome State Fault Refusal :=
  State.conclude (s.linkLeaves u l.hop .noPartner)

/-! ## The link layer (R449, R452) -/

/-- The link retrains after a packet has been replayed four times (R449). -/
def State.linkRetrain (s : State) (u : UnitId) (h : Nat) : State :=
  ((s.linkLeaves u h .training).inc (Obj.GRIUG_RETRAINS (linkKey u h))).raise .casc [.CASC_LINK_RETRAINED]

/-- The oldest packets not acknowledged replayed, or the link retrained. -/
def State.linkReplay (s : State) (u : UnitId) (h : Nat) : State :=
  let l := s.link u h
  if l.replay.isEmpty then s
  else if 4 ≤ l.replays then s.linkRetrain u h
  else (s.modLink u h (fun l => { l with replays := l.replays + 1, sentAt := s.now })).inc (Obj.GRIUG_REPLAYS (linkKey u h))

/-- Packets acknowledged up to a sequence number leave the replay buffer. -/
def ackTo (seq : BitVec 12) : List (BitVec 12 × Packet) → List (BitVec 12 × Packet)
  | [] => []
  | e :: t => if e.1 = seq then t else ackTo seq t

/-- Packets before a sequence number leave the replay buffer: a rejection acknowledges them. -/
def ackBefore (seq : BitVec 12) : List (BitVec 12 × Packet) → List (BitVec 12 × Packet)
  | [] => []
  | e :: t => if e.1 = seq then e :: t else ackBefore seq t

/-- An acknowledgement: the buffer has room again. -/
def State.linkAck (s : State) (u : UnitId) (h : Nat) (f : List (BitVec 12 × Packet) → List (BitVec 12 × Packet)) : State :=
  let l := s.link u h
  let kept := f l.replay
  if kept.length = l.replay.length then s
  else (s.modLink u h (fun l => { l with replay := kept, replays := 0, sentAt := s.now })).unpark h

/-- Whether a packet is for this module: its number, the link partner, or the root. -/
def State.local (s : State) (p : Packet) : Bool :=
  p.dest == 0xFE || (p.dest == 0xFF && s.casc.role == .root) || s.casc.number == some p.dest

/-- A packet for another module forwarded by route (R452); an assignment that passes enters the number on the path (R455). -/
def State.forward (s : State) (p : Packet) : State :=
  if s.local p then s
  else
    let h := if p.dest = 0xFF then 0 else s.hopOf p.dest
    let s := match p.body with
      | .enumAssign _ n _ => { s with casc := { s.casc with routes := mapPut (fun _ => 0xFF) s.casc.routes n h } }
      | _ => s
    s.sendHop h p

/-- GRIUG_PACKET_RECEIVE (R449, R452): a good packet in order is acknowledged, and forwarded when it is not local; what a local
packet asks for is the command of its type. -/
def execGriugPacketReceive (u : UnitId) (l : GriugPort) (f : LinkFrame) (s : State) : Host.Outcome State Fault Refusal :=
  State.conclude (
    let h := l.hop
    let k := s.link u h
    if !k.st.isUp then s
    else
      match f with
      | .packet seq ok p =>
        if !ok || seq ≠ k.rxSeq then s.modLink u h (fun k => { k with answer := some (.nak k.rxSeq) })
        else (s.modLink u h (fun k => { k with rxSeq := k.rxSeq + 1, answer := some (.ack seq) })).forward p
      | .ack seq => if k.replay.any (fun e => e.1 == seq) then s.linkAck u h (ackTo seq) else s
      | .nak seq => if k.replay.any (fun e => e.1 == seq) then (s.linkAck u h (ackBefore seq)).linkReplay u h else s)

/-- GRIUG_REPLAY_TIMEOUT (R449): no acknowledgement within 10 µs. -/
def execGriugReplayTimeout (u : UnitId) (l : GriugPort) (s : State) : Host.Outcome State Fault Refusal :=
  State.conclude (if (s.link u l.hop).st.isUp && decide ((s.link u l.hop).sentAt + 10 ≤ s.now) then s.linkReplay u l.hop else s)

/-! ## Spin-up tokens (R439-R445) -/

/-- TOKEN_REQ (R441): of a numbered module, at the root. -/
def execTokenReq (m port : Nat) (s : State) : Host.Outcome State Fault Refusal :=
  State.conclude (
    if s.casc.role = .root && (mapGet (fun _ => ({} : TreeModule)) s.casc.table m).used then s.request m port else s)

/-- Whether a grant is this module's to use: at the root its ledger must hold it for the module itself. -/
def State.grantHere (s : State) (number : Nat) : Bool :=
  s.casc.number.isSome && !s.casc.held.any (fun t => !t.orphan && t.number == number) &&
  (s.casc.role != .root || s.casc.ledger.any (fun g => g.module == 0 && g.number == number))

/-- TOKEN_GRANT (R440, R443): to the lowest waiting port, or returned at once. -/
def execTokenGrant (number surge : Nat) (s : State) : Host.Outcome State Fault Refusal :=
  State.conclude (
    if !s.grantHere number then s
    else
      match s.firstWaiting with
      | some p => s.grantPort p number surge false
      | none =>
        let s := s.inc Obj.GRANTS
        if s.casc.role = .root then s.ledgerFree number else s.send (.tokenReturn number) 0xFF)

/-- TOKEN_RETURN (R443): at the root. -/
def execTokenReturn (m number : Nat) (s : State) : Host.Outcome State Fault Refusal :=
  State.conclude (
    if s.casc.role = .root && s.casc.ledger.any (fun g => g.module == m && g.number == number) then s.ledgerFree number else s)

/-- TOKEN_EXPIRY (R443): 14 s after a grant the root counts it as returned. -/
def execTokenExpiry (number : Nat) (s : State) : Host.Outcome State Fault Refusal :=
  State.conclude (
    if s.casc.role = .root && s.casc.ledger.any (fun g => g.number == number && decide (g.due ≤ s.now)) then s.ledgerFree number else s)

/-- LEDGER_REBUILD_HOLDOFF_EXPIRY (R444): 14 s since the ledger was rebuilt. -/
def execLedgerRebuildHoldoffExpiry (s : State) : Host.Outcome State Fault Refusal :=
  State.conclude (
    if s.casc.holdoff && decide (s.casc.holdFrom + 14000000 ≤ s.now) then ({ s with casc := { s.casc with holdoff := false } } : State).serve
    else s)

/-- ROOTLESS_WAIT_EXPIRY (R445): no root ROOTLESS_WAIT after the entry to Bring-up. -/
def execRootlessWaitExpiry (s : State) : Host.Outcome State Fault Refusal :=
  State.conclude (
    if s.mode.cur = .bringUp && s.casc.number.isNone && decide (s.rd Obj.T_BRINGUP + 1000 * s.rd Obj.ROOTLESS_WAIT ≤ s.now) then
      { s with casc := { s.casc with rootless := true } } else s)

/-! ## Commands through the tree (R459-R461) -/

/-- The command that came with a CMD packet of a tag. -/
def State.cascCmd (s : State) (tag : Nat) : Option HostCmd :=
  s.cmds.find? (fun (c : HostCmd) => c.tag.sq == cascQueue && c.tag.cid == tag)

/-- The next data of a cascaded Store asked for while the write buffer has room for it (R344, R459). -/
def State.dataAsk (s : State) (c : HostCmd) : State :=
  let n := min 4096 c.need
  if c.need = 0 || s.rd Obj.WRITE_BUFFER_LIMIT * 1048576 < s.bufferBytes + c.value.length + n then s
  else s.send (.dataReq n) 0xFF c.tag.cid c.value.length

/-- A command of the root runs on this module (R281, R340, R459): a Store first asks for its data. -/
def State.cascRun (s : State) (t : CmdTag) (c : KvSub) : State :=
  let hint := c.hint.getD (compressionOf (s.rd (Obj.COMPRESSION c.ns)))
  match c.op with
  | .store =>
    match s.storeRefusal c.ns c.key c.len c.opt with
    | some o =>
      let s := if o = .quota || o = .capacity then s.raise .os [.OS_CAPACITY_LIMIT] else s
      s.complete t o
    | none =>
      if c.len = 0 then s.runStore t c.ns c.key [] c.opt hint
      else
        let s := s.modCmd t (fun h => { h with ns := c.ns, key := c.key, hint := hint, opt := c.opt, need := c.len })
        match s.cascCmd t.cid with | some h => s.dataAsk h | none => s
  | .retrieve => s.runRetrieve t c.ns c.key c.len
  | .delete => s.runDelete t c.ns c.key
  | .exist => s.runExist t c.ns c.key
  | .list => s.runList t c.ns c.key c.len
  | .flush => s.runFlush t c.ns c.all []

/-- Whether a Store of the same key that came earlier still waits for its data, so that entry order holds the command back (R459). -/
def State.cascBehind (s : State) (c : KvSub) : Bool :=
  s.cmds.any (fun (h : HostCmd) => h.tag.sq == cascQueue && h.need != 0 && h.ns == c.ns && (h.key == c.key || c.op == .list || c.op == .flush))

/-- CMD (R459): a forwarded command enters the table of its module; one that waits there runs, or asks for its data again, at its next
row. -/
def execCmd (tag : Nat) (c : KvSub) (s : State) : Host.Outcome State Fault Refusal :=
  State.conclude (
    if s.casc.role ≠ .member || s.casc.number.isNone || 16 ≤ c.ns then s
    else
      let t : CmdTag := ⟨s.pair.active, cascQueue, tag⟩
      match s.cascCmd tag with
      | some h =>
        if h.kind ≠ .waiting || s.postsHeld then s
        else if h.need ≠ 0 then s.dataAsk h
        else if s.cascBehind c then s
        else s.cascRun h.tag c
      | none =>
        if 16384 ≤ s.cmds.length then s
        else
          let s := s.enterCmd { tag := t }
          let s := s.wr Obj.CMD_SLOTS_PEAK (max (s.rd Obj.CMD_SLOTS_PEAK) s.cmds.length)
          if s.postsHeld || s.cascBehind c then s else s.cascRun t c)

/-- A forwarded command of the root by its module and the tag of its CMD. -/
def State.forwarded (s : State) (m tag : Nat) : Option HostCmd :=
  s.cmds.find? (fun (c : HostCmd) => c.kind == .forwarded && c.action == 0 && c.target == some m && c.fwdTag == tag)

/-- DATA_REQ (R459): the root fetches host data of a forwarded Store and returns it. -/
def execDataReq (m tag off len : Nat) (s : State) : Host.Outcome State Fault Refusal :=
  State.conclude (
    match s.forwarded m tag with
    | some c => if c.need = 0 then s else s.send (.data (((c.value.drop off).take len).take 4096)) m tag off
    | none => s)

/-- DATA (R459): at the module, data of a Store; at the root, data of a Retrieve or List for the host. -/
def execData (m tag off : Nat) (data : List Byte) (s : State) : Host.Outcome State Fault Refusal :=
  State.conclude (
    if s.casc.role = .root then
      match s.forwarded m tag with
      | some c => if c.need = 0 && c.value.length = off then s.modCmd c.tag (fun c => { c with value := c.value ++ data }) else s
      | none => s
    else
      match s.cascCmd tag with
      | some c =>
        if c.need = 0 || off ≠ c.value.length || data.isEmpty || c.need < data.length then s
        else
          let s := s.modCmd c.tag (fun c => { c with value := c.value ++ data, need := c.need - data.length })
          if c.need = data.length then s.runStore c.tag c.ns c.key (c.value ++ data) c.opt c.hint
          else match s.cascCmd tag with | some h => s.dataAsk h | none => s
      | none => s)

/-- CPL (R459, R460): the completion of a forwarded command at the root; a Flush of every namespace ends with its last module, and
with the first status that is not success. -/
def execCpl (m tag sct sc : Nat) (dnr : Bool) (crd dw0 : Nat) (s : State) : Host.Outcome State Fault Refusal :=
  State.conclude (
    match s.forwarded m tag with
    | some c => s.completeWith c.tag sct sc dnr crd dw0 (if c.need = 0 then c.value.take c.limit else [])
    | none =>
      match s.cmds.find? (fun (c : HostCmd) => c.kind == .flush && c.all && c.fwdTag == tag && c.waits.contains m) with
      | some c =>
        let st := sct * 65536 + sc % 256 * 256 + crd % 4 * 2 + (if dnr then 1 else 0)
        (s.modCmd c.tag (fun c => { c with
          waits := c.waits.filter (· ≠ m), limit := if c.limit = 0 && (sct ≠ 0 || sc ≠ 0) then st else c.limit })).settleCmds
      | none => s)

/-- The bit of the Asynchronous Event Configuration that gates an event (R354); 0 where none does. -/
def aenMask (ty info : Nat) : Nat :=
  if ty = 2 then (if info = 0 then 0x100 else 0x200) else if ty = 1 then (if info = 1 then 2 else 4) else 0

/-- EVENT (R460): an event of a module raised on the root's controllers. -/
def execEvent (m ty info log : Nat) (s : State) : Host.Outcome State Fault Refusal :=
  State.conclude (
    if s.casc.role = .root && (mapGet (fun _ => ({} : TreeModule)) s.casc.table m).used then
      s.aenAll (aenMask ty info) { ty := ty, info := info, log := log }
    else s)

end Sys2Proof.Machine
end

