-- ==== Sys2Proof/Machine/Host.lean ====
section
/-! DEFINITION. The admin commands of a controller and the events of its port (R333-R357, R619, R621). -/

namespace Sys2Proof.Machine

/-! ## Statuses of NVM Express beside those of R351 -/

/-- Command-specific statuses (SCT 1) of NVM Express Base Specification 2.0, DNR 1. -/
def State.specific (s : State) (t : CmdTag) (sc : Nat) : State := s.completeWith t 1 sc true 0 0 []

def scCqInvalid : Nat := 0x00
def scQueueId : Nat := 0x01
def scQueueSize : Nat := 0x02
def scAerLimit : Nat := 0x05
def scVector : Nat := 0x08
def scLogPage : Nat := 0x09
def scQueueDeletion : Nat := 0x0C

/-- An admin command runs as any command does, from the admin queue. -/
def State.admin (s : State) (t : CmdTag) (f : State → State) : Host.Outcome State Fault Refusal :=
  (s.begin t 0 (fun s => f (s.modCmd t (fun c => { c with kind := .admin })))).conclude

/-! ## Entry (R334, R342-R344) -/

/-- COMMAND_FETCH. -/
def execCommandFetch (t : CmdTag) (len : Nat) (ready other : List (Nat × Nat)) (s : State) : Host.Outcome State Fault Refusal :=
  .next (if t.ctrl = s.pair.active then (s.fetch t len ready other).1 else s)

/-- FORWARDED_COMMAND. -/
def execForwardedCommand (t : CmdTag) (len : Nat) (ready other : List (Nat × Nat)) (s : State) : Host.Outcome State Fault Refusal :=
  .next (if t.ctrl = s.pair.active then s else (s.fetch t len ready other).1)

/-- INVALID_COMMAND_OPCODE (R339, R340). -/
def execInvalidCommandOpcode (t : CmdTag) (s : State) : Host.Outcome State Fault Refusal :=
  (s.begin t 0 (fun s => s.complete t .invalidOpcode)).conclude

/-! ## Queues (R337, R339, R350) -/

/-- CREATE_IO_COMPLETION_QUEUE. -/
def execCreateIoCompletionQueue (t : CmdTag) (qid size vector : Nat) (contiguous : Bool) (s : State) :
    Host.Outcome State Fault Refusal :=
  s.admin t (fun s =>
    let c := s.getCtrl t.ctrl.code
    if qid = 0 || 64 < qid || c.cqs.any (fun q => q.qid == qid) then s.specific t scQueueId
    else if size < 2 || 1024 < size then s.specific t scQueueSize
    else if 64 < vector then s.specific t scVector
    else if !contiguous then s.complete t .invalidField
    else (s.modCtrl t.ctrl.code (fun c => { c with cqs := c.cqs ++ [{ qid := qid, size := size, vector := vector }] })).complete t .success)

/-- CREATE_IO_SUBMISSION_QUEUE. -/
def execCreateIoSubmissionQueue (t : CmdTag) (qid size cq : Nat) (contiguous : Bool) (s : State) :
    Host.Outcome State Fault Refusal :=
  s.admin t (fun s =>
    let c := s.getCtrl t.ctrl.code
    if cq = 0 || !c.cqs.any (fun q => q.qid == cq) then s.specific t scCqInvalid
    else if qid = 0 || 64 < qid || c.sqs.any (fun q => q.qid == qid) then s.specific t scQueueId
    else if size < 2 || 1024 < size then s.specific t scQueueSize
    else if !contiguous then s.complete t .invalidField
    else (s.modCtrl t.ctrl.code (fun c => { c with sqs := c.sqs ++ [{ qid := qid, cq := cq, size := size }] })).complete t .success)

/-- DELETE_IO_SUBMISSION_QUEUE (R350): the queue's commands complete first, and the staged ones among them stay durable. -/
def execDeleteIoSubmissionQueue (t : CmdTag) (qid : Nat) (s : State) : Host.Outcome State Fault Refusal :=
  s.admin t (fun s =>
    if qid = 0 || !(s.getCtrl t.ctrl.code).sqs.any (fun q => q.qid == qid) then s.specific t scQueueId
    else
      let s := s.forEach (s.cmds.filter (fun (c : HostCmd) => c.tag.ctrl == t.ctrl && c.tag.sq == qid)) (fun s c =>
        (s.abandonCmd c).complete c.tag .queueDeletion)
      let s := s.modCtrl t.ctrl.code (fun c => { c with sqs := c.sqs.filter (fun (q : SubQueue) => q.qid != qid) })
      s.settleCmds.complete t .success)

/-- DELETE_IO_COMPLETION_QUEUE. -/
def execDeleteIoCompletionQueue (t : CmdTag) (qid : Nat) (s : State) : Host.Outcome State Fault Refusal :=
  s.admin t (fun s =>
    let c := s.getCtrl t.ctrl.code
    if qid = 0 || !c.cqs.any (fun q => q.qid == qid) then s.specific t scQueueId
    else if c.sqs.any (fun q => q.cq == qid) then s.specific t scQueueDeletion
    else
      (s.modCtrl t.ctrl.code (fun c => { c with cqs := c.cqs.filter (fun (q : CplQueue) => q.qid != qid) })).complete t .success)

/-! ## Log pages (R354, R355) -/

/-- The bytes of a SORUS_ID: SEQ in bits 31-0, BAND_SET in bits 63-32 (R299). -/
def sorusId (set seq : Nat) : List Byte := leBytes 4 seq ++ leBytes 4 set

/-- The bytes of an entry of page C0h (R355). -/
def Deferred.bytes (e : Deferred) : List Byte :=
  leBytes 8 e.seq ++ leBytes 6 e.time ++ leBytes 1 e.cause ++ leBytes 1 e.ns ++ leBytes 1 e.key.length ++
  e.key ++ List.replicate (16 - e.key.length) 0 ++
  (match e.sid with | some (set, seq) => sorusId set seq | none => List.replicate 8 0xFF) ++ List.replicate 23 0

/-- Page C0h: the entry numbered n at position (n − 1) mod 256. -/
def State.deferredPage (s : State) : List Byte :=
  (List.range 256).flatMap (fun i =>
    match s.deferred.find? (fun e => (e.seq - 1) % 256 == i) with
    | some e => e.bytes
    | none => List.replicate 64 0)

/-- The event type a log page belongs to (R354, NVM Express): Error Status, SMART / Health, Notice, Vendor Specific. -/
def aenOfPage (lid : Nat) : Nat := if lid = 1 then 0 else if lid = 2 then 1 else if lid = 0xC0 then 7 else 2

/-- Page 02h: Critical Warning with a temperature threshold crossed in bit 1 and a service that takes no writes in bit 3, and the composite
temperature in kelvins, over bytes the spec does not give. -/
def State.healthPage (s : State) (u : UnitId) (base : List Byte) : List Byte :=
  let c := s.getCtrl u.code
  match (s.getSensor (32 * s.pair.active.code + Config.compositeSensor.val)).value with
  | none => base
  | some v =>
    let k : Nat := ((v + 2730) / 10).toNat
    let hot : Bool := match c.features.find? (fun (e : Nat × Nat) => e.1 == 4) with
      | some (_, f) => if f / 0x100000 % 4 = 0 then decide (f % 65536 ≤ k) else decide (k ≤ f % 65536)
      | none => false
    overlay (overlay base 1 (leBytes 2 k)) 0 [BitVec.ofNat 8 ((if hot = true then 2 else 0) + (if s.readOnly = true then 8 else 0))]

/-- Page 03h: the slot that runs and the one an activation pends for, and the revision of each slot's image. -/
def State.firmwarePage (s : State) : List Byte :=
  let rev := fun n => (Config.revision (s.slotImage s.pair.active n) ++ List.replicate 8 0x20).take 8
  leBytes 8 (s.rd Obj.BOOT_SLOT + 16 * s.pair.actPending.getD 0) ++ rev 1 ++ rev 2 ++ List.replicate 488 0

/-- Page 05h: the admin commands of R339 and the key-value commands of R340, of which Store and Delete change a namespace's content. -/
def effectsPage : List Byte :=
  (List.range 512).flatMap (fun i => leBytes 4 (
    if i < 256 then (if [0, 1, 2, 4, 5, 6, 8, 9, 10, 12, 16, 17].contains i || decide (0xC0 ≤ i) then 1 else 0)
    else if [0x01, 0x10].contains (i - 256) then 3
    else if [0x00, 0x02, 0x06, 0x14].contains (i - 256) then 1 else 0)) ++ List.replicate 2048 0

/-- The bytes of a log page of R339. Error Information holds no entry: the spec names no error that adds one. -/
def State.logPage (s : State) (u : UnitId) (lid : Nat) (base : List Byte) : List Byte :=
  match lid with
  | 1 => List.replicate 4096 0
  | 2 => s.healthPage u base
  | 3 => s.firmwarePage
  | 5 => effectsPage
  | _ => s.deferredPage

/-- GET_LOG_PAGE: the page's bytes from the offset on. With Retain Asynchronous Event clear the page's event is re-armed. -/
def execGetLogPage (t : CmdTag) (lid off len : Nat) (rae : Bool) (s : State) : Host.Outcome State Fault Refusal :=
  s.admin t (fun s =>
    if lid ≠ 1 && lid ≠ 2 && lid ≠ 3 && lid ≠ 5 && lid ≠ 0xC0 then s.specific t scLogPage
    else
      let s := if rae then s
        else s.modCtrl t.ctrl.code (fun c => { c with masked := c.masked.filter (· != aenOfPage lid) })
      let (base, s) := s.freeBytes 512
      s.complete t .success 0 (((s.logPage t.ctrl lid base).drop off).take len))

/-! ## Identify (R333, R337, R341) -/

/-- A text in a field of a number of characters. -/
def textField (n : Nat) (t : List Byte) : List Byte := (t ++ List.replicate n 0x20).take n

/-- The Identify Controller data (R333, R337) at its NVM Express offsets: the values of R337, and of the fields not listed those that NVM
Express requires (version 2.0, I/O controller, events of R354, firmware commands, entry sizes, number of namespaces); the rest reads 0. -/
def State.identifyController (s : State) (u : UnitId) : List Byte :=
  let put := fun (d : List Byte) (x : Nat × List Byte) => overlay d x.1 x.2
  [(4, textField 20 Config.moduleSerial), (24, textField 40 Config.modelNumber),
   (64, textField 8 (Config.revision (s.slotImage s.pair.active (s.rd Obj.BOOT_SLOT)))), (76, [3]), (77, [14]),
   (78, leBytes 2 (u.code + 1)), (80, leBytes 4 0x20000), (92, leBytes 4 0x300), (111, [1]), (128, leBytes 2 10), (256, leBytes 2 4),
   (258, [3]), (259, [7]), (260, [0x14]), (261, [4]), (262, [63]), (319, [1]), (512, [0x66]), (513, [0x44]), (516, leBytes 4 1024),
   (536, leBytes 4 1), (768, Config.subsystemName.take 256)].foldl put (List.replicate 4096 0)

/-- The Identify data of a key-value namespace: shared by both controllers (R333), one format of keys up to 16 bytes and values up to
64 MiB (R281); its size and use are not given. -/
def identifyKv (base : List Byte) : List Byte :=
  overlay (overlay (overlay (overlay (List.replicate 4096 0) 0 (base.take 8)) 16 ((base.drop 8).take 8)) 26 [1]) 72
    (leBytes 2 16 ++ [0, 0] ++ leBytes 4 67108864)

/-- Whether a namespace is active (R341). Whether one of a cascaded module is, the module's own state tells: free here. -/
def State.nsidActive (s : State) (n : Nat) (nsid : Nat) : Bool :=
  match nsidOf nsid with
  | none => false
  | some (0, k) => s.os.nsStateOf k != 0
  | some (m, _) =>
    let e := mapGet (fun _ => ({} : TreeModule)) s.casc.table m
    s.casc.role == .root && e.used && !s.casc.dropped.contains m && (Config.freeByte n nsid).toNat % 2 == 1

/-- Active NSIDs above a given one, at most 1024, each in four bytes. -/
def State.activeList (s : State) (n after : Nat) : List Byte :=
  let l := ((List.range 1025).filter (fun i => decide (after < i) && s.nsidActive n i)).take 1024
  l.flatMap (leBytes 4) ++ List.replicate (4096 - 4 * l.length) 0

/-- IDENTIFY: the CNS values of R339; another one is an invalid field, and an inactive NSID an invalid namespace. -/
def execIdentify (t : CmdTag) (cns nsid : Nat) (s : State) : Host.Outcome State Fault Refusal :=
  s.admin t (fun s =>
    let (base, s) := s.freeBytes 16
    let (n, s) := s.next
    let ofNs (d : List Byte) : State := if s.nsidActive n nsid then s.complete t .success 0 d else s.complete t .nsUnused
    let zeros := List.replicate 4096 (0 : Byte)
    match cns with
    | 0 => ofNs (overlay (overlay (overlay zeros 0 (base.take 8)) 16 ((base.drop 8).take 8)) 30 [1])
    | 5 => ofNs (identifyKv base)
    | 8 => ofNs (overlay (overlay zeros 1 [1]) 14 [1])
    | 1 => s.complete t .success 0 (s.identifyController t.ctrl)
    | 6 => s.complete t .success 0 zeros
    | 2 | 7 => s.complete t .success 0 (s.activeList n nsid)
    | _ => s.complete t .invalidField)

/-! ## Abort (R345) -/

/-- NVME_ABORT: a command that still waits in its queue completes with Command Abort Requested; one in the table runs on. -/
def execNvmeAbort (t : CmdTag) (sqid cid : Nat) (waiting : Bool) (s : State) : Host.Outcome State Fault Refusal :=
  s.admin t (fun s =>
    let x : CmdTag := ⟨t.ctrl, sqid, cid⟩
    let there := (s.getCtrl t.ctrl.code).sqs.any (fun q => q.qid == sqid)
    if waiting && there && !s.cmds.any (fun (c : HostCmd) => c.tag == x) then
      ((s.modCtrl t.ctrl.code (fun c => c.takeEntry sqid)).complete x .abortRequested).complete t .success 0
    else s.complete t .success 1)

/-! ## Features (R339) -/

/-- The features of R339. -/
def featureKnown (fid : Nat) : Bool := fid == 2 || fid == 4 || fid == 7 || fid == 8 || fid == 0x0B

/-- Dword 0 of feature 07h: 64 submission and 64 completion queues, less one each. -/
def queueCounts : Nat := 63 + 65536 * 63

/-- SET_FEATURES: power state 0 only; the number of queues only before the first is created. -/
def execSetFeatures (t : CmdTag) (fid : Nat) (v : BitVec 32) (s : State) : Host.Outcome State Fault Refusal :=
  s.admin t (fun s =>
    let c := s.getCtrl t.ctrl.code
    if !featureKnown fid || (fid == 2 && v.toNat % 32 != 0) then s.complete t .invalidField
    else if fid = 7 then
      if v.toNat % 65536 = 0xFFFF || v.toNat / 65536 = 0xFFFF then s.complete t .invalidField
      else if c.cqs.any (fun q => q.qid != 0) || c.sqs.any (fun q => q.qid != 0) then s.completeWith t 0 0x0C true 0 0 []
      else s.complete t .success queueCounts
    else
      (s.modCtrl t.ctrl.code (fun c => { c with features := mapIns (mapDel c.features fid) fid v.toNat })).complete t .success)

/-- GET_FEATURES: the value set since the controller was reset; a temperature threshold never set is a free value. -/
def execGetFeatures (t : CmdTag) (fid : Nat) (s : State) : Host.Outcome State Fault Refusal :=
  s.admin t (fun s =>
    let c := s.getCtrl t.ctrl.code
    if !featureKnown fid then s.complete t .invalidField
    else if fid = 7 then s.complete t .success queueCounts
    else
      match c.features.find? (fun e => e.1 == fid) with
      | some e => s.complete t .success e.2
      | none =>
        if fid = 4 then
          let (b, s) := s.freeBytes 4
          s.complete t .success (leNat b)
        else s.complete t .success 0)

/-! ## Asynchronous events (R354) -/

/-- ASYNCHRONOUS_EVENT_REQUEST: it stays outstanding, at most eight at once, and takes an event that waits. -/
def execAsynchronousEventRequest (t : CmdTag) (s : State) : Host.Outcome State Fault Refusal :=
  s.admin t (fun s =>
    let c := s.getCtrl t.ctrl.code
    if 8 ≤ c.aers.length then s.specific t scAerLimit
    else
      let s := s.modCmd t (fun c => { c with kind := .aer })
      (s.modCtrl t.ctrl.code (fun c =>
        let c := { c with aers := c.aers ++ [t.cid] }
        match c.events with
        | [] => c
        | a :: rest => ({ c with events := rest } : CtrlSt).event t.ctrl a)).aerSlots)

/-! ## Firmware (R352, R621) -/

/-- FIRMWARE_IMAGE_DOWNLOAD. -/
def execFirmwareImageDownload (t : CmdTag) (off : Nat) (data : List Byte) (s : State) : Host.Outcome State Fault Refusal :=
  s.admin t (fun s =>
    if off % 4096 ≠ 0 || data.length % 4096 ≠ 0 then s.complete t .invalidField
    else
      (s.modCtrl t.ctrl.code (fun c => { c with download := (off, data) :: c.download })).complete t .success)

/-- A Firmware Commit: prohibited while an activation runs; one with activation is held outside Frond, Frond-degraded and
Bring-up (R37). -/
def State.commitStart (s : State) (t : CmdTag) (slot action : Nat) : State :=
  if s.pair.step ≠ .idle then s.complete t .activationProhibited
  else if action ≠ 0 && !activates s.mode.cur then
    s.modCmd t (fun c => { c with kind := .commit, slot := slot, action := action })
  else s.commitRun t slot action

def execFwCommitStore (t : CmdTag) (slot : Fin 8) (s : State) : Host.Outcome State Fault Refusal :=
  s.admin t (fun s => s.commitStart t slot 0)

def execFwCommitStoreActivateReset (t : CmdTag) (slot : Fin 8) (s : State) : Host.Outcome State Fault Refusal :=
  s.admin t (fun s => s.commitStart t slot 1)

def execFwCommitActivateReset (t : CmdTag) (slot : Fin 8) (s : State) : Host.Outcome State Fault Refusal :=
  s.admin t (fun s => s.commitStart t slot 2)

def execFwCommitActivateNow (t : CmdTag) (slot : Fin 8) (s : State) : Host.Outcome State Fault Refusal :=
  s.admin t (fun s => s.commitStart t slot 3)

/-! ## Controllers and ports (R338, R349, R350, R454, R598) -/

/-- CC_EN_SET (R338): the admin queues, of at most 256 entries, exist from then on. -/
def execCcEnSet (u : UnitId) (asq acq : Nat) (s : State) : Host.Outcome State Fault Refusal :=
  let c := s.getCtrl u.code
  State.conclude (
    if !c.linkUp || c.ccEn || asq < 2 || 256 < asq || acq < 2 || 256 < acq then s
    else
      (s.modCtrl u.code (fun c =>
        { c with ccEn := true, sqs := [{ qid := 0, cq := 0, size := asq }], cqs := [{ qid := 0, size := acq }] })).readyTry u)

/-- An activation left pending starts at a controller reset at which a standby is ready and none is in progress (R352, R621). -/
def State.pendingStart (s : State) : State :=
  match s.pair.actPending with
  | some n => if s.peerReady && s.pair.step == .idle then s.startActivation n none else s
  | none => s

/-- A controller reset (R349, R350). -/
def State.ctrlReset (s : State) (u : UnitId) : State :=
  ((s.abandonCtrl u).modCtrl u.code (fun c => { c.cleared with ccEn := false, cfs := false, pp := false })).pendingStart

/-- CONTROLLER_RESET (R349, R350, R619). -/
def execControllerReset (u : UnitId) (s : State) : Host.Outcome State Fault Refusal :=
  State.conclude (if (s.getCtrl u.code).linkUp then s.ctrlReset u else s)

/-- PERSTN_ASSERTED (R598): a conventional reset of the port, whose link trains again. -/
def execPerstnAsserted (u : UnitId) (s : State) : Host.Outcome State Fault Refusal :=
  State.conclude (
    if (s.getCtrl u.code).linkUp then (s.ctrlReset u).modCtrl u.code (fun c => { c with linkUp := false }) else s)

end Sys2Proof.Machine
end

