-- ==== Sys2Proof/Machine/Flash.lean ====
section
/-! DEFINITION. The commands of the journal flash (R543-R554). -/

namespace Sys2Proof.Machine

/-! ## Meanings -/

def execReadPage (u : UnitId) (i : JfIface) (addr : BitVec 32) (errs : Nat) (s : State) :
    Host.Outcome State Fault Refusal := (s.readPage u i addr errs).conclude

def execProgramPage (u : UnitId) (i : JfIface) (addr : BitVec 32) (data : List Byte) (s : State) :
    Host.Outcome State Fault Refusal := (s.programPage u i addr data).conclude

/-- A program of firmware that has ended well in the index journal (logical blocks 676-3999) has carried the next 256 bytes of the
records staged on that unit (R307). -/
def State.journalProgrammed (s : State) (u : UnitId) (errs : Nat) : State :=
  match (s.getJf u.code).prog with
  | some g =>
    let l := ((s.getJf u.code).row g.phys).logical
    let s := s.programComplete u errs
    if g.iface = .firmware && decide (errs ≤ 2) && decide (676 ≤ l) && decide (l ≤ 3999) then s.recordsProgrammed u else s
  | none => s

def execJfProgramComplete (u : UnitId) (errs : Nat) (s : State) : Host.Outcome State Fault Refusal :=
  (s.journalProgrammed u errs).conclude

def execEraseBlock (u : UnitId) (i : JfIface) (addr : BitVec 32) (s : State) : Host.Outcome State Fault Refusal :=
  (s.eraseBlock u i addr).conclude

def execJfEraseComplete (u : UnitId) (verified : Bool) (s : State) : Host.Outcome State Fault Refusal :=
  (s.eraseComplete u verified).settleCmds.conclude

def execEraseSuspend (u : UnitId) (i : JfIface) (addr : BitVec 32) (s : State) : Host.Outcome State Fault Refusal :=
  (s.eraseSuspend u i addr).conclude

def execEraseResume (u : UnitId) (i : JfIface) (addr : BitVec 32) (s : State) : Host.Outcome State Fault Refusal :=
  (s.eraseResume u i addr).conclude

/-- READ_STATUS (R543): the status word of the block, without data. -/
def execReadStatus (u : UnitId) (i : JfIface) (addr : BitVec 32) (s : State) : Host.Outcome State Fault Refusal :=
  (s.jfRun u i 6 addr true (fun s => (s, swDone, []))).conclude

def execBlankCheck (u : UnitId) (i : JfIface) (addr : BitVec 32) (s : State) : Host.Outcome State Fault Refusal :=
  (s.blankCheck u i addr).conclude

def execReadStateRow (u : UnitId) (i : JfIface) (addr : BitVec 32) (s : State) : Host.Outcome State Fault Refusal :=
  (s.readStateRow u i addr).conclude

def execRetireBlock (u : UnitId) (i : JfIface) (addr : BitVec 32) (s : State) : Host.Outcome State Fault Refusal :=
  (s.retireBlock u i addr).conclude

def execMoveMap (u : UnitId) (i : JfIface) (addr : BitVec 32) (src : BitVec 16) (s : State) :
    Host.Outcome State Fault Refusal := (s.moveMap u i addr src).conclude

end Sys2Proof.Machine
end

