-- ==== Sys2Proof/Machine/Dma.lean ====
section
/-! DEFINITION. The event fabric, timers, DMA channels and power domains, and the compression engines of a unit (R393-R425). -/

namespace Sys2Proof.Machine

/-! ## Descriptors (R396-R400) -/

/-- The key of a channel. -/
def dmaKey (u : UnitId) (n : Nat) : Nat := 32 * u.code + n

/-- A field of the descriptor in hand, unsigned and signed. -/
def DmaSt.fld (c : DmaSt) (off n : Nat) : Nat := fldU c.desc off n
def DmaSt.sgn (c : DmaSt) (off : Nat) : Int := fldI c.desc off 4

/-- Fields of R396. -/
def DmaSt.c0 (c : DmaSt) : Nat := c.fld 40 2
def DmaSt.c1 (c : DmaSt) : Nat := c.fld 42 2
def DmaSt.c2 (c : DmaSt) : Nat := c.fld 44 2
def DmaSt.esize (c : DmaSt) : Nat := 2 ^ c.fld 46 1
def DmaSt.fill (c : DmaSt) : Bool := c.fld 47 1 == 2
def DmaSt.tap (c : DmaSt) : Bool := (c.fld 52 1).testBit 1

/-- What an address gains from pass to pass, from the steps at three offsets (R397): steps add to the last element moved. -/
def DmaSt.strides (c : DmaSt) (base : Nat) : Int × Int × Int :=
  let s0 := c.sgn base
  let x1 := ((c.c0 : Int) - 1) * s0 + c.sgn (base + 8)
  (s0, x1, ((c.c1 : Int) - 1) * x1 + ((c.c0 : Int) - 1) * s0 + c.sgn (base + 16))

/-- The address of the element in hand. -/
def DmaSt.addr (c : DmaSt) (start base : Nat) : Int :=
  let (a, b, d) := c.strides base
  (fldU c.desc start 7 : Int) + c.i2 * d + c.i1 * b + c.i0 * a

/-- The lowest byte address a descriptor touches from a start, and one past the highest. -/
def DmaSt.extent (c : DmaSt) (start base : Nat) : Int × Int :=
  let (a, b, d) := c.strides base
  let ms := [((c.c0 : Int) - 1) * a, ((c.c1 : Int) - 1) * b, ((c.c2 : Int) - 1) * d]
  let s : Int := fldU c.desc start 7
  (s + (ms.map (fun x => min 0 x)).sum, s + (ms.map (fun x => max 0 x)).sum + c.esize)

/-- An address or step is a multiple of the element size, at most 64 (R398). -/
def DmaSt.aligned (c : DmaSt) (start base : Nat) : Bool :=
  let m := min c.esize 64
  c.fld start 8 % m == 0 && (List.range 3).all (fun i => c.sgn (base + 8 * i) % (m : Int) == 0)

/-- The checks of R398. -/
def DmaSt.descOk (c : DmaSt) : Bool :=
  let f := fun off n => c.fld off n
  let inside := fun start base => let (lo, hi) := c.extent start base; decide (0 ≤ lo) && decide (hi ≤ bufLimit)
  1 ≤ f 40 2 && 1 ≤ f 42 2 && 1 ≤ f 44 2 && f 46 1 ≤ 12 && f 47 1 ≤ 2 && f 48 1 ≤ 1 && f 50 1 ≤ 2 && f 52 1 ≤ 3 && f 53 1 ≤ 3 &&
  f 54 2 == 0 && f 63 1 == 0 && f 56 8 % 64 == 0 && f 15 1 ≤ 1 && c.aligned 8 20 && inside 8 20 &&
  (c.fill || (f 7 1 == 0 && c.aligned 0 16 && inside 0 16)) &&
  (f 47 1 != 1 || f 46 1 == 3) && (f 47 1 != 2 || 3 ≤ f 46 1) && (!c.tap || (f 47 1 == 0 && f 46 1 == 12))

/-- The power domains a descriptor targets (R408). -/
def DmaSt.domains (c : DmaSt) : List Nat :=
  (if !c.fill || c.fld 15 1 == 0 then [0] else []) ++ (if c.fld 15 1 == 1 then [1] else []) ++ (if c.tap then [2] else [])

/-- A domain that takes no burst: down, or going down (R409, R410). -/
def FabSt.off (f : FabSt) (d : Nat) : Bool := !f.powered.testBit d || f.going.contains d

/-- The elements of a descriptor, and those not yet issued: REMAIN. -/
def DmaSt.total (c : DmaSt) : Nat := c.c0 * c.c1 * c.c2
def DmaSt.remain (c : DmaSt) : Nat :=
  match c.st with
  | .idle => 0
  | .waitStart | .waitCredit => c.total - ((c.i2 * c.c1 + c.i1) * c.c0 + c.i0)
  | .running | .stopping => c.total - ((c.i2 * c.c1 + c.i1) * c.c0 + c.i0) - 1

/-- CH_STATE (R422). -/
def DmaSt.code (c : DmaSt) : Nat :=
  match c.st with
  | .idle => 0
  | .waitStart => 1
  | .running => if c.remain = 0 then 4 else 2
  | .waitCredit => 3
  | .stopping => 5

/-! ## Pulses (R393, R394, R401, R402, R170) -/

/-- A channel ends with an error (R405-R407, R409): its bits, and one pulse of its error event. -/
def State.dmaFail (s : State) (u : UnitId) (n : Nat) (fs : List Flag) : State :=
  let k := dmaKey u n
  let s := s.raise (.dma u n) fs
  (s.modDma k (fun c => { c with st := .idle, credits := 0 })).pulse u (0x20 + n)

/-- The next pass begins: at once, or with a credit (R402). -/
def DmaSt.pass (c : DmaSt) : DmaSt :=
  if c.fld 50 1 = 0 then { c with st := .running }
  else if c.credits = 0 then { c with st := .waitCredit }
  else { c with st := .running, credits := c.credits - 1 }

/-- A descriptor fetched (R398, R400, R401, R410): it stops the channel, waits for its start, or begins. -/
def State.dmaLoad (s : State) (u : UnitId) (n addr : Nat) (first : Bool) : State :=
  let k := dmaKey u n
  let f := s.getFab u.code
  let s := s.modDma k (fun c => { c with cur := addr, desc := [], i0 := 0, i1 := 0, i2 := 0, off := 0 })
  if addr % 64 ≠ 0 || bufLimit < addr + 64 then s.dmaFail u n [.DMA_DESC_ERR]
  else if f.off 0 then s.dmaFail u n [.DMA_DOMAIN_OFF]
  else
    let (s, r) := s.engRead u addr 64
    match r with
    | none => (s.wr (Obj.ERR_ADDR u n) addr).dmaFail u n [.DMA_READ_ERR]
    | some d =>
      let s := s.modDma k (fun c => { c with desc := d })
      let c := s.getDma k
      if !c.descOk then s.dmaFail u n [.DMA_DESC_ERR]
      else if c.domains.any f.off then s.dmaFail u n [.DMA_DOMAIN_OFF]
      else if c.tap && (mapGet (fun _ => {}) f.coder (c.fld 53 1)).cols != c.c0 then s.dmaFail u n [.DMA_CODER_ERR]
      else s.putDma k (if first && c.fld 48 1 = 1 then { c with st := .waitStart } else c.pass)

/-- What a pulse does to one channel: the start it waits for, and a credit (R401, R402). -/
def State.pulseDma (s : State) (u : UnitId) (e n : Nat) : State :=
  let k := dmaKey u n
  let c := s.getDma k
  if c.st = .idle then s
  else
    let s := if c.st = .waitStart && c.fld 49 1 = e then s.putDma k c.pass else s
    let c := s.getDma k
    if c.fld 50 1 = 0 || c.fld 51 1 ≠ e then s
    else if 255 ≤ c.credits then s.raise (.dma u n) [.DMA_PACE_OVERRUN]
    else
      let c := { c with credits := c.credits + 1 }
      s.putDma k (if c.st = .waitCredit then c.pass else c)

/-- What a channel's pulse does to the inbound slots of a transfer sequencer (R170). -/
def State.pulseSeq (s : State) (u : UnitId) (e p a : Nat) : State :=
  let k := 4 * p + 2 * a + 1
  let q := s.getSeq (64 * u.code + k)
  s.forEach ((List.range 4).filter (fun i => decide (q.slotMap / 256 ^ i % 256 = e % 32))) (fun s i =>
    let q := s.getSeq (64 * u.code + k)
    let fail := decide (32 ≤ e)
    if (if fail then q.err else q.comp).contains i then (s.inc (Obj.EV_OVERRUNS u k)).raise (.seq k) [.SEQ_EV_OVERRUN]
    else s.putSeq (64 * u.code + k) (if fail then { q with err := i :: q.err } else { q with comp := i :: q.comp }))

/-- A pulse reaches every subscriber (R394). -/
def State.deliver (s : State) (u : UnitId) (e : Nat) : State :=
  let s := s.forEach (List.range 32) (fun s n => s.pulseDma u e n)
  if 64 ≤ e then s
  else s.forEach (List.range 16) (fun s p => (s.pulseSeq u e p 0).pulseSeq u e p 1)

/-! ## The sorus coder's streams (R290-R294, R400) -/

/-- A stream ended: nothing is set up for it any more. -/
def State.coderEnd (s : State) (u : UnitId) (i : Nat) : State :=
  s.modFab u.code (fun f => { f with coder := f.coder.filter (fun e => e.1 != i) })

/-- The bytes of parity i over a row of data columns in the order of D (R293, R294). -/
def CoderSt.parity (c : CoderSt) (i : Nat) (row : List (List Byte)) : List Byte :=
  ((dataColumns c.profile c.cols).zip row).foldl (fun v e => xorBytes v (scaleBytes (parityCoef c.profile i e.1) e.2)) (List.replicate 4096 0)

/-- Bytes of an element that a tapped channel has read reach a stream (R400): a whole row gives the next sector of each parity fragment; a
parity that cannot be written ends the stream with its failed pulse. -/
def State.coderTake (s : State) (u : UnitId) (i : Nat) (d : List Byte) : State :=
  let c := mapGet (fun _ => ({} : CoderSt)) (s.getFab u.code).coder i
  if c.cols = 0 then s
  else
    let part := c.part ++ d
    let c := if 4096 ≤ part.length then { c with got := c.got ++ [part], part := [] } else { c with part := part }
    let put := fun (s : State) (c : CoderSt) => s.modFab u.code (fun f => { f with coder := mapPut (fun _ => {}) f.coder i c })
    if c.got.length < c.cols then put s c
    else
      let (s, ok) := c.addrs.zipIdx.foldl (fun (x : State × Bool) e =>
        let (t, b) := x.1.engWrite u (e.1 + 4096 * c.row) (c.parity e.2 c.got)
        (t, x.2 && b)) (s, true)
      if ok then put s { c with got := [], row := c.row + 1 } else (s.coderEnd u i).pulse u (0x64 + i)

/-- The stream of a tapped descriptor is done (R393, R400). -/
def State.streamDone (s : State) (u : UnitId) (i : Nat) : State :=
  if (mapGet (fun _ => ({} : CoderSt)) (s.getFab u.code).coder i).cols = 0 then s else (s.coderEnd u i).pulse u (0x60 + i)

/-- EV_PULSE (R170, R394, R401, R402). -/
def execEvPulse (u : UnitId) (coder : Option (Fin 4)) (s : State) : Host.Outcome State Fault Refusal :=
  State.after (
    match coder with
    | some i => if (mapGet (fun _ => {}) (s.getFab u.code).coder i).cols = 0 then s else (s.coderEnd u i).deliver u (0x64 + i)
    | none =>
      match s.fabric.find? (fun e => e.1 = u) with
      | none => s
      | some (_, e) => ({ s with fabric := s.fabric.erase (u, e) } : State).deliver u e)

/-- EV_FIRE (R393, R394): an event from 70h to FFh. -/
def execEvFire (q : Requester) (u : UnitId) (v : BitVec 8) (s : State) : Host.Outcome State Fault Refusal :=
  .next (s.tryKey q u (Obj.EV_FIRE u) [v] 0 (fun s => s.pulse u v.toNat))

/-! ## Timers (R395) -/

/-- TIMER_TICK (R395): a timer that is on, and that the sweep reference does not drive, pulses once its period has passed. -/
def execTimerTick (u : UnitId) (t : Fin 8) (s : State) : Host.Outcome State Fault Refusal :=
  let last := mapGet (fun _ => 0) (s.getFab u.code).timers t
  .next (
    if !(s.unitSt u).fwRunning then s
    else if s.rd (Obj.TIMER_PERIOD u t) ≠ 0 && !(s.rd (Obj.TIMER_SWEEP u)).testBit t && decide (last + s.rd (Obj.TIMER_PERIOD u t) ≤ s.now) then
      (s.modFab u.code (fun f => { f with timers := mapPut (fun _ => 0) f.timers t s.now })).pulse u (0x68 + t)
    else s)

/-- TIMER_WRITE (R395): the timer is restarted, or with TIMER_SWEEP every timer. -/
def execTimerWrite (q : Requester) (u : UnitId) (i : Fin 9) (v : Word) (s : State) : Host.Outcome State Fault Refusal :=
  let k := if i.val < 8 then Obj.TIMER_PERIOD u i else Obj.TIMER_SWEEP u
  let data := if i.val < 8 then leBytes 4 v.toNat else leBytes 1 v.toNat
  let ts := if i.val < 8 then [i.val] else List.range 8
  .next (s.tryKey q u k data 0 (fun s =>
    (s.wr k (leNat data)).modFab u.code (fun f => { f with timers := ts.foldl (fun m t => mapPut (fun _ => 0) m t s.now) f.timers })))

/-! ## DMA channels (R401-R407) -/

/-- CH_ARM (R401): refused unless the channel is idle. -/
def execChArm (q : Requester) (u : UnitId) (n : Fin 32) (streams : List (Fin 4 × CoderSetup)) (s : State) :
    Host.Outcome State Fault Refusal :=
  let s := s.modFab u.code (fun f => { f with coder := streams.foldl (fun m e => mapPut (fun _ => ({} : CoderSt)) m e.1
    { profile := e.2.profile.toNat, cols := e.2.cols.toNat, addrs := e.2.addrs.map BitVec.toNat }) f.coder })
  State.after (s.tryKey q u (Obj.CH_CTRL u n) [1] (if (s.getDma (dmaKey u n)).st = .idle then 0 else 0x09) (fun s =>
    (s.modDma (dmaKey u n) (fun c => { c with credits := 0 })).dmaLoad u n (s.rd (Obj.DESC_ADDR u n)) true))

/-- CH_STOP (R405): after the burst in flight, or at once where none is. -/
def execChStop (q : Requester) (u : UnitId) (n : Fin 32) (s : State) : Host.Outcome State Fault Refusal :=
  State.after (s.tryKey q u (Obj.CH_CTRL u n) [2] 0 (fun s =>
    match (s.getDma (dmaKey u n)).st with
    | .idle | .stopping => s
    | .running => s.modDma (dmaKey u n) (fun c => { c with st := .stopping })
    | .waitStart | .waitCredit => s.dmaFail u n [.DMA_STOPPED]))

/-- The transposition of bit-plane mode (R399). -/
def bitPlane (b : List Byte) : List Byte :=
  (List.range 8).map (fun j => BitVec.ofNat 8 (((List.range 8).map (fun i => if (b.getD i 0).getLsbD j then 2 ^ i else 0)).sum))

/-- The burst in flight: the rest of the element in hand, up to the next 4096-byte boundary of its source and destination
(R403). -/
def DmaSt.burst (c : DmaSt) : Nat × Nat × Nat :=
  let src := (c.addr 0 16).toNat + c.off
  let dst := (c.addr 8 20).toNat + c.off
  let n := min (c.esize - c.off) (4096 - dst % 4096)
  (src, dst, if c.fill then n else min n (4096 - src % 4096))

/-- A destination written: the unit's own buffer, or the peer's over the mirror link. -/
def State.dmaPut (s : State) (u : UnitId) (space addr : Nat) (d : List Byte) : State × Bool :=
  if space = 0 then s.engWrite u addr d
  else if s.pair.mirror = .down then (s, false) else s.engWrite u.other addr d

/-- The element in hand is moved: the next one, a wait for a credit, the next descriptor, or completion (R397, R402, R404). -/
def State.dmaNext (s : State) (u : UnitId) (n : Nat) : State :=
  let k := dmaKey u n
  let c : DmaSt := { s.getDma k with off := 0 }
  if c.i0 + 1 < c.c0 then s.putDma k { c with i0 := c.i0 + 1 }
  else if c.i1 + 1 < c.c1 then
    let c := { c with i0 := 0, i1 := c.i1 + 1 }
    s.putDma k (if c.fld 50 1 = 1 then c.pass else c)
  else if c.i2 + 1 < c.c2 then s.putDma k ({ c with i0 := 0, i1 := 0, i2 := c.i2 + 1 } : DmaSt).pass
  else
  let s := if c.tap then s.streamDone u (c.fld 53 1) else s
  if c.fld 56 8 = 0 then (s.putDma k { c with st := .idle, credits := 0 }).pulse u n
  else
    let s := if (c.fld 52 1).testBit 0 then s.pulse u n else s
    (s.putDma k c).dmaLoad u n (c.fld 56 8) false

/-- A stop or a power-down that a channel with a burst in flight has met (R405, R410). -/
def State.dmaEnds (s : State) (u : UnitId) (n : Nat) : List Flag :=
  let c := s.getDma (dmaKey u n)
  (if c.st = .stopping then [Flag.DMA_STOPPED] else []) ++ (if c.domains.any (s.getFab u.code).off then [Flag.DMA_DOMAIN_OFF] else [])

/-- A burst fails (R406, R407): the failing address, and the error of the last beat of all. -/
def State.dmaBad (s : State) (u : UnitId) (n addr : Nat) (write last : Bool) : State :=
  let more := s.dmaEnds u n
  (s.wr (Obj.ERR_ADDR u n) addr).dmaFail u n
    ((if write then [Flag.DMA_WRITE_ERR] else [Flag.DMA_READ_ERR]) ++ (if write && last then [Flag.DMA_LAST_BEAT_ERR] else []) ++ more)

/-- The burst in flight is answered (R397, R399, R404-R407). -/
def State.dmaBurst (s : State) (u : UnitId) (n : Nat) (e : Option BurstErr) : State :=
  let k := dmaKey u n
  let c := s.getDma k
  let (src, dst, len) := c.burst
  let space := c.fld 15 1
  let (s, r) := if c.fill then
      (s, some ((List.range len).map (fun i => c.desc.getD ((c.off + i) % 8) 0)))
    else s.engRead u src len
  match r, e with
  | some d, none =>
    let d := if c.fld 47 1 = 1 then bitPlane d else d
    let last := c.remain == 0 && c.off + len == c.esize && c.fld 56 8 == 0
    let (s, ok) := s.dmaPut u space dst d
    if !ok then
      let at_ := if space = 0 then (s.getBuf u.code).errAt else dst
      s.dmaBad u n at_ true (last && decide (dst + len ≤ at_ + 64))
    else
      let s := if c.tap then s.coderTake u (c.fld 53 1) d else s
      let s := s.wr (Obj.DMA_BYTES_MOVED u) (min (2 ^ 64 - 1) (s.rd (Obj.DMA_BYTES_MOVED u) + len))
      let ends := s.dmaEnds u n
      if !ends.isEmpty then s.dmaFail u n ends
      else if c.off + len < c.esize then s.putDma k { c with off := c.off + len }
      else s.dmaNext u n
  | some d, some x =>
    let at_ := min (x.off.toNat / 64 * 64) (len - 1)
    if x.write then
      let d := if c.fld 47 1 = 1 then bitPlane d else d
      let (s, _) := s.dmaPut u space dst (d.take at_)
      let s := s.wr (Obj.DMA_BYTES_MOVED u) (min (2 ^ 64 - 1) (s.rd (Obj.DMA_BYTES_MOVED u) + at_))
      let (b, s) := s.freeBytes (min 64 (len - at_))
      let (s, _) := s.dmaPut u space (dst + at_) b
      s.dmaBad u n (dst + at_) true (c.remain == 0 && c.off + len == c.esize && decide (len ≤ at_ + 64) && c.fld 56 8 == 0)
    else s.dmaBad u n (src + at_) false false
  | none, _ => s.dmaBad u n (s.getBuf u.code).errAt false false

/-- Whether a channel's burst is the one served next (R403): channels of PRIORITY 1 before those of PRIORITY 0, round robin by burst within each
class. A burst of a channel that is stopping is in flight already. -/
def State.dmaServed (s : State) (u : UnitId) (n : Nat) : Bool :=
  let runs := fun (m cls : Nat) => (s.getDma (dmaKey u m)).st == .running && s.rd (Obj.PRIORITY u m) == cls
  let cls := if (List.range 32).any (fun m => runs m 1) then 1 else 0
  let last := mapGet (fun _ => 31) (s.getFab u.code).turns cls
  (s.getDma (dmaKey u n)).st == .stopping ||
    ((List.range 32).map (fun i => (last + 1 + i) % 32)).find? (fun m => runs m cls) == some n

/-- DMA_BURST_RESPONSE (R403-R407). -/
def execDmaBurstResponse (u : UnitId) (n : Fin 32) (e : Option BurstErr) (s : State) : Host.Outcome State Fault Refusal :=
  State.after (
    match (s.getDma (dmaKey u n)).st with
    | .running | .stopping =>
      if !s.dmaServed u n then s
      else
        (s.modFab u.code (fun f => { f with turns := mapPut (fun _ => 31) f.turns (s.rd (Obj.PRIORITY u n)) n.val })).dmaBurst u n e
    | .idle | .waitStart | .waitCredit => s)

/-! ## Compression engines: jobs (R412, R413, R418, R421) -/

/-- The power domain of an engine (R408): compressors 0-3 and 4-7, decompressors 0-3 and 4-7. -/
def engDomain (e : Nat) : Nat := 3 + e / 4

/-- A job in progress: the ring is not empty and both domains are up. The standby keeps its compressors and its coder idle (R12). -/
def State.engBusy (s : State) (u : UnitId) (e : Nat) : Bool :=
  u == s.pair.active && s.rd (Obj.RING_HEAD u e) != s.rd (Obj.RING_TAIL u e) && !(s.getFab u.code).off 0 && !(s.getFab u.code).off (engDomain e)

/-- How a job ends (R421): STATUS, METHOD, ENTROPY, OUT_BYTES and AREA_BYTES where the spec gives them, and the bytes of input. -/
structure JobEnd where
  status : Nat
  method : Nat := 0xFF
  entropy : Nat := 0xFFFF
  sizes : Option (Nat × Nat) := none
  input : Nat := 0
  verify : Bool := false
  deriving DecidableEq, Repr

/-- The checks of a job descriptor (R413). ENTROPY_LIMIT is a field of METHOD_REQ 02h. -/
def jobOk (d : List Byte) (compress : Bool) : Bool :=
  let f := fun off n => fldU d off n
  (if compress then decide (1 ≤ f 8 4) && decide (f 8 4 ≤ 262144) && f 12 1 ≤ 2 && (f 12 1 != 2 || 128 ≤ f 13 1)
   else decide (64 ≤ f 8 4) && decide (f 8 4 ≤ 266240)) &&
  f 7 1 == 0 && f 23 1 == 0 && f 39 1 == 0 && f 55 1 == 0 && f 14 1 ≤ 3 && f 15 1 == 0 && f 24 4 % 64 == 0 && f 24 4 ≤ 266240 && f 28 4 == 0 && f 32 8 % 32 == 0 && f 48 8 % 16 == 0 && f 56 4 == 0

/-- An overflow link obeys R418. -/
def linkOk (l : List Byte) : Bool :=
  let f := fun off n => fldU l off n
  f 0 8 % 64 == 0 && f 8 4 % 64 == 0 && 64 ≤ f 8 4 && f 8 4 ≤ 262144 && f 12 4 == 0 && f 16 8 % 32 == 0 && f 24 8 == 0

/-- A stream written across an output area (R418): 0, or the STATUS that ends the job. A link is read only when it is
reached. -/
def State.areaWrite (u : UnitId) : Nat → State → Nat → Nat → Nat → List Byte → State × Nat
  | 0, s, _, _, _, _ => (s, 0x10)
  | fuel + 1, s, addr, len, link, d =>
    let (s, ok) := if len = 0 || d.isEmpty then (s, true) else s.engWrite u addr (d.take len)
    let rest := d.drop len
    if !ok then (s, 0x12)
    else if rest.isEmpty then (s, 0)
    else if link = 0 then (s, 0x10)
    else
      let (s, r) := s.engRead u link 32
      match r with
      | none => (s, 0x11)
      | some l =>
        if !linkOk l then (s, 0x14)
        else State.areaWrite u fuel s (fldU l 0 8) (fldU l 8 4) (fldU l 16 8) rest

/-- The length of an output area up to what is needed, or the STATUS that ends the job. -/
def State.areaLen (u : UnitId) (need : Nat) : Nat → State → Nat → Nat → State × Except Nat Nat
  | 0, s, len, _ => (s, .ok len)
  | fuel + 1, s, len, link =>
    if need ≤ len || link = 0 then (s, .ok len)
    else
      let (s, r) := s.engRead u link 32
      match r with
      | none => (s, .error 0x11)
      | some l => if !linkOk l then (s, .error 0x14) else State.areaLen u need fuel s (len + fldU l 8 4) (fldU l 16 8)

/-- The output of a job written to its area. -/
def State.jobWrite (s : State) (u : UnitId) (d out : List Byte) : State × Nat :=
  State.areaWrite u 5000 s (fldU d 16 8) (fldU d 24 4) (fldU d 32 8) out

/-- The bytes of an output area that are not valid after a failure (R418, R419): free values over what the job could reach. -/
def State.jobSpoil (s : State) (u : UnitId) (d : List Byte) (n : Nat) : State :=
  let (b, s) := s.freeBytes n
  (s.jobWrite u d b).1

/-! ## Compressors (R415-R418) and decompressors (R419) -/

/-- A stored form with its padding (R418). -/
def paddedForm (form : List Byte) (pad : Bool) : List Byte :=
  if pad then form ++ List.replicate ((4096 - form.length % 4096) % 4096) 0 else form

/-- A compressor's job (R415-R418). -/
def State.compressJob (s : State) (u : UnitId) (d : List Byte) (verifyFail : Bool) : State × JobEnd :=
  let (s, r) := s.engRead u (fldU d 0 8) (fldU d 8 4)
  match r with
  | none => (s, { status := 0x11 })
  | some input =>
    let req := fldU d 12 1
    let e := if req = 2 then entropyFloor input else 0xFFFF
    let tries := req = 1 || (req = 2 && !entropyOver input (fldU d 13 1))
    let made := if tries then deflateBody input else none
    let body := made.getD []
    let short := made.isSome && decide (body.length < input.length)
    let bad := short && verifyFail
    let pad := (fldU d 14 1).testBit 0
    let tag := (d.drop 40).take 8
    let out0 := paddedForm (storedForm 0 input input tag) pad
    let plain := fun (s : State) =>
      let (s, st) := s.jobWrite u d out0
      if st = 0 then
        (s, ({ status := if bad then 1 else 0, method := 0, entropy := e, sizes := some (input.length + 64, out0.length), input := input.length, verify := bad } : JobEnd))
      else (s.jobSpoil u d out0.length, ({ status := st, entropy := e, input := input.length, verify := bad } : JobEnd))
    if short && !bad then
      let out1 := paddedForm (storedForm 1 body input tag) pad
      let (s1, st) := s.jobWrite u d out1
      if st = 0 then (s1, { status := 0, method := 1, entropy := e, sizes := some (body.length + 64, out1.length), input := input.length })
      else if st = 0x10 then plain s
      else (s1.jobSpoil u d out1.length, { status := st, entropy := e, input := input.length })
    else plain s

/-- The header of a stored form passes step 1 of R419 for a job. -/
def headerOk (b d : List Byte) : Bool :=
  chunkHeaderOk b && 64 + fldU b 12 4 ≤ fldU d 8 4 && (!(fldU d 14 1).testBit 1 || (b.drop 16).take 8 == (d.drop 40).take 8)

/-- A decompressor's job (R419): the checks in their order, the first failure ending it. -/
def State.expandJob (s : State) (u : UnitId) (d : List Byte) : State × JobEnd :=
  let (s, r) := s.engRead u (fldU d 0 8) 48
  match r with
  | none => (s, { status := 0x11 })
  | some h =>
    if !headerOk h d then (s, { status := 0x20, input := 48 })
    else
      let method := fldU h 5 1
      let inLen := fldU h 8 4
      let bodyLen := fldU h 12 4
      let (s, area) := State.areaLen u inLen 5000 s (fldU d 24 4) (fldU d 32 8)
      match area with
      | .error st => (s, { status := st, method := method, input := 48 })
      | .ok n =>
        if n < inLen then (s, { status := 0x10, method := method, input := 48 })
        else
          let (s, r) := s.engRead u (fldU d 0 8 + 48) (bodyLen + 16)
          match r with
          | none => (s.jobSpoil u d inLen, { status := 0x11, method := method, input := 48 })
          | some b =>
            let total := bodyLen + 64
            let bad := fun (s : State) (st : Nat) => (s.jobSpoil u d inLen, ({ status := st, method := method, input := total } : JobEnd))
            match chunkBodyOpen method inLen bodyLen b with
            | .error st => bad s st
            | .ok out =>
              let (s, st) := s.jobWrite u d out
              if st ≠ 0 then bad s st
              else (s, { status := 0, method := method, sizes := some (out.length, (crc32c out).toNat), input := total })

/-! ## The end of a job (R412, R420, R421, R424, R425) -/

/-- The status bit of a result. -/
def jobFlags (r : JobEnd) : List Flag :=
  (if r.verify then [Flag.ENG_VERIFY_FAIL] else []) ++
  (if r.status = 0x10 then [Flag.ENG_NO_SPACE] else if r.status = 0x11 || r.status = 0x12 then [Flag.ENG_BUS_ERR]
   else if r.status = 0x13 then [Flag.ENG_DOMAIN_OFF] else if r.status = 0x14 then [Flag.ENG_JOB_ERR]
   else if 0x20 ≤ r.status then [Flag.ENG_CHECK_FAIL] else [])

/-- A counter of 64 bits raised by an amount. -/
def State.addTo (s : State) (k n : Nat) : State := s.wr k (min (2 ^ 64 - 1) (s.rd k + n))

/-- What firmware does with a decompressor's result (R420). A 24h is run again on another engine: when that passes, the first
engine's check is reported. The rebuild of R21 follows from the chunk's own checks, where its fragments are read. -/
def State.recheckDone (s : State) (u : UnitId) (e tag : Nat) (r : JobEnd) : State :=
  let f := s.getFab u.code
  let hit := f.recheck.any (fun x => decide (x.2 = tag) && x.1 != e)
  let rest := f.recheck.filter (fun x => x.2 ≠ tag)
  if e < 8 then s
  else if r.status = 0x24 && !hit then s.putFab u.code { f with recheck := (e, tag) :: rest }
  else
    let s := s.putFab u.code { f with recheck := rest }
    if hit && r.status = 0 then s.diag u .engineChecks
    else s

/-- The result written, the pulse, the counts, and the next ring entry (R412, R421). A failed job's sizes are free values. -/
def State.jobEnd (s : State) (u : UnitId) (e : Nat) (d : List Byte) (r : JobEnd) : State :=
  let good := decide (r.status ≤ 1)
  let (free, s) := s.freeBytes 8
  let sizes := match r.sizes with | some (a, b) => leBytes 4 a ++ leBytes 4 b | none => free
  let bytes := leBytes 1 r.status ++ leBytes 1 r.method ++ leBytes 2 r.entropy ++ sizes ++ (d.drop 60).take 4
  let s := if d.isEmpty || (s.getFab u.code).off 0 then s else (s.engWrite u (fldU d 48 8) bytes).1
  let s := if (jobFlags r).isEmpty then s else s.raise (.eng u e) (jobFlags r)
  let s := if r.verify then (s.inc (Obj.CHECK_COUNT u e)).diag u .engineChecks
    else if 0x20 ≤ r.status then s.inc (Obj.CHECK_COUNT u e) else s
  let s := if good then s.addTo (Obj.JOBS_DONE u e) 1 else s.inc (Obj.JOBS_FAILED u e)
  let s := (s.addTo (Obj.BYTES_IN u e) r.input).addTo (Obj.BYTES_OUT u e) ((r.sizes.map Prod.fst).getD 0)
  let s := if e < 8 && r.method = 0 then s.inc (Obj.STORED_FORMS u e) else s
  let s := s.recheckDone u e (fldU d 60 4) r
  let ev := if e < 8 then (if good then 0x40 else 0x48) + e else (if good then 0x50 else 0x58) + (e - 8)
  (s.pulse u ev).wr (Obj.RING_HEAD u e) ((s.rd (Obj.RING_HEAD u e) + 1) % 64)

/-- The job at the head of a ring done, or ended by the loss of a domain. -/
def State.jobRun (s : State) (u : UnitId) (e : Nat) (verifyFail : Bool) (bus : Option Bool) (domainOff : Bool) : State :=
  let (s, r) := s.engRead u (s.rd (Obj.RING_BASE u e) + 64 * s.rd (Obj.RING_HEAD u e)) 64
  match r with
  | none => s.jobEnd u e [] { status := 0x11 }
  | some d =>
    if domainOff then s.jobEnd u e d { status := 0x13 }
    else if !jobOk d (e < 8) then s.jobEnd u e d { status := 0x14 }
    else
      match bus with
      | some w => (s.jobSpoil u d (fldU d 24 4)).jobEnd u e d { status := if w then 0x12 else 0x11 }
      | none =>
        let (s, x) := if e < 8 then s.compressJob u d verifyFail else s.expandJob u d
        s.jobEnd u e d x

/-- ENGINE_JOB_COMPLETE (R412-R421). -/
def execEngineJobComplete (u : UnitId) (e : Fin 16) (verifyFail : Bool) (bus : Option Bool) (s : State) :
    Host.Outcome State Fault Refusal :=
  State.after (if s.engBusy u e then s.jobRun u e verifyFail bus false else s)

/-- RING_TAIL_WRITE (R412). -/
def execRingTailWrite (q : Requester) (u : UnitId) (e : Fin 16) (v : BitVec 8) (s : State) : Host.Outcome State Fault Refusal :=
  .next (s.tryKey q u (Obj.RING_TAIL u e) [v] 0 (fun s => s.wr (Obj.RING_TAIL u e) v.toNat))

/-- RING_BASE_WRITE (R412, R424): 4 KiB aligned, and refused while jobs are pending. -/
def execRingBaseWrite (q : Requester) (u : UnitId) (e : Fin 16) (v : BitVec 64) (s : State) : Host.Outcome State Fault Refusal :=
  let own := if s.rd (Obj.RING_HEAD u e) ≠ s.rd (Obj.RING_TAIL u e) || v.toNat % 4096 ≠ 0 then 0x09 else 0
  .next (s.tryKey q u (Obj.RING_BASE u e) (leBytes 8 v.toNat) own (fun s => s.wr (Obj.RING_BASE u e) v.toNat))

/-! ## Power domains (R408-R411) -/

/-- A power-up carried out or refused (R411). -/
def State.domainUp (s : State) (u : UnitId) (d : Nat) : State :=
  let no := (d = 0 && !(s.mode.cur = .bringUp && (s.unitSt u).gddrTrained)) || (d = 1 && !(s.unitSt u.other).present)
  s.modFab u.code (fun f =>
    if no then { f with result := 3 } else { f with powered := f.powered ||| 2 ^ d, result := 2 })

/-- Channels with nothing in flight that target a domain going down stop at once (R409, R410). -/
def State.domainStop (s : State) (u : UnitId) (d : Nat) (all : Bool) : State :=
  s.forEach (List.range 32) (fun s n =>
    let c := s.getDma (dmaKey u n)
    if !c.domains.contains d then s
    else
      match c.st with
      | .idle => s
      | .waitStart | .waitCredit => s.dmaFail u n [.DMA_DOMAIN_OFF]
      | .running => if all then s.dmaFail u n [.DMA_DOMAIN_OFF] else s
      | .stopping => if all then s.dmaFail u n [.DMA_STOPPED, .DMA_DOMAIN_OFF] else s)

/-- The engines whose job in progress needs a domain (R408, R409). -/
def engOf (d : Nat) : List Nat := (List.range 16).filter (fun e => d = 0 || engDomain e = d)

/-- DOMAIN_POWER_DOWN (R409, R410): no new burst, and what has nothing in flight ends. -/
def execDomainPowerDown (q : Requester) (u : UnitId) (d : Fin 7) (s : State) : Host.Outcome State Fault Refusal :=
  State.after (s.tryKey q u (Obj.DOMAIN_REQUEST u) [BitVec.ofNat 8 d] 0 (fun s =>
    let f := s.getFab u.code
    if f.going.contains d.val then s
    else if !f.powered.testBit d then s.putFab u.code { f with result := 2 }
    else
      let busy := (engOf d).filter (fun e => s.engBusy u e)
      let s := s.putFab u.code { f with result := 1, going := f.going ++ [d.val] }
      let s := s.domainStop u d false
      s.forEach busy (fun s e => s.jobRun u e false none true)))

/-- DOMAIN_POWER_DOWN_COMPLETE (R409, R410): the domain is down, and a held power-up is carried out. -/
def execDomainPowerDownComplete (u : UnitId) (d : Fin 7) (s : State) : Host.Outcome State Fault Refusal :=
  State.after (
    if !(s.getFab u.code).going.contains d.val then s
    else
      let s := s.domainStop u d true
      let held := (s.getFab u.code).upHeld.contains d.val
      let s := s.modFab u.code (fun f =>
        { f with
          coder := if d.val = 2 then [] else f.coder
          going := f.going.filter (· != d.val), upHeld := f.upHeld.filter (· != d.val), result := 2
          powered := if f.powered.testBit d then f.powered - 2 ^ d.val else f.powered })
      if held then s.domainUp u d else s)

/-- DOMAIN_POWER_UP (R410, R411): held during a power-down of the domain. -/
def execDomainPowerUp (q : Requester) (u : UnitId) (d : Fin 7) (s : State) : Host.Outcome State Fault Refusal :=
  .next (s.tryKey q u (Obj.DOMAIN_REQUEST u) [BitVec.ofNat 8 (128 + d)] 0 (fun s =>
    if (s.getFab u.code).going.contains d.val then
      s.modFab u.code (fun f => if f.upHeld.contains d.val then f else { f with upHeld := f.upHeld ++ [d.val] })
    else s.domainUp u d))

end Sys2Proof.Machine
end

