-- ==== Sys2Proof/Machine/Blocks.lean ====
section
/-! DEFINITION. The blocks of the command-and-telemetry lanes and of the motor lane, bit by bit: CRC-8, loop command and register
blocks, servo telemetry, motor commands and motor telemetry (R233-R236, R249, R250). -/

namespace Sys2Proof.Machine

/-! ## CRC-8 (R236) -/

/-- The CRC-8 over bits [63:8], msb first, from 00h. -/
def laneCrc (w : BitVec 64) : BitVec 8 := crc8 ((List.range 7).map (fun i => w.extractLsb' (56 - 8 * i) 8))

/-- A block with its CRC in bits [7:0]. -/
def sealBlock (w : BitVec 64) : BitVec 64 := (w &&& ~~~0xFF) ||| (laneCrc w).setWidth 64

/-- Whether a block passes its check. -/
def blockGood (w : BitVec 64) : Bool := w.setWidth 8 == laneCrc w

/-! ## The actuator's command slot (R233, R234) -/

/-- The code of HOLD. -/
def HoldField.code : HoldField → Nat
  | .slots4 => 0
  | .slots32 => 1
  | .retract => 2

/-- The 64 bits of a loop command block. -/
def LoopCmd.word (b : LoopCmd) : BitVec 64 :=
  sealBlock (BitVec.ofInt 16 b.vcm ++ BitVec.ofInt 16 b.ma ++ BitVec.ofNat 8 b.heatRd ++ BitVec.ofNat 8 b.heatWr ++
    BitVec.ofNat 4 b.head ++ BitVec.ofNat 2 b.hold.code ++ BitVec.ofBool b.valid ++ (0 : BitVec 9))

/-- The loop command block that 64 bits make; `none` when they fail the check. HOLD 11b is taken as 10b. -/
def loopBlock (w : BitVec 64) : Option LoopCmd :=
  if !blockGood w then none
  else some
    { vcm := (w.extractLsb' 48 16).toInt, ma := (w.extractLsb' 32 16).toInt
      heatRd := (w.extractLsb' 24 8).toNat, heatWr := (w.extractLsb' 16 8).toNat, head := (w.extractLsb' 12 4).toNat
      hold := if w.extractLsb' 10 2 = 0 then .slots4 else if w.extractLsb' 10 2 = 1 then .slots32 else .retract
      valid := w.getLsbD 9 }

/-- A register block: KIND, INDEX and DATA. -/
structure RegBlock where
  kind : BitVec 8
  index : BitVec 8
  data : BitVec 32
  deriving DecidableEq, Repr

/-- Its 64 bits. -/
def RegBlock.word (b : RegBlock) : BitVec 64 := sealBlock (b.kind ++ b.index ++ b.data ++ (0 : BitVec 16))

/-- The register block that 64 bits make; `none` when they fail the check. -/
def registerBlock (w : BitVec 64) : Option RegBlock :=
  if blockGood w then some { kind := w.extractLsb' 56 8, index := w.extractLsb' 48 8, data := w.extractLsb' 16 32 } else none

/-- The register blocks of an entry of several bytes, four to a block, the byte at INDEX highest in DATA. -/
def entryBlocks (kind : BitVec 8) (entry : List Byte) : List RegBlock :=
  (List.range ((entry.length + 3) / 4)).map (fun i =>
    let at_ := fun n => entry.getD (4 * i + n) 0
    { kind := kind, index := BitVec.ofNat 8 (4 * i), data := at_ 0 ++ at_ 1 ++ at_ 2 ++ at_ 3 })

/-- The two register blocks of a servo window. -/
def windowBlocks (w : Word × Nat) : List RegBlock :=
  [{ kind := 1, index := 0, data := w.1 }, { kind := 1, index := 1, data := BitVec.ofNat 32 (w.2 % 16384) }]

/-- The window that the register blocks of one slot give: both blocks, and a length of 1 to 8192. -/
def windowOf (l : List RegBlock) : Option (Word × Nat) :=
  match l.find? (fun b => b.kind == 1 && b.index == 0), l.find? (fun b => b.kind == 1 && b.index == 1) with
  | some x, some y =>
    let n := (y.data.extractLsb' 0 14).toNat
    if 1 ≤ n ∧ n ≤ 8192 then some (x.data, n) else none
  | _, _ => none

/-- An entry with the bytes of one register block put in. -/
def putEntry (entry : List Byte) (b : RegBlock) : List Byte :=
  (List.range 4).foldl (fun e n => e.set (b.index.toNat + n) (b.data.extractLsb' (24 - 8 * n) 8)) entry

/-! ## Servo telemetry (R235) -/

/-- The servo telemetry block that 64 bits make; `none` when they fail the check. -/
def servoTelemetry (w : BitVec 64) : Option ServoTlm :=
  if !blockGood w then none
  else some
    { iMeas := w.extractLsb' 48 16, maSense := w.extractLsb' 32 16, bemf := w.extractLsb' 20 12
      parked := w.getLsbD 19, shock := w.getLsbD 18, holding := w.getLsbD 17, selfRetracted := w.getLsbD 16
      wrLock := w.getLsbD 15, wrsetAck := w.getLsbD 14, cmdCrcErr := w.getLsbD 13, head := w.extractLsb' 8 4 }

/-! ## Motor blocks (R249, R250) -/

/-- The code of BRIDGE. -/
def Bridge.code : Bridge → Nat
  | .drive k => k % 6
  | .coast => 8
  | .shortBrake => 9
  | .pulsedBrake => 10

/-- The 64 bits of a motor command block. -/
def MotorCmd.word (b : MotorCmd) : BitVec 64 :=
  let (f, t) := b.apply.getD (0, 0)
  sealBlock (BitVec.ofNat 4 b.bridge.code ++ BitVec.ofNat 12 b.duty ++ BitVec.ofNat 8 f ++ BitVec.ofNat 8 t ++
    BitVec.ofBool b.apply.isNone ++ (0 : BitVec 31))

/-- The motor command block that 64 bits make; `none` when they fail the check. A code of no row of BRIDGE is coast. -/
def motorBlock (w : BitVec 64) : Option MotorCmd :=
  if !blockGood w then none
  else some
    { bridge := match (w.extractLsb' 60 4).toNat with
        | 9 => .shortBrake
        | 10 => .pulsedBrake
        | k => if k < 6 then .drive k else .coast
      duty := (w.extractLsb' 48 12).toNat
      apply := if w.getLsbD 31 then none else some ((w.extractLsb' 40 8).toNat, (w.extractLsb' 32 8).toNat) }

/-- The motor telemetry block that 64 bits make; `none` when they fail the check. -/
def motorTelemetry (w : BitVec 64) : Option MotorTlm :=
  if !blockGood w then none
  else some
    { zc := if w.getLsbD 63 then some ((w.extractLsb' 61 2).toNat, w.getLsbD 60, w.extractLsb' 52 8) else none
      clamp := w.getLsbD 51, iPhase := w.extractLsb' 40 11, iBus := w.extractLsb' 30 10
      vBus := w.extractLsb' 20 10, bemf := w.extractLsb' 8 12 }

end Sys2Proof.Machine
end

