-- ==== Sys2Proof/Machine/Spindle.lean ====
section
/-! DEFINITION. Spindles: telemetry and crossings, commutation, speed and phase control, starts, re-catches and stops, and the
sweep reference (R246-R277). -/

namespace Sys2Proof.Machine

/-! ## Crossings (R252-R255, R262) -/

/-- The place of a transition in the forward order of R252; 6 for a phase that ZC_PH does not have. -/
def zcIndex (ph : Nat) (rising : Bool) : Nat :=
  match ph, rising with
  | 2, false => 0
  | 1, true => 1
  | 0, false => 2
  | 2, true => 3
  | 1, false => 4
  | 0, true => 5
  | _, _ => 6

/-- Six consecutive crossings in one order (R262): `some true` forward, `some false` backward. -/
def sixOrder (seen : List (Nat × Nat)) : Option Bool :=
  if seen.length < 6 then none
  else
    let l := (seen.take 6).map Prod.fst
    let pairs := l.zip (l.drop 1)
    if pairs.all (fun (a, b) => a == (b + 1) % 6) then some true
    else if pairs.all (fun (a, b) => b == (a + 1) % 6) then some false
    else none

/-- The speed of six crossings, from their mean interval (R262), in 1/1000 rpm. -/
def sixSpeed (poles : Nat) (seen : List (Nat × Nat)) : Nat :=
  let t := ((seen.headD (0, 0)).2 - ((seen[5]?).getD (0, 0)).2) * 2
  if poles * t = 0 then 0 else (openDiv (1280000000000 * 5 : Nat) (poles * t)).toNat

/-- T60 of a spindle: the mean of the last two crossing intervals, in 1/256 frame. -/
def SpdSt.t60 (q : SpdSt) : Nat := (q.int1 + q.int2) / 2

/-- The expected crossing (R253). -/
def SpdSt.expected (q : SpdSt) : Nat := q.lastZc + q.t60

/-- The end of blanking in the state in force (R253): 64 units of 1/256 frame to the µs. -/
def State.blankEnd (s : State) (p : Nat) : Nat :=
  let q := s.getSpd p
  q.commTime + s.rd (Obj.BLANK_MIN p) * 64 + s.rd (Obj.BLANK_FRAC p) * q.t60 / 256

/-- The opening of the window (R253): the later of the end of blanking and the first frame end with CLAMP 0. -/
def State.windowStart (s : State) (p : Nat) : Option Nat :=
  (s.getSpd p).clampAt.map (fun c => max c (s.blankEnd p))

/-- The close of the window (R253); before the first crossing of RAMP, the end of its open-loop state. -/
def State.windowEnd (s : State) (p : Nat) : Nat :=
  let q := s.getSpd p
  if q.st = .ramp ∧ q.lastZc = 0 then q.commTime + q.rampT else q.expected + s.rd (Obj.ZC_LATE p) * q.t60 / 256

/-- The next commutation after a crossing (R254). -/
def State.commAfter (s : State) (p t : Nat) : Nat :=
  t + (s.getSpd p).t60 * (128 - s.rd (Obj.COMM_ADVANCE p)) / 256

/-- DUTY_CAP from the usable window (R255). -/
def State.capStep (s : State) (p w : Nat) : State :=
  let t := (s.getSpd p).t60 * s.rd (Obj.WINDOW_MIN p)
  let cap := s.rd (Obj.DUTY_CAP p)
  let s := if w * 256 < t then s.wr (Obj.DUTY_CAP p) (cap - 64)
    else if 2 * t ≤ w * 256 then s.wr (Obj.DUTY_CAP p) (min 4095 (cap + 16)) else s
  s.modSpd p (fun q => { q with duty := min q.duty (s.rd (Obj.DUTY_CAP p)) })

/-- Whether a spindle's windings are read for windows: commutating. -/
def SpdSt.commutates (q : SpdSt) : Bool :=
  match q.st with
  | .ramp | .accelBemf | .accelCt | .pullIn | .locked | .bemfHold => true
  | .recatch => q.restarted
  | _ => false

/-! ## The phase error (R246, R248, R270) -/

/-- e_φ as ns of lateness, wrapped to (−T/2, +T/2] of the reference period. The period is 60 × 10^9 / SWEEP_RPM ns, so the
wrap is made on 2 × lateness × SWEEP_RPM. -/
def wrapLate (rpm : Nat) (late : Int) : Int :=
  let t : Int := 60000000000
  let x := (late * rpm) % t
  let y := if 2 * x ≤ t then x else x - t
  if rpm = 0 then 0 else openDiv y rpm

/-- The lateness of an index, taken from an edge of the sweep reference (R246, R248), in ns. -/
def State.lateness (s : State) (t : Int) : Int := wrapLate s.rpm (t - (20 * s.sweepRef / 4294967296 : Nat))

/-- PHASE_ERR and the phase error in force. -/
def State.phaseSet (s : State) (p : Nat) (e : Int) : State :=
  (s.wr (Obj.PHASE_ERR p) ((openDiv (360000 * e * s.rpm) 60000000000) % 4294967296).toNat).modSpd p (fun q => { q with phErr := e })

/-- The last crossing, in ns since power-on: 64 units of 1/256 frame to the µs. -/
def SpdSt.zcTime (q : SpdSt) : Int := q.zero + (q.lastZc * 1000 / 64 : Nat)

/-- A crossing counted since the last index. In BEMF_HOLD the index of a revolution, 6 × POLE_PAIRS crossings after the last, is
predicted as far after its crossing as the last index measured was (R270). -/
def State.zcCount (s : State) (p : Nat) : State :=
  let q := s.getSpd p
  if q.sinceIdx + 1 < 6 * s.rd (Obj.POLE_PAIRS p) || q.st ≠ .bemfHold then s.modSpd p (fun q => { q with sinceIdx := q.sinceIdx + 1 })
  else (s.phaseSet p (s.lateness (q.zcTime + q.idxLag))).modSpd p (fun q => { q with sinceIdx := 0 })

/-! ## Rotor loss and failed starts (R254, R260, R269) -/

/-- A start or a re-catch fails (R260). -/
def State.startFail (s : State) (p : Nat) (cause : PortCause) : State :=
  let s := (s.incSave (Obj.START_FAILURES p)).raise (.spd p) [.SPD_START_FAIL]
  s.portFail p cause

/-- A re-catch attempt begins, or none is left (R269): three at most. -/
def State.recatchNext (s : State) (p : Nat) : State :=
  let q := s.getSpd p
  if 3 ≤ q.attempts + 1 then s.startFail p .rotorLost
  else s.modSpd p (fun q => { q with
    attempts := q.attempts + 1, tryAt := s.now, restarted := false, seen := [], bridge := .coast, duty := 0, commAt := none, run := 0 })

/-- The rotor is lost (R254, R269): coast, gates off, sectors in flight void, RECATCH. -/
def State.rotorLost (s : State) (p : Nat) : State :=
  let s := (s.incSave (Obj.ROTOR_LOSSES p)).raise (.spd p) [.SPD_ROTOR_LOST]
  (s.dropInFlight p).recatchEnter p

/-- A re-catch succeeds (R269): ACCEL_BEMF, coming up until the next lock. -/
def State.recatchDone (s : State) (p : Nat) : State :=
  let q := s.getSpd p
  let s := (s.spdTo p .accelBemf).modSpd p (fun n => { n with
    caught := true, bridge := q.bridge, duty := q.duty, clampAt := q.clampAt, commAt := q.commAt, judged := q.judged })
  (s.incSave (Obj.RECATCHES p)).stopTry p

/-! ## Motor telemetry (R250, R253, R262, R269) -/

/-- MEASURE decides (R259, R262). -/
def State.measureStep (s : State) (p : Nat) : State :=
  let q := s.getSpd p
  match sixOrder q.seen with
  | none => s
  | some fwd =>
    let v := sixSpeed (s.rd (Obj.POLE_PAIRS p)) q.seen
    let s := s.wr (Obj.SPEED_NOW p) v
    let s := s.wr (Obj.DIRECTION_SEEN p) (if fwd then 1 else 2)
    if !fwd then
      let s := (s.incSave (Obj.REVERSE_BRAKES p)).raise (.spd p) [.SPD_REVERSE_SEEN]
      s.spdTo p .brakeToRest
    else if 50 * s.rpm < v then s.spdTo p .trackForward
    else s.spdTo p .coastToRest

/-- A rotor tracked forward: its speed, and COAST_TO_REST at 5 % (R259). -/
def State.trackSpin (s : State) (p : Nat) : State :=
  let q := s.getSpd p
  let (_, t0) := q.seen.headD (0, 0)
  let t1 := ((q.seen[1]?).getD (0, t0)).2
  let gap := max (t0 - t1) (q.frame * 256 - t0)
  let v := speedOf (s.rd (Obj.POLE_PAIRS p)) gap gap
  let s := s.wr (Obj.SPEED_NOW p) v
  if v ≤ 50 * s.rpm then s.spdTo p .coastToRest else s

/-- A re-catch attempt reads crossings in coast (R269): forward above 5 % commutation starts, any other result fails it. -/
def State.recatchRead (s : State) (p : Nat) : State :=
  let q := s.getSpd p
  match sixOrder q.seen with
  | none => s
  | some fwd =>
    let v := sixSpeed (s.rd (Obj.POLE_PAIRS p)) q.seen
    let s := s.wr (Obj.SPEED_NOW p) v
    let s := if v < 900 * s.rpm then (s.srvRetract p 0).srvRetract p 1 else s
    if fwd && 50 * s.rpm < v then (s.catchRotor p).modSpd p (fun q => { q with restarted := true })
    else s.recatchNext p

/-- A valid crossing (R253-R255): the interval, the next commutation, DUTY_CAP, and what the run of crossings completes. -/
def State.zcValid (s : State) (p t opened : Nat) : State :=
  let q := s.getSpd p
  let w := q.expected - opened
  let s := s.modSpd p (fun q => { q with
    int2 := if q.lastZc = 0 then q.rampT else q.int1, int1 := if q.lastZc = 0 then q.rampT else t - q.lastZc
    lastZc := t, run := q.run + 1, missRun := 0, judged := true })
  let s := s.zcCount p
  let s := s.modSpd p (fun q => { q with commAt := if q.st = .ramp then q.commAt else some (s.commAfter p t) })
  let s := (s.capStep p w).wr (Obj.SPEED_NOW p) (s.zcSpeed p)
  let q := s.getSpd p
  match q.st with
  | .ramp =>
    if 12 ≤ q.run then
      let s := (s.spdTo p .accelBemf).modSpd p (fun n => { n with
        judged := true, commAt := some (s.commAfter p t) })
      s.stopTry p
    else s
  | .recatch =>
    let s := if s.zcSpeed p < 900 * s.rpm then (s.srvRetract p 0).srvRetract p 1 else s
    if 12 ≤ q.run then s.recatchDone p else s
  | _ => s

/-- A transition in a drive state (R253): valid when it is the floating winding's forward crossing inside the open window. -/
def State.zcDrive (s : State) (p i t : Nat) : State :=
  let q := s.getSpd p
  match s.windowStart p with
  | none => s
  | some o =>
    if !q.judged && i == q.phase && decide (o ≤ t) && decide (t ≤ s.windowEnd p) then s.zcValid p t o else s

/-- Current back to the supply (R257): below −50 mA in two frames running, coast for the rest of the drive state. -/
def State.regenStep (s : State) (p : Nat) (i : Int) : State :=
  let q := s.getSpd p
  let n := if q.st.driven && i < -10 then q.regen + 1 else 0
  let s := s.modSpd p (fun q => { q with regen := n })
  if n = 2 then
    (((s.modSpd p (fun q => { q with bridge := .coast })).incSave (Obj.REGEN_BLOCKS p)).raise (.spd p) [.SPD_REGEN_BLOCK])
  else s

/-- The standstill test starts anew on a transition of any winding, or where BEMF_AMP is not below 1 % of BEMF_TARGET (R263). -/
def State.quietStep (s : State) (p : Nat) (b : MotorTlm) : State :=
  if b.zc.isSome || decide (s.rd (Obj.BEMF_TARGET p) ≤ 100 * b.bemf.toNat) then s.modSpd p (fun q => { q with quietFrom := s.now }) else s

/-- The bridge while it brakes (R263, R271): a probe coasts from 10 ms after the last one began, and the DUTY of pulsed brake is set
in each frame to hold the phase current at or below BRAKE_IMAX, in a way that the spec leaves to the part. -/
def State.brakeFrame (s : State) (p : Nat) : State :=
  s.modSpd p (fun q =>
    if q.st ≠ .brakeToRest && q.st ≠ .stopping then q
    else if q.probeAt + 10000 ≤ s.now then { q with bridge := .coast, duty := 0 }
    else if q.bridge = .pulsedBrake then
      { q with duty := (Config.brakeDuty (s.rd (Obj.BRAKE_IMAX p)) (5 * q.iPhase).natAbs q.duty).toNat }
    else q)

/-- The block of the next command slot (R249): the next drive state with its moment once that lies within the frame after, else what
drives the windings now. -/
def State.motorCmd (s : State) (p : Nat) : MotorCmd :=
  let q := s.getSpd p
  match q.commAt with
  | some t =>
    if q.commutates && decide (t < (q.frame + 2) * 256) then
      { bridge := .drive ((q.phase + 1) % 6), duty := q.duty
        apply := some (((s.getLine (sideKey s.pair.active p)).frame + t / 256 - q.frame) % 256, t % 256) }
    else { bridge := q.bridge, duty := q.duty }
  | none => { bridge := q.bridge, duty := q.duty }

/-- The block sent. -/
def State.motorSend (s : State) (p : Nat) : State :=
  let m := s.motorCmd p
  s.modSpd p (fun q => { q with sent := m })

/-- What a good motor telemetry block does (R250, R253, R262). -/
def State.motorTlm (s : State) (p : Nat) (q0 : SpdSt) (b : MotorTlm) : State :=
      let s := s.modSpd p (fun q => { q with
        iPhase := b.iPhase.toInt, iBus := b.iBus.toInt, vBus := b.vBus.toNat, bemf := b.bemf.toNat })
      let s := (s.quietStep p b).brakeFrame p
      let s := s.regenStep p b.iBus.toInt
      let s := match b.zc with
        | none => s
        | some (ph, up, t) =>
          let i := zcIndex ph up
          let at_ := q0.frame * 256 + t.toNat - 256
          if i = 6 then s
          else if q0.commutates then s.zcDrive p i at_
          else
            let s := s.modSpd p (fun q => { q with seen := ((i, at_) :: q.seen).take 6 })
            match q0.st with
            | .measure => s.measureStep p
            | .recatch => s.recatchRead p
            | _ => s
      let s := if (s.getSpd p).st = .trackForward then s.trackSpin p else s
      if !b.clamp then s.modSpd p (fun q => { q with
          clampAt := if q.commutates && q.clampAt.isNone then some (q0.frame * 256) else q.clampAt })
      else s

/-- A motor frame (R249, R250, R253, R262): it ends with the block received on a side, and the next one begins
with a command block. While the motor lane is out no window is open (R269). -/
def State.motorBlock (s : State) (p : Nat) (w : Option (BitVec 64)) : State :=
  let q0 := s.getSpd p
  let s := s.modSpd p (fun q => { q with frame := q.frame + 1 })
  match w.bind motorTelemetry with
  | none => s.motorSend p
  | some b => if !s.laneUp p 15 || q0.st = .idle then s.motorSend p else (s.motorTlm p q0 b).motorSend p

/-- MOTOR_TELEMETRY_BLOCK (R249, R250, R273): the block that each side has received in a frame. -/
def execMotorTelemetryBlock (p : PortId) (w other : Option (BitVec 64)) (s : State) : Host.Outcome State Fault Refusal :=
  (s.shadowSpin (s.motorBlock p w) p (fun t => t.motorBlock p other)).conclude

/-- Whether a spindle has been in its state for a time in µs. -/
def State.spdFor (s : State) (p t : Nat) : Bool := decide ((s.getSpd p).since + t ≤ s.now)

/-- MEASURE_TIMEOUT (R259, R262): the direction counts as not found. -/
def execMeasureTimeout (p : PortId) (s : State) : Host.Outcome State Fault Refusal :=
  (if (s.getSpd p).st = .measure && s.spdFor p 250000 then (s.wr (Obj.DIRECTION_SEEN p) 0).spdTo p .coastToRest else s).conclude

/-- ZC_WINDOW_CLOSE (R253, R254): a window closes without a valid crossing. In RAMP the run starts anew; in a re-catch the
attempt fails at the second miss; elsewhere the second miss is the loss of the rotor. -/
def State.zcMissed (s : State) (p : Nat) : State :=
  let q := s.getSpd p
  if !q.commutates || q.judged || !s.laneUp p 15 || decide (q.frame * 256 < s.windowEnd p) then s
  else if q.st = .ramp then s.modSpd p (fun q => { q with run := 0, lastZc := 0, judged := true })
  else
    let t := q.expected
    let s := (s.incSave (Obj.ZC_MISSES p)).raise (.spd p) [.SPD_ZC_MISS]
    let s := s.modSpd p (fun q => { q with
      lastZc := t, commAt := some (s.commAfter p t), run := 0, missRun := q.missRun + 1, judged := true })
    let s := s.zcCount p
    if q.missRun + 1 < 2 then s
    else if q.st = .recatch then s.recatchNext p
    else s.rotorLost p

def execZcWindowClose (p : PortId) (s : State) : Host.Outcome State Fault Refusal :=
  (s.shadowSpin (s.zcMissed p) p (fun t => t.zcMissed p)).conclude

/-- The next open-loop state of RAMP (R264): its length makes the electrical frequency rise by RAMP_ACCEL Hz per second. The
lengths are in 1/64 µs. -/
def rampNext (t a : Nat) : Nat := (openDiv (t * 4096000000000000 : Nat) (4096000000000000 + 6 * a * t * t)).toNat

/-- COMMUTATION (R252, R254, R264): the next drive state at its scheduled moment. -/
def State.commutate (s : State) (p : Nat) : State :=
  let q := s.getSpd p
  match q.commutates, q.commAt with
  | true, some t =>
    if (q.frame + 1) * 256 < t then s
    else
    let k := (q.phase + 1) % 6
    let n := rampNext q.rampT (s.rd (Obj.RAMP_ACCEL p))
    s.modSpd p (fun q => { q with
      phase := k, bridge := .drive k, commTime := t, clampAt := none, judged := false, regen := 0
      rampT := if q.st = .ramp then n else q.rampT
      commAt := if q.st = .ramp then some (t + n) else none })
  | _, _ => s

def execCommutation (p : PortId) (s : State) : Host.Outcome State Fault Refusal :=
  .next (s.shadowSpin (s.commutate p) p (fun t => t.commutate p))

/-! ## Duty (R255-R257, R265, R266) -/

/-- The pull of the phase error on the speed reference, in 10^-9 of it (R266, R267): PH_GAIN ppm per degree, within 0.5 %. -/
def State.pull (s : State) (p : Nat) : Int :=
  clampI (-5000000) 5000000
    (openDiv ((s.rd (Obj.PH_GAIN p) : Int) * 360 * (s.getSpd p).phErr * s.rpm) 60000000)

/-- The speed that the loop runs on (R266, R270), in 1/1000 rpm. -/
def State.loopSpeed (s : State) (p : Nat) : Nat :=
  match (s.getSpd p).st with
  | .accelCt | .pullIn | .locked => (s.getSpd p).ctSpeed
  | _ => s.zcSpeed p

/-- The speed loop (R266): the new integrator, and the request before the clamp to DUTY_CAP. Errors are in 10^-9 rpm, the
integrator in DUTY / (256 × 10^9). -/
def State.speedLoop (s : State) (p : Nat) : Int × Int :=
  let q := s.getSpd p
  let pulls := q.st == .pullIn || q.st == .locked || q.st == .bemfHold
  let ref : Int := s.rpm * (1000000000 + if pulls then s.pull p else 0)
  let err := ref - s.loopSpeed p * 1000000
  let cap : Int := s.rd (Obj.DUTY_CAP p) * 256000000000
  let step := s.rd (Obj.SPD_KI p) * err
  let held := s.bit (Obj.SPD_STATUS p) Flag.SPD_VOLTAGE_LIMIT.bit && decide (0 < step)
  let integ := if held then q.integ else clampI 0 cap (q.integ + step)
  (integ, openDiv (integ + s.rd (Obj.SPD_KP p) * err) 256000000000)

/-- VOLTAGE_LIMIT (R256): the request above DUTY_CAP for a revolution; it clears after one at or below. -/
def State.voltageStep (s : State) (p : Nat) (high : Bool) : State :=
  let q := s.getSpd p
  let rev := 60000000 / s.rpm
  if high then
    let t := q.overFrom.getD s.now
    let s := s.modSpd p (fun q => { q with overFrom := some t, underFrom := none })
    if rev ≤ s.now - t && !s.bit (Obj.SPD_STATUS p) Flag.SPD_VOLTAGE_LIMIT.bit then s.raise (.spd p) [.SPD_VOLTAGE_LIMIT] else s
  else
    let t := q.underFrom.getD s.now
    let s := s.modSpd p (fun q => { q with underFrom := some t, overFrom := none })
    if rev ≤ s.now - t && s.bit (Obj.SPD_STATUS p) Flag.SPD_VOLTAGE_LIMIT.bit then s.lower (.spd p) .SPD_VOLTAGE_LIMIT else s

/-- MOD_LIMITED follows its condition (R255). -/
def State.modStep (s : State) (p : Nat) : State :=
  let cap := s.rd (Obj.DUTY_CAP p)
  let on := s.bit (Obj.SPD_STATUS p) Flag.SPD_MOD_LIMITED.bit
  if decide (cap < 4095) && (s.getSpd p).duty == cap then
    if on then s else (s.incSave (Obj.MOD_LIMIT_EVENTS p)).raise (.spd p) [.SPD_MOD_LIMITED]
  else if on then s.lower (.spd p) .SPD_MOD_LIMITED else s

/-- The bridge input power is below the spin-up figure (R265, R442), the lower of the grant's and the module's own. -/
def State.powerRoom (s : State) (p : Nat) : Bool :=
  let q := s.getSpd p
  let w := match s.casc.held.find? (fun t => t.port = p) with
    | some t => min t.surge (s.rd Obj.SPINDLE_SURGE)
    | none => s.rd Obj.SPINDLE_SURGE
  !q.granted || decide (q.vBus * q.iBus < 10000 * w)

/-- The request applied (R256, R257): below the back-EMF duty the bridge coasts until the next update. -/
def State.applyDuty (s : State) (p : Nat) (request : Int) : State :=
  let cap := s.rd (Obj.DUTY_CAP p)
  let q := s.getSpd p
  let d0 := (clampI 0 cap request).toNat
  let d := if s.powerRoom p then d0 else min d0 q.duty
  let s := s.voltageStep p (decide ((cap : Int) < request))
  let low := decide (request < (s.dBemf p (s.loopSpeed p) : Nat))
  (s.modSpd p (fun q => { q with
    duty := d, bridge := if low || 2 ≤ q.regen then .coast else .drive q.phase })).modStep p

/-- The speed is within ±0.5 % of SWEEP_RPM (R259). -/
def State.nearSpeed (s : State) (v : Nat) : Bool := decide (995 * s.rpm ≤ v) && decide (v ≤ 1005 * s.rpm)

/-- What a duty update does (R257, R265, R266, R270). -/
def State.dutyUpdate (s : State) (p : Nat) : State :=
  let q := s.getSpd p
  match q.st with
  | .accelBemf =>
    let cap := s.rd (Obj.DUTY_CAP p)
    let v := s.zcSpeed p
    let s := s.wr (Obj.SPEED_NOW p) v
    s.applyDuty p (if s.powerRoom p && decide (v < 1000 * s.rpm) then min cap (q.duty + 8) else q.duty)
  | .accelCt | .pullIn | .locked | .bemfHold =>
    let (i, r) := s.speedLoop p
    let s := (s.modSpd p (fun q => { q with integ := i })).wr (Obj.SPEED_NOW p) (s.loopSpeed p)
    let s := s.applyDuty p r
    if q.st = .accelCt && s.nearSpeed q.ctSpeed then s.spdTo p .pullIn else s
  | _ => s

/-- DUTY_UPDATE (R265): once every 64 motor frames. -/
def State.dutyDue (s : State) (p : Nat) : State :=
  if (s.getSpd p).frame < (s.getSpd p).dutyAt + 64 then s
  else (s.dutyUpdate p).modSpd p (fun q => { q with dutyAt := (s.getSpd p).frame })

def execDutyUpdate (p : PortId) (s : State) : Host.Outcome State Fault Refusal :=
  (s.shadowSpin (s.dutyDue p) p (fun t => t.dutyDue p)).conclude

/-! ## Phase lock (R248, R267, R268) -/

/-- |e_φ| compared with a bound in 1/100 degree: 360 × late × rpm / (60 × 10^9) degrees. -/
def phaseWithin (rpm : Nat) (late : Int) (c : Nat) : Bool := decide (late.natAbs * rpm * 36000 ≤ c * 60000000000)

/-- The spindle locks (R258-R260, R268, R443): SPINUP_TIME of a spin-up, and CALIBRATING for a port that came up. -/
def State.spdLock (s : State) (p : Nat) : State :=
  let q := s.getSpd p
  let s := if q.granted then s.wr (Obj.SPINUP_TIME p) ((s.now - q.grantTime) / 1000) else s
  let s := s.spdTo p .locked
  let s := if s.mode.cur = .bringUp then s.wr Obj.T_LAST_LOCKED s.now else s
  let s := s.modPort p (fun t => { t with mediaHeld := false })
  if (s.getPort p).state = .spinningUp then
    let s := s.portTo p .calibrating .stepComplete
    s.portSettle p
  else s

/-- The phase of the index (R248): CT_INDEX_PHASE of head 0 of actuator 0 once adopted, before that CT_INDEX_NOMINAL. -/
def State.indexPhaseNow (s : State) (p : Nat) : Nat := (s.getSpd p).indexAt.getD (s.rd (Obj.CT_INDEX_NOMINAL p))

/-- The index time between two clock-track frames (R248), in ns: the moment at which the cycle count passes the phase of the index;
`none` when it lies elsewhere. -/
def State.indexTime (s : State) (p : Nat) (before after : CtStamp) : Option Nat :=
  let ct := s.rd (Obj.CT_CYCLES_PER_REV p)
  let n := (after.cycles - before.cycles).toNat
  let d := (s.indexPhaseNow p % ct + ct - before.cycles.toNat % ct) % ct
  if ct = 0 ∨ d = 0 ∨ n < d then none
  else some (before.time + (openDiv ((after.time - before.time) * d : Nat) n).toNat)

/-- What the index at a time in ns does (R248, R259, R267). -/
def State.spdIndex (s : State) (p t : Nat) : State :=
  let e := s.lateness t
  let s := s.modSpd p (fun q => { q with idxLag := t - q.zcTime, sinceIdx := 0 })
  let q := s.getSpd p
  match q.st with
  | .accelCt | .pullIn | .locked =>
    let s := s.phaseSet p e
    if q.st = .pullIn then
      let n := if phaseWithin s.rpm e 35 then q.inPhase + 1 else 0
      let s := s.modSpd p (fun q => { q with inPhase := n })
      if 16 ≤ n then s.spdLock p else s
    else if q.st = .locked && !phaseWithin s.rpm e 50 then
      ((s.spdTo p .pullIn).incSave (Obj.LOCK_LOSSES p)).raise (.spd p) [.SPD_LOCK_LOST]
    else s
  | _ => s

/-- SPINDLE_INDEX (R248): the index between two clock-track frames of a port, timed and judged. -/
def State.indexSeen (s : State) (p : Nat) (before after : CtStamp) : State :=
  match s.indexTime p before after with
  | some t => s.spdIndex p t
  | none => s

def execSpindleIndex (p : PortId) (before after : CtStamp) (s : State) : Host.Outcome State Fault Refusal :=
  (s.shadowSpin (s.indexSeen p before after) p (fun t => t.indexSeen p before after)).conclude

/-! ## Braking and stopping (R259, R263, R271) -/

/-- The bridge between probes (R263, R271): pulsed brake while BEMF_AMP is at least 20 % of BEMF_TARGET, else short-brake. -/
def State.brakeWith (s : State) (p bemf : Nat) : State :=
  s.modSpd p (fun q => { q with
    bemf := bemf, bridge := if s.rd (Obj.BEMF_TARGET p) ≤ 5 * bemf then .pulsedBrake else .shortBrake })

/-- Standstill at the end of a controlled stop (R62, R74, R271): IDLE, and the port at PRESENT or OFFLINE. -/
def State.stopped (s : State) (p : Nat) : State :=
  let s := s.spdTo p .idle
  if (s.getPort p).state ≠ .spinningDown then s
  else
    let off := (s.getPort p).downOffline
    (s.portTo p (if off then .offline else .present) (if off then .portCommand else .modeChange)).portSettle p

/-- What the end of a probe does (R259, R263, R271). -/
def State.brakeProbe (s : State) (p bemf : Nat) : State :=
  let q := s.getSpd p
  let target := s.rd (Obj.BEMF_TARGET p)
  match q.st with
  | .brakeToRest => if bemf * 50 < target then s.spdTo p .coastToRest else s.brakeWith p bemf
  | .stopping =>
    let n := if bemf * 100 < target then q.still + 1 else 0
    if 2 ≤ n then s.stopped p else (s.brakeWith p bemf).modSpd p (fun q => { q with still := n })
  | _ => s

/-- BRAKE_PROBE (R263): a probe of 1 ms ends with the BEMF_AMP that telemetry reports; the next one begins 10 ms after it began. -/
def State.probeEnd (s : State) (p : Nat) : State :=
  let q := s.getSpd p
  if s.now < q.probeAt + 11000 then s
  else (s.modSpd p (fun q => { q with probeAt := q.probeAt + 10000 })).brakeProbe p q.bemf

def execBrakeProbe (p : PortId) (s : State) : Host.Outcome State Fault Refusal :=
  (s.shadowSpin (s.probeEnd p) p (fun t => t.probeEnd p)).conclude

/-- STANDSTILL_TEST (R259, R263): quiet for 200 ms, AT_REST, and a token is requested (R440). -/
def execStandstillTest (p : PortId) (s : State) : Host.Outcome State Fault Refusal :=
  (if (s.getSpd p).st = .coastToRest && decide ((s.getSpd p).quietFrom + 200000 ≤ s.now) then (s.wr (Obj.SPEED_NOW p) 0).spdTo p .atRest else s).conclude

/-- COAST_MAX_EXPIRY (R259). -/
def execCoastMaxExpiry (p : PortId) (s : State) : Host.Outcome State Fault Refusal :=
  (if (s.getSpd p).st = .coastToRest && s.spdFor p (1000 * s.rd (Obj.COAST_MAX p)) then s.spdTo p .brakeToRest else s).conclude

/-! ## Starts (R259-R261, R264) -/

/-- ALIGN_TIME_EXPIRY (R259, R264): RAMP from drive state 1 on, its first state RAMP_T0 long. -/
def State.rampStart (s : State) (p : Nat) : State :=
  let t := s.rd (Obj.RAMP_T0 p) * 64
  (s.spdTo p .ramp).modSpd p (fun q => { q with
    phase := 1, bridge := .drive 1, duty := s.rd (Obj.RAMP_DUTY p), rampT := t, commTime := q.frame * 256
    commAt := some (q.frame * 256 + t), lastZc := 0, int1 := 0, int2 := 0 })

def execAlignTimeExpiry (p : PortId) (s : State) : Host.Outcome State Fault Refusal :=
  (if (s.getSpd p).st = .align && s.spdFor p (1000 * s.rd (Obj.ALIGN_TIME p)) then s.rampStart p else s).conclude

/-- RAMP_MAX_EXPIRY (R259, R260): a new alignment, or at the third time of a grant a failed start. -/
def State.rampFail (s : State) (p : Nat) : State :=
  let q := s.getSpd p
  if q.st ≠ .ramp || !s.spdFor p (1000 * s.rd (Obj.RAMP_MAX p)) then s
  else if 3 ≤ q.rampFails + 1 then s.startFail p .rotorLost
  else
    (s.spdTo p .align).modSpd p (fun q => { q with
      rampFails := q.rampFails + 1, bridge := .drive 0, phase := 0, duty := s.rd (Obj.ALIGN_DUTY p), commAt := none })

def execRampMaxExpiry (p : PortId) (s : State) : Host.Outcome State Fault Refusal := (s.rampFail p).conclude

/-- SPINUP_TIMEOUT (R260): 14 s after the grant without LOCKED. -/
def execSpinupTimeout (p : PortId) (s : State) : Host.Outcome State Fault Refusal :=
  (if (s.getSpd p).granted && decide ((s.getSpd p).grantTime + 14000000 ≤ s.now) then s.startFail p (if (s.getSpd p).ctReached then .rotorLost else .ctNotRestored) else s).conclude

/-- RECATCH_ATTEMPT_TIMEOUT (R269): the attempt has found no direction in 500 ms. -/
def execRecatchAttemptTimeout (p : PortId) (s : State) : Host.Outcome State Fault Refusal :=
  (if (s.getSpd p).st = .recatch && !(s.getSpd p).restarted && decide ((s.getSpd p).tryAt + 500000 ≤ s.now) then s.recatchNext p else s).conclude

/-- RECATCH_TIMEOUT (R260, R269): 1.5 s without a re-catch. -/
def execRecatchTimeout (p : PortId) (s : State) : Host.Outcome State Fault Refusal :=
  (if (s.getSpd p).st = .recatch && s.spdFor p 1500000 then s.startFail p .rotorLost else s).conclude

/-! ## The sweep reference (R246, R247, R277) -/

/-- SWEEP_RPM_WRITE (R247, R277): stored at once, in effect when no spindle is driven. -/
def execSweepRpmWrite (q : Requester) (u : UnitId) (v : BitVec 16) (s : State) : Host.Outcome State Fault Refusal :=
  .next (s.tryKey q u Obj.SWEEP_RPM (leBytes 2 v.toNat) 0 (fun s => (s.save Obj.SWEEP_RPM v.toNat).rpmTake))

/-- The timers that TIMER_SWEEP selects pulse at an edge of the sweep reference (R395). -/
def State.sweepTimers (s : State) (u : UnitId) : State :=
  if !(s.unitSt u).fwRunning then s
  else
    s.forEach ((List.range 8).filter (fun t => (s.rd (Obj.TIMER_SWEEP u)).testBit t)) (fun s t => s.pulse u (0x68 + t))

/-- SWEEP_REFERENCE_EDGE (R246): one edge every 60 / SWEEP_RPM seconds, accumulated in ticks of 20 ns with 32 fractional
bits. -/
def execSweepReferenceEdge (s : State) : Host.Outcome State Fault Refusal :=
  let s := s.inc Obj.SWEEP_COUNT
  let s := { s with sweepRef := s.sweepRef + 3000000000 * 4294967296 / s.rpm }
  .next ((s.sweepTimers .A).sweepTimers .B)

end Sys2Proof.Machine
end

