-- ==== Sys2Proof/Machine/Port.lean ====
section
/-! DEFINITION. HDA ports: low-speed lines with their filters (R57-R72), presence and removal, FLTn, lane training and
retraining (R51-R54), the clock track (R49, R70, R71), telemetry headers (R48), PORT_COMMAND (R74, R75, R617). -/

namespace Sys2Proof.Machine

/-! ## FLTn and presence (R68, R69, R74, R76, R521) -/

/-- The port isolated (R69): PEN low, SPIN retract-then-brake, FAILED with cause 05h. -/
def State.isolate (s : State) (p : Nat) : State :=
  if (s.getPort p).state.inPower then (s.raise (.lines p) [.PORT_FLT_ISOLATED]).portFail p .fltIsolation else s

/-- The fault code read into FLT_CODE (R68, R521): PN2_FAULT with the class of the code; a Severe or Grave code isolates the port
at once. -/
def State.readCode (s : State) (p code : Nat) : State :=
  let c : FaultClass := code / 16384 % 4
  let s := (s.wr (Obj.FLT_CODE p) code).modPort p (fun q => { q with codeRead := true })
  let s := s.raise (.lines p) [.PORT_PN2_FAULT] (some c)
  if severe ≤ c then s.isolate p else s

/-- FLTn filtered-asserted as the active unit acts on it (R68): in POWERING it is no fault; from TRAINING on the gates go off, media
planning stops and the code is to be read. -/
def State.fltOn (s : State) (p : Nat) : State :=
  let st := (s.getPort p).state
  if st.inPower && st != .powering then
    (s.cutPort p).modPort p (fun q => { q with fltStop := true, codeRead := false })
  else s

/-- FLTn filtered-released (R51, R69, R74): lane training begins on a POWERING port. -/
def State.fltOff (s : State) (p : Nat) : State :=
  if (s.getPort p).state = .powering then
    s.portTo p .training .stepComplete
  else s

/-- The HDA removed (R74, R520): HDA_REMOVED unless the port was OFFLINE. -/
def State.removed (s : State) (p : Nat) : State :=
  let s := s.forEach [0, 1] (fun s a => s.modChan (chanKey p a) (fun c => { c with sys := [], void := [], headFails := [], degraded := [] }))
  match (s.getPort p).state with
  | .empty => s
  | .offline => s.portTo p .empty .removed
  | _ => ((s.cutPort p).raise (.lines p) [.PORT_HDA_REMOVED]).portTo p .empty .removed

/-- A filtered input of a unit takes a level (R66); only the unit that holds TOKEN acts on it (R72). -/
def State.inputTo (s : State) (u : UnitId) (p : Nat) (i : LineInput) (level : Bool) : State :=
  let k := sideKey u p
  let set := fun (f : FiltSt) => { f with level := level, since := s.now }
  match i with
  | .fltn =>
    if (s.getLine k).flt.level = level then s
    else
      let s := s.modLine k (fun l => { l with flt := set l.flt })
      if u ≠ s.pair.active then s else if level then s.fltOn p else s.fltOff p
  | .prsn =>
    if (s.getLine k).prs.level = level then s
    else
      let s := s.modLine k (fun l => { l with prs := set l.prs })
      if u ≠ s.pair.active || level then s else s.removed p
  | .spinReadback =>
    if (s.getLine k).spin.level = level then s else s.modLine k (fun l => { l with spin := set l.spin })

/-- The filter of an input. -/
def LineSt.filt (l : LineSt) : LineInput → FiltSt
  | .fltn => l.flt
  | .prsn => l.prs
  | .spinReadback => l.spin

/-- The filter of an input changed by a function. -/
def LineSt.modFilt (l : LineSt) (i : LineInput) (f : FiltSt → FiltSt) : LineSt :=
  match i with
  | .fltn => { l with flt := f l.flt }
  | .prsn => { l with prs := f l.prs }
  | .spinReadback => { l with spin := f l.spin }

/-- FLTN_ASSERTED (R66, R68): FLTn has held low for 4 µs. -/
def execFltnAsserted (u : UnitId) (p : PortId) (s : State) : Host.Outcome State Fault Refusal :=
  let k := sideKey u p
  State.conclude (
    if (s.getLine k).flt.chatter then s
    else (s.modLine k (fun l => { l with flt := { l.flt with raw := true } })).inputTo u p .fltn true)

/-- FLTN_RELEASED (R51, R66, R68). In POWERING the PN2 has held FLTn asserted since PEN rose (R69), whatever was seen of it. -/
def execFltnReleased (u : UnitId) (p : PortId) (s : State) : Host.Outcome State Fault Refusal :=
  let k := sideKey u p
  State.conclude (
    if (s.getLine k).flt.chatter then s
    else
      let s := s.modLine k (fun l => { l with flt := { l.flt with raw := false, level := true } })
      s.inputTo u p .fltn false)

/-- FLTn of a port has been asserted for as long as R69 allows: 50 ms by the active unit's own count (R72), in POWERING from 20 ms
after PEN. -/
def State.fltDue (s : State) (p : Nat) : Bool :=
  let q := s.getPort p
  let f := (s.getLine (sideKey s.pair.active p)).flt
  if q.state = .powering then decide (q.entryTime + 70000 ≤ s.now) else f.level && decide (f.since + 50000 ≤ s.now)

/-- FLTN_ISOLATION (R69). -/
def execFltnIsolation (p : PortId) (s : State) : Host.Outcome State Fault Refusal :=
  State.conclude (if s.fltDue p then s.isolate p else s)

/-- PRSN_ASSERTED (R66, R74): the presence count of 1 s starts. -/
def execPrsnAsserted (u : UnitId) (p : PortId) (s : State) : Host.Outcome State Fault Refusal :=
  let k := sideKey u p
  State.conclude (
    if (s.getLine k).prs.chatter then s
    else (s.modLine k (fun l => { l with prs := { l.prs with raw := true } })).inputTo u p .prsn true)

/-- PRESENCE_CONFIRMED (R74, R76): PRESENT in every mode in which the part has power, or the state that PERSIST_STATE holds once it
has been read. -/
def execPresenceConfirmed (p : PortId) (s : State) : Host.Outcome State Fault Refusal :=
  State.conclude (
    if (s.getPort p).state ≠ .empty || !(s.getLine (sideKey s.pair.active p)).prs.level ||
        s.mode.cur = .unpowered then s
    else
      let n := s.rd (Obj.PERSIST_STATE p)
      let s := (s.portTo p .present .presence).modPort p (fun q => { q with confirmed := true })
      if n = 0x09 then s.portTo p .offline .powerApplied
      else if n = 0x0A then s.portTo p .failed .powerApplied
      else s)

/-- PRSN_DEASSERTED (R66, R74): removal. -/
def execPrsnDeasserted (u : UnitId) (p : PortId) (s : State) : Host.Outcome State Fault Refusal :=
  let k := sideKey u p
  State.conclude (
    if (s.getLine k).prs.chatter then s
    else (s.modLine k (fun l => { l with prs := { l.prs with raw := false } })).inputTo u p .prsn false)

/-- SPIN_MISMATCH (R60): the port becomes FAILED with cause 0Ah when the active unit sees it. -/
def execSpinMismatch (u : UnitId) (p : PortId) (readback : Option SpinCode) (s : State) : Host.Outcome State Fault Refusal :=
  let k := sideKey u p
  let s := s.modLine k (fun l => { l with readback := readback })
  let l := s.getLine k
  State.conclude (
    if u ≠ s.pair.active || (readback = some l.driven && !l.spin.chatter) then s
    else (s.raise (.lines p) [.PORT_SPIN_MISMATCH]).portFail p .spinMismatch)

/-! ## Chatter (R67) and disagreement (R72) -/

/-- RAW_EDGE (R67): the ninth edge within 64 µs enters the chatter state, in which the input counts as asserted; an input that was
filtered-asserted stays so, and its assertion goes on (R69; DEDUCED: log 109). Each unit counts its own inputs (R72). -/
def execRawEdge (u : UnitId) (p : PortId) (i : LineInput) (level : Bool) (s : State) : Host.Outcome State Fault Refusal :=
  let k := sideKey u p
  let f := (s.getLine k).filt i
  let edges := (s.now :: f.edges).filter (fun t => decide (s.now < t + 64))
  let s := s.modLine k (fun l => l.modFilt i (fun f => { f with raw := level, edges := edges.take 9 }))
  State.conclude (
    if f.chatter || edges.length < 9 then s
    else
      let s := s.modLine k (fun l => l.modFilt i (fun f => { f with chatter := true }))
      let s := s.inc (Obj.CHATTER_COUNT u p)
      let s := if u = s.pair.active then s.raise (.lines p) [.PORT_CHATTER] else s
      s.inputTo u p i true)

/-- CHATTER_EXIT (R67): the raw input has held one level for 64 µs, and the filtered level follows it again. -/
def execChatterExit (u : UnitId) (p : PortId) (i : LineInput) (s : State) : Host.Outcome State Fault Refusal :=
  let k := sideKey u p
  let f := (s.getLine k).filt i
  State.conclude (
    if !f.chatter then s
    else (s.modLine k (fun l => l.modFilt i (fun f => { f with chatter := false }))).inputTo u p i f.raw)

/-- The SPIN readback of a side is no match for the code it drives (R60, R80), or is taken as none in the chatter state (R67). -/
def LineSt.spinOff (l : LineSt) : Bool := l.spin.level || l.readback != some l.driven

/-- LINE_DISAGREE (R72): the filtered levels of FLTn, PRSn or the SPIN readback of the two units have differed for 1 ms. -/
def execLineDisagree (p : PortId) (s : State) : Host.Outcome State Fault Refusal :=
  let a := s.getLine (sideKey .A p)
  let b := s.getLine (sideKey .B p)
  State.conclude (
    if (s.unitSt .A).present && (s.unitSt .B).present &&
        (a.flt.level != b.flt.level || a.prs.level != b.prs.level || a.spinOff != b.spinOff) then
      s.raise (.lines p) [.PORT_LINE_DISAGREE]
    else s)

/-! ## Lane training (R42, R51-R53) and lanes in service (R54) -/

/-- READER_LINE_RATE in Mb/s (R42): the smallest multiple of 125 that is at least 1.01 × 3.609375 × fs_max. -/
def readerRate (fsMax : Nat) : Nat := 125 * ((364546875 * fsMax + 12500000000 - 1) / 12500000000)

/-- The lanes of a port by its number of actuators (R41). -/
def laneMask (acts : Nat) : Nat := if acts = 1 then 0xD50F else 0xFFFF

/-- Training of a side fails (R53): once more; then FAILED with cause 06h, when the side is that of the unit holding TOKEN. -/
def State.trainFail (s : State) (u : UnitId) (p : Nat) : State :=
  if (s.getLine (sideKey u p)).retried then
    if u = s.pair.active then (s.raise (.lines p) [.PORT_LANE_FAILED]).portFail p .laneFailure else s.lanesLost u p
  else (s.modLine (sideKey u p) (fun l => { l with retried := true, trainStep := 0, trainAt := s.now })).tokenLow u p

/-- The identity that the PN2 reports kept, and the reader line rate set (R42, R51 step 2). -/
def State.takeIdentity (s : State) (p : Nat) (i : HdaIdentity) : State :=
  let s := s.wrBlob (Obj.HDA_SERIAL p) (i.serial.take 20)
  let s := s.wr (Obj.PN2_STEPPING p) i.stepping.toNat
  let s := s.wr (Obj.ACTUATOR_COUNT p) i.acts
  let s := s.wr (Obj.HEADS_PER_ACTUATOR p) i.heads
  let s := s.wr (Obj.FS_MAX p) i.fsMax
  let s := s.wr (Obj.CT_CYCLES_PER_REV p) i.ctCycles
  let s := s.wr (Obj.POLE_PAIRS p) i.polePairs
  let s := s.wr (Obj.RATED_RPM p) i.ratedRpm
  let s := s.wr (Obj.BEMF_TARGET p) i.bemfTarget
  let s := s.wr (Obj.CT_INDEX_NOMINAL p) i.ctIndexNominal
  if 4800 < i.fsMax then s.trainFail s.pair.active p else s.wr (Obj.READER_LINE_RATE p) (readerRate i.fsMax)

/-- The sample counters of a port start at 0 when its lanes are trained (R45). -/
def State.countersZero (s : State) (p : Nat) : State :=
  s.forEach [0, 1] (fun s a => s.modChan (chanKey p a) (fun c => { c with sidx := 0, laneNext := [], laneHead := none, ctIndex := 0 }))

/-- Every lane of a side in service, with no block errors (R51). -/
def State.lanesIn (s : State) (u : UnitId) (p : Nat) : State :=
  let s := (s.lanesLost u p).forEach (List.range 16) (fun s n => s.wr (Obj.LANE_BLOCK_ERRORS u p n) 0)
  s.wr (Obj.LANES_IN_SERVICE u p) (laneMask (s.rd (Obj.ACTUATOR_COUNT p)))

/-- Training complete on the side of the unit holding TOKEN (R51, R74): LINKED, and the spindle measured. -/
def State.trained (s : State) (p : Nat) : State :=
  (((s.lanesIn s.pair.active p).countersZero p).portTo p .linked .stepComplete).measureTry p

/-- Whether a side trains its lanes (R51, R480): on the side of the unit holding TOKEN while the port is TRAINING; the other side of a
port under power trains on its own. -/
def State.trains (s : State) (u : UnitId) (p : Nat) : Bool :=
  let st := (s.getPort p).state
  if u = s.pair.active then st == .training
  else st.inPower && st != .powering && (s.unitSt u).present && !(s.unitSt u).inReset && s.rd (Obj.LANES_IN_SERVICE u p) == 0

/-- LANE_TRAINING_STEP (R50-R52, R65): steps complete in order on a side; step 1 may make it the PN2's first lane reference, step 2
reports the identity, step 5 the skew, and step 6 waits for WR_LOCK in telemetry. -/
def execLaneTrainingStep (u : UnitId) (p : PortId) (r : TrainReport) (s : State) : Host.Outcome State Fault Refusal :=
  let own := decide (u = s.pair.active)
  State.conclude (
    if !s.trains u p then s
    else
      let n := (s.getLine (sideKey u p)).trainStep + 1
      let s1 := s.modLine (sideKey u p) (fun l => { l with trainStep := n, trainAt := s.now })
      match n, r with
      | 1, .plain =>
        let s1 := s1.modPn2 p (fun q => { q with firstLane := some (q.firstLane.getD u) })
        if own then s1.tokenTry p else s1
      | 2, .identity i => if own then s1.takeIdentity p i else s1
      | 5, .skew b => if 32 < b then s1.trainFail u p else if own then s1.wr (Obj.DESKEW_MAX p) b else s1
      | 6, .plain => if (List.range (s.rd (Obj.ACTUATOR_COUNT p))).all (fun a => (s.getSrv (chanKey p a)).wrLock) then s1 else s
      | 3, .plain | 4, .plain => s1
      | 7, .plain => if own then s1.trained p else s1.lanesIn u p
      | _, _ => s)

/-- The bound of a step of R51, in µs. -/
def trainBound (step : Nat) : Nat := 1000 * [8, 2, 8, 15, 5, 8, 4].getD (step - 1) 0

/-- LANE_TRAINING_TIMEOUT (R53): the step in progress has overrun its bound. -/
def execLaneTrainingTimeout (u : UnitId) (p : PortId) (s : State) : Host.Outcome State Fault Refusal :=
  let l := s.getLine (sideKey u p)
  State.conclude (if s.trains u p && decide (l.trainAt + trainBound (l.trainStep + 1) < s.now) then s.trainFail u p else s)

/-- Block errors counted on a lane of a side, and those of its last second (R54, R79). -/
def State.countErrs (s : State) (u : UnitId) (p lane n : Nat) : State :=
  let k := Obj.LANE_BLOCK_ERRORS u p lane
  (s.wr k (min 0xFFFFFFFF (s.rd k + n))).modLine (sideKey u p) (fun l =>
    { l with laneErrs := ((lane, s.now, n) :: l.laneErrs).filter (fun e => decide (s.now < e.2.1 + 1000000)) })

/-- Block errors of a lane in the last second. -/
def LineSt.errs (l : LineSt) (lane : Nat) : Nat := ((l.laneErrs.filter (fun e => e.1 == lane)).map (fun e => e.2.2)).sum

/-- LANE_FAIL (R54): the lane fails when it has lost block lock, or its errors of a second exceed LANE_ERR_LIMIT. -/
def execLaneFail (u : UnitId) (p : PortId) (lane : Fin 16) (lost : Bool) (errors : BitVec 32) (s : State) :
    Host.Outcome State Fault Refusal :=
  State.conclude (
    if !s.laneUpOn u p lane then s
    else
      let s := s.countErrs u p lane errors.toNat
      if lost || decide (s.rd (Obj.LANE_ERR_LIMIT p) < (s.getLine (sideKey u p)).errs lane) then s.laneFail u p lane else s)

/-- LANE_RETRAIN_COMPLETE (R54, R65, R269): back in service; with the motor lane TOKEN may rise and a driven spindle is caught
again, with no attempt counted. -/
def execLaneRetrainComplete (u : UnitId) (p : PortId) (lane : Fin 16) (s : State) : Host.Outcome State Fault Refusal :=
  State.conclude (
    if !(s.getLine (sideKey u p)).retraining.contains lane.val then s
    else
      let s := (s.modLine (sideKey u p) (fun l => { l with retraining := l.retraining.filter (· != lane.val) })).setBit
        (Obj.LANES_IN_SERVICE u p) lane true
      let s := s.incSave (Obj.RETRAIN_COUNT p)
      if lane.val ≠ 15 || u ≠ s.pair.active then s
      else
        let s := s.tokenTry p
        let st := (s.getSpd p).st
        if st.driven || st = .recatch then s.recatchEnter p else s)

/-! ## The clock track (R49, R70, R71, R266, R270) -/

/-- The clock track as the active unit counts it (R72). -/
def State.ctSt (s : State) (p : Nat) : CtState := (s.getLine (sideKey s.pair.active p)).ct

/-- The loss of the clock track declared on a side (R70). -/
def LineSt.ctLose (l : LineSt) (t : Nat) : LineSt := { l with ct := .lost, ctSince := t, ctGood := 0, ctBad := 0 }

/-- Spindle states in which the count of a window is held against an expected one (R70): from ACCEL_CT to LOCKED. -/
def SpdState.onTrack : SpdState → Bool
  | .accelCt | .pullIn | .locked => true
  | _ => false

/-- The speed from which the expected count follows, in 1/1000 rpm (R70, R269): the target speed at speed, the speed from crossings
while the spindle is coming up. -/
def State.ctExpect (s : State) (p : Nat) : Nat :=
  let q := s.getSpd p
  if q.granted || q.caught || q.st = .accelBemf || q.st = .accelCt then s.zcSpeed p else 1000 * s.rpm

/-- A count of a 64 µs window within ±3 % of the count at a speed v in 1/1000 rpm with c cycles per revolution, which is
v × c / 937 500 000. -/
def ctWithin (count v c : Nat) : Bool :=
  decide (100 * ((count * 937500000 : Int) - (v * c : Nat)).natAbs ≤ 3 * v * c)

/-- The speed of a count, in 1/1000 rpm. -/
def ctSpeedOf (count c : Nat) : Nat := if c = 0 then 0 else (openDiv (count * 937500000 : Nat) c).toNat

/-- What one window does to a side's count (R70, R71): two windows out of tolerance in a row, or the lane out of service for a whole
window, lose the track. A loss ends after a full revolution in tolerance, and once the lane is back where no count is expected. -/
def LineSt.ctCount (l : LineSt) (now count cycles : Nat) (out tracked good : Bool) : LineSt :=
  if l.ct = .lost then
    if !tracked then { l with ctGood := 0, ct := if out then .lost else if count = 0 then .noSignal else .counting }
    else
      let n := if good then l.ctGood + count else 0
      { l with ctGood := n }
  else if out then l.ctLose now
  else if !tracked then { l with ctBad := 0, ct := if count = 0 then .noSignal else .counting }
  else if good then { l with ctBad := 0, ct := .inTolerance }
  else if 2 ≤ l.ctBad + 1 then l.ctLose now
  else { l with ctBad := l.ctBad + 1 }

/-- A full revolution in tolerance has passed since the loss on the active unit's side (R71, R259): a spindle in BEMF_HOLD goes to
PULL_IN. Off CT_LOST it ends the loss. -/
def State.ctRegain (s : State) (p : Nat) : State :=
  if s.ctSt p ≠ .lost || (s.getLine (sideKey s.pair.active p)).ctGood < s.rd (Obj.CT_CYCLES_PER_REV p) ||
      (s.getLine (sideKey s.pair.active p)).ctGood = 0 then s
  else
    let s := if (s.getSpd p).st = .bemfHold then s.spdTo p .pullIn else s
    if (s.getPort p).state = .ctLost then s
    else s.modLine (sideKey s.pair.active p) (fun l => { l with ct := .inTolerance })

/-- The hand-over to the clock track (R266): two windows that agree with the crossings at 30 % of SWEEP_RPM or more. -/
def State.handOver (s : State) (p : Nat) (good : Bool) : State :=
  let n := if good then (s.getSpd p).agree + 1 else 0
  let s := s.modSpd p (fun q => { q with agree := n })
  if 2 ≤ n && decide (300 * s.rpm ≤ s.zcSpeed p) then
    (s.spdTo p .accelCt).modSpd p (fun q => { q with integ := q.duty * 256000000000 })
  else s

/-- CT_WINDOW (R70-R72): the count of a side compared with the expectation; the lane is out for the window only while it is not in
service. Only the unit holding TOKEN acts on it; the standby's count is the speed of its shadow (R273). -/
def execCtWindow (u : UnitId) (p : PortId) (count : BitVec 16) (laneOut : Bool) (s : State) : Host.Outcome State Fault Refusal :=
  let c := s.rd (Obj.CT_CYCLES_PER_REV p)
  let k := sideKey u p
  let st := (s.getSpd p).st
  let out := laneOut && !s.laneUpOn u p 14
  let good := !out && ctWithin count.toNat (s.ctExpect p) c
  let was := (s.getLine k).ct
  State.conclude (
    if !(s.getPort p).state.inPower || s.rd (Obj.LANES_IN_SERVICE u p) = 0 then s
    else
      let s := s.modLine k (fun l => l.ctCount s.now count.toNat c out (st.onTrack || st == .bemfHold) good)
      if u ≠ s.pair.active then
        if out then s else s.putSpdShadow p { s.getSpdShadow p with ctSpeed := ctSpeedOf count.toNat c }
      else
        let s := if out then s else s.putSpd p { s.getSpd p with ctSpeed := ctSpeedOf count.toNat c }
        if was ≠ .lost && (s.getLine k).ct = .lost then s.ctLoss p
        else if was = .lost then s.ctRegain p
        else if st = .accelBemf then s.handOver p good
        else s)

/-- CT_TIMEOUT (R71): not restored within 3 s of the loss, by the active unit's own count (R72). -/
def execCtTimeout (p : PortId) (s : State) : Host.Outcome State Fault Refusal :=
  let l := s.getLine (sideKey s.pair.active p)
  State.conclude (
    if l.ct = .lost && decide (l.ctSince + 3000000 ≤ s.now) && (s.getPort p).state.inPower then
      (s.raise (.lines p) [.PORT_CT_FAILED]).portFail p .ctNotRestored
    else s)

/-- CLOCK_TRACK_FRAME (R49, R131) on a side: the synthesiser's phase and lock; on that of the active unit the cycle count with the
SAMPLE_INDEX of each actuator. -/
def execClockTrackFrame (u : UnitId) (p : PortId) (cycles idx0 idx1 : Word) (phase : BitVec 16) (lock : Bool) (s : State) :
    Host.Outcome State Fault Refusal :=
  State.conclude (
    if !s.laneUpOn u p 14 then s
    else
      let s := s.modLine (sideKey u p) (fun l => { l with synPhase := phase.toNat, synLock := lock })
      let put := fun (s : State) a (i : Word) =>
        s.modChan (chanKey p a) (fun c => { c with ctCycles := cycles.toNat, ctIndex := i, sidx := i })
      if u ≠ s.pair.active then s else put (put s 0 idx0) 1 idx1)

/-! ## Telemetry headers (R48, R65, R68) -/

/-- TELEMETRY_FRAME (R48, R65, R68): a frame arrives on a trained motor lane; OBEY may let the active unit claim TOKEN, and a fault
code that is due is read. -/
def execTelemetryFrame (u : UnitId) (p : PortId) (obey : Obey) (fault : BitVec 16) (frame : BitVec 8) (s : State) :
    Host.Outcome State Fault Refusal :=
  let own := decide (obey = .none) || decide (obey = .side u)
  State.conclude (
    if !s.motorUp u p then s
    else
    let s := s.modLine (sideKey u p) (fun l =>
      { l with obey := obey, obeyRun := if own then l.obeyRun + 1 else 0, faultCode := fault.toNat, frame := frame.toNat })
    if u ≠ s.pair.active then s
    else
      let s := if (s.getPort p).codeRead then s else s.readCode p fault.toNat
      s.claim p)

/-! ## PORT_COMMAND (R74, R75, R617) -/

/-- A PORT_COMMAND written (R75): stored during a transition, otherwise acted on, or refused when it has no row. -/
def State.portWrite (s : State) (q : Requester) (u : UnitId) (p v : Nat) : State :=
  let moving := (s.getPort p).state.moving
  let own := if !moving && (s.portCommand p v).isNone then 0x09 else 0
  s.tryKey q u (Obj.PORT_COMMAND p) [BitVec.ofNat 8 v] own (fun s =>
    if moving then s.modPort p (fun r => { r with heldCmd := some v })
    else
      match s.portCommand p v with
      | some s => s
      | none => s)

/-- OFFLINE (R74, R75, R617): from PRESENT it only ends an ONLINE request, and is refused. -/
def execOffline (q : Requester) (u : UnitId) (p : PortId) (s : State) : Host.Outcome State Fault Refusal :=
  State.conclude (s.hold (.write q u (keyIndex (Obj.PORT_COMMAND p)) 1 [1]) fun s =>
    let present := decide ((s.getPort p).state = .present)
    let t := s.tryKey q u (Obj.PORT_COMMAND p) [1] (if present then 0x09 else 0) (fun s => s)
    if present then (if s.writeErr u (keyIndex (Obj.PORT_COMMAND p)) 1 q [1] = 0 then t.modPort p (fun r => { r with online := false }) else t)
    else s.portWrite q u p 1)

/-- ONLINE (R617). -/
def execOnline (q : Requester) (u : UnitId) (p : PortId) (s : State) : Host.Outcome State Fault Refusal :=
  State.conclude (s.portWrite q u p 2)

/-- RETRY (R74). -/
def execRetry (q : Requester) (u : UnitId) (p : PortId) (s : State) : Host.Outcome State Fault Refusal :=
  State.conclude (s.portWrite q u p 3)

end Sys2Proof.Machine
end

