-- ==== Sys2Proof/Machine/Plan.lean ====
section
/-! DEFINITION. Sweep plans (R23, R25, R179-R183): plan memory, what firmware on the part plans, and commits. -/

namespace Sys2Proof.Machine

/-! ## Plan memory (R179-R183) -/

/-- Bytes of plan memory from an offset, taken with their defaults of R182: DMA_SLOT of every item FFh, all else 0. Plan memory
holds what differs. -/
def planMask (off : Nat) (d : List Byte) : List Byte :=
  d.zipIdx.map (fun (b, i) => if 64 ≤ off + i ∧ (off + i) % 64 = 52 then b ^^^ 0xFF else b)

/-- Bytes of a plan half from an offset. -/
def PlanSt.read (pl : PlanSt) (half off n : Nat) : List Byte := planMask off (cellsRead pl.bytes (16384 * half + off) n)

/-- Bytes written to a plan half. -/
def PlanSt.write (pl : PlanSt) (half off : Nat) (d : List Byte) : PlanSt :=
  { pl with bytes := cellsWrite pl.bytes (16384 * half + off) (planMask off d) }

/-- A field of the executing half. -/
def PlanSt.field (pl : PlanSt) (off n : Nat) : Nat := leNat (pl.read pl.exec off n)

/-- The completion ring of an actuator is full (R183): 256 entries not yet freed. -/
def PlanSt.ringFull (pl : PlanSt) : Bool := pl.ringRd + 256 ≤ pl.ringWr

/-- A completion entry written to the ring (R183). -/
def State.postEntry (s : State) (u : UnitId) (k : Nat) (bytes : List Byte) : State :=
  let pl := s.getPlan k
  let s := (s.engWrite u (pl.field 48 8 + 16 * (pl.ringWr % 256)) bytes).1
  s.modPlan k (fun pl => { pl with ringWr := pl.ringWr + 1 })

/-! ## What firmware plans (R25, R29, R92, R106, R124, R141, R142, R145, R149-R152, R182) -/

/-- A plan item as the built-in images read it (R182). -/
structure PlanItem where
  kind : Nat
  head : Nat
  zone : Nat
  flags : Nat
  track : Nat
  first : Nat
  count : Nat
  pset : Nat
  reader : Nat
  tag : List Byte
  deriving DecidableEq, Repr

/-- An item read from its 64 bytes. -/
def planItem (b : List Byte) : PlanItem where
  kind := fldU b 0 1
  head := fldU b 1 1
  zone := fldU b 2 1
  flags := fldU b 3 1
  track := fldU b 4 4
  first := fldU b 8 2
  count := fldU b 10 2
  pset := fldU b 12 2
  reader := fldU b 15 1
  tag := (b.drop 36).take 16

/-- The items of a plan half. -/
def PlanSt.items (pl : PlanSt) (half : Nat) : List PlanItem :=
  (List.range (min 255 (leNat (pl.read half 8 2)))).map (fun i => planItem (pl.read half (64 + 64 * i) 64))

/-- The sectors of a run. -/
def PlanItem.sectors (i : PlanItem) (a : Nat) : List Psa := (List.range i.count).map (fun k => ⟨a, i.head, i.track, i.first + k⟩)

/-- The zone entry of an item. -/
def State.itemZone (s : State) (p a : Nat) (i : PlanItem) : Zone := zoneOf ((s.getChan (chanKey p a)).zone i.pset)

/-- A run of sectors that stays on one track short of the index (R25), of a zone entry that is not refused (R124). -/
def State.runFits (s : State) (p a : Nat) (i : PlanItem) : Bool :=
  i.pset == i.head * 32 + i.zone && i.head < 16 && i.zone < 32 && 1 ≤ i.count &&
  decide (i.first + i.count ≤ (s.itemZone p a i).spt) && !s.zoneBad p ((s.getChan (chanKey p a)).zone i.pset)

/-- The reader mode of a read run (R92): both readers, reader A alone in Bring-up, or what a ladder's step asks of its sector. -/
def State.readerFits (s : State) (p a : Nat) (i : PlanItem) : Bool :=
  if s.mode.cur = .bringUp then i.reader == ReaderMode.aOnly.code
  else
    i.reader == ReaderMode.both.code ||
    (s.getChan (chanKey p a)).ladder.any (fun l => (i.sectors a).contains l.psa && i.reader == (l.settings l.step).1.code)

/-- A read run that firmware plans (R29, R92, R106, R142): with a calibrated set, and none of its positions void. -/
def State.readPlanned (s : State) (p a : Nat) (i : PlanItem) : Bool :=
  let c := s.getChan (chanKey p a)
  s.runFits p a i && fldU (c.set i.pset) 207 1 == 0xA5 && s.readerFits p a i && (i.sectors a).all (fun x => !c.void.contains x) &&
  (s.mode.cur != .bringUp || a == 0)

/-- The tag of a fragment's sector on the medium (R127); TAG_FLAGS bit 0, the last sector, is the microprogram's. -/
def fragTag (sorus frag flags sector bandSeq : Nat) : List Byte :=
  leBytes 8 sorus ++ leBytes 1 frag ++ leBytes 1 flags ++ leBytes 2 sector ++ leBytes 4 bandSeq

/-- The tag that a run of a fragment under check carries (R127, R145, R299): TAG_FLAGS bit 1 for a rewrite. -/
def State.runTag (s : State) (d : FragCheck) (first : Nat) : List Byte :=
  fragTag (s.sorus d.sorus).idNumber d.frag (if d.rewrite then 2 else 0) (first - d.spot.pos) d.spot.bandSeq

/-- Whether a run writes part of a fragment that the object service has placed, as the fragment it is (R145, R151, R152). -/
def State.fragPlanned (s : State) (p a : Nat) (i : PlanItem) : Bool :=
  (s.getChan (chanKey p a)).checks.any (fun d =>
    (i.sectors a).all (fun x => s.fragHas p d.spot d.sectors x) && i.flags.testBit 0 == d.rewrite && i.tag == s.runTag d i.first)

/-- Whether a run writes system records (R127, R150): on even offsets of the system tracks, in conventional mode, with the tag of a
system record. -/
def State.recordPlanned (s : State) (p a : Nat) (i : PlanItem) : Bool :=
  let z := s.itemZone p a i
  i.head ≤ 1 && i.zone == 0 && decide (z.first + z.cal ≤ i.track) && decide (i.track < z.first + z.cal + 512) &&
  (i.track - z.first) % 2 == 0 && i.flags.testBit 1 && i.tag.take 8 == List.replicate 8 0xFF && (i.tag.getD 9 0).getLsbD 2

/-- A write run that firmware plans (R29, R141): in Frond or Frond-degraded, on an HDA that is not Critical. -/
def State.writePlanned (s : State) (p a : Nat) (i : PlanItem) : Bool :=
  s.runFits p a i && (s.mode.cur == .frond || s.mode.cur == .frondDegraded || s.mode.cur == .drain) &&
  s.hdaBand p != .critical && (s.fragPlanned p a i || s.recordPlanned p a i)

/-- A calibration run (R92, R149): on calibration tracks of a port that calibrates; a write in conventional mode, on even offsets. -/
def State.calPlanned (s : State) (p a : Nat) (i : PlanItem) (write : Bool) : Bool :=
  let z := s.itemZone p a i
  (s.getPort p).state == .calibrating && decide (z.first ≤ i.track) && decide (i.track < z.first + z.cal) &&
  (!write || i.flags.testBit 1 && (i.track - z.first) % 2 == 0)

/-- An item that firmware plans. -/
def State.itemPlanned (s : State) (p a : Nat) (i : PlanItem) : Bool :=
  match i.kind with
  | 0 => true
  | 1 => s.readPlanned p a i
  | 2 => s.writePlanned p a i
  | 3 => s.mode.cur != .bringUp || a == 0
  | 4 => s.calPlanned p a i false
  | 5 => s.calPlanned p a i true
  | _ => false

/-- A quarter of the read bandwidth of an HDA, two actuators at a track a sweep each, is the bound in Bring-up (R29). -/
def State.quarterHeld (s : State) (p a : Nat) (l : List PlanItem) : Bool :=
  let r := l.filter (fun i => i.kind == 1)
  s.mode.cur != .bringUp ||
    r.all (fun i => decide (2 * (r.map PlanItem.count).sum ≤ (s.itemZone p a i).spt))

/-- A plan that firmware on the part commits: one whose items it plans, with all of its writes on one track (R152). The items are
known while the built-in images run; what a loaded image makes of its items is not, nor what a raw plan does. -/
def State.planned (s : State) (p a : Nat) (pl : PlanSt) : Bool :=
  let h := 1 - pl.exec
  let l := pl.items h
  let w := l.filter (fun i => i.kind == 2 || i.kind == 5)
  s.mc.source != .builtIn || leNat (pl.read h 14 2) == 1 ||
  (l.all (s.itemPlanned p a) && s.quarterHeld p a l &&
    w.all (fun i => w.all (fun j => i.head == j.head && i.track == j.track)))

/-! ## Sweep plans (R23, R179, R181) -/

/-- A plan counted as rejected: PLAN_REJECTS of the media sequencer of the active unit (R179, R181). -/
def State.planReject (s : State) (p a : Nat) : State := s.inc (Obj.PLAN_REJECTS s.pair.active (4 * p + 2 * a))

/-- PLAN_WRITE (R179): ignored and counted for the executing half or a committed half. -/
def execPlanWrite (p : PortId) (a : ActId) (half : Fin 2) (off : BitVec 14) (data : List Byte) (s : State) :
    Host.Outcome State Fault Refusal :=
  let pl := s.getPlan (chanKey p a)
  State.after (
    if half.val = pl.exec || pl.committed then s.planReject p a
    else s.putPlan (chanKey p a) (pl.write half off.toNat (data.take (16384 - off.toNat))))

/-- The checks of R181 on the half being built. -/
def State.planOk (s : State) (pl : PlanSt) (sweep next : Nat) : Bool :=
  let h := 1 - pl.exec
  let f := fun off n => leNat (pl.read h off n)
  sweep == next && f 0 8 == sweep && f 8 2 ≤ 255 && f 10 2 ≤ 4095 && f 12 2 ≤ 4095 && f 14 2 ≤ 1 &&
  f 48 8 % 4096 == 0 && f 56 4 == 0 &&
  f 60 4 == (crc32c (pl.read h 0 60 ++ pl.read h 64 (64 * min (f 8 2) 255))).toNat &&
  (f 14 2 == 1) == (s.mode.cur == .maintenance)

/-- PLAN_COMMIT (R181, R23): accepted when every check passes; less than 200 µs before the edge it is discarded without
PLAN_REJECT. The band of the HDA as it stands chooses the write presets (R139). Firmware writes no commit for a plan that it
may not plan. -/
def execPlanCommit (p : PortId) (a : ActId) (sweep : BitVec 64) (s : State) : Host.Outcome State Fault Refusal :=
  let k := chanKey p a
  let pl := s.getPlan k
  let pt := s.getPort p
  State.after (
    if pl.committed || !s.planned p a pl then s
    else if pl.discarded || pt.nextEdge < s.now + 200 then s.putPlan k { pl with discarded := true }
    else if s.planOk pl sweep.toNat (pt.sweepNo + 1) then s.putPlan k { pl with committed := true, nextBand := min 3 (s.hdaBand p).code }
    else ((s.putPlan k { pl with discarded := true }).planReject p a).raise (.seq (4 * p + 2 * a)) [.SEQ_PLAN_REJECT])

/-- PLAN_COMMIT_UNLOCK (R179): a write of 0 before the deadline unlocks the half. -/
def execPlanCommitUnlock (p : PortId) (a : ActId) (s : State) : Host.Outcome State Fault Refusal :=
  let k := chanKey p a
  let pl := s.getPlan k
  State.after (if pl.committed && s.now + 200 ≤ (s.getPort p).nextEdge then s.putPlan k { pl with committed := false } else s)

/-- PLAN_DEADLINE (R23): a plan not committed is discarded. -/
def execPlanDeadline (p : PortId) (a : ActId) (s : State) : Host.Outcome State Fault Refusal :=
  State.after (s.modPlan (chanKey p a) (fun pl => if pl.committed then pl else { pl with discarded := true }))

end Sys2Proof.Machine
end

