-- ==== Sys2Proof/Machine/Sequencer.lean ====
section
/-! DEFINITION. The media and transfer sequencers (R156-R190): operations, waits, drains, stops, control stores and
microcode images. -/

namespace Sys2Proof.Machine

/-! ## Names of a sequencer -/

/-- k = 4p + 2a + t (R189). -/
def SeqId.k (q : SeqId) : Nat := 4 * q.port.val + 2 * q.act.val + (if q.xfer then 1 else 0)

/-- The key of a sequencer's record. -/
def SeqId.key (q : SeqId) : Nat := 64 * q.unit.code + q.k

/-- The key of its channel and plan memory. -/
def SeqId.chan (q : SeqId) : Nat := chanKey q.port q.act

/-- The other sequencer of the actuator. -/
def SeqId.partner (q : SeqId) : SeqId := { q with xfer := !q.xfer }

/-- A general register. -/
def SeqSt.greg (e : SeqSt) (n : Nat) : Word := mapGet (fun _ => 0) e.g n

/-- A general register written. -/
def SeqSt.setG (e : SeqSt) (n : Nat) (v : Word) : SeqSt := { e with g := mapPut (fun _ => 0) e.g n v }

/-! ## Stops (R187) -/

/-- The sequencer stopped at its current word. -/
def SeqSt.halt (e : SeqSt) : SeqSt := { e with state := .stopped, wait := .none }

/-- A fault stop (R187): bit and record, partner stopped, gate cut, pending arms withdrawn, an entry with ITEM_STATUS 02h
for the current item, and the report to the self-diagnosis. -/
def State.seqStop (s : State) (q : SeqId) (f : Flag) : State :=
  let e := s.getSeq q.key
  let s := (s.modSeq q.key SeqSt.halt).modSeq q.partner.key SeqSt.halt
  let s := s.raise (.seq q.k) [f]
  let s := (s.cutGate q.port q.act .WR_GATE_CUT).withdraw q.port q.act
  let pl := s.getPlan q.chan
  let tag := pl.field (e.planPtr.toNat + 60) 4
  let s := if pl.empty || pl.ringFull then s else
    s.postEntry q.unit q.chan
      (leBytes 4 tag ++ leBytes 4 (s.getPort q.port).sweepNo ++ leBytes 2 pl.done ++ leBytes 2 pl.failed ++ [2, 0, 0, 0])
  s.diag q.unit .seqStops

/-! ## Registers (R157) -/

/-- The value a register select names (R157). -/
def State.seqReg (s : State) (q : SeqId) (n : Nat) : Word :=
  let e := s.getSeq q.key
  if n < 32 then e.greg n
  else
    match n with
    | 0x20 => (s.getChan q.chan).sidx
    | 0x21 => e.planPtr
    | 0x22 => BitVec.ofNat 32 (s.getPort q.port).sweepNo
    | 0x23 => BitVec.ofNat 32 e.itemNo
    | 0x24 => if q.xfer then 0 else e.pStart
    | 0x25 => if q.xfer then 0 else e.pBits
    | 0x26 => if q.xfer then 0 else e.pFrags
    | 0x27 => if q.xfer then 0 else e.pEnd
    | 0x28 => if q.xfer then 0 else BitVec.ofNat 32 (s.rd (Obj.LAST_RESULT q.port q.act) / 2 ^ 32)
    | 0x2A => 0xFFFFFFFF
    | _ => 0

/-- What an operation comes to: it completes and continues at an address, it waits for an engine, it waits for an index,
or the sequencer stops with a bit of SEQ_STATUS. -/
inductive OpRes where
  | done (s : State) (next : BitVec 12)
  | blocked
  | index
  | ends (s : State)
  | stop (s : State) (f : Flag)

/-- The operation completes and continues at NEXT (R158). -/
def OpRes.go (s : State) (w : MicroWord) : OpRes := .done s w.next

/-- A conditional operation (R158). -/
def OpRes.branch (s : State) (w : MicroWord) (c : Bool) : OpRes := .done s (if c then w.next + 1 else w.next)

/-- A register written, or ILLEGAL_OP for a ro or reserved special register (R161). -/
def State.seqSet (s : State) (q : SeqId) (w : MicroWord) (v : Word) : OpRes :=
  if w.a.toNat < 32 then .go (s.modSeq q.key (fun e => e.setG w.a.toNat v)) w
  else if w.a = 0x21 then .go (s.modSeq q.key (fun e => { e with planPtr := v })) w
  else .stop s .SEQ_ILLEGAL_OP

/-- G[A]. -/
def State.seqA (s : State) (q : SeqId) (w : MicroWord) : Word := s.seqReg q w.a.toNat

/-- reg(B). -/
def State.seqB (s : State) (q : SeqId) (w : MicroWord) : Word := s.seqReg q (w.b.toNat % 64)

/-- The 12-bit immediate, zero-extended and sign-extended. -/
def MicroWord.imm (w : MicroWord) : Word := w.b.setWidth 32
def MicroWord.sext (w : MicroWord) : Word := w.b.signExtend 32

/-! ## Media operations (R160, R166) -/

/-- PRED (R160, R131): the predicted fragment; P_FRAGS 0 when the position does not exist. -/
def State.opPred (s : State) (q : SeqId) (w : MicroWord) : OpRes :=
  let c := s.getChan q.chan
  let n := c.armSet.getD 0
  let z := zoneOf (c.zone n)
  let pos := (s.seqA q w).toNat
  let fs := z.position (s.rd (Obj.CT_CYCLES_PER_REV q.port)) pos
  .go (s.modSeq q.key (fun e =>
    match fs[(s.seqB q w).toNat]? with
    | some f =>
      { e with
        pStart := s.bitIndex q.port q.act (n / 32) f.pos z
        pBits := BitVec.ofNat 32 f.take
        pEnd := s.bitIndex q.port q.act (n / 32) f.fin z
        pFrags := BitVec.ofNat 32 fs.length, pPos := pos }
    | none => { e with pStart := 0, pBits := 0, pEnd := 0, pFrags := BitVec.ofNat 32 fs.length, pPos := pos })) w

/-- PSET (R85, R105): the set is loaded into the inactive bank and its ratio sent to the PN2; with another ratio than the one sent
last, that bank's samples count from the next marker of a changed ratio on. -/
def State.opPset (s : State) (q : SeqId) (w : MicroWord) : OpRes :=
  let n := (s.seqA q w).toNat
  if 512 ≤ n then .stop s .SEQ_ILLEGAL_OP
  else
    .go (s.modChan q.chan (fun c =>
      let b := c.set n
      let ratio := 256 * fldU b 196 2 + fldU b 198 1
      { c with
        nextSet := some n, load := .loading, nextBad := false, psetReady := false, psetErr := false
        ratioSent := ratio, nextWait := c.ratioSent != ratio || c.nextWait })) w

/-- WRSET (R139, R140): the precompensation entry of the set's head and zone and the preset of its head and of the band that stood
when the plan was committed are sent; with a write gate open it waits. -/
def State.opWrset (s : State) (q : SeqId) (w : MicroWord) : OpRes :=
  let n := (s.seqA q w).toNat
  let c := s.getChan q.chan
  if 512 ≤ n then .stop s .SEQ_ILLEGAL_OP
  else if c.gate then .blocked
  else
    .go (s.modChan q.chan (fun c =>
      { c with
        wrSent := true, wrAck := false, wrFail := false, wrSet := some n
        wrEntry := c.precompOf n, wrPreset := c.presetOf (n / 32 * 4 + (s.getPlan q.chan).band) })) w

/-- Whether an index is too near for an arm (R166): fewer than 1024 samples ahead of the sample counter. -/
def armLateAt (sidx start : Word) : Bool := decide ((start - sidx).toInt < 1024)

/-- The first ticket or feed that no arm holds. -/
def firstTicket (l : List Ticket) : Option Ticket := l.find? (fun t => !t.paired)
def firstFeed (l : List Feed) : Option Feed := l.find? (fun t => !t.paired)

/-- The first unpaired ticket marked as held by an arm. -/
def pairTicket : List Ticket → List Ticket
  | [] => []
  | t :: l => if t.paired then t :: pairTicket l else { t with paired := true } :: l

/-- The first unpaired feed marked as held by an arm. -/
def pairFeed : List Feed → List Feed
  | [] => []
  | t :: l => if t.paired then t :: pairFeed l else { t with paired := true } :: l

/-- SRD (R166): the arm of a sector's first fragment for a read. -/
def State.opSrd (s : State) (q : SeqId) (w : MicroWord) : OpRes :=
  let c := s.getChan q.chan
  let e := s.getSeq q.key
  let t := firstTicket c.tickets
  let v := s.getSrv q.chan
  let psa : Psa := ⟨q.act, c.armSet.getD 0 / 32, v.track, e.pPos⟩
  let mode : ReaderMode := if w.b.toNat % 4 = 1 then .aOnly else if w.b.toNat % 4 = 2 then .bOnly else .both
  let r : Arm :=
    { start := s.seqA q w, endIdx := e.pEnd, bits := e.pBits.toNat, frag := 0, frags := e.pFrags.toNat, mode := mode, psa := psa, item := e.itemNo
      ticket := t.map (fun t => { t with paired := true }) }
  if w.b.toNat % 4 = 3 then .stop s .SEQ_ILLEGAL_OP
  else if c.readPend.isSome then .blocked
  else
    let s := s.modSeq q.key (fun e => { e with armPsa := psa, armWrite := false })
    let s := s.modChan q.chan (fun c => { c with tickets := pairTicket c.tickets })
    if armLateAt c.sidx r.start then .go (s.armLate q.port q.act r false) w
    else .go (s.modChan q.chan (fun c => { c with readPend := some r, late := false })) w

/-- SWR (R166, R143): the arm of a sector's first fragment for a write. -/
def State.opSwr (s : State) (q : SeqId) (w : MicroWord) : OpRes :=
  let c := s.getChan q.chan
  let e := s.getSeq q.key
  let v := s.getSrv q.chan
  let psa : Psa := ⟨q.act, c.armSet.getD 0 / 32, v.track, e.pPos⟩
  let r : Arm :=
    { start := s.seqA q w, endIdx := e.pEnd, bits := e.pBits.toNat, frag := 0, frags := e.pFrags.toNat, mode := .bOnly, psa := psa, item := e.itemNo
      feed := (firstFeed c.feeds).map (fun t => { t with paired := true }) }
  if c.writePend.isSome then .blocked
  else
    let s := s.modSeq q.key (fun e => { e with armPsa := psa, armWrite := true })
    let s := s.modChan q.chan (fun c => { c with feeds := pairFeed c.feeds })
    if armLateAt c.sidx r.start then .go (s.armLate q.port q.act r true) w
    else .go (s.modChan q.chan (fun c => { c with writePend := some r, late := false })) w

/-- CFRAG (R166): a continuation fragment of the sector of the last SRD or SWR. -/
def State.opCfrag (s : State) (q : SeqId) (w : MicroWord) : OpRes :=
  let c := s.getChan q.chan
  let e := s.getSeq q.key
  let n := (s.seqB q w).toNat
  let cur := if e.armWrite then c.writeCur else c.readCur
  let r : Arm :=
    { start := s.seqA q w, endIdx := e.pEnd, bits := e.pBits.toNat, frag := n, frags := e.pFrags.toNat,
      mode := if e.armWrite then .bOnly else (cur.map Arm.mode).getD .both, psa := e.armPsa, item := e.itemNo
      ticket := cur.bind Arm.ticket, feed := cur.bind Arm.feed }
  if n = 0 || 3 ≤ n then .stop s .SEQ_ILLEGAL_OP
  else if (if e.armWrite then c.writePend else c.readPend).isSome then .blocked
  else if armLateAt c.sidx r.start then .go (s.armLate q.port q.act r e.armWrite) w
  else
    .go (s.modChan q.chan (fun c =>
      if e.armWrite then { c with writePend := some r, late := false }
      else { c with readPend := some r, late := false })) w

/-- Whether a seek target is in range (R218). -/
def State.seekOk (s : State) (p a track head : Nat) : Bool :=
  let c := s.getChan (chanKey p a)
  decide (track < 4194304) && decide (head < s.rd (Obj.HEADS_PER_ACTUATOR p)) &&
  (List.range 32).any (fun z =>
    let e := zoneOf (c.zone (32 * head + z))
    decide (e.first ≤ track) && decide (track < e.first + e.tracks))

/-- SEEKREQ (R218): the target is posted to the loop computer, replacing one still waiting for its boundary. -/
def State.opSeekreq (s : State) (q : SeqId) (w : MicroWord) : OpRes :=
  let t := (s.seqA q w).toNat
  let h := w.b.toNat % 16
  if !s.seekOk q.port q.act t h then .stop s .SEQ_ILLEGAL_OP
  else .go (s.modSrv q.chan (fun v => { v with posted := some (t, h, 0), onTrack := false })) w

/-- REPLAY (R112, R114): the hold buffer is replayed with the settings of a step, on reader A only in Bring-up (R92); a line read on
the channel takes it at once. With nothing held there is nothing to replay. -/
def State.opReplay (s : State) (q : SeqId) (w : MicroWord) : OpRes :=
  let c := s.getChan q.chan
  let n := w.b.toNat % 8
  if n = 0 || n = 7 then .stop s .SEQ_ILLEGAL_OP
  else
    match c.hold, c.holdSector with
    | .empty, _ | _, none => .go s w
    | _, some y =>
      let set := match c.ladder with
        | some l => l.settings n
        | none => if n = 3 then (.bOnly, false) else (.both, n == 4)
      let mode := if s.mode.cur = .bringUp then .aOnly else set.1
      let x : Sector :=
        { psa := y.psa, setNo := y.setNo, spans := y.spans, samples := y.samples, step := n, held := true, mode := mode, alt := set.2
          ticket := (firstTicket c.tickets).map (fun t => { t with paired := true }) }
      let s := s.modChan q.chan (fun c => { c with tickets := pairTicket c.tickets })
      if c.rx.isSome then .go (s.replayEnd q.port q.act x (verdictOf 0x0A)) w
      else .go ((s.wr (Obj.READER_MODE q.port q.act) mode.code).modChan q.chan (fun c => { c with replay := some x })) w

/-! ## Transfer operations (R160, R169, R183) -/

/-- LDM: a word of the buffer, 4-byte aligned; an access answered with an error leaves the register undefined. -/
def State.opLdm (s : State) (q : SeqId) (w : MicroWord) : OpRes :=
  let a := (s.seqB q w).toNat
  if a % 4 ≠ 0 then .stop s .SEQ_ILLEGAL_OP
  else
    match s.engRead q.unit a 4 with
    | (s1, some b) => s1.seqSet q w (BitVec.ofNat 32 (leNat b))
    | (s1, none) =>
      let (n, s2) := s1.next
      s2.seqSet q w (BitVec.ofNat 32 (leNat ((List.range 4).map (fun i => Config.freeByte n i))))

/-- POST (R183): G[A] to G[A+3] as one completion entry, waiting while the ring is full. -/
def State.opPost (s : State) (q : SeqId) (w : MicroWord) : OpRes :=
  if 28 < w.a.toNat then .stop s .SEQ_ILLEGAL_OP
  else if (s.getPlan q.chan).ringFull then .blocked
  else .go (s.postEntry q.unit q.chan
    ((List.range 4).flatMap (fun i => leBytes 4 (s.seqReg q (w.a.toNat + i)).toNat))) w

/-- A ticket queued; an arm that still has none takes it (R166). -/
def ChanSt.addTicket (c : ChanSt) (data result : Nat) : ChanSt :=
  let wants := c.readPend.any (fun r => r.ticket.isNone && r.frag == 0)
  let t : Ticket := { id := c.ticketNo, data := data, result := result, paired := wants }
  { c with
    ticketNo := c.ticketNo + 1, ticketLog := c.ticketLog ++ [(t.id, false)], tickets := c.tickets ++ [t]
    readPend := if wants then c.readPend.map (fun r => { r with ticket := some t }) else c.readPend }

/-- A feed queued; an arm that still has none takes it (R166). -/
def ChanSt.addFeed (c : ChanSt) (payload : Nat) (tag : List Byte) (result : Nat) : ChanSt :=
  let wants := c.writePend.any (fun r => r.feed.isNone && r.frag == 0)
  let f : Feed := { id := c.feedNo, payload := payload, tag := tag, result := result, paired := wants }
  { c with
    feedNo := c.feedNo + 1, feedLog := c.feedLog ++ [(f.id, false)], feeds := c.feeds ++ [f]
    writePend := if wants then c.writePend.map (fun r => { r with feed := some f }) else c.writePend }

/-- TICKET (R169): a read ticket queued, waiting while 8 are. -/
def State.opTicket (s : State) (q : SeqId) (w : MicroWord) : OpRes :=
  if 8 ≤ (s.getChan q.chan).tickets.length then .blocked
  else .go (s.modChan q.chan (fun c => c.addTicket (s.seqA q w).toNat (s.seqB q w).toNat)) w

/-- WFEED (R169): a write feed queued, waiting while 2 are. -/
def State.opWfeed (s : State) (q : SeqId) (w : MicroWord) : OpRes :=
  let b := w.b.toNat % 64
  if 27 < b then .stop s .SEQ_ILLEGAL_OP
  else if 2 ≤ (s.getChan q.chan).feeds.length then .blocked
  else
    .go (s.modChan q.chan (fun c => c.addFeed (s.seqA q w).toNat
      ((List.range 4).flatMap (fun i => leBytes 4 (s.seqReg q (b + i)).toNat)) (s.seqReg q (b + 4)).toNat)) w

/-! ## Flags and wait conditions (R162, R168) -/

/-- A flag of R162. -/
def State.seqFlag (s : State) (q : SeqId) (n : Nat) : Bool :=
  let c := s.getChan q.chan
  let e := s.getSeq q.key
  let v := s.getSrv q.chan
  if n = 0x18 then !e.mbox.isEmpty
  else if q.xfer then
    if 0x10 ≤ n && n < 0x14 then e.comp.contains (n - 0x10)
    else if 0x14 ≤ n && n < 0x18 then e.err.contains (n - 0x14)
    else if n = 0x19 then 8 ≤ c.tickets.length
    else if n = 0x1A then 2 ≤ c.feeds.length
    else if n = 0x1B then (s.getPlan q.chan).ringFull
    else false
  else
    match n with
    | 0 => c.syncOk
    | 1 => c.resyncOk
    | 2 => v.onTrack
    | 3 => v.writeSafe
    | 4 => c.readPend.isSome || c.writePend.isSome
    | 5 => c.psetReady
    | 6 => c.psetErr
    | 7 => c.wrAck
    | 8 => c.gateCut
    | 9 => c.late
    | _ => false

/-- Whether a wait condition of R168 holds now; the tick of Ch never does by itself. -/
def State.condHolds (s : State) (q : SeqId) (n : Nat) : Bool :=
  let c := s.getChan q.chan
  let e := s.getSeq q.key
  match n with
  | 0 => true
  | 1 | 2 | 3 | 4 => e.comp.contains (n - 1) || e.err.contains (n - 1)
  | 5 => !e.comp.isEmpty || !e.err.isEmpty
  | 6 => c.tickets.length < 8
  | 7 => c.feeds.length < 2
  | 8 => !e.mbox.isEmpty
  | 9 => !(s.getPlan q.chan).ringFull
  | 0xA => c.ticketLog.head?.any Prod.snd
  | 0xB => c.feedLog.head?.any Prod.snd
  | _ => false

/-- A wait under Ah or Bh takes its result: the next such wait is for the next ticket or feed. -/
def State.condTake (s : State) (q : SeqId) (n : Nat) : State :=
  s.modChan q.chan (fun c =>
    if n = 0xA then { c with ticketLog := c.ticketLog.tail } else if n = 0xB then { c with feedLog := c.feedLog.tail } else c)

/-! ## Operations (R160) -/

/-- One operation of the table of R160. -/
def State.op (s : State) (q : SeqId) (o : SeqOp) (w : MicroWord) : OpRes :=
  let a := s.seqA q w
  let b := s.seqB q w
  match o with
  | .nop => .go s w
  | .brz => .branch s w (a == 0)
  | .brneg => .branch s w (a.getLsbD 31)
  | .breqi => .branch s w (a == w.imm)
  | .brlt => .branch s w (a.ult b)
  | .brbit => .branch s w (a.getLsbD (w.b.toNat % 32))
  | .brflag => .branch s w (s.seqFlag q (w.b.toNat % 64))
  | .djnz =>
    match s.seqSet q w (a - 1) with
    | .done s1 _ => .branch s1 w (a - 1 != 0)
    | r => r
  | .call =>
    let e := s.getSeq q.key
    if 8 ≤ e.stack.length then .stop s .SEQ_STACK_ERR
    else .done (s.putSeq q.key { e with stack := w.next :: e.stack }) w.b
  | .ret =>
    let e := s.getSeq q.key
    match e.stack with
    | [] => .stop s .SEQ_STACK_ERR
    | t :: l => .done (s.putSeq q.key { e with stack := l }) t
  | .switch => .done s (w.next + BitVec.ofNat 12 (a.toNat % 16 &&& w.b.toNat % 16))
  | .endsweep => .ends (s.modSeq q.key (fun e => { e with ended := true }))
  | .abort => .stop (s.wr (Obj.ABORT_CODE q.unit q.k) (w.b.toNat % 256)) .SEQ_ABORTED
  | .fence => .go s w
  | .waitidx => if ((s.getChan q.chan).sidx - a).getLsbD 31 then .index else .go s w
  | .trap => .go (s.modSeq q.key (fun e => { e with trap := some (w.b.toNat % 256) })) w
  | .ldi => s.seqSet q w w.imm
  | .ldis => s.seqSet q w w.sext
  | .ldim => s.seqSet q w ((a &&& 0xFF000FFF) ||| (w.imm <<< 12))
  | .ldih => s.seqSet q w ((a &&& 0x00FFFFFF) ||| (w.imm <<< 24))
  | .mov => s.seqSet q w b
  | .add => s.seqSet q w (a + b)
  | .addi => s.seqSet q w (a + w.sext)
  | .sub => s.seqSet q w (a - b)
  | .and => s.seqSet q w (a &&& b)
  | .andi => s.seqSet q w (a &&& w.imm)
  | .or => s.seqSet q w (a ||| b)
  | .ori => s.seqSet q w (a ||| w.imm)
  | .xor => s.seqSet q w (a ^^^ b)
  | .shli => s.seqSet q w (a <<< (w.b.toNat % 32))
  | .shri => s.seqSet q w (a >>> (w.b.toNat % 32))
  | .muli => s.seqSet q w (a * w.imm)
  | .ldp => s.seqSet q w (BitVec.ofNat 32 ((s.getPlan q.chan).field ((s.getSeq q.key).planPtr.toNat + 4 * (w.b.toNat % 16)) 4))
  | .nextitem =>
    let e := s.getSeq q.key
    let s := s.putSeq q.key { e with planPtr := e.planPtr + 64, itemNo := e.itemNo + 1 }
    let s := if q.xfer then s else s.modPlan q.chan (fun pl => { pl with done := 0, failed := 0 })
    .branch s w (e.itemNo + 1 == (s.getPlan q.chan).field 8 2)
  | .ldh => s.seqSet q w (BitVec.ofNat 32 ((s.getPlan q.chan).field (4 * (w.b.toNat % 16)) 4))
  | .ldm => s.opLdm q w
  | .stm => .go (s.engWrite q.unit b.toNat (leBytes 4 a.toNat)).1 w
  | .post => s.opPost q w
  | .msend =>
    if 16 ≤ (s.getSeq q.partner.key).mbox.length then .blocked
    else .go (s.modSeq q.partner.key (fun e => { e with mbox := e.mbox ++ [a] })) w
  | .mrecv =>
    let e := s.getSeq q.key
    match e.mbox with
    | [] => .blocked
    | x :: l => (s.putSeq q.key { e with mbox := l }).seqSet q w x
  | .pred => s.opPred q w
  | .pset => s.opPset q w
  | .swap => .go (s.modChan q.chan (fun c => { c with swap := true }.trySwap)) w
  | .wrset => s.opWrset q w
  | .srd => s.opSrd q w
  | .swr => s.opSwr q w
  | .cfrag => s.opCfrag q w
  | .gateoff => .go (s.cutGate q.port q.act .WR_GATE_CUT) w
  | .seekreq => s.opSeekreq q w
  | .replay => s.opReplay q w
  | .armclr => .go (s.withdraw q.port q.act) w
  | .ctsnap => s.seqSet q w (BitVec.ofNat 32 (s.getChan q.chan).ctCycles)
  | .ticket => s.opTicket q w
  | .wfeed => s.opWfeed q w
  | .evsend => .go { s with fabric := s.fabric ++ [(q.unit, w.b.toNat % 256)] } w
  | .evclr => .go (s.modSeq q.key (fun e =>
      { e with comp := e.comp.filter (· != w.b.toNat % 4), err := e.err.filter (· != w.b.toNat % 4) })) w

/-- The kinds of R160: media only, transfer only. -/
def SeqOp.mediaOnly : SeqOp → Bool
  | .pred | .pset | .swap | .wrset | .srd | .swr | .cfrag | .gateoff | .seekreq | .replay | .armclr | .ctsnap => true
  | _ => false
def SeqOp.xferOnly : SeqOp → Bool
  | .ldm | .stm | .post | .ticket | .wfeed | .evsend | .evclr => true
  | _ => false

/-- After a word: its delay (media) or wait condition (transfer), then the next word (R159, R164, R168). -/
def State.seqTiming (s : State) (q : SeqId) (w : MicroWord) (nxt : BitVec 12) : State :=
  let e := { s.getSeq q.key with next := nxt, state := .running, wait := .none }
  let t := w.timing.toNat
  if t = 0 then s.putSeq q.key e
  else if q.xfer then
    if s.condHolds q t then (s.putSeq q.key e).condTake q t
    else s.putSeq q.key { e with state := .waiting, wait := .cond t, waitAt := s.now }
  else s.putSeq q.key { e with state := .waiting, wait := .delay (mapGet (fun _ => 0) e.stages t), waitAt := s.now }

/-- What the sequencer does with the outcome of an operation. -/
def State.seqAfter (s : State) (q : SeqId) (o : SeqOp) (w : MicroWord) (r : OpRes) : State :=
  match r with
  | .done s1 n => s1.seqTiming q w n
  | .ends s1 => s1.modSeq q.key (fun e => { e with state := .waitEdge, wait := .sweepEnd })
  | .blocked => s.modSeq q.key (fun e =>
    { e with state := .waiting, wait := .op o w, waitAt := match e.wait with | .op _ _ => e.waitAt | _ => s.now })
  | .index => s.modSeq q.key (fun e => { e with state := .waiting, wait := .index o w })
  | .stop s1 f => s1.seqStop q f

/-! ## Fetching (R156, R173, R174) -/

/-- The operations in the order of their codes, 00h to 37h (R160). -/
def seqOps : List SeqOp :=
  [.nop, .brz, .brneg, .breqi, .brlt, .brbit, .brflag, .djnz, .call, .ret, .switch, .endsweep, .abort, .fence, .waitidx, .trap,
   .ldi, .ldis, .ldim, .ldih, .mov, .add, .addi, .sub, .and, .andi, .or, .ori, .xor, .shli, .shri] ++
  [.muli, .ldp, .nextitem, .ldh, .ldm, .stm, .post, .msend, .mrecv, .pred, .pset, .swap, .wrset, .srd, .swr, .cfrag, .gateoff,
   .seekreq, .replay, .armclr, .ctsnap, .ticket, .wfeed, .evsend, .evclr]

/-- The operation of a control-store word (R156, R160); `none` for a reserved code. -/
def wordOp (v : Nat) : Option SeqOp := seqOps[v / 2 ^ 34 % 64]?

/-- The fields of a control-store word other than OP (R156). -/
def microWord (v : Nat) : MicroWord where
  a := BitVec.ofNat 6 (v / 2 ^ 28)
  b := BitVec.ofNat 12 (v / 65536)
  next := BitVec.ofNat 12 (v / 16)
  timing := BitVec.ofNat 4 v

/-- One image of a staging area: the media image and the transfer image, in either order. -/
def mcImage (b : List Byte) (kind : Nat) : Option (List Byte) :=
  let x := b.take 20640
  let y := (b.drop 20640).take 20640
  if fldU x 4 1 = kind then some x else if fldU y 4 1 = kind then some y else none

/-- A word of an image; 0 where nothing has been loaded (R156). -/
def imageWord (b : List Byte) (xfer : Bool) (addr : Nat) : Nat :=
  fldU ((mcImage b (if xfer then 2 else 1)).getD []) (64 + 5 * addr) 5

/-- The control stores of the port cluster that a sequencer belongs to (R173). -/
def State.ctlStore (s : State) (q : SeqId) : StoreSt := mapGet (fun _ => {}) s.mc.stores (16 * q.unit.code + q.port)

/-- The control stores of a sequencer's port cluster changed. -/
def State.modStore (s : State) (q : SeqId) (f : StoreSt → StoreSt) : State :=
  { s with mc := { s.mc with stores := mapPut (fun _ => {}) s.mc.stores (16 * q.unit.code + q.port) (f (s.ctlStore q)) } }

/-- The word that a sequencer fetches next (R173). -/
def State.nextWord (s : State) (q : SeqId) : Nat := imageWord (s.ctlStore q).images q.xfer (s.getSeq q.key).next.toNat

/-- Whether the word a sequencer fetches next is a given operation with given fields. -/
def State.fetches (s : State) (q : SeqId) (o : SeqOp) (w : MicroWord) : Bool :=
  wordOp (s.nextWord q) == some o && { w with corrected := false } == microWord (s.nextWord q)

/-- A fetch: the word's address becomes SEQ_PC, and a corrected bit is flagged and counted, its word to be rewritten (R174). -/
def State.seqFetch (s : State) (q : SeqId) (corrected : Bool) : State :=
  let n := (s.getSeq q.key).next
  let s := s.modSeq q.key (fun e => { e with pc := n })
  if corrected then
    ((s.inc (Obj.CS_CORRECTED_COUNT q.unit q.k)).raise (.seq q.k) [.SEQ_CS_CORRECTED]).modStore q
      (fun m => { m with flaws := (q.xfer, n.toNat) :: m.flaws })
  else s

/-- A fetched word carried out (R159-R161). -/
def State.seqWord (s : State) (q : SeqId) (o : SeqOp) (w : MicroWord) : State :=
  let s := s.seqFetch q w.corrected
  if q.xfer && o.mediaOnly || !q.xfer && o.xferOnly || q.xfer && 0xD ≤ w.timing.toNat then s.seqStop q .SEQ_ILLEGAL_OP
  else s.seqAfter q o w (s.op q o w)

/-- A sequencer runs and is not halted by the monitor. -/
def SeqSt.goes (e : SeqSt) : Bool := e.state == .running && !e.halted

/-- A word fetched by a sequencer that goes on: the one its control store holds at the next address. -/
def State.seqRun (s : State) (q : SeqId) (o : SeqOp) (w : MicroWord) : State :=
  if (s.getSeq q.key).goes && s.fetches q o w then s.seqWord q o w else s

/-- NOP (R160), both kinds: the operation runs on a running sequencer and the sequencer goes on. -/
def execNop (q : SeqId) (w : MicroWord) (s : State) : Host.Outcome State Fault Refusal :=
  State.after (s.seqRun q .nop w)

/-- BRZ (R160), both kinds: the operation runs on a running sequencer and the sequencer goes on. -/
def execBrz (q : SeqId) (w : MicroWord) (s : State) : Host.Outcome State Fault Refusal :=
  State.after (s.seqRun q .brz w)

/-- BRNEG (R160), both kinds: the operation runs on a running sequencer and the sequencer goes on. -/
def execBrneg (q : SeqId) (w : MicroWord) (s : State) : Host.Outcome State Fault Refusal :=
  State.after (s.seqRun q .brneg w)

/-- BREQI (R160), both kinds: the operation runs on a running sequencer and the sequencer goes on. -/
def execBreqi (q : SeqId) (w : MicroWord) (s : State) : Host.Outcome State Fault Refusal :=
  State.after (s.seqRun q .breqi w)

/-- BRLT (R160), both kinds: the operation runs on a running sequencer and the sequencer goes on. -/
def execBrlt (q : SeqId) (w : MicroWord) (s : State) : Host.Outcome State Fault Refusal :=
  State.after (s.seqRun q .brlt w)

/-- BRBIT (R160), both kinds: the operation runs on a running sequencer and the sequencer goes on. -/
def execBrbit (q : SeqId) (w : MicroWord) (s : State) : Host.Outcome State Fault Refusal :=
  State.after (s.seqRun q .brbit w)

/-- BRFLAG (R160), both kinds: the operation runs on a running sequencer and the sequencer goes on. -/
def execBrflag (q : SeqId) (w : MicroWord) (s : State) : Host.Outcome State Fault Refusal :=
  State.after (s.seqRun q .brflag w)

/-- DJNZ (R160), both kinds: the operation runs on a running sequencer and the sequencer goes on. -/
def execDjnz (q : SeqId) (w : MicroWord) (s : State) : Host.Outcome State Fault Refusal :=
  State.after (s.seqRun q .djnz w)

/-- CALL (R160), both kinds: the operation runs on a running sequencer and the sequencer goes on. -/
def execCall (q : SeqId) (w : MicroWord) (s : State) : Host.Outcome State Fault Refusal :=
  State.after (s.seqRun q .call w)

/-- RET (R160), both kinds: the operation runs on a running sequencer and the sequencer goes on. -/
def execRet (q : SeqId) (w : MicroWord) (s : State) : Host.Outcome State Fault Refusal :=
  State.after (s.seqRun q .ret w)

/-- SWITCH (R160), both kinds: the operation runs on a running sequencer and the sequencer goes on. -/
def execSwitch (q : SeqId) (w : MicroWord) (s : State) : Host.Outcome State Fault Refusal :=
  State.after (s.seqRun q .switch w)

/-- ENDSWEEP (R160), both kinds: the operation runs on a running sequencer and the sequencer goes on. -/
def execEndsweep (q : SeqId) (w : MicroWord) (s : State) : Host.Outcome State Fault Refusal :=
  State.after (s.seqRun q .endsweep w)

/-- ABORT (R160), both kinds: the operation runs on a running sequencer and the sequencer goes on. -/
def execAbort (q : SeqId) (w : MicroWord) (s : State) : Host.Outcome State Fault Refusal :=
  State.after (s.seqRun q .abort w)

/-- FENCE (R160), both kinds: the operation runs on a running sequencer and the sequencer goes on. -/
def execFence (q : SeqId) (w : MicroWord) (s : State) : Host.Outcome State Fault Refusal :=
  State.after (s.seqRun q .fence w)

/-- WAITIDX (R160), both kinds: the operation runs on a running sequencer and the sequencer goes on. -/
def execWaitidx (q : SeqId) (w : MicroWord) (s : State) : Host.Outcome State Fault Refusal :=
  State.after (s.seqRun q .waitidx w)

/-- TRAP (R160), both kinds: the operation runs on a running sequencer and the sequencer goes on. -/
def execTrap (q : SeqId) (w : MicroWord) (s : State) : Host.Outcome State Fault Refusal :=
  State.after (s.seqRun q .trap w)

/-- LDI (R160), both kinds: the operation runs on a running sequencer and the sequencer goes on. -/
def execLdi (q : SeqId) (w : MicroWord) (s : State) : Host.Outcome State Fault Refusal :=
  State.after (s.seqRun q .ldi w)

/-- LDIS (R160), both kinds: the operation runs on a running sequencer and the sequencer goes on. -/
def execLdis (q : SeqId) (w : MicroWord) (s : State) : Host.Outcome State Fault Refusal :=
  State.after (s.seqRun q .ldis w)

/-- LDIM (R160), both kinds: the operation runs on a running sequencer and the sequencer goes on. -/
def execLdim (q : SeqId) (w : MicroWord) (s : State) : Host.Outcome State Fault Refusal :=
  State.after (s.seqRun q .ldim w)

/-- LDIH (R160), both kinds: the operation runs on a running sequencer and the sequencer goes on. -/
def execLdih (q : SeqId) (w : MicroWord) (s : State) : Host.Outcome State Fault Refusal :=
  State.after (s.seqRun q .ldih w)

/-- MOV (R160), both kinds: the operation runs on a running sequencer and the sequencer goes on. -/
def execMov (q : SeqId) (w : MicroWord) (s : State) : Host.Outcome State Fault Refusal :=
  State.after (s.seqRun q .mov w)

/-- ADD (R160), both kinds: the operation runs on a running sequencer and the sequencer goes on. -/
def execAdd (q : SeqId) (w : MicroWord) (s : State) : Host.Outcome State Fault Refusal :=
  State.after (s.seqRun q .add w)

/-- ADDI (R160), both kinds: the operation runs on a running sequencer and the sequencer goes on. -/
def execAddi (q : SeqId) (w : MicroWord) (s : State) : Host.Outcome State Fault Refusal :=
  State.after (s.seqRun q .addi w)

/-- SUB (R160), both kinds: the operation runs on a running sequencer and the sequencer goes on. -/
def execSub (q : SeqId) (w : MicroWord) (s : State) : Host.Outcome State Fault Refusal :=
  State.after (s.seqRun q .sub w)

/-- AND (R160), both kinds: the operation runs on a running sequencer and the sequencer goes on. -/
def execAnd (q : SeqId) (w : MicroWord) (s : State) : Host.Outcome State Fault Refusal :=
  State.after (s.seqRun q .and w)

/-- ANDI (R160), both kinds: the operation runs on a running sequencer and the sequencer goes on. -/
def execAndi (q : SeqId) (w : MicroWord) (s : State) : Host.Outcome State Fault Refusal :=
  State.after (s.seqRun q .andi w)

/-- OR (R160), both kinds: the operation runs on a running sequencer and the sequencer goes on. -/
def execOr (q : SeqId) (w : MicroWord) (s : State) : Host.Outcome State Fault Refusal :=
  State.after (s.seqRun q .or w)

/-- ORI (R160), both kinds: the operation runs on a running sequencer and the sequencer goes on. -/
def execOri (q : SeqId) (w : MicroWord) (s : State) : Host.Outcome State Fault Refusal :=
  State.after (s.seqRun q .ori w)

/-- XOR (R160), both kinds: the operation runs on a running sequencer and the sequencer goes on. -/
def execXor (q : SeqId) (w : MicroWord) (s : State) : Host.Outcome State Fault Refusal :=
  State.after (s.seqRun q .xor w)

/-- SHLI (R160), both kinds: the operation runs on a running sequencer and the sequencer goes on. -/
def execShli (q : SeqId) (w : MicroWord) (s : State) : Host.Outcome State Fault Refusal :=
  State.after (s.seqRun q .shli w)

/-- SHRI (R160), both kinds: the operation runs on a running sequencer and the sequencer goes on. -/
def execShri (q : SeqId) (w : MicroWord) (s : State) : Host.Outcome State Fault Refusal :=
  State.after (s.seqRun q .shri w)

/-- MULI (R160), both kinds: the operation runs on a running sequencer and the sequencer goes on. -/
def execMuli (q : SeqId) (w : MicroWord) (s : State) : Host.Outcome State Fault Refusal :=
  State.after (s.seqRun q .muli w)

/-- LDP (R160), both kinds: the operation runs on a running sequencer and the sequencer goes on. -/
def execLdp (q : SeqId) (w : MicroWord) (s : State) : Host.Outcome State Fault Refusal :=
  State.after (s.seqRun q .ldp w)

/-- NEXTITEM (R160), both kinds: the operation runs on a running sequencer and the sequencer goes on. -/
def execNextitem (q : SeqId) (w : MicroWord) (s : State) : Host.Outcome State Fault Refusal :=
  State.after (s.seqRun q .nextitem w)

/-- LDH (R160), both kinds: the operation runs on a running sequencer and the sequencer goes on. -/
def execLdh (q : SeqId) (w : MicroWord) (s : State) : Host.Outcome State Fault Refusal :=
  State.after (s.seqRun q .ldh w)

/-- LDM (R160), transfer sequencers only: the operation runs on a running sequencer and the sequencer goes on. -/
def execLdm (q : SeqId) (w : MicroWord) (s : State) : Host.Outcome State Fault Refusal :=
  State.after (s.seqRun q .ldm w)

/-- STM (R160), transfer sequencers only: the operation runs on a running sequencer and the sequencer goes on. -/
def execStm (q : SeqId) (w : MicroWord) (s : State) : Host.Outcome State Fault Refusal :=
  State.after (s.seqRun q .stm w)

/-- POST (R160), transfer sequencers only: the operation runs on a running sequencer and the sequencer goes on. -/
def execPost (q : SeqId) (w : MicroWord) (s : State) : Host.Outcome State Fault Refusal :=
  State.after (s.seqRun q .post w)

/-- MSEND (R160), both kinds: the operation runs on a running sequencer and the sequencer goes on. -/
def execMsend (q : SeqId) (w : MicroWord) (s : State) : Host.Outcome State Fault Refusal :=
  State.after (s.seqRun q .msend w)

/-- MRECV (R160), both kinds: the operation runs on a running sequencer and the sequencer goes on. -/
def execMrecv (q : SeqId) (w : MicroWord) (s : State) : Host.Outcome State Fault Refusal :=
  State.after (s.seqRun q .mrecv w)

/-- PRED (R160), media sequencers only: the operation runs on a running sequencer and the sequencer goes on. -/
def execPred (q : SeqId) (w : MicroWord) (s : State) : Host.Outcome State Fault Refusal :=
  State.after (s.seqRun q .pred w)

/-- PSET (R160), media sequencers only: the operation runs on a running sequencer and the sequencer goes on. -/
def execPset (q : SeqId) (w : MicroWord) (s : State) : Host.Outcome State Fault Refusal :=
  State.after (s.seqRun q .pset w)

/-- SWAP (R160), media sequencers only: the operation runs on a running sequencer and the sequencer goes on. -/
def execSwap (q : SeqId) (w : MicroWord) (s : State) : Host.Outcome State Fault Refusal :=
  State.after (s.seqRun q .swap w)

/-- WRSET (R160), media sequencers only: the operation runs on a running sequencer and the sequencer goes on. -/
def execWrset (q : SeqId) (w : MicroWord) (s : State) : Host.Outcome State Fault Refusal :=
  State.after (s.seqRun q .wrset w)

/-- SRD (R160), media sequencers only: the operation runs on a running sequencer and the sequencer goes on. -/
def execSrd (q : SeqId) (w : MicroWord) (s : State) : Host.Outcome State Fault Refusal :=
  State.after (s.seqRun q .srd w)

/-- SWR (R160), media sequencers only: the operation runs on a running sequencer and the sequencer goes on. -/
def execSwr (q : SeqId) (w : MicroWord) (s : State) : Host.Outcome State Fault Refusal :=
  State.after (s.seqRun q .swr w)

/-- CFRAG (R160), media sequencers only: the operation runs on a running sequencer and the sequencer goes on. -/
def execCfrag (q : SeqId) (w : MicroWord) (s : State) : Host.Outcome State Fault Refusal :=
  State.after (s.seqRun q .cfrag w)

/-- GATEOFF (R160), media sequencers only: the operation runs on a running sequencer and the sequencer goes on. -/
def execGateoff (q : SeqId) (w : MicroWord) (s : State) : Host.Outcome State Fault Refusal :=
  State.after (s.seqRun q .gateoff w)

/-- SEEKREQ (R160), media sequencers only: the operation runs on a running sequencer and the sequencer goes on. -/
def execSeekreq (q : SeqId) (w : MicroWord) (s : State) : Host.Outcome State Fault Refusal :=
  State.after (s.seqRun q .seekreq w)

/-- REPLAY (R160), media sequencers only: the operation runs on a running sequencer and the sequencer goes on. -/
def execReplay (q : SeqId) (w : MicroWord) (s : State) : Host.Outcome State Fault Refusal :=
  State.after (s.seqRun q .replay w)

/-- ARMCLR (R160), media sequencers only: the operation runs on a running sequencer and the sequencer goes on. -/
def execArmclr (q : SeqId) (w : MicroWord) (s : State) : Host.Outcome State Fault Refusal :=
  State.after (s.seqRun q .armclr w)

/-- CTSNAP (R160), media sequencers only: the operation runs on a running sequencer and the sequencer goes on. -/
def execCtsnap (q : SeqId) (w : MicroWord) (s : State) : Host.Outcome State Fault Refusal :=
  State.after (s.seqRun q .ctsnap w)

/-- TICKET (R160), transfer sequencers only: the operation runs on a running sequencer and the sequencer goes on. -/
def execTicket (q : SeqId) (w : MicroWord) (s : State) : Host.Outcome State Fault Refusal :=
  State.after (s.seqRun q .ticket w)

/-- WFEED (R160), transfer sequencers only: the operation runs on a running sequencer and the sequencer goes on. -/
def execWfeed (q : SeqId) (w : MicroWord) (s : State) : Host.Outcome State Fault Refusal :=
  State.after (s.seqRun q .wfeed w)

/-- EVSEND (R160), transfer sequencers only: the operation runs on a running sequencer and the sequencer goes on. -/
def execEvsend (q : SeqId) (w : MicroWord) (s : State) : Host.Outcome State Fault Refusal :=
  State.after (s.seqRun q .evsend w)

/-- EVCLR (R160), transfer sequencers only: the operation runs on a running sequencer and the sequencer goes on. -/
def execEvclr (q : SeqId) (w : MicroWord) (s : State) : Host.Outcome State Fault Refusal :=
  State.after (s.seqRun q .evclr w)

/-- ILLEGAL_OP (R161): a sequencer fetches a word of a reserved code; the operand tells whether its fetch corrected a bit. -/
def execIllegalOp (q : SeqId) (corrected : Bool) (s : State) : Host.Outcome State Fault Refusal :=
  State.after (
    if (s.getSeq q.key).goes && (wordOp (s.nextWord q)).isNone then (s.seqFetch q corrected).seqStop q .SEQ_ILLEGAL_OP else s)

/-- SEQ_OP_UNBLOCKED (R159): a blocked operation is tried again and goes on when its engine accepts it. -/
def execSeqOpUnblocked (q : SeqId) (s : State) : Host.Outcome State Fault Refusal :=
  State.after (
    match (s.getSeq q.key).wait with
    | .op o w | .index o w => if (s.getSeq q.key).state = .waiting then s.seqAfter q o w (s.op q o w) else s
    | _ => s)

/-- DELAY_EXPIRY (R164): the delay element runs out. -/
def execDelayExpiry (q : SeqId) (s : State) : Host.Outcome State Fault Refusal :=
  State.after (
    match (s.getSeq q.key).wait with
    | .delay _ => s.modSeq q.key (fun e => { e with state := .running, wait := .none })
    | _ => s)

/-- WAIT_CONDITION_MET (R168): the selected condition holds; condition Ch is met by the tick itself. -/
def execWaitConditionMet (q : SeqId) (s : State) : Host.Outcome State Fault Refusal :=
  State.after (
    match (s.getSeq q.key).wait with
    | .cond n =>
      if n = 0xC || s.condHolds q n then
        (s.modSeq q.key (fun e => { e with state := .running, wait := .none })).condTake q n
      else s
    | _ => s)

/-- SEQ_WATCHDOG (R188): an engine or a wait condition other than Ch keeps a word longer than SEQ_WATCHDOG. -/
def execSeqWatchdog (q : SeqId) (s : State) : Host.Outcome State Fault Refusal :=
  State.after (
    if s.now ≤ (s.getSeq q.key).waitAt + s.rd Obj.SEQ_WATCHDOG then s
    else
    match (s.getSeq q.key).wait with
    | .op _ _ => s.seqStop q .SEQ_WATCHDOG
    | .cond n => if n = 0xC then s else s.seqStop q .SEQ_WATCHDOG
    | _ => s)

/-- REPLICA_CALIBRATION (R165): STAGE_COUNT is counted and element k set to DELAY_BITS[k] × STAGE_COUNT / 1024 stages, halves
upward; a delay in progress keeps its own. -/
def execReplicaCalibration (u : UnitId) (p : PortId) (a : ActId) (stages : BitVec 16) (s : State) :
    Host.Outcome State Fault Refusal :=
  let q : SeqId := ⟨u, p, a, false⟩
  let s := s.wr (Obj.STAGE_COUNT u q.k) stages.toNat
  State.after (s.modSeq q.key (fun e =>
    let m := mapEach (fun _ => 0) e.stages ((List.range 15).map (· + 1))
      (fun k _ => (s.rd (Obj.DELAY_BITS (k - 1)) * stages.toNat + 512) / 1024)
    { e with stages := m }))

/-- CONTROL_STORE_RELOAD (R174): a double-bit error at a fetch stops the sequencer with CS_UNCORRECTABLE, both control stores
of the port cluster are reloaded from the master copy, and the cluster's sequencers run the empty plan until the next drain. -/
def execControlStoreReload (q : SeqId) (s : State) : Host.Outcome State Fault Refusal :=
  State.after (
    if (s.getSeq q.key).goes then
      let s := (s.seqFetch q false).seqStop q .SEQ_CS_UNCORRECTABLE
      let s := s.modStore q (fun _ => { images := s.mc.images })
      s.forEach [(0 : ActId), 1] (fun s a =>
        let s := s.modPlan (chanKey q.port a) (fun pl => { pl with empty := true })
        s.forEach [false, true] (fun s t =>
          s.modSeq (SeqId.key ⟨q.unit, q.port, a, t⟩) (fun e =>
            if e.state = .stopped then e else { e with state := .waitEdge, wait := .none })))
    else s)

/-! ## Drain (R184) -/

/-- One sequencer drained and started again at its entry address; the words corrected in its store are rewritten (R174),
and every inbound latch is cleared (R172). -/
def State.seqDrain (s : State) (q : SeqId) (start : Bool) : State :=
  let e := s.getSeq q.key
  let forced := !e.ended && (e.state == .running || e.state == .waiting)
  let s := if forced then
      (s.inc (Obj.DRAIN_FORCED_COUNT q.unit q.k)).raise (.seq q.k) [.SEQ_DRAIN_FORCED]
    else s
  let s := if (s.ctlStore q).flaws.isEmpty then s
    else s.modStore q (fun m => { m with flaws := m.flaws.filter (fun f => f.1 != q.xfer) })
  let pl := s.getPlan q.chan
  let init := fun i => BitVec.ofNat 32 (pl.field ((if q.xfer then 32 else 16) + 4 * i) 4)
  s.putSeq q.key
    { e with
      state := if start then .running else .waitEdge
      wait := .none
      ended := false
      next := if start then BitVec.ofNat 12 (pl.field (if q.xfer then 12 else 10) 2) else e.next
      g := if start then (List.range 4).foldl (fun m i => mapPut (fun _ => 0) m (28 + i) (init i)) []
        else e.g.filter (fun r => 28 ≤ r.1)
      planPtr := 64, itemNo := 0, stack := [], mbox := [], comp := [], err := []
      slotMap := s.rd (Obj.EV_SLOT_MAP q.k) }

/-- What an actuator has in flight ends at the sweep edge (R24): a sector being read gets NOT_READ (R109), one whose gate is still
open is a failed write. -/
def State.edgeEnds (s : State) (p a : Nat) : State :=
  let s := s.dropRead p a
  match (s.getChan (chanKey p a)).writeCur with
  | some r =>
    let s := s.modPn2 p (fun q => q.modAct a (fun x => { x with gate := false }))
    (s.failWrite p a r true).modChan (chanKey p a) ChanSt.gateEnds
  | none => s

/-- One actuator drained (R184): what is in flight ends, arms are withdrawn, unpaired tickets answered NOT_READ, unpaired feeds
discarded, the plan halves exchanged, both sequencers started. -/
def State.drainAct (s : State) (p : PortId) (a : ActId) : State :=
  let k := chanKey p a
  let s := (s.edgeEnds p a).withdraw p a
  let c := s.getChan k
  let s := s.modChan k (fun c => { c with tickets := c.tickets.filter Ticket.paired, feeds := c.feeds.filter Feed.paired })
  let s := s.forEach (c.tickets.filter (fun t => !t.paired)) (fun s t => s.ticketUnread p a t)
  let s := s.modPlan k (fun pl =>
    let go := pl.committed && !pl.discarded
    { pl with exec := if go then 1 - pl.exec else pl.exec, empty := !go, committed := false, discarded := false
              done := 0, failed := 0, band := pl.nextBand })
  let s := s.modChan k (fun c => { c with item := none, ticketLog := [], feedLog := [] })
  let go := !(s.getPlan k).empty
  s.forEach [UnitId.A, UnitId.B] (fun s u =>
    s.forEach [false, true] (fun s t => s.seqDrain ⟨u, p, a, t⟩ (go && u == s.pair.active)))

/-- A port's sequencers drained at its index (R24, R184). -/
def State.drainPort (s : State) (p : PortId) : State := (s.drainAct p 0).drainAct p 1

/-- Every sequencer of a unit stopped with nothing in flight, as when TOKEN is released (R27). -/
def State.seqFreeze (s : State) (u : UnitId) (p : PortId) : State :=
  s.forEach [(0 : ActId), 1] (fun s a =>
    let s := s.modPlan (chanKey p a) (fun pl => { pl with empty := true, committed := false })
    s.forEach [false, true] (fun s t =>
      s.modSeq (SeqId.key ⟨u, p, a, t⟩) (fun e => { e with state := .waitEdge, wait := .none })))

/-! ## Microcode images (R175-R178) -/

/-- The header checks of an image (R175). -/
def mcHeaderOk (b : List Byte) (kind : Nat) : Bool :=
  b.take 4 == [0x4B, 0x4D, 0x43, 0x49] && fldU b 4 1 == kind && fldU b 5 1 == 1 && fldU b 6 2 == 4096 &&
  (List.range 16).all (fun i => fldU b (16 + 2 * i) 2 ≤ 4095) && ((b.drop 48).take 16).all (· == 0)

/-- The image that the firmware of the active unit runs from. -/
def State.runningFw (s : State) : List Byte := (s.getFw s.pair.active.code).running.getD []

/-- The signature of an image under the microcode key of the running firmware (R175, R176). -/
def State.mcSigned (s : State) (m : List Byte) : Bool :=
  ecdsaOk (Config.mcKey s.runningFw) (m.take 20544) ((m.drop 20544).take 96)

/-- MC_RESULT of a verification (R176): headers, signatures, MIN_FW. -/
def State.mcCheck (s : State) (b : List Byte) : Nat :=
  match mcImage b 1, mcImage b 2 with
  | some m, some x =>
    if !mcHeaderOk m 1 || !mcHeaderOk x 2 then 0x05
    else if !s.mcSigned m || !s.mcSigned x then 0x04
    else if s.rd (Obj.FW_VERSION s.pair.active) < max (fldU m 12 4) (fldU x 12 4) then 0x08
    else 0x02
  | _, _ => 0x05

/-- Images put into service (R176, R177): the master copy, the active unit's port clusters, and a ready standby's. -/
def State.mcService (s : State) (b : List Byte) (src : McSource) : State :=
  let s := ({ s with mc := { s.mc with images := b, source := src } } : State).mcCopy s.pair.active
  if s.peerReady then s.mcCopy s.pair.active.other else s

/-- IMG_VERSION of an image in service (R175, R189). -/
def McSt.version (m : McSt) (xfer : Bool) : Nat := fldU ((mcImage m.images (if xfer then 2 else 1)).getD []) 8 4

/-- The built-in images of the running firmware put into service (R175). -/
def State.mcBuiltIn (s : State) : State := s.mcService (Config.builtInImages s.runningFw) .builtIn

/-- At a Bring-up the stored images are used when they verify, the built-in ones of the firmware otherwise with an Advisory event;
images loaded and not stored stay in use until the next power cycle (R178). -/
def State.mcBringUp (s : State) : State :=
  match s.mc.stored with
  | none => if s.mc.source = .loaded then s.mcService s.mc.images .loaded else s.mcBuiltIn
  | some b => if s.mcCheck b = 2 then s.mcService b .stored else s.mcBuiltIn.logFirmware s.reporter advisory

/-- Whether a raw operation is in progress on any actuator (R176, R592). -/
def State.rawBusy (s : State) : Bool := s.raw.any (fun e => e.2.op.isSome)

/-- A result of the microcode loader. -/
def State.mcResult (s : State) (r : Nat) : State := { s with mc := { s.mc with result := r } }

/-- A write of MC_COMMAND or MC_STAGE with its effect; outside Maintenance MC_RESULT reads 06h (R176). -/
def State.mcWrite (s : State) (q : Requester) (u : UnitId) (key : Nat) (d : List Byte) (effect : State → State) : State :=
  s.hold (.write q u (keyIndex key) (keySub key) d) fun s =>
  let e := s.writeErr u (keyIndex key) (keySub key) q d
  if e = 0x05 then (s.mcResult 0x06).answer q e else s.tryKey q u key d 0 effect

/-- MC_STAGE_WRITE (R176): the staging area is written and the previous verification void. -/
def execMcStageWrite (q : Requester) (u : UnitId) (data : List Byte) (s : State) : Host.Outcome State Fault Refusal :=
  State.after (s.mcWrite q u Obj.MC_STAGE data (fun s => { s with mc := { s.mc with stage := data, verified := false } }))

/-- MC_VERIFY (R176): the check begins. -/
def execMcVerify (q : Requester) (u : UnitId) (s : State) : Host.Outcome State Fault Refusal :=
  State.after (s.mcWrite q u Obj.MC_COMMAND [1] (fun s => s.mcResult 0x01))

/-- MC_VERIFY_COMPLETE (R176): the check in progress ends. -/
def execMcVerifyComplete (s : State) : Host.Outcome State Fault Refusal :=
  State.after (
    if s.mc.result ≠ 0x01 || s.mc.loading.isSome then s
    else
      let r := s.mcCheck s.mc.stage
      { s with mc := { s.mc with result := r, verified := r == 0x02 } })

/-- MC_LOAD (R176): refused without a verification or during a raw operation; otherwise the load begins. -/
def execMcLoad (q : Requester) (u : UnitId) (s : State) : Host.Outcome State Fault Refusal :=
  State.after (s.mcWrite q u Obj.MC_COMMAND [2] (fun s =>
    if !s.mc.verified then s.mcResult 0x0B
    else if s.rawBusy then s.mcResult 0x07
    else { s with mc := { s.mc with result := 0x01, loading := some s.mc.stage, revert := false } }))

/-- MC_LOAD_COMPLETE (R177): in service on both units, or on neither when a standby that is present failed. -/
def execMcLoadComplete (peerOk : Bool) (s : State) : Host.Outcome State Fault Refusal :=
  State.after (
    match s.mc.loading with
    | none => s
    | some b =>
      if s.peerReady && !peerOk then { s with mc := { s.mc with loading := none, result := 0x09 } }
      else
        let s := s.mcService b (if s.mc.revert then .builtIn else .loaded)
        { s with mc := { s.mc with loading := none, result := 0x03 } })

/-- MC_PERSIST (R178): the loaded images are stored in journal flash; with none loaded there is nothing to store. -/
def execMcPersist (q : Requester) (u : UnitId) (s : State) : Host.Outcome State Fault Refusal :=
  State.after (s.mcWrite q u Obj.MC_COMMAND [3] (fun s =>
    if s.mc.source = .builtIn then s
    else { s with mc := { s.mc with stored := some s.mc.images, source := .stored, result := 0x0A } }))

/-- MC_REVERT (R178): the stored images are erased and the built-in images loaded as by LOAD. -/
def execMcRevert (q : Requester) (u : UnitId) (s : State) : Host.Outcome State Fault Refusal :=
  State.after (s.mcWrite q u Obj.MC_COMMAND [4] (fun s =>
    { s with mc := { s.mc with
        stored := none, loading := some (Config.builtInImages s.runningFw), revert := true, result := 0x01 } }))

end Sys2Proof.Machine
end

