-- ==== Sys2Proof/Machine/Demod.lean ====
section
/-! DEFINITION. The servo demodulator (R191-R199): where a wedge and its window lie, the servo cells of a window, the preamble's
reference waveform, servo bits, the search for the SAM, bursts and the fine position. -/

namespace Sys2Proof.Machine

/-! ## Where a wedge lies (R122, R131, R193) -/

/-- The ratio in force (R193): that of the ratio block sent last, or before any has been sent the one the PN2 starts with, which the
spec does not give. -/
def State.ratioNow (s : State) (p a : Nat) : Nat × Nat :=
  let r := (s.getChan (chanKey p a)).ratioSent
  if r = 0 then Config.startRatio else (r / 256, r % 256)

/-- Bits before a wedge on its track: floor(k × B / 512). -/
def wedgeBits (ct m n k : Nat) : Nat := k * ct * m / (n * 512)

/-- The sample index at which the servo field of wedge k starts on a head (R122, R131), at the pass nearest the last clock-track
frame. -/
def State.wedgeIndex (s : State) (p a head k : Nat) : Word :=
  let (m, n) := s.ratioNow p a
  let ct := s.rd (Obj.CT_CYCLES_PER_REV p)
  let rev : Int := wedgeBits ct m n 512
  let d : Int := (wedgeBits ct m n k : Int) - (s.ctSince p a head * m / n : Nat)
  let near := if rev < 2 * d then d - rev else if 2 * d < -rev then d + rev else d
  (s.getChan (chanKey p a)).ctIndex + BitVec.ofInt 32 near

/-- The wedge whose field the clock-track count predicts at a sample index (R197). -/
def State.wedgeAt (s : State) (p a head : Nat) (i : Word) : Nat :=
  let (m, n) := s.ratioNow p a
  let ct := s.rd (Obj.CT_CYCLES_PER_REV p)
  let since : Int := s.ctSince p a head * m
  let at_ : Int := since + (i - (s.getChan (chanKey p a)).ctIndex).toInt * n
  ((at_ * 1024 + ct * m) / (2 * (ct * m) : Nat) % 512).toNat

/-- The servo window of wedge k on a head (R193): its first sample and its length. -/
def State.servoWindow (s : State) (p a head k : Nat) : Word × Nat :=
  let (m, n) := s.ratioNow p a
  let ct := s.rd (Obj.CT_CYCLES_PER_REV p)
  (s.wedgeIndex p a head k - 64, (716 * ct * m + n * 8388608 - 1) / (n * 8388608) + 128)

/-! ## The samples of a window (R43, R45, R47, R55) -/

/-- The samples that the servo-window lane brings after the window's header, and the header; `none` without a header. -/
def windowGroups (a : Nat) : List LaneBlock → Option (ControlBlock × List Stretch)
  | [] => none
  | .control w :: rest =>
    match controlBlock w with
    | some b =>
      if b.kind = .servoHeader ∧ b.act = a ∧ b.sublane = 4 then some (b, (laneGroups 64 b.sampleIndex rest).done)
      else windowGroups a rest
    | none => windowGroups a rest
  | _ :: rest => windowGroups a rest

/-- n samples from an index on, 0 for one whose group did not arrive intact. -/
def samplesFrom (l : List Stretch) (start : Word) (n : Nat) : List Int :=
  (List.range n).map (fun k => (sampleAt l (start + BitVec.ofNat 32 k)).getD 0)

/-! ## Servo cells and the reference waveform (R191, R192) -/

/-- The sample of the window at which a cell starts, counted from the window's first: the field begins 64 samples into it. -/
def cellStart (ct m n : Nat) (field : Int) (c : Int) : Nat :=
  (field + (c * (ct * m : Nat) + (n * 8388608 - 1 : Nat)) / (n * 8388608 : Nat)).toNat

/-- The means of the samples of n cells from cell c on, in units of 1/2520 of a step: a window of 8192 samples has at most 10 to a cell. -/
def cellMeans (at_ : Int → Nat) : Nat → Int → List Int → List Int
  | 0, _, _ => []
  | n + 1, c, xs => let w := at_ (c + 1) - at_ c
    2520 * (xs.take w).sum / w :: cellMeans at_ n (c + 1) (xs.drop w)

/-- The cells of a window from 64 before the predicted start of the field to 64 after its end. -/
abbrev Cells := List Int

/-- One cell, counted from the predicted start of the field. -/
def cell (l : Cells) (c : Int) : Int := if c < -64 then 0 else l.getD (c + 64).toNat 0

/-- A servo bit of value 1 again and again: +,+,−,− from cell 0 on (R192). -/
def square (c : Int) : Int := if c % 4 < 2 then 1 else -1

/-- Sum of a function over n cells. -/
def sumCells (f : Int → Int) (c : Int) (n : Nat) : Int := ((List.range n).map (fun (k : Nat) => f (c + k))).sum

/-- The correlation of the preamble's central 64 cells with the square wave and with the same a cell later: they fix the phase of
the reference waveform (DEDUCED: log 198). -/
def preamblePhase (l : Cells) : Int × Int :=
  (sumCells (fun c => cell l c * square c) 48 64, sumCells (fun c => cell l c * square (c - 1)) 48 64)

/-- The preamble's reference waveform, carried on beyond the preamble. -/
def reference (q : Int × Int) (c : Int) : Int := q.1 * square c + q.2 * square (c - 1)

/-- Correlation of n cells with the reference waveform. -/
def correlate (l : Cells) (q : Int × Int) (c : Int) (n : Nat) : Int := sumCells (fun c => cell l c * reference q c) c n

/-- n servo bits from a cell on, msb first (R192): 1 when the correlation over the bit's four cells is positive. -/
def servoBits (l : Cells) (q : Int × Int) (c : Int) (n : Nat) : Nat :=
  (List.range n).foldl (fun (v : Nat) (i : Nat) => 2 * v + if 0 < correlate l q (c + 4 * i) 4 then 1 else 0) 0

/-! ## The SAM (R195) -/

/-- Bits in which two numbers of n bits differ. -/
def bitsDiffer (n x y : Nat) : Nat := ((List.range n).filter (fun i => x.testBit i != y.testBit i)).length

/-- The offset of the SAM accepted within a span of cells (R195): the match with the fewest differing bits, of equals the nearest to
the prediction, of these the earlier. -/
def findSam (l : Cells) (q : Int × Int) (pattern errors span : Nat) : Option Int :=
  let cands := (List.range (2 * span + 1)).map (fun (k : Nat) =>
    let o : Int := (k : Int) - span
    ({ offset := o, diffs := bitsDiffer 12 (servoBits l q (160 + o) 12) pattern } : SyncMatch))
  ((cands.filter (fun m => m.diffs ≤ errors)).foldl (fun (b : Option SyncMatch) m =>
    match b with
    | none => some m
    | some x => if m.better x then some m else some x) none).map (fun m => m.offset)

/-! ## Bursts and the fine position (R198) -/

/-- wrap(z) of R198, in 2^-16 track: into (−1, +1]. -/
def wrapTrack (z : Int) : Int :=
  let r := z % 131072
  if 65536 < r then r - 131072 else r

/-- One term of Euler's series for the arctangent of t = y/x with 0 ≤ y ≤ x, in units of 2^-60: each is the one before times
2n/(2n+1) × y²/(x²+y²). -/
def atanTerms (x y : Nat) : Nat → Nat → Nat → Nat
  | 0, _, _ => 0
  | k + 1, n, term => term + atanTerms x y k (n + 1) (term * (2 * n * (y * y)) / ((2 * n + 1) * (x * x + y * y)))

/-- The arctangent of y/x with 0 ≤ y ≤ x, x above 0, in 2^-60 rad. -/
def atanUnit (x y : Nat) : Nat := atanTerms x y 64 1 (2 ^ 60 * (x * y) / (x * x + y * y))

/-- π in 2^-60. -/
def piQ60 : Nat := 3622009729038561421

/-- atan2(y, x)/π in 2^-16, in (−1, +1] (R198). With both 0 the angle is nowhere given: a free value. -/
def phaseOf (fresh : Nat) (y x : Int) : Int :=
  if y = 0 ∧ x = 0 then wrapTrack (Config.noPhase fresh)
  else
    let ay := y.natAbs
    let ax := x.natAbs
    let acute : Int := if ay ≤ ax then atanUnit ax ay else (piQ60 : Int) / 2 - atanUnit ay ax
    let half := if x < 0 then (piQ60 : Int) - acute else acute
    wrapTrack (roundDiv ((if y < 0 then -half else half) * 65536) piQ60)

/-- What a servo field reads as (R192-R198): whether a SAM was accepted; Gray code, wedge number, the four bursts and the preamble's
amplitude over 64 cells (all to one scale), and the RRO field. -/
structure ServoFields where
  sam : Bool := false
  gray : BitVec 22 := 0
  wedge : Nat := 0
  a1 : Int := 0
  a2 : Int := 0
  a3 : Int := 0
  a4 : Int := 0
  amp : Int := 0
  rro : BitVec 16 := 0
  deriving DecidableEq, Repr

/-- A window's cells read (R192-R198), every field after the SAM timed from it. -/
def readField (l : Cells) (pattern errors span : Nat) : ServoFields :=
  let q := preamblePhase l
  match findSam l q pattern errors span with
  | none => {}
  | some o =>
    let burst := fun (i : Nat) => correlate l q (o + 332 + 80 * i + 8) 64
    { sam := true, gray := BitVec.ofNat 22 (servoBits l q (o + 208) 22), wedge := servoBits l q (o + 296) 9
      a1 := burst 0, a2 := burst 1, a3 := burst 2, a4 := burst 3, amp := q.1 * q.1 + q.2 * q.2
      rro := BitVec.ofNat 16 (servoBits l q (o + 652) 16) }

/-- The head on whose timing a wedge is read (R226): the sample after a head switch still runs on the old head's. -/
def SrvSt.timeHead (v : SrvSt) : Nat := if v.st = .headSwitch && v.switchRun == 0 then v.headWas else v.head

/-- Where the samples of a wedge start, and the samples (R47, R55): those of the servo-window lane behind its header, or, while the
lane is out of service, those of the commanded window on the reader A sub-lanes. -/
def State.wedgeSamples (s : State) (p a : Nat) (d : ServoWindow) : Option (Word × List Int) :=
  let v := s.getSrv (chanKey p a)
  if s.laneUp p (10 + a) then
    (windowGroups a d.lane).map (fun e => (e.1.sampleIndex, samplesFrom e.2 e.1.sampleIndex (s.servoWindow p a v.timeHead 0).2))
  else
    let next := fun lane =>
      BitVec.ofNat 32 (mapGet (fun _ => lane % 2 * 64) (s.getChan (chanKey p a)).laneNext (subLaneKey s.pair.active lane))
    v.win.map (fun e => (e.1, samplesFrom ((laneGroups 128 (next 0) d.a0).done ++ (laneGroups 128 (next 1) d.a1).done) e.1 e.2))

/-- A wedge demodulated (R192-R198): the wedge that the clock track predicts for its window, and what its field reads as; nothing
without a window. -/
def State.demodulate (s : State) (p a : Nat) (d : ServoWindow) : Nat × ServoFields :=
  let v := s.getSrv (chanKey p a)
  let (m, n) := s.ratioNow p a
  match s.wedgeSamples p a d with
  | none => (0, {})
  | some (start, xs) =>
    let k := s.wedgeAt p a v.timeHead (start + 64)
    let field := (s.wedgeIndex p a v.timeHead k - start).toInt
    let l := cellMeans (cellStart (s.rd (Obj.CT_CYCLES_PER_REV p)) m n field) 844 (-64) xs
    let span := if v.st = .loading || v.st = .acquire then 64 else s.rd (Obj.SAM_WINDOW p a)
    (k, readField l (s.rd (Obj.SAM_PATTERN p a)) (s.rd (Obj.SAM_MAX_ERRORS p a)) span)

end Sys2Proof.Machine
end

