-- ==== Sys2Proof/Machine/Servo.lean ====
section
/-! DEFINITION. Servo and actuator control (R191-R245): wedge decodes, the outer and inner loops, seeks, banks and the states
of an actuator. -/

namespace Sys2Proof.Machine

/-! ## Fixed point (R205, R206) -/

/-- Rounded by a power of two, to nearest with ties away from zero (R206). -/
def roundShift (v : Int) (n : Nat) : Int := v.sign * ((v.natAbs + 2 ^ (n - 1)) / 2 ^ n : Nat)

/-- The Q15.16 range of loop states. -/
def satQ (v : Int) : Int := clampI (-2147483648) 2147483647 v

/-- Saturations counted (R206): SAT_COUNT and SAT. -/
def State.saturated (s : State) (p a n : Nat) : State :=
  if n = 0 then s else (s.add (Obj.SAT_COUNT p a) n).raise (.srv p a) [.SRV_SAT]

/-! ## Banks (R211) -/

/-- The default bank of a loop: zero current. -/
def defaultBank (outer : Bool) : List Byte :=
  withCrc (List.replicate 352 0 ++ [if outer then 2 else 1, 0, 0xFF, if outer then 1 else 0xFF] ++ List.replicate 24 0)

/-- The key of bank n of a loop. -/
def bankKey (p a : Nat) (outer : Bool) (n : Nat) : Nat := Obj.OUTER_BANK0 p a + (if outer then 0 else 2) + n

/-- The bytes of a bank. -/
def State.bank (s : State) (p a : Nat) (outer : Bool) (n : Nat) : List Byte :=
  match s.rdBlob (bankKey p a outer n) with
  | [] => defaultBank outer
  | b => b

/-- Row r of a product: K and L over the states and inputs, in units of 2^-45 (R206). -/
def bankRow (b : List Byte) (n r : Nat) (st v : List Int) : Int :=
  ((List.range n).map (fun c => fldI b (4 * (8 * r + c)) 4 * st.getD c 0)).sum +
  ((List.range 3).map (fun c => fldI b (256 + 4 * (3 * r + c)) 4 * v.getD c 0)).sum

/-- A loop product: the new states and the number of saturations. -/
def bankProduct (b : List Byte) (st v : List Int) : List Int × Nat :=
  let n := fldU b 352 1
  let rows := (List.range n).map (fun r => roundShift (bankRow b n r st v) 29)
  (rows.map satQ, (rows.filter (fun x => satQ x != x)).length)

/-- The checks of R213 on a bank. -/
def bankOk (outer : Bool) (b : List Byte) : Bool :=
  let n := fldU b 352 1
  let rm := fldU b 354 1
  let rp := fldU b 355 1
  fldU b 380 4 == (crc32c (b.take 380)).toNat && 1 ≤ n && n ≤ 8 && fldU b 353 1 < n && (rm < n || rm == 0xFF) &&
  (if outer then decide (rp < n) else rp == 0xFF) && ((b.drop 360).take 20).all (· == 0) &&
  (List.range 8).all (fun r =>
    (List.range 8).all (fun c => (r < n && c < n) || fldU b (4 * (8 * r + c)) 4 == 0) &&
    (List.range 3).all (fun c => r < n || fldU b (256 + 4 * (3 * r + c)) 4 == 0))

/-! ## Wedge decodes (R195-R201) -/

/-- The Gray code of a track number decoded (R197): each bit is the XOR of the bits above it. -/
def grayDecode (g : BitVec 22) : Nat :=
  ((List.range 22).filter (fun i => (List.range 22).foldl (fun x j => if i ≤ j then xor x (g.getLsbD j) else x) false)).foldl
    (fun n i => n + 2 ^ i) 0

/-- LIN_h at a phase (R198). -/
def linear (tab : List Byte) (h : Nat) (phi : Int) : Int :=
  let x := (phi + 65536).toNat
  let j := min (x / 8192) 31
  let e := fun i => fldI tab (66 * h + 2 * i) 2
  e j + roundDiv ((e (j + 1) - e j) * ((x - 8192 * j : Nat) : Int)) 8192

/-- The outcome of a wedge decode: P_c when valid, and what is counted. -/
structure Decode where
  pc : Option Int
  wedgeBad : Bool := false
  grayBad : Bool := false
  rroBad : Bool := false
  deriving DecidableEq, Repr

/-- A field that has been read, judged by R197-R201: `phi` is the phase of its bursts, `expected` the wedge predicted. -/
def State.servoJudge (s : State) (p a : Nat) (f : ServoFields) (phi : Int) (expected : Nat) : Decode :=
  let v := s.getSrv (chanKey p a)
  let amp := decide ((2 * s.rd (Obj.BURST_MIN p a) : Nat) * f.amp ≤ 256 * ((f.a1 - f.a3).natAbs + (f.a2 - f.a4).natAbs : Nat))
  let xf := wrapTrack (phi + linear (s.rdBlob (Obj.LIN_TABLE p a)) v.timeHead phi)
  let tg := grayDecode f.gray
  let dd := wrapTrack (xf - (tg % 2 : Nat) * 65536)
  let nib := fun i => f.rro.toNat / 16 ^ i % 16
  let rroOk := nib 0 == (nib 1 ^^^ nib 2 ^^^ nib 3)
  let rro := (f.rro.extractLsb' 4 12).toInt
  let on := s.bit (Obj.RRO_ENABLE p a) v.timeHead
  let pos : Int := tg * 65536 + dd
  if !f.sam then { pc := none }
  else if f.wedge ≠ expected then { pc := none, wedgeBad := true }
  else if !amp then { pc := none }
  else if 49152 < dd.natAbs then { pc := none, grayBad := true }
  else { pc := some (if on && rroOk then pos - rro * 16 else pos), rroBad := on && !rroOk }

/-- A servo window decoded (R192-R201). -/
def State.servoDecode (s : State) (p a : Nat) (d : ServoWindow) : Decode :=
  let (k, f) := s.demodulate p a d
  s.servoJudge p a f (phaseOf s.fresh (f.a1 - f.a3) (f.a2 - f.a4)) k

/-! ## Heaters (R227) -/

/-- The default heater table. -/
def defaultHeaters : List Byte := withCrc (List.replicate 32 0 ++ [8, 0, 0xFA, 0xF4] ++ List.replicate 8 0)

/-- The heater table of an actuator. -/
def State.heaters (s : State) (p a : Nat) : List Byte :=
  match s.rdBlob (Obj.HEATER_TABLE p a) with
  | [] => defaultHeaters
  | b => b

/-- The heater codes of a head in the HDA's band (R227): reading and writing. -/
def State.heaterCodes (s : State) (p a h : Nat) : Nat × Nat :=
  let t := s.heaters p a
  let off := fldI t (32 + min (s.hdaBand p).code 3) 1
  let f := fun i => (clampI 0 255 (fldU t i 1 + off)).toNat
  (f (2 * h), f (2 * h + 1))

/-- The heater codes renewed (R226, R228): a change of more than 4, or a head switch, starts HEATER_SETTLE. -/
def State.heaterSet (s : State) (p a : Nat) (switch : Bool) : State :=
  let k := chanKey p a
  let v := s.getSrv k
  let (r, w) := s.heaterCodes p a v.head
  let far := fun x y : Nat => 4 < (x - y) + (y - x)
  let wait := switch || far r v.heatRd || far w v.heatWr
  let s := if wait && !switch then s.clearSafe p a else s
  s.modSrv k (fun v =>
    { v with heatRd := r, heatWr := w, heaterWait := v.heaterWait || wait, heaterFrom := if wait then s.now else v.heaterFrom })

/-! ## Targets and seeks (R217-R222) -/

/-- A new target acted on (R220, R221, R226). -/
def State.newTarget (s : State) (p a track head : Nat) : State :=
  let k := chanKey p a
  let v := s.getSrv k
  let t : Int := track * 65536
  if head ≠ v.head then
    let s := s.srvTo p a .headSwitch
    (s.modSrv k (fun w =>
      { w with headWas := v.head, head := head, track := track, tHead := head, stored := some (track, head), dr := 0, aff := 0 })).heaterSet
      p a true
  else
    let far := (s.rd (Obj.STEP_MAX p a) : Int) * 65536 < (t - v.r).natAbs
    let s := s.modSrv k (fun v => { v with track := track, tHead := head, stored := none })
    if far then
      let vr := if v.st = .seek then v.vr else 0
      let s := if v.st = .seek then s else s.srvTo p a .seek
      s.modSrv k (fun w => { w with vr := vr, dir := (t - v.r).sign })
    else
      let s := s.clearSafe p a
      let s := if v.st = .seek then s.srvTo p a .settle else s
      s.modSrv k (fun w => { w with r := t, dr := t - v.r, vr := 0, aff := 0, stepped := true })

/-- A re-base (R219): r to the decode, e to 0, the ROW_POS state to 0, then the stored target. The jump of r is fed to no product:
Δr is 0 unless the stored target moves r (log 193). -/
def State.rebase (s : State) (p a : Nat) (pc : Int) : State :=
  let k := chanKey p a
  let s := s.srvTo p a .settle
  let rp := fldU (s.bank p a true (s.getSrv k).outerBank) 355 1
  let s := s.modSrv k (fun v =>
    { v with r := pc, pc := pc, e := 0, dr := 0, vr := 0, aff := 0, outer := v.outer.set rp 0, outerIn := 0, lastValid := true })
  match (s.getSrv k).stored with
  | some (t, h) => s.newTarget p a t h
  | none => s

/-- The seek generator at a boundary in SEEK (R220). -/
def State.seekStep (s : State) (p a : Nat) : State :=
  let k := chanKey p a
  let v := s.getSrv k
  if v.st ≠ .seek then s
  else
    let amax : Int := s.rd (Obj.AMAX p a)
    let vmax : Int := s.rd (Obj.VMAX p a)
    let t : Int := v.track * 65536
    let dist := v.dir * (t - v.r)
    let acc := if 2 * amax * dist < v.vr * v.vr then -amax else if v.vr < vmax then min amax (vmax - v.vr) else 0
    let vr := max (v.vr + acc) 0
    let dr := v.dir * min vr dist
    let r := v.r + dr
    let aff := roundShift (v.dir * acc * asSigned 4 (s.rd (Obj.FF_GAIN p a))) 29
    if r = t then
      (s.srvTo p a .settle).modSrv k (fun v => { v with r := r, dr := dr, vr := 0, aff := 0 })
    else s.modSrv k (fun v => { v with r := r, dr := dr, vr := vr, aff := aff })

/-- Pending swaps at a boundary (R213, R214): those at least one outer period old take effect. -/
def State.swapStep (s : State) (p a : Nat) : State :=
  s.modSrv (chanKey p a) (fun v =>
    let v := match v.swapOuter with
      | some 0 => { v with swapOuter := some 1 }
      | some _ => { v with swapOuter := none, outerBank := 1 - v.outerBank }
      | none => v
    match v.swapInner with
    | some 0 => { v with swapInner := some 1 }
    | some _ => { v with swapInner := none, innerBank := 1 - v.innerBank }
    | none => v)

/-- A posted target at a boundary (R216, R218): one outer period after its post it takes effect, or is stored. -/
def State.targetStep (s : State) (p a : Nat) : State :=
  let k := chanKey p a
  let v := s.getSrv k
  match v.posted with
  | none => s
  | some (t, h, 0) => s.modSrv k (fun v => { v with posted := some (t, h, 1) })
  | some (t, h, _) =>
    let s := s.modSrv k (fun v => { v with posted := none })
    if v.st = .seek || v.st = .settle || v.st = .follow then s.newTarget p a t h
    else s.modSrv k (fun v => { v with stored := some (t, h) })

/-! ## Outer sample boundaries (R214, R216, R223) -/

/-- SETTLE to FOLLOW, and ON_TRACK, at a valid sample (R216, R223): r must be that of the last SEEKREQ, and no later one waits. -/
def State.trackStep (s : State) (p a : Nat) : State :=
  let k := chanKey p a
  let v := s.getSrv k
  let e := v.e.natAbs
  let run := if v.lastValid && e ≤ s.rd (Obj.SETTLE_LIMIT p a) then v.settled + 1 else 0
  let s := s.modSrv k (fun v => { v with settled := run })
  let s := if v.st = .settle && s.rd (Obj.SETTLE_COUNT p a) ≤ run then
      (s.srvTo p a .follow).modSrv k (fun v => { v with loadFails := 0 })
    else s
  s.modSrv k (fun v => { v with
    onTrack := v.st == .follow && v.lastValid && v.posted.isNone && v.stored.isNone && decide (v.r = v.track * 65536) &&
      decide (e ≤ s.rd (Obj.READ_LIMIT p a)) })

/-- The state machine at a boundary (R216): acquisition, head switches and missed wedges. The 4 outer samples of a head switch count
from its boundary, the one on the old head's timing included (log 194). -/
def State.acquireStep (s : State) (p a : Nat) (pc : Option Int) : State :=
  let k := chanKey p a
  let v := s.getSrv k
  match v.st with
  | .loading | .acquire =>
    match pc with
    | some x =>
      let s := s.modSrv k (fun v => { v with valid := v.valid + 1 })
      if 4 ≤ v.valid + 1 then s.rebase p a x else s
    | none => s.modSrv k (fun v => { v with valid := 0 })
  | .headSwitch =>
    match pc with
    | some x =>
      if v.switchRun = 0 then s.modSrv k (fun v => { v with switchRun := 1 }) else s.rebase p a x
    | none => if 3 ≤ v.switchRun then s.srvTo p a .acquire else s.modSrv k (fun v => { v with switchRun := v.switchRun + 1 })
  | .seek | .settle | .follow =>
    match pc with
    | some _ => s.modSrv k (fun v => { v with missed := 0 })
    | none =>
      if s.rd (Obj.MISS_LIMIT p a) ≤ v.missed + 1 then s.srvTo p a .acquire
      else s.modSrv k (fun v => { v with missed := v.missed + 1 })
  | _ => s

/-- The position error of a decode (R200), with its saturation; r is as before this boundary's target or seek (log 193). The sample
after a head switch runs on the prediction (R226). -/
def State.errorStep (s : State) (p a : Nat) (pc : Option Int) : State :=
  let k := chanKey p a
  let v := s.getSrv k
  match pc with
  | some x =>
    let e := x - v.r
    let q := clampI (-2147483647) 2147483647 e
    let s := s.modSrv k (fun v => { v with pc := x, e := q, outerIn := q, lastValid := true })
    if q ≠ e then s.saturated p a 1 else s
  | none =>
    let rp := fldU (s.bank p a true v.outerBank) 355 1
    (s.clearSafe p a).modSrv k (fun v => { v with outerIn := v.outer.getD rp 0, lastValid := false, onTrack := false })

/-- An outer sample boundary (R192-R201, R214, R225): the window is demodulated, the wedge judged and counted, and the boundary acts:
swaps, the state machine, the target, the seek generator; the outer product starts. -/
def State.boundary (s : State) (p a : Nat) (d : ServoWindow) : State :=
  let k := chanKey p a
  let r := s.servoDecode p a d
  let old := (s.getSrv k).st = .headSwitch && (s.getSrv k).switchRun == 0
  let s := { s with fresh := s.fresh + 1 }
  let s := if r.wedgeBad then (s.incSave (Obj.WEDGE_MISMATCHES p a)).raise (.srv p a) [.SRV_WEDGE_MISMATCH] else s
  let s := if r.grayBad then s.incSave (Obj.GRAY_INCONSISTENT p a) else s
  let s := if r.rroBad then s.incSave (Obj.RRO_ERRORS p a) else s
  let s := if r.pc.isNone then s.incSave (Obj.MISSED_WEDGES p a) else s
  let s := s.modSrv k (fun v => { v with upset := false, stepped := false, dr := 0, safeHeld := v.safeHeld + 1, sample := v.sample + 1 })
  let s := (s.errorStep p a (if old then none else r.pc)).swapStep p a
  let s := ((s.acquireStep p a r.pc).targetStep p a).seekStep p a
  let s := (s.trackStep p a).modSrv k (fun v => { v with outerDone := !v.st.outerClosed })
  let v := s.getSrv k
  if v.st = .follow && v.lastValid && decide (v.e.natAbs ≤ s.rd (Obj.WRITE_LIMIT p a)) then s else s.clearSafe p a

/-- SERVO_DECODE_COMPLETE (R192-R201, R214, R243): the boundary of the active unit, and that of the standby's shadow with the window on
its own servo-window lane, for which it has no fallback (R55). -/
def execServoDecodeComplete (p : PortId) (a : ActId) (d : ServoWindow) (other : List LaneBlock) (s : State) :
    Host.Outcome State Fault Refusal :=
  (s.shadowAct (s.boundary p a d) (chanKey p a) (fun t => t.boundary p a { lane := other })).conclude

/-- WRITE_SAFE at the end of an outer product (R224). -/
def State.safeStep (s : State) (p a : Nat) : State :=
  let k := chanKey p a
  let v := s.getSrv k
  let lim := s.rd (Obj.WRITE_LIMIT p a)
  let good := v.st == .follow && v.lastValid && decide (v.e.natAbs ≤ lim) && decide (v.pred.natAbs ≤ lim)
  let run := if good then v.safeRun + 1 else 0
  let s := s.modSrv k (fun v => { v with safeRun := run })
  let ok := good && decide (s.rd (Obj.WS_COUNT p a) ≤ run) && !v.stepped && !v.upset && v.headSeen == v.tHead && !v.heaterWait &&
    s.laneUp p (12 + a) && s.laneUp p (10 + a)
  if ok then s.modSrv k (fun v => { v with writeSafe := true }) else s.clearSafe p a

/-- The end of an outer product (R207, R210): the states, set-points and prediction of the active bank, or LOOP_MISMATCH with
everything left as it was. -/
def State.outerProduct (s : State) (p a : Nat) (mismatch : Bool) : State :=
  let k := chanKey p a
  let v := s.getSrv k
  if v.outerDone then s
  else if mismatch then
    let s := (s.modSrv k (fun v => { v with outerDone := true, upset := true })).clearSafe p a
    ((s.incSave (Obj.MISMATCHES p a)).raise (.srv p a) [.SRV_LOOP_MISMATCH]).diag s.pair.active .servoMismatch
  else
    let b := s.bank p a true v.outerBank
    let (st, n) := bankProduct b v.outer [v.outerIn, v.aff, v.dr]
    let row := fun i => if i = 0xFF then 0 else st.getD i 0
    let s := s.modSrv k (fun v =>
      { v with
        outerDone := true, outer := st, iSet := row (fldU b 353 1), maSet := row (fldU b 354 1), pred := row (fldU b 355 1) })
    (s.saturated p a n).safeStep p a

/-- A mismatch of the standby's own duplicate computation counts for it (R210, R620). -/
def State.shadowDiag (s : State) (mismatch : Bool) : State :=
  if s.shadowRuns && mismatch then s.diag s.pair.active.other .servoMismatch else s

/-- OUTER_PRODUCT_COMPLETE (R207, R210, R243, R620): the product of the active unit, and that of the standby's shadow, each of which
tells whether its two multiplier paths differ. -/
def execOuterProductComplete (p : PortId) (a : ActId) (mismatch other : Bool) (s : State) : Host.Outcome State Fault Refusal :=
  ((s.shadowAct (s.outerProduct p a mismatch) (chanKey p a) (fun t => t.outerProduct p a other)).shadowDiag
    (other && !(s.getShadow (chanKey p a)).outerDone)).conclude

/-! ## Telemetry and inner frames (R203, R204, R208, R235, R237) -/

/-- Whether an actuator may load (R216, R230). -/
def State.loadOk (s : State) (p a : Nat) : Bool :=
  let st := (s.getPort p).state
  (s.getSrv (chanKey p a)).st == .parked && (st == .calibrating || st == .ready) && (s.getSpd p).st == .locked &&
  modePowers s.mode.cur

/-- An actuator fails; in CALIBRATING the port fails with it (R216, R242). -/
def State.srvFault (s : State) (p a : Nat) : State :=
  let s := (s.srvTo p a .fault).stopTry p
  if (s.getPort p).state = .calibrating then s.portFail p .calibrationFailure else s

/-- A load asked for, or the reload of R232, begun when its conditions hold; FAULT after LOAD_RETRIES + 1 failed loads. -/
def State.loadTry (s : State) (p a : Nat) : State :=
  let v := s.getSrv (chanKey p a)
  if v.st = .parked && s.rd (Obj.LOAD_RETRIES p a) + 1 ≤ v.loadFails then s.srvFault p a
  else if s.loadOk p a && (v.loadAsked || 0 < v.loadFails) then s.srvTo p a .loading
  else s

/-- PARKED in telemetry (R216). -/
def State.parkedStep (s : State) (p a : Nat) (parked : Bool) : State :=
  match (s.getSrv (chanKey p a)).st, parked with
  | .off, true => if s.laneUp p (12 + a) then (s.srvTo p a .parked).loadTry p a else s
  | .off, false =>
    if s.laneUp p (12 + a) then (s.srvTo p a .pn2Retract).modSrv (chanKey p a) (fun v => { v with retractAsked := true }) else s
  | .unloading, true | .pn2Retract, true => ((s.srvTo p a .parked).loadTry p a).stopTry p
  | _, _ => s

/-- SELF_RETRACTED in telemetry (R216, R237). -/
def State.selfRetract (s : State) (p a : Nat) : State :=
  match (s.getSrv (chanKey p a)).st with
  | .off | .fault | .pn2Retract => s
  | _ => s.srvTo p a .pn2Retract

/-- A servo telemetry block read and checked (R235-R237): the measurements, the acknowledgement of R140, retracts and PARKED. -/
def State.servoRead (s : State) (p a : Nat) (w : Option (BitVec 64)) : State :=
  let k := chanKey p a
  match w.bind servoTelemetry with
  | none =>
    let bad := (s.getSrv k).tlmBad + 1
    let s := (s.clearSafe p a).modSrv k (fun v => { v with upset := true, tlmBad := bad })
    if bad = 2 then s.laneFail s.pair.active p (12 + a) else s
  | some t =>
    let s := s.modSrv k (fun v =>
      { v with
        tlmBad := 0, iMeas := t.iMeas.toInt, maMeas := t.maSense.toInt, bemf := t.bemf.toInt, isParked := t.parked, wrLock := t.wrLock
        headSeen := t.head.toNat, upset := v.upset || t.shock || t.cmdCrcErr || t.holding })
    let s := if t.shock || t.cmdCrcErr || t.holding || t.head.toNat ≠ (s.getSrv k).tHead then s.clearSafe p a else s
    let s := if t.wrsetAck then s.modChan k (fun c => if c.wrSent then { c with wrAck := true, wrSent := false } else c) else s
    let s := if t.selfRetracted then s.selfRetract p a else s
    s.parkedStep p a t.parked

/-- A frame's telemetry (R203, R204): after it the inner product of the next frame starts on the latest set-points; in LOADING and
UNLOADING the set-points come from the load and unload law (R229). -/
def State.servoBlock (s : State) (p a : Nat) (w : Option (BitVec 64)) : State :=
  let k := chanKey p a
  let s := s.servoRead p a w
  let v := s.getSrv k
  let s := if v.st.outerClosed && !v.outerDone then
      ((s.inc (Obj.OUTER_LATE_COUNT p a)).raise (.srv p a) [.SRV_OUTER_LATE]).clearSafe p a |>.modSrv k (fun v => { v with upset := true })
    else s
  let law := fun key =>
    let lim := roundDiv (s.rd (Obj.LU_IMAX p a) * 65536) 32767
    clampI (-lim) lim (roundDiv (s.rd (Obj.LU_GAIN p a) * (asSigned 2 (s.rd key) - v.bemf) * 65536) (256 * 2047))
  match v.st with
  | .loading => s.modSrv k (fun v => { v with inI := law (Obj.LOAD_VEL p a), inMa := 0, innerReady := true })
  | .unloading => s.modSrv k (fun v => { v with inI := law (Obj.UNLOAD_VEL p a), inMa := 0, innerReady := true })
  | _ => s.modSrv k (fun v => { v with inI := v.iSet, inMa := v.maSet, innerReady := true })

/-- SERVO_TELEMETRY_BLOCK (R203, R204, R235-R237, R243): the block that each side has received in a frame. -/
def execServoTelemetryBlock (p : PortId) (a : ActId) (w other : Option (BitVec 64)) (s : State) : Host.Outcome State Fault Refusal :=
  (s.shadowAct (s.servoBlock p a w) (chanKey p a) (fun t => t.servoBlock p a other)).conclude

/-- HOLD of a loop command block (R240). -/
def State.holdField (s : State) (v : SrvSt) : HoldField :=
  if v.retractAsked then .retract
  else if s.mode.cur = .bringUp || s.mode.cur = .maintenance || v.st = .parked || v.st = .loading || v.st = .acquire ||
      s.pair.testHold || s.pair.settleFrom.isSome then .slots32
  else .slots4

/-- A command code of a row (R208), with its clamp counted. -/
def cmdCode (x : Int) : Int × Nat :=
  let v := roundDiv (x * 32767) 65536
  let c := clampI (-32767) 32767 v
  (c, if c = v then 0 else 1)

/-- The sample index at which frame j of wedge k starts (R203). -/
def State.frameIndex (s : State) (p a k j : Nat) : Word :=
  let (m, n) := s.ratioNow p a
  s.wedgeIndex p a (s.getSrv (chanKey p a)).head k +
    BitVec.ofNat 32 ((256 * j + s.rd (Obj.INNER_PHASE p a)) * (s.rd (Obj.CT_CYCLES_PER_REV p) * m) / (n * 2048 * 256))

/-- Whether the inner product of the frame that starts is late (R204): the telemetry that starts it has not come, or it has not
completed, which takes place only while the slack is not above its threshold (R15, R202). -/
def State.innerLate (s : State) (v : SrvSt) (late : Bool) : Bool := !v.innerReady || (late && !s.paceAbove)

/-- Frame j of wedge k starts (R193, R203, R204, R208-R210): the block of the completed product is sent with the window of the next
wedge, or the previous block again with LOOP_VALID 0 when the product is late or its paths differ. An open loop commands zero. -/
def State.innerFrame (s : State) (p a : Nat) (k j : Nat) (late mismatch : Bool) : State :=
  let late := s.innerLate (s.getSrv (chanKey p a)) late
  let win := s.servoWindow p a (s.getSrv (chanKey p a)).timeHead ((k + 1) % 512)
  let at_ := s.frameIndex p a k j
  let s := if (s.getSrv (chanKey p a)).st = .off then s
    else s.modSrv (chanKey p a) (fun v => { v with innerReady := false, frameAt := at_, win := some win })
  let k := chanKey p a
  let v := s.getSrv k
  let hold := s.holdField v
  let again := fun s : State => s.modSrv k (fun v => { v with sent := { v.sent with hold := hold, valid := false }, upset := true })
  if v.st = .off then s
  else if !v.st.innerClosed then
    s.modSrv k (fun v => { v with
      sent := { vcm := 0, ma := 0, heatRd := v.heatRd, heatWr := v.heatWr, head := v.head, hold := hold, valid := false }
      retractAsked := false })
  else if late then
    (again (((s.incSave (Obj.INNER_LATE_COUNT p a)).raise (.srv p a) [.SRV_INNER_LATE]).clearSafe p a))
  else if mismatch then
    (again (((s.incSave (Obj.MISMATCHES p a)).raise (.srv p a) [.SRV_LOOP_MISMATCH]).clearSafe p a)).diag s.pair.active .servoMismatch
  else
    let b := s.bank p a false v.innerBank
    let meas := fun x : Int => roundDiv (x * 65536) 32767
    let (st, n) := bankProduct b v.inner [v.inI - meas v.iMeas, v.inMa - meas v.maMeas, v.inMa]
    let row := fun i => if i = 0xFF then 0 else st.getD i 0
    let (c1, n1) := cmdCode (row (fldU b 353 1))
    let (c2, n2) := cmdCode (row (fldU b 354 1))
    let s := s.modSrv k (fun v =>
      { v with
        inner := st, safeHeld := 0
        sent := { vcm := c1, ma := c2, heatRd := v.heatRd, heatWr := v.heatWr, head := v.head, hold := hold, valid := true } })
    s.saturated p a (n + n1 + n2)

/-- INNER_FRAME_START (R193, R203, R204, R208-R210, R243, R620): the frame starts for the active unit and for the standby's shadow,
whose rows are computed and not sent. -/
def execInnerFrameStart (p : PortId) (a : ActId) (k : Fin 512) (j : Fin 4) (own other : ProductEnd) (s : State) :
    Host.Outcome State Fault Refusal :=
  ((s.shadowAct (s.innerFrame p a k j own.late own.mismatch) (chanKey p a)
    (fun t => t.innerFrame p a k j other.late other.mismatch)).shadowDiag
    (other.mismatch && !s.asStandby.innerLate (s.getShadow (chanKey p a)) other.late &&
      (s.getShadow (chanKey p a)).st.innerClosed)).conclude

/-- LOOP_SAFE_HOLD_EXPIRY (R524): the previous block has been repeated for eight outer samples. -/
def State.safeHoldEnd (s : State) (p a : Nat) : State :=
  let v := s.getSrv (chanKey p a)
  if v.st.innerClosed && !v.sent.valid && decide (8 ≤ v.safeHeld) then s.srvRetract p a else s

def execLoopSafeHoldExpiry (p : PortId) (a : ActId) (s : State) : Host.Outcome State Fault Refusal :=
  (s.shadowAct (s.safeHoldEnd p a) (chanKey p a) (fun t => t.safeHoldEnd p a)).conclude

/-! ## Bank objects (R212, R213) -/

/-- BANK_WRITE (R212): refused while the bank is active and its loop CLOSED, or a swap of the loop is pending. -/
def execBankWrite (q : Requester) (u : UnitId) (p : PortId) (a : ActId) (bank : Fin 4) (data : List Byte) (s : State) :
    Host.Outcome State Fault Refusal :=
  let v := s.getSrv (chanKey p a)
  let outer := bank.val < 2
  let n := bank.val % 2
  let closed := if outer then v.st.outerClosed else v.st.innerClosed
  let active := n == (if outer then v.outerBank else v.innerBank)
  let swap := if outer then v.swapOuter.isSome else v.swapInner.isSome
  let k := bankKey p a outer n
  State.conclude (s.tryKey q u k data (if active && closed || swap then 0x09 else 0) (fun s => (s.wrBlob k data).stage k))

/-- BANK_SWAP (R213): the inactive banks are checked; a swap takes effect at once in an OPEN loop, else at a later boundary. -/
def execBankSwap (q : Requester) (u : UnitId) (p : PortId) (a : ActId) (v : BitVec 8) (s : State) :
    Host.Outcome State Fault Refusal :=
  let k := chanKey p a
  let w := s.getSrv k
  let key := Obj.BANK_SWAP p a
  let bad := (v.getLsbD 0 && !bankOk true (s.bank p a true (1 - w.outerBank))) ||
    (v.getLsbD 1 && !bankOk false (s.bank p a false (1 - w.innerBank)))
  State.conclude (s.hold (.write q u (keyIndex key) (keySub key) [v]) fun s =>
    let e := s.writeErr u (keyIndex key) (keySub key) q [v]
    if e ≠ 0 then s.answer q e
    else if v = 0 || 3 < v.toNat then s.answer q 0x07
    else if bad then (s.raise (.srv p a) [.SRV_BANK_ERR]).answer q 0x09
    else
      (s.modSrv k (fun x =>
        let x := if v.getLsbD 0 then
            (if w.st.outerClosed then { x with swapOuter := some 0 } else { x with outerBank := 1 - x.outerBank }) else x
        if v.getLsbD 1 then
          (if w.st.innerClosed then { x with swapInner := some 0 } else { x with innerBank := 1 - x.innerBank }) else x)).answer q 0)

/-! ## Commands and timeouts (R216, R231, R232, R244) -/

/-- ACT_LOAD (R216, R244): a load is asked for; it begins as soon as its conditions hold. -/
def execActLoad (q : Requester) (u : UnitId) (p : PortId) (a : ActId) (s : State) : Host.Outcome State Fault Refusal :=
  State.conclude (s.tryKey q u (Obj.ACT_COMMAND p a) [1] 0 (fun s =>
    (s.modSrv (chanKey p a) (fun v => { v with loadAsked := true })).loadTry p a))

/-- ACT_UNLOAD (R216, R244). -/
def execActUnload (q : Requester) (u : UnitId) (p : PortId) (a : ActId) (s : State) : Host.Outcome State Fault Refusal :=
  State.conclude (s.tryKey q u (Obj.ACT_COMMAND p a) [2] 0 (fun s => s.srvUnload p a))

/-- ACT_RETRACT (R216, R244): HOLD 10b is sent. -/
def execActRetract (q : Requester) (u : UnitId) (p : PortId) (a : ActId) (s : State) : Host.Outcome State Fault Refusal :=
  State.conclude (s.tryKey q u (Obj.ACT_COMMAND p a) [3] 0 (fun s => s.srvRetract p a))

/-- Whether an actuator has been in its state for a time in µs. -/
def State.srvFor (s : State) (v : SrvSt) (t : Nat) : Bool := decide (v.since + t ≤ s.now)

/-- LOAD_TIMEOUT (R216, R231): the load has failed and the heads unload. -/
def State.loadOverrun (s : State) (p a : Nat) : State :=
  let k := chanKey p a
  if (s.getSrv k).st = .loading && s.srvFor (s.getSrv k) (1000 * s.rd (Obj.LOAD_TIMEOUT p a)) then
    (s.modSrv k (fun v => { v with loadFails := v.loadFails + 1 })).srvTo p a .unloading
  else s

def execLoadTimeout (p : PortId) (a : ActId) (s : State) : Host.Outcome State Fault Refusal :=
  (s.shadowAct (s.loadOverrun p a) (chanKey p a) (fun t => t.loadOverrun p a)).conclude

/-- ACQ_TIMEOUT (R216, R231): HOLD 10b is sent; the retract counts as a failed load. -/
def State.acquireOverrun (s : State) (p a : Nat) : State :=
  let v := s.getSrv (chanKey p a)
  if v.st = .acquire && s.srvFor v (1000 * s.rd (Obj.ACQ_TIMEOUT p a)) then s.srvRetract p a else s

def execAcqTimeout (p : PortId) (a : ActId) (s : State) : Host.Outcome State Fault Refusal :=
  (s.shadowAct (s.acquireOverrun p a) (chanKey p a) (fun t => t.acquireOverrun p a)).conclude

/-- SEEK_TIMEOUT (R216): FOLLOW was not reached. -/
def State.seekOverrun (s : State) (p a : Nat) : State :=
  let v := s.getSrv (chanKey p a)
  if (v.st = .seek || v.st = .settle) && s.srvFor v (1000 * s.rd (Obj.SEEK_TIMEOUT p a)) then
    ((s.incSave (Obj.SEEK_TIMEOUTS p a)).raise (.srv p a) [.SRV_SEEK_TIMEOUT]).srvTo p a .acquire
  else s

def execSeekTimeout (p : PortId) (a : ActId) (s : State) : Host.Outcome State Fault Refusal :=
  (s.shadowAct (s.seekOverrun p a) (chanKey p a) (fun t => t.seekOverrun p a)).conclude

/-- UNLOAD_TIMEOUT (R216): 300 ms without PARKED. -/
def State.unloadOverrun (s : State) (p a : Nat) : State :=
  let v := s.getSrv (chanKey p a)
  if v.st = .unloading && s.srvFor v 300000 then s.srvRetract p a v.stopOrdered else s

def execUnloadTimeout (p : PortId) (a : ActId) (s : State) : Host.Outcome State Fault Refusal :=
  (s.shadowAct (s.unloadOverrun p a) (chanKey p a) (fun t => t.unloadOverrun p a)).conclude

/-- RETRACT_TIMEOUT (R216): 1 s without PARKED. -/
def State.retractOverrun (s : State) (p a : Nat) : State :=
  let v := s.getSrv (chanKey p a)
  if v.st = .pn2Retract && s.srvFor v 1000000 then s.srvFault p a else s

def execRetractTimeout (p : PortId) (a : ActId) (s : State) : Host.Outcome State Fault Refusal :=
  (s.shadowAct (s.retractOverrun p a) (chanKey p a) (fun t => t.retractOverrun p a)).conclude

/-- HEATER_SETTLE_EXPIRY (R224). -/
def State.heaterEnd (s : State) (p a : Nat) : State :=
  if (s.getSrv (chanKey p a)).heaterFrom + s.rd (Obj.HEATER_SETTLE p a) ≤ s.now then
    s.modSrv (chanKey p a) (fun v => { v with heaterWait := false })
  else s

def execHeaterSettleExpiry (p : PortId) (a : ActId) (s : State) : Host.Outcome State Fault Refusal :=
  (s.shadowAct (s.heaterEnd p a) (chanKey p a) (fun t => t.heaterEnd p a)).conclude

/-! ## Calibration (R119, R241, R242) -/

/-- Whether a head of an actuator has fewer than 30 calibrated zones (R119). -/
def State.headShort (s : State) (p a : Nat) : Bool :=
  let c := s.getChan (chanKey p a)
  (List.range (s.rd (Obj.HEADS_PER_ACTUATOR p))).any (fun h =>
    ((List.range 32).filter (fun z => fldU (c.set (32 * h + z)) 207 1 = 0xA5)).length < 30)

/-- Whether a head lies further than 1/4096 revolution from the index of the HDA (R194), that of head 0 of actuator 0. -/
def State.indexOff (s : State) (p phase : Nat) (home : Nat) : Bool :=
  let ct := s.rd (Obj.CT_CYCLES_PER_REV p)
  let d := (phase + ct - home % ct) % ct
  decide (ct < 4096 * min d (ct - d))

/-- Whether a head fails a step of R241 (R242): its index (R194), the residual of its LIN_TABLE fit above 0.03 track, or fewer than 99
of the 100 steps of R222. -/
def State.headFails (s : State) (p home : Nat) (h : HeadCal) : Bool :=
  s.indexOff p h.phase home || decide (65536 * 3 < 100 * h.residual) || decide (h.steps < 99)

/-- Whether the servo calibration of an actuator fails (R241, R242): a head not measured or failing a step, or a bank that R213
would refuse. -/
def State.servoFails (s : State) (p a : Nat) (d : CalData) : Bool :=
  let home := mapGet (fun _ => 0) (s.getChan (chanKey p 0)).indexPhase 0
  d.heads.length != s.rd (Obj.HEADS_PER_ACTUATOR p) || d.heads.any (s.headFails p home) ||
  !bankOk true (s.bank p a true d.outer) || !bankOk false (s.bank p a false d.inner)

/-- RRO_ENABLE after calibration (R241 step 5): the bit of a head goes when more than 1 % of the 512 fields of a revolution fail. -/
def CalData.rroMask (d : CalData) (old : Nat) : Nat :=
  (d.heads.zipIdx.filter (fun e => decide (512 < 100 * e.1.rroFails))).foldl (fun m e => if m.testBit e.2 then m - 2 ^ e.2 else m) old

/-- LIN_TABLE from the fits (R241 step 4, R244): 16 heads, zeros for a head that is absent. -/
def CalData.linTable (d : CalData) : List Byte :=
  withCrc ((List.range 16).flatMap (fun h => (List.range 33).flatMap (fun j =>
    leBytes 2 ((d.heads[h]?.bind (fun e => e.lin[j]?)).getD 0).toNat)))

/-- HEATER_TABLE with HEAT_RD and HEAT_WR of the maker's record (R227, R241 step 8). -/
def CalData.heaterTable (d : CalData) (old : List Byte) : List Byte :=
  withCrc ((List.range 16).flatMap (fun h => match d.heads[h]? with
    | some e => [e.heatRd, e.heatWr]
    | none => (old.drop (2 * h)).take 2) ++ (old.drop 32).take 12)

/-- The numeric objects kept in the system records (R150, R154): the settings of 3055h and 3056h, RRO_ENABLE, and the counters of
3053h. -/
def sysKeys (p a : Nat) : List Nat :=
  [Obj.SYNC_PATTERN p a, Obj.SYNC_MAX_ERRORS p a, Obj.RESYNC_PATTERN p a, Obj.RESYNC_MAX_ERRORS p a, Obj.SEARCH_SCREEN_LIMIT p a,
   Obj.RAW_ITER_LIMIT p a, Obj.RAW_SYND_LIMIT p a, Obj.MAX_REWRITES p a, Obj.RAW_HEAD_LIMIT p a, Obj.RRO_ENABLE p a,
   Obj.SECTORS_READ p a, Obj.LINE_FAILURES p a, Obj.CRC_FAILURES p a, Obj.OFFSET_DECODES p a, Obj.TIMING_SLIPS p a,
   Obj.ADAPT_DIVERGENCES p a] ++ (List.range 7).map (fun k => Obj.STEP_SUCCESS p a k)

/-- The byte tables kept there besides those of the channel (R244). -/
def sysBlobs (p a : Nat) : List Nat :=
  [Obj.LIN_TABLE p a, Obj.HEATER_TABLE p a, Obj.OUTER_BANK0 p a, Obj.OUTER_BANK0 p a + 1, Obj.OUTER_BANK0 p a + 2, Obj.OUTER_BANK0 p a + 3]

/-- What a copy of the system records written now would hold. -/
def State.sysNow (s : State) (p a : Nat) : SysCopy :=
  let c := s.getChan (chanKey p a)
  { sets := c.sets, zones := c.zones, precomp := c.precomp, presets := c.presets, phases := c.indexPhase
    nums := (sysKeys p a).map s.rd, blobs := (sysBlobs p a).map s.rdBlob }

/-- The system records written in a sweep in which they have changed (R150): the older of the two copies, with the next sequence
number, and never both; an actuator with one head has one copy. -/
def State.sysSave (s : State) (p a : Nat) : State :=
  let c := s.getChan (chanKey p a)
  let x := s.sysNow p a
  let keep := if s.rd (Obj.HEADS_PER_ACTUATOR p) = 1 then 0 else 1
  if (s.getPort p).state ≠ .ready ∨ s.hdaBand p = .critical then s
  else
    match c.sys.head? with
    | some y => if { y with seq := 0 } = x then s
      else s.modChan (chanKey p a) (fun c => { c with sys := { x with seq := y.seq + 1 } :: c.sys.take keep })
    | none => s.modChan (chanKey p a) (fun c => { c with sys := [{ x with seq := 1 }] })

/-- The copy used at start (R150): of those whose records pass their CRC, the one with the higher sequence number. -/
def newestCopy (l : List SysCopy) : Option SysCopy :=
  l.foldl (fun (b : Option SysCopy) x => match b with
    | none => some x
    | some y => if y.seq < x.seq then some x else some y) none

/-- The system records of an HDA not seen before are loaded (R107, R150). -/
def State.sysLoad (s : State) (p a : Nat) (copies : List SysCopy) : State :=
  let k := chanKey p a
  if !(s.getChan k).sys.isEmpty then s
  else
    match newestCopy copies with
    | none => s
    | some x =>
      let s := s.modChan k (fun c =>
        { c with
          sys := x :: (copies.filter (· != x)).take 1
          sets := x.sets, zones := x.zones, precomp := x.precomp, presets := x.presets, indexPhase := x.phases })
      let s := s.forEach ((sysKeys p a).zip x.nums) (fun s e => s.save e.1 e.2)
      s.forEach ((sysBlobs p a).zip x.blobs) (fun s e => s.wrBlob e.1 e.2)

/-- The calibration of an actuator in CALIBRATING ends (R241, R242): its tables are kept, and the port becomes READY when
every actuator is calibrated, or FAILED with cause 0Bh. -/
def State.calibrated (s : State) (p a : Nat) (d : CalData) : State :=
  let k := chanKey p a
  if (s.getPort p).state ≠ .calibrating then s
  else
    let s := s.sysLoad p a d.copies
    let put := fun (m : Map (List Byte)) (l : List (Nat × List Byte)) dflt => l.foldl (fun m e => mapPut (fun _ => dflt) m e.1 e.2) m
    let s := s.modChan k (fun c =>
      { c with
        sets := put c.sets d.sets (withCrc defaultSetBody), zones := put c.zones d.zones (withCrc defaultZoneBody)
        precomp := put c.precomp d.precomp (List.replicate 8 0), presets := d.presets.foldl (fun m e => mapPut defaultPreset m e.1 e.2) c.presets
        indexPhase := d.heads.zipIdx.foldl (fun m (e, h) => mapPut (fun _ => 0) m h e.phase) c.indexPhase })
    let s := s.forEach d.banks (fun s b => s.wrBlob (bankKey p a (b.1.val < 2) (b.1.val % 2)) b.2)
    let s := s.modSrv k (fun v => { v with outerBank := d.outer, innerBank := d.inner })
    let s := s.save (Obj.RRO_ENABLE p a) (d.rroMask (s.rd (Obj.RRO_ENABLE p a)))
    let s := (s.wrBlob (Obj.LIN_TABLE p a) d.linTable).wrBlob (Obj.HEATER_TABLE p a) (d.heaterTable (s.heaters p a))
    let zbad := (s.getChan k).zones.any (fun e => fldU e.2 4 4 ≠ 0 && s.zoneBad p e.2)
    let s := if zbad then s.raise (.wr p a) [.WR_TABLE_ERR] else s
    if s.servoFails p a d || s.headShort p a then s.portFail p .calibrationFailure
    else
      let s := s.modPort p (fun q => { q with calibrated := q.calibrated ||| 2 ^ a })
      if (s.getPort p).calibrated + 1 = 2 ^ s.rd (Obj.ACTUATOR_COUNT p) then s.portTo p .ready .stepComplete else s

end Sys2Proof.Machine
end

