-- ==== Sys2Proof/Machine/Mode.lean ====
section
/-! DEFINITION. The sweep edge of a port (R22-R27, R184) and the mode commands (R30, R31, R618), with the end of an actuator's
calibration, which lets a port and with it the module go on (R241, R437). -/

namespace Sys2Proof.Machine

/-! ## The sweep edge -/

/-- A port whose spindle turns under the part's command: its index is a sweep edge (R22, R157). -/
def PortState.sweeps : PortState → Bool
  | .spinningUp | .calibrating | .ready | .ctLost | .spinningDown => true
  | _ => false

/-- Modes in which media work runs, in Switchover once R27 permits it (R29). -/
def mediaMode : Mode → Bool
  | .bringUp | .frond | .frondDegraded | .drain | .maintenance | .switchover => true
  | _ => false

/-- The port whose index is the module's sweep edge (R22): the lowest READY port with its spindle LOCKED; without one, any. -/
def State.leads (s : State) (p : Nat) : Bool :=
  match (List.range 16).find? (fun n => (s.getPort n).state == .ready && (s.getSpd n).st == .locked) with
  | some n => decide (n = p)
  | none => true

/-- FLTn has been released for 1 ms and its code read: media work may be planned again (R68). -/
def State.fltEnd (s : State) (p : Nat) : State :=
  let f := (s.getLine (sideKey s.pair.active p)).flt
  s.modPort p (fun q =>
    { q with fltStop := q.fltStop && !(q.codeRead && !f.level && decide (f.since + 1000 ≤ s.now)) })

/-- The hold of media work of R27 ends at the first edge 200 µs after the take-over, and that of R269 with the lock. -/
def State.mediaFree (s : State) (p : Nat) : State :=
  let m := s.getSpd p
  s.modPort p (fun q =>
    { q with mediaHeld := q.mediaHeld && (m.caught || m.st == .recatch || decide (s.now < s.pair.takeTime + 200)) })

/-- The clock track restored (R71): a revolution in tolerance and the spindle LOCKED. -/
def State.ctRestore (s : State) (p : Nat) : State :=
  let k := sideKey s.pair.active p
  if (s.getPort p).state = .ctLost && decide (s.rd (Obj.CT_CYCLES_PER_REV p) ≤ (s.getLine k).ctGood) && (s.getSpd p).st = .locked then
    (s.modLine k (fun l => { l with ct := .inTolerance })).portTo p .ready .ctRestored
  else s

/-- Whether the committed plans of a port may run in the sweep that begins. -/
def State.mediaRuns (s : State) (p : Nat) : Bool :=
  let q := s.getPort p
  mediaMode s.mode.cur && (q.state == .ready || q.state == .calibrating) && s.ctSt p != .lost && !q.fltStop && !q.mediaHeld

/-- Where media work does not run, what was committed is dropped and the empty plan selected (R23, R68, R71, R269). -/
def State.planGate (s : State) (p : Nat) : State :=
  if s.mediaRuns p then s
  else s.forEach [0, 1] (fun s a => s.modPlan (chanKey p a) (fun l => { l with discarded := l.discarded || l.committed }))

/-- Sweeps counted from 0 at the first index, and the next edge predicted (R23, R157). -/
def State.sweepCount (s : State) (p : Nat) : State :=
  s.modPort p (fun q =>
    { q with
      sweepNo := if q.nextEdge = 0 then 0 else q.sweepNo + 1
      nextEdge := s.now + 60000000 / s.rpm })

/-- The measured index phase of an HDA that has been calibrated is adopted at a sweep edge (R248). -/
def State.indexAdopt (s : State) (p : Nat) : State :=
  let home := mapGet (fun _ => 0) (s.getChan (chanKey p 0)).indexPhase 0
  s.modSpd p (fun q => { q with indexAt := if (s.getPort p).calibrated % 2 = 1 then some home else none })

/-- Reader and write lanes of both sides that wait are retrained from the sweep edge on (R54). -/
def State.lanesStart (s : State) (p : Nat) : State :=
  s.forEach [UnitId.A, UnitId.B] (fun s u =>
    s.modLine (sideKey u p) (fun l => { l with retraining := l.retraining ++ l.retrain, retrain := [] }))

/-- The shadows compared at the sweep edge (R55, R243, R273): they hold while the standby runs them, they agree with the active unit's
records, and the lane of its own side is in service; they read 0 with no standby. -/
def State.shadowStep (s : State) (p : Nat) : State :=
  let v := s.pair.active.other
  let num := fun b : Bool => if b then 1 else 0
  let s := s.forEach [0, 1] (fun s a =>
    s.wr (Obj.SHADOW_VALID p a) (num (s.shadowRuns && s.actShadowed (chanKey p a) && s.laneUpOn v p (10 + a))))
  s.wr (Obj.SPD_SHADOW_VALID p) (num (s.shadowRuns && s.spinShadowed p && s.laneUpOn v p 15))

/-- HDA loss and rebuild completion taken up at the module's sweep edge (R30, R34, R320). -/
def State.edgeMode (s : State) : State :=
  match s.mode.cur with
  | .frond =>
    if s.mode.hdaLostHeld then
      ({ s with mode := { s.mode with hdaLostHeld := false } } : State).enter .frondDegraded .hdaLost
    else s
  | .frondDegraded =>
    let s := { s with mode := { s.mode with hdaLostHeld := false } }
    if s.healthy = 16 && s.rebuildComplete then s.enter .frond .rebuildComplete else s
  | _ => s

/-- New members become writable (R323), and the sweep is planned (R285, R301-R304, R319). -/
def State.edgePlan (s : State) : State :=
  let s := { s with os := { s.os with
    members := s.os.members.map (fun (e : Nat × Member) => (e.1, { e.2 with fresh := false })) } }
  s.readsAge.releaseHeld.placeSweep

/-- Failed fragments planned again, system records written, and heater codes that follow the band (R145, R150, R228). -/
def State.edgeAct (s : State) (p a : Nat) : State :=
  let s := match s.mode.cur with
    | .frond | .frondDegraded | .drain => s.rewriteAll p a
    | _ => s
  let s := match s.mode.cur with
    | .frond | .frondDegraded => s.sysSave p a
    | _ => s
  if (s.getSrv (chanKey p a)).st.flies then s.heaterSet p a false else s

/-- SWEEP_EDGE (R22-R27, R184): the index of a port. -/
def execSweepEdge (p : PortId) (s : State) : Host.Outcome State Fault Refusal :=
  State.conclude (
    if !(s.getPort p).state.sweeps then s
    else
      let lead := s.leads p
      let s := (((((s.fltEnd p).mediaFree p).ctRestore p).lanesStart p).planGate p).drainPort p
      let s := ((((s.sweepCount p).indexAdopt p).shadowStep p).edgeAct p 0).edgeAct p 1
      let s := if lead then s.edgeMode.edgePlan else s
      ({ s with mode := { s.mode with swept := s.mode.swept ||| 2 ^ p.val } } : State).drainTry)

/-! ## Mode requests (R30, R31, R37, R39, R618) -/

/-- REQUESTED_MODE_WRITE (R31, R37, R39): stored at once; in Fiddlehead a request may begin Bring-up with cause 01h (R616). -/
def execRequestedModeWrite (q : Requester) (u : UnitId) (v : BitVec 8) (s : State) : Host.Outcome State Fault Refusal :=
  let ok := v = 0x02 || v = 0x04 || v = 0x07 || v = 0x0A
  State.conclude (s.tryKey q u Obj.REQUESTED_MODE [v] (if ok then 0 else 0x07) (fun s =>
    let s := s.save Obj.REQUESTED_MODE v.toNat
    if s.mayBringUp then s.enter .bringUp .modeRequest else s))

/-- Commands that do not hold up a Drain (R618): outstanding Asynchronous Event Requests and commits that are held. -/
def HostCmd.idleInDrain (c : HostCmd) : Bool := c.kind == .aer || c.kind == .commit

/-- DRAIN_COMPLETE (R30, R618). -/
def execDrainComplete (s : State) : Host.Outcome State Fault Refusal :=
  State.conclude (
    if s.mode.cur ≠ .drain || !s.cmds.all HostCmd.idleInDrain then s
    else
      match s.mode.purpose with
      | .powerDown => ({ s with mode := { s.mode with purpose := .none } } : State).enter .quiescent .modeRequest
      | .maintenance => ({ s with mode := { s.mode with purpose := .none } } : State).enter .maintenance .modeRequest
      | .none | .activation => s)

/-- A port at rest for the way to Fiddlehead (R30). -/
def PortState.rests : PortState → Bool
  | .empty | .present | .offline | .failed => true
  | _ => false

/-- QUIESCENT_TO_FIDDLEHEAD (R30). -/
def execQuiescentToFiddlehead (s : State) : Host.Outcome State Fault Refusal :=
  State.conclude (
    if s.mode.cur = .quiescent && s.requested = 2 && (List.range 16).all (fun p => (s.getPort p).state.rests) then
      s.enter .fiddlehead .modeRequest
    else s)

/-- ACTUATOR_CALIBRATED (R241, R242). -/
def execActuatorCalibrated (p : PortId) (a : ActId) (d : CalData) (s : State) : Host.Outcome State Fault Refusal :=
  State.conclude ((s.calibrated p a d).portSettle p)

end Sys2Proof.Machine
end

