-- ==== Sys2Proof/Machine/Pair.lean ====
section
/-! DEFINITION. The two units (R467-R489, R620): the self-diagnosis, release and take-over, the mirror link, rejoining. -/

namespace Sys2Proof.Machine

/-! ## Self-diagnosis (R473, R620) -/

/-- CHECK_TRIP (R473, R475). -/
def execCheckTrip (c : ReleaseCause) (s : State) : Host.Outcome State Fault Refusal := (s.checkTrip c).conclude

/-- STANDBY_CHECK_TRIP (R620). -/
def execStandbyCheckTrip (c : ReleaseCause) (s : State) : Host.Outcome State Fault Refusal :=
  State.conclude (if s.standbyRuns && s.checkTripped s.pair.active.other c then s.standbyTrip c else s)

/-- ISLAND_TRIP (R474, R620): a ring of the unit has not toggled for ISLAND_TIMEOUT microseconds. -/
def execIslandTrip (u : UnitId) (quiet : Nat) (s : State) : Host.Outcome State Fault Refusal :=
  State.conclude (
    if !s.pair.roleDecided || (s.unitSt u).inReset || decide (quiet < s.rd Obj.ISLAND_TIMEOUT) then s
    else if u = s.pair.active then s.releaseToken (some .island) .tokenReleased false
    else if s.standbyRuns then s.standbyTrip .island
    else s)

/-! ## Release and take-over (R476-R479) -/

/-- RELEASE (R477). -/
def execRelease (s : State) : Host.Outcome State Fault Refusal := s.takeRole.conclude

/-- After a take-over, a unit released by plan that still runs takes the state copy again (R484, R486). -/
def State.plannedBack (s : State) : State :=
  let v := s.pair.active.other
  if s.pair.peer = .released && (s.unitSt v).plannedRelease && s.pair.step != .xRestart then
    { s with pair := { s.pair with peer := .selfTest } }
  else s

/-! ## The standby (R469, R480-R485) -/

/-- The mirror link carries traffic (R470). -/
def State.mirrorUp (s : State) : Bool := s.pair.mirror == .up16 || s.pair.mirror == .up8

/-- Both units run the same firmware version (R469). -/
def State.sameVersion (s : State) : Bool := s.rd (Obj.FW_VERSION .A) == s.rd (Obj.FW_VERSION .B)

/-- During an activation the other unit runs the committed image (R485). -/
def State.runsCommitted (s : State) : Bool :=
  (s.pair.step == .peerRestart || s.pair.step == .xRestart) &&
  (s.getFw s.pair.active.other.code).running == some (s.slotImage s.pair.active s.pair.actSlot)

/-- In a rejoin the other unit receives the active unit's image once, checks it, writes it to its boot slot and restarts
(R480). -/
def State.sendImage (s : State) : State :=
  let u := s.pair.active
  let v := u.other
  let img := (s.getFw u.code).running.getD []
  if s.fwCheck v img ≠ 1 then s
  else ((s.writeSlot v (s.rd Obj.BOOT_SLOT) img).modUnit v (fun x => { x with resent := true })).warmRestart v

/-- The other unit begins the state copy once it runs the right firmware with its GDDR7 trained and the mirror link is up; a
version that differs is put right in a rejoin, and reported otherwise (R432, R469, R480, R485). -/
def State.peerTry (s : State) : State :=
  let v := s.pair.active.other
  let x := s.unitSt v
  if !s.pair.roleDecided || x.inReset || !x.selfTest || !x.fwRunning || !x.gddrTrained || !s.mirrorUp || !s.loaded then s
  else
    match s.pair.peer with
    | .absent | .selfTest | .versionMismatch =>
      if s.sameVersion || s.runsCommitted then ({ s with pair := { s.pair with peer := .stateCopy } } : State).shadowsCopy
      else if x.releasedAt.isSome && !x.resent then s.sendImage
      else if s.pair.peer = .versionMismatch then s
      else ({ s with pair := { s.pair with peer := .versionMismatch } } : State).raise .pair [.PAIR_VERSION_MISMATCH]
    | _ => s

/-- The shadows a standby needs are valid: those of every actuator off its ramp and of every spindle not idle, but where its
servo-window or motor lane is out of service (R55, R469). -/
def State.shadowsValid (s : State) : Bool :=
  let v := s.pair.active.other
  (List.range 16).all (fun p =>
    ((s.getSpd p).st == .idle || s.rd (Obj.SPD_SHADOW_VALID p) == 1 || !s.laneUpOn v p 15) &&
    [0, 1].all (fun a =>
      !(s.getSrv (chanKey p a)).st.flies || s.rd (Obj.SHADOW_VALID p a) == 1 || !s.laneUpOn v p (10 + a)))

/-- The lanes of the other unit are trained on every port whose lanes the active unit has trained (R469). -/
def State.lanesTrained (s : State) : Bool :=
  (List.range 16).all (fun p =>
    s.rd (Obj.LANES_IN_SERVICE s.pair.active p) == 0 || s.rd (Obj.LANES_IN_SERVICE s.pair.active.other p) != 0)

/-- Records the joining unit made alone go to the active ring with PEER set, and its ring becomes a copy of it (R533). -/
def State.recorderJoin (s : State) : State :=
  let u := s.pair.active
  let v := u.other
  let e := s.getEr v.code
  let ring := (e.ring.flatMap Prod.snd).filter (fun (x : Nat × Rec) => !e.retained.any (fun y => y.1 == x.1))
  let late := match e.gapFrom with
    | some n => (ring ++ e.retained).filter (fun (x : Nat × Rec) => decide (n ≤ x.1))
    | none => []
  let start : ErSt := { s.getEr u.code with gapFrom := none }
  let a := late.foldl (fun (a : ErSt) (x : Nat × Rec) => (a.append { x.2 with peer := true }).1) start
  (s.putEr u.code a).putEr v.code
    { a with challenges := e.challenges, readResult := e.readResult, clearResult := e.clearResult }

/-- The lines of the standby's side follow the active unit's: PEN and SPIN as driven there, TOKEN low (R63, R472). -/
def State.followLines (s : State) : State :=
  let u := s.pair.active
  s.forEach (List.range 16) (fun s p =>
    let l := s.getLine (sideKey u p)
    s.modLine (sideKey u.other p) (fun k =>
      { k with pen := l.pen, token := false, driven := l.driven, readback := if k.driven = l.driven then k.readback else some l.driven }))

/-- The other unit becomes standby (R469, R478, R480), and a degrading check still tripped releases TOKEN (R475). -/
def State.standbyReady (s : State) (overlap : Bool) : State :=
  let v := s.pair.active.other
  let x := s.unitSt v
  if s.pair.peer ≠ .stateCopy || !s.mirrorUp || x.inReset || (s.getJf v.code).exhausted || !s.shadowsValid || !s.lanesTrained then s
  else if !s.sameVersion && !s.runsCommitted then s
  else if !s.sameVersion && !overlap then
    (({ s with pair := { s.pair with peer := .versionMismatch } } : State).raise .pair [.PAIR_VERSION_MISMATCH]).activationFailed
  else
    let s := match x.releasedAt with
      | some t => s.wr Obj.LAST_REJOIN_MS ((s.now - t) / 1000)
      | none => s
    let s := s.modUnit v (fun x => { x with releasedAt := none, plannedRelease := false, tripped := false, resent := false })
    let s := (({ s with pair := { s.pair with peer := .ready, settleFrom := some s.now } } : State).recorderJoin.followLines).mcCopy v
    match s.pair.heldCheck with
    | none => s
    | some c =>
      if s.checkTripped s.pair.active c then s.releaseToken (some c) .tokenReleased false
      else { s with pair := { s.pair with heldCheck := none } }

/-- STANDBY_READY (R469, R485): it stands for the end of the state copy. -/
def execStandbyReady (overlap : Bool) (s : State) : Host.Outcome State Fault Refusal := (s.standbyReady overlap).conclude

/-- REJOIN_SETTLE_EXPIRY (R478): the standby has been ready for REJOIN_SETTLE seconds. -/
def execRejoinSettleExpiry (s : State) : Host.Outcome State Fault Refusal :=
  .next (match s.pair.settleFrom with
    | some t =>
      if t + 1000000 * s.rd Obj.REJOIN_SETTLE ≤ s.now then { s with pair := { s.pair with settleFrom := none } } else s
    | none => s)

/-- A unit held in reset starts over with its self-test (R480). -/
def State.rejoinStart (s : State) (v : UnitId) : State :=
  let s := (s.modUnit v (fun x => { x with inReset := false, selfTest := false })).forEach (List.range 16) (fun s p =>
    s.modLine (sideKey v p) (fun l => { l with trainAt := s.now }))
  if v = s.pair.active then s else { s with pair := { s.pair with peer := .selfTest } }

/-- Releases of a unit in the last 24 hours (R482). -/
def State.releases24h (s : State) (u : UnitId) : Nat :=
  ((s.unitSt u).releases.filter (fun t => decide (s.now < t + day))).length

/-- A unit is not let back (R482). -/
def State.rejoinRefused (s : State) (v : UnitId) : State :=
  let s := s.modUnit v (fun x => { x with inReset := true, selfTest := false })
  let s := if v = s.pair.active then s else { s with pair := { s.pair with peer := .refused } }
  s.raise .pair [.PAIR_REJOIN_REFUSED]

/-- REJOIN_RESET_RELEASE (R480, R482): 10 ms after the release. -/
def execRejoinResetRelease (u : UnitId) (s : State) : Host.Outcome State Fault Refusal :=
  let x := s.unitSt u
  State.conclude (
    if x.releasedAt.all (fun t => decide (s.now < t + 10000)) || x.plannedRelease || !x.inReset || (u ≠ s.pair.active && s.pair.peer = .refused) then s
    else if s.rd Obj.REJOIN_LIMIT < s.releases24h u then s.rejoinRefused u
    else if s.rd Obj.AUTO_REJOIN = 0 then s
    else s.rejoinStart u)

/-- REJOIN_ATTEMPT (R467, R482): a write of 02h to PAIR_COMMAND starts one attempt of a unit held in reset. -/
def execRejoinAttempt (q : Requester) (u : UnitId) (s : State) : Host.Outcome State Fault Refusal :=
  State.conclude (s.tryKey q u Obj.PAIR_COMMAND [2] 0 (fun s =>
    let v := s.pair.active.other
    match s.pair.peer with
    | .refused | .failedSelfTest | .released => if (s.unitSt v).inReset then s.rejoinStart v else s
    | _ => s))

/-! ## Planned switchover and activation (R483-R486) -/

/-- PLANNED_SWITCHOVER (R486): refused unless the standby is ready and the module in Frond, Frond-degraded or Maintenance. -/
def execPlannedSwitchover (q : Requester) (u : UnitId) (s : State) : Host.Outcome State Fault Refusal :=
  let m := s.mode.cur
  let fits := m == .frond || m == .frondDegraded || m == .maintenance
  State.conclude (s.tryKey q u Obj.PAIR_COMMAND [1] (if !fits then 0x05 else if !s.peerReady then 0x09 else 0) (fun s =>
    if s.mode.cur = .maintenance then { s with pair := { s.pair with maintSwitch := true } } else s.switchDrain true))

/-- WARM_RESTART (R484): of the unit that does not hold TOKEN. -/
def execWarmRestart (u : UnitId) (s : State) : Host.Outcome State Fault Refusal :=
  State.conclude (if u = s.pair.active || (s.unitSt u).inReset || !s.pair.roleDecided then s else s.warmRestart u)

/-- ACTIVATION_STEP_ADVANCE (R483). -/
def execActivationStepAdvance (s : State) : Host.Outcome State Fault Refusal := s.activationAdvance.conclude

/-! ## The mirror link (R470-R472) -/

/-- MIRROR_MESSAGE (R63, R470-R472). -/
def execMirrorMessage (lag replays : Nat) (s : State) : Host.Outcome State Fault Refusal :=
  .next (
    if !s.mirrorUp || !(s.pair.peer == .ready || s.pair.peer == .stateCopy) then s
    else
      (s.followLines.wr Obj.MIRROR_LAG_MAX (max (s.rd Obj.MIRROR_LAG_MAX) (min lag 0xFFFFFFFF))).wr Obj.MIRROR_REPLAYS
        (min (s.rd Obj.MIRROR_REPLAYS + replays) 0xFFFFFFFF))

/-- MIRROR_LINK_DOWN (R470): the standby is not ready while the link is down; with half the lanes it goes on. A unit about to take
over keeps the copy that it holds (R479). -/
def execMirrorLinkDown (half : Bool) (s : State) : Host.Outcome State Fault Refusal :=
  State.conclude (
    if !s.mirrorUp then s
    else if half && s.pair.mirror == .up16 then { s with pair := { s.pair with mirror := .up8 } }
    else
      let p := s.pair.peer
      let keeps := s.mode.cur == .switchover && (s.unitSt s.pair.active).releasedAt.isSome
      ({ s with pair := { s.pair with
          mirror := .down, mirrorAt := s.now, settleFrom := none
          peer := if !keeps && (p == .ready || p == .stateCopy) then .absent else p } } : State).raise .pair [.PAIR_MIRROR_DOWN])

/-- MIRROR_RETRAIN (R470): the first training after a start, or that of a link that has gone down, every 100 ms, which is counted. A
unit held in reset does not answer. -/
def execMirrorRetrain (up : Option Bool) (s : State) : Host.Outcome State Fault Refusal :=
  State.conclude (
    if s.mirrorUp || s.mode.cur = .unpowered || s.mode.cur = .resetHold ||
        (s.pair.mirror == .down && decide (s.now < s.pair.mirrorAt + 100000)) then s
    else
      let s := if s.pair.mirror = .down then s.inc Obj.MIRROR_RETRAINS else s
      let s := { s with pair := { s.pair with mirrorAt := s.now } }
      match if (s.unitSt .A).inReset || (s.unitSt .B).inReset then none else up with
      | none =>
        let s := { s with pair := { s.pair with mirror := .down } }
        if s.bit Obj.PAIR_STATUS Flag.PAIR_MIRROR_DOWN.bit then s else s.raise .pair [.PAIR_MIRROR_DOWN]
      | some full =>
        (({ s with pair := { s.pair with mirror := if full then .up16 else .up8 } } : State).lower .pair .PAIR_MIRROR_DOWN).peerTry)

end Sys2Proof.Machine
end

