-- ==== Sys2Proof/Machine/Power.lean ====
section
/-! DEFINITION. Supplies, stored energy, Hold-up, the pace monitor, temperatures and PEN grants (R490-R517, R541). -/

namespace Sys2Proof.Machine

/-- VAUX3 below its window with VIN12 and HOLD exhausted leaves the module without power (R30); during Hold-up it has no effect
until the sequence ends (R505). -/
def State.unpoweredTry (s : State) : State :=
  if !s.sup.vauxIn && !s.sup.vin12 && s.sup.holdSpent && s.mode.cur != .unpowered && s.mode.cur != .holdUp then
    s.enter .unpowered .supply
  else s

/-- Modes in which the regulators of the cores run (R428, R490). -/
def coresRun : Mode → Bool
  | .bringUp | .frond | .frondDegraded | .drain | .quiescent | .switchover | .maintenance => true
  | _ => false

/-- Whether a unit's cores are supplied. -/
def State.coresOn (s : State) (u : UnitId) : Bool := s.sup.vin12 && coresRun s.mode.cur && !(s.unitSt u).inReset

/-! ## VIN12 and the scan (R427, R490, R541) -/

/-- VIN12_GOOD (R490): the PHY rail starts, and with it the die of the journal flash, whose rows are not scanned yet. -/
def execVin12Good (s : State) : Host.Outcome State Fault Refusal :=
  State.conclude (
    if s.sup.vin12 then s
    else
      let s := { s with sup := { s.sup with vin12 := true } }
      if s.mode.cur = .holdUp then s
      else { s with mode := { s.mode with settingsRead := false }, jf := s.jf.map (fun (e : Nat × JfSt) => (e.1, { e.2 with scanned := false })) })

/-- STATE_ROW_SCAN_COMPLETE (R541): the scan of one unit, after which the boot ROM makes its read (R32). -/
def execStateRowScanComplete (u : UnitId) (bad : List (Nat × Bool × Bool)) (s : State) : Host.Outcome State Fault Refusal :=
  State.conclude (if !s.sup.vin12 || !s.sup.vaux3 || s.mode.cur = .holdUp || (s.getJf u.code).scanned then s else s.jfScan u bad)

/-! ## Hold-up (R30, R35, R502, R505) -/

/-- Modes from which a loss of VIN12 leads to Hold-up (R30). -/
def holdsUp : Mode → Bool
  | .bringUp | .frond | .frondDegraded | .drain | .quiescent | .maintenance | .switchover => true
  | _ => false

/-- Steps 1 to 5 of R502 begin: gates off, SPIN at retract-then-brake and PEN low on the side of each unit (a released one holds SPIN at
coast, R476), links and GDDR7 down, an erase suspended. -/
def State.holdupBegin (s : State) : State :=
  let s := if s.mode.cur = .switchover && (s.unitSt s.pair.active).releasedAt.isSome then
      { s with pair := { s.pair with active := s.pair.active.other, peer := .released } }
    else s
  let ready := s.sup.hold == .ready
  let s := s.enter .holdUp .vin12Lost
  let s := { s with sup := { s.sup with hold := .discharging, holdReady := ready } }
  let s := s.pwrBoth .PWR_VIN12_LOST
  let us := [UnitId.A, UnitId.B].filter (fun u => (s.unitSt u).releasedAt.isNone)
  let s := s.portsOff.forEach us (fun s u => s.forEach (List.range 16) (fun s p =>
    s.modLine (sideKey u p) (fun l => { l with pen := false, token := false, driven := .retractBrake, readback := some .retractBrake })))
  let s := (s.jfSuspend .A).jfSuspend .B
  let s := (((s.ctrlDown .A).ctrlDown .B).abandonAll).linksOff
  let off := fun (x : UnitSt) => { x with gddrTrained := false }
  (((s.modUnit .A off).modUnit .B off).sorusesLost).memoriesLost

/-- HOLD below 8.0 V ends a Hold-up where it stands (R30, R505). The way to Unpowered has no cause of its own in R40 and R616; the
model gives 09h (DESIGN CHOICE: log 190). -/
def State.holdEnds (s : State) : State :=
  let s := { s with sup := { s.sup with hold := .empty, holdSpent := true } }
  if s.mode.cur ≠ .holdUp then
    if !s.sup.vauxIn && !s.sup.vin12 && s.mode.cur ≠ .unpowered then s.enter .unpowered .supply else s
  else
    let s := (s.jfPowerLoss .A).jfPowerLoss .B
    if s.sup.vauxIn then (s.enter .fiddlehead .holdExhausted).pwrBoth .PWR_HOLD_EXHAUSTED
    else (({ s with sup := { s.sup with exhaustedDue := true } } : State).recordsLost).enter .unpowered .supply

/-- VIN12_LOST (R30, R502, R505). In Fiddlehead and below only what runs from VIN12 stops. -/
def execVin12Lost (s : State) : Host.Outcome State Fault Refusal :=
  State.conclude (
    if !s.sup.vin12 then s
    else
      let s := { s with sup := { s.sup with vin12 := false }, mode := { s.mode with settingsRead := false } }
      if holdsUp s.mode.cur then
        let s := s.holdupBegin
        if s.sup.holdSpent then s.holdEnds else s
      else if s.mode.cur = .holdUp then s
      else
        let s := (((s.jfPowerLoss .A).jfPowerLoss .B).ctrlDown .A).ctrlDown .B
        let s := if s.rd Obj.RECOVERY_CHECK = 7 then s.wr Obj.RECOVERY_CHECK 0 else s
        ({ s with fw := s.fw.map (fun (e : Nat × FwSt) => (e.1, { e.2 with recovery := none })) } : State).linksOff.unpoweredTry)

/-- Step 5 for settings and the count (R565, R566). -/
def State.commitSettings (s : State) (u : UnitId) : State :=
  let s := s.settingsSave u
  if s.rd (Obj.TIME_BASE_STATE u) = 1 then s.modSet u.code (fun t => { t with savedTime := some s.now }) else s

/-- Step 6 for the recorder: every page due, and the page being filled (R533). -/
def State.commitPages (s : State) (u : UnitId) : State :=
  s.forEach (List.range ((s.getEr u.code).due.length + 1)) (fun s _ => s.erProgram u true 0)

/-- HOLDUP_SEQUENCE_COMPLETE (R502, R505): each unit's staged records are programmed with a closing record, those of held commands dropped
when HOLD was not ready at the loss; then steps 6 and 7. -/
def execHoldupSequenceComplete (s : State) : Host.Outcome State Fault Refusal :=
  State.conclude (
    if s.mode.cur ≠ .holdUp then s
    else
      let s := if s.sup.holdReady then s else s.recordsLost
      let us := [UnitId.A, UnitId.B].filter (fun u => !(s.unitSt u).inReset)
      let pages := fun (u : UnitId) => min (if us.contains u then s.stagedPages u else 0) 0xFFFF
      let body2 := leBytes 2 (pages .A) ++ leBytes 2 (pages .B)
      let s := s.forEach us (fun s u => s.journalCommit u)
      let s := (s.commitSettings .A).commitSettings .B
      let len := min (s.now - s.mode.entryTime) 0xFFFFFFFF
      let s := s.forEach [UnitId.A, UnitId.B] (fun s u => (s.inc (Obj.HOLDUPS u)).wr (Obj.LAST_HOLDUP_US u) len)
      let body := body2 ++ leBytes 4 len
      let s := (s.logPlain 7 body).emergency { index := 0, sub := 0, ty := 7, cls := 0, body := body }
      let s := (s.commitPages .A).commitPages .B
      let s := ((s.jfPowerLoss .A).jfPowerLoss .B).forEach [UnitId.A, UnitId.B] (fun s u =>
        if s.sup.vin12 then s.stage (Obj.HOLDUPS u) else s)
      let s := { s with sup := { s.sup with hold := .empty } }
      if s.sup.vin12 then
        let s := s.firmwareStopped.enter .bringUp .holdUpDone
        if s.sup.vauxIn then s else s.enter .resetHold .supply
      else if s.sup.vauxIn then s.enter .fiddlehead .holdUpDone
      else s.enter .unpowered .supply)

/-- HOLD_EXHAUSTED (R505). -/
def execHoldExhausted (s : State) : Host.Outcome State Fault Refusal := State.conclude (if s.sup.vin12 && s.mode.cur ≠ .holdUp then s else s.holdEnds)

/-! ## The HOLD capacitor (R496, R497) -/

/-- HOLD_CHARGE_START (R494, R497): after soft-start, while the capacitor is not charged. -/
def execHoldChargeStart (mv : Nat) (s : State) : Host.Outcome State Fault Refusal :=
  State.conclude (
    if !s.sup.vin12 || !coresRun s.mode.cur || s.sup.hold = .ready || s.sup.hold = .charging ||
        decide (s.now < s.sup.coresFrom + 2000) then s
    else
      ({ s with sup := { s.sup with hold := .charging, holdFrom := mv, holdSince := s.now, holdSpent := false } } : State).holdWaits)

/-- The voltage span of the measurement in mV, for a charge from a voltage; none from 31.0 V on (R497). -/
def holdSpan (v0 : Nat) : Option Nat :=
  if v0 < 20000 then some 10000 else if v0 < 31000 then some (32500 - (v0 / 500 + 1) * 500) else none

/-- HOLD_STATE once the charge has ended, from whether the usable energy is at least 1.8 J. -/
def State.holdJudge (s : State) (enough : Bool) : State :=
  if enough then
    (({ s with sup := { s.sup with hold := .ready } } : State).lower (.pwr .A) .PWR_HOLD_NOT_READY).lower (.pwr .B) .PWR_HOLD_NOT_READY
  else ({ s with sup := { s.sup with hold := .weak } } : State).pwrBoth .PWR_HOLD_WEAK

/-- HOLD_USABLE_MJ of a capacitance in µF, on both units. -/
def State.holdUsable (s : State) (uf : Nat) : State :=
  let mj := min (openDiv ((uf : Int) * 1025) 2000).toNat 0xFFFF
  (s.wr (Obj.HOLD_USABLE_MJ .A) mj).wr (Obj.HOLD_USABLE_MJ .B) mj

/-- HOLD_CHARGE_END (R497): the capacitance measured from the time in the span, or taken as stored. -/
def execHoldChargeEnd (t : Nat) (s : State) : Host.Outcome State Fault Refusal :=
  State.conclude (
    if s.sup.hold ≠ .charging || decide (s.now < s.sup.holdSince + t) then s
    else
      match holdSpan s.sup.holdFrom with
      | some dv =>
        let uf := min (openDiv ((t : Int) * 500) dv).toNat 0xFFFF
        let s := ((s.save (Obj.HOLD_CAP_UF .A) uf).save (Obj.HOLD_CAP_UF .B) uf).holdUsable uf
        (s.holdJudge (decide (1800 * 2000 * dv ≤ t * 500 * 1025))).settleCmds
      | none =>
        let uf := s.rd (Obj.HOLD_CAP_UF s.pair.active)
        if uf = 0 then { s with sup := { s.sup with hold := .unmeasured } }
        else ((s.holdUsable uf).holdJudge (decide (1800 * 2000 ≤ uf * 1025))).settleCmds)

/-! ## VCORE and the pace monitor (R492, R493, R507, R508) -/

/-- A check of a unit that waits to be acted on (R475, R620). -/
def State.checkWaits (s : State) (u : UnitId) (c : ReleaseCause) : State :=
  if s.mode.checkDue.contains (u, c) then s
  else { s with mode := { s.mode with checkDue := s.mode.checkDue ++ [(u, c)] } }

/-- VCORE_FAULT (R493). -/
def execVcoreFault (u : UnitId) (s : State) : Host.Outcome State Fault Refusal :=
  State.conclude (if s.coresOn u then (s.raise (.pwr u) [.PWR_VCORE_FAULT]).checkWaits u .pace else s)

/-- VCORE_SET_WRITE (R492). -/
def execVcoreSetWrite (q : Requester) (u : UnitId) (v : BitVec 16) (s : State) : Host.Outcome State Fault Refusal :=
  .next (s.tryKey q u (Obj.VCORE_SET u) (leBytes 2 v.toNat)
    (if v.toNat % 10 ≠ 0 then 0x07 else if v.toNat ≠ 720 && s.mode.cur ≠ .maintenance then 0x09 else 0)
    (fun s => s.save (Obj.VCORE_SET u) v.toNat))

/-- Temperature bands of the die: the highest of its diode and its rings (R512). -/
def maxBand (a b : Band) : Band := if a.code < b.code then b else a

/-- A sensor of a unit. -/
def State.sensorOf (s : State) (u : UnitId) (i : Nat) : Reading := s.getSensor (32 * u.code + i)

/-- DIE_BAND, BOARD_BAND and BUF_BAND (R363, R512). -/
def State.dieBand (s : State) (u : UnitId) : Band := (List.range 25).foldl (fun b i => maxBand b (s.sensorOf u i).band) .cold
def State.boardBand (s : State) : Band := maxBand (s.sensorOf .A 25).band (s.sensorOf .B 26).band
def State.bufBand (s : State) (u : UnitId) : Band := maxBand (s.sensorOf u 27).band (s.sensorOf u 28).band

/-- PACE_THRESHOLD in force (R508). -/
def State.paceThreshold (s : State) (u : UnitId) : Nat := s.rd (Obj.PACE_THRESH u (s.dieBand u).code)

/-- The slack of a replica in 0.1 %: −1000 without a count (R507). -/
def slackOf (count : Option Nat) (required : Nat) : Int :=
  match count with
  | none => -1000
  | some c => if required = 0 then -1000 else openDiv (((c : Int) - required) * 1000) required

/-- Whether a replica's slack is below a threshold in 0.1 %. -/
def slackLow (count : Option Nat) (required thr : Nat) : Bool :=
  match count with
  | none => true
  | some c => required == 0 || decide (((c : Int) - required) * 1000 < (thr * required : Nat))

/-- An I16 as its register holds it. -/
def i16 (v : Int) : Nat := (BitVec.ofInt 16 (max (-32768) (min 32767 v))).toNat

/-- PACE_WINDOW (R507, R508). -/
def State.paceWindow (s : State) (u : UnitId) (counts : List (Option Nat)) : State :=
  let all := (List.range 22).map (fun i => ((counts[i]?).getD none, Config.paceRequired (32 * u.code + i)))
  let slack := (all.map (fun x => slackOf x.1 x.2)).foldl min 32767
  let low := all.any (fun x => slackLow x.1 x.2 (s.paceThreshold u))
  let s := s.wr (Obj.PACE_SLACK u) (i16 slack)
  let old := (BitVec.ofNat 16 (s.rd (Obj.PACE_MIN_SLACK u))).toInt
  let s := s.wr (Obj.PACE_MIN_SLACK u) (i16 (min old slack))
  let was := (s.unitSt u).paceLow
  let s := s.modUnit u (fun x => { x with paceLow := low, lowFrom := if was then x.lowFrom else s.now })
  if low && !was then (s.inc (Obj.PACE_LOW_COUNT u)).raise (.pwr u) [.PWR_PACE_LOW] else s

def execPaceWindow (u : UnitId) (counts : List (Option Nat)) (s : State) : Host.Outcome State Fault Refusal :=
  State.conclude (if s.coresOn u then s.paceWindow u counts else s)

/-- PACE_TRIP_EXPIRY (R473): the slack has stayed low for PACE_TRIP µs. -/
def execPaceTripExpiry (u : UnitId) (s : State) : Host.Outcome State Fault Refusal :=
  .next (if (s.unitSt u).paceLow && s.coresOn u && decide ((s.unitSt u).lowFrom + s.rd Obj.PACE_TRIP ≤ s.now) then s.checkWaits u .pace else s)

/-! ## Temperatures (R363, R509-R514) -/

/-- The boundaries of the bands in tenths of a degree (R511). -/
def bandBounds : List Int := [0, 850, 1000, 1100]

/-- A band by its code. -/
def bandOf (n : Nat) : Band := match n with | 0 => .cold | 1 => .normal | 2 => .warm | 3 => .hot | _ => .critical

/-- A band after a reading, with the hysteresis of 3 °C (R511). -/
def bandStep (b : Band) (t : Int) : Band :=
  let up := (bandBounds.filter (fun x => decide (x < t))).length
  let down := (bandBounds.filter (fun x => decide (x - 30 < t))).length
  bandOf (if b.code < up then up else if down < b.code then down else b.code)

/-- A sensor after a reading with its broken condition, 0 for none (R510): broken at the second in a row, good again after 100
without one. -/
def Reading.take (r : Reading) (v : Option Int) (c : Nat) : Reading :=
  if c ≠ 0 then
    if r.broken || 1 ≤ r.bad then { value := v, cause := c, bad := min 2 (r.bad + 1), good := 0, broken := true, band := .critical }
    else { r with bad := 1, good := 0 }
  else if r.broken && r.good + 1 < 100 then { r with value := v, bad := 0, good := r.good + 1 }
  else
    { value := v, cause := 0, bad := 0, good := min 100 (r.good + 1), broken := false
      band := match v with | some t => bandStep r.band t | none => r.band }

/-- What a sensor gives by itself: the reading when it is within range, and the condition (R509). -/
def SensorRaw.judge : SensorRaw → Option Int × Nat
  | .value t => if decide (-400 ≤ t) && decide (t ≤ 1500) then (some t, 0) else (none, 3)
  | .opened => (none, 1)
  | .shorted => (none, 2)
  | .missing => (none, 3)

/-- Two readings differ by more than 15 °C. -/
def apart (a b : Option Int) : Bool := match a, b with | some x, some y => decide (150 < (x - y).natAbs) | _, _ => false

/-- A list of readings in rising order. -/
def sortInts (l : List Int) : List Int :=
  l.foldl (fun r x => r.filter (fun y => decide (y ≤ x)) ++ [x] ++ r.filter (fun y => decide (x < y))) []

/-- The median of readings; of an even number, the middle two halved. -/
def median (l : List Int) : Option Int :=
  let r := sortInts l
  if r.isEmpty then none
  else if r.length % 2 = 1 then r[r.length / 2]?
  else some (openDiv (r.getD (r.length / 2 - 1) 0 + r.getD (r.length / 2) 0) 2)

/-- The readings of a unit's rings, with that of one replaced. -/
def State.ringValues (s : State) (u : UnitId) (i : Nat) (v : Option Int) : List (Option Int) :=
  (List.range 24).map (fun j => if j = i then v else (s.sensorOf u j).value)

/-- Rings that differ from a diode reading by more than 15 °C. -/
def farRings (l : List (Option Int)) (d : Option Int) : Nat := (l.filter (fun r => apart r d)).length

/-- A sensor of a unit written, with SENSOR_BROKEN when it has become broken (R510). -/
def State.putReading (s : State) (u : UnitId) (i : Nat) (r : Reading) : State :=
  let was := (s.sensorOf u i).broken
  let s := s.putSensor (32 * u.code + i) r
  if r.broken && !was then s.raise (.pwr u) [.PWR_SENSOR_BROKEN] else s

/-- A ring read (R509, R510): against the diode, or against the median of the rings when more than 12 of them differ from it. -/
def State.readRing (s : State) (u : UnitId) (i : Nat) (raw : SensorRaw) : State :=
  let (v, c) := raw.judge
  let d := s.sensorOf u 24
  let rings := s.ringValues u i v
  let far := 12 < farRings rings d.value
  let off := if far then apart v (median (rings.filterMap id)) else !d.broken && apart v d.value
  s.putReading u i ((s.sensorOf u i).take v (if c ≠ 0 then c else if off then 4 else 0))

/-- The on-die diode read. -/
def State.readDiode (s : State) (u : UnitId) (raw : SensorRaw) : State :=
  let (v, c) := raw.judge
  let far := 12 < farRings (s.ringValues u 24 none) v
  s.putReading u 24 ((s.sensorOf u 24).take v (if c ≠ 0 then c else if far then 4 else 0))

/-- One of two sensors that check each other read (R510): both count as broken when they disagree. -/
def State.readPair (s : State) (u : UnitId) (i : Nat) (w : UnitId) (j : Nat) (raw : SensorRaw) : State :=
  let (v, c) := raw.judge
  let o := s.sensorOf w j
  let off := c == 0 && !o.broken && apart v o.value
  let r := (s.sensorOf u i).take v (if c ≠ 0 then c else if off then 4 else 0)
  let s := s.putReading u i r
  if off && r.broken then s.putReading w j { o with cause := 4, bad := 2, good := 0, broken := true, band := .critical } else s

/-- The remote diode of an HDA read (R509, R510): checked against the peer's while that unit is present. -/
def State.readHda (s : State) (u : UnitId) (p : Nat) (raw : SensorRaw) : State :=
  let (v, c) := raw.judge
  let k := sideKey u p
  let o := (s.getHda (sideKey u.other p)).r
  let off := c == 0 && (s.unitSt u.other).present && !o.broken && apart v o.value
  let old := (s.getHda k).r
  let r := old.take v (if c ≠ 0 then c else if off then 4 else 0)
  let s := s.putHda k { r := r }
  let s := if r.broken && !old.broken then s.raise (.pwr u) [.PWR_SENSOR_BROKEN] else s
  let s := if off && r.broken then
      (s.putHda (sideKey u.other p) { r := { o with cause := 4, bad := 2, good := 0, broken := true, band := .critical } }).raise
        (.pwr u.other) [.PWR_SENSOR_BROKEN]
    else s
  if r.band ≠ old.band then s.raise (.pwr u) [.PWR_BAND_CHANGE] else s

/-- A temperature threshold of a controller crossed (R339, R354): 273 K at 0 °C, over or under. -/
def CtrlSt.threshold (c : CtrlSt) (u : UnitId) (old new : Option Int) : CtrlSt :=
  match c.features.find? (fun e => e.1 == 4), old, new with
  | some (_, v), some a, some b =>
    let k := fun (t : Int) => t + 2730
    let thr : Int := (v % 65536) * 10
    let crossed := if v / 0x100000 % 4 = 0 then decide (k a < thr) && decide (thr ≤ k b) else decide (thr < k a) && decide (k b ≤ thr)
    if c.rdy && v / 65536 % 16 == 0 && crossed && c.aenConfig &&& 2 != 0 then c.event u { ty := 1, info := 1, log := 2 } else c
  | _, _, _ => c

/-- The temperature that THERMAL_TRIP watches (R514): the diode while it is good, else the median of the good rings. -/
def State.tripReading (s : State) (u : UnitId) : Option Int :=
  let d := s.sensorOf u 24
  if !d.broken && d.value.isSome then d.value
  else median (((List.range 24).filter (fun i => !(s.sensorOf u i).broken)).filterMap (fun i => (s.sensorOf u i).value))

/-- That temperature is above 130 °C. -/
def State.tripHot (s : State) (u : UnitId) : Bool := match s.tripReading u with | some t => decide (1300 < t) | none => false

/-- What follows a reading of a unit: changes of DIE_BAND and BOARD_BAND, the time above 130 °C, and the temperature threshold (R354,
R511, R514). The board's diodes are shared by both units. -/
def State.bandsAfter (old s : State) (u : UnitId) : State :=
  let n := Config.compositeSensor.val
  let s := if u = s.pair.active && (old.sensorOf u n).value ≠ (s.sensorOf u n).value then
      (s.forEach [UnitId.A, UnitId.B] (fun s v =>
        s.modCtrl v.code (fun c => c.threshold v (old.sensorOf u n).value (s.sensorOf u n).value))).aerSlots
    else s
  let hot := s.tripHot u
  let s := s.modUnit u (fun x => { x with hotFrom := if !hot then none else if x.hotFrom.isSome then x.hotFrom else some s.now })
  let die := s.dieBand u != old.dieBand u
  let board := s.boardBand != old.boardBand
  let s := if board then s.pwrBoth .PWR_BAND_CHANGE else if die then s.raise (.pwr u) [.PWR_BAND_CHANGE] else s
  let s := if die && s.dieBand u = .critical then s.raise (.pwr u) [.PWR_DIE_CRITICAL] else s
  if board && s.boardBand = .critical then s.pwrBoth .PWR_BOARD_CRITICAL else s

/-- SENSOR_READ (R509-R514). -/
def execSensorRead (u : UnitId) (n : Sensor) (r : SensorRaw) (s : State) : Host.Outcome State Fault Refusal :=
  State.conclude (
    if s.mode.cur = .unpowered || s.mode.cur = .resetHold then s
    else
      match n with
      | .ring i => s.bandsAfter (s.readRing u i r) u
      | .diode => s.bandsAfter (s.readDiode u r) u
      | .board => s.bandsAfter (s.readPair u (25 + u.code) u.other (26 - u.code) r) u
      | .hda p => s.readHda u p r)

/-- GDDR7_TEMPERATURE_READ (R363): both devices of a unit. -/
def execGddr7TemperatureRead (u : UnitId) (t0 t1 : Option Int) (s : State) : Host.Outcome State Fault Refusal :=
  let raw := fun (t : Option Int) => match t with | some v => SensorRaw.value v | none => SensorRaw.missing
  State.conclude (
    if (s.getBuf u.code).state = .untrained then s
    else
      let t := (s.readPair u 27 u 28 (raw t0)).readPair u 28 u 27 (raw t1)
      let t := s.bandsAfter t u
      if t.bufBand u ≠ s.bufBand u then t.raise (.buf u) [.BUF_BAND_CHANGE] else t)

/-- THERMAL_TRIP (R514, R525): above 130 °C for 1 ms; without a latch it counts as a tripped fatal check of its unit. -/
def execThermalTrip (u : UnitId) (s : State) : Host.Outcome State Fault Refusal :=
  State.conclude (
    match (s.unitSt u).hotFrom with
    | some t =>
      if !s.tripHot u || decide (s.now < t + 1000) then s
      else
        let s := s.raise (.pwr u) [.PWR_THERMAL_TRIP]
        if s.mode.latchDue then s else s.checkWaits u .thermal
    | none => s)

/-! ## PEN (R501) -/

/-- No other PEN of the module has risen within the last PEN_STAGGER ms (R501). -/
def State.penFree (s : State) (p : Nat) : Bool :=
  match s.sup.penAt with
  | some (k, t) => k == p || decide (t + 1000 * s.rd (Obj.PEN_STAGGER s.pair.active) ≤ s.now)
  | none => true

/-- PEN_GRANT (R74, R428, R501): the lowest port that waits, once firmware runs in Bring-up. -/
def execPenGrant (s : State) : Host.Outcome State Fault Refusal :=
  State.conclude (
    if !s.sup.vin12 || !(s.unitSt s.pair.active).fwRunning then s
    else
      match (List.range 16).find? (fun p => s.portWaits p) with
      | none => s
      | some p =>
        if !s.penFree p then s
        else
          let s := s.portTo p .powering .stepComplete
          ({ s with sup := { s.sup with penAt := some (p, s.now) } } : State).penDrive p true)

end Sys2Proof.Machine
end

