-- ==== Sys2Proof/Machine/Memory.lean ====
section
/-! DEFINITION. The commands that reach the buffer memory by address (R359, R362, R367, R382, R384). -/

namespace Sys2Proof.Machine

/-- BUFFER_READ (R367): an access by address. -/
def execBufferRead (u : UnitId) (addr : Nat) (len : Nat) (e : MemErrs) (s : State) :
    Host.Outcome State Fault Refusal := .next (s.bufCommand u addr len none e).grave

/-- BUFFER_WRITE (R368, R375): an access by address. -/
def execBufferWrite (u : UnitId) (addr : Nat) (data : List Byte) (e : MemErrs) (s : State) :
    Host.Outcome State Fault Refusal := .next (s.bufCommand u addr data.length (some data) e).grave

/-- CACHE_ACCESS (R382): an access by address; outside the window the cache is passed by. -/
def execCacheAccess (u : UnitId) (addr : Nat) (len : Nat) (data : Option (List Byte)) (e : MemErrs) (s : State) :
    Host.Outcome State Fault Refusal :=
  let n := match data with | some d => d.length | none => len
  let t := s.bufCommand u addr n data e
  .next (t.modCache u.code (fun c => { c with resp := (t.getBuf u.code).resp })).grave

def execCacheWritebackComplete (u : UnitId) (s : State) : Host.Outcome State Fault Refusal :=
  .next (s.writebackDone u).grave

/-- GDDR7_RETRAIN_COMPLETE (R362). -/
def execGddr7RetrainComplete (u : UnitId) (s : State) : Host.Outcome State Fault Refusal :=
  .next (if (s.getBuf u.code).state = .retraining then
      ((s.modBuf u.code (fun b => { b with state := .inService })).replayHeld u).grave
    else s)

end Sys2Proof.Machine
end

