-- ==== Sys2Proof/Machine/Raw.lean ====
section
/-! DEFINITION. The raw block windows and the buffer window (R592). -/

namespace Sys2Proof.Machine

/-- The fields lie in their stated ranges: COUNT 1-16, OP 01h or 02h, READER a mode of R91. -/
def RawTarget.inRange (t : RawTarget) : Bool :=
  1 ≤ t.count && t.count ≤ 16 && (t.op == 1 || t.op == 2) && t.reader ≤ 2 && t.head < 16 && t.zone < 32

/-- A write is carried out only on calibration tracks, in conventional mode: on the even offsets of the first CAL_TRACKS tracks
of its zone, and on positions of one track (R149, R592). -/
def State.rawWriteOk (s : State) (p a : Nat) (t : RawTarget) : Bool :=
  let z := zoneOf ((s.getChan (chanKey p a)).zone (t.head * 32 + t.zone))
  0 < z.tracks && z.first ≤ t.track && t.track < z.first + z.cal && (t.track - z.first) % 2 == 0 && t.pos + t.count ≤ z.spt

/-- RAW_STATE (R592). -/
def RawSt.code (r : RawSt) : Nat := if r.op.isSome then 1 else r.st

/-- RAW_COMMAND (R592): 0Ah while an operation is in progress; a target that cannot be carried out sets RAW_STATE 03h and gets
09h; any other begins. -/
def State.rawCommand (s : State) (q : Requester) (u : UnitId) (p a v : Nat) : State :=
  s.hold (.write q u (keyIndex (Obj.RAW_COMMAND p a)) 1 (leBytes 1 v)) fun s =>
  let e := s.writeErr u (keyIndex (Obj.RAW_COMMAND p a)) 1 q (leBytes 1 v)
  let t := s.rawTargetOf p a
  let k := chanKey p a
  if e ≠ 0 then s.answer q e
  else if (s.getRaw k).op.isSome then s.answer q 0x0A
  else if !t.inRange || (t.op == 2 && !s.rawWriteOk p a t) then (s.modRaw k (fun r => { r with st := 3 })).answer q 0x09
  else (s.modRaw k (fun _ => { op := some t.op })).answer q 0

/-- RAW_COMMAND (R592). -/
def execRawCommand (q : Requester) (u : UnitId) (p : PortId) (a : ActId) (v : BitVec 8) (s : State) :
    Host.Outcome State Fault Refusal := .next (s.rawCommand q u p a v.toNat)

/-- What an operation has read, sector after sector; a sector that was not delivered leaves zeros. -/
def RawSt.data (r : RawSt) (n : Nat) : List Byte :=
  (List.range n).flatMap (fun i =>
    let b := ((r.read.find? (fun e => e.1 == i)).map Prod.snd).getD []
    b.take 4112 ++ List.replicate (4112 - b.length) 0)

/-- The result words of an operation, sector after sector, once there is one for each. -/
def RawSt.results (r : RawSt) (n : Nat) : Option (List Nat) :=
  (List.range n).mapM (fun i => (r.words.find? (fun e => e.1 == i)).map Prod.snd)

/-- RAW_OPERATION_COMPLETE (R592): once every sector of the target has its result, RAW_RESULT holds the words and, after a read,
RAW_DATA what was read. -/
def execRawOperationComplete (p : PortId) (a : ActId) (s : State) : Host.Outcome State Fault Refusal :=
  let k := chanKey p a
  let n := (s.rawTargetOf p a).count
  let r := s.getRaw k
  State.conclude (
    match r.op, r.results n with
    | some op, some ws =>
      let s := s.modRaw k (fun _ => { st := 2 })
      let s := s.wrBlob (Obj.RAW_RESULT p a) (ws.flatMap (leBytes 8))
      if op = 1 then s.wrBlob (Obj.RAW_DATA p a) (r.data n) else s
    | _, _ => s)

/-- Whether an access can be made to the buffer of a unit now: its interface is trained and not being retrained. -/
def State.bufReady (s : State) (u : UnitId) : Bool := !(s.getBuf u.code).state.holds

/-- A read of the buffer window (R592): 65 536 bytes from BUF_WIN_ADDR, 07h beyond the buffer. -/
def State.winRead (s : State) (q : Requester) (u : UnitId) : State :=
  s.hold (.window q u) fun s =>
  let e := s.readErr 0x9000 1 q
  let a := s.rd (Obj.BUF_WIN_ADDR u)
  if e ≠ 0 then s.answer q e
  else if bufLimit < a + 65536 then s.answer q 0x07
  else if !s.bufReady u then s.answer q 0x0A
  else
    let (s, r) := s.engRead u a 65536
    match r with
    | some b => s.answer q 0 b
    | none => s.answer q 0x09

/-- A write of the buffer window (R592). -/
def State.winWrite (s : State) (q : Requester) (u : UnitId) (d : List Byte) : State :=
  let a := s.rd (Obj.BUF_WIN_ADDR u)
  s.tryKey q u (Obj.BUF_WIN_DATA u) d
    (if bufLimit < a + 65536 then 0x07 else if !s.bufReady u then 0x0A else 0) (fun s => (s.engWrite u a d).1)

/-- BUF_WIN_DATA_ACCESS (R592). -/
def execBufWinDataAccess (q : Requester) (u : UnitId) (write : Option (List Byte)) (s : State) :
    Host.Outcome State Fault Refusal :=
  .next (match write with | none => s.winRead q u | some d => s.winWrite q u d).grave

end Sys2Proof.Machine
end

