-- ==== Sys2Proof/Machine/Start.lean ====
section
/-! DEFINITION. The staged start: supplies and reset, the self-tests and the role decision, firmware verification, GDDR7
training, recovery images (R30, R361, R426-R433, R467, R468, R597, R604). -/

namespace Sys2Proof.Machine

/-! ## VAUX3 (R426, R490, R566) -/

/-- The recorder of a unit after a removal of VAUX3: what its ring holds, with the numbering going on from there (R533). -/
def ErSt.kept (e : ErSt) : ErSt :=
  { next := e.programmed, oldest := min e.oldest e.programmed, programmed := e.programmed, wp := e.wp, ring := e.ring
    gapFrom := e.gapFrom.filter (fun n => decide (n < e.programmed)) }

/-- What outlasts a removal of VAUX3: journal flash, fuses, firmware slots, the media and what the index says of it, the
remap tables, and the numbering of page C0h; every register is at its default and every other memory empty (R565, R566). -/
def State.kept (s : State) : State :=
  { pending := s.pending
    fresh := s.fresh
    obj := s.obj.filter (fun e => e.1 = Obj.DEFERRED_ENTRIES)
    deferred := s.deferred
    sup := s.sup
    chan := s.chan.map (fun (e : Nat × ChanSt) => (e.1, { sets := e.2.sets, zones := e.2.zones, precomp := e.2.precomp
                                                          presets := e.2.presets, indexPhase := e.2.indexPhase, headFails := e.2.headFails
                                                          degraded := e.2.degraded, void := e.2.void, frontier := e.2.frontier, sys := e.2.sys }))
    mc := { stored := s.mc.stored }
    os := { s.os with mode := .stopped, queue := [], unprog := [], compacting := false, recovered := false }
    buf := s.buf.map (fun (e : Nat × BufSt) => (e.1, { remap := e.2.remap }))
    pair := { unitA := { present := s.pair.unitA.present }, unitB := { present := s.pair.unitB.present } }
    fw := s.fw.map (fun (e : Nat × FwSt) => (e.1, { slots := e.2.slots }))
    jf := s.jf.map (fun (e : Nat × JfSt) => (e.1, { e.2 with prog := none, erase := none, scanned := false, sent := 0, fwWord := 0
                                                             fwData := [], mgmtData := [] }))
    er := s.er.map (fun (e : Nat × ErSt) => (e.1, e.2.kept))
    set := s.set.map (fun (e : Nat × SetSt) => (e.1, { e.2 with staged := [], held := [], loaded := false }))
    fuse := s.fuse }

/-- The steps of R426 begin once RSTn is high and VAUX3 in window: the islands release both units to their self-tests. -/
def State.startBegin (s : State) : State :=
  if s.mode.cur ≠ .resetHold || s.sup.rstLow || !s.sup.vauxIn then s
  else
    let go := fun (x : UnitSt) => { x with inReset := !x.present }
    let s := (s.modUnit .A go).modUnit .B go
    { s with pair := { s.pair with mirror := .training, roleDecided := false, claimClosed := false, startAt := s.now } }

/-- VAUX3_APPLIED (R30, R426): step 1 of a start, with the straps latched (R604). After a removal everything that runs from VAUX3
starts afresh. -/
def execVaux3Applied (straps : Straps) (s : State) : Host.Outcome State Fault Refusal :=
  State.conclude (
    if s.sup.vauxIn then s
    else
      let old := s.mode
      let removed := !s.sup.vaux3
      let s : State := if removed then
          let m : ModeSt := { cur := old.cur, prev := old.prev, cause := old.cause }
          { s.kept with mode := m }
        else s
      let s := { s with sup := { s.sup with vaux3 := true, vauxIn := true, straps := straps } }
      let s := (s.wr Obj.T_VAUX3_GOOD s.now).wr Obj.UNITPREF_STRAP (if straps.unitPref then 1 else 0)
      let s := if s.mode.cur = .unpowered then s.setMode .resetHold .powerApplied else s
      (s.forEach (List.range 16) (fun s p => s.spinDrive p (s.spinFor p))).startBegin)

/-- Hold-up ends before its sequence is complete: the commit of the journal stops where it stands. -/
def State.holdCut (s : State) : State :=
  let s := (s.jfPowerLoss .A).jfPowerLoss .B
  { s with sup := { s.sup with hold := .empty } }

/-- VAUX3_OUT_OF_WINDOW (R30, R33, R34, R505): the module enters Reset hold, in Hold-up only while VAUX3 is not lost, which ends
the commit of the journal; a removal also clears the Grave latch. -/
def execVaux3OutOfWindow (lost : Bool) (s : State) : Host.Outcome State Fault Refusal :=
  State.conclude (
    let s := { s with sup := { s.sup with vauxIn := false, vaux3 := s.sup.vaux3 && !lost } }
    let s := match s.mode.cur with
      | .unpowered | .faultLatched | .resetHold => s
      | .holdUp => if lost then s else s.holdCut.enter .resetHold .supply
      | _ => s.enter .resetHold .supply
    s.unpoweredTry)

/-! ## RSTn (R597) -/

/-- RSTN_ASSERTED (R30, R597): in Hold-up it ends the commit of the journal. -/
def execRstnAsserted (s : State) : Host.Outcome State Fault Refusal :=
  State.conclude (
    let s := { s with sup := { s.sup with rstLow := true } }
    match s.mode.cur with
    | .unpowered | .faultLatched => s
    | .resetHold =>
      let cold := fun (x : UnitSt) => x.cold
      (s.modUnit .A cold).modUnit .B cold
    | .holdUp =>
      s.holdCut.enter .resetHold .rstn
    | _ => s.enter .resetHold .rstn)

/-- RSTN_RELEASED (R426, R597). -/
def execRstnReleased (s : State) : Host.Outcome State Fault Refusal :=
  State.conclude (({ s with sup := { s.sup with rstLow := false } } : State).startBegin)

/-! ## Self-tests and the role decision (R467, R468) -/

/-- The preferred unit (R467). -/
def State.preferred (s : State) : UnitId := if s.sup.straps.unitPref then .B else .A

/-- A start is between its first step and the role decision. -/
def State.deciding (s : State) : Bool := s.mode.cur == .resetHold && s.sup.vauxIn && !s.sup.rstLow && !s.pair.roleDecided

/-- A self-test of a unit that rejoins, or of the unit that reports for the module in Fiddlehead, ends (R480, R482). -/
def State.rejoinTested (s : State) (u : UnitId) (ok : Bool) : State :=
  if (s.unitSt u).selfTest then s
  else if !ok then s.rejoinRefused u
  else
    let s := s.modUnit u (fun x => { x with selfTest := true })
    if u = s.pair.active then s.modUnit u (fun x => { x with tripped := false, releasedAt := none }) else s

/-- SELF_TEST_COMPLETE (R426, R467, R482): a preferred unit that passes later than 10 ms does not claim in this start. -/
def execSelfTestComplete (u : UnitId) (ok : Bool) (s : State) : Host.Outcome State Fault Refusal :=
  State.conclude (
    if (s.unitSt u).inReset then s
    else if s.deciding then
      s.modUnit u (fun x => { x with
        selfTest := ok, claim := x.claim || (ok && u == s.preferred && decide (s.now ≤ s.pair.startAt + 10000)) })
    else if s.pair.roleDecided && s.sup.vauxIn then s.rejoinTested u ok
    else s)

/-- CLAIM_TIMER (R467): at 12 ms, once. -/
def execClaimTimer (s : State) : Host.Outcome State Fault Refusal :=
  State.conclude (
    if !s.deciding || s.pair.claimClosed || decide (s.now < s.pair.startAt + 12000) then s
    else
      let v := s.preferred.other
      let take := !(s.unitSt s.preferred).claim
      let s := s.modUnit v (fun x => { x with claim := x.selfTest && !x.inReset && take })
      { s with pair := { s.pair with claimClosed := true } })

/-- The unit that takes the active role, and whether it does so without a claim (R467). -/
def State.winner (s : State) : UnitId × Bool :=
  let a := s.preferred
  if (s.unitSt a).claim then (a, false) else if (s.unitSt a.other).claim then (a.other, false) else (a, true)

/-- ROLE_DECISION (R467, R468, R519), at 15 ms: the roles, the mode that follows, and then the bits of this decision. -/
def execRoleDecision (s : State) : Host.Outcome State Fault Refusal :=
  State.conclude (
    if !s.deciding || !s.pair.claimClosed || decide (s.now < s.pair.startAt + 15000) then s
    else
      let (w, nobody) := s.winner
      let v := w.other
      let failed := !(s.unitSt v).selfTest
      let s := { s with pair := { s.pair with
        roleDecided := true, active := w
        peer := if !(s.unitSt v).present then .absent else if failed && !nobody then .failedSelfTest else .selfTest } }
      let s := if nobody then
          let bad := fun (x : UnitSt) => { x with selfTest := false }
          (s.modUnit w bad).modUnit v bad
        else if failed then s.modUnit v (fun x => { x with inReset := true })
        else s
      let s := if s.mode.graveLatch then s.enter .faultLatched .graveFault
        else s.enter .fiddlehead (if s.mode.freshPower then .powerApplied else .resetReleased)
      let s := if w ≠ s.preferred then s.raise .pair [.PAIR_ROLE_YIELDED] else s
      let s := if nobody then s.raise .pair [.PAIR_NO_HEALTHY_UNIT] else s
      if s.sup.exhaustedDue then
        ({ s with sup := { s.sup with exhaustedDue := false } } : State).pwrBoth .PWR_HOLD_EXHAUSTED
      else s)

/-! ## Firmware (R428, R430-R433) -/

/-- Whether a unit's cores are supplied and it may load firmware. -/
def State.mayLoad (s : State) (u : UnitId) : Bool :=
  s.sup.vin12 && s.pair.roleDecided && !(s.unitSt u).inReset && !(s.unitSt u).fwRunning &&
  (s.mode.cur == .bringUp || (u != s.pair.active && (s.unitSt u).selfTest &&
    (match s.mode.cur with
      | .frond | .frondDegraded | .drain | .quiescent | .switchover | .maintenance => true
      | _ => false)))

/-- A unit that has failed its self-test after the role decision (R361, R432): the active unit yields its role; the other one is
held in reset, or refused when it was rejoining. -/
def State.unitFailed (s : State) (u : UnitId) : State :=
  let s := s.modUnit u (fun x => { x with selfTest := false })
  if u = s.pair.active then s.releaseToken none .tokenReleased false
  else if (s.unitSt u).releasedAt.isSome then s.rejoinRefused u
  else
    let s := s.modUnit u (fun x => { x with inReset := true })
    { s with pair := { s.pair with peer := .failedSelfTest } }

/-- A unit's firmware has been verified and loaded (R60, R428 step 1, R565): SPIN carries the policy of the settings; GDDR7 training follows when its memory is untrained. -/
def State.firmwareLoaded (s : State) (u : UnitId) (n : Nat) : State :=
  let s := (s.fwRun u n).settingsLoad u
  let s := s.modBuf u.code (fun b => if b.state = .untrained then { b with state := .training, trainFails := 0 } else b)
  if u ≠ s.pair.active then s.peerTry
  else
    let s := (s.wr Obj.T_FW_LOADED s.now).mcBringUp.rpmTake
    let s := s.forEach (List.range 16) (fun s p => s.spinDrive p (s.spinFor p))
    { s with mode := { s.mode with served := true } }

/-- FIRMWARE_VERIFY_COMPLETE (R428, R432). -/
def execFirmwareVerifyComplete (u : UnitId) (bad1 bad2 : Bool) (s : State) : Host.Outcome State Fault Refusal :=
  State.conclude (
    if !s.mayLoad u || (u ≠ s.pair.active && !(s.unitSt u).selfTest) then s
    else
      let (s, n) := if (s.unitSt u).selfTest then s.fwTry u bad1 bad2 else (s.wr Obj.BOOT_RESULT 3, none)
      let version := match n with | some n => fwVersion (s.slotImage u n) | none => 0
      let body := leBytes 1 (s.rd Obj.BOOT_RESULT) ++ leBytes 1 (s.rd (Obj.SLOT_CHECK u 0)) ++
        leBytes 1 (s.rd (Obj.SLOT_CHECK u 1)) ++ leBytes 4 version
      let s := s.log { ty := 0x000A, unit := u, body := body }
      match n with
      | some n => s.firmwareLoaded u n
      | none => s.unitFailed u)

/-- GDDR7_TRAINING_COMPLETE (R361, R428 step 2). -/
def execGddr7TrainingComplete (u : UnitId) (ok : Bool) (s : State) : Host.Outcome State Fault Refusal :=
  State.conclude (
    if (s.getBuf u.code).state ≠ .training then s
    else
      let s := s.gddrTrained u ok
      let s := if ok then s.cacheEnable u else s
      if ok then
        let s := if u = s.pair.active then (s.wr Obj.T_GDDR7_TRAINED s.now).readyBoth else s
        s.peerTry
      else if (s.getBuf u.code).state = .failed then s.unitFailed u
      else s)

/-! ## Recovery images (R433, R604) -/

/-- FW_RECOVERY_STAGE_WRITE (R433). -/
def execFwRecoveryStageWrite (q : Requester) (u : UnitId) (data : List Byte) (s : State) : Host.Outcome State Fault Refusal :=
  .next (s.tryKey q u Obj.FW_RECOVERY_STAGE data
    (if !s.sup.straps.bootSel then 0x09 else if !s.sup.vin12 then 0x0E
     else if (s.getFw s.pair.active.code).recovery.isSome then 0x0A else 0)
    (fun s => (s.modFw s.pair.active.code (fun f => { f with recovery := some data })).wr Obj.RECOVERY_CHECK 7))

/-- RECOVERY_CHECK_COMPLETE (R433). -/
def execRecoveryCheckComplete (s : State) : Host.Outcome State Fault Refusal :=
  State.conclude (
    let u := s.pair.active
    match (s.getFw u.code).recovery with
    | none => s
    | some img =>
      if s.mode.cur ≠ .fiddlehead || !s.sup.vin12 then s
      else
        let s := s.modFw u.code (fun f => { f with recovery := none })
        let c := s.fwCheck u img
        let s := s.wr Obj.RECOVERY_CHECK c
        if c ≠ 1 then s.wr Obj.BOOT_RESULT 3
        else
          let img := img.take (fwLen img)
          (((s.writeSlot .A 1 img).writeSlot .B 1 img).wr Obj.BOOT_RESULT 4).save Obj.BOOT_SLOT 1)

/-- BOOTSEL_CHANGE (R433, R604). -/
def execBootselChange (high : Bool) (s : State) : Host.Outcome State Fault Refusal :=
  State.conclude (
    if !s.sup.vaux3 then s
    else { s with sup := { s.sup with straps := { s.sup.straps with bootSel := high } } })

end Sys2Proof.Machine
end

