-- ==== Sys2Proof/Machine/View.lean ====
section
/-! DEFINITION. What a read of each object shows (R560, R563): values the module holds in records of their own, laid out as the
object tables give them; every other object shows its register or byte string. -/

namespace Sys2Proof.Machine

/-- A signed value as a raw value of n bytes (R560). -/
def leInt (n : Nat) (v : Int) : Nat := (v % 2 ^ (8 * n)).toNat

/-- ASCII bytes of a text. -/
def ascii (t : String) : List Byte := t.toList.map (fun c => BitVec.ofNat 8 c.toNat)

/-- A byte string cut or filled with zeros to a length. -/
def padTo (n : Nat) (b : List Byte) : List Byte := (b ++ List.replicate (n - b.length) 0).take n

/-! ## Capacity and background work (R324, R328, R331) -/

/-- LIVE_MEDIA_BYTES in positions. -/
def State.liveMedia (s : State) : Nat :=
  ((s.os.liveSoruses.filter (fun e => e.2.sid.isSome)).map (fun e => e.2.width * e.2.f)).sum

/-- Positions placed in a band set: those of its tracks up to the current one while it is open, else all. -/
def State.setPlaced (s : State) (t : BandSet) : Nat :=
  (t.bands.map (fun b =>
    let z := zoneOf ((s.getChan (chanKey b.port t.act)).zone (b.head * 32 + b.zone))
    (if t.isOpen then min b.track z.bandTracks else z.bandTracks) * z.spt)).sum

/-- DEAD_MEDIA_BYTES in positions. -/
def State.deadMedia (s : State) : Nat := (s.os.sets.map (fun t => s.setPlaced t - s.liveOf t.no)).sum

/-- Positions of the bands a member uses. -/
def State.usedPositions (s : State) (m : Member) : Nat :=
  (m.used.map (fun k =>
    let h := k / 16777216
    let z := zoneOf ((s.getChan (chanKey (m.port.getD 0) (h / 512))).zone (h % 512))
    z.bandTracks * z.spt)).sum

/-- ACTIVE members. -/
def State.activeMembers (s : State) : List Member :=
  (s.os.members.map Prod.snd).filter (fun (m : Member) => m.state == .active)

/-- FREE_BYTES in positions: free bands, and the unplaced positions of open sets. -/
def State.freePositions (s : State) : Nat :=
  (s.activeMembers.map (fun m => m.positions - s.usedPositions m)).sum +
  ((s.os.sets.filter BandSet.isOpen).map (fun t => s.setSize t - s.setPlaced t)).sum

/-- LIMIT_BYTES. -/
def State.limitBytes (s : State) : Nat := (openDiv ((s.limitBase * 4096 * (100 - s.rd Obj.HEADROOM) : Nat) : Int) 100).toNat

/-- Soruses with a fragment missing, but for lost ones (R318). -/
def State.degradedSoruses (s : State) : List SorusSt :=
  (s.os.soruses.map Prod.snd).filter (fun (x : SorusSt) => x.sealed && !x.dead && !x.lost && x.missing != 0)

/-- REBUILD_STATE (R331). -/
def State.rebuildState (s : State) : Nat :=
  if s.os.blocked then 3
  else if s.nextRepair.isNone && !s.os.soruses.any (fun e => !e.2.dead && !e.2.sealed && e.2.replaces.isSome) then 0
  else if s.backgroundRuns then 1
  else 2

/-- The bytes of a member slot (2005h). -/
def Member.image (m : Member) : List Byte :=
  padTo 20 m.serial ++ leBytes 1 m.state.code ++ leBytes 1 (m.port.getD 255) ++ [0, 0] ++ leBytes 4 m.epoch ++
  leBytes 4 (if m.state = .active then m.free else 0)

/-! ## Sensors (R509-R512, R515) -/

/-- The good value of a reading. -/
def Reading.good? (r : Reading) : Option Int := if r.broken then none else r.value

/-- A temperature as it is reported: 7FFFh for a broken sensor; a given value before the first reading. -/
def Reading.shown (r : Reading) (unread : Int) : Nat :=
  leInt 2 (if r.broken then 32767 else r.value.getD unread)

/-- DIE_TEMP: the highest good reading of the die. -/
def State.dieTemp (s : State) (u : UnitId) : Nat :=
  let rs := (List.range 25).map (s.sensorOf u)
  match rs.filterMap Reading.good? with
  | [] => if rs.all (fun r => r.broken) then 0x7FFF else 0
  | v :: l => leInt 2 (l.foldl max v)

/-- SENSORS_BROKEN. -/
def State.sensorsBroken (s : State) (u : UnitId) : Nat :=
  ((List.range 29).filter (fun i =>
    (if i = 25 then s.sensorOf .A 25 else if i = 26 then s.sensorOf .B 26 else s.sensorOf u i).broken)).foldl
      (fun n i => n + 2 ^ i) 0

/-- LINE_LEVELS of a side (R80). -/
def State.lineLevels (s : State) (u : UnitId) (p : Nat) : Nat :=
  let l := s.getLine (sideKey u p)
  let b := fun (c : Bool) (n : Nat) => if c then n else 0
  b l.flt.level 1 + b l.prs.level 2 + b l.spinOff 4 + b l.pen 8 + b l.token 16 +
  b (l.flt.chatter || l.prs.chatter || l.spin.chatter) 32

/-! ## Numbers by chapter; `none` for an object that is a plain register -/

/-- A measured quantity of the outside world: a free value at each moment (R515, R331). -/
def State.measured (s : State) (key : Nat) : Nat := (Config.measured key s.now).toNat

/-- Management objects 1000h-13FFh. -/
def State.viewBase (s : State) (u : UnitId) (q : Requester) (c sub : Nat) : Option Nat :=
  match c, sub with
  | 0x1000, 0x0A => some (macOf u)
  | 0x1000, 0x0B => some (s.now % 2 ^ 48)
  | 0x1001, 0x02 => some (2 * s.sup.straps.plcaId + 1 + u.code)
  | 0x1001, 0x07 =>
    let t := s.sup.straps
    some (t.plcaId % 64 + (if t.root then 64 else 0) + (if t.unitPref then 128 else 0) + (if t.bootSel then 256 else 0))
  | 0x1001, 0x06 => some (if s.plcaActive s.pair.active then 1 else 0)
  | 0x1003, 0x01 => some (s.getDict s.pair.active.code).timeState
  | 0x1003, 0x02 => some (leInt 8 (s.getDict s.pair.active.code).timeOffset)
  | 0x1003, 0x03 =>
    let d := s.getDict s.pair.active.code
    some (if d.timeState = 0 then 0 else leInt 8 ((1000 * s.now : Nat) + d.timeOffset))
  | 0x1010, 0x00 =>
    some (if [UnitId.A, UnitId.B].any (fun v => !(s.getSet v.code).staged.isEmpty || !(s.getSet v.code).held.isEmpty) then 1 else 0)
  | 0x1020, 0x02 => some (if (s.getDict u.code).lockedOut q s.now then 2 else if s.session u q then 1 else 0)
  | 0x1100, 0x00 => some s.mode.cur.code
  | 0x1100, 0x01 => some s.mode.prev.code
  | 0x1100, 0x02 => some s.mode.cause.code
  | 0x1100, 0x03 => some (s.mode.entryTime % 2 ^ 48)
  | 0x1100, 0x05 => some (if s.mode.cur = .drain then s.mode.purpose.code else 0)
  | 0x1103, 0x05 => some s.readReadyPorts
  | 0x1110, 0x05 => some s.casc.held.length
  | 0x1110, 0x06 => some (if s.casc.role = .root then s.casc.ledger.length else 0)
  | 0x1130, 0x02 => 
    some (if s.pair.peer = .absent then 0
      else if s.peerReady then (s.measured Obj.PEER_REF_OFFSET % 201 + 4294967196) % 4294967296 else s.measured Obj.PEER_REF_OFFSET)
  | 0x1200, 0x02 => some u.code
  | 0x1200, 0x03 => some s.pair.active.code
  | 0x1200, 0x04 => some s.pair.peer.code
  | 0x1200, 0x0A =>
    some (min 255 ((s.unitSt s.pair.active.other).releases.filter (fun t => decide (s.now < t + day))).length)
  | 0x1202, 0x00 => some s.pair.mirror.code
  | 0x1300, 0x02 => some s.cmds.length
  | 0x1300, 0x05 => some ((s.bufferBytes + 1048575) / 1048576)
  | 0x1301, n =>
    let v : UnitId := if n % 2 = 0 then .A else .B
    let k := s.getCtrl v.code
    match n / 2 with
    | 0 => some (if !k.linkUp then 0 else if k.ccEn && k.rdy then 2 else 1)
    | 1 => some (k.sqs.filter (fun x => x.qid != 0)).length
    | 3 => some (if v = s.pair.active then 0 else (s.cmds.filter (fun (x : HostCmd) => x.tag.ctrl = v)).length)
    | _ => none
  | 0x1400, 0x02 => some s.casc.role.code
  | 0x1400, 0x03 => some (s.casc.number.getD 255)
  | 0x1400, 0x04 => some (s.casc.depth.getD 255)
  | 0x1400, 0x05 => some (if s.casc.role = .root then (s.casc.table.filter (fun e => e.2.used)).length else 0)
  | 0x1401, n => if n < 6 then some (s.link (if n < 3 then .A else .B) (n % 3)).st.code else none
  | _, _ => none

/-- Object-service objects 2000h-201Fh. -/
def State.viewOs (s : State) (c i sub : Nat) : Option Nat :=
  match c, sub with
  | 0x2000, 0x00 => some s.os.mode.code
  | 0x2000, 0x03 => some s.healthy
  | 0x2000, 0x04 => some s.width
  | 0x2001, 0x00 => some (4096 * (s.activeMembers.map Member.positions).sum)
  | 0x2001, 0x01 => some ((List.range 16).map s.userBytes).sum
  | 0x2001, 0x02 => some (4096 * s.liveMedia)
  | 0x2001, 0x03 => some (4096 * s.deadMedia)
  | 0x2001, 0x04 => some (4096 * s.freePositions)
  | 0x2001, 0x05 => some (4096 * s.projected)
  | 0x2001, 0x06 => some s.limitBytes
  | 0x2002, 0x00 => some s.rebuildState
  | 0x2002, 0x01 => some s.degradedSoruses.length
  | 0x2002, 0x02 => some (s.degradedSoruses.filter (fun x => x.margin == 0)).length
  | 0x2004, 0x02 => some s.journalUse
  | 0x2010, 0x00 => some (mapGet (fun _ => 0) s.os.nsState (i - 0x2010))
  | _, _ => none

/-- Port objects 3000h-3FFFh: port p, actuator a, by canonical index. -/
def State.viewPort (s : State) (u : UnitId) (c p a sub : Nat) : Option Nat :=
  let t := s.getPort p
  let k := chanKey p a
  match c, sub with
  | 0x3000, 0x00 => some t.state.code
  | 0x3000, 0x02 => some t.cause.code
  | 0x3000, 0x03 => some (t.entryTime % 2 ^ 48)
  | 0x3010, 0x00 => some (s.rd (Obj.LANES_IN_SERVICE s.pair.active p))
  | 0x3010, 0x06 => some (s.ctSt p).code
  | 0x3011, n => some (s.rd (Obj.LANE_BLOCK_ERRORS s.pair.active p n))
  | 0x3020, 0x00 => some (s.getSpd p).st.code
  | 0x3020, 0x05 => some (s.getSpd p).duty
  | 0x3030, 0x00 => some (s.getSrv k).st.code
  | 0x3030, 0x02 =>
    let st := (s.getSrv k).st
    some ((if st.outerClosed then 1 else 0) + (if st.innerClosed then 2 else 0))
  | 0x3030, 0x03 => some (s.getSrv k).head
  | 0x3030, 0x04 => some (leInt 4 ((s.getSrv k).pc / 65536))
  | 0x3030, 0x05 => some (leInt 4 (s.getSrv k).e)
  | 0x3030, 0x06 => some (s.getSrv k).track
  | 0x3030, 0x07 => some (s.getSrv k).tHead
  | 0x3031, 0x04 => some (s.getSrv k).outerBank
  | 0x3031, 0x05 => some (s.getSrv k).innerBank
  | 0x3050, 0x04 => some ((s.getChan k).activeSet.getD 0)
  | 0x3054, 0x02 => some (s.getChan k).hold.code
  | 0x3060, 0x00 => some ((s.getHda (sideKey u p)).r.shown 32767)
  | 0x3060, 0x01 => some (if s.pair.peer = .absent then 0x7FFF else (s.getHda (sideKey u.other p)).r.shown 32767)
  | 0x3060, 0x02 => some (s.getHda (sideKey u p)).r.band.code
  | 0x3060, 0x03 => some (s.getHda (sideKey u p)).r.cause
  | 0x3070, 0x01 => some (s.getLine (sideKey u p)).driven.code
  | 0x3070, 0x02 => some (match (s.getLine (sideKey u p)).readback with | some x => x.code | none => 0xFF)
  | 0x3070, 0x03 => some (s.lineLevels u p)
  | 0x3070, 0x04 => some (if s.pair.peer = .absent then 0 else s.lineLevels u.other p)
  | 0x3070, 0x05 => some (s.rd (Obj.CHATTER_COUNT s.pair.active p))
  | 0x3070, 0x06 =>
    let f := (s.getLine (sideKey s.pair.active p)).flt
    some (if f.level then min 0xFFFFFFFF (s.now - f.since) else 0)
  | _, _ => none

/-- Engines with no job (R422): bit e for engine e, compressors first. -/
def State.enginesIdle (s : State) (u : UnitId) : Nat :=
  ((List.range 16).filter (fun e => s.rd (Obj.RING_HEAD u e) = s.rd (Obj.RING_TAIL u e))).foldl (fun n e => n + 2 ^ e) 0

/-- Unit objects 4000h-4FFFh. -/
def State.viewUnit (s : State) (u : UnitId) (c i sub : Nat) : Option Nat :=
  match c, sub with
  | 0x4000, 0x02 => some (s.getBuf u.code).state.code
  | 0x4000, 0x03 => some (s.bufBand u).code
  | 0x4000, 0x04 => some (match s.bufBand u with | .cold | .normal => 1 | .warm => 2 | .hot | .critical => 4)
  | 0x4100, 0x02 => some (s.getCache u.code).state.code
  | 0x4200, 0x02 => some (s.jfState u)
  | 0x4300, 0x00 => some (s.getFab u.code).powered
  | 0x4300, 0x02 => some (s.getFab u.code).result
  | 0x4320, n =>
    let d := s.getDma (32 * u.code + (i - 0x4320))
    match n with
    | 4 => some d.code
    | 6 => some (min 0xFFFFFFFF d.remain)
    | 7 => some d.cur
    | 9 => some d.credits
    | _ => none
  | 0x4400, 0x00 => some (s.enginesIdle u)
  | 0x4500, 0x00 => some (s.mc.version false)
  | 0x4500, 0x01 => some (s.mc.version true)
  | 0x4500, 0x02 => some s.mc.source.code
  | 0x4500, 0x04 => some s.mc.result
  | 0x4540, 0x02 => some (s.getSeq (64 * u.code + (i - 0x4540))).pc.toNat
  | 0x4540, 0x03 => some (s.getSeq (64 * u.code + (i - 0x4540))).state.code
  | _, _ => none

/-- The share of the recorder's ring in use, in percent (5200h.07). -/
def ErSt.use (e : ErSt) : Nat := (openDiv ((100 * e.ring.length : Nat) : Int) 32768).toNat

/-- MON_STATE (R588). -/
def State.monState (s : State) (u : UnitId) (q : Requester) : Nat :=
  if s.monDisabled then 0
  else if q = .monitor then 2
  else if s.rd (Obj.MON_LOCK u) = 1 && !s.session u .monitor then 3
  else 1

/-- Supply, thermal, recorder, fuse and window objects. -/
def State.viewSup (s : State) (u : UnitId) (q : Requester) (c i sub : Nat) : Option Nat :=
  let e := s.getEr u.code
  match c, sub with
  | 0x5000, 0x02 => some (s.measured (Obj.VIN12_MV u) % 65536)
  | 0x5000, 0x03 => some (s.measured (Obj.VAUX3_MV u) % 65536)
  | 0x5000, 0x04 => some (s.measured (Obj.HOLD_MV u) % 65536)
  | 0x5000, 0x05 => some (s.measured (Obj.VCORE_MV u) % 65536)
  | 0x5000, 0x07 => some (s.measured (Obj.INPUT_POWER u))
  | 0x5000, 0x0A => some s.sup.hold.code
  | 0x5001, 0x00 => some (s.dieTemp u)
  | 0x5001, 0x01 => some (s.dieBand u).code
  | 0x5001, 0x02 => some ((s.sensorOf u 24).shown 0)
  | 0x5001, 0x04 => some ((s.sensorOf .A 25).shown 0)
  | 0x5001, 0x05 => some ((s.sensorOf .B 26).shown 0)
  | 0x5001, 0x06 => some s.boardBand.code
  | 0x5001, 0x07 => some (s.sensorsBroken u)
  | 0x5001, 0x0A => some (s.paceThreshold u)
  | 0x5200, 0x02 => some e.oldest
  | 0x5200, 0x03 => some (e.next - 1)
  | 0x5200, 0x06 => some e.readResult
  | 0x5200, 0x07 => some e.use
  | 0x5210, 0x02 => some e.clearResult
  | 0x5F00, 0x00 => some (if (s.getFuse u.code).mondis then 1 else 0)
  | 0x5F00, 0x03 => some (s.minSvn u)
  | 0x5F00, 0x06 =>
    let f := s.getFuse u.code
    some ((if f.mgmtKey.isSome then 1 else 0) + (if f.erKey.isSome then 2 else 0))
  | 0x5F00, 0x07 => some macBase
  | 0x5F08, 0x00 => some (s.monState u q)
  | 0x8000, 0x02 => some (s.getRaw (chanKey (i / 16 % 16) (i % 16))).code
  | _, _ => none

/-- Port and actuator of an index of a port family (R79, R120, R154, R244). -/
def portOf (i : Nat) : Nat := i / 256 % 16
def actOf (i : Nat) : Nat :=
  let o := i % 256
  if (0x40 ≤ o && o ≤ 0x45) || (0x58 ≤ o && o ≤ 0x5F) then 1 else 0

/-- The value of a numeric object. -/
def State.number (s : State) (u : UnitId) (q : Requester) (r : ObjRow) (i sub : Nat) : Nat :=
  let c := r.idx
  let v :=
    if c < 0x2000 then s.viewBase u q c sub
    else if c < 0x3000 then s.viewOs c i sub
    else if c < 0x4000 then s.viewPort u c (portOf i) (actOf i) sub
    else if c < 0x5000 then s.viewUnit u c i sub
    else s.viewSup u q c i sub
  v.getD (s.rd (objKey u i sub r))

/-! ## Byte strings -/

/-- The bytes of a module of MODULE_TABLE (R465). -/
def TreeModule.image (m : TreeModule) : List Byte :=
  if !m.used then List.replicate 32 0
  else padTo 20 m.serial ++ leBytes 1 m.parent ++ leBytes 1 m.port ++ leBytes 1 m.depth ++ leBytes 1 (if m.reachable then 1 else 2) ++
    List.replicate 8 0

/-- One remap entry (R371). -/
def RemapEntry.image (e : RemapEntry) : List Byte :=
  leBytes 4 ((if e.valid then 2 ^ 31 else 0) + (if e.retired then 2 ^ 30 else 0) + e.group % 2 ^ 24)

/-- The bytes of an STR or DOMAIN object of management, service and cascade. -/
def State.bytesBase (s : State) (c i sub : Nat) : Option (List Byte) :=
  match c, sub with
  | 0x1000, 0x00 => some (ascii "Keindarn Microsystems")
  | 0x1000, 0x01 => some (ascii "TR1664")
  | 0x1000, 0x03 => some (ascii (if Config.orderingFused then "TR1664-F" else "TR1664-S"))
  | 0x1000, 0x04 => some (ascii "A1")
  | 0x1000, 0x05 => some (Config.moduleSerial.take 20)
  | 0x1105, 0x00 => some ((s.getFw s.pair.active.code).recovery.getD [])
  | 0x1402, 0x00 => some ((List.range 64).flatMap (fun m =>
      if s.casc.role = .root then (mapGet (fun _ => {}) s.casc.table m).image else List.replicate 32 0))
  | 0x1403, 0x00 => some ((List.range 64).flatMap (fun m => leBytes 1 (mapGet (fun _ => 0xFF) s.casc.routes m)))
  | 0x2005, n => some (mapGet (fun _ => {}) s.os.members n).image
  | _, _ => let _ := i; none

/-- The bytes of the DOMAIN objects of a port and of the raw windows. -/
def State.bytesPort (s : State) (c p a sub : Nat) : Option (List Byte) :=
  let ch := s.getChan (chanKey p a)
  match c, sub with
  | 0x3031, n => if n < 4 then some (s.bank p a (n < 2) (n % 2)) else none
  | 0x3034, 0x05 => some (padTo 1060 (s.rdBlob (Obj.LIN_TABLE p a)))
  | 0x3034, 0x06 => some (match s.rdBlob (Obj.HEATER_TABLE p a) with | [] => defaultHeaters | b => b)
  | 0x3052, 0x00 => some ((List.range 512).flatMap ch.set)
  | 0x3057, 0x00 => some ((List.range 512).flatMap ch.zone)
  | 0x3057, 0x01 => some ((List.range 512).flatMap ch.precompOf)
  | 0x3057, 0x02 => some ((List.range 64).flatMap ch.presetOf)
  | 0x3057, 0x05 => some ((List.range 16).flatMap (fun h => leBytes 4 (mapGet (fun _ => 0) ch.indexPhase h)))
  | 0x8000, 0x00 => some (padTo 12 (s.rdBlob (Obj.RAW_TARGET p a)))
  | 0x8000, 0x03 => some (padTo (4112 * (s.rawTargetOf p a).count) (s.rdBlob (Obj.RAW_DATA p a)))
  | 0x8000, 0x04 => some (padTo (8 * (s.rawTargetOf p a).count) (s.rdBlob (Obj.RAW_RESULT p a)))
  | _, _ => none

/-- The bytes of the DOMAIN objects of a unit. -/
def State.bytesUnit (s : State) (u : UnitId) (c sub : Nat) : Option (List Byte) :=
  let b := s.getBuf u.code
  let j := s.getJf u.code
  match c, sub with
  | 0x4001, 0x00 => some (padTo 768 ((b.log.take 32).flatMap LogEntry.image))
  | 0x4002, 0x00 => some ((List.range 512).flatMap (fun n => (mapGet (fun _ => {}) b.remap n).image))
  | 0x4003, 0x05 => some b.scrub.image
  | 0x4201, 0x02 => some (padTo 256 (s.rdBlob (Obj.JF_DATA u)))
  | 0x4202, 0x00 => some ((List.range 4096).flatMap (fun k => leBytes 4 (j.row k).count))
  | 0x4202, 0x01 => some ((List.range 4000).flatMap (fun l => leBytes 2 (j.phys l)))
  | 0x4202, 0x02 => some ((List.range 4096).flatMap (fun k => leBytes 1 (j.row k).state))
  | 0x4501, 0x00 => some (padTo 41280 s.mc.stage)
  | 0x5001, 0x03 => some ((List.range 24).flatMap (fun n => leBytes 2 ((s.sensorOf u n).shown 0)))
  | 0x5F00, 0x02 => some (padTo 48 Config.fwKeyHash)
  | 0x5F00, 0x04 => some (List.replicate 32 0)
  | 0x5F00, 0x05 => some (List.replicate 32 0)
  | 0x5F01, 0x00 => some ((List.range 22).flatMap (fun n => leBytes 4 (Config.paceRequired (32 * u.code + n) % 2 ^ 32)))
  | 0x5F01, 0x01 => some ((List.range 48).flatMap (fun n => leBytes 2 (leInt 2 (Config.sensorCal (64 * u.code + n)))))
  | _, _ => none

/-- The bytes of an object as a read returns them (R560). -/
def State.objBytes (s : State) (u : UnitId) (q : Requester) (r : ObjRow) (i sub : Nat) : List Byte :=
  if r.ty.numeric then leBytes r.ty.size (s.number u q r i sub)
  else
    let c := r.idx
    let b :=
      if c < 0x3000 then s.bytesBase c i sub
      else if c < 0x4000 then s.bytesPort c (portOf i) (actOf i) sub
      else if c = 0x8000 then s.bytesPort c (i / 16 % 16) (i % 16) sub
      else s.bytesUnit u c sub
    b.getD (s.rdBlob (objKey u i sub r))

/-- The bytes of an object that exists, for the monitor's own lines (R586). -/
def State.liveBytes (s : State) (u : UnitId) (i sub : Nat) : List Byte :=
  match objLookup i sub with
  | some (some r) => s.objBytes u .monitor r i sub
  | _ => []

end Sys2Proof.Machine
end

