-- ==== Sys2Proof/Machine/Register.lean ====
section
/-! DEFINITION. Reads and writes of any object of the dictionary (R561-R564): a write of an object with a command of its own is that
command; the rules and effects of every other object are here. -/

namespace Sys2Proof.Machine

/-- The state a meaning answers with. -/
def nextOf (s : State) : Host.Outcome State Fault Refusal → State
  | .next t => t
  | _ => s

/-! ## Reads -/

/-- A read of an object (R561, R563). -/
def State.dictRead (s : State) (q : Requester) (u : UnitId) (i sub : Nat) : State :=
  match i, sub with
  | 0x1020, 0x00 => s.authChallenge q u
  | 0x5200, 0x05 => s.erRead q u
  | 0x5210, 0x00 => s.erChallenge q u
  | 0x9000, 0x01 => nextOf s (execBufWinDataAccess q u none s)
  | _, _ =>
    let e := s.readErr i sub q
    if e ≠ 0 then s.answer q e
    else
      match objLookup i sub with
      | some (some r) => s.answer q 0 (s.objBytes u q r i sub)
      | _ => s.answer q 0x02

/-! ## Rules of objects that have no command of their own (R561 steps 7 and 8) -/

/-- Bit positions in which two values differ, of n bits. -/
def bitDistance (n a b : Nat) : Nat := ((List.range n).filter (fun k => a.testBit k != b.testBit k)).length

/-- The part of 0.8 × HARNESS_TRIP that a surge takes fits (R500), in W. -/
def harnessFits (surge trip : Nat) : Bool := 10 * (surge + 8) ≤ 8 * trip && 360 ≤ 8 * trip

/-- The rule of an object of the port chapters (R130, R138). -/
def State.rulePort (v c sub : Nat) (data : List Byte) : Nat :=
  match c, sub with
  | 0x3055, 0x00 =>
    if [0xCCCCCCCC, 0x66666666, 0x33333333, 0x99999999].all (fun x => 12 ≤ bitDistance 32 v x) then 0 else 0x09
  | 0x3055, 0x02 => if [0xCCCC, 0x6666, 0x3333, 0x9999].all (fun x => 6 ≤ bitDistance 16 v x) then 0 else 0x09
  | 0x3034, 0x00 => if 5 ≤ bitDistance 12 v 0xFFF then 0 else 0x09
  | 0x3057, 0x01 => if data.all (fun b => decide (-16 ≤ b.toInt) && decide (b.toInt ≤ 16)) then 0 else 0x07
  | _, _ => 0

/-- The rule of an object of the other chapters. -/
def State.ruleUnit (s : State) (u : UnitId) (v c i sub : Nat) (data : List Byte) : Nat :=
  match c, sub with
  | 0x2010, 0x02 => if 3 < v then 0x07 else if s.os.nsStateOf (i - 0x2010) ≠ 0 then 0x09 else 0
  | 0x2010, 0x03 => if 2 < v then 0x07 else 0
  | 0x2000, 0x06 => if 1 < v then 0x07 else 0
  | 0x1110, 0x01 => if [UnitId.A, UnitId.B].all (fun w => harnessFits v (s.rd (Obj.HARNESS_TRIP w))) then 0 else 0x09
  | 0x5000, 0x0E => if harnessFits (s.rd Obj.SPINDLE_SURGE) v then 0 else 0x09
  | 0x5100, 0x00 => if v = 1 && !graveKind (i - 0x5100) then 0x09 else 0
  | 0x4100, 0x07 =>
    if 5461 < v + s.rd (Obj.WINDOW_SIZE u) then 0x07 else if (s.getCache u.code).state = .disabled then 0 else 0x09
  | 0x4100, 0x08 =>
    if v < 16 || 5461 < v + s.rd (Obj.WINDOW_BASE u) then 0x07 else if (s.getCache u.code).state = .disabled then 0 else 0x09
  | 0x9000, 0x00 => if v % 64 = 0 then 0 else 0x07
  | 0x4540, 0x07 => if (leBytes 4 v).all (fun b => b.toNat < 32 || b == 0xFF) then 0 else 0x07
  | 0x8000, 0x00 => if (rawTarget data).inRange then 0 else 0x07
  | 0x8000, 0x03 => if data.length = 4112 * (s.rawTargetOf (i / 16 % 16) (i % 16)).count then 0 else 0x08
  | _, _ => 0

/-- The part of a value that a Dictionary Read or a segmented read takes (R561, R575, R581): a byte range of a DOMAIN, the whole of any other object. The error
and the bytes. -/
def readPart (i sub off len : Nat) (data : List Byte) : Nat × List Byte :=
  let domain := match objLookup i sub with
    | some (some r) => (match r.ty with | .domain _ _ => true | _ => false)
    | _ => false
  if off ≠ 0 && !domain then (0x0F, [])
  else if data.length < off then (0x07, [])
  else if !domain && len < data.length then (0x08, [])
  else (0, (data.drop off).take len)

/-! ## Effects of plain objects -/

/-- A table cut into entries of n bytes. -/
def tableInto (m : Map (List Byte)) (dflt : Nat → List Byte) (n count : Nat) (data : List Byte) : Map (List Byte) :=
  (List.range count).foldl (fun m k => mapPut dflt m k ((data.drop (n * k)).take n)) m

/-- A DOMAIN object written (R104, R121, R124, R138, R139). -/
def State.domainDo (s : State) (k : Nat) (r : ObjRow) (p a : Nat) (c sub : Nat) (data : List Byte) : State :=
  let ch := chanKey p a
  match c, sub with
  | 0x3052, 0x00 => s.modChan ch (fun x => { x with sets := tableInto x.sets (fun _ => withCrc defaultSetBody) 256 512 data })
  | 0x3057, 0x00 =>
    let s := s.modChan ch (fun x => { x with zones := tableInto x.zones (fun _ => withCrc defaultZoneBody) 32 512 data })
    if (s.getChan ch).zones.any (fun e => fldU e.2 4 4 ≠ 0 && s.zoneBad p e.2) then s.raise (.wr p a) [.WR_TABLE_ERR] else s
  | 0x3057, 0x01 => s.modChan ch (fun x => { x with precomp := tableInto x.precomp (fun _ => List.replicate 8 0) 8 512 data })
  | 0x3057, 0x02 => s.modChan ch (fun x => { x with presets := tableInto x.presets defaultPreset 4 64 data })
  | _, _ => let s := s.wrBlob k data; if r.pers then s.stage k else s

/-- A numeric object written, with what follows from its new value. -/
def State.numberDo (s : State) (u : UnitId) (k : Nat) (r : ObjRow) (v c i sub : Nat) : State :=
  match c, sub with
  | 0x3051, 0x03 => s.save k ((v ||| 0x41) &&& 0x7F)
  | 0x4320, 0x03 => s.wr k (v ||| 0x80)
  | 0x3070, 0x00 => let s := s.save k v; s.spinDrive (portOf i) (s.spinFor (portOf i))
  | 0x1110, _ => (s.store k v).serve
  | _, _ => let _ := u; if r.pers then s.save k v else s.wr k v

/-- A write of an object that has no command of its own. -/
def State.plainWrite (s : State) (q : Requester) (u : UnitId) (r : ObjRow) (i sub : Nat) (data : List Byte) : State :=
  let v := leNat data
  let own := if r.idx / 4096 = 3 then State.rulePort v r.idx sub data else s.ruleUnit u v r.idx i sub data
  s.tryWrite q u i sub data own (fun s =>
    let k := objKey u i sub r
    if r.ty.numeric then s.numberDo u k r v r.idx i sub else s.domainDo k r (portOf i) (actOf i) r.idx sub data)

/-! ## Objects whose writes are commands of their own -/

/-- Restored values take effect as a write of them would (R569). -/
def State.restoreEffects (s : State) : State :=
  let s := s.forEach (List.range 16) (fun s p => s.spinDrive p (s.spinFor p))
  ((s.rpmTake.wayEnable .A 0xFFFF).wayEnable .B 0xFFFF).serve

/-- RESTORE_DEFAULTS (R569). -/
def execRestoreDefaults (q : Requester) (u : UnitId) (v : BitVec 8) (s : State) : Host.Outcome State Fault Refusal :=
  State.conclude (s.tryKey q u Obj.RESTORE_DEFAULTS (leBytes 1 v.toNat) (if v = 0x5A then 0 else 0x07)
    (fun s => s.restoreDefaults.restoreEffects))

/-- Base objects, 1000h-1FFFh. -/
def State.cmdBase (s : State) (q : Requester) (u : UnitId) (c sub v : Nat) (d : List Byte) :
    Option (Host.Outcome State Fault Refusal) :=
  match c, sub with
  | 0x1001, 0x00 => some (execKdapEthertypeWrite q u (BitVec.ofNat 16 v) s)
  | 0x1010, 0x02 => some (execRestoreDefaults q u (BitVec.ofNat 8 v) s)
  | 0x1020, 0x01 => some (execAuthResponseWrite q u d s)
  | 0x1020, 0x04 => some (execAuthClose q u (BitVec.ofNat 8 v) s)
  | 0x1101, 0x00 => some (execRequestedModeWrite q u (BitVec.ofNat 8 v) s)
  | 0x1105, 0x00 => some (execFwRecoveryStageWrite q u d s)
  | 0x1130, 0x00 => some (execSweepRpmWrite q u (BitVec.ofNat 16 v) s)
  | 0x1201, 0x09 => some (if v = 1 then execPlannedSwitchover q u s else execRejoinAttempt q u s)
  | _, _ => none

/-- Object-service and port objects, 2000h-3FFFh. -/
def State.cmdPort (s : State) (q : Requester) (u : UnitId) (c i sub v : Nat) (d : List Byte) :
    Option (Host.Outcome State Fault Refusal) :=
  let p : PortId := Fin.ofNat 16 (portOf i)
  let a : ActId := Fin.ofNat 2 (actOf i)
  match c, sub with
  | 0x2010, 0x01 =>
    let n := Fin.ofNat 16 (i - 0x2010)
    some (if v = 1 then execNsCreate q u n s else execNsDelete q u n s)
  | 0x3000, 0x01 => some (if v = 1 then execOffline q u p s else if v = 2 then execOnline q u p s else execRetry q u p s)
  | 0x3030, 0x01 => some (if v = 1 then execActLoad q u p a s else if v = 2 then execActUnload q u p a s else execActRetract q u p a s)
  | 0x3031, 0x06 => some (execBankSwap q u p a (BitVec.ofNat 8 v) s)
  | 0x3031, n => if n < 4 then some (execBankWrite q u p a (Fin.ofNat 4 n) d s) else none
  | _, _ => none

/-- Buffer and cache objects, 4000h-41FFh. -/
def State.cmdBuf (s : State) (q : Requester) (u : UnitId) (c sub v : Nat) : Option (Host.Outcome State Fault Refusal) :=
  match c, sub with
  | 0x4001, 0x02 => some (execLogClear q u (BitVec.ofNat 8 v) s)
  | 0x4002, 0x01 => some (execRemapRequest q u (BitVec.ofNat 32 v) s)
  | 0x4003, 0x02 => some (if v = 1 then execScrubStart q u s else execScrubStop q u s)
  | 0x4004, 0x00 => some (execFlipModeWrite q u (BitVec.ofNat 8 v) s)
  | 0x4100, 0x03 => some (if v = 1 then execCacheEnable q u s else execCacheDisable q u s)
  | 0x4100, 0x04 => some (execWayEnableWrite q u (BitVec.ofNat 16 v) s)
  | _, _ => none

/-- A journal flash command written to JF_CMD, with JF_ADDR and JF_DATA as they stand (R543, R557); another opcode is refused with
REFUSED_ADDR. -/
def State.jfCommand (s : State) (u : UnitId) (op : Nat) : State :=
  let addr := BitVec.ofNat 32 (s.rd (Obj.JF_ADDR u))
  let d := padTo 256 (s.rdBlob (Obj.JF_DATA u))
  let i := JfIface.management
  match op with
  | 1 => let (n, s) := s.next; nextOf s (execReadPage u i addr (Config.pageErrors n) s)
  | 2 => nextOf s (execProgramPage u i addr d s)
  | 3 => nextOf s (execEraseBlock u i addr s)
  | 4 => nextOf s (execEraseSuspend u i addr s)
  | 5 => nextOf s (execEraseResume u i addr s)
  | 6 => nextOf s (execReadStatus u i addr s)
  | 7 => nextOf s (execBlankCheck u i addr s)
  | 8 => nextOf s (execReadStateRow u i addr s)
  | 9 => nextOf s (execRetireBlock u i addr s)
  | 10 => nextOf s (execMoveMap u i addr (BitVec.ofNat 16 (leNat (d.take 2))) s)
  | _ => s.jfAnswer u i ((s.getJf u.code).word op none (swRefusedAddr ||| swDone))

/-- A write of JF_CMD (R557). -/
def State.jfWrite (s : State) (q : Requester) (u : UnitId) (v : Nat) : State :=
  s.tryKey q u (Obj.JF_CMD u) [BitVec.ofNat 8 v] 0 (fun s => s.jfCommand u v)

/-- A power request of a domain (R397): the domain in bits 2-0, bit 7 for up. -/
def State.domainWrite (s : State) (q : Requester) (u : UnitId) (v : Nat) : Host.Outcome State Fault Refusal :=
  if h : v % 128 < 7 then
    if v < 128 then execDomainPowerDown q u ⟨v % 128, h⟩ s else execDomainPowerUp q u ⟨v % 128, h⟩ s
  else .next (s.answer q 0x07)

/-- Fabric and sequencer objects, 4200h-4FFFh. -/
def State.cmdFabric (s : State) (q : Requester) (u : UnitId) (c i sub v : Nat) (d : List Byte) :
    Option (Host.Outcome State Fault Refusal) :=
  match c, sub with
  | 0x4201, 0x00 => some (.next (s.jfWrite q u v))
  | 0x4300, 0x01 => some (s.domainWrite q u v)
  | 0x4300, 0x03 => some (execEvFire q u (BitVec.ofNat 8 v) s)
  | 0x4301, n => some (execTimerWrite q u (Fin.ofNat 9 n) (BitVec.ofNat 32 v) s)
  | 0x4320, 0x00 =>
    let n := Fin.ofNat 32 (i - 0x4320)
    some (if v = 1 then execChArm q u n [] s else execChStop q u n s)
  | 0x4410, 0x02 => some (execRingBaseWrite q u (Fin.ofNat 16 (i - 0x4410)) (BitVec.ofNat 64 v) s)
  | 0x4410, 0x03 => some (execRingTailWrite q u (Fin.ofNat 16 (i - 0x4410)) (BitVec.ofNat 8 v) s)
  | 0x4500, 0x03 =>
    some (match v with
      | 1 => execMcVerify q u s
      | 2 => execMcLoad q u s
      | 3 => execMcPersist q u s
      | _ => execMcRevert q u s)
  | 0x4501, 0x00 => some (execMcStageWrite q u d s)
  | _, _ => none

/-- Supply, recorder and fuse objects and the raw windows, 5000h up. The verification of a fuse array is a free value here. -/
def State.cmdSup (s : State) (q : Requester) (u : UnitId) (c i sub v : Nat) (d : List Byte) :
    Option (Host.Outcome State Fault Refusal) :=
  let okA := Config.fuseVerifies s.fresh
  let okB := Config.fuseVerifies (s.fresh + 1)
  let t := s.next.2.next.2
  match c, sub with
  | 0x5000, 0x06 => some (execVcoreSetWrite q u (BitVec.ofNat 16 v) s)
  | 0x5210, 0x01 => some (execErClearResponseWrite q u d s)
  | 0x5F00, 0x01 => some (execMondisBlow q u (BitVec.ofNat 8 v) okA okB t)
  | 0x5F00, 0x03 => some (execFwMinSvnWrite q u (BitVec.ofNat 32 v) okA okB t)
  | 0x5F00, 0x04 => some (execMgmtKeyWrite q u d okA okB t)
  | 0x5F00, 0x05 => some (execErKeyWrite q u d okA okB t)
  | 0x8000, 0x01 => some (execRawCommand q u (Fin.ofNat 16 (i / 16 % 16)) (Fin.ofNat 2 (i % 16)) (BitVec.ofNat 8 v) s)
  | 0x9000, 0x01 => some (execBufWinDataAccess q u (some d) s)
  | _, _ => none

/-- The command that a write of an object is, if it has one. -/
def State.cmdWrite (s : State) (q : Requester) (u : UnitId) (c i sub : Nat) (d : List Byte) : Option (Host.Outcome State Fault Refusal) :=
  let v := leNat d
  if (siteAt u i sub).isSome then some (execStatusClear q u i sub (BitVec.ofNat 16 v) s)
  else if c < 0x2000 then s.cmdBase q u c sub v d
  else if c < 0x4000 then s.cmdPort q u c i sub v d
  else if c < 0x4200 then s.cmdBuf q u c sub v
  else if c < 0x5000 then s.cmdFabric q u c i sub v d
  else s.cmdSup q u c i sub v d

/-- Objects whose own commands answer a refusal of R561 themselves: MC_COMMAND and MC_STAGE outside Maintenance (R176), and MGMT_KEY
before it is provisioned (R590). -/
def ownRefusal (c sub e : Nat) : Bool :=
  (c == 0x4500 && sub == 3 && e == 5) || (c == 0x4501 && sub == 0 && e == 5) || (c == 0x5F00 && sub == 4 && e == 6)

/-- A write of any object (R561-R564). -/
def State.dictWrite (s : State) (q : Requester) (u : UnitId) (i sub : Nat) (data : List Byte) : State :=
  s.hold (.write q u i sub data) fun s =>
  let e := s.writeErr u i sub q data
  match objLookup i sub with
  | some (some r) =>
    if e ≠ 0 && !ownRefusal r.idx sub e then s.answer q e
    else
      match s.cmdWrite q u r.idx i sub data with
      | some o => nextOf s o
      | none => s.plainWrite q u r i sub data
  | _ => s.answer q e

/-- REGISTER_WRITE (R561). -/
def execRegisterWrite (q : Requester) (u : UnitId) (index : Nat) (sub : Nat) (data : List Byte) (s : State) :
    Host.Outcome State Fault Refusal := State.conclude (s.dictWrite q u index sub data)

end Sys2Proof.Machine
end

