-- ==== Sys2Proof/Machine/Kdap.lean ====
section
/-! DEFINITION. The management network: KDAP exchanges, segmented transfers, discovery, heartbeats and time
(R570-R580). -/

namespace Sys2Proof.Machine

/-! ## Frames in and out (R571-R574) -/

/-- A frame sent by a unit, counted. -/
def State.kdapSend (s : State) (f : KdapOut) : State :=
  ({ s with kdapTx := f :: s.kdapTx }).inc (Obj.KDAP_TX f.unit)

/-- A frame of an exchange: the transaction and object are echoed (R572). -/
def KdapFrame.reply (f : KdapFrame) (u : UnitId) (service param : Nat) (data : List Byte) : KdapOut :=
  { unit := u, dest := f.src, service := service, transId := f.transId, index := f.index, sub := f.sub,
    param := param, data := data }

/-- An abort with an access error code (R573, R574). -/
def State.kdapAbort (s : State) (u : UnitId) (f : KdapFrame) (code : Nat) : State :=
  (s.kdapSend (f.reply u 0x07 code [])).inc (Obj.KDAP_ABORTS u)

/-- A frame taken by a unit (R571): one of another EtherType is not the unit's; one that finds the FIFO of 2 frames full (R13) and a
malformed one are dropped and counted; any other is counted as received and given to the service. Broadcast frames reach a service
only where it says so. -/
def State.kdapTake (s : State) (u : UnitId) (f : KdapFrame) (broadcastOk : Bool) (service : State → State) : State :=
  if !s.kdapUp || f.etherType ≠ s.rd Obj.KDAP_ETHERTYPE || (f.broadcast && !broadcastOk) then s
  else if 2 ≤ f.queued || !f.formed then s.inc (Obj.KDAP_DROPPED u)
  else service (s.inc (Obj.KDAP_RX u))

/-- An exchange with the unit TARGET names: 0Fh when its upper bits are not 0, 0Dh when it cannot be reached. -/
def State.kdapAt (s : State) (u : UnitId) (f : KdapFrame) (service : State → UnitId → State) : State :=
  s.kdapTake u f false (fun s =>
    if 4 ≤ f.target.toNat then s.kdapAbort u f 0x0F
    else match s.kdapTarget u f with | none => s.kdapAbort u f 0x0D | some t => service s t)

/-- The answer just posted taken back: its error code and data, for an interface that frames it itself. -/
def State.takeAnswer (s : State) : State × Nat × List Byte :=
  match s.answers with
  | a :: rest => ({ s with answers := rest }, a.err, a.data)
  | [] => (s, 0, [])

/-- An object of the discovery (R577). -/
def KdapFrame.discovers (f : KdapFrame) : Bool := f.index == 0x1000 && (f.sub == 5 || f.sub == 0x0A)

/-- EXPEDITED_READ (R574): a broadcast one that the discovery of R577 answers is kept until its answer is due, and any other
ignored. -/
def execExpeditedRead (u : UnitId) (f : KdapFrame) (s : State) : Host.Outcome State Fault Refusal :=
  .next (
    if f.broadcast then
      s.kdapTake u f f.discovers (fun s => s.modDict u.code (fun d => { d with found := d.found ++ [(f, s.now)] }))
    else s.hold (.expeditedRead u f) fun s => s.kdapAt u f fun s t =>
      let (s, err, data) := (s.dictRead (.kdap f.src) t f.index f.sub).takeAnswer
      if err ≠ 0 then s.kdapAbort u f err
      else if 1024 < data.length then s.kdapAbort u f 0x08
      else s.kdapSend (f.reply u 0x81 data.length data))

/-- EXPEDITED_WRITE (R574). -/
def execExpeditedWrite (u : UnitId) (f : KdapFrame) (s : State) : Host.Outcome State Fault Refusal :=
  State.conclude (s.hold (.expeditedWrite u f) fun s => s.kdapAt u f fun s t =>
    let (s, err, _) := (s.dictWrite (.kdap f.src) t f.index f.sub f.body).takeAnswer
    if err ≠ 0 then s.kdapAbort u f err else s.kdapSend (f.reply u 0x82 0 []))

/-! ## Segmented transfers (R575, R576) -/

/-- The transfer a frame belongs to. -/
def DictSt.transfer (d : DictSt) (src transId : Nat) : Option Transfer :=
  d.transfers.find? (fun t => t.src == src && t.transId == transId)

/-- The engine without a transfer. -/
def DictSt.endTransfer (d : DictSt) (src transId : Nat) : DictSt :=
  { d with transfers := d.transfers.filter (fun t => !(t.src == src && t.transId == transId)) }

/-- A transfer's record replaced. -/
def DictSt.putTransfer (d : DictSt) (t : Transfer) : DictSt :=
  { d with transfers := t :: (d.endTransfer t.src t.transId).transfers }

/-- Whether a further transfer finds room: at most 4 at once, and at most one for each object (R576). -/
def DictSt.room (d : DictSt) (i sub : Nat) : Bool :=
  decide (d.transfers.length < 4) && !d.transfers.any (fun t => t.index == i && t.sub == sub)

/-- Segments of a transfer, each of 1024 bytes but the last. -/
def Transfer.segments (t : Transfer) : Nat := (t.bytes.length + 1023) / 1024

/-- Segment n of a read transfer sent. -/
def State.sendSegment (s : State) (u : UnitId) (t : Transfer) (n : Nat) : State :=
  s.kdapSend { unit := u, dest := t.src, service := 0x05, transId := t.transId, index := t.index, sub := t.sub,
               param := 1024 * n, seq := n % 256, last := n + 1 == t.segments,
               data := (t.bytes.drop (1024 * n)).take 1024 }

/-- Segments sent from one up to the window of 8 unacknowledged (R575). -/
def State.sendWindow (s : State) (u : UnitId) (t : Transfer) (fromSeg : Nat) : State :=
  let upto := min t.segments (t.inOrder + 8)
  let s := (List.range (upto - fromSeg)).foldl (fun s k => s.sendSegment u t (fromSeg + k)) s
  s.modDict u.code (fun d => d.putTransfer { t with sent := upto, frameAt := s.now, waitFrom := s.now })

/-- An abort sent for a frame's transfer, which ends with it (R576). -/
def State.kdapBreak (s : State) (u : UnitId) (f : KdapFrame) (code : Nat) : State :=
  (s.modDict u.code (fun d => d.endTransfer f.src f.transId)).kdapAbort u f code

/-- SEGMENTED_READ_INITIATE (R575): start offset in PARAM, byte count in the data, 0 for the rest. -/
def execSegmentedReadInitiate (u : UnitId) (f : KdapFrame) (s : State) : Host.Outcome State Fault Refusal :=
  .next (s.hold (.segmentedRead u f) fun s => s.kdapAt u f fun s t =>
    if !(s.getDict u.code).room f.index f.sub then s.kdapAbort u f 0x0A
    else
      let (s, err, data) := (s.dictRead (.kdap f.src) t f.index f.sub).takeAnswer
      if err ≠ 0 then s.kdapAbort u f err
      else
        let n := leNat f.body
        let (e, part) := readPart f.index f.sub f.param (if n = 0 then data.length else n) data
        if e ≠ 0 then s.kdapAbort u f e
        else
        let x : Transfer := { src := f.src, transId := f.transId, index := f.index, sub := f.sub, write := false,
                              total := part.length, bytes := part, tries := 1 }
        let s := s.kdapSend (f.reply u 0x83 part.length [])
        if part.isEmpty then s else s.sendWindow u x 0)

/-- SEGMENTED_WRITE_INITIATE (R575): total length in PARAM. -/
def execSegmentedWriteInitiate (u : UnitId) (f : KdapFrame) (s : State) : Host.Outcome State Fault Refusal :=
  .next (s.hold (.segmentedWrite u f) fun s => s.kdapAt u f fun s _ =>
    if !(s.getDict u.code).room f.index f.sub then s.kdapAbort u f 0x0A
    else
      let x : Transfer := { src := f.src, transId := f.transId, index := f.index, sub := f.sub, write := true,
                            total := f.param, bytes := [], frameAt := s.now }
      (s.modDict u.code (fun d => d.putTransfer x)).kdapSend (f.reply u 0x84 f.param []))

/-- SEGMENT (R575): taken in order and acknowledged after every fourth and after LAST, or discarded with the last
acknowledgement repeated; LAST applies the write as a whole. -/
def execSegment (u : UnitId) (f : KdapFrame) (s : State) : Host.Outcome State Fault Refusal :=
  State.conclude (let run := fun (s : State) => s.kdapAt u f fun s t =>
    match (s.getDict u.code).transfer f.src f.transId with
    | none => s.kdapAbort u f 0x0B
    | some x =>
      if !x.write then s.kdapBreak u f 0x0B
      else if f.seq ≠ x.inOrder % 256 || f.param ≠ 1024 * x.inOrder then
        (s.modDict u.code (fun d => d.putTransfer { x with frameAt := s.now })).kdapSend
          (f.reply u 0x06 (x.inOrder - x.inOrder % 4) [])
      else if (!f.last && f.length ≠ 1024) || f.length = 0 then s.kdapBreak u f 0x0F
      else
        let x := { x with inOrder := x.inOrder + 1, bytes := x.bytes ++ f.body, frameAt := s.now }
        if f.last then
          let s := (s.modDict u.code (fun d => d.endTransfer f.src f.transId)).kdapSend (f.reply u 0x06 x.inOrder [])
          let g := { f with index := x.index, sub := x.sub }
          if x.bytes.length ≠ x.total then s.kdapAbort u g 0x08
          else
            let (s, err, _) := (s.dictWrite (.kdap f.src) t x.index x.sub x.bytes).takeAnswer
            if err ≠ 0 then s.kdapAbort u g err else s.kdapSend (g.reply u 0x82 0 [])
        else
          let s := s.modDict u.code (fun d => d.putTransfer x)
          if x.inOrder % 4 = 0 then s.kdapSend (f.reply u 0x06 x.inOrder []) else s
    if f.last then s.hold (.segment u f) run else run s)

/-- SEGMENT_ACKNOWLEDGE (R575): the count in PARAM frees the window; the last acknowledgement ends the transfer. -/
def execSegmentAcknowledge (u : UnitId) (f : KdapFrame) (s : State) : Host.Outcome State Fault Refusal :=
  .next (s.kdapAt u f fun s _ =>
    match (s.getDict u.code).transfer f.src f.transId with
    | none => s.kdapAbort u f 0x0B
    | some x =>
      if x.write || f.param < x.inOrder || x.sent < f.param then
        s.modDict u.code (fun d => d.putTransfer { x with frameAt := s.now })
      else if x.segments ≤ f.param then s.modDict u.code (fun d => d.endTransfer f.src f.transId)
      else s.sendWindow u { x with inOrder := f.param, tries := 1 } x.sent)

/-- KDAP_ABORT (R576): an abort from the other side ends the transfer at once. -/
def execKdapAbort (u : UnitId) (f : KdapFrame) (s : State) : Host.Outcome State Fault Refusal :=
  .next (s.kdapTake u f false fun s => s.modDict u.code (fun d => d.endTransfer f.src f.transId))

/-- A transfer ended with abort 0Ch (R576). -/
def State.timeoutTransfer (s : State) (u : UnitId) (x : Transfer) : State :=
  ((s.modDict u.code (fun d => d.endTransfer x.src x.transId)).kdapSend
    { unit := u, dest := x.src, service := 0x07, transId := x.transId, index := x.index, sub := x.sub,
      param := 0x0C }).inc (Obj.KDAP_ABORTS u)

/-- KDAP_RETRANSMIT_TIMEOUT (R575): after 50 ms without an acknowledgement the sender sends again from the first unacknowledged
segment; after three sends of the same segments the transfer ends (R576). -/
def execKdapRetransmitTimeout (u : UnitId) (src : Nat) (transId : Nat) (s : State) :
    Host.Outcome State Fault Refusal :=
  .next (match (s.getDict u.code).transfer src transId with
    | none => s
    | some x =>
      if x.write || s.now < x.waitFrom + 50000 then s
      else if 3 ≤ x.tries then s.timeoutTransfer u x
      else s.sendWindow u { x with tries := x.tries + 1 } x.inOrder)

/-- KDAP_TRANSFER_TIMEOUT (R576): 500 ms without a frame of the transfer. -/
def execKdapTransferTimeout (u : UnitId) (src : Nat) (transId : Nat) (s : State) :
    Host.Outcome State Fault Refusal :=
  .next (match (s.getDict u.code).transfer src transId with
    | none => s
    | some x => if s.now < x.frameAt + 500000 then s else s.timeoutTransfer u x)

/-! ## Discovery, heartbeats and time (R570, R577-R580) -/

/-- PLCA_NODE_ID (R570). -/
def State.nodeId (s : State) (u : UnitId) : Nat := 2 * s.sup.straps.plcaId + 1 + u.code

/-- DISCOVERY_ANSWER (R577): a broadcast read of 1000h.05 or 1000h.0A is answered to the requester alone, node ID × 1 ms after it
came. -/
def execDiscoveryAnswer (u : UnitId) (f : KdapFrame) (s : State) : Host.Outcome State Fault Refusal :=
  .next (if s.kdapUp && (s.getDict u.code).found.any (fun e => e.1 == f && decide (e.2 + 1000 * s.nodeId u ≤ s.now)) then
      s.hold (.discovery u f) fun s =>
        let s := s.modDict u.code (fun d => { d with found := d.found.filter (fun e => e.1 != f) })
        let (s, err, data) := (s.dictRead (.kdap f.src) u f.index f.sub).takeAnswer
        if err ≠ 0 then s else s.kdapSend (f.reply u 0x81 data.length data)
    else s)

/-- The data of a heartbeat (R579). -/
def State.heartbeatData (s : State) (u : UnitId) : List Byte :=
  leBytes 1 s.mode.cur.code ++ leBytes 1 (if s.pair.roleDecided then s.pair.active.code else 0xFF) ++
  leBytes 1 s.pair.peer.code ++ leBytes 1 (s.nodeId u) ++ leBytes 1 (s.casc.number.getD 255) ++
  leBytes 1 (s.dieBand u).code ++ leBytes 6 s.now ++ leBytes 4 (s.rd Obj.EMCY_SEQ) ++
  leBytes 8 (s.getEr u.code).newest

/-- HEARTBEAT (R579): sent every HB_PERIOD ms unless HB_PERIOD is 0, from Fiddlehead onward. -/
def execHeartbeat (u : UnitId) (s : State) : Host.Outcome State Fault Refusal :=
  .next (if s.kdapUp && s.rd Obj.HB_PERIOD != 0 && decide ((s.getDict u.code).beatAt + 1000 * s.rd Obj.HB_PERIOD ≤ s.now) then
      ((s.modDict u.code (fun d => { d with beatAt := s.now })).kdapSend { unit := u, dest := s.rd Obj.HB_DEST_MAC, service := 0x11, data := s.heartbeatData u }).inc Obj.HB_SENT
    else s)

/-- HEARTBEAT_RECEIVED (R570): one from another MAC with the unit's own node ID is a conflict. -/
def execHeartbeatReceived (u : UnitId) (src : Nat) (nodeId : Nat) (s : State) : Host.Outcome State Fault Refusal :=
  .next (if s.kdapUp && nodeId == s.nodeId u && src != macOf u then
      (s.inc (Obj.PLCA_CONFLICTS u)).logFirmware u advisory
    else s)

/-- Whether a unit accepts a sync from its source (R580). -/
def State.masterOk (s : State) (src : Nat) : Bool :=
  s.rd Obj.TIME_MASTER_MAC == 0 || s.rd Obj.TIME_MASTER_MAC == src

/-- TIME_SYNC (R580): the unit latches its own timestamp, in ns, to 20 ns. -/
def execTimeSync (u : UnitId) (f : KdapFrame) (frac : Nat) (s : State) : Host.Outcome State Fault Refusal :=
  .next (s.kdapTake u f true fun s =>
    if s.masterOk f.src then
      s.modDict u.code (fun d => { d with sync := some (f.src, f.transId, 1000 * s.now + frac % 1000 / 20 * 20) })
    else s)

/-- TIME_FOLLOW_UP (R580): the offset from the master's send time; one with no matching sync is dropped. -/
def execTimeFollowUp (u : UnitId) (f : KdapFrame) (s : State) : Host.Outcome State Fault Refusal :=
  .next (s.kdapTake u f true fun s =>
    match (s.getDict u.code).sync with
    | some (src, tid, t) =>
      if src = f.src && tid = f.transId then
        let off : Int := (leNat f.body : Int) - (t : Int)
        s.modDict u.code (fun d => { d with sync := none, timeOffset := off, timeState := 1, pairAt := s.now })
      else s
    | none => s)

/-- TIME_HOLD_EXPIRY (R580): 10 s without a new pair. -/
def execTimeHoldExpiry (u : UnitId) (s : State) : Host.Outcome State Fault Refusal :=
  .next (s.modDict u.code (fun d =>
    if d.timeState = 1 ∧ d.pairAt + 10000000 ≤ s.now then { d with timeState := 2 } else d))

/-- PLCA_BEACON (R570): beacons arrive at a unit, or arrive no longer. -/
def execPlcaBeacon (u : UnitId) (received : Bool) (s : State) : Host.Outcome State Fault Refusal :=
  .next (s.modDict u.code (fun d => { d with beacon := received }))

end Sys2Proof.Machine
end

