-- ==== Sys2Proof/Machine/Dictionary.lean ====
section
/-! DEFINITION. The dictionary in band: the admin commands of the controllers and the DICT packets of the tree (R451, R581, R582). -/

namespace Sys2Proof.Machine

/-- The unit that TARGET names at a receiving unit, when it can be reached (R572). -/
def State.targetUnit (s : State) (u : UnitId) (target : BitVec 2) : Option UnitId :=
  let t := match target.toNat with | 0 => u | 1 => .A | 2 => .B | _ => s.pair.active
  if t = u || s.pair.peer != .absent then some t else none

/-- A dictionary command completed (R581): the total size on success, SCT 7h with the access error on failure. -/
def State.dictEnd (s : State) (t : CmdTag) (err size : Nat) (data : List Byte) : State :=
  if err = 0 then s.completeWith t 0 0 false 0 size data
  else s.completeWith t 7 err (err != 0x0A) 0 0 []

/-- Whether a module can be reached: by the root's table, or by the hop towards it. -/
def State.moduleUp (s : State) (m : Nat) : Bool :=
  if s.casc.role = .root then
    let e := mapGet (fun _ => ({} : TreeModule)) s.casc.table m
    e.used && e.reachable
  else s.casc.number.isSome && (s.hopUnit (s.hopOf m)).isSome

/-- A dictionary command sent to another module as DICT, or failed with 0Dh (R581): the command notes the object, the range and whether
it reads. -/
def State.dictForward (s : State) (t : CmdTag) (m : Nat) (write : Bool) (target : BitVec 2) (i sub off len : Nat) (d : List Byte) : State :=
  if !s.moduleUp m then s.dictEnd t 0x0D 0 []
  else
    let tag := s.casc.nextTag
    let s := { s with casc := { s.casc with nextTag := tag + 1 } }
    (s.modCmd t (fun h => { h with
      kind := .forwarded, target := some m, fwdTag := tag, off := off, limit := len, slot := 256 * i + sub,
      action := if write then 2 else 1 })).send (.dictReq write t.ctrl target i sub d) m tag

/-- Whether MODULE names the receiving module. -/
def State.ownModule (s : State) (m : Nat) : Bool := m == 0xFF || s.casc.number == some m

/-- DICTIONARY_WRITE (R581). -/
def execDictionaryWrite (t : CmdTag) (m : Nat) (target : BitVec 2) (index sub : Nat) (data : List Byte) (s : State) :
    Host.Outcome State Fault Refusal :=
  s.admin t (fun s =>
    if !s.ownModule m then s.dictForward t m true target index sub 0 0 data
    else
      match s.targetUnit t.ctrl target with
      | none => s.dictEnd t 0x0D 0 []
      | some u =>
        let (s, err, _) := (s.dictWrite (.inband t.ctrl) u index sub data).takeAnswer
        s.dictEnd t err data.length [])

/-- DICTIONARY_READ (R581). -/
def execDictionaryRead (t : CmdTag) (m : Nat) (target : BitVec 2) (index sub off len : Nat) (s : State) :
    Host.Outcome State Fault Refusal :=
  s.admin t (fun s =>
    if !s.ownModule m then s.dictForward t m false target index sub off len []
    else
      match s.targetUnit t.ctrl target with
      | none => s.dictEnd t 0x0D 0 []
      | some u =>
        let (s, err, data) := (s.dictRead (.inband t.ctrl) u index sub).takeAnswer
        if err ≠ 0 then s.dictEnd t err 0 []
        else
          let (e, part) := readPart index sub off len data
          s.dictEnd t e data.length part)

/-- A DICT request served at this module (R451, R581). -/
def State.dictServe (s : State) (src tag : Nat) (write : Bool) (ctrl : UnitId) (target : BitVec 2) (i sub : Nat) (d : List Byte) : State :=
  match s.targetUnit ((s.hopUnit 0).getD s.pair.active) target with
  | none => s.send (.dictRsp 0x0D []) src tag
  | some u =>
    let (s, err, data) :=
      (if write then s.dictWrite (.inband ctrl) u i sub d else s.dictRead (.inband ctrl) u i sub).takeAnswer
    s.send (.dictRsp err (if write then leBytes 4 d.length else data)) src tag

/-- The dictionary command that a DICT response ends. -/
def State.dictForwarded (s : State) (m tag : Nat) : Option HostCmd :=
  s.cmds.find? (fun (c : HostCmd) => c.kind == .forwarded && c.action != 0 && c.target == some m && c.fwdTag == tag)

/-- A DICT response at the module that asked. -/
def State.dictAnswered (s : State) (src tag err : Nat) (d : List Byte) : State :=
  match s.dictForwarded src tag with
  | none => s
  | some c =>
    if err ≠ 0 then s.dictEnd c.tag err 0 []
    else if c.action = 2 then s.dictEnd c.tag 0 (leNat (d.take 4)) []
    else
      let (e, part) := readPart (c.slot / 256) (c.slot % 256) c.off c.limit d
      s.dictEnd c.tag e d.length part

/-- A mode request of a DICT that writes in Switchover, stored at once (R37). -/
def State.dictAtOnce (s : State) (write : Bool) (ctrl : UnitId) (target : BitVec 2) (i sub : Nat) (d : List Byte) : State :=
  if write = true ∧ s.mode.cur = .switchover then
    match s.targetUnit ((s.hopUnit 0).getD s.pair.active) target with
    | some u => s.modeWritten (.inband ctrl) u i sub d
    | none => s
  else s

/-- DICT (R451, R581). -/
def execDict (src tag : Nat) (b : PktBody) (s : State) : Host.Outcome State Fault Refusal :=
  State.conclude (
    match b with
    | .dictReq write ctrl target i sub d =>
      if s.casc.number.isNone then s
      else (s.dictAtOnce write ctrl target i sub d).hold (.dict src tag b) (fun s => s.dictServe src tag write ctrl target i sub d)
    | .dictRsp err d => s.dictAnswered src tag err d
    | _ => s)

end Sys2Proof.Machine
end

