-- ==== Sys2Proof/Machine/Monitor.lean ====
section
/-! DEFINITION. The Luzan monitor (R585-R588): each command line it accepts, but for the sequencer commands, which are with
the sequencers. Output is kept as lines of `MonOut`, oldest first. -/

namespace Sys2Proof.Machine

/-- Output lines added. -/
def State.monPrint (s : State) (l : List MonOut) : State := { s with mon := { s.mon with out := s.mon.out ++ l } }

/-- The final line of a command: OK, or ERR with its code (R585). -/
def State.monEnd (s : State) (err : Nat) : State := s.monPrint [if err = 0 then .ok else .err err]

/-- A line's unit can be reached (R585). -/
def State.monReach (s : State) (m : MonUnit) : Bool := s.monUnit m == s.pair.active || s.pair.peer != .absent

/-- A character has arrived: it proves the rate in force and ends a tail (R586, R587). -/
def State.monChar (s : State) : State := { s with mon := { s.mon with rateSince := none, tail := none } }

/-- A command line run (R585-R588): counted; refused with 06h while the monitor is locked and the command is not exempt;
otherwise its body gives its output and error. -/
def State.monRun (s : State) (exempt : Bool) (body : State → State × List MonOut × Nat) : State :=
  if !s.monUp then s
  else
    let s := s.monChar.inc (Obj.MON_LINES s.pair.active)
    if s.rd (Obj.MON_LOCK s.pair.active) = 1 && !exempt && !s.session s.pair.active .monitor then s.monEnd 0x06
    else
      let (s, out, err) := body s
      if s.monUp then (s.monPrint out).monEnd err else s

def execMonHelp (s : State) : Host.Outcome State Fault Refusal := .next (s.monRun true (fun s => (s, [.help], 0)))

/-- A command line run at a unit: 0Dh where it cannot be reached. -/
def State.monRunAt (s : State) (m : MonUnit) (exempt : Bool) (body : State → State × List MonOut × Nat) : State :=
  s.monRun exempt (fun s => if s.monReach m then body s else (s, [], 0x0D))

/-- MON_ID: 1000h.00-.0A, CURRENT_MODE and ACTIVE_UNIT (R586). -/
def execMonId (m : MonUnit) (s : State) : Host.Outcome State Fault Refusal :=
  .next (s.monRunAt m true fun s =>
    let u := s.monUnit m
    let line := fun i sub => MonOut.value i sub (s.liveBytes u i sub)
    (s, (List.range 11).map (line 0x1000) ++ [line 0x1100 0, line 0x1200 3], 0))

/-- MON_PEEK: the value of an object, by R561. -/
def execMonPeek (m : MonUnit) (index : Nat) (sub : Nat) (s : State) : Host.Outcome State Fault Refusal :=
  .next (s.hold (.peek m index sub) fun s => s.monRunAt m (decide (0x1000 ≤ index ∧ index ≤ 0x10FF)) fun s =>
    let (s, err, data) := (s.dictRead .monitor (s.monUnit m) index sub).takeAnswer
    (s, if err = 0 then [.value index sub data] else [], err))

/-- MON_POKE: a value written, by R561; more than 64 data bytes make the line malformed. -/
def execMonPoke (m : MonUnit) (index : Nat) (sub : Nat) (data : List Byte) (s : State) :
    Host.Outcome State Fault Refusal :=
  State.conclude (s.hold (.poke m index sub data) fun s => s.monRunAt m false fun s =>
    if 64 < data.length then (s, [], 0x0F)
    else
      let (s, err, _) := (s.dictWrite .monitor (s.monUnit m) index sub data).takeAnswer
      (s, [], err))

/-- MON_DUMP: a byte range of an object, at most 65 536 bytes. -/
def execMonDump (m : MonUnit) (index : Nat) (sub : Nat) (off : Nat) (len : Option Nat) (s : State) :
    Host.Outcome State Fault Refusal :=
  .next (s.hold (.dump m index sub off len) fun s => s.monRunAt m false fun s =>
    let (s, err, data) := (s.dictRead .monitor (s.monUnit m) index sub).takeAnswer
    let part := match len with | some n => (data.drop off).take n | none => data.drop off
    if err ≠ 0 then (s, [], err)
    else if 65536 < part.length then (s, [], 0x07)
    else (s, [.dump off part], 0))

/-- MON_MODE: the mode printed, or a code written to 1101h.00. -/
def execMonMode (code : Option (BitVec 8)) (s : State) : Host.Outcome State Fault Refusal :=
  .next (s.hold (.modeLine code) fun s => s.monRun false fun s =>
    match code with
    | none => (s, [.mode s.mode.cur.code], 0)
    | some c =>
      let (s, err, _) := (s.dictWrite .monitor s.pair.active 0x1101 0 [c]).takeAnswer
      (s, [], err))

/-- Records printed, from one number up to another. -/
def ErSt.printed (e : ErSt) (lo hi : Nat) : List MonOut :=
  (List.range (hi - lo)).filterMap (fun k => (e.find (lo + k)).map (fun x => MonOut.event (lo + k) x.1))

/-- MON_EV: the newest n records. -/
def execMonEv (m : MonUnit) (n : Nat) (s : State) : Host.Outcome State Fault Refusal :=
  .next (s.monRunAt m false fun s =>
    let e := s.getEr (s.monUnit m).code
    if n = 0 then (s, [], 0x07) else (s, e.printed (max e.oldest (e.next - n)) e.next, 0))

/-- MON_EV_FROM: records from a number on. -/
def execMonEvFrom (m : MonUnit) (n : Nat) (s : State) : Host.Outcome State Fault Refusal :=
  .next (s.monRunAt m false fun s =>
    let e := s.getEr (s.monUnit m).code
    if e.next ≤ n then (s, [], 0x07) else (s, e.printed (max e.oldest n) e.next, 0))

/-- MON_EV_TAIL: new records are printed as they are appended, until a character is received. -/
def execMonEvTail (m : MonUnit) (s : State) : Host.Outcome State Fault Refusal :=
  .next (s.monRunAt m false fun s =>
    ({ s with mon := { s.mon with tail := some (s.monUnit m) } }, [], 0))

/-- MON_TRACE: a status object traced; at most 8 at once. -/
def execMonTrace (m : MonUnit) (index : Nat) (sub : Nat) (s : State) : Host.Outcome State Fault Refusal :=
  .next (s.monRunAt m false fun s =>
    match siteAt (s.monUnit m) index sub with
    | none => (s, [], 0x07)
    | some x =>
      if s.mon.traces.contains x.key then (s, [], 0)
      else if 8 ≤ s.mon.traces.length then (s, [], 0x09)
      else ({ s with mon := { s.mon with traces := x.key :: s.mon.traces } }, [], 0))

def execMonTraceOff (s : State) : Host.Outcome State Fault Refusal :=
  .next (s.monRun false (fun s => ({ s with mon := { s.mon with traces := [] } }, [], 0)))

/-- A journal flash command through the objects of R557, which are writable only in Drain, Quiescent and Maintenance. -/
def State.monJf (s : State) (m : MonUnit) (run : State → UnitId → State) : State × List MonOut × Nat :=
  let u := s.monUnit m
  let err := s.writeErr u 0x4201 0 .monitor [1]
  if err ≠ 0 then (s, [], err)
  else
    let s := run s u
    (s, [.status (s.rd (Obj.JF_STATUS_WORD u)) (s.getJf u.code).mgmtData], 0)

/-- The address of a block and page (R543). -/
def jfAddress (block page : Nat) : BitVec 32 := BitVec.ofNat 32 (block * 65536 + page * 256)

def execMonJfStatus (m : MonUnit) (block : Nat) (s : State) : Host.Outcome State Fault Refusal :=
  .next (s.hold (.jfStatus m block) fun s => s.monRunAt m false (fun s => s.monJf m (fun s u =>
    s.jfRun u .management 6 (jfAddress block 0) true (fun s => (s, swDone, [])))))

def execMonJfRead (m : MonUnit) (block : Nat) (page : Nat) (errs : Nat) (s : State) :
    Host.Outcome State Fault Refusal :=
  .next (s.hold (.jfRead m block page errs) fun s => s.monRunAt m false (fun s => if 255 < page then (s, [], 0x07)
    else s.monJf m (fun s u => s.readPage u .management (jfAddress block page) errs)))

def execMonJfCounters (m : MonUnit) (s : State) : Host.Outcome State Fault Refusal :=
  .next (s.hold (.jfCounters m) fun s => s.monRunAt m false fun s =>
    let u := s.monUnit m
    let err := s.readErr 0x4200 2 .monitor
    if err ≠ 0 then (s, [], err)
    else (s, (List.range 12).map (fun k => MonOut.value 0x4200 (k + 2) (s.liveBytes u 0x4200 (k + 2))), 0))

/-- MON_AUTH: a fresh challenge (R583). -/
def execMonAuth (m : MonUnit) (s : State) : Host.Outcome State Fault Refusal :=
  .next (s.hold (.auth m) fun s => s.monRunAt m true fun s =>
    let (s, err, data) := (s.authChallenge .monitor (s.monUnit m)).takeAnswer
    (s, if err = 0 then [.challenge data] else [], err))

/-- MON_AUTH_RESPONSE: a response to open the monitor's session (R583). -/
def execMonAuthResponse (m : MonUnit) (data : List Byte) (s : State) : Host.Outcome State Fault Refusal :=
  .next (s.hold (.authResponse m data) fun s => s.monRunAt m true fun s =>
    let (s, err, _) := (s.authRespond .monitor (s.monUnit m) data).takeAnswer
    (s, [], err))

/-- The rates of the monitor (R586). -/
def monRates : List Nat := [115200, 230400, 460800, 921600, 1000000, 2000000, 3000000]

/-- MON_BAUD: a listed rate takes effect after the OK line (R587). -/
def execMonBaud (rate : Nat) (s : State) : Host.Outcome State Fault Refusal :=
  .next (s.monRun false fun s =>
    if monRates.contains rate then
      ({ s.wr (Obj.MON_BAUD s.pair.active) rate with mon := { s.mon with rateSince := some s.now } }, [], 0)
    else (s, [], 0x07))

/-- BAUD_REVERT: no character within 10 s at the new rate (R587). -/
def execBaudRevert (s : State) : Host.Outcome State Fault Refusal :=
  .next (if s.mon.rateSince.any (fun t => decide (t + 10000000 ≤ s.now)) then
      { s.wr (Obj.MON_BAUD s.pair.active) 115200 with mon := { s.mon with rateSince := none } }
    else s)

end Sys2Proof.Machine
end

