-- ==== Sys2Proof/Machine/MonitorSeq.lean ====
section
/-! DEFINITION. The monitor's commands for sequencers (R586): halt at a word boundary, execute words, continue, print. -/

namespace Sys2Proof.Machine

/-- Sequencer k of a unit (R189). -/
def seqIdOf (u : UnitId) (k : Nat) : SeqId :=
  { unit := u, port := Fin.ofNat 16 (k / 4), act := Fin.ofNat 2 (k / 2), xfer := k % 2 == 1 }

/-- One word fetched from the control store at the sequencer's next address and carried out (R156, R161). -/
def State.seqStepOne (s : State) (q : SeqId) : State :=
  let v := s.nextWord q
  if (s.getSeq q.key).state ≠ .running then s
  else
    match wordOp v with
    | some o => s.seqWord q o (microWord v)
    | none => (s.seqFetch q false).seqStop q .SEQ_ILLEGAL_OP

/-- n words carried out one after another, until the sequencer waits or stops. -/
def State.seqSteps (s : State) (q : SeqId) : Nat → State
  | 0 => s
  | n + 1 => (s.seqStepOne q).seqSteps q n

/-- The executing plan of a sequencer's actuator has PLAN_FLAGS bit 0 (R182, R586). -/
def State.rawPlan (s : State) (q : SeqId) : Bool :=
  let pl := s.getPlan q.chan
  !pl.empty && (pl.field 14 2).testBit 0

/-- A sequencer command (R586): 07h for a number out of range, 05h outside Maintenance, 09h unless the executing plan allows it. -/
def State.monSeq (s : State) (m : MonUnit) (k : Nat) (run : State → SeqId → State × List MonOut × Nat) : State :=
  s.monRunAt m false fun s =>
    let q := seqIdOf (s.monUnit m) k
    if 64 ≤ k then (s, [], 0x07)
    else if s.mode.cur ≠ .maintenance then (s, [], 0x05)
    else if !s.rawPlan q then (s, [], 0x09)
    else run s q

/-- MON_SEQ_HALT (R586). -/
def execMonSeqHalt (m : MonUnit) (k : Nat) (s : State) : Host.Outcome State Fault Refusal :=
  .next (s.monSeq m k fun s q => (s.modSeq q.key (fun e => { e with halted := true }), [], 0))

/-- MON_SEQ_STEP (R586): n words of a sequencer that is halted. -/
def execMonSeqStep (m : MonUnit) (k : Nat) (n : Nat) (s : State) : Host.Outcome State Fault Refusal :=
  State.after (s.monSeq m k fun s q =>
    if (s.getSeq q.key).halted then (s.seqSteps q n, [], 0) else (s, [], 0x09))

/-- MON_SEQ_RUN (R586). -/
def execMonSeqRun (m : MonUnit) (k : Nat) (s : State) : Host.Outcome State Fault Refusal :=
  .next (s.monSeq m k fun s q => (s.modSeq q.key (fun e => { e with halted := false }), [], 0))

/-- MON_SEQ_REGS (R586): G0-G31 and SEQ_PC. -/
def execMonSeqRegs (m : MonUnit) (k : Nat) (s : State) : Host.Outcome State Fault Refusal :=
  .next (s.monSeq m k fun s q =>
    let e := s.getSeq q.key
    (s, [.regs ((List.range 32).map (fun n => (e.greg n).toNat)) e.pc.toNat], 0))

end Sys2Proof.Machine
end

