-- ==== Sys2Proof/Machine/MonitorLine.lean ====
section
/-! DEFINITION. The monitor's command lines as text (R585, R586): words, numbers and objects, and the command that a line spells. -/

namespace Sys2Proof.Machine

/-! ## Words and numbers (R585) -/

/-- The words of a line: runs of characters between spaces. -/
def lineWords (l : List Byte) : List (List Byte) :=
  (l.foldr (fun (b : Byte) (w : List (List Byte)) =>
    if b = 0x20 then [] :: w
    else match w with | x :: rest => (b :: x) :: rest | [] => [[b]]) [[]]).filter (fun w => !w.isEmpty)

/-- A digit, decimal or hexadecimal. -/
def digitOf (b : Byte) : Option Nat :=
  let n := b.toNat
  if 0x30 ≤ n ∧ n ≤ 0x39 then some (n - 0x30)
  else if 0x41 ≤ n ∧ n ≤ 0x46 then some (n - 0x37)
  else if 0x61 ≤ n ∧ n ≤ 0x66 then some (n - 0x57)
  else none

/-- Digits of a base as a number; at least one. -/
def parseDigits (base : Nat) (l : List Byte) : Option Nat :=
  if l.isEmpty then none
  else l.foldl (fun n b => match n, digitOf b with
    | some n, some d => if d < base then some (base * n + d) else none
    | _, _ => none) (some 0)

/-- A number: hexadecimal with the suffix h, or decimal otherwise. -/
def parseNumber (l : List Byte) : Option Nat :=
  if l.getLast? = some 0x68 then parseDigits 16 l.dropLast else parseDigits 10 l

/-- An object as index.subindex, as in 3350h.00: the subindex is one or two hexadecimal digits. -/
def parseObject (l : List Byte) : Option (Nat × Nat) :=
  let sub := (l.dropWhile (fun b => b != 0x2E)).drop 1
  match parseNumber (l.takeWhile (fun b => b != 0x2E)), parseDigits 16 sub with
  | some i, some n => if sub.length ≤ 2 then some (i, n) else none
  | _, _ => none

/-- Hexadecimal bytes, two digits each. -/
def parseBytes : List Byte → Option (List Byte)
  | [] => some []
  | [_] => none
  | a :: b :: rest =>
    match parseDigits 16 [a, b], parseBytes rest with
    | some n, some r => some (BitVec.ofNat 8 n :: r)
    | _, _ => none

/-- The characters between two quotes that enclose the rest of a line. -/
def parseQuoted (l : List Byte) : Option (List Byte) :=
  match l with
  | 0x22 :: rest => if rest.getLast? = some 0x22 && !rest.dropLast.contains 0x22 then some rest.dropLast else none
  | _ => none

/-! ## Commands (R586) -/

/-- What a line asks for: a command carried out, or ERR with a code. -/
inductive LineCall where
  | run (f : State → Host.Outcome State Fault Refusal)
  | err (code : Nat)

/-- A malformed argument, and one outside the values that a command accepts (R585). -/
def LineCall.malformed : LineCall := .err 0x0F
def LineCall.range : LineCall := .err 0x07

/-- The value of a poke by the type of its object (R586): a number, a STR in quotes, bytes for the rest; at most 64 bytes. -/
def pokeValue (i sub : Nat) (text : List Byte) : Except LineCall (List Byte) :=
  match objLookup i sub with
  | some (some r) =>
    if r.ty.numeric then
      match lineWords text with
      | [w] =>
        match parseNumber w with
        | some n => if n < 256 ^ r.ty.size then .ok (leBytes r.ty.size n) else .error .range
        | none => .error .malformed
      | _ => .error .malformed
    else
      match (if r.ty == .str then parseQuoted text else parseBytes (text.filter (fun b => b != 0x20))) with
      | some d => if d.length ≤ 64 then .ok d else .error .malformed
      | none => .error .malformed
  | _ => .ok []

/-- A line after its first two words: the rest as it stands, for a value in quotes. -/
def lineRest (l : List Byte) : List Byte :=
  let skip := fun (l : List Byte) => (l.dropWhile (fun b => b == 0x20)).dropWhile (fun b => b != 0x20)
  let l := (skip (skip l)).dropWhile (fun b => b == 0x20)
  (l.reverse.dropWhile (fun b => b == 0x20)).reverse

/-- Numbers given as words. -/
def parseNumbers (l : List (List Byte)) : Option (List Nat) := l.mapM parseNumber

/-- Commands on an object: peek, dump, trace. -/
def objectCall (l : List Byte) (f : Nat → Nat → State → Host.Outcome State Fault Refusal) : LineCall :=
  match parseObject l with | some (i, n) => .run (f i n) | none => .malformed

/-- A command with one number. -/
def numberCall (l : List Byte) (f : Nat → State → Host.Outcome State Fault Refusal) : LineCall :=
  match parseNumber l with | some n => .run (f n) | none => .malformed

/-- dump with its range. -/
def dumpCall (m : MonUnit) (obj : List Byte) (args : List (List Byte)) : LineCall :=
  match parseObject obj, parseNumbers args with
  | some (i, n), some [] => .run (execMonDump m i n 0 none)
  | some (i, n), some [off] => .run (execMonDump m i n off none)
  | some (i, n), some [off, len] => .run (execMonDump m i n off (some len))
  | _, _ => .malformed

/-- Sequencer commands. -/
def seqCall (m : MonUnit) (verb : List Byte) (args : List (List Byte)) : LineCall :=
  match parseNumbers args with
  | some [k] =>
    if verb = ascii "halt" then .run (execMonSeqHalt m k)
    else if verb = ascii "step" then .run (execMonSeqStep m k 1)
    else if verb = ascii "run" then .run (execMonSeqRun m k)
    else if verb = ascii "regs" then .run (execMonSeqRegs m k)
    else .malformed
  | some [k, n] => if verb = ascii "step" then .run (execMonSeqStep m k n) else .malformed
  | _ => .malformed

/-- Journal flash commands: the bit errors of a page read are free values. -/
def jfCall (m : MonUnit) (verb : List Byte) (args : List (List Byte)) : LineCall :=
  match parseNumbers args with
  | some [] => if verb = ascii "counters" then .run (execMonJfCounters m) else .malformed
  | some [b] => if verb = ascii "status" then .run (execMonJfStatus m b) else .malformed
  | some [b, p] =>
    if verb = ascii "read" then .run (fun s => let (n, s) := s.next; execMonJfRead m b p (Config.pageErrors n) s) else .malformed
  | _ => .malformed

/-- Commands of one word. -/
def wordCall (m : MonUnit) (c : List Byte) : LineCall :=
  if c = ascii "help" then .run execMonHelp
  else if c = ascii "id" then .run (execMonId m)
  else if c = ascii "mode" then .run (execMonMode none)
  else if c = ascii "ev" then .run (execMonEv m 8)
  else if c = ascii "auth" then .run (execMonAuth m)
  else .malformed

/-- Commands of two words. -/
def pairCall (m : MonUnit) (c a : List Byte) : LineCall :=
  if c = ascii "peek" then objectCall a (execMonPeek m)
  else if c = ascii "trace" then (if a = ascii "off" then .run execMonTraceOff else objectCall a (execMonTrace m))
  else if c = ascii "mode" then
    match parseNumber a with
    | some n => if n < 256 then .run (execMonMode (some (BitVec.ofNat 8 n))) else .range
    | none => .malformed
  else if c = ascii "ev" then (if a = ascii "tail" then .run (execMonEvTail m) else numberCall a (execMonEv m))
  else if c = ascii "auth" then match parseBytes a with | some d => .run (execMonAuthResponse m d) | none => .malformed
  else if c = ascii "baud" then numberCall a execMonBaud
  else .malformed

/-- The command that a line of words spells; a first word that is no command, or arguments that do not fit it, make it malformed. -/
def lineCall (m : MonUnit) (text : List Byte) : LineCall :=
  match lineWords text with
  | [] => .malformed
  | [c] => wordCall m c
  | c :: a :: args =>
    if c = ascii "poke" then
      match parseObject a with
      | some (i, n) => (match pokeValue i n (lineRest text) with | .ok d => .run (execMonPoke m i n d) | .error e => e)
      | none => .malformed
    else if c = ascii "dump" then dumpCall m a args
    else if c = ascii "seq" then seqCall m a args
    else if c = ascii "jf" then jfCall m a args
    else
      match args with
      | [] => pairCall m c a
      | [n] => if c = ascii "ev" ∧ a = ascii "from" then numberCall n (execMonEvFrom m) else .malformed
      | _ => .malformed

/-- The unit of a line's prefix, and the line without it (R585). -/
def linePrefix (l : List Byte) : MonUnit × List Byte :=
  if l.take 3 = ascii "@a " then (.unit .A, l.drop 3)
  else if l.take 3 = ascii "@b " then (.unit .B, l.drop 3)
  else (.serving, l)

/-- A line that is no command answered with ERR (R585). -/
def State.lineErr (s : State) (code : Nat) : State := (s.monChar.inc (Obj.MON_LINES s.pair.active)).monEnd code

/-- MON_LINE (R585-R587): a line over 200 characters, or one that holds a dropped character, gets ERR 0Fh, and the characters dropped
are counted; any other is carried out by the command it spells. The end of an empty line proves the rate and is no command. -/
def execMonLine (text : List Byte) (dropped : Nat) (s : State) : Host.Outcome State Fault Refusal :=
  if !s.monUp then .next s
  else if dropped ≠ 0 then .next ((s.add (Obj.MON_DROPPED s.pair.active) dropped).lineErr 0x0F)
  else if 200 < text.length then .next (s.lineErr 0x0F)
  else if (lineWords text).isEmpty then .next s.monChar
  else
    let (m, l) := linePrefix text
    match lineCall m l with
    | .err c => .next (s.lineErr c)
    | .run f => f s

end Sys2Proof.Machine
end

