-- ==== Sys2Proof/Machine/Pn2.lean ====
section
/-! DEFINITION. The PN2 of a port: which side it obeys, the SPIN code it acts on, write current, loop and motor command blocks, the
servo window, and what it does when commands stop (R46, R47, R58, R59, R64, R234, R238, R239, R251). -/

namespace Sys2Proof.Machine

/-! ## SPIN (R58, R59) -/

/-- How conservative a decoded code is when neither side is obeyed (R59): 0 is the most conservative. -/
def spinRank : Option SpinCode → Nat
  | none | some .retractBrake => 0
  | some .shortBrake => 1
  | some .coast => 2
  | some .follow => 3

/-- The code that the PN2 acts on (R58, R59): that of the obeyed side, retract-then-brake for a waveform of no row; with neither
side obeyed the more conservative of the two, and follow as coast. -/
def Pn2St.action (q : Pn2St) : SpinCode :=
  match q.obey with
  | .side .A => q.spinA.getD .retractBrake
  | .side .B => q.spinB.getD .retractBrake
  | .none =>
    let c := (if spinRank q.spinA ≤ spinRank q.spinB then q.spinA else q.spinB).getD .retractBrake
    if c = .follow then .coast else c

/-- The PN2 retracts an actuator (R239); already parked, only the coil current and heaters go to 0. -/
def Pn2Act.retract (x : Pn2Act) (parked : Bool) : Pn2Act :=
  let x := { x with gate := false, vcm := 0, heatRd := 0, heatWr := 0 }
  if parked then x else { x with ma := 0, retracted := true, ignores := true }

/-- PARKED as an actuator last reported it. -/
def State.parked (s : State) (p a : Nat) : Bool := (s.getSrv (chanKey p a)).isParked

/-- What follows from a change of the code acted on (R58, R251): the bridge, and a retract of both actuators. -/
def State.pn2Spin (s : State) (p : Nat) (old : SpinCode) : State :=
  let c := (s.getPn2 p).action
  if c = old then s
  else
    match c with
    | .shortBrake => s.modPn2 p (fun q => { q with bridge := .shortBrake, duty := 0 })
    | .coast | .follow => s.modPn2 p (fun q => { q with bridge := .coast, duty := 0, noBlock := 0 })
    | .retractBrake => s.modPn2 p (fun q =>
        { q with bridge := .shortBrake, duty := 0, act0 := q.act0.retract (s.parked p 0), act1 := q.act1.retract (s.parked p 1) })

/-- A SPIN code taken on one side. -/
def State.pn2Code (s : State) (p : Nat) (u : UnitId) (c : Option SpinCode) : State :=
  let old := (s.getPn2 p).action
  (s.modPn2 p (fun q => match u with | .A => { q with spinA := c } | .B => { q with spinB := c })).pn2Spin p old

/-- PN2_SPIN_DECODE (R58): 300 µs without an edge, or two matching periods. -/
def execPn2SpinDecode (p : PortId) (u : UnitId) (c : SpinCode) (s : State) : Host.Outcome State Fault Refusal :=
  .next (s.pn2Code p u (some c))

/-- PN2_SPIN_INVALID (R58): retract-then-brake until a valid code is recognised. -/
def execPn2SpinInvalid (p : PortId) (u : UnitId) (s : State) : Host.Outcome State Fault Refusal := .next (s.pn2Code p u none)

/-- The side from whose motor lane the PN2 takes its lane reference (R50): the side it obeys, or the one that trained first. -/
def Pn2St.laneRef (q : Pn2St) : Option UnitId :=
  match q.obey with
  | .side u => some u
  | .none => q.firstLane

/-! ## TOKEN and write current (R46, R64) -/

/-- PN2_TOKEN_ACCEPT (R46, R64): the level of a side's TOKEN line; a change turns write current off. -/
def execPn2TokenAccept (p : PortId) (u : UnitId) (s : State) : Host.Outcome State Fault Refusal :=
  let level := (s.getLine (sideKey u p)).token
  let q := s.getPn2 p
  let was := match u with | .A => q.tokA | .B => q.tokB
  .next (
    if was = level then s
    else
      let s := s.modPn2 p (fun q =>
        { q with
          tokA := if u = .A then level else q.tokA, tokB := if u = .B then level else q.tokB
          act0 := { q.act0 with gate := false }, act1 := { q.act1 with gate := false } })
      s.pn2Spin p q.action)

/-- PN2_WRITE_GATE_ON (R46, R132, R138, R238): the write-gate-on block that the unit's encoder has sent arrives; write current starts
for the obeyed side, while the write lane is in service and the PN2 does not hold, and writes the fragment's transitions. -/
def execPn2WriteGateOn (p : PortId) (a : ActId) (u : UnitId) (s : State) : Host.Outcome State Fault Refusal :=
  let q := s.getPn2 p
  .next (
    if q.obey ≠ .side u ∨ u ≠ s.pair.active ∨ !s.laneUpOn u p (8 + a) ∨ (q.act a).holding ∨ (q.act a).retracted then s
    else
      match (s.getChan (chanKey p a)).wrOut with
      | .gate w :: .bits l :: _ =>
        match controlBlock w with
        | some b => s.modPn2 p (fun q => q.modAct a (fun x => { x with gate := true, gateAt := b.sampleIndex, flux := fluxOf x.precomp l }))
        | none => s
      | _ => s)

/-- PN2_WRITE_GATE_OFF (R46, R167): write current ends at the fragment's write-gate-off block, which ends the fragment at the encoder
too, or because the write lane is broken off. -/
def execPn2WriteGateOff (p : PortId) (a : ActId) (block : Bool) (s : State) : Host.Outcome State Fault Refusal :=
  let s := s.modPn2 p (fun q => q.modAct a (fun x => { x with gate := false }))
  .next (if block then s.modChan (chanKey p a) (fun c => c.gateEnds.trySwap) else s)

/-! ## Command slots (R234, R238, R239) and the servo window (R47) -/

/-- Slots for which the last commands are held (R238). -/
def HoldField.slots : HoldField → Nat
  | .slots4 => 4
  | .slots32 => 32
  | .retract => 0

/-- A valid loop command block applied (R238, R239): it ends a hold; HOLD 10b retracts; after a retract the coil and microactuator
commands are ignored until PARKED has been reported and the block's VCM_CMD is 0. -/
def Pn2Act.apply (x : Pn2Act) (b : LoopCmd) (parked : Bool) : Pn2Act :=
  let x := { x with missed := 0, holding := false, hold := b.hold }
  if b.hold = .retract then x.retract parked
  else
    let free := !x.ignores || (parked && b.vcm == 0)
    { x with
      heatRd := b.heatRd, heatWr := b.heatWr, head := b.head
      vcm := if free then b.vcm else x.vcm, ma := if free then b.ma else x.ma
      ignores := !free, retracted := x.retracted && !free }

/-- A slot without a valid block (R238): write current off and HOLDING, and a retract once the hold has expired. -/
def Pn2Act.miss (x : Pn2Act) (parked : Bool) : Pn2Act :=
  let y := { x with gate := false, holding := true, missed := x.missed + 1 }
  if x.hold.slots < x.missed + 1 && !x.retracted then y.retract parked else y

/-- A head selected (R44): a new one is told by the next marker of every reader sub-lane. -/
def Pn2Act.selects (x : Pn2Act) (head : Nat) : Pn2Act := { x with headDue := if head = x.head then x.headDue else List.range 8 }

/-- What the good register blocks of a slot do (R44, R47, R85, R140, R234): a window whose two blocks have both come; a ratio, told by
the next marker of every reader sub-lane when it is new; bytes of the precompensation entry and of the write preset. -/
def Pn2Act.registers (x : Pn2Act) (l : List RegBlock) : Pn2Act :=
  let x := l.foldl (fun (x : Pn2Act) b =>
    match b.kind.toNat with
    | 2 => if b.data.toNat = x.ratio then x else { x with ratio := b.data.toNat, ratioDue := List.range 8 }
    | 3 => { x with precomp := putEntry x.precomp b }
    | 4 => { x with preset := putEntry x.preset b }
    | _ => x) x
  match windowOf l with
  | some (start, len) => { x with winStart := start, winLen := len, opened := none }
  | none => x

/-- The register blocks that the part sends in the next command slot of an actuator (R85, R140, R193, R234): the window of the next
wedge, the ratio sent last, and the entries of a WRSET not yet acknowledged. -/
def State.slotRegs (s : State) (p a : Nat) : List RegBlock :=
  let c := s.getChan (chanKey p a)
  (match (s.getSrv (chanKey p a)).win with | some w => windowBlocks w | none => []) ++
  (if c.ratioSent = 0 then [] else [{ kind := 2, index := 0, data := BitVec.ofNat 32 c.ratioSent }]) ++
  (if c.wrSent then entryBlocks 3 c.wrEntry ++ entryBlocks 4 c.wrPreset else [])

/-- The blocks that the part sends in a command slot (R233, R234), the loop command block first. -/
def State.slotWords (s : State) (p a : Nat) : List (BitVec 64) :=
  (s.getSrv (chanKey p a)).sent.word :: (s.slotRegs p a).map RegBlock.word

/-- PN2_COMMAND_SLOT (R85, R140, R233, R234, R238): the blocks that the part has sent, as they arrive on a side; those of the side
that the PN2 obeys are checked and taken. -/
def execPn2CommandSlot (p : PortId) (a : ActId) (got : Option UnitId) (errs : List (BitVec 64)) (s : State) :
    Host.Outcome State Fault Refusal :=
  let q := s.getPn2 p
  let mine : Bool := match got with | some u => decide (q.obey = .side u) && s.laneUpOn u p (12 + a) | none => false
  let words := (s.slotWords p a).zipIdx.map (fun e => e.1 ^^^ errs.getD e.2 0)
  let parked := s.parked p a
  .next (s.modPn2 p (fun q => q.modAct a (fun x =>
    match mine, words with
    | true, w :: rest =>
      match loopBlock w with
      | some b => ((x.selects b.head).apply b parked).registers (rest.filterMap registerBlock)
      | none => (x.miss parked).registers (rest.filterMap registerBlock)
    | _, _ => x.miss parked)))

/-- PN2_SERVO_WINDOW (R47): the commanded window, and with neither side obeyed the last one again a wedge interval after the
previous. -/
def execPn2ServoWindow (p : PortId) (a : ActId) (wedge : Word) (s : State) : Host.Outcome State Fault Refusal :=
  let q := s.getPn2 p
  .next (s.modPn2 p (fun r => r.modAct a (fun x =>
    if x.winLen = 0 then x
    else
      match q.obey, x.opened with
      | .none, some t => { x with opened := some (t + wedge) }
      | .none, none => { x with opened := some x.winStart }
      | .side _, _ => { x with opened := some x.winStart })))

/-! ## Motor blocks (R251) -/

/-- PN2_MOTOR_BLOCK_APPLY (R249, R251): a valid block of the obeyed side takes effect while SPIN carries follow; after two slots without
one the bridge coasts. -/
def execPn2MotorBlockApply (p : PortId) (got : Option UnitId) (err : BitVec 64) (s : State) : Host.Outcome State Fault Refusal :=
  let q := s.getPn2 p
  let mine : Bool := match got with | some u => decide (q.obey = .side u) && s.laneUpOn u p 15 | none => false
  .next (
    if q.action ≠ .follow then s
    else
      match mine, motorBlock ((s.getSpd p).sent.word ^^^ err) with
      | true, some m => s.modPn2 p (fun q => { q with bridge := m.bridge, duty := m.duty, noBlock := 0 })
      | _, _ => s.modPn2 p (fun q =>
        if 2 < q.noBlock + 1 then { q with bridge := .coast, duty := 0, noBlock := q.noBlock + 1 }
        else { q with noBlock := q.noBlock + 1 }))

end Sys2Proof.Machine
end

