-- ==== Sys2Proof/Machine/Resume.lean ====
section
/-! DEFINITION. The end of a Switchover: the accesses it held are answered by the new unit holding TOKEN (R479, R564). -/

namespace Sys2Proof.Machine

/-- A held access of a requester. -/
def WaitingAccess.runDirect (c : WaitingAccess) (s : State) : Option (Host.Outcome State Fault Refusal) :=
  match c with
  | .write q u i sub d => some (execRegisterWrite q u i sub d s)
  | .authChallenge q u => some (execAuthChallengeRead q u s)
  | .erRecord q u => some (execErRecordRead q u s)
  | .erChallenge q u => some (execErChallengeRead q u s)
  | .window q u => some (execBufWinDataAccess q u none s)
  | .mondis q u v a b => some (execMondisBlow q u v a b s)
  | .minSvn q u v a b => some (execFwMinSvnWrite q u v a b s)
  | .mgmtKey q u d a b => some (execMgmtKeyWrite q u d a b s)
  | .erKey q u d a b => some (execErKeyWrite q u d a b s)
  | .dict src tag b => some (execDict src tag b s)
  | _ => none

/-- A held access of the management network or of the monitor. -/
def WaitingAccess.runFramed (c : WaitingAccess) (s : State) : Option (Host.Outcome State Fault Refusal) :=
  match c with
  | .expeditedRead u f => some (execExpeditedRead u f s)
  | .expeditedWrite u f => some (execExpeditedWrite u f s)
  | .segmentedRead u f => some (execSegmentedReadInitiate u f s)
  | .segmentedWrite u f => some (execSegmentedWriteInitiate u f s)
  | .segment u f => some (execSegment u f s)
  | .discovery u f => some (execDiscoveryAnswer u f s)
  | .peek m i sub => some (execMonPeek m i sub s)
  | .poke m i sub d => some (execMonPoke m i sub d s)
  | .dump m i sub off len => some (execMonDump m i sub off len s)
  | .modeLine v => some (execMonMode v s)
  | .jfStatus m b => some (execMonJfStatus m b s)
  | .jfRead m b p e => some (execMonJfRead m b p e s)
  | .jfCounters m => some (execMonJfCounters m s)
  | .auth m => some (execMonAuth m s)
  | .authResponse m d => some (execMonAuthResponse m d s)
  | _ => none

/-- A held access answered. -/
def State.resume (s : State) (c : WaitingAccess) : State :=
  match c.runDirect s, c.runFramed s with
  | some o, _ => nextOf s o
  | none, some o => nextOf s o
  | none, none => s

/-- The accesses held in a Switchover answered, in the order in which they came (R564). -/
def State.resumeAll (s : State) : State := ({ s with accHeld := [] } : State).forEach s.accHeld (fun s c => s.resume c)

/-- No command waits: accesses still held from a Switchover that ended in another mode are answered first (R564); otherwise time
passes. -/
def State.rest (s : State) : Host.Outcome State Fault Refusal :=
  if s.accHeld.isEmpty || s.mode.cur = .switchover then ((((s.cleanTick .A).cleanTick .B).suspendTick .A).suspendTick .B).idle else s.resumeAll.conclude

/-- TAKEOVER_COMPLETE (R479, R564). -/
def execTakeoverComplete (s : State) : Host.Outcome State Fault Refusal :=
  State.conclude (
    let t := s.takeover
    if s.mode.cur = .switchover && t.mode.cur ≠ .switchover then
      t.plannedBack.peerTry.resumeAll
    else t)

end Sys2Proof.Machine
end

