-- ==== Sys2Proof/Machine/Dispatch.lean ====
section
/-! DEFINITION. The effect of every command: one arm per constructor of Instr, one meaning each. -/

namespace Sys2Proof.Machine

/-- The effect of a command on everything but the queue of waiting commands. -/
def exec (i : Instr) (s : State) : Host.Outcome State Fault Refusal :=
  match i with
  | .vaux3Applied straps => Sys2Proof.Machine.execVaux3Applied straps s
  | .vaux3OutOfWindow lost => Sys2Proof.Machine.execVaux3OutOfWindow lost s
  | .rstnAsserted => Sys2Proof.Machine.execRstnAsserted s
  | .rstnReleased => Sys2Proof.Machine.execRstnReleased s
  | .selfTestComplete u ok => Sys2Proof.Machine.execSelfTestComplete u ok s
  | .claimTimer => Sys2Proof.Machine.execClaimTimer s
  | .roleDecision => Sys2Proof.Machine.execRoleDecision s
  | .vin12Good => Sys2Proof.Machine.execVin12Good s
  | .stateRowScanComplete u bad => Sys2Proof.Machine.execStateRowScanComplete u bad s
  | .vin12Lost => Sys2Proof.Machine.execVin12Lost s
  | .holdupSequenceComplete => Sys2Proof.Machine.execHoldupSequenceComplete s
  | .holdExhausted => Sys2Proof.Machine.execHoldExhausted s
  | .holdChargeStart mv => Sys2Proof.Machine.execHoldChargeStart mv s
  | .holdChargeEnd t => Sys2Proof.Machine.execHoldChargeEnd t s
  | .vcoreFault u => Sys2Proof.Machine.execVcoreFault u s
  | .vcoreSetWrite q u v => Sys2Proof.Machine.execVcoreSetWrite q u v s
  | .paceWindow u counts => Sys2Proof.Machine.execPaceWindow u counts s
  | .paceTripExpiry u => Sys2Proof.Machine.execPaceTripExpiry u s
  | .sensorRead u n r => Sys2Proof.Machine.execSensorRead u n r s
  | .thermalTrip u => Sys2Proof.Machine.execThermalTrip u s
  | .penGrant => Sys2Proof.Machine.execPenGrant s
  | .sampleOverrun p a => Sys2Proof.Machine.execSampleOverrun p a s
  | .writeUnderrun p a => Sys2Proof.Machine.execWriteUnderrun p a s
  | .planWrite p a half off data => Sys2Proof.Machine.execPlanWrite p a half off data s
  | .planCommit p a sweep => Sys2Proof.Machine.execPlanCommit p a sweep s
  | .planCommitUnlock p a => Sys2Proof.Machine.execPlanCommitUnlock p a s
  | .planDeadline p a => Sys2Proof.Machine.execPlanDeadline p a s
  | .sweepEdge p => Sys2Proof.Machine.execSweepEdge p s
  | .sweepReferenceEdge => Sys2Proof.Machine.execSweepReferenceEdge s
  | .requestedModeWrite q u v => Sys2Proof.Machine.execRequestedModeWrite q u v s
  | .drainComplete => Sys2Proof.Machine.execDrainComplete s
  | .quiescentToFiddlehead => Sys2Proof.Machine.execQuiescentToFiddlehead s
  | .fltnAsserted u p => Sys2Proof.Machine.execFltnAsserted u p s
  | .fltnReleased u p => Sys2Proof.Machine.execFltnReleased u p s
  | .fltnIsolation p => Sys2Proof.Machine.execFltnIsolation p s
  | .rawEdge u p ix level => Sys2Proof.Machine.execRawEdge u p ix level s
  | .chatterExit u p ix => Sys2Proof.Machine.execChatterExit u p ix s
  | .prsnAsserted u p => Sys2Proof.Machine.execPrsnAsserted u p s
  | .presenceConfirmed p => Sys2Proof.Machine.execPresenceConfirmed p s
  | .prsnDeasserted u p => Sys2Proof.Machine.execPrsnDeasserted u p s
  | .spinMismatch u p readback => Sys2Proof.Machine.execSpinMismatch u p readback s
  | .laneTrainingStep u p r => Sys2Proof.Machine.execLaneTrainingStep u p r s
  | .laneTrainingTimeout u p => Sys2Proof.Machine.execLaneTrainingTimeout u p s
  | .laneFail u p lane lost errors => Sys2Proof.Machine.execLaneFail u p lane lost errors s
  | .laneRetrainComplete u p lane => Sys2Proof.Machine.execLaneRetrainComplete u p lane s
  | .ctWindow u p count laneOut => Sys2Proof.Machine.execCtWindow u p count laneOut s
  | .ctTimeout p => Sys2Proof.Machine.execCtTimeout p s
  | .lineDisagree p => Sys2Proof.Machine.execLineDisagree p s
  | .offline q u p => Sys2Proof.Machine.execOffline q u p s
  | .online q u p => Sys2Proof.Machine.execOnline q u p s
  | .retry q u p => Sys2Proof.Machine.execRetry q u p s
  | .telemetryFrame u p obey fault frame => Sys2Proof.Machine.execTelemetryFrame u p obey fault frame s
  | .clockTrackFrame u p cycles idx0 idx1 phase lock => Sys2Proof.Machine.execClockTrackFrame u p cycles idx0 idx1 phase lock s
  | .alignmentMarker u p a lane index => Sys2Proof.Machine.execAlignmentMarker u p a lane index s
  | .pn2TokenAccept p u => Sys2Proof.Machine.execPn2TokenAccept p u s
  | .pn2SpinDecode p u c => Sys2Proof.Machine.execPn2SpinDecode p u c s
  | .pn2SpinInvalid p u => Sys2Proof.Machine.execPn2SpinInvalid p u s
  | .pn2WriteGateOn p a u => Sys2Proof.Machine.execPn2WriteGateOn p a u s
  | .pn2WriteGateOff p a block => Sys2Proof.Machine.execPn2WriteGateOff p a block s
  | .pn2CommandSlot p a got errs => Sys2Proof.Machine.execPn2CommandSlot p a got errs s
  | .pn2ServoWindow p a wedge => Sys2Proof.Machine.execPn2ServoWindow p a wedge s
  | .pn2MotorBlockApply p got err => Sys2Proof.Machine.execPn2MotorBlockApply p got err s
  | .armStart p a write => Sys2Proof.Machine.execArmStart p a write s
  | .sectorSamplesEnd p a d => Sys2Proof.Machine.execSectorSamplesEnd p a d s
  | .decodeComplete p a => Sys2Proof.Machine.execDecodeComplete p a s
  | .replayComplete p a => Sys2Proof.Machine.execReplayComplete p a s
  | .paramLoadComplete p a late => Sys2Proof.Machine.execParamLoadComplete p a late s
  | .rawCheckComplete p a => Sys2Proof.Machine.execRawCheckComplete p a s
  | .wrsetTimeout p a => Sys2Proof.Machine.execWrsetTimeout p a s
  | .nop q w => Sys2Proof.Machine.execNop q w s
  | .brz q w => Sys2Proof.Machine.execBrz q w s
  | .brneg q w => Sys2Proof.Machine.execBrneg q w s
  | .breqi q w => Sys2Proof.Machine.execBreqi q w s
  | .brlt q w => Sys2Proof.Machine.execBrlt q w s
  | .brbit q w => Sys2Proof.Machine.execBrbit q w s
  | .brflag q w => Sys2Proof.Machine.execBrflag q w s
  | .djnz q w => Sys2Proof.Machine.execDjnz q w s
  | .call q w => Sys2Proof.Machine.execCall q w s
  | .ret q w => Sys2Proof.Machine.execRet q w s
  | .switch q w => Sys2Proof.Machine.execSwitch q w s
  | .endsweep q w => Sys2Proof.Machine.execEndsweep q w s
  | .abort q w => Sys2Proof.Machine.execAbort q w s
  | .fence q w => Sys2Proof.Machine.execFence q w s
  | .waitidx q w => Sys2Proof.Machine.execWaitidx q w s
  | .trap q w => Sys2Proof.Machine.execTrap q w s
  | .ldi q w => Sys2Proof.Machine.execLdi q w s
  | .ldis q w => Sys2Proof.Machine.execLdis q w s
  | .ldim q w => Sys2Proof.Machine.execLdim q w s
  | .ldih q w => Sys2Proof.Machine.execLdih q w s
  | .mov q w => Sys2Proof.Machine.execMov q w s
  | .add q w => Sys2Proof.Machine.execAdd q w s
  | .addi q w => Sys2Proof.Machine.execAddi q w s
  | .sub q w => Sys2Proof.Machine.execSub q w s
  | .and q w => Sys2Proof.Machine.execAnd q w s
  | .andi q w => Sys2Proof.Machine.execAndi q w s
  | .or q w => Sys2Proof.Machine.execOr q w s
  | .ori q w => Sys2Proof.Machine.execOri q w s
  | .xor q w => Sys2Proof.Machine.execXor q w s
  | .shli q w => Sys2Proof.Machine.execShli q w s
  | .shri q w => Sys2Proof.Machine.execShri q w s
  | .muli q w => Sys2Proof.Machine.execMuli q w s
  | .ldp q w => Sys2Proof.Machine.execLdp q w s
  | .nextitem q w => Sys2Proof.Machine.execNextitem q w s
  | .ldh q w => Sys2Proof.Machine.execLdh q w s
  | .ldm q w => Sys2Proof.Machine.execLdm q w s
  | .stm q w => Sys2Proof.Machine.execStm q w s
  | .post q w => Sys2Proof.Machine.execPost q w s
  | .msend q w => Sys2Proof.Machine.execMsend q w s
  | .mrecv q w => Sys2Proof.Machine.execMrecv q w s
  | .pred q w => Sys2Proof.Machine.execPred q w s
  | .pset q w => Sys2Proof.Machine.execPset q w s
  | .swap q w => Sys2Proof.Machine.execSwap q w s
  | .wrset q w => Sys2Proof.Machine.execWrset q w s
  | .srd q w => Sys2Proof.Machine.execSrd q w s
  | .swr q w => Sys2Proof.Machine.execSwr q w s
  | .cfrag q w => Sys2Proof.Machine.execCfrag q w s
  | .gateoff q w => Sys2Proof.Machine.execGateoff q w s
  | .seekreq q w => Sys2Proof.Machine.execSeekreq q w s
  | .replay q w => Sys2Proof.Machine.execReplay q w s
  | .armclr q w => Sys2Proof.Machine.execArmclr q w s
  | .ctsnap q w => Sys2Proof.Machine.execCtsnap q w s
  | .ticket q w => Sys2Proof.Machine.execTicket q w s
  | .wfeed q w => Sys2Proof.Machine.execWfeed q w s
  | .evsend q w => Sys2Proof.Machine.execEvsend q w s
  | .evclr q w => Sys2Proof.Machine.execEvclr q w s
  | .illegalOp q corrected => Sys2Proof.Machine.execIllegalOp q corrected s
  | .seqOpUnblocked q => Sys2Proof.Machine.execSeqOpUnblocked q s
  | .delayExpiry q => Sys2Proof.Machine.execDelayExpiry q s
  | .waitConditionMet q => Sys2Proof.Machine.execWaitConditionMet q s
  | .seqWatchdog q => Sys2Proof.Machine.execSeqWatchdog q s
  | .replicaCalibration u p a stages => Sys2Proof.Machine.execReplicaCalibration u p a stages s
  | .controlStoreReload q => Sys2Proof.Machine.execControlStoreReload q s
  | .evPulse u coder => Sys2Proof.Machine.execEvPulse u coder s
  | .mcStageWrite q u data => Sys2Proof.Machine.execMcStageWrite q u data s
  | .mcVerify q u => Sys2Proof.Machine.execMcVerify q u s
  | .mcVerifyComplete => Sys2Proof.Machine.execMcVerifyComplete s
  | .mcLoad q u => Sys2Proof.Machine.execMcLoad q u s
  | .mcLoadComplete peerOk => Sys2Proof.Machine.execMcLoadComplete peerOk s
  | .mcPersist q u => Sys2Proof.Machine.execMcPersist q u s
  | .mcRevert q u => Sys2Proof.Machine.execMcRevert q u s
  | .servoDecodeComplete p a d other => Sys2Proof.Machine.execServoDecodeComplete p a d other s
  | .outerProductComplete p a mismatch other => Sys2Proof.Machine.execOuterProductComplete p a mismatch other s
  | .servoTelemetryBlock p a b other => Sys2Proof.Machine.execServoTelemetryBlock p a b other s
  | .innerFrameStart p a k j own other => Sys2Proof.Machine.execInnerFrameStart p a k j own other s
  | .loopSafeHoldExpiry p a => Sys2Proof.Machine.execLoopSafeHoldExpiry p a s
  | .bankWrite q u p a bank data => Sys2Proof.Machine.execBankWrite q u p a bank data s
  | .bankSwap q u p a v => Sys2Proof.Machine.execBankSwap q u p a v s
  | .actLoad q u p a => Sys2Proof.Machine.execActLoad q u p a s
  | .actUnload q u p a => Sys2Proof.Machine.execActUnload q u p a s
  | .actRetract q u p a => Sys2Proof.Machine.execActRetract q u p a s
  | .loadTimeout p a => Sys2Proof.Machine.execLoadTimeout p a s
  | .acqTimeout p a => Sys2Proof.Machine.execAcqTimeout p a s
  | .seekTimeout p a => Sys2Proof.Machine.execSeekTimeout p a s
  | .unloadTimeout p a => Sys2Proof.Machine.execUnloadTimeout p a s
  | .retractTimeout p a => Sys2Proof.Machine.execRetractTimeout p a s
  | .heaterSettleExpiry p a => Sys2Proof.Machine.execHeaterSettleExpiry p a s
  | .actuatorCalibrated p a d => Sys2Proof.Machine.execActuatorCalibrated p a d s
  | .motorTelemetryBlock p b other => Sys2Proof.Machine.execMotorTelemetryBlock p b other s
  | .measureTimeout p => Sys2Proof.Machine.execMeasureTimeout p s
  | .zcWindowClose p => Sys2Proof.Machine.execZcWindowClose p s
  | .commutation p => Sys2Proof.Machine.execCommutation p s
  | .dutyUpdate p => Sys2Proof.Machine.execDutyUpdate p s
  | .spindleIndex p before after => Sys2Proof.Machine.execSpindleIndex p before after s
  | .brakeProbe p => Sys2Proof.Machine.execBrakeProbe p s
  | .standstillTest p => Sys2Proof.Machine.execStandstillTest p s
  | .coastMaxExpiry p => Sys2Proof.Machine.execCoastMaxExpiry p s
  | .alignTimeExpiry p => Sys2Proof.Machine.execAlignTimeExpiry p s
  | .rampMaxExpiry p => Sys2Proof.Machine.execRampMaxExpiry p s
  | .spinupTimeout p => Sys2Proof.Machine.execSpinupTimeout p s
  | .recatchAttemptTimeout p => Sys2Proof.Machine.execRecatchAttemptTimeout p s
  | .recatchTimeout p => Sys2Proof.Machine.execRecatchTimeout p s
  | .sweepRpmWrite q u v => Sys2Proof.Machine.execSweepRpmWrite q u v s
  | .nsCreate q u n => Sys2Proof.Machine.execNsCreate q u n s
  | .nsDelete q u n => Sys2Proof.Machine.execNsDelete q u n s
  | .nsDeletionComplete n => Sys2Proof.Machine.execNsDeletionComplete n s
  | .store t nsid key value opt hint => Sys2Proof.Machine.execStore t nsid key value opt hint s
  | .retrieve t nsid key len => Sys2Proof.Machine.execRetrieve t nsid key len s
  | .delete t nsid key => Sys2Proof.Machine.execDelete t nsid key s
  | .exist t nsid key => Sys2Proof.Machine.execExist t nsid key s
  | .list t nsid key len => Sys2Proof.Machine.execList t nsid key len s
  | .flush t nsid => Sys2Proof.Machine.execFlush t nsid s
  | .packWaitExpiry n => Sys2Proof.Machine.execPackWaitExpiry n s
  | .lateLimitExpiry set seq => Sys2Proof.Machine.execLateLimitExpiry set seq s
  | .widthWaitExpiry t => Sys2Proof.Machine.execWidthWaitExpiry t s
  | .sorusDecodeComplete set seq => Sys2Proof.Machine.execSorusDecodeComplete set seq s
  | .rebuildStep => Sys2Proof.Machine.execRebuildStep s
  | .checkpoint => Sys2Proof.Machine.execCheckpoint s
  | .compactionStep => Sys2Proof.Machine.execCompactionStep s
  | .memberRecognition p r => Sys2Proof.Machine.execMemberRecognition p r s
  | .indexRecoveryComplete ok => Sys2Proof.Machine.execIndexRecoveryComplete ok s
  | .stagingAck t => Sys2Proof.Machine.execStagingAck t s
  | .deleteIoSubmissionQueue t qid => Sys2Proof.Machine.execDeleteIoSubmissionQueue t qid s
  | .createIoSubmissionQueue t qid size cq contiguous => Sys2Proof.Machine.execCreateIoSubmissionQueue t qid size cq contiguous s
  | .getLogPage t lid off len rae => Sys2Proof.Machine.execGetLogPage t lid off len rae s
  | .deleteIoCompletionQueue t qid => Sys2Proof.Machine.execDeleteIoCompletionQueue t qid s
  | .createIoCompletionQueue t qid size vector contiguous => Sys2Proof.Machine.execCreateIoCompletionQueue t qid size vector contiguous s
  | .identify t cns nsid => Sys2Proof.Machine.execIdentify t cns nsid s
  | .nvmeAbort t sqid cid waiting => Sys2Proof.Machine.execNvmeAbort t sqid cid waiting s
  | .setFeatures t fid v => Sys2Proof.Machine.execSetFeatures t fid v s
  | .getFeatures t fid => Sys2Proof.Machine.execGetFeatures t fid s
  | .asynchronousEventRequest t => Sys2Proof.Machine.execAsynchronousEventRequest t s
  | .firmwareImageDownload t off data => Sys2Proof.Machine.execFirmwareImageDownload t off data s
  | .fwCommitStore t slot => Sys2Proof.Machine.execFwCommitStore t slot s
  | .fwCommitStoreActivateReset t slot => Sys2Proof.Machine.execFwCommitStoreActivateReset t slot s
  | .fwCommitActivateReset t slot => Sys2Proof.Machine.execFwCommitActivateReset t slot s
  | .fwCommitActivateNow t slot => Sys2Proof.Machine.execFwCommitActivateNow t slot s
  | .dictionaryWrite t m target index sub data => Sys2Proof.Machine.execDictionaryWrite t m target index sub data s
  | .dictionaryRead t m target index sub off len => Sys2Proof.Machine.execDictionaryRead t m target index sub off len s
  | .invalidCommandOpcode t => Sys2Proof.Machine.execInvalidCommandOpcode t s
  | .commandFetch t len ready other => Sys2Proof.Machine.execCommandFetch t len ready other s
  | .forwardedCommand t len ready other => Sys2Proof.Machine.execForwardedCommand t len ready other s
  | .ccEnSet u asq acq => Sys2Proof.Machine.execCcEnSet u asq acq s
  | .controllerReset u => Sys2Proof.Machine.execControllerReset u s
  | .perstnAsserted u => Sys2Proof.Machine.execPerstnAsserted u s
  | .gddr7TrainingComplete u ok => Sys2Proof.Machine.execGddr7TrainingComplete u ok s
  | .bufferRead u addr len e => Sys2Proof.Machine.execBufferRead u addr len e s
  | .bufferWrite u addr data e => Sys2Proof.Machine.execBufferWrite u addr data e s
  | .mergeWriteback u group => Sys2Proof.Machine.execMergeWriteback u group s
  | .linkTransferFail u write fails => Sys2Proof.Machine.execLinkTransferFail u write fails s
  | .gddr7RetrainComplete u => Sys2Proof.Machine.execGddr7RetrainComplete u s
  | .gddr7TemperatureRead u t0 t1 => Sys2Proof.Machine.execGddr7TemperatureRead u t0 t1 s
  | .selfRefreshIdle u => Sys2Proof.Machine.execSelfRefreshIdle u s
  | .remapRequest q u group => Sys2Proof.Machine.execRemapRequest q u group s
  | .logClear q u v => Sys2Proof.Machine.execLogClear q u v s
  | .scrubStart q u => Sys2Proof.Machine.execScrubStart q u s
  | .scrubStop q u => Sys2Proof.Machine.execScrubStop q u s
  | .scrubGroup u e => Sys2Proof.Machine.execScrubGroup u e s
  | .scrubIntervalExpiry u => Sys2Proof.Machine.execScrubIntervalExpiry u s
  | .flipModeWrite q u v => Sys2Proof.Machine.execFlipModeWrite q u v s
  | .cacheAccess u addr len data e => Sys2Proof.Machine.execCacheAccess u addr len data e s
  | .cacheWritebackComplete u => Sys2Proof.Machine.execCacheWritebackComplete u s
  | .wayEnableWrite q u v => Sys2Proof.Machine.execWayEnableWrite q u v s
  | .wayCleanDone u way => Sys2Proof.Machine.execWayCleanDone u way s
  | .cacheEnable q u => Sys2Proof.Machine.execCacheEnable q u s
  | .cacheDisable q u => Sys2Proof.Machine.execCacheDisable q u s
  | .cacheDisableComplete u => Sys2Proof.Machine.execCacheDisableComplete u s
  | .chArm q u n streams => Sys2Proof.Machine.execChArm q u n streams s
  | .chStop q u n => Sys2Proof.Machine.execChStop q u n s
  | .dmaBurstResponse u n e => Sys2Proof.Machine.execDmaBurstResponse u n e s
  | .timerTick u t => Sys2Proof.Machine.execTimerTick u t s
  | .timerWrite q u ix v => Sys2Proof.Machine.execTimerWrite q u ix v s
  | .evFire q u v => Sys2Proof.Machine.execEvFire q u v s
  | .domainPowerDown q u d => Sys2Proof.Machine.execDomainPowerDown q u d s
  | .domainPowerDownComplete u d => Sys2Proof.Machine.execDomainPowerDownComplete u d s
  | .domainPowerUp q u d => Sys2Proof.Machine.execDomainPowerUp q u d s
  | .ringTailWrite q u e v => Sys2Proof.Machine.execRingTailWrite q u e v s
  | .ringBaseWrite q u e v => Sys2Proof.Machine.execRingBaseWrite q u e v s
  | .engineJobComplete u e verifyFail bus => Sys2Proof.Machine.execEngineJobComplete u e verifyFail bus s
  | .firmwareVerifyComplete u bad1 bad2 => Sys2Proof.Machine.execFirmwareVerifyComplete u bad1 bad2 s
  | .fwRecoveryStageWrite q u data => Sys2Proof.Machine.execFwRecoveryStageWrite q u data s
  | .recoveryCheckComplete => Sys2Proof.Machine.execRecoveryCheckComplete s
  | .bootselChange high => Sys2Proof.Machine.execBootselChange high s
  | .tokenReq m port => Sys2Proof.Machine.execTokenReq m port s
  | .tokenGrant number surge => Sys2Proof.Machine.execTokenGrant number surge s
  | .tokenReturn m number => Sys2Proof.Machine.execTokenReturn m number s
  | .tokenExpiry number => Sys2Proof.Machine.execTokenExpiry number s
  | .ledgerRebuildHoldoffExpiry => Sys2Proof.Machine.execLedgerRebuildHoldoffExpiry s
  | .rootlessWaitExpiry => Sys2Proof.Machine.execRootlessWaitExpiry s
  | .griugTrainingStep u l r => Sys2Proof.Machine.execGriugTrainingStep u l r s
  | .griugPacketReceive u l f => Sys2Proof.Machine.execGriugPacketReceive u l f s
  | .griugReplayTimeout u l => Sys2Proof.Machine.execGriugReplayTimeout u l s
  | .griugLinkDown u l => Sys2Proof.Machine.execGriugLinkDown u l s
  | .griugHoldExpiry m port => Sys2Proof.Machine.execGriugHoldExpiry m port s
  | .griugDropExpiry m port => Sys2Proof.Machine.execGriugDropExpiry m port s
  | .isolationTimeout => Sys2Proof.Machine.execIsolationTimeout s
  | .enumQuery tag => Sys2Proof.Machine.execEnumQuery tag s
  | .enumState m p0 p1 => Sys2Proof.Machine.execEnumState m p0 p1 s
  | .enumAssign port number depth => Sys2Proof.Machine.execEnumAssign port number depth s
  | .enumLevelWait => Sys2Proof.Machine.execEnumLevelWait s
  | .cmd tag c => Sys2Proof.Machine.execCmd tag c s
  | .dataReq m tag off len => Sys2Proof.Machine.execDataReq m tag off len s
  | .data m tag off data => Sys2Proof.Machine.execData m tag off data s
  | .cpl m tag sct sc dnr crd dw0 => Sys2Proof.Machine.execCpl m tag sct sc dnr crd dw0 s
  | .event m ty info log => Sys2Proof.Machine.execEvent m ty info log s
  | .dict src tag b => Sys2Proof.Machine.execDict src tag b s
  | .standbyReady overlap => Sys2Proof.Machine.execStandbyReady overlap s
  | .mirrorMessage lag replays => Sys2Proof.Machine.execMirrorMessage lag replays s
  | .mirrorLinkDown half => Sys2Proof.Machine.execMirrorLinkDown half s
  | .mirrorRetrain up => Sys2Proof.Machine.execMirrorRetrain up s
  | .checkTrip c => Sys2Proof.Machine.execCheckTrip c s
  | .islandTrip u quiet => Sys2Proof.Machine.execIslandTrip u quiet s
  | .standbyCheckTrip c => Sys2Proof.Machine.execStandbyCheckTrip c s
  | .release => Sys2Proof.Machine.execRelease s
  | .takeoverComplete => Sys2Proof.Machine.execTakeoverComplete s
  | .rejoinResetRelease u => Sys2Proof.Machine.execRejoinResetRelease u s
  | .plannedSwitchover q u => Sys2Proof.Machine.execPlannedSwitchover q u s
  | .rejoinAttempt q u => Sys2Proof.Machine.execRejoinAttempt q u s
  | .warmRestart u => Sys2Proof.Machine.execWarmRestart u s
  | .activationStepAdvance => Sys2Proof.Machine.execActivationStepAdvance s
  | .statusClear q u index sub ones => Sys2Proof.Machine.execStatusClear q u index sub ones s
  | .emergency => Sys2Proof.Machine.execEmergency s
  | .eventPageProgram u errs => Sys2Proof.Machine.execEventPageProgram u errs s
  | .erRecordRead q u => Sys2Proof.Machine.execErRecordRead q u s
  | .erChallengeRead q u => Sys2Proof.Machine.execErChallengeRead q u s
  | .erClearResponseWrite q u data => Sys2Proof.Machine.execErClearResponseWrite q u data s
  | .readPage u ix addr errs => Sys2Proof.Machine.execReadPage u ix addr errs s
  | .programPage u ix addr data => Sys2Proof.Machine.execProgramPage u ix addr data s
  | .jfProgramComplete u errs => Sys2Proof.Machine.execJfProgramComplete u errs s
  | .eraseBlock u ix addr => Sys2Proof.Machine.execEraseBlock u ix addr s
  | .jfEraseComplete u verified => Sys2Proof.Machine.execJfEraseComplete u verified s
  | .eraseSuspend u ix addr => Sys2Proof.Machine.execEraseSuspend u ix addr s
  | .eraseResume u ix addr => Sys2Proof.Machine.execEraseResume u ix addr s
  | .readStatus u ix addr => Sys2Proof.Machine.execReadStatus u ix addr s
  | .blankCheck u ix addr => Sys2Proof.Machine.execBlankCheck u ix addr s
  | .readStateRow u ix addr => Sys2Proof.Machine.execReadStateRow u ix addr s
  | .retireBlock u ix addr => Sys2Proof.Machine.execRetireBlock u ix addr s
  | .moveMap u ix addr src => Sys2Proof.Machine.execMoveMap u ix addr src s
  | .registerWrite q u index sub data => Sys2Proof.Machine.execRegisterWrite q u index sub data s
  | .expeditedRead u f => Sys2Proof.Machine.execExpeditedRead u f s
  | .expeditedWrite u f => Sys2Proof.Machine.execExpeditedWrite u f s
  | .segmentedReadInitiate u f => Sys2Proof.Machine.execSegmentedReadInitiate u f s
  | .segmentedWriteInitiate u f => Sys2Proof.Machine.execSegmentedWriteInitiate u f s
  | .segment u f => Sys2Proof.Machine.execSegment u f s
  | .segmentAcknowledge u f => Sys2Proof.Machine.execSegmentAcknowledge u f s
  | .kdapAbort u f => Sys2Proof.Machine.execKdapAbort u f s
  | .kdapRetransmitTimeout u src transId => Sys2Proof.Machine.execKdapRetransmitTimeout u src transId s
  | .kdapTransferTimeout u src transId => Sys2Proof.Machine.execKdapTransferTimeout u src transId s
  | .discoveryAnswer u f => Sys2Proof.Machine.execDiscoveryAnswer u f s
  | .heartbeat u => Sys2Proof.Machine.execHeartbeat u s
  | .heartbeatReceived u src nodeId => Sys2Proof.Machine.execHeartbeatReceived u src nodeId s
  | .timeSync u f frac => Sys2Proof.Machine.execTimeSync u f frac s
  | .timeFollowUp u f => Sys2Proof.Machine.execTimeFollowUp u f s
  | .timeHoldExpiry u => Sys2Proof.Machine.execTimeHoldExpiry u s
  | .authChallengeRead q u => Sys2Proof.Machine.execAuthChallengeRead q u s
  | .authResponseWrite q u data => Sys2Proof.Machine.execAuthResponseWrite q u data s
  | .authClose q u v => Sys2Proof.Machine.execAuthClose q u v s
  | .authWindowExpiry q u => Sys2Proof.Machine.execAuthWindowExpiry q u s
  | .authLockoutExpiry q u => Sys2Proof.Machine.execAuthLockoutExpiry q u s
  | .settingsSave u => Sys2Proof.Machine.execSettingsSave u s
  | .timestampSave u => Sys2Proof.Machine.execTimestampSave u s
  | .kdapEthertypeWrite q u v => Sys2Proof.Machine.execKdapEthertypeWrite q u v s
  | .restoreDefaults q u v => Sys2Proof.Machine.execRestoreDefaults q u v s
  | .mondisBlow q u v okA okB => Sys2Proof.Machine.execMondisBlow q u v okA okB s
  | .fwMinSvnWrite q u v okA okB => Sys2Proof.Machine.execFwMinSvnWrite q u v okA okB s
  | .mgmtKeyWrite q u data okA okB => Sys2Proof.Machine.execMgmtKeyWrite q u data okA okB s
  | .erKeyWrite q u data okA okB => Sys2Proof.Machine.execErKeyWrite q u data okA okB s
  | .rawCommand q u p a v => Sys2Proof.Machine.execRawCommand q u p a v s
  | .rawOperationComplete p a => Sys2Proof.Machine.execRawOperationComplete p a s
  | .bufWinDataAccess q u write => Sys2Proof.Machine.execBufWinDataAccess q u write s
  | .monLine text dropped => Sys2Proof.Machine.execMonLine text dropped s
  | .monHelp => Sys2Proof.Machine.execMonHelp s
  | .monId m => Sys2Proof.Machine.execMonId m s
  | .monPeek m index sub => Sys2Proof.Machine.execMonPeek m index sub s
  | .monPoke m index sub data => Sys2Proof.Machine.execMonPoke m index sub data s
  | .monDump m index sub off len => Sys2Proof.Machine.execMonDump m index sub off len s
  | .monMode code => Sys2Proof.Machine.execMonMode code s
  | .monEv m n => Sys2Proof.Machine.execMonEv m n s
  | .monEvFrom m n => Sys2Proof.Machine.execMonEvFrom m n s
  | .monEvTail m => Sys2Proof.Machine.execMonEvTail m s
  | .monTrace m index sub => Sys2Proof.Machine.execMonTrace m index sub s
  | .monTraceOff => Sys2Proof.Machine.execMonTraceOff s
  | .monJfStatus m block => Sys2Proof.Machine.execMonJfStatus m block s
  | .monJfRead m block page errs => Sys2Proof.Machine.execMonJfRead m block page errs s
  | .monJfCounters m => Sys2Proof.Machine.execMonJfCounters m s
  | .monSeqHalt m k => Sys2Proof.Machine.execMonSeqHalt m k s
  | .monSeqStep m k n => Sys2Proof.Machine.execMonSeqStep m k n s
  | .monSeqRun m k => Sys2Proof.Machine.execMonSeqRun m k s
  | .monSeqRegs m k => Sys2Proof.Machine.execMonSeqRegs m k s
  | .monAuth m => Sys2Proof.Machine.execMonAuth m s
  | .monAuthResponse m data => Sys2Proof.Machine.execMonAuthResponse m data s
  | .monBaud rate => Sys2Proof.Machine.execMonBaud rate s
  | .baudRevert => Sys2Proof.Machine.execBaudRevert s
  | .hostPortTrained u up => Sys2Proof.Machine.execHostPortTrained u up s
  | .plcaBeacon u received => Sys2Proof.Machine.execPlcaBeacon u received s
  | .rejoinSettleExpiry => Sys2Proof.Machine.execRejoinSettleExpiry s
  | .authChallengeExpiry q u => Sys2Proof.Machine.execAuthChallengeExpiry q u s
  | .erChallengeExpiry q u => Sys2Proof.Machine.execErChallengeExpiry q u s

end Sys2Proof.Machine
end

