-- ==== Sys2Proof/WellFormed.lean ====
section
/-! DEFINITION. Well-formed commands: every operand within the field that carries it. A field that its type already bounds needs no
check. -/

namespace Sys2Proof.Machine

/-- A value that, if present, passes a check. -/
def optAll {α : Type} (o : Option α) (f : α → Bool) : Bool := match o with | none => true | some a => f a

/-- A requester: a MAC address has 48 bits. -/
def Requester.wf : Requester → Bool
  | .kdap mac => mac < 2 ^ 48
  | .inband _ | .monitor | .firmware => true

/-- A submission: queues 0 to 64 (R333), a 16-bit command identifier. -/
def CmdTag.wf (t : CmdTag) : Bool := t.sq ≤ 64 && t.cid < 65536

/-- A management frame (R571, R572): its header fields within their widths. -/
def KdapFrame.wf (f : KdapFrame) : Bool :=
  f.src < 2 ^ 48 && f.queued ≤ 2 && f.etherType < 65536 && f.version < 256 && f.transId < 65536 && f.index < 65536 && f.sub < 256 &&
  f.param < 2 ^ 32 && f.length < 65536 && f.seq < 256

/-- A partner's report (R444, R451): a serial of 20 bytes, tokens with at most 14 s left. -/
def PartnerSeen.wf : PartnerSeen → Bool
  | .none | .training => true
  | .partner serial tokens => serial.length ≤ 20 && tokens.all (fun t => t.1 < 256 && t.2 ≤ 14000000)

/-- A key-value command of a CMD packet (R281, R451). -/
def KvSub.wf (c : KvSub) : Bool := c.ns < 16 && c.key.length ≤ 16 && c.len < 2 ^ 32

/-- A payload (R450, R451): fields within their widths, at most 4096 bytes of data. -/
def PktBody.wf : PktBody → Bool
  | .enumQuery => true
  | .enumState p0 p1 => p0.wf && p1.wf
  | .enumAssign port number depth => port < 2 && number < 64 && depth ≤ 6
  | .cmd c => c.wf
  | .dataReq len => len ≤ 4096
  | .data bytes => bytes.length ≤ 4096
  | .cpl sct sc _ crd dw0 => sct < 8 && sc < 256 && crd < 4 && dw0 < 2 ^ 32
  | .tokenReq port => port < 16
  | .tokenGrant number surge => number < 256 && surge < 65536
  | .tokenReturn number => number < 256
  | .event ty info log => ty < 256 && info < 256 && log < 256
  | .dictReq _ _ _ index sub d => index < 65536 && sub < 256 && d.length < 2 ^ 32
  | .dictRsp err d => err < 256 && d.length < 2 ^ 32

/-- The payload is a dictionary request or answer (TYPE 40h of R451). -/
def PktBody.isDict : PktBody → Bool
  | .dictReq .. | .dictRsp .. => true
  | .enumQuery | .enumState .. | .enumAssign .. | .cmd _ | .dataReq _ | .data _ | .cpl .. | .tokenReq _ | .tokenGrant .. |
    .tokenReturn _ | .event .. => false

/-- A packet (R450). -/
def Packet.wf (p : Packet) : Bool := p.body.wf && p.dest < 256 && p.src < 256 && p.tag < 2 ^ 32 && p.offset < 2 ^ 32

/-- A frame of a Griug link. -/
def LinkFrame.wf : LinkFrame → Bool
  | .packet _ _ p => p.wf
  | .ack _ | .nak _ => true

/-- The identity an HDA reports (R51): 1 or 2 actuators and 1 to 16 heads. -/
def HdaIdentity.wf (i : HdaIdentity) : Bool := 1 ≤ i.acts && i.acts ≤ 2 && 1 ≤ i.heads && i.heads ≤ 16 && i.serial.length ≤ 20

/-- A training report. -/
def TrainReport.wf : TrainReport → Bool
  | .identity i => i.wf
  | .plain | .skew _ => true

/-- A training step of a Griug link. -/
def GriugStep.wf : GriugStep → Bool
  | .ident i => i.serial.length ≤ 20 && optAll i.number (fun n => n < 64) && optAll i.depth (fun d => d ≤ 6) &&
    i.tokens.all (fun t => t.1 < 256 && t.2 ≤ 14000000)
  | .done | .twoLanes | .failed => true

/-- Errors shown to a memory access: masks within a code group of 8 × 72 bytes and within the 9 bytes of it on a lane, and the words of a cache line. -/
def MemErrs.wf (e : MemErrs) : Bool := e.noise.all (fun x => x.1 < 576) && e.lanes.all (fun x => x.1 < 64 && x.2.length ≤ 9) && e.line.all (fun x => x.1 < 64)

end Sys2Proof.Machine

namespace Sys2Proof

open Machine

/-- Well-formed commands. -/
def Instr.wf : Instr → Bool
  | .vaux3Applied straps => straps.plcaId < 64
  | .vaux3OutOfWindow _ => true
  | .rstnAsserted => true
  | .rstnReleased => true
  | .selfTestComplete _ _ => true
  | .claimTimer => true
  | .roleDecision => true
  | .vin12Good => true
  | .stateRowScanComplete _ _ => true
  | .vin12Lost => true
  | .holdupSequenceComplete => true
  | .holdExhausted => true
  | .holdChargeStart _ => true
  | .holdChargeEnd _ => true
  | .vcoreFault _ => true
  | .vcoreSetWrite q _ _ => q.wf
  | .paceWindow _ _ => true
  | .paceTripExpiry _ => true
  | .sensorRead _ _ _ => true
  | .thermalTrip _ => true
  | .penGrant => true
  | .sampleOverrun _ _ => true
  | .writeUnderrun _ _ => true
  | .planWrite _ _ _ off d => off.toNat + d.length ≤ 16384
  | .planCommit _ _ _ => true
  | .planCommitUnlock _ _ => true
  | .planDeadline _ _ => true
  | .sweepEdge _ => true
  | .sweepReferenceEdge => true
  | .requestedModeWrite q _ _ => q.wf
  | .drainComplete => true
  | .quiescentToFiddlehead => true
  | .fltnAsserted _ _ => true
  | .fltnReleased _ _ => true
  | .fltnIsolation _ => true
  | .rawEdge _ _ _ _ => true
  | .chatterExit _ _ _ => true
  | .prsnAsserted _ _ => true
  | .presenceConfirmed _ => true
  | .prsnDeasserted _ _ => true
  | .spinMismatch _ _ _ => true
  | .laneTrainingStep _ _ r => r.wf
  | .laneTrainingTimeout _ _ => true
  | .laneFail _ _ _ _ _ => true
  | .laneRetrainComplete _ _ _ => true
  | .ctWindow _ _ _ _ => true
  | .ctTimeout _ => true
  | .lineDisagree _ => true
  | .offline q _ _ => q.wf
  | .online q _ _ => q.wf
  | .retry q _ _ => q.wf
  | .telemetryFrame _ _ _ _ _ => true
  | .clockTrackFrame _ _ _ _ _ _ _ => true
  | .alignmentMarker _ _ _ _ _ => true
  | .pn2TokenAccept _ _ => true
  | .pn2SpinDecode _ _ _ => true
  | .pn2SpinInvalid _ _ => true
  | .pn2WriteGateOn _ _ _ => true
  | .pn2WriteGateOff _ _ _ => true
  | .pn2CommandSlot _ _ _ _ => true
  | .pn2ServoWindow _ _ _ => true
  | .pn2MotorBlockApply _ _ _ => true
  | .armStart _ _ _ => true
  | .sectorSamplesEnd _ _ _ => true
  | .decodeComplete _ _ => true
  | .replayComplete _ _ => true
  | .paramLoadComplete _ _ _ => true
  | .rawCheckComplete _ _ => true
  | .wrsetTimeout _ _ => true
  | .nop _ _ => true
  | .brz _ _ => true
  | .brneg _ _ => true
  | .breqi _ _ => true
  | .brlt _ _ => true
  | .brbit _ _ => true
  | .brflag _ _ => true
  | .djnz _ _ => true
  | .call _ _ => true
  | .ret _ _ => true
  | .switch _ _ => true
  | .endsweep _ _ => true
  | .abort _ _ => true
  | .fence _ _ => true
  | .waitidx _ _ => true
  | .trap _ _ => true
  | .ldi _ _ => true
  | .ldis _ _ => true
  | .ldim _ _ => true
  | .ldih _ _ => true
  | .mov _ _ => true
  | .add _ _ => true
  | .addi _ _ => true
  | .sub _ _ => true
  | .and _ _ => true
  | .andi _ _ => true
  | .or _ _ => true
  | .ori _ _ => true
  | .xor _ _ => true
  | .shli _ _ => true
  | .shri _ _ => true
  | .muli _ _ => true
  | .ldp _ _ => true
  | .nextitem _ _ => true
  | .ldh _ _ => true
  | .ldm _ _ => true
  | .stm _ _ => true
  | .post _ _ => true
  | .msend _ _ => true
  | .mrecv _ _ => true
  | .pred _ _ => true
  | .pset _ _ => true
  | .swap _ _ => true
  | .wrset _ _ => true
  | .srd _ _ => true
  | .swr _ _ => true
  | .cfrag _ _ => true
  | .gateoff _ _ => true
  | .seekreq _ _ => true
  | .replay _ _ => true
  | .armclr _ _ => true
  | .ctsnap _ _ => true
  | .ticket _ _ => true
  | .wfeed _ _ => true
  | .evsend _ _ => true
  | .evclr _ _ => true
  | .illegalOp _ _ => true
  | .seqOpUnblocked _ => true
  | .delayExpiry _ => true
  | .waitConditionMet _ => true
  | .seqWatchdog _ => true
  | .replicaCalibration _ _ _ _ => true
  | .controlStoreReload _ => true
  | .evPulse _ _ => true
  | .mcStageWrite q _ _ => q.wf
  | .mcVerify q _ => q.wf
  | .mcVerifyComplete => true
  | .mcLoad q _ => q.wf
  | .mcLoadComplete _ => true
  | .mcPersist q _ => q.wf
  | .mcRevert q _ => q.wf
  | .servoDecodeComplete _ _ _ _ => true
  | .outerProductComplete _ _ _ _ => true
  | .servoTelemetryBlock _ _ _ _ => true
  | .innerFrameStart _ _ _ _ _ _ => true
  | .loopSafeHoldExpiry _ _ => true
  | .bankWrite q _ _ _ _ _ => q.wf
  | .bankSwap q _ _ _ _ => q.wf
  | .actLoad q _ _ _ => q.wf
  | .actUnload q _ _ _ => q.wf
  | .actRetract q _ _ _ => q.wf
  | .loadTimeout _ _ => true
  | .acqTimeout _ _ => true
  | .seekTimeout _ _ => true
  | .unloadTimeout _ _ => true
  | .retractTimeout _ _ => true
  | .heaterSettleExpiry _ _ => true
  | .actuatorCalibrated _ _ _ => true
  | .motorTelemetryBlock _ _ _ => true
  | .measureTimeout _ => true
  | .zcWindowClose _ => true
  | .commutation _ => true
  | .dutyUpdate _ => true
  | .spindleIndex _ _ _ => true
  | .brakeProbe _ => true
  | .standstillTest _ => true
  | .coastMaxExpiry _ => true
  | .alignTimeExpiry _ => true
  | .rampMaxExpiry _ => true
  | .spinupTimeout _ => true
  | .recatchAttemptTimeout _ => true
  | .recatchTimeout _ => true
  | .sweepRpmWrite q _ _ => q.wf
  | .nsCreate q _ _ => q.wf
  | .nsDelete q _ _ => q.wf
  | .nsDeletionComplete _ => true
  | .store t nsid key value _ _ => t.wf && (nsid < 2 ^ 32) && (key.length ≤ 16) && (value.length < 2 ^ 32)
  | .retrieve t nsid key len => t.wf && (nsid < 2 ^ 32) && (key.length ≤ 16) && (len < 2 ^ 32)
  | .delete t nsid key => t.wf && (nsid < 2 ^ 32) && (key.length ≤ 16)
  | .exist t nsid key => t.wf && (nsid < 2 ^ 32) && (key.length ≤ 16)
  | .list t nsid key len => t.wf && (nsid < 2 ^ 32) && (key.length ≤ 16) && (len < 2 ^ 32)
  | .flush t nsid => t.wf && (nsid < 2 ^ 32)
  | .packWaitExpiry _ => true
  | .lateLimitExpiry _ _ => true
  | .widthWaitExpiry t => t.wf
  | .sorusDecodeComplete _ _ => true
  | .rebuildStep => true
  | .checkpoint => true
  | .compactionStep => true
  | .memberRecognition _ _ => true
  | .indexRecoveryComplete _ => true
  | .stagingAck t => t.wf
  | .deleteIoSubmissionQueue t qid => t.wf && (qid < 65536)
  | .createIoSubmissionQueue t qid size cq _ => t.wf && (qid < 65536) && (size < 65537) && (cq < 65536)
  | .getLogPage t lid off len _ => t.wf && (lid < 256) && (off < 2 ^ 32) && (len < 2 ^ 32)
  | .deleteIoCompletionQueue t qid => t.wf && (qid < 65536)
  | .createIoCompletionQueue t qid size vector _ => t.wf && (qid < 65536) && (size < 65537) && (vector < 65536)
  | .identify t cns nsid => t.wf && (cns < 256) && (nsid < 2 ^ 32)
  | .nvmeAbort t sqid cid _ => t.wf && (sqid < 65536) && (cid < 65536)
  | .setFeatures t fid _ => t.wf && (fid < 256)
  | .getFeatures t fid => t.wf && (fid < 256)
  | .asynchronousEventRequest t => t.wf
  | .firmwareImageDownload t off d => t.wf && (off < 2 ^ 32) && (d.length < 2 ^ 32)
  | .fwCommitStore t _ => t.wf
  | .fwCommitStoreActivateReset t _ => t.wf
  | .fwCommitActivateReset t _ => t.wf
  | .fwCommitActivateNow t _ => t.wf
  | .dictionaryWrite t m _ index si d => t.wf && (m < 256) && (index < 65536) && (si < 256) && (d.length < 2 ^ 32)
  | .dictionaryRead t m _ index si off len => t.wf && (m < 256) && (index < 65536) && (si < 256) && (off < 2 ^ 32) && (len < 2 ^ 32)
  | .invalidCommandOpcode t => t.wf
  | .commandFetch t len _ _ => t.wf && (len < 2 ^ 32)
  | .forwardedCommand t len _ _ => t.wf && (len < 2 ^ 32)
  | .ccEnSet _ asq acq => (1 ≤ asq && asq ≤ 4096) && (1 ≤ acq && acq ≤ 4096)
  | .controllerReset _ => true
  | .perstnAsserted _ => true
  | .gddr7TrainingComplete _ _ => true
  | .bufferRead _ addr len e => (addr < 2 ^ 36) && (len < 2 ^ 32) && e.wf
  | .bufferWrite _ addr d e => (addr < 2 ^ 36) && (d.length < 2 ^ 32) && e.wf
  | .mergeWriteback _ group => group < 11184128
  | .linkTransferFail _ _ _ => true
  | .gddr7RetrainComplete _ => true
  | .gddr7TemperatureRead _ _ _ => true
  | .selfRefreshIdle _ => true
  | .remapRequest q _ _ => q.wf
  | .logClear q _ _ => q.wf
  | .scrubStart q _ => q.wf
  | .scrubStop q _ => q.wf
  | .scrubGroup _ e => e.wf
  | .scrubIntervalExpiry _ => true
  | .flipModeWrite q _ _ => q.wf
  | .cacheAccess _ addr len _ e => (addr < 2 ^ 36) && (len < 2 ^ 32) && e.wf
  | .cacheWritebackComplete _ => true
  | .wayEnableWrite q _ _ => q.wf
  | .wayCleanDone _ way => way < 16
  | .cacheEnable q _ => q.wf
  | .cacheDisable q _ => q.wf
  | .cacheDisableComplete _ => true
  | .chArm q _ _ _ => q.wf
  | .chStop q _ _ => q.wf
  | .dmaBurstResponse _ _ _ => true
  | .timerTick _ _ => true
  | .timerWrite q _ _ _ => q.wf
  | .evFire q _ _ => q.wf
  | .domainPowerDown q _ _ => q.wf
  | .domainPowerDownComplete _ _ => true
  | .domainPowerUp q _ _ => q.wf
  | .ringTailWrite q _ _ _ => q.wf
  | .ringBaseWrite q _ _ _ => q.wf
  | .engineJobComplete _ _ _ _ => true
  | .firmwareVerifyComplete _ _ _ => true
  | .fwRecoveryStageWrite q _ _ => q.wf
  | .recoveryCheckComplete => true
  | .bootselChange _ => true
  | .tokenReq m port => (m < 64) && (port < 16)
  | .tokenGrant number _ => number < 256
  | .tokenReturn m number => (m < 64) && (number < 256)
  | .tokenExpiry number => number < 256
  | .ledgerRebuildHoldoffExpiry => true
  | .rootlessWaitExpiry => true
  | .griugTrainingStep _ _ r => r.wf
  | .griugPacketReceive _ _ f => f.wf
  | .griugReplayTimeout _ _ => true
  | .griugLinkDown _ _ => true
  | .griugHoldExpiry m _ => m < 64
  | .griugDropExpiry m _ => m < 64
  | .isolationTimeout => true
  | .enumQuery tag => tag < 2 ^ 32
  | .enumState m p0 p1 => (m < 64) && p0.wf && p1.wf
  | .enumAssign _ number depth => (number < 64) && (depth < 7)
  | .enumLevelWait => true
  | .cmd tag c => (tag < 2 ^ 32) && c.wf
  | .dataReq m tag off len => (m < 64) && (tag < 2 ^ 32) && (off < 2 ^ 32) && (len < 2 ^ 32)
  | .data m tag off d => (m < 64) && (tag < 2 ^ 32) && (off < 2 ^ 32) && (d.length ≤ 4096)
  | .cpl m tag sct sc _ crd dw0 => (m < 64) && (tag < 2 ^ 32) && (sct < 8) && (sc < 256) && (crd < 4) && (dw0 < 2 ^ 32)
  | .event m ty info log => (m < 64) && (ty < 256) && (info < 256) && (log < 256)
  | .dict src tag b => (src < 256) && (tag < 2 ^ 32) && (b.wf && b.isDict)
  | .standbyReady _ => true
  | .mirrorMessage _ _ => true
  | .mirrorLinkDown _ => true
  | .mirrorRetrain _ => true
  | .checkTrip _ => true
  | .islandTrip _ _ => true
  | .standbyCheckTrip _ => true
  | .release => true
  | .takeoverComplete => true
  | .rejoinResetRelease _ => true
  | .plannedSwitchover q _ => q.wf
  | .rejoinAttempt q _ => q.wf
  | .warmRestart _ => true
  | .activationStepAdvance => true
  | .statusClear q _ index si _ => q.wf && (index < 65536) && (si < 256)
  | .emergency => true
  | .eventPageProgram _ _ => true
  | .erRecordRead q _ => q.wf
  | .erChallengeRead q _ => q.wf
  | .erClearResponseWrite q _ _ => q.wf
  | .readPage _ _ _ _ => true
  | .programPage _ _ _ d => d.length == 256
  | .jfProgramComplete _ _ => true
  | .eraseBlock _ _ _ => true
  | .jfEraseComplete _ _ => true
  | .eraseSuspend _ _ _ => true
  | .eraseResume _ _ _ => true
  | .readStatus _ _ _ => true
  | .blankCheck _ _ _ => true
  | .readStateRow _ _ _ => true
  | .retireBlock _ _ _ => true
  | .moveMap _ _ _ _ => true
  | .registerWrite q _ index si _ => q.wf && (index < 65536) && (si < 256)
  | .expeditedRead _ f => f.wf
  | .expeditedWrite _ f => f.wf
  | .segmentedReadInitiate _ f => f.wf
  | .segmentedWriteInitiate _ f => f.wf
  | .segment _ f => f.wf
  | .segmentAcknowledge _ f => f.wf
  | .kdapAbort _ f => f.wf
  | .kdapRetransmitTimeout _ src transId => (src < 2 ^ 48) && (transId < 65536)
  | .kdapTransferTimeout _ src transId => (src < 2 ^ 48) && (transId < 65536)
  | .discoveryAnswer _ f => f.wf
  | .heartbeat _ => true
  | .heartbeatReceived _ src nodeId => (src < 2 ^ 48) && (nodeId < 256)
  | .timeSync _ f frac => f.wf && (frac < 1000)
  | .timeFollowUp _ f => f.wf
  | .timeHoldExpiry _ => true
  | .authChallengeRead q _ => q.wf
  | .authResponseWrite q _ _ => q.wf
  | .authClose q _ _ => q.wf
  | .authWindowExpiry q _ => q.wf
  | .authLockoutExpiry q _ => q.wf
  | .settingsSave _ => true
  | .timestampSave _ => true
  | .kdapEthertypeWrite q _ _ => q.wf
  | .restoreDefaults q _ _ => q.wf
  | .mondisBlow q _ _ _ _ => q.wf
  | .fwMinSvnWrite q _ _ _ _ => q.wf
  | .mgmtKeyWrite q _ _ _ _ => q.wf
  | .erKeyWrite q _ _ _ _ => q.wf
  | .rawCommand q _ _ _ _ => q.wf
  | .rawOperationComplete _ _ => true
  | .bufWinDataAccess q _ write => q.wf && optAll write (fun d => d.length == 65536)
  | .monLine text _ => text.length < 2 ^ 16
  | .monHelp => true
  | .monId _ => true
  | .monPeek _ index si => (index < 65536) && (si < 256)
  | .monPoke _ index si _ => (index < 65536) && (si < 256)
  | .monDump _ index si off _ => (index < 65536) && (si < 256) && (off < 2 ^ 32)
  | .monMode _ => true
  | .monEv _ _ => true
  | .monEvFrom _ _ => true
  | .monEvTail _ => true
  | .monTrace _ index si => (index < 65536) && (si < 256)
  | .monTraceOff => true
  | .monJfStatus _ block => block < 65536
  | .monJfRead _ block _ _ => block < 65536
  | .monJfCounters _ => true
  | .monSeqHalt _ k => k < 65536
  | .monSeqStep _ k _ => k < 65536
  | .monSeqRun _ k => k < 65536
  | .monSeqRegs _ k => k < 65536
  | .monAuth _ => true
  | .monAuthResponse _ _ => true
  | .monBaud rate => rate < 2 ^ 32
  | .baudRevert => true
  | .hostPortTrained _ _ => true
  | .plcaBeacon _ _ => true
  | .rejoinSettleExpiry => true
  | .authChallengeExpiry q _ => q.wf
  | .erChallengeExpiry q _ => q.wf

end Sys2Proof
end

