-- ==== Sys2Proof/Safety.lean ====
section
/-! DEFINITION. What a safe run of the module is, in the terms claims use: a run that answers at every step, and the permanent
states of the fuses. -/

namespace Sys2Proof

open Machine

/-- A step that answers a next state. -/
def Machine.State.steps (s t : State) : Prop := step s = .next t

/-- States that a number of steps from a state reach. -/
inductive Machine.State.Reaches : State → State → Prop where
  | refl (s : State) : Reaches s s
  | step {s t v : State} (h : step s = .next t) (r : Reaches t v) : Reaches s v

/-- A state in which the machine does not stop. -/
def Machine.State.Live (s : State) : Prop := ∃ t, step s = .next t

/-- Every command that waits is well-formed. -/
def Machine.State.QueueWf (s : State) : Prop := s.pending.all Instr.wf = true

/-- What one fuse array may become (R589-R591): MONDIS stays blown, a key once provisioned stays, and the minimum security version
never falls. -/
structure Machine.FuseSt.Grows (f g : FuseSt) : Prop where
  mondis : f.mondis = true → g.mondis = true
  mgmtKey : ∀ k, f.mgmtKey = some k → g.mgmtKey = some k
  erKey : ∀ k, f.erKey = some k → g.erKey = some k
  minSvn : f.svn ≤ g.svn

/-- What the fuse arrays of both units may become. -/
def Machine.State.FusesGrow (s t : State) : Prop := ∀ u : UnitId, (s.getFuse u.code).Grows (t.getFuse u.code)

/-- A write of an object that passes the checks of R561 outside Switchover. -/
abbrev Machine.State.Accepts (s : State) (q : Requester) (u : UnitId) (k : Nat) (data : List Byte) : Prop :=
  s.mode.cur ≠ .switchover ∧ s.writeErr u (keyIndex k) (keySub k) q data = 0

/-- A host command that enters the command table, or waits in it, and runs now (R29, R334, R342, R344, R353). -/
abbrev Machine.State.Begins (s : State) (t : CmdTag) (len : Nat) : Prop :=
  s.cmds.any (fun c => c.tag == t && c.kind != .waiting) = false ∧ (s.fetch t len).2 = true ∧ (s.fetch t len).1.postsHeld = false

/-- An I/O command that begins and whose turn it is (R346). -/
abbrev Machine.State.BeginsIo (s : State) (t : CmdTag) (len : Nat) : Prop :=
  s.Begins t len ∧ (s.fetch t len).1.inTurn t = true

/-- A well-formed frame that a unit on the network takes as its own (R13, R571, R572): one sent to it, or a broadcast it answers, that
finds room in the FIFO. -/
abbrev Machine.State.Hears (s : State) (f : KdapFrame) (broadcastOk : Bool) : Prop :=
  s.kdapUp = true ∧ f.etherType = s.rd Obj.KDAP_ETHERTYPE ∧ (f.broadcast && !broadcastOk) = false ∧
    f.queued < 2 ∧ f.formed = true

/-- A line that the monitor runs (R585-R588): the monitor is up, not locked or the command exempt or a session open, and it is still up
when the command's body has ended in the state `t`. -/
abbrev Machine.State.RunsLine (s t : State) (exempt : Bool) : Prop :=
  s.monUp = true ∧
    (s.rd (Obj.MON_LOCK s.pair.active) ≠ 1 ∨ exempt = true ∨ s.session s.pair.active .monitor = true) ∧ t.monUp = true

/-- The state in which a line's body runs: the character counted, the line counted. -/
abbrev Machine.State.lineIn (s : State) : State := s.monChar.inc (Obj.MON_LINES s.pair.active)

/-- A sequencer that carries out a word of an operation: it runs and the monitor has not halted it, its control store holds the word at the
next address, the TIMING field names a delay or a wait condition that exists, and `u` is the state once the word is fetched: its address
in SEQ_PC and, where a bit of it had to be corrected, that counted (R156, R159, R161, R168, R174). -/
abbrev Machine.State.SeqReady (s : State) (q : SeqId) (o : SeqOp) (w : MicroWord) (u : State) : Prop :=
  (s.getSeq q.key).goes = true ∧ s.fetches q o w = true ∧ (q.xfer = true → w.timing.toNat < 0xD) ∧ u = s.seqFetch q w.corrected

end Sys2Proof
end

