-- ==== Sys2Proof/Certificates/Slice0/Obligations.lean ====
section
/-! DEFINITION. The statements for the provers. -/

open Sys2Proof Sys2Proof.Machine

/-- For every sequencer that carries out a fetched word whose A names one of G0-G31: LDI, LDIS, LDIM, LDIH, MOV, ADD, ADDI,
SUB, AND, ANDI, OR, ORI, XOR, SHLI, SHRI, MULI, LDP, LDH answer the next state in which G[A] holds the value of R160 (32-bit
arithmetic without carry, the immediate zero- or sign-extended, shifts by the low five bits), nothing else of the sequencer's
registers is written, the word's delay or wait condition follows and the next word is the one at NEXT. -/
def Obligations.SequencerRegisterOperations : Prop :=
  (∀ (s u : State) (q : SeqId) (w : MicroWord),
      s.SeqReady q .ldi w u →
      w.a.toNat < 32 →
      exec (.ldi q w) s =
      .next (((u.modSeq q.key (fun e => e.setG w.a.toNat (w.imm))).seqTiming q w w.next).grave)) ∧
  (∀ (s u : State) (q : SeqId) (w : MicroWord),
      s.SeqReady q .ldis w u →
      w.a.toNat < 32 →
      exec (.ldis q w) s =
      .next (((u.modSeq q.key (fun e => e.setG w.a.toNat (w.sext))).seqTiming q w w.next).grave)) ∧
  (∀ (s u : State) (q : SeqId) (w : MicroWord),
      s.SeqReady q .ldim w u →
      w.a.toNat < 32 →
      exec (.ldim q w) s =
      .next (((u.modSeq q.key (fun e => e.setG w.a.toNat ((u.seqA q w &&& 0xFF000FFF) ||| (w.imm <<< 12)))).seqTiming q w w.next).grave)) ∧
  (∀ (s u : State) (q : SeqId) (w : MicroWord),
      s.SeqReady q .ldih w u →
      w.a.toNat < 32 →
      exec (.ldih q w) s =
      .next (((u.modSeq q.key (fun e => e.setG w.a.toNat ((u.seqA q w &&& 0x00FFFFFF) ||| (w.imm <<< 24)))).seqTiming q w w.next).grave)) ∧
  (∀ (s u : State) (q : SeqId) (w : MicroWord),
      s.SeqReady q .mov w u →
      w.a.toNat < 32 →
      exec (.mov q w) s =
      .next (((u.modSeq q.key (fun e => e.setG w.a.toNat (u.seqB q w))).seqTiming q w w.next).grave)) ∧
  (∀ (s u : State) (q : SeqId) (w : MicroWord),
      s.SeqReady q .add w u →
      w.a.toNat < 32 →
      exec (.add q w) s =
      .next (((u.modSeq q.key (fun e => e.setG w.a.toNat (u.seqA q w + u.seqB q w))).seqTiming q w w.next).grave)) ∧
  (∀ (s u : State) (q : SeqId) (w : MicroWord),
      s.SeqReady q .addi w u →
      w.a.toNat < 32 →
      exec (.addi q w) s =
      .next (((u.modSeq q.key (fun e => e.setG w.a.toNat (u.seqA q w + w.sext))).seqTiming q w w.next).grave)) ∧
  (∀ (s u : State) (q : SeqId) (w : MicroWord),
      s.SeqReady q .sub w u →
      w.a.toNat < 32 →
      exec (.sub q w) s =
      .next (((u.modSeq q.key (fun e => e.setG w.a.toNat (u.seqA q w - u.seqB q w))).seqTiming q w w.next).grave)) ∧
  (∀ (s u : State) (q : SeqId) (w : MicroWord),
      s.SeqReady q .and w u →
      w.a.toNat < 32 →
      exec (.and q w) s =
      .next (((u.modSeq q.key (fun e => e.setG w.a.toNat (u.seqA q w &&& u.seqB q w))).seqTiming q w w.next).grave)) ∧
  (∀ (s u : State) (q : SeqId) (w : MicroWord),
      s.SeqReady q .andi w u →
      w.a.toNat < 32 →
      exec (.andi q w) s =
      .next (((u.modSeq q.key (fun e => e.setG w.a.toNat (u.seqA q w &&& w.imm))).seqTiming q w w.next).grave)) ∧
  (∀ (s u : State) (q : SeqId) (w : MicroWord),
      s.SeqReady q .or w u →
      w.a.toNat < 32 →
      exec (.or q w) s =
      .next (((u.modSeq q.key (fun e => e.setG w.a.toNat (u.seqA q w ||| u.seqB q w))).seqTiming q w w.next).grave)) ∧
  (∀ (s u : State) (q : SeqId) (w : MicroWord),
      s.SeqReady q .ori w u →
      w.a.toNat < 32 →
      exec (.ori q w) s =
      .next (((u.modSeq q.key (fun e => e.setG w.a.toNat (u.seqA q w ||| w.imm))).seqTiming q w w.next).grave)) ∧
  (∀ (s u : State) (q : SeqId) (w : MicroWord),
      s.SeqReady q .xor w u →
      w.a.toNat < 32 →
      exec (.xor q w) s =
      .next (((u.modSeq q.key (fun e => e.setG w.a.toNat (u.seqA q w ^^^ u.seqB q w))).seqTiming q w w.next).grave)) ∧
  (∀ (s u : State) (q : SeqId) (w : MicroWord),
      s.SeqReady q .shli w u →
      w.a.toNat < 32 →
      exec (.shli q w) s =
      .next (((u.modSeq q.key (fun e => e.setG w.a.toNat (u.seqA q w <<< (w.b.toNat % 32)))).seqTiming q w w.next).grave)) ∧
  (∀ (s u : State) (q : SeqId) (w : MicroWord),
      s.SeqReady q .shri w u →
      w.a.toNat < 32 →
      exec (.shri q w) s =
      .next (((u.modSeq q.key (fun e => e.setG w.a.toNat (u.seqA q w >>> (w.b.toNat % 32)))).seqTiming q w w.next).grave)) ∧
  (∀ (s u : State) (q : SeqId) (w : MicroWord),
      s.SeqReady q .muli w u →
      w.a.toNat < 32 →
      exec (.muli q w) s =
      .next (((u.modSeq q.key (fun e => e.setG w.a.toNat (u.seqA q w * w.imm))).seqTiming q w w.next).grave)) ∧
  (∀ (s u : State) (q : SeqId) (w : MicroWord),
      s.SeqReady q .ldp w u →
      w.a.toNat < 32 →
      exec (.ldp q w) s =
      .next (((u.modSeq q.key (fun e => e.setG w.a.toNat (BitVec.ofNat 32 ((u.getPlan q.chan).field ((u.getSeq q.key).planPtr.toNat + 4 * (w.b.toNat % 16)) 4)))).seqTiming q w w.next).grave)) ∧
  (∀ (s u : State) (q : SeqId) (w : MicroWord),
      s.SeqReady q .ldh w u →
      w.a.toNat < 32 →
      exec (.ldh q w) s =
      .next (((u.modSeq q.key (fun e => e.setG w.a.toNat (BitVec.ofNat 32 ((u.getPlan q.chan).field (4 * (w.b.toNat % 16)) 4)))).seqTiming q w w.next).grave))

/-- For every sequencer that carries out a fetched word: NOP and FENCE go on at NEXT; BRZ, BRNEG, BREQI, BRLT, BRBIT and
BRFLAG go on at NEXT + 1 when their condition holds and at NEXT otherwise; DJNZ decrements G[A] first; CALL with fewer than
eight addresses on the stack pushes NEXT and jumps to B; RET with an address on it jumps there; SWITCH adds the masked low
bits of G[A]; WAITIDX goes on once SIDX has reached G[A] and waits for it otherwise; TRAP keeps its code; ENDSWEEP waits for
the sweep edge; ABORT stops with SEQ_ABORTED and its code in ABORT_CODE. That FENCE goes on at once is the model's choice (log
entry 59). -/
def Obligations.SequencerBranchOperations : Prop :=
  (∀ (s u : State) (q : SeqId) (w : MicroWord),
      s.SeqReady q .nop w u →
      exec (.nop q w) s =
      .next ((u.seqTiming q w w.next).grave)) ∧
  (∀ (s u : State) (q : SeqId) (w : MicroWord),
      s.SeqReady q .fence w u →
      exec (.fence q w) s =
      .next ((u.seqTiming q w w.next).grave)) ∧
  (∀ (s u : State) (q : SeqId) (w : MicroWord),
      s.SeqReady q .brz w u →
      exec (.brz q w) s =
      .next ((u.seqTiming q w (if u.seqA q w = 0 then w.next + 1 else w.next)).grave)) ∧
  (∀ (s u : State) (q : SeqId) (w : MicroWord),
      s.SeqReady q .brneg w u →
      exec (.brneg q w) s =
      .next ((u.seqTiming q w (if (u.seqA q w).getLsbD 31 = true then w.next + 1 else w.next)).grave)) ∧
  (∀ (s u : State) (q : SeqId) (w : MicroWord),
      s.SeqReady q .breqi w u →
      exec (.breqi q w) s =
      .next ((u.seqTiming q w (if u.seqA q w = w.imm then w.next + 1 else w.next)).grave)) ∧
  (∀ (s u : State) (q : SeqId) (w : MicroWord),
      s.SeqReady q .brlt w u →
      exec (.brlt q w) s =
      .next ((u.seqTiming q w (if (u.seqA q w).ult (u.seqB q w) = true then w.next + 1 else w.next)).grave)) ∧
  (∀ (s u : State) (q : SeqId) (w : MicroWord),
      s.SeqReady q .brbit w u →
      exec (.brbit q w) s =
      .next ((u.seqTiming q w (if (u.seqA q w).getLsbD (w.b.toNat % 32) = true then w.next + 1 else w.next)).grave)) ∧
  (∀ (s u : State) (q : SeqId) (w : MicroWord),
      s.SeqReady q .brflag w u →
      exec (.brflag q w) s =
      .next ((u.seqTiming q w (if u.seqFlag q (w.b.toNat % 64) = true then w.next + 1 else w.next)).grave)) ∧
  (∀ (s u : State) (q : SeqId) (w : MicroWord),
      s.SeqReady q .djnz w u →
      w.a.toNat < 32 →
      exec (.djnz q w) s =
      .next (((u.modSeq q.key (fun e => e.setG w.a.toNat (u.seqA q w - 1))).seqTiming q w
        (if u.seqA q w - 1 ≠ 0 then w.next + 1 else w.next)).grave)) ∧
  (∀ (s u : State) (q : SeqId) (w : MicroWord),
      s.SeqReady q .call w u →
      (u.getSeq q.key).stack.length < 8 →
      exec (.call q w) s =
      .next (((u.modSeq q.key (fun e => { e with stack := w.next :: e.stack })).seqTiming q w w.b).grave)) ∧
  (∀ (s u : State) (q : SeqId) (w : MicroWord) (r : BitVec 12) (l : List (BitVec 12)),
      s.SeqReady q .ret w u →
      (u.getSeq q.key).stack = r :: l →
      exec (.ret q w) s =
      .next (((u.modSeq q.key (fun e => { e with stack := l })).seqTiming q w r).grave)) ∧
  (∀ (s u : State) (q : SeqId) (w : MicroWord),
      s.SeqReady q .switch w u →
      exec (.switch q w) s =
      .next ((u.seqTiming q w (w.next + BitVec.ofNat 12 ((u.seqA q w).toNat % 16 &&& w.b.toNat % 16))).grave)) ∧
  (∀ (s u : State) (q : SeqId) (w : MicroWord),
      s.SeqReady q .waitidx w u →
      ((u.getChan q.chan).sidx - u.seqA q w).getLsbD 31 = false →
      exec (.waitidx q w) s =
      .next ((u.seqTiming q w w.next).grave)) ∧
  (∀ (s u : State) (q : SeqId) (w : MicroWord),
      s.SeqReady q .waitidx w u →
      ((u.getChan q.chan).sidx - u.seqA q w).getLsbD 31 = true →
      exec (.waitidx q w) s =
      .next ((u.modSeq q.key (fun e => { e with state := .waiting, wait := .index .waitidx w })).grave)) ∧
  (∀ (s u : State) (q : SeqId) (w : MicroWord),
      s.SeqReady q .trap w u →
      exec (.trap q w) s =
      .next (((u.modSeq q.key (fun e => { e with trap := some (w.b.toNat % 256) })).seqTiming q w w.next).grave)) ∧
  (∀ (s u : State) (q : SeqId) (w : MicroWord),
      s.SeqReady q .endsweep w u →
      exec (.endsweep q w) s =
      .next (((u.modSeq q.key (fun e => { e with ended := true })).modSeq q.key
        (fun e => { e with state := .waitEdge, wait := .sweepEnd })).grave)) ∧
  (∀ (s u : State) (q : SeqId) (w : MicroWord),
      s.SeqReady q .abort w u →
      exec (.abort q w) s =
      .next (((u.wr (Obj.ABORT_CODE q.unit q.k) (w.b.toNat % 256)).seqStop q .SEQ_ABORTED).grave))

/-- For every sequencer that carries out a fetched word: NEXTITEM moves PLAN_PTR by 64 and ITEMNO by 1 and branches at the end
of the plan; MSEND appends G[A] to the partner's mailbox of fewer than 16 words; MRECV takes the oldest word. On a transfer
sequencer: LDM loads an aligned word of the buffer, STM stores one, POST writes a completion entry of four registers while the
ring has room, TICKET and WFEED append while there is room, a pending arm that lacks one taking it, EVSEND puts an event into
the fabric, EVCLR clears an inbound slot. With no room or no word MSEND, MRECV, POST, TICKET and WFEED wait. -/
def Obligations.SequencerTransferOperations : Prop :=
  (∀ (s u : State) (q : SeqId) (w : MicroWord),
      s.SeqReady q .nextitem w u →
      q.xfer = true →
      exec (.nextitem q w) s =
      .next (((u.modSeq q.key (fun e => { e with planPtr := e.planPtr + 64, itemNo := e.itemNo + 1 })).seqTiming q w
        (if (u.getSeq q.key).itemNo + 1 = (u.getPlan q.chan).field 8 2 then w.next + 1 else w.next)).grave)) ∧
  (∀ (s u : State) (q : SeqId) (w : MicroWord),
      s.SeqReady q .nextitem w u →
      q.xfer = false →
      exec (.nextitem q w) s =
      .next ((((u.modSeq q.key (fun e => { e with planPtr := e.planPtr + 64, itemNo := e.itemNo + 1 })).modPlan q.chan
        (fun l => { l with done := 0, failed := 0 })).seqTiming q w
        (if (u.getSeq q.key).itemNo + 1 = ((u.modPlan q.chan (fun l => { l with done := 0, failed := 0 })).getPlan q.chan).field 8 2
          then w.next + 1 else w.next)).grave)) ∧
  (∀ (s u : State) (q : SeqId) (w : MicroWord),
      s.SeqReady q .msend w u →
      (u.getSeq q.partner.key).mbox.length < 16 →
      exec (.msend q w) s =
      .next (((u.modSeq q.partner.key (fun e => { e with mbox := e.mbox ++ [u.seqA q w] })).seqTiming q w w.next).grave)) ∧
  (∀ (s u : State) (q : SeqId) (w : MicroWord) (x : Word) (l : List Word),
      s.SeqReady q .mrecv w u →
      w.a.toNat < 32 →
      (u.getSeq q.key).mbox = x :: l →
      exec (.mrecv q w) s =
      .next ((((u.modSeq q.key (fun e => { e with mbox := l })).modSeq q.key (fun e => e.setG w.a.toNat x)).seqTiming q w w.next).grave)) ∧
  (∀ (s u r : State) (q : SeqId) (w : MicroWord) (b : List Byte),
      s.SeqReady q .ldm w u →
      q.xfer = true →
      w.a.toNat < 32 →
      (u.seqB q w).toNat % 4 = 0 →
      u.engRead q.unit (u.seqB q w).toNat 4 = (r, some b) →
      exec (.ldm q w) s =
      .next (((r.modSeq q.key (fun e => e.setG w.a.toNat (BitVec.ofNat 32 (leNat b)))).seqTiming q w w.next).grave)) ∧
  (∀ (s u : State) (q : SeqId) (w : MicroWord),
      s.SeqReady q .stm w u →
      q.xfer = true →
      exec (.stm q w) s =
      .next ((((u.engWrite q.unit (u.seqB q w).toNat (leBytes 4 (u.seqA q w).toNat)).1).seqTiming q w w.next).grave)) ∧
  (∀ (s u : State) (q : SeqId) (w : MicroWord),
      s.SeqReady q .post w u →
      q.xfer = true →
      w.a.toNat ≤ 28 →
      (u.getPlan q.chan).ringFull = false →
      exec (.post q w) s =
      .next (((u.postEntry q.unit q.chan
        ((List.range 4).flatMap (fun i => leBytes 4 (u.seqReg q (w.a.toNat + i)).toNat))).seqTiming q w w.next).grave)) ∧
  (∀ (s u : State) (q : SeqId) (w : MicroWord),
      s.SeqReady q .ticket w u →
      q.xfer = true →
      (u.getChan q.chan).tickets.length < 8 →
      exec (.ticket q w) s =
      .next (((u.modChan q.chan (fun c => c.addTicket (u.seqA q w).toNat (u.seqB q w).toNat)).seqTiming q w w.next).grave)) ∧
  (∀ (s u : State) (q : SeqId) (w : MicroWord),
      s.SeqReady q .wfeed w u →
      q.xfer = true →
      w.b.toNat % 64 ≤ 27 →
      (u.getChan q.chan).feeds.length < 2 →
      exec (.wfeed q w) s =
      .next (((u.modChan q.chan (fun c => c.addFeed (u.seqA q w).toNat
        ((List.range 4).flatMap (fun i => leBytes 4 (u.seqReg q (w.b.toNat % 64 + i)).toNat))
        (u.seqReg q (w.b.toNat % 64 + 4)).toNat)).seqTiming q w w.next).grave)) ∧
  (∀ (s u : State) (q : SeqId) (w : MicroWord),
      s.SeqReady q .evsend w u →
      q.xfer = true →
      exec (.evsend q w) s =
      .next ((({ u with fabric := u.fabric ++ [(q.unit, w.b.toNat % 256)] } : State).seqTiming q w w.next).grave)) ∧
  (∀ (s u : State) (q : SeqId) (w : MicroWord),
      s.SeqReady q .evclr w u →
      q.xfer = true →
      exec (.evclr q w) s =
      .next (((u.modSeq q.key (fun e => { e with
        comp := e.comp.filter (· != w.b.toNat % 4), err := e.err.filter (· != w.b.toNat % 4) })).seqTiming q w w.next).grave))

/-- For every media sequencer that carries out a fetched word: PRED of a fragment that exists loads P_START, P_BITS, P_END and
P_FRAGS; PSET of a set below 512 loads the inactive bank; SWAP asks for the swap; WRSET with the gate shut sends the entry and
the preset of the set's head, zone and the plan's band; SRD, SWR and CFRAG with room and in time place the arm; GATEOFF cuts
the gate; SEEKREQ of a target in range posts it; REPLAY of steps 1 to 6 with nothing being received replays the hold buffer;
ARMCLR withdraws pending arms; CTSNAP reads the clock-track count. -/
def Obligations.SequencerMediaOperations : Prop :=
  (∀ (s u : State) (q : SeqId) (w : MicroWord) (f : Frag),
      s.SeqReady q .pred w u →
      q.xfer = false →
      ((zoneOf ((u.getChan q.chan).zone ((u.getChan q.chan).armSet.getD 0))).position (u.rd (Obj.CT_CYCLES_PER_REV q.port))
      (u.seqA q w).toNat)[(u.seqB q w).toNat]? = some f →
      exec (.pred q w) s =
      .next (((u.modSeq q.key (fun e => { e with
        pStart := u.bitIndex q.port q.act ((u.getChan q.chan).armSet.getD 0 / 32) f.pos (zoneOf ((u.getChan q.chan).zone ((u.getChan q.chan).armSet.getD 0)))
        pBits := BitVec.ofNat 32 f.take
        pEnd := u.bitIndex q.port q.act ((u.getChan q.chan).armSet.getD 0 / 32) f.fin (zoneOf ((u.getChan q.chan).zone ((u.getChan q.chan).armSet.getD 0)))
        pFrags := BitVec.ofNat 32 ((zoneOf ((u.getChan q.chan).zone ((u.getChan q.chan).armSet.getD 0))).position
          (u.rd (Obj.CT_CYCLES_PER_REV q.port)) (u.seqA q w).toNat).length
        pPos := (u.seqA q w).toNat })).seqTiming q w w.next).grave)) ∧
  (∀ (s u : State) (q : SeqId) (w : MicroWord) (r : Nat),
      s.SeqReady q .pset w u →
      q.xfer = false →
      (u.seqA q w).toNat < 512 →
      r = 256 * fldU ((u.getChan q.chan).set (u.seqA q w).toNat) 196 2 + fldU ((u.getChan q.chan).set (u.seqA q w).toNat) 198 1 →
      exec (.pset q w) s =
      .next (((u.modChan q.chan (fun c => { c with
        nextSet := some (u.seqA q w).toNat, load := .loading, nextBad := false, psetReady := false, psetErr := false,
        ratioSent := r, nextWait := c.ratioSent != r || c.nextWait })).seqTiming q w w.next).grave)) ∧
  (∀ (s u : State) (q : SeqId) (w : MicroWord),
      s.SeqReady q .swap w u →
      q.xfer = false →
      exec (.swap q w) s =
      .next (((u.modChan q.chan (fun c => { c with swap := true }.trySwap)).seqTiming q w w.next).grave)) ∧
  (∀ (s u : State) (q : SeqId) (w : MicroWord),
      s.SeqReady q .wrset w u →
      q.xfer = false →
      (u.seqA q w).toNat < 512 →
      (u.getChan q.chan).gate = false →
      exec (.wrset q w) s =
      .next (((u.modChan q.chan (fun c => { c with
        wrSent := true, wrAck := false, wrFail := false, wrSet := some (u.seqA q w).toNat
        wrEntry := c.precompOf (u.seqA q w).toNat, wrPreset := c.presetOf ((u.seqA q w).toNat / 32 * 4 + (u.getPlan q.chan).band) })).seqTiming q w
        w.next).grave)) ∧
  (∀ (s u : State) (q : SeqId) (w : MicroWord),
      s.SeqReady q .srd w u →
      q.xfer = false →
      w.b.toNat % 4 ≠ 3 →
      (u.getChan q.chan).readPend = none →
      armLateAt (u.getChan q.chan).sidx (u.seqA q w) = false →
      exec (.srd q w) s =
      .next ((((((u.modSeq q.key (fun e => { e with
        armPsa := ⟨q.act, (u.getChan q.chan).armSet.getD 0 / 32, (u.getSrv q.chan).track, e.pPos⟩, armWrite := false })).modChan q.chan
        (fun c => { c with tickets := pairTicket c.tickets })).modChan q.chan (fun c => { c with
          readPend := some
            { start := u.seqA q w, endIdx := (u.getSeq q.key).pEnd, bits := (u.getSeq q.key).pBits.toNat,
              frag := 0, frags := (u.getSeq q.key).pFrags.toNat,
              mode := if w.b.toNat % 4 = 1 then .aOnly else if w.b.toNat % 4 = 2 then .bOnly else .both
              psa := ⟨q.act, (u.getChan q.chan).armSet.getD 0 / 32, (u.getSrv q.chan).track, (u.getSeq q.key).pPos⟩
              item := (u.getSeq q.key).itemNo
              ticket := (firstTicket (u.getChan q.chan).tickets).map (fun t => { t with paired := true }) },
          late := false })).seqTiming q w w.next)).grave)) ∧
  (∀ (s u : State) (q : SeqId) (w : MicroWord),
      s.SeqReady q .swr w u →
      q.xfer = false →
      (u.getChan q.chan).writePend = none →
      armLateAt (u.getChan q.chan).sidx (u.seqA q w) = false →
      exec (.swr q w) s =
      .next ((((((u.modSeq q.key (fun e => { e with
        armPsa := ⟨q.act, (u.getChan q.chan).armSet.getD 0 / 32, (u.getSrv q.chan).track, e.pPos⟩, armWrite := true })).modChan q.chan
        (fun c => { c with feeds := pairFeed c.feeds })).modChan q.chan (fun c => { c with
          writePend := some
            { start := u.seqA q w, endIdx := (u.getSeq q.key).pEnd, bits := (u.getSeq q.key).pBits.toNat,
              frag := 0, frags := (u.getSeq q.key).pFrags.toNat, mode := .bOnly
              psa := ⟨q.act, (u.getChan q.chan).armSet.getD 0 / 32, (u.getSrv q.chan).track, (u.getSeq q.key).pPos⟩
              item := (u.getSeq q.key).itemNo
              feed := (firstFeed (u.getChan q.chan).feeds).map (fun t => { t with paired := true }) },
          late := false })).seqTiming q w w.next)).grave)) ∧
  (∀ (s u : State) (q : SeqId) (w : MicroWord),
      s.SeqReady q .cfrag w u →
      q.xfer = false →
      (u.getSeq q.key).armWrite = false →
      0 < (u.seqB q w).toNat →
      (u.seqB q w).toNat < 3 →
      (u.getChan q.chan).readPend = none →
      armLateAt (u.getChan q.chan).sidx (u.seqA q w) = false →
      exec (.cfrag q w) s =
      .next (((u.modChan q.chan (fun c => { c with
          readPend := some
            { start := u.seqA q w, endIdx := (u.getSeq q.key).pEnd, bits := (u.getSeq q.key).pBits.toNat,
              frag := (u.seqB q w).toNat, frags := (u.getSeq q.key).pFrags.toNat
              mode := ((u.getChan q.chan).readCur.map Arm.mode).getD .both, psa := (u.getSeq q.key).armPsa, item := (u.getSeq q.key).itemNo
              ticket := (u.getChan q.chan).readCur.bind Arm.ticket, feed := (u.getChan q.chan).readCur.bind Arm.feed },
          late := false })).seqTiming q w w.next).grave)) ∧
  (∀ (s u : State) (q : SeqId) (w : MicroWord),
      s.SeqReady q .cfrag w u →
      q.xfer = false →
      (u.getSeq q.key).armWrite = true →
      0 < (u.seqB q w).toNat →
      (u.seqB q w).toNat < 3 →
      (u.getChan q.chan).writePend = none →
      armLateAt (u.getChan q.chan).sidx (u.seqA q w) = false →
      exec (.cfrag q w) s =
      .next (((u.modChan q.chan (fun c => { c with
          writePend := some
            { start := u.seqA q w, endIdx := (u.getSeq q.key).pEnd, bits := (u.getSeq q.key).pBits.toNat,
              frag := (u.seqB q w).toNat, frags := (u.getSeq q.key).pFrags.toNat
              mode := .bOnly, psa := (u.getSeq q.key).armPsa, item := (u.getSeq q.key).itemNo
              ticket := (u.getChan q.chan).writeCur.bind Arm.ticket, feed := (u.getChan q.chan).writeCur.bind Arm.feed },
          late := false })).seqTiming q w w.next).grave)) ∧
  (∀ (s u : State) (q : SeqId) (w : MicroWord),
      s.SeqReady q .gateoff w u →
      q.xfer = false →
      exec (.gateoff q w) s =
      .next (((u.cutGate q.port q.act .WR_GATE_CUT).seqTiming q w w.next).grave)) ∧
  (∀ (s u : State) (q : SeqId) (w : MicroWord),
      s.SeqReady q .seekreq w u →
      q.xfer = false →
      u.seekOk q.port q.act (u.seqA q w).toNat (w.b.toNat % 16) = true →
      exec (.seekreq q w) s =
      .next (((u.modSrv q.chan (fun v => { v with posted := some ((u.seqA q w).toNat, w.b.toNat % 16, 0), onTrack := false })).seqTiming q w w.next).grave)) ∧
  (∀ (s u : State) (q : SeqId) (w : MicroWord) (x : Sector),
      s.SeqReady q .replay w u →
      q.xfer = false →
      w.b.toNat % 8 ≠ 0 →
      w.b.toNat % 8 ≠ 7 →
      (u.getChan q.chan).hold = .held →
      (u.getChan q.chan).holdSector = some x →
      (u.getChan q.chan).rx = none →
      (u.getChan q.chan).ladder = none →
      u.mode.cur ≠ .bringUp →
      exec (.replay q w) s =
      .next (((((u.modChan q.chan (fun c => { c with tickets := pairTicket c.tickets })).wr (Obj.READER_MODE q.port q.act)
        (if w.b.toNat % 8 = 3 then .bOnly else .both : ReaderMode).code).modChan q.chan (fun c => { c with
        replay := some { psa := x.psa, setNo := x.setNo, spans := x.spans, samples := x.samples, step := w.b.toNat % 8, held := true
                         mode := if w.b.toNat % 8 = 3 then .bOnly else .both, alt := w.b.toNat % 8 == 4
                         ticket := (firstTicket (u.getChan q.chan).tickets).map (fun t => { t with paired := true }) } })).seqTiming q w w.next).grave)) ∧
  (∀ (s u : State) (q : SeqId) (w : MicroWord),
      s.SeqReady q .armclr w u →
      q.xfer = false →
      exec (.armclr q w) s =
      .next (((u.withdraw q.port q.act).seqTiming q w w.next).grave)) ∧
  (∀ (s u : State) (q : SeqId) (w : MicroWord),
      s.SeqReady q .ctsnap w u →
      q.xfer = false →
      w.a.toNat < 32 →
      exec (.ctsnap q w) s =
      .next (((u.modSeq q.key (fun e => e.setG w.a.toNat (BitVec.ofNat 32 (u.getChan q.chan).ctCycles))).seqTiming q w w.next).grave))

/-- A reserved code stops a running sequencer with ILLEGAL_OP; a blocked operation is tried again; an expired delay and a met
wait condition let the sequencer run on; the watchdog stops one that waits for an engine; a calibration sets the stages of
each delay element; an uncorrectable control-store word stops the sequencer and the cluster runs the empty plan. -/
def Obligations.SequencerWaitsAndStops : Prop :=
  (∀ (s u : State) (q : SeqId) (b : Bool),
      (s.getSeq q.key).goes = true →
      wordOp (s.nextWord q) = none →
      u = s.seqFetch q b →
      exec (.illegalOp q b) s = .next ((u.seqStop q .SEQ_ILLEGAL_OP).grave)) ∧
  (∀ (s : State) (q : SeqId) (o : SeqOp) (w : MicroWord),
      (s.getSeq q.key).wait = .op o w →
      (s.getSeq q.key).state = .waiting →
      exec (.seqOpUnblocked q) s = .next ((s.seqAfter q o w (s.op q o w)).grave)) ∧
  (∀ (s : State) (q : SeqId) (o : SeqOp) (w : MicroWord),
      (s.getSeq q.key).wait = .index o w →
      (s.getSeq q.key).state = .waiting →
      exec (.seqOpUnblocked q) s = .next ((s.seqAfter q o w (s.op q o w)).grave)) ∧
  (∀ (s : State) (q : SeqId) (n : Nat),
      (s.getSeq q.key).wait = .delay n →
      exec (.delayExpiry q) s =
      .next ((s.modSeq q.key (fun e => { e with state := .running, wait := .none })).grave)) ∧
  (∀ (s : State) (q : SeqId) (n : Nat),
      (s.getSeq q.key).wait = .cond n →
      (n = 0xC ∨ s.condHolds q n = true) →
      exec (.waitConditionMet q) s =
      .next (((s.modSeq q.key (fun e => { e with state := .running, wait := .none })).condTake q n).grave)) ∧
  (∀ (s : State) (q : SeqId) (o : SeqOp) (w : MicroWord),
      (s.getSeq q.key).wait = .op o w →
      (s.getSeq q.key).waitAt + s.rd Obj.SEQ_WATCHDOG < s.now →
      exec (.seqWatchdog q) s = .next ((s.seqStop q .SEQ_WATCHDOG).grave)) ∧
  (∀ (s : State) (q : SeqId) (n : Nat),
      (s.getSeq q.key).wait = .cond n →
      n ≠ 0xC →
      (s.getSeq q.key).waitAt + s.rd Obj.SEQ_WATCHDOG < s.now →
      exec (.seqWatchdog q) s = .next ((s.seqStop q .SEQ_WATCHDOG).grave)) ∧
  (∀ (s : State) (u : UnitId) (p : PortId) (a : ActId) (n : BitVec 16),
      exec (.replicaCalibration u p a n) s =
      .next (((s.wr (Obj.STAGE_COUNT u (SeqId.k ⟨u, p, a, false⟩)) n.toNat).modSeq (SeqId.key ⟨u, p, a, false⟩) (fun e => { e with
        stages := mapEach (fun _ => 0) e.stages ((List.range 15).map (· + 1)) (fun k _ =>
          ((s.wr (Obj.STAGE_COUNT u (SeqId.k ⟨u, p, a, false⟩)) n.toNat).rd (Obj.DELAY_BITS (k - 1)) * n.toNat + 512) / 1024) })).grave)) ∧
  (∀ (s : State) (q : SeqId),
      (s.getSeq q.key).goes = true →
      exec (.controlStoreReload q) s =
      .next (((((s.seqFetch q false).seqStop q .SEQ_CS_UNCORRECTABLE).modStore q
        (fun _ => { images := ((s.seqFetch q false).seqStop q .SEQ_CS_UNCORRECTABLE).mc.images })).forEach [(0 : ActId), 1] (fun s a =>
        (s.modPlan (chanKey q.port a) (fun l => { l with empty := true })).forEach [false, true] (fun s t =>
          s.modSeq (SeqId.key ⟨q.unit, q.port, a, t⟩) (fun e =>
            if e.state = .stopped then e else { e with state := .waitEdge, wait := .none })))).grave))

/-- A write reaches the half that is being built and only it; a write of the executing half or while a commit stands is
counted and ignored; a commit whose checks pass before the deadline locks the half; one that fails a check is discarded with a
reject; one after the deadline is discarded without a reject; an unlock before the deadline opens the half again; at the
deadline a half not committed is discarded. -/
def Obligations.PlanHalvesAndCommits : Prop :=
  (∀ (s : State) (p : PortId) (a : ActId) (h : Fin 2) (off : BitVec 14) (d : List Byte),
      h.val ≠ (s.getPlan (chanKey p a)).exec →
      (s.getPlan (chanKey p a)).committed = false →
      exec (.planWrite p a h off d) s =
      .next ((s.putPlan (chanKey p a) ((s.getPlan (chanKey p a)).write h off.toNat (d.take (16384 - off.toNat)))).grave)) ∧
  (∀ (s : State) (p : PortId) (a : ActId) (h : Fin 2) (off : BitVec 14) (d : List Byte),
      (h.val = (s.getPlan (chanKey p a)).exec ∨ (s.getPlan (chanKey p a)).committed = true) →
      exec (.planWrite p a h off d) s =
      .next ((s.inc (Obj.PLAN_REJECTS s.pair.active (4 * p + 2 * a))).grave)) ∧
  (∀ (s : State) (p : PortId) (a : ActId) (n : BitVec 64),
      (s.getPlan (chanKey p a)).committed = false →
      (s.getPlan (chanKey p a)).discarded = false →
      s.planned p a (s.getPlan (chanKey p a)) = true →
      s.now + 200 ≤ (s.getPort p).nextEdge →
      s.planOk (s.getPlan (chanKey p a)) n.toNat ((s.getPort p).sweepNo + 1) = true →
      exec (.planCommit p a n) s =
      .next ((s.putPlan (chanKey p a) { s.getPlan (chanKey p a) with committed := true, nextBand := min 3 (s.hdaBand p).code }).grave)) ∧
  (∀ (s : State) (p : PortId) (a : ActId) (n : BitVec 64),
      (s.getPlan (chanKey p a)).committed = false →
      (s.getPlan (chanKey p a)).discarded = false →
      s.planned p a (s.getPlan (chanKey p a)) = true →
      s.now + 200 ≤ (s.getPort p).nextEdge →
      s.planOk (s.getPlan (chanKey p a)) n.toNat ((s.getPort p).sweepNo + 1) = false →
      exec (.planCommit p a n) s =
      .next ((((s.putPlan (chanKey p a) { s.getPlan (chanKey p a) with discarded := true }).planReject p a).raise (.seq (4 * p + 2 * a))
        [.SEQ_PLAN_REJECT]).grave)) ∧
  (∀ (s : State) (p : PortId) (a : ActId) (n : BitVec 64),
      (s.getPlan (chanKey p a)).committed = false →
      s.planned p a (s.getPlan (chanKey p a)) = true →
      (s.getPort p).nextEdge < s.now + 200 →
      exec (.planCommit p a n) s =
      .next ((s.putPlan (chanKey p a) { s.getPlan (chanKey p a) with discarded := true }).grave)) ∧
  (∀ (s : State) (p : PortId) (a : ActId),
      (s.getPlan (chanKey p a)).committed = true →
      s.now + 200 ≤ (s.getPort p).nextEdge →
      exec (.planCommitUnlock p a) s =
      .next ((s.putPlan (chanKey p a) { s.getPlan (chanKey p a) with committed := false }).grave)) ∧
  (∀ (s : State) (p : PortId) (a : ActId),
      (s.getPlan (chanKey p a)).committed = false →
      exec (.planDeadline p a) s =
      .next ((s.putPlan (chanKey p a) { s.getPlan (chanKey p a) with discarded := true }).grave))

/-- In Maintenance a write of MC_STAGE fills the staging area and voids the verification; VERIFY begins a check, whose end
leaves its result; LOAD of verified images with no raw operation begins a load, whose end puts the images into service;
PERSIST stores the loaded images; REVERT erases the stored images and loads the built-in ones. Each write is answered with
success. -/
def Obligations.MicrocodeLoader : Prop :=
  (∀ (s : State) (q : Requester) (u : UnitId) (d : List Byte),
      s.Accepts q u Obj.MC_STAGE d →
      exec (.mcStageWrite q u d) s = .next ((({ s with mc := { s.mc with stage := d, verified := false } } : State).answer q 0).grave)) ∧
  (∀ (s : State) (q : Requester) (u : UnitId),
      s.Accepts q u Obj.MC_COMMAND [1] →
      exec (.mcVerify q u) s = .next (((s.mcResult 0x01).answer q 0).grave)) ∧
  (∀ (s : State),
      s.mc.result = 0x01 →
      s.mc.loading = none →
      exec .mcVerifyComplete s =
      .next (({ s with mc := { s.mc with result := s.mcCheck s.mc.stage, verified := s.mcCheck s.mc.stage == 0x02 } } : State).grave)) ∧
  (∀ (s : State) (q : Requester) (u : UnitId),
      s.Accepts q u Obj.MC_COMMAND [2] →
      s.mc.verified = true →
      s.rawBusy = false →
      exec (.mcLoad q u) s = .next ((({ s with mc := { s.mc with result := 0x01, loading := some s.mc.stage, revert := false } } : State).answer q 0).grave)) ∧
  (∀ (s : State) (ok : Bool) (b : List Byte),
      s.mc.loading = some b →
      (s.peerReady = false ∨ ok = true) →
      exec (.mcLoadComplete ok) s =
      .next (({ s.mcService b (if s.mc.revert then .builtIn else .loaded) with
        mc := { (s.mcService b (if s.mc.revert then .builtIn else .loaded)).mc with loading := none, result := 0x03 } } : State).grave)) ∧
  (∀ (s : State) (q : Requester) (u : UnitId),
      s.Accepts q u Obj.MC_COMMAND [3] →
      s.mc.source ≠ .builtIn →
      exec (.mcPersist q u) s = .next ((({ s with mc := { s.mc with stored := some s.mc.images, source := .stored, result := 0x0A } } : State).answer q 0).grave)) ∧
  (∀ (s : State) (q : Requester) (u : UnitId),
      s.Accepts q u Obj.MC_COMMAND [4] →
      exec (.mcRevert q u) s = .next ((({ s with mc := { s.mc with
        stored := none, loading := some (Config.builtInImages s.runningFw), revert := true, result := 0x01 } } : State).answer q 0).grave))

/-- With no slack a sample overrun ends the sector being received and a write underrun with the gate open cuts the gate,
counts it and fails the sector; a marker that the PN2 sends on a lane in service fixes the sample index of its sub-lane and,
on the active unit, the head; an arm with its ticket or feed starts at its index and one without is refused as late; the
samples of a sector, of a line read or else of the oldest check, run through the channel; the oldest code word in the decoder
ends with its verdict; a replay runs the held samples and posts its result; a parameter set that passes its checks becomes
ready and one that fails sets PARAM_ERR; a read-after-write check whose samples have come becomes final; write entries never
acknowledged fail the writes of the item. -/
def Obligations.DataChannelEvents : Prop :=
  (∀ (s : State) (p : PortId) (a : ActId) (x : Sector),
      s.paceAbove = false →
      (s.getChan (chanKey p a)).rx = some x →
      exec (.sampleOverrun p a) s =
      .next (((s.modChan (chanKey p a) (fun c => { c with rx := none, readCur := none }.trySwap)).sectorEnd p a x (verdictOf 0x05)
        [.CH_SAMPLE_OVERRUN]).grave)) ∧
  (∀ (s : State) (p : PortId) (a : ActId),
      s.paceAbove = true →
      exec (.sampleOverrun p a) s = .next s.grave) ∧
  (∀ (s : State) (p : PortId) (a : ActId),
      s.paceAbove = false →
      exec (.writeUnderrun p a) s = .next ((s.cutGate p a .WR_WRITE_UNDERRUN).grave)) ∧
  (∀ (s : State) (p : PortId) (a : ActId),
      s.paceAbove = true →
      exec (.writeUnderrun p a) s = .next s.grave) ∧
  (∀ (s : State) (u : UnitId) (p : PortId) (a : ActId) (n : Fin 4) (i : Word),
      s.laneUpOn u p (4 * a + n) = true →
      exec (.alignmentMarker u p a n i) s =
      .next (((s.modPn2 p (fun q => q.modAct a (fun x => { x with
        ratioDue := x.ratioDue.filter (· != subLaneKey u n), headDue := x.headDue.filter (· != subLaneKey u n) }))).markerIn u p a n
        (((s.getPn2 p).act a).marker u a n i).word).grave)) ∧
  (∀ (s : State) (u : UnitId) (p : PortId) (a : ActId) (n : Fin 4) (w : BitVec 64) (b : ControlBlock),
      controlBlock w = some b →
      b.kind = .marker →
      b.act = a →
      b.sublane = n →
      u = s.pair.active →
      (s.getChan (chanKey p a)).rx = none →
      s.markerIn u p a n w =
      (s.modChan (chanKey p a) (fun c => { c with laneNext := mapPut (fun _ => 0) c.laneNext (subLaneKey u n) b.sampleIndex.toNat })).modChan
        (chanKey p a) (fun c => { c with
          laneHead := some b.head, ratioWait := c.ratioWait && !b.ratioChange, nextWait := c.nextWait && !b.ratioChange })) ∧
  (∀ (s : State) (p : PortId) (a : ActId) (r : Arm),
      (s.getChan (chanKey p a)).readPend = some r →
      r.ticket.isSome = true →
      exec (.armStart p a false) s = .next ((s.readStart p a r).grave)) ∧
  (∀ (s : State) (p : PortId) (a : ActId) (r : Arm),
      (s.getChan (chanKey p a)).writePend = some r →
      r.feed.isSome = true →
      exec (.armStart p a true) s = .next ((s.writeStart p a r).grave)) ∧
  (∀ (s : State) (p : PortId) (a : ActId) (r : Arm),
      (s.getChan (chanKey p a)).readPend = some r →
      r.frag = 0 →
      r.ticket = none →
      exec (.armStart p a false) s =
      .next (((s.modChan (chanKey p a) (fun c => { c with readPend := none })).armLate p a r false).grave)) ∧
  (∀ (s : State) (p : PortId) (a : ActId) (r : Arm),
      (s.getChan (chanKey p a)).writePend = some r →
      r.frag = 0 →
      r.feed = none →
      exec (.armStart p a true) s =
      .next (((s.modChan (chanKey p a) (fun c => { c with writePend := none })).armLate p a r true).grave)) ∧
  (∀ (s : State) (p : PortId) (a : ActId) (x : Sector) (d : SectorSamples),
      (s.getChan (chanKey p a)).rx = some x →
      exec (.sectorSamplesEnd p a d) s = .next ((s.samplesEnd p a x d).grave)) ∧
  (∀ (s : State) (p : PortId) (a : ActId) (x : Sector) (d : SectorSamples),
      (s.getChan (chanKey p a)).rx = none →
      (s.getChan (chanKey p a)).raw.find? (fun x => !x.sampled && x.abort.isNone) = some x →
      exec (.sectorSamplesEnd p a d) s = .next ((s.rawSamples p a x d).grave)) ∧
  (∀ (s : State) (p : PortId) (a : ActId) (x : Sector) (l : List Sector),
      (s.getChan (chanKey p a)).decoding = x :: l →
      exec (.decodeComplete p a) s =
      .next (((s.modChan (chanKey p a) (fun c => { c with decoding := l })).sectorEnd p a x (s.decode p a x)).grave)) ∧
  (∀ (s : State) (p : PortId) (a : ActId) (x : Sector),
      (s.getChan (chanKey p a)).replay = some x →
      exec (.replayComplete p a) s =
      (let r := (s.modChan (chanKey p a) (fun c => { c with replay := none })).replayRun p a x
       .next ((r.1.replayEnd p a r.2.1 r.2.2.1 r.2.2.2).grave))) ∧
  (∀ (s : State) (p : PortId) (a : ActId),
      (s.getChan (chanKey p a)).load = .loading →
      s.setOk p ((s.getChan (chanKey p a)).set ((s.getChan (chanKey p a)).nextSet.getD 0)) = true →
      exec (.paramLoadComplete p a false) s =
      .next ((s.modChan (chanKey p a) (fun c => { c with
        load := .ready, nextBytes := (s.getChan (chanKey p a)).set ((s.getChan (chanKey p a)).nextSet.getD 0)
        nextBad := false, psetReady := true, psetErr := false }.trySwap)).grave)) ∧
  (∀ (s : State) (p : PortId) (a : ActId) (b : Bool),
      (s.getChan (chanKey p a)).load = .loading →
      (!b && s.setOk p ((s.getChan (chanKey p a)).set ((s.getChan (chanKey p a)).nextSet.getD 0))) = false →
      exec (.paramLoadComplete p a b) s =
      .next (((s.modChan (chanKey p a) (fun c => { c with
        load := .failed, nextBytes := (s.getChan (chanKey p a)).set ((s.getChan (chanKey p a)).nextSet.getD 0)
        nextBad := true, psetReady := false, psetErr := true }.trySwap)).raise (.ch p a) [.CH_PARAM_ERR]).grave)) ∧
  (∀ (s : State) (p : PortId) (a : ActId) (x : Sector) (l : List Sector),
      (s.getChan (chanKey p a)).raw = x :: l →
      x.checkDue = true →
      exec (.rawCheckComplete p a) s = .next (((s.modChan (chanKey p a) (fun c => { c with raw := l })).rawFinal p a x).settle)) ∧
  (∀ (s : State) (p : PortId) (a : ActId),
      (s.getChan (chanKey p a)).wrSent = true →
      (s.getChan (chanKey p a)).wrAck = false →
      exec (.wrsetTimeout p a) s =
      .next (((s.modChan (chanKey p a) (fun c => { c with wrFail := true })).raise (.wr p a) [.WR_TABLE_ERR]).grave))

/-- A good wedge decode runs the boundary: error, swaps, acquisition, target, seek and tracking, and starts the outer product;
the outer product takes the states, set-points and prediction of the active bank; a mismatch leaves them, clears WRITE_SAFE
and is counted; good telemetry in FOLLOW loads the measurements and starts the inner product on the latest set-points; a
missing one counts; an inner frame of a closed loop sends the block of the completed product, a late one the previous block
with LOOP_VALID 0, and an open loop commands zero; eight repeated blocks retract the heads. While the standby runs, its shadow
of the actuator becomes what the same computation makes of it with the standby's own inputs, and a mismatch of that
computation counts for the standby. Times within a frame are left out (log entry 184). -/
def Obligations.ServoLoopEvents : Prop :=
  (∀ (s : State) (p : PortId) (a : ActId) (d : ServoWindow) (o : List LaneBlock),
      exec (.servoDecodeComplete p a d o) s =
      (let r := s.servoDecode p a d
       let old := (s.getSrv (chanKey p a)).st = .headSwitch && (s.getSrv (chanKey p a)).switchRun == 0
       let t : State := { s with fresh := s.fresh + 1 }
       let t := if r.wedgeBad then (t.incSave (Obj.WEDGE_MISMATCHES p a)).raise (.srv p a) [.SRV_WEDGE_MISMATCH] else t
       let t := if r.grayBad then t.incSave (Obj.GRAY_INCONSISTENT p a) else t
       let t := if r.rroBad then t.incSave (Obj.RRO_ERRORS p a) else t
       let t := if r.pc.isNone then t.incSave (Obj.MISSED_WEDGES p a) else t
       let t := t.modSrv (chanKey p a) (fun v => { v with upset := false, stepped := false, dr := 0, safeHeld := v.safeHeld + 1, sample := v.sample + 1 })
       let t := (t.errorStep p a (if old then none else r.pc)).swapStep p a
       let t := ((t.acquireStep p a r.pc).targetStep p a).seekStep p a
       let t := (t.trackStep p a).modSrv (chanKey p a) (fun v => { v with outerDone := !v.st.outerClosed })
       .next ((s.shadowAct (if (t.getSrv (chanKey p a)).st = .follow && (t.getSrv (chanKey p a)).lastValid &&
           decide ((t.getSrv (chanKey p a)).e.natAbs ≤ t.rd (Obj.WRITE_LIMIT p a)) then t else t.clearSafe p a) (chanKey p a) (fun t => t.boundary p a { lane := o })).settle))) ∧
  (∀ (s : State) (p : PortId) (a : ActId) (o : Bool),
      (s.getSrv (chanKey p a)).outerDone = false →
      exec (.outerProductComplete p a false o) s =
      (let v := s.getSrv (chanKey p a)
       let b := s.bank p a true v.outerBank
       let r := bankProduct b v.outer [v.outerIn, v.aff, v.dr]
       let row := fun i => if i = 0xFF then 0 else r.1.getD i 0
       let t := s.modSrv (chanKey p a) (fun v => { v with
         outerDone := true, outer := r.1, iSet := row (fldU b 353 1), maSet := row (fldU b 354 1), pred := row (fldU b 355 1) })
       .next (((s.shadowAct ((t.saturated p a r.2).safeStep p a) (chanKey p a) (fun t => t.outerProduct p a o)).shadowDiag (o && !(s.getShadow (chanKey p a)).outerDone)).settle))) ∧
  (∀ (s : State) (p : PortId) (a : ActId) (o : Bool),
      (s.getSrv (chanKey p a)).outerDone = false →
      exec (.outerProductComplete p a true o) s =
      (let t := (s.modSrv (chanKey p a) (fun v => { v with outerDone := true, upset := true })).clearSafe p a
       let t := (t.incSave (Obj.MISMATCHES p a)).raise (.srv p a) [.SRV_LOOP_MISMATCH]
       .next (((s.shadowAct (t.diag ((s.modSrv (chanKey p a) (fun v => { v with outerDone := true, upset := true })).clearSafe p a).pair.active .servoMismatch) (chanKey p a) (fun t => t.outerProduct p a o)).shadowDiag (o && !(s.getShadow (chanKey p a)).outerDone)).settle))) ∧
  (∀ (s t : State) (k : Nat) (g : State → State),
      s.shadowRuns = true →
      (t.getSrv k).st ≠ .off →
      (s.shadowAct t k g).getShadow k = (g s.asStandby).getSrv k ∧ (s.shadowAct t k g).getSrv k = t.getSrv k) ∧
  (∀ (s t : State) (k : Nat) (g : State → State),
      s.shadowRuns = false →
      s.shadowAct t k g = t) ∧
  (∀ (s : State) (p : PortId) (a : ActId) (b o : Option (BitVec 64)) (t : ServoTlm),
      b.bind servoTelemetry = some t →
      (s.getSrv (chanKey p a)).st = .follow →
      (s.getSrv (chanKey p a)).outerDone = true →
      t.shock = false →
      t.cmdCrcErr = false →
      t.holding = false →
      t.wrsetAck = false →
      t.selfRetracted = false →
      t.head.toNat = (s.getSrv (chanKey p a)).tHead →
      exec (.servoTelemetryBlock p a b o) s =
      (.next ((s.shadowAct ((s.modSrv (chanKey p a) (fun v => { v with
        tlmBad := 0, iMeas := t.iMeas.toInt, maMeas := t.maSense.toInt, bemf := t.bemf.toInt, isParked := t.parked, wrLock := t.wrLock
        headSeen := t.head.toNat, upset := v.upset })).modSrv (chanKey p a)
        (fun v => { v with inI := v.iSet, inMa := v.maSet, innerReady := true })) (chanKey p a) (fun t => t.servoBlock p a o)).settle))) ∧
  (∀ (s t : State) (p : PortId) (a : ActId) (b o : Option (BitVec 64)),
      b.bind servoTelemetry = none →
      (s.getSrv (chanKey p a)).tlmBad + 1 ≠ 2 →
      t = (s.clearSafe p a).modSrv (chanKey p a) (fun v => { v with upset := true, tlmBad := (s.getSrv (chanKey p a)).tlmBad + 1 }) →
      (t.getSrv (chanKey p a)).st = .follow →
      (t.getSrv (chanKey p a)).outerDone = true →
      exec (.servoTelemetryBlock p a b o) s =
      (.next ((s.shadowAct (t.modSrv (chanKey p a) (fun v => { v with inI := v.iSet, inMa := v.maSet, innerReady := true })) (chanKey p a) (fun t => t.servoBlock p a o)).settle))) ∧
  (∀ (s : State) (p : PortId) (a : ActId) (k : Fin 512) (j : Fin 4) (x o : ProductEnd) (t : State),
      (s.getSrv (chanKey p a)).st ≠ .off →
      (s.getSrv (chanKey p a)).st.innerClosed = false →
      t = s.modSrv (chanKey p a) (fun v => { v with
        innerReady := false, frameAt := s.frameIndex p a k j
        win := some (s.servoWindow p a (s.getSrv (chanKey p a)).timeHead ((k.val + 1) % 512)) }) →
      exec (.innerFrameStart p a k j x o) s =
      (let v := t.getSrv (chanKey p a)
       .next (((s.shadowAct (t.modSrv (chanKey p a) (fun w => { w with
         sent := { vcm := 0, ma := 0, heatRd := w.heatRd, heatWr := w.heatWr, head := w.head, hold := t.holdField v, valid := false }
         retractAsked := false })) (chanKey p a) (fun t => t.innerFrame p a k j o.late o.mismatch)).shadowDiag (o.mismatch && !s.asStandby.innerLate (s.getShadow (chanKey p a)) o.late &&
        (s.getShadow (chanKey p a)).st.innerClosed)).settle))) ∧
  (∀ (s : State) (p : PortId) (a : ActId) (k : Fin 512) (j : Fin 4) (x : Bool) (o : ProductEnd) (t : State),
      (s.getSrv (chanKey p a)).st.innerClosed = true →
      s.innerLate (s.getSrv (chanKey p a)) x = false →
      t = s.modSrv (chanKey p a) (fun v => { v with
        innerReady := false, frameAt := s.frameIndex p a k j
        win := some (s.servoWindow p a (s.getSrv (chanKey p a)).timeHead ((k.val + 1) % 512)) }) →
      exec (.innerFrameStart p a k j { late := x, mismatch := false } o) s =
      (let v := t.getSrv (chanKey p a)
       let b := t.bank p a false v.innerBank
       let meas := fun x : Int => roundDiv (x * 65536) 32767
       let r := bankProduct b v.inner [v.inI - meas v.iMeas, v.inMa - meas v.maMeas, v.inMa]
       let row := fun i => if i = 0xFF then 0 else r.1.getD i 0
       let c := cmdCode (row (fldU b 353 1))
       let m := cmdCode (row (fldU b 354 1))
       let t := t.modSrv (chanKey p a) (fun w => { w with
         inner := r.1, safeHeld := 0
         sent := { vcm := c.1, ma := m.1, heatRd := w.heatRd, heatWr := w.heatWr, head := w.head, hold := t.holdField v, valid := true } })
       .next (((s.shadowAct (t.saturated p a (r.2 + c.2 + m.2)) (chanKey p a) (fun t => t.innerFrame p a k j o.late o.mismatch)).shadowDiag (o.mismatch && !s.asStandby.innerLate (s.getShadow (chanKey p a)) o.late &&
        (s.getShadow (chanKey p a)).st.innerClosed)).settle))) ∧
  (∀ (s : State) (p : PortId) (a : ActId),
      (s.getSrv (chanKey p a)).st.innerClosed = true →
      (s.getSrv (chanKey p a)).sent.valid = false →
      8 ≤ (s.getSrv (chanKey p a)).safeHeld →
      exec (.loopSafeHoldExpiry p a) s =
      (.next ((s.shadowAct (s.srvRetract p a) (chanKey p a) (fun t => t.safeHoldEnd p a)).settle)))

/-- A bank that is neither active in a closed loop nor waiting for a swap is stored; a swap of banks that pass their checks
takes effect at once in open loops; ACT_COMMAND loads, unloads and retracts; each timeout of R216 takes the actuator to the
state the rule names; a heater settling time ends; a calibration result is stored. The standby's shadow runs the same timeouts
by its own times. -/
def Obligations.ActuatorCommandsAndTimeouts : Prop :=
  (∀ (s : State) (q : Requester) (u : UnitId) (p : PortId) (a : ActId) (b : Fin 4) (d : List Byte),
      s.Accepts q u (bankKey p a (decide (b.val < 2)) (b.val % 2)) d →
      (s.getSrv (chanKey p a)).st = .off →
      (s.getSrv (chanKey p a)).swapOuter = none →
      (s.getSrv (chanKey p a)).swapInner = none →
      exec (.bankWrite q u p a b d) s =
      .next ((((s.wrBlob (bankKey p a (decide (b.val < 2)) (b.val % 2)) d).stage (bankKey p a (decide (b.val < 2)) (b.val % 2))).answer q 0).settle)) ∧
  (∀ (s : State) (q : Requester) (u : UnitId) (p : PortId) (a : ActId),
      s.Accepts q u (Obj.BANK_SWAP p a) [3] →
      (s.getSrv (chanKey p a)).st = .off →
      bankOk true (s.bank p a true (1 - (s.getSrv (chanKey p a)).outerBank)) = true →
      bankOk false (s.bank p a false (1 - (s.getSrv (chanKey p a)).innerBank)) = true →
      exec (.bankSwap q u p a 3) s =
      .next (((s.modSrv (chanKey p a) (fun w => { w with outerBank := 1 - w.outerBank, innerBank := 1 - w.innerBank })).answer q 0).settle)) ∧
  (∀ (s : State) (q : Requester) (u : UnitId) (p : PortId) (a : ActId),
      s.Accepts q u (Obj.ACT_COMMAND p a) [1] →
      exec (.actLoad q u p a) s = .next ((((s.modSrv (chanKey p a) (fun v => { v with loadAsked := true })).loadTry p a).answer q 0).settle)) ∧
  (∀ (s : State) (q : Requester) (u : UnitId) (p : PortId) (a : ActId),
      s.Accepts q u (Obj.ACT_COMMAND p a) [2] →
      exec (.actUnload q u p a) s = .next (((s.srvUnload p a).answer q 0).settle)) ∧
  (∀ (s : State) (q : Requester) (u : UnitId) (p : PortId) (a : ActId),
      s.Accepts q u (Obj.ACT_COMMAND p a) [3] →
      exec (.actRetract q u p a) s = .next (((s.srvRetract p a).answer q 0).settle)) ∧
  (∀ (s : State) (p : PortId) (a : ActId),
      (s.getSrv (chanKey p a)).st = .loading →
      s.srvFor (s.getSrv (chanKey p a)) (1000 * s.rd (Obj.LOAD_TIMEOUT p a)) = true →
      exec (.loadTimeout p a) s =
      (.next ((s.shadowAct ((s.modSrv (chanKey p a) (fun v => { v with loadFails := v.loadFails + 1 })).srvTo p a .unloading) (chanKey p a) (fun t => t.loadOverrun p a)).settle))) ∧
  (∀ (s : State) (p : PortId) (a : ActId),
      (s.getSrv (chanKey p a)).st = .acquire →
      s.srvFor (s.getSrv (chanKey p a)) (1000 * s.rd (Obj.ACQ_TIMEOUT p a)) = true →
      exec (.acqTimeout p a) s =
      (.next ((s.shadowAct (s.srvRetract p a) (chanKey p a) (fun t => t.acquireOverrun p a)).settle))) ∧
  (∀ (s : State) (p : PortId) (a : ActId),
      (s.getSrv (chanKey p a)).st = .seek →
      s.srvFor (s.getSrv (chanKey p a)) (1000 * s.rd (Obj.SEEK_TIMEOUT p a)) = true →
      exec (.seekTimeout p a) s =
      (.next ((s.shadowAct (((s.incSave (Obj.SEEK_TIMEOUTS p a)).raise (.srv p a) [.SRV_SEEK_TIMEOUT]).srvTo p a .acquire) (chanKey p a) (fun t => t.seekOverrun p a)).settle))) ∧
  (∀ (s : State) (p : PortId) (a : ActId),
      (s.getSrv (chanKey p a)).st = .unloading →
      s.srvFor (s.getSrv (chanKey p a)) (300000) = true →
      exec (.unloadTimeout p a) s =
      (.next ((s.shadowAct (s.srvRetract p a (s.getSrv (chanKey p a)).stopOrdered) (chanKey p a) (fun t => t.unloadOverrun p a)).settle))) ∧
  (∀ (s : State) (p : PortId) (a : ActId),
      (s.getSrv (chanKey p a)).st = .pn2Retract →
      s.srvFor (s.getSrv (chanKey p a)) (1000000) = true →
      exec (.retractTimeout p a) s =
      (.next ((s.shadowAct (s.srvFault p a) (chanKey p a) (fun t => t.retractOverrun p a)).settle))) ∧
  (∀ (s : State) (p : PortId) (a : ActId),
      (s.getSrv (chanKey p a)).heaterFrom + s.rd (Obj.HEATER_SETTLE p a) ≤ s.now →
      exec (.heaterSettleExpiry p a) s =
      (.next ((s.shadowAct (s.modSrv (chanKey p a) (fun v => { v with heaterWait := false })) (chanKey p a) (fun t => t.heaterEnd p a)).settle))) ∧
  (∀ (s : State) (p : PortId) (a : ActId) (d : CalData),
      (s.getPort p).state = .calibrating →
      (s.getPort p).heldCmd = none →
      exec (.actuatorCalibrated p a d) s = .next (((s.calibrated p a d).portSettle p).settle))

/-- A telemetry block loads bus and back-EMF readings and hands a crossing to the window of the drive state; a window that
closes without one is counted and the run goes on from the expected crossing, and a second in a row loses the rotor; a
commutation takes the next of the six drive states; the duty follows the speed loop; an index measures the phase error, and
one beyond 0.5 degrees takes LOCKED back to PULL_IN; a probe brakes on, or ends a stop. While the standby runs, its shadow of
the spindle becomes what the same computation makes of it with the standby's own telemetry, unless the active unit's state
changes. Times are those of log entries 1 and 3. -/
def Obligations.SpindleControl : Prop :=
  (∀ (s : State) (p : PortId) (w o : Option (BitVec 64)) (b : MotorTlm),
      w.bind motorTelemetry = some b →
      s.laneUp p 15 = true →
      (s.getSpd p).st ≠ .idle →
      exec (.motorTelemetryBlock p w o) s =
      (.next ((s.shadowSpin ((((s.modSpd p (fun q => { q with frame := q.frame + 1 }))).motorTlm p (s.getSpd p) b).motorSend p) p (fun t => t.motorBlock p o)).settle))) ∧
  (∀ (s : State) (p : PortId) (w o : Option (BitVec 64)),
      w.bind motorTelemetry = none →
      exec (.motorTelemetryBlock p w o) s =
      (.next ((s.shadowSpin (((s.modSpd p (fun q => { q with frame := q.frame + 1 }))).motorSend p) p (fun t => t.motorBlock p o)).settle))) ∧
  (∀ (s : State) (p : PortId) (b : MotorTlm),
      (s.getSpd p).st = .locked →
      b.zc = none →
      b.clamp = true →
      b.bemf.toNat * 100 < s.rd (Obj.BEMF_TARGET p) →
      -10 ≤ b.iBus.toInt →
      s.motorTlm p (s.getSpd p) b =
      (s.modSpd p (fun q => { q with
        iPhase := b.iPhase.toInt, iBus := b.iBus.toInt, vBus := b.vBus.toNat, bemf := b.bemf.toNat })).modSpd p (fun q => { q with regen := 0 })) ∧
  (∀ (s : State) (p : PortId),
      (s.getSpd p).st = .ramp →
      (s.getSpd p).judged = false →
      s.laneUp p 15 = true →
      s.windowEnd p ≤ (s.getSpd p).frame * 256 →
      exec (.zcWindowClose p) s =
      (.next ((s.shadowSpin (s.modSpd p (fun q => { q with run := 0, lastZc := 0, judged := true })) p (fun t => t.zcMissed p)).settle))) ∧
  (∀ (s : State) (p : PortId),
      (s.getSpd p).st = .locked →
      (s.getSpd p).judged = false →
      (s.getSpd p).missRun = 0 →
      s.laneUp p 15 = true →
      s.windowEnd p ≤ (s.getSpd p).frame * 256 →
      exec (.zcWindowClose p) s =
      (let r := (s.incSave (Obj.ZC_MISSES p)).raise (.spd p) [.SPD_ZC_MISS]
       .next ((s.shadowSpin ((r.modSpd p (fun q => { q with
         lastZc := (s.getSpd p).expected, commAt := some (r.commAfter p (s.getSpd p).expected), run := 0, missRun := q.missRun + 1
         judged := true })).zcCount p) p (fun t => t.zcMissed p)).settle))) ∧
  (∀ (s : State) (p : PortId),
      (s.getSpd p).st = .locked →
      (s.getSpd p).judged = false →
      1 ≤ (s.getSpd p).missRun →
      s.laneUp p 15 = true →
      s.windowEnd p ≤ (s.getSpd p).frame * 256 →
      exec (.zcWindowClose p) s =
      (let r := (s.incSave (Obj.ZC_MISSES p)).raise (.spd p) [.SPD_ZC_MISS]
       .next ((s.shadowSpin (((r.modSpd p (fun q => { q with
         lastZc := (s.getSpd p).expected, commAt := some (r.commAfter p (s.getSpd p).expected), run := 0, missRun := q.missRun + 1
         judged := true })).zcCount p).rotorLost p) p (fun t => t.zcMissed p)).settle))) ∧
  (∀ (s : State) (p : PortId) (t : Nat),
      (s.getSpd p).st = .ramp →
      (s.getSpd p).commAt = some t →
      t ≤ ((s.getSpd p).frame + 1) * 256 →
      exec (.commutation p) s =
      (.next (s.shadowSpin (s.modSpd p (fun q => { q with
        phase := ((s.getSpd p).phase + 1) % 6, bridge := .drive (((s.getSpd p).phase + 1) % 6), commTime := t, clampAt := none
        judged := false, regen := 0
        rampT := if q.st = .ramp then rampNext (s.getSpd p).rampT (s.rd (Obj.RAMP_ACCEL p)) else q.rampT
        commAt := if q.st = .ramp then some (t + rampNext (s.getSpd p).rampT (s.rd (Obj.RAMP_ACCEL p))) else none })) p (fun t => t.commutate p)))) ∧
  (∀ (s : State) (p : PortId) (t : Nat),
      (s.getSpd p).st = .locked →
      (s.getSpd p).commAt = some t →
      t ≤ ((s.getSpd p).frame + 1) * 256 →
      exec (.commutation p) s =
      (.next (s.shadowSpin (s.modSpd p (fun q => { q with
        phase := ((s.getSpd p).phase + 1) % 6, bridge := .drive (((s.getSpd p).phase + 1) % 6), commTime := t, clampAt := none
        judged := false, regen := 0
        rampT := if q.st = .ramp then rampNext (s.getSpd p).rampT (s.rd (Obj.RAMP_ACCEL p)) else q.rampT
        commAt := if q.st = .ramp then some (t + rampNext (s.getSpd p).rampT (s.rd (Obj.RAMP_ACCEL p))) else none })) p (fun t => t.commutate p)))) ∧
  (∀ (s : State) (p : PortId),
      (s.getSpd p).st = .accelBemf →
      (s.getSpd p).dutyAt + 64 ≤ (s.getSpd p).frame →
      exec (.dutyUpdate p) s =
      (let t := s.wr (Obj.SPEED_NOW p) (s.zcSpeed p)
       .next ((s.shadowSpin ((t.applyDuty p (if t.powerRoom p && decide (s.zcSpeed p < 1000 * t.rpm)
         then min (s.rd (Obj.DUTY_CAP p)) ((s.getSpd p).duty + 8) else (s.getSpd p).duty)).modSpd p (fun q => { q with dutyAt := (s.getSpd p).frame })) p (fun t => t.dutyDue p)).settle))) ∧
  (∀ (s : State) (p : PortId),
      (s.getSpd p).st = .locked →
      (s.getSpd p).dutyAt + 64 ≤ (s.getSpd p).frame →
      exec (.dutyUpdate p) s =
      (.next ((s.shadowSpin ((((s.modSpd p (fun q => { q with integ := (s.speedLoop p).1 })).wr (Obj.SPEED_NOW p)
        (s.loopSpeed p)).applyDuty p (s.speedLoop p).2).modSpd p (fun q => { q with dutyAt := (s.getSpd p).frame })) p (fun t => t.dutyDue p)).settle))) ∧
  (∀ (s : State) (p : PortId) (b e : CtStamp) (n : Nat) (t : State),
      s.indexTime p b e = some n →
      (s.getSpd p).st = .locked →
      t = (s.modSpd p (fun q => { q with idxLag := n - q.zcTime, sinceIdx := 0 })).phaseSet p (s.lateness n) →
      phaseWithin t.rpm (s.lateness n) 50 = true →
      exec (.spindleIndex p b e) s =
      (.next ((s.shadowSpin (t) p (fun t => t.indexSeen p b e)).settle))) ∧
  (∀ (s : State) (p : PortId) (b e : CtStamp) (n : Nat) (t : State),
      s.indexTime p b e = some n →
      (s.getSpd p).st = .locked →
      t = (s.modSpd p (fun q => { q with idxLag := n - q.zcTime, sinceIdx := 0 })).phaseSet p (s.lateness n) →
      phaseWithin t.rpm (s.lateness n) 50 = false →
      exec (.spindleIndex p b e) s =
      (.next ((s.shadowSpin (((t.spdTo p .pullIn).incSave (Obj.LOCK_LOSSES p)).raise (.spd p) [.SPD_LOCK_LOST]) p (fun t => t.indexSeen p b e)).settle))) ∧
  (∀ (s : State) (p : PortId) (t : State),
      (s.getSpd p).probeAt + 11000 ≤ s.now →
      t = s.modSpd p (fun q => { q with probeAt := q.probeAt + 10000 }) →
      (s.getSpd p).st = .brakeToRest →
      s.rd (Obj.BEMF_TARGET p) ≤ (s.getSpd p).bemf * 50 →
      exec (.brakeProbe p) s =
      (.next ((s.shadowSpin (t.brakeWith p (s.getSpd p).bemf) p (fun t => t.probeEnd p)).settle))) ∧
  (∀ (s : State) (p : PortId) (t : State),
      (s.getSpd p).probeAt + 11000 ≤ s.now →
      t = s.modSpd p (fun q => { q with probeAt := q.probeAt + 10000 }) →
      (s.getSpd p).st = .stopping →
      (s.getSpd p).bemf * 100 < s.rd (Obj.BEMF_TARGET p) →
      1 ≤ (s.getSpd p).still →
      exec (.brakeProbe p) s =
      (.next ((s.shadowSpin (t.stopped p) p (fun t => t.probeEnd p)).settle)))

/-- MEASURE ends at rest-seeking with no direction found; a standstill test ends COAST_TO_REST at rest, and a coast that lasts
too long brakes; ALIGN goes to RAMP at drive state 1; RAMP at its limit aligns again, and the third time of a grant fails; a
spin-up without LOCKED fails the port; re-catch attempts follow one another and the re-catch limit fails; SWEEP_RPM is stored
and taken when no spindle is driven; each edge of the sweep reference counts and sets the next by 60 s / SWEEP_RPM in ticks of
20 ns (log entries 1 and 3 for the passing of time). -/
def Obligations.SpindleTimeouts : Prop :=
  (∀ (s : State) (p : PortId),
      (s.getSpd p).st = .measure →
      s.spdFor p (250000) = true →
      exec (.measureTimeout p) s = .next (((s.wr (Obj.DIRECTION_SEEN p) 0).spdTo p .coastToRest).settle)) ∧
  (∀ (s : State) (p : PortId),
      (s.getSpd p).st = .coastToRest →
      (s.getSpd p).quietFrom + 200000 ≤ s.now →
      exec (.standstillTest p) s = .next (((s.wr (Obj.SPEED_NOW p) 0).spdTo p .atRest).settle)) ∧
  (∀ (s : State) (p : PortId),
      (s.getSpd p).st = .coastToRest →
      s.spdFor p (1000 * s.rd (Obj.COAST_MAX p)) = true →
      exec (.coastMaxExpiry p) s = .next ((s.spdTo p .brakeToRest).settle)) ∧
  (∀ (s : State) (p : PortId),
      (s.getSpd p).st = .align →
      s.spdFor p (1000 * s.rd (Obj.ALIGN_TIME p)) = true →
      exec (.alignTimeExpiry p) s = .next (((s.spdTo p .ramp).modSpd p (fun q => { q with
        phase := 1, bridge := .drive 1, duty := s.rd (Obj.RAMP_DUTY p), rampT := s.rd (Obj.RAMP_T0 p) * 64, commTime := q.frame * 256
        commAt := some (q.frame * 256 + s.rd (Obj.RAMP_T0 p) * 64), lastZc := 0, int1 := 0, int2 := 0 })).settle)) ∧
  (∀ (s : State) (p : PortId),
      (s.getSpd p).st = .ramp →
      s.spdFor p (1000 * s.rd (Obj.RAMP_MAX p)) = true →
      (s.getSpd p).rampFails < 2 →
      exec (.rampMaxExpiry p) s = .next (((s.spdTo p .align).modSpd p (fun q => { q with
        rampFails := q.rampFails + 1, bridge := .drive 0, phase := 0, duty := s.rd (Obj.ALIGN_DUTY p), commAt := none })).settle)) ∧
  (∀ (s : State) (p : PortId),
      (s.getSpd p).st = .ramp →
      s.spdFor p (1000 * s.rd (Obj.RAMP_MAX p)) = true →
      2 ≤ (s.getSpd p).rampFails →
      exec (.rampMaxExpiry p) s = .next ((s.startFail p .rotorLost).settle)) ∧
  (∀ (s : State) (p : PortId),
      (s.getSpd p).granted = true →
      (s.getSpd p).grantTime + 14000000 ≤ s.now →
      exec (.spinupTimeout p) s =
      .next ((s.startFail p (if (s.getSpd p).ctReached then .rotorLost else .ctNotRestored)).settle)) ∧
  (∀ (s : State) (p : PortId),
      (s.getSpd p).st = .recatch →
      (s.getSpd p).restarted = false →
      (s.getSpd p).tryAt + 500000 ≤ s.now →
      exec (.recatchAttemptTimeout p) s = .next ((s.recatchNext p).settle)) ∧
  (∀ (s : State) (p : PortId),
      (s.getSpd p).st = .recatch →
      s.spdFor p (1500000) = true →
      exec (.recatchTimeout p) s = .next ((s.startFail p .rotorLost).settle)) ∧
  (∀ (s : State) (q : Requester) (u : UnitId) (v : BitVec 16),
      s.Accepts q u Obj.SWEEP_RPM (leBytes 2 v.toNat) →
      exec (.sweepRpmWrite q u v) s = .next (((s.save Obj.SWEEP_RPM v.toNat).rpmTake).answer q 0)) ∧
  (∀ (s : State),
      exec .sweepReferenceEdge s =
      (let t : State := { s.inc Obj.SWEEP_COUNT with sweepRef := (s.inc Obj.SWEEP_COUNT).sweepRef + 3000000000 * 4294967296 / (s.inc Obj.SWEEP_COUNT).rpm }
       .next ((t.sweepTimers .A).sweepTimers .B)))

/-- FLTn asserted on the active unit in READY cuts the gates and stops media planning, on the other unit only its filter takes
the level; released in POWERING it starts lane training; held for 50 ms it isolates the port; presence of 1 s makes an EMPTY
port PRESENT, and OFFLINE where PERSIST_STATE says so; removal reports HDA_REMOVED and empties the port; a SPIN read-back that
differs fails the port with cause 0Ah; the ninth edge in 64 us enters the chatter state, in which the input counts as
asserted; leaving it, the raw level counts again; units that differ for 1 ms are reported. The times are the sender's (log
entry 3). -/
def Obligations.PortLines : Prop :=
  (∀ (s : State) (u : UnitId) (p : PortId),
      u = s.pair.active →
      (s.getLine (sideKey u p)).flt.chatter = false →
      (s.getLine (sideKey u p)).flt.level = false →
      (s.getPort p).state = .ready →
      exec (.fltnAsserted u p) s =
      (let t := (s.modLine (sideKey u p) (fun l => { l with flt := { l.flt with raw := true } })).modLine (sideKey u p)
         (fun l => { l with flt := { l.flt with level := true, since := s.now } })
       .next ((((t.cutPort p).modPort p (fun q => { q with fltStop := true, codeRead := false }))).settle))) ∧
  (∀ (s : State) (u : UnitId) (p : PortId),
      u ≠ s.pair.active →
      (s.getLine (sideKey u p)).flt.chatter = false →
      (s.getLine (sideKey u p)).flt.level = false →
      exec (.fltnAsserted u p) s =
      .next (((s.modLine (sideKey u p) (fun l => { l with flt := { l.flt with raw := true } })).modLine (sideKey u p)
         (fun l => { l with flt := { l.flt with level := true, since := s.now } })).settle)) ∧
  (∀ (s : State) (u : UnitId) (p : PortId),
      u = s.pair.active →
      (s.getLine (sideKey u p)).flt.chatter = false →
      (s.getPort p).state = .powering →
      exec (.fltnReleased u p) s =
      (let t := (s.modLine (sideKey u p) (fun l => { l with flt := { l.flt with raw := false, level := true } })).modLine (sideKey u p)
         (fun l => { l with flt := { l.flt with level := false, since := s.now } })
       .next ((t.portTo p .training .stepComplete).settle))) ∧
  (∀ (s : State) (u : UnitId) (p : PortId),
      u ≠ s.pair.active →
      (s.getLine (sideKey u p)).flt.chatter = false →
      exec (.fltnReleased u p) s =
      .next (((s.modLine (sideKey u p) (fun l => { l with flt := { l.flt with raw := false, level := true } })).modLine (sideKey u p)
         (fun l => { l with flt := { l.flt with level := false, since := s.now } })).settle)) ∧
  (∀ (s : State) (p : PortId),
      (s.getPort p).state.inPower = true →
      s.fltDue p = true →
      exec (.fltnIsolation p) s =
      .next (((s.raise (.lines p) [.PORT_FLT_ISOLATED]).portFail p .fltIsolation).settle)) ∧
  (∀ (s : State) (p : PortId),
      (s.getPort p).state = .powering →
      s.fltDue p = decide ((s.getPort p).entryTime + 70000 ≤ s.now)) ∧
  (∀ (s : State) (p : PortId),
      (s.getPort p).state ≠ .powering →
      s.fltDue p = ((s.getLine (sideKey s.pair.active p)).flt.level && decide ((s.getLine (sideKey s.pair.active p)).flt.since + 50000 ≤ s.now))) ∧
  (∀ (s : State) (u : UnitId) (p : PortId),
      (s.getLine (sideKey u p)).prs.chatter = false →
      (s.getLine (sideKey u p)).prs.level = false →
      exec (.prsnAsserted u p) s =
      .next (((s.modLine (sideKey u p) (fun l => { l with prs := { l.prs with raw := true } })).modLine (sideKey u p)
         (fun l => { l with prs := { l.prs with level := true, since := s.now } })).settle)) ∧
  (∀ (s : State) (p : PortId),
      (s.getPort p).state = .empty →
      (s.getLine (sideKey s.pair.active p)).prs.level = true →
      s.mode.cur ≠ .unpowered →
      s.rd (Obj.PERSIST_STATE p) = 0 →
      exec (.presenceConfirmed p) s =
      .next (((s.portTo p .present .presence).modPort p (fun q => { q with confirmed := true })).settle)) ∧
  (∀ (s : State) (p : PortId),
      (s.getPort p).state = .empty →
      (s.getLine (sideKey s.pair.active p)).prs.level = true →
      s.mode.cur ≠ .unpowered →
      s.rd (Obj.PERSIST_STATE p) = 9 →
      exec (.presenceConfirmed p) s =
      .next ((((s.portTo p .present .presence).modPort p (fun q => { q with confirmed := true })).portTo p .offline .powerApplied).settle)) ∧
  (∀ (s : State) (u : UnitId) (p : PortId) (t : State),
      u = s.pair.active →
      (s.getLine (sideKey u p)).prs.chatter = false →
      (s.getLine (sideKey u p)).prs.level = true →
      t = (s.modLine (sideKey u p) (fun l => { l with prs := { l.prs with raw := false } })).modLine (sideKey u p)
         (fun l => { l with prs := { l.prs with level := false, since := s.now } }) →
      exec (.prsnDeasserted u p) s = .next (t.removed p).settle) ∧
  (∀ (s : State) (p : PortId) (t : State),
      (s.getPort p).state = .ready →
      t = s.forEach [0, 1] (fun s a => s.modChan (chanKey p a) (fun c => { c with sys := [], void := [], headFails := [], degraded := [] })) →
      s.removed p = ((t.cutPort p).raise (.lines p) [.PORT_HDA_REMOVED]).portTo p .empty .removed) ∧
  (∀ (s : State) (u : UnitId) (p : PortId) (r : Option SpinCode),
      u = s.pair.active →
      r ≠ some (s.getLine (sideKey u p)).driven →
      exec (.spinMismatch u p r) s =
      .next ((((s.modLine (sideKey u p) (fun l => { l with readback := r })).raise (.lines p) [.PORT_SPIN_MISMATCH]).portFail p
        .spinMismatch).settle)) ∧
  (∀ (s : State) (u : UnitId) (p : PortId) (i : LineInput) (b : Bool),
      ((s.getLine (sideKey u p)).filt i).chatter = true →
      exec (.rawEdge u p i b) s =
      .next ((s.modLine (sideKey u p) (fun l => l.modFilt i (fun f => { f with
        raw := b
        edges := ((s.now :: ((s.getLine (sideKey u p)).filt i).edges).filter (fun t => decide (s.now < t + 64))).take 9 }))).settle)) ∧
  (∀ (s : State) (u : UnitId) (p : PortId) (i : LineInput) (b : Bool) (t : State),
      ((s.getLine (sideKey u p)).filt i).chatter = false →
      9 ≤ ((s.now :: ((s.getLine (sideKey u p)).filt i).edges).filter (fun t => decide (s.now < t + 64))).length →
      t = ((s.modLine (sideKey u p) (fun l => l.modFilt i (fun f => { f with
         raw := b
         edges := ((s.now :: ((s.getLine (sideKey u p)).filt i).edges).filter (fun t => decide (s.now < t + 64))).take 9 }))).modLine (sideKey u p)
         (fun l => l.modFilt i (fun f => { f with chatter := true }))).inc (Obj.CHATTER_COUNT u p) →
      exec (.rawEdge u p i b) s =
      .next (((if u = s.pair.active then t.raise (.lines p) [.PORT_CHATTER] else t).inputTo u p i true).settle)) ∧
  (∀ (s : State) (u : UnitId) (p : PortId) (i : LineInput),
      ((s.getLine (sideKey u p)).filt i).chatter = true →
      exec (.chatterExit u p i) s =
      .next (((s.modLine (sideKey u p) (fun l => l.modFilt i (fun f => { f with chatter := false }))).inputTo u p i
        ((s.getLine (sideKey u p)).filt i).raw).settle)) ∧
  (∀ (s : State) (p : PortId),
      (s.unitSt .A).present = true →
      (s.unitSt .B).present = true →
      (s.getLine (sideKey .A p)).flt.level ≠ (s.getLine (sideKey .B p)).flt.level →
      exec (.lineDisagree p) s = .next ((s.raise (.lines p) [.PORT_LINE_DISAGREE]).settle))

/-- Training takes its seven steps in order: TOKEN after the motor lane, the identity with the reader rate, the skew of at
most 32 blocks, the port linked at the last; a timeout starts it once more and then fails the port; a lane that fails counts
its block errors and leaves service, and a retrained lane is back and counted; a clock-track count within 3 % keeps tolerance,
a second one outside loses the track; 3 s later the port fails; clock-track and telemetry frames update the sample indices,
OBEY and the fault code read by the active unit. The retry count at completion is the model's choice (DEDUCED, log entry 112).
-/
def Obligations.PortLanesAndClockTrack : Prop :=
  (∀ (s : State) (u : UnitId) (p : PortId) (t : State),
      s.trains u p = true →
      (s.getLine (sideKey u p)).trainStep = 0 →
      t = s.modLine (sideKey u p) (fun l => { l with trainStep := 0 + 1, trainAt := s.now }) →
      exec (.laneTrainingStep u p .plain) s = .next (if u = s.pair.active then (t.modPn2 p (fun q => { q with firstLane := some (q.firstLane.getD u) })).tokenTry p
        else t.modPn2 p (fun q => { q with firstLane := some (q.firstLane.getD u) })).settle) ∧
  (∀ (s : State) (u : UnitId) (p : PortId) (t : State) (i : HdaIdentity),
      s.trains u p = true →
      (s.getLine (sideKey u p)).trainStep = 1 →
      u = s.pair.active →
      t = s.modLine (sideKey u p) (fun l => { l with trainStep := 1 + 1, trainAt := s.now }) →
      exec (.laneTrainingStep u p (.identity i)) s = .next (t.takeIdentity p i).settle) ∧
  (∀ (s : State) (u : UnitId) (p : PortId) (t : State) (b : Nat),
      s.trains u p = true →
      (s.getLine (sideKey u p)).trainStep = 4 →
      b ≤ 32 →
      t = s.modLine (sideKey u p) (fun l => { l with trainStep := 4 + 1, trainAt := s.now }) →
      exec (.laneTrainingStep u p (.skew b)) s = .next (if u = s.pair.active then t.wr (Obj.DESKEW_MAX p) b else t).settle) ∧
  (∀ (s : State) (u : UnitId) (p : PortId) (t : State) (b : Nat),
      s.trains u p = true →
      (s.getLine (sideKey u p)).trainStep = 4 →
      32 < b →
      t = s.modLine (sideKey u p) (fun l => { l with trainStep := 4 + 1, trainAt := s.now }) →
      exec (.laneTrainingStep u p (.skew b)) s = .next (t.trainFail u p).settle) ∧
  (∀ (s : State) (u : UnitId) (p : PortId) (t : State),
      s.trains u p = true →
      (s.getLine (sideKey u p)).trainStep = 5 →
      (List.range (s.rd (Obj.ACTUATOR_COUNT p))).all (fun a => (s.getSrv (chanKey p a)).wrLock) = true →
      t = s.modLine (sideKey u p) (fun l => { l with trainStep := 5 + 1, trainAt := s.now }) →
      exec (.laneTrainingStep u p .plain) s = .next (t).settle) ∧
  (∀ (s : State) (u : UnitId) (p : PortId) (t : State),
      s.trains u p = true →
      (s.getLine (sideKey u p)).trainStep = 6 →
      t = s.modLine (sideKey u p) (fun l => { l with trainStep := 6 + 1, trainAt := s.now }) →
      exec (.laneTrainingStep u p .plain) s = .next (if u = s.pair.active then t.trained p else t.lanesIn u p).settle) ∧
  (∀ (s : State) (u : UnitId) (p : PortId),
      s.trains u p = true →
      (s.getLine (sideKey u p)).trainAt + trainBound ((s.getLine (sideKey u p)).trainStep + 1) < s.now →
      (s.getLine (sideKey u p)).retried = false →
      exec (.laneTrainingTimeout u p) s =
      .next (((s.modLine (sideKey u p) (fun l => { l with retried := true, trainStep := 0, trainAt := s.now })).tokenLow u p).settle)) ∧
  (∀ (s : State) (u : UnitId) (p : PortId),
      s.trains u p = true →
      (s.getLine (sideKey u p)).trainAt + trainBound ((s.getLine (sideKey u p)).trainStep + 1) < s.now →
      (s.getLine (sideKey u p)).retried = true →
      u = s.pair.active →
      exec (.laneTrainingTimeout u p) s =
      .next (((s.raise (.lines p) [.PORT_LANE_FAILED]).portFail p .laneFailure).settle)) ∧
  (∀ (s : State) (u : UnitId) (p : PortId) (l : Fin 16) (b : Bool) (e : BitVec 32),
      s.laneUpOn u p l = true →
      exec (.laneFail u p l b e) s =
      .next (if b || decide ((s.countErrs u p l e.toNat).rd (Obj.LANE_ERR_LIMIT p) < ((s.countErrs u p l e.toNat).getLine (sideKey u p)).errs l)
        then (s.countErrs u p l e.toNat).laneFail u p l else s.countErrs u p l e.toNat).settle) ∧
  (∀ (s : State) (u : UnitId) (p : PortId) (l : Fin 16),
      (s.getLine (sideKey u p)).retraining.contains l.val = true →
      (l.val ≠ 15 ∨ u ≠ s.pair.active) →
      exec (.laneRetrainComplete u p l) s =
      .next ((((s.modLine (sideKey u p) (fun q => { q with retraining := q.retraining.filter (· != l.val) })).setBit (Obj.LANES_IN_SERVICE u p) l
        true).incSave (Obj.RETRAIN_COUNT p)).settle)) ∧
  (∀ (s : State) (u : UnitId) (p : PortId) (t : State),
      (s.getLine (sideKey u p)).retraining.contains 15 = true →
      u = s.pair.active →
      t = (((s.modLine (sideKey u p) (fun q => { q with retraining := q.retraining.filter (· != 15) })).setBit (Obj.LANES_IN_SERVICE u p) 15 true).incSave
      (Obj.RETRAIN_COUNT p)).tokenTry p →
      exec (.laneRetrainComplete u p 15) s =
      .next (if (t.getSpd p).st.driven || (t.getSpd p).st = .recatch then t.recatchEnter p else t).settle) ∧
  (∀ (s : State) (u : UnitId) (p : PortId) (n : BitVec 16),
      u ≠ s.pair.active →
      (s.getPort p).state.inPower = true →
      s.rd (Obj.LANES_IN_SERVICE u p) ≠ 0 →
      exec (.ctWindow u p n false) s =
      (let t := s.modLine (sideKey u p) (fun l => l.ctCount s.now n.toNat (s.rd (Obj.CT_CYCLES_PER_REV p)) false
         ((s.getSpd p).st.onTrack || (s.getSpd p).st == .bemfHold) (ctWithin n.toNat (s.ctExpect p) (s.rd (Obj.CT_CYCLES_PER_REV p))))
       .next (t.putSpdShadow p { t.getSpdShadow p with ctSpeed := ctSpeedOf n.toNat (s.rd (Obj.CT_CYCLES_PER_REV p)) }).settle)) ∧
  (∀ (s : State) (u : UnitId) (p : PortId) (n : BitVec 16) (l : LineSt),
      l = (s.getLine (sideKey u p)) →
      l.ct ≠ .lost →
      ctWithin n.toNat (s.ctExpect p) (s.rd (Obj.CT_CYCLES_PER_REV p)) = true →
      l.ctCount s.now n.toNat (s.rd (Obj.CT_CYCLES_PER_REV p)) false true (ctWithin n.toNat (s.ctExpect p) (s.rd (Obj.CT_CYCLES_PER_REV p))) =
      { l with ctBad := 0, ct := .inTolerance }) ∧
  (∀ (s : State) (u : UnitId) (p : PortId) (n : BitVec 16) (l : LineSt),
      l = (s.getLine (sideKey u p)) →
      l.ct ≠ .lost →
      1 ≤ l.ctBad →
      ctWithin n.toNat (s.ctExpect p) (s.rd (Obj.CT_CYCLES_PER_REV p)) = false →
      l.ctCount s.now n.toNat (s.rd (Obj.CT_CYCLES_PER_REV p)) false true (ctWithin n.toNat (s.ctExpect p) (s.rd (Obj.CT_CYCLES_PER_REV p))) = l.ctLose s.now) ∧
  (∀ (s : State) (p : PortId),
      (s.getLine (sideKey s.pair.active p)).ct = .lost →
      (s.getLine (sideKey s.pair.active p)).ctSince + 3000000 ≤ s.now →
      (s.getPort p).state.inPower = true →
      exec (.ctTimeout p) s =
      .next (((s.raise (.lines p) [.PORT_CT_FAILED]).portFail p .ctNotRestored).settle)) ∧
  (∀ (s : State) (u : UnitId) (p : PortId) (c i j : Word) (f : BitVec 16) (b : Bool),
      u = s.pair.active →
      s.laneUpOn u p 14 = true →
      exec (.clockTrackFrame u p c i j f b) s =
      .next ((((s.modLine (sideKey u p) (fun l => { l with synPhase := f.toNat, synLock := b })).modChan (chanKey p 0)
        (fun d => { d with ctCycles := c.toNat, ctIndex := i, sidx := i })).modChan (chanKey p 1)
        (fun d => { d with ctCycles := c.toNat, ctIndex := j, sidx := j })).settle)) ∧
  (∀ (s : State) (u : UnitId) (p : PortId) (o : Obey) (f : BitVec 16) (n : BitVec 8),
      s.motorUp u p = true →
      u = s.pair.active →
      (s.getPort p).codeRead = false →
      exec (.telemetryFrame u p o f n) s =
      .next ((((s.modLine (sideKey u p) (fun l => { l with
        obey := o, obeyRun := if decide (o = .none) || decide (o = .side u) then l.obeyRun + 1 else 0
        faultCode := f.toNat, frame := n.toNat })).readCode p f.toNat).claim p).settle))

/-- OFFLINE spins a READY port down for the command, and from PRESENT ends an ONLINE request and is refused with error 09h;
ONLINE takes OFFLINE to PRESENT with the request pending, and is stored while the port is in a transition; RETRY takes FAILED
to PRESENT. -/
def Obligations.PortCommands : Prop :=
  (∀ (s : State) (q : Requester) (u : UnitId) (p : PortId),
      s.Accepts q u (Obj.PORT_COMMAND p) [1] →
      (s.getPort p).state = .ready →
      exec (.offline q u p) s = .next (((s.portMove p .spinningDown .portCommand).answer q 0).settle)) ∧
  (∀ (s : State) (q : Requester) (u : UnitId) (p : PortId),
      s.Accepts q u (Obj.PORT_COMMAND p) [1] →
      (s.getPort p).state = .present →
      exec (.offline q u p) s =
      .next (((s.answer q 0x09).modPort p (fun r => { r with online := false })).settle)) ∧
  (∀ (s : State) (q : Requester) (u : UnitId) (p : PortId),
      s.Accepts q u (Obj.PORT_COMMAND p) [2] →
      (s.getPort p).state = .offline →
      exec (.online q u p) s =
      .next ((((s.portMove p .present .portCommand).modPort p (fun q => { q with online := true })).answer q 0).settle)) ∧
  (∀ (s : State) (q : Requester) (u : UnitId) (p : PortId),
      s.Accepts q u (Obj.PORT_COMMAND p) [2] →
      (s.getPort p).state = .training →
      exec (.online q u p) s =
      .next (((s.modPort p (fun r => { r with heldCmd := some 2 })).answer q 0).settle)) ∧
  (∀ (s : State) (q : Requester) (u : UnitId) (p : PortId),
      s.Accepts q u (Obj.PORT_COMMAND p) [3] →
      (s.getPort p).state = .failed →
      exec (.retry q u p) s = .next (((s.portMove p .present .portCommand).answer q 0).settle))

/-- A retract-then-brake code of the obeyed side, or an invalid waveform, brakes the windings and retracts both actuators; a
code that leaves the code acted on changes nothing more; a change of a TOKEN line turns write current off; write current
starts only for the obeyed side with its lane in service, not holding or retracted; a loop block of the obeyed side is applied
with the register blocks after it, and a slot without one is missed; a motor block of the obeyed side drives the bridge under
follow, and the third slot without one coasts. The outcome of each line is the sender's (log entry 184). -/
def Obligations.Pn2Obedience : Prop :=
  (∀ (s : State) (p : PortId),
      (s.getPn2 p).obey = .side .A →
      (s.getPn2 p).spinA = some .follow →
      exec (.pn2SpinDecode p .A .retractBrake) s =
      .next ((s.modPn2 p (fun q => { q with spinA := some .retractBrake })).modPn2 p (fun q => { q with
        bridge := .shortBrake, duty := 0
        act0 := q.act0.retract (s.parked p 0), act1 := q.act1.retract (s.parked p 1) }))) ∧
  (∀ (s : State) (p : PortId) (u : UnitId) (c : SpinCode),
      ((s.modPn2 p (fun q => match u with | .A => { q with spinA := some c } | .B => { q with spinB := some c })).getPn2 p).action = (s.getPn2 p).action →
      exec (.pn2SpinDecode p u c) s =
      .next (s.modPn2 p (fun q => match u with | .A => { q with spinA := some c } | .B => { q with spinB := some c }))) ∧
  (∀ (s : State) (p : PortId),
      (s.getPn2 p).obey = .side .A →
      (s.getPn2 p).spinA = some .follow →
      exec (.pn2SpinInvalid p .A) s =
      .next ((s.modPn2 p (fun q => { q with spinA := none })).modPn2 p (fun q => { q with
        bridge := .shortBrake, duty := 0
        act0 := q.act0.retract (s.parked p 0), act1 := q.act1.retract (s.parked p 1) }))) ∧
  (∀ (s : State) (p : PortId),
      (s.getPn2 p).tokA ≠ (s.getLine (sideKey .A p)).token →
      exec (.pn2TokenAccept p .A) s =
      .next ((s.modPn2 p (fun q => { q with
        tokA := (s.getLine (sideKey .A p)).token, act0 := { q.act0 with gate := false }, act1 := { q.act1 with gate := false } })).pn2Spin p
          (s.getPn2 p).action)) ∧
  (∀ (s : State) (p : PortId) (a : ActId) (u : UnitId) (w : BitVec 64) (l : List Bool) (r : List WriteItem) (b : ControlBlock),
      (s.getPn2 p).obey = .side u →
      u = s.pair.active →
      s.laneUpOn u p (8 + a) = true →
      ((s.getPn2 p).act a).holding = false →
      ((s.getPn2 p).act a).retracted = false →
      (s.getChan (chanKey p a)).wrOut = .gate w :: .bits l :: r →
      controlBlock w = some b →
      exec (.pn2WriteGateOn p a u) s =
      .next (s.modPn2 p (fun q => q.modAct a (fun x => { x with gate := true, gateAt := b.sampleIndex, flux := fluxOf x.precomp l })))) ∧
  (∀ (s : State) (p : PortId) (a : ActId),
      exec (.pn2WriteGateOff p a true) s =
      .next ((s.modPn2 p (fun q => q.modAct a (fun x => { x with gate := false }))).modChan (chanKey p a) (fun c => c.gateEnds.trySwap))) ∧
  (∀ (s : State) (p : PortId) (a : ActId),
      exec (.pn2WriteGateOff p a false) s = .next (s.modPn2 p (fun q => q.modAct a (fun x => { x with gate := false })))) ∧
  (∀ (s : State) (p : PortId) (a : ActId) (u : UnitId) (e l : List (BitVec 64)) (w : BitVec 64) (b : LoopCmd),
      (s.getPn2 p).obey = .side u →
      s.laneUpOn u p (12 + a) = true →
      (s.slotWords p a).zipIdx.map (fun x => x.1 ^^^ e.getD x.2 0) = w :: l →
      loopBlock w = some b →
      exec (.pn2CommandSlot p a (some u) e) s =
      .next (s.modPn2 p (fun q => q.modAct a (fun x => ((x.selects b.head).apply b (s.parked p a)).registers (l.filterMap registerBlock))))) ∧
  (∀ (s : State) (p : PortId) (a : ActId) (u : UnitId) (e l : List (BitVec 64)) (w : BitVec 64),
      (s.getPn2 p).obey = .side u →
      s.laneUpOn u p (12 + a) = true →
      (s.slotWords p a).zipIdx.map (fun x => x.1 ^^^ e.getD x.2 0) = w :: l →
      loopBlock w = none →
      exec (.pn2CommandSlot p a (some u) e) s =
      .next (s.modPn2 p (fun q => q.modAct a (fun x => (x.miss (s.parked p a)).registers (l.filterMap registerBlock))))) ∧
  (∀ (s : State) (p : PortId) (a : ActId) (e : List (BitVec 64)),
      exec (.pn2CommandSlot p a none e) s =
      .next (s.modPn2 p (fun q => q.modAct a (fun x => x.miss (s.parked p a))))) ∧
  (∀ (s : State) (p : PortId) (a : ActId) (u : UnitId) (w : Word),
      (s.getPn2 p).obey = .side u →
      exec (.pn2ServoWindow p a w) s =
      .next (s.modPn2 p (fun r => r.modAct a (fun x => if x.winLen = 0 then x else { x with opened := some x.winStart })))) ∧
  (∀ (s : State) (p : PortId) (u : UnitId) (e : BitVec 64) (m : MotorCmd),
      (s.getPn2 p).obey = .side u →
      (s.getPn2 p).action = .follow →
      s.laneUpOn u p 15 = true →
      motorBlock ((s.getSpd p).sent.word ^^^ e) = some m →
      exec (.pn2MotorBlockApply p (some u) e) s =
      .next (s.modPn2 p (fun q => { q with bridge := m.bridge, duty := m.duty, noBlock := 0 }))) ∧
  (∀ (s : State) (p : PortId) (e : BitVec 64),
      (s.getPn2 p).action = .follow →
      (s.getPn2 p).noBlock = 2 →
      exec (.pn2MotorBlockApply p none e) s =
      .next (s.modPn2 p (fun q => if 2 < q.noBlock + 1 then { q with bridge := .coast, duty := 0, noBlock := q.noBlock + 1 }
        else { q with noBlock := q.noBlock + 1 })))

/-- At a sweep edge a port ends its FLTn stop, frees its media, restores its clock track, starts retraining lanes and plans,
drains, counts the sweep and steps its actuators; the leading port also takes the edge of the mode and of the plan; an
accepted REQUESTED_MODE is stored, and in Fiddlehead may begin Bring-up; Drain with every command idle goes on to Quiescent or
Maintenance; Quiescent with every port at rest and REQUESTED_MODE 2 goes to Fiddlehead. -/
def Obligations.SweepsAndModeRequests : Prop :=
  (∀ (s : State) (p : PortId),
      (s.getPort p).state.sweeps = true →
      s.leads p = true →
      exec (.sweepEdge p) s =
      (let t := (((((s.fltEnd p).mediaFree p).ctRestore p).lanesStart p).planGate p).drainPort p
       let t := (((((((t.sweepCount p).indexAdopt p).shadowStep p).edgeAct p 0).edgeAct p 1).edgeMode).edgePlan)
       .next ((({ t with mode := { t.mode with swept := t.mode.swept ||| 2 ^ p.val } } : State).drainTry).settle))) ∧
  (∀ (s : State) (p : PortId),
      (s.getPort p).state.sweeps = true →
      s.leads p = false →
      exec (.sweepEdge p) s =
      (let t := (((((s.fltEnd p).mediaFree p).ctRestore p).lanesStart p).planGate p).drainPort p
       let t := (((((t.sweepCount p).indexAdopt p).shadowStep p).edgeAct p 0).edgeAct p 1)
       .next ((({ t with mode := { t.mode with swept := t.mode.swept ||| 2 ^ p.val } } : State).drainTry).settle))) ∧
  (∀ (s : State) (q : Requester) (u : UnitId) (v : BitVec 8),
      s.Accepts q u Obj.REQUESTED_MODE [v] →
      (v = 0x02 ∨ v = 0x04 ∨ v = 0x07 ∨ v = 0x0A) →
      (s.save Obj.REQUESTED_MODE v.toNat).mayBringUp = false →
      exec (.requestedModeWrite q u v) s = .next (((s.save Obj.REQUESTED_MODE v.toNat).answer q 0).settle)) ∧
  (∀ (s : State) (q : Requester) (u : UnitId) (v : BitVec 8),
      s.Accepts q u Obj.REQUESTED_MODE [v] →
      (v = 0x02 ∨ v = 0x04 ∨ v = 0x07 ∨ v = 0x0A) →
      (s.save Obj.REQUESTED_MODE v.toNat).mayBringUp = true →
      exec (.requestedModeWrite q u v) s =
      .next ((((s.save Obj.REQUESTED_MODE v.toNat).enter .bringUp .modeRequest).answer q 0).settle)) ∧
  (∀ (s : State),
      s.mode.cur = .drain →
      s.cmds.all HostCmd.idleInDrain = true →
      s.mode.purpose = .powerDown →
      exec .drainComplete s =
      .next ((({ s with mode := { s.mode with purpose := .none } } : State).enter .quiescent .modeRequest).settle)) ∧
  (∀ (s : State),
      s.mode.cur = .drain →
      s.cmds.all HostCmd.idleInDrain = true →
      s.mode.purpose = .maintenance →
      exec .drainComplete s =
      .next ((({ s with mode := { s.mode with purpose := .none } } : State).enter .maintenance .modeRequest).settle)) ∧
  (∀ (s : State),
      s.mode.cur = .quiescent →
      s.requested = 2 →
      (List.range 16).all (fun p => (s.getPort p).state.rests) = true →
      exec .quiescentToFiddlehead s = .next ((s.enter .fiddlehead .modeRequest).settle))

/-- VIN12 in window restarts the scan of the journal flash; its loss from a running mode begins Hold-up, and from Fiddlehead
stops what runs from VIN12; Hold-up keeps the records of completed commands, commits settings and recorder pages, counts, logs
and leaves for Bring-up, Fiddlehead or Unpowered; HOLD is measured as its charge ends; a VCORE fault and a pace trip wait as
checks; sensors set the bands; 130 degrees trip; PEN goes to the lowest port that waits. -/
def Obligations.SuppliesAndTemperatures : Prop :=
  (∀ (s : State),
      s.sup.vin12 = false →
      s.sup.vaux3 = true →
      s.mode.cur ≠ .holdUp →
      exec .vin12Good s =
      .next (({ s with
        sup := { s.sup with vin12 := true }, mode := { s.mode with settingsRead := false }
        jf := s.jf.map (fun e => (e.1, { e.2 with scanned := false })) } : State).settle)) ∧
  (∀ (s : State) (u : UnitId) (b : List (Nat × Bool × Bool)),
      s.sup.vin12 = true →
      s.sup.vaux3 = true →
      s.mode.cur ≠ .holdUp →
      (s.getJf u.code).scanned = false →
      exec (.stateRowScanComplete u b) s = .next ((s.jfScan u b).settle)) ∧
  (∀ (s : State),
      s.sup.vin12 = true →
      holdsUp s.mode.cur = true →
      s.sup.holdSpent = false →
      exec .vin12Lost s =
      (let t := (({ s with sup := { s.sup with vin12 := false }, mode := { s.mode with settingsRead := false } } : State).holdupBegin)
       .next (if t.sup.holdSpent then t.holdEnds.settle else t.settle))) ∧
  (∀ (s : State),
      s.sup.vin12 = true →
      s.mode.cur = .fiddlehead →
      s.rd Obj.RECOVERY_CHECK ≠ 7 →
      exec .vin12Lost s =
      (let t := ({ s with sup := { s.sup with vin12 := false }, mode := { s.mode with settingsRead := false } } : State)
       let t := (((t.jfPowerLoss .A).jfPowerLoss .B).ctrlDown .A).ctrlDown .B
       let t := if t.rd Obj.RECOVERY_CHECK = 7 then t.wr Obj.RECOVERY_CHECK 0 else t
       .next ((({ t with fw := t.fw.map (fun e => (e.1, { e.2 with recovery := none })) } : State).linksOff.unpoweredTry).settle))) ∧
  (∀ (s : State) (us : List UnitId) (a b : Nat),
      s.mode.cur = .holdUp →
      s.sup.holdReady = true →
      us = [UnitId.A, UnitId.B].filter (fun u => !(s.unitSt u).inReset) →
      a = (if us.contains .A then s.stagedPages .A else 0) →
      b = (if us.contains .B then s.stagedPages .B else 0) →
      exec .holdupSequenceComplete s =
      (let t := ((s.forEach us (fun s u => s.journalCommit u)).commitSettings .A).commitSettings .B
       let len := min (t.now - t.mode.entryTime) 0xFFFFFFFF
       let t := t.forEach [UnitId.A, UnitId.B] (fun s u => (s.inc (Obj.HOLDUPS u)).wr (Obj.LAST_HOLDUP_US u) len)
       let body := leBytes 2 (min a 0xFFFF) ++ leBytes 2 (min b 0xFFFF) ++ leBytes 4 len
       let t := (t.logPlain 7 body).emergency { index := 0, sub := 0, ty := 7, cls := 0, body := body }
       let t := (t.commitPages .A).commitPages .B
       let t := ((t.jfPowerLoss .A).jfPowerLoss .B).forEach [UnitId.A, UnitId.B] (fun s u =>
         if s.sup.vin12 then s.stage (Obj.HOLDUPS u) else s)
       let t := { t with sup := { t.sup with hold := .empty } }
       .next ((if t.sup.vin12 then
           (if (t.firmwareStopped.enter .bringUp .holdUpDone).sup.vauxIn then t.firmwareStopped.enter .bringUp .holdUpDone
            else (t.firmwareStopped.enter .bringUp .holdUpDone).enter .resetHold .supply)
         else if t.sup.vauxIn then t.enter .fiddlehead .holdUpDone
         else t.enter .unpowered .supply).settle))) ∧
  (∀ (s : State),
      s.mode.cur = .holdUp →
      exec .holdExhausted s = .next (s.holdEnds.settle)) ∧
  (∀ (s : State) (mv : Nat),
      s.sup.vin12 = true →
      coresRun s.mode.cur = true →
      s.sup.hold = .empty →
      s.sup.coresFrom + 2000 ≤ s.now →
      exec (.holdChargeStart mv) s =
      .next ((({ s with sup := { s.sup with hold := .charging, holdFrom := mv, holdSince := s.now, holdSpent := false } } : State).holdWaits).settle)) ∧
  (∀ (s : State) (t : Nat),
      s.sup.hold = .charging →
      s.sup.holdFrom < 20000 →
      s.sup.holdSince + t ≤ s.now →
      exec (.holdChargeEnd t) s =
      (let uf := min (openDiv ((t : Int) * 500) 10000).toNat 0xFFFF
       .next (((((s.save (Obj.HOLD_CAP_UF .A) uf).save (Obj.HOLD_CAP_UF .B) uf).holdUsable uf).holdJudge
         (decide (1800 * 2000 * 10000 ≤ t * 500 * 1025))).settleCmds).settle)) ∧
  (∀ (s : State) (u : UnitId),
      s.coresOn u = true →
      exec (.vcoreFault u) s =
      .next (((s.raise (.pwr u) [.PWR_VCORE_FAULT]).checkWaits u .pace).settle)) ∧
  (∀ (s : State) (q : Requester) (u : UnitId) (v : BitVec 16),
      s.Accepts q u (Obj.VCORE_SET u) (leBytes 2 v.toNat) →
      v.toNat % 10 = 0 →
      s.mode.cur = .maintenance →
      exec (.vcoreSetWrite q u v) s = .next ((s.save (Obj.VCORE_SET u) v.toNat).answer q 0)) ∧
  (∀ (s : State) (u : UnitId) (l : List (Option Nat)),
      s.coresOn u = true →
      exec (.paceWindow u l) s = .next ((s.paceWindow u l).settle)) ∧
  (∀ (s : State) (u : UnitId),
      (s.unitSt u).paceLow = true →
      s.coresOn u = true →
      (s.unitSt u).lowFrom + s.rd Obj.PACE_TRIP ≤ s.now →
      exec (.paceTripExpiry u) s = .next (s.checkWaits u .pace)) ∧
  (∀ (s : State) (u : UnitId) (i : Fin 24) (r : SensorRaw),
      s.mode.cur = .frond →
      exec (.sensorRead u (.ring i) r) s = .next ((s.bandsAfter (s.readRing u i r) u).settle)) ∧
  (∀ (s : State) (u : UnitId) (p : PortId) (r : SensorRaw),
      s.mode.cur = .frond →
      exec (.sensorRead u (.hda p) r) s = .next ((s.readHda u p r).settle)) ∧
  (∀ (s : State) (u : UnitId) (a b : Int),
      (s.getBuf u.code).state ≠ .untrained →
      exec (.gddr7TemperatureRead u (some a) (some b)) s =
      (let t := ((s.readPair u 27 u 28 (.value a)).readPair u 28 u 27 (.value b))
       .next ((if (s.bandsAfter t u).bufBand u ≠ s.bufBand u then (s.bandsAfter t u).raise (.buf u) [.BUF_BAND_CHANGE]
         else s.bandsAfter t u).settle))) ∧
  (∀ (s : State) (u : UnitId) (f : Nat),
      (s.unitSt u).hotFrom = some f →
      s.tripHot u = true →
      f + 1000 ≤ s.now →
      s.mode.latchDue = false →
      exec (.thermalTrip u) s =
      .next (if (s.raise (.pwr u) [.PWR_THERMAL_TRIP]).mode.latchDue then (s.raise (.pwr u) [.PWR_THERMAL_TRIP]).settle
        else ((s.raise (.pwr u) [.PWR_THERMAL_TRIP]).checkWaits u .thermal).settle)) ∧
  (∀ (s t : State) (p : Nat),
      s.sup.vin12 = true →
      (s.unitSt s.pair.active).fwRunning = true →
      (List.range 16).find? (fun p => s.portWaits p) = some p →
      s.penFree p = true →
      t = s.portTo p .powering .stepComplete →
      exec .penGrant s =
      .next (((({ t with sup := { t.sup with penAt := some (p, t.now) } } : State)).penDrive p true).settle))

/-- VAUX3 in window latches the straps and, with RSTn released, begins the start; out of window the module goes to Reset hold;
self-tests set the claims, the preferred unit first, the other at 12 ms; the role decision makes the winner active and enters
Fiddlehead; firmware is verified and runs, or its unit has failed; GDDR7 training complete lets commands be served; a recovery
image is staged under BOOTSEL, checked, and rejected with its check code. -/
def Obligations.StartAndRoleDecision : Prop :=
  (∀ (s : State) (r : Straps),
      s.sup.vauxIn = false →
      s.sup.vaux3 = true →
      exec (.vaux3Applied r) s =
      (let t := { s with sup := { s.sup with vaux3 := true, vauxIn := true, straps := r } }
       let t := (t.wr Obj.T_VAUX3_GOOD t.now).wr Obj.UNITPREF_STRAP (if r.unitPref then 1 else 0)
       let t := if t.mode.cur = .unpowered then t.setMode .resetHold .powerApplied else t
       .next ((t.forEach (List.range 16) (fun s p => s.spinDrive p (s.spinFor p))).startBegin).settle)) ∧
  (∀ (s : State) (r : Straps),
      s.sup.vauxIn = false →
      s.sup.vaux3 = false →
      exec (.vaux3Applied r) s =
      (let t : State := { s.kept with mode := { cur := s.mode.cur, prev := s.mode.prev, cause := s.mode.cause } }
       let t := { t with sup := { t.sup with vaux3 := true, vauxIn := true, straps := r } }
       let t := (t.wr Obj.T_VAUX3_GOOD t.now).wr Obj.UNITPREF_STRAP (if r.unitPref then 1 else 0)
       let t := if t.mode.cur = .unpowered then t.setMode .resetHold .powerApplied else t
       .next ((t.forEach (List.range 16) (fun s p => s.spinDrive p (s.spinFor p))).startBegin).settle)) ∧
  (∀ (s : State),
      s.mode.cur = .fiddlehead →
      exec (.vaux3OutOfWindow true) s =
      .next ((({ s with sup := { s.sup with vauxIn := false, vaux3 := s.sup.vaux3 && !true } } : State).enter .resetHold .supply).unpoweredTry.settle)) ∧
  (∀ (s : State),
      s.mode.cur = .frond →
      exec .rstnAsserted s = .next ((({ s with sup := { s.sup with rstLow := true } } : State).enter .resetHold .rstn).settle)) ∧
  (∀ (s : State),
      exec .rstnReleased s = .next ((({ s with sup := { s.sup with rstLow := false } } : State).startBegin).settle)) ∧
  (∀ (s : State) (u : UnitId) (ok : Bool),
      (s.unitSt u).inReset = false →
      s.deciding = true →
      exec (.selfTestComplete u ok) s =
      .next ((s.modUnit u (fun x => { x with
        selfTest := ok, claim := x.claim || (ok && u == s.preferred && decide (s.now ≤ s.pair.startAt + 10000)) })).settle)) ∧
  (∀ (s : State),
      s.deciding = true →
      s.pair.claimClosed = false →
      s.pair.startAt + 12000 ≤ s.now →
      exec .claimTimer s =
      (let t := s.modUnit s.preferred.other (fun x => { x with
         claim := x.selfTest && !x.inReset && !(s.unitSt s.preferred).claim })
       .next (({ t with pair := { t.pair with claimClosed := true } } : State).settle))) ∧
  (∀ (s : State) (w : UnitId),
      s.deciding = true →
      s.pair.claimClosed = true →
      s.pair.startAt + 15000 ≤ s.now →
      s.winner = (w, false) →
      (s.unitSt w.other).present = true →
      (s.unitSt w.other).selfTest = true →
      s.mode.graveLatch = false →
      exec .roleDecision s =
      (let t := { s with pair := { s.pair with roleDecided := true, active := w, peer := .selfTest } }
       let t := t.enter .fiddlehead (if s.mode.freshPower then .powerApplied else .resetReleased)
       let t := if w ≠ t.preferred then t.raise .pair [.PAIR_ROLE_YIELDED] else t
       .next ((if t.sup.exhaustedDue then ({ t with sup := { t.sup with exhaustedDue := false } } : State).pwrBoth .PWR_HOLD_EXHAUSTED
         else t).settle))) ∧
  (∀ (s : State) (u : UnitId) (x y : Bool),
      s.mayLoad u = true →
      (s.unitSt u).selfTest = true →
      exec (.firmwareVerifyComplete u x y) s =
      (let t := (s.fwTry u x y).1
       let body := leBytes 1 (t.rd Obj.BOOT_RESULT) ++ leBytes 1 (t.rd (Obj.SLOT_CHECK u 0)) ++ leBytes 1 (t.rd (Obj.SLOT_CHECK u 1)) ++
         leBytes 4 (match (s.fwTry u x y).2 with | some n => fwVersion (t.slotImage u n) | none => 0)
       let t := t.log { ty := 0x000A, unit := u, body := body }
       .next ((match (s.fwTry u x y).2 with | some n => t.firmwareLoaded u n | none => t.unitFailed u).settle))) ∧
  (∀ (s : State) (u : UnitId),
      (s.getBuf u.code).state = .training →
      ((s.gddrTrained u true).cacheEnable u).pair.active = u →
      exec (.gddr7TrainingComplete u true) s =
      .next (((((s.gddrTrained u true).cacheEnable u).wr Obj.T_GDDR7_TRAINED ((s.gddrTrained u true).cacheEnable u).now).readyBoth.peerTry).settle)) ∧
  (∀ (s : State) (u : UnitId),
      (s.getBuf u.code).state = .training →
      ((s.gddrTrained u true).cacheEnable u).pair.active ≠ u →
      exec (.gddr7TrainingComplete u true) s =
      .next ((((s.gddrTrained u true).cacheEnable u).peerTry).settle)) ∧
  (∀ (s : State) (q : Requester) (u : UnitId) (d : List Byte),
      s.Accepts q u Obj.FW_RECOVERY_STAGE d →
      s.sup.straps.bootSel = true →
      s.sup.vin12 = true →
      (s.getFw s.pair.active.code).recovery = none →
      exec (.fwRecoveryStageWrite q u d) s =
      .next (((s.modFw s.pair.active.code (fun f => { f with recovery := some d })).wr Obj.RECOVERY_CHECK 7).answer q 0)) ∧
  (∀ (s : State) (d : List Byte),
      (s.getFw s.pair.active.code).recovery = some d →
      s.mode.cur = .fiddlehead →
      s.sup.vin12 = true →
      (s.modFw s.pair.active.code (fun f => { f with recovery := none })).fwCheck s.pair.active d ≠ 1 →
      exec .recoveryCheckComplete s =
      (let t := s.modFw s.pair.active.code (fun f => { f with recovery := none })
       .next (((t.wr Obj.RECOVERY_CHECK (t.fwCheck s.pair.active d)).wr Obj.BOOT_RESULT 3).settle))) ∧
  (∀ (s : State) (b : Bool),
      s.sup.vaux3 = true →
      exec (.bootselChange b) s =
      .next (({ s with sup := { s.sup with straps := { s.sup.straps with bootSel := b } } } : State).settle))

/-- A tripped fatal check of the active unit, or a degrading one with a ready standby, releases TOKEN; a degrading one without
is held and reported; a check of the standby, and the island, act on their unit; with TOKEN released the ready standby becomes
active, its released peer loses its host port unless planned, the shadows are taken and every powered port is to be claimed;
the take-over ends in the mode left, and what waited is resumed; a copied standby becomes ready and its settle time runs.
STANDBY_READY stands for the end of the state copy (log entry 156); each side's lanes are its own. -/
def Obligations.SelfDiagnosisAndRelease : Prop :=
  (∀ (s : State) (c : ReleaseCause),
      s.pair.roleDecided = true →
      (s.unitSt s.pair.active).inReset = false →
      s.checkTripped s.pair.active c = true →
      (c.degrading = false ∨ s.peerReady = true) →
      exec (.checkTrip c) s =
      .next ((s.releaseToken (some c) .tokenReleased false).settle)) ∧
  (∀ (s : State) (c : ReleaseCause),
      s.pair.roleDecided = true →
      (s.unitSt s.pair.active).inReset = false →
      s.checkTripped s.pair.active c = true →
      c.degrading = true →
      s.peerReady = false →
      s.pair.heldCheck = none →
      exec (.checkTrip c) s =
      .next (((({ s with pair := { s.pair with heldCheck := some c } } : State).save Obj.LAST_RELEASE_CAUSE c.code).raise .pair
         [.PAIR_HELD_RELEASE]).settle)) ∧
  (∀ (s : State) (c : ReleaseCause),
      s.standbyRuns = true →
      s.checkTripped s.pair.active.other c = true →
      exec (.standbyCheckTrip c) s = .next ((s.standbyTrip c).settle)) ∧
  (∀ (s : State) (u : UnitId) (n : Nat),
      s.pair.roleDecided = true →
      (s.unitSt u).inReset = false →
      s.rd Obj.ISLAND_TIMEOUT ≤ n →
      u = s.pair.active →
      exec (.islandTrip u n) s = .next ((s.releaseToken (some .island) .tokenReleased false).settle)) ∧
  (∀ (s : State) (u : UnitId) (n : Nat),
      s.standbyRuns = true →
      s.rd Obj.ISLAND_TIMEOUT ≤ n →
      u = s.pair.active.other →
      exec (.islandTrip u n) s = .next ((s.standbyTrip .island).settle)) ∧
  (∀ (s k t r : State) (ps : List Nat) (b : Bool),
      s.mode.cur = .switchover →
      (s.unitSt s.pair.active).releasedAt.isNone = false →
      s.peerReady = true →
      k = (if (s.unitSt s.pair.active).plannedRelease then s else s.ctrlDown s.pair.active) →
      t = ({ k with pair := { k.pair with active := s.pair.active.other, peer := .released, settleFrom := none, takeTime := k.now, unlike := k.rowsUnlike }, mon := { k.mon with traces := [], tail := none, rateSince := none } } : State).recordsAlone →
      ps = (List.range 16).filter (fun p => (t.getPort p).state.inPower) →
      ps.foldl (fun (x : State × Bool) p => match x with | (s, b) => match s.shadowPort p with | (s, x) => (s, b || x)) (t, false) = (r, b) →
      exec .release s =
      (let t := r.forEach (ps.filter (fun p => (r.getLine (sideKey s.pair.active.other p)).ct = .lost)) (fun s p => s.ctLoss p)
       let t := t.forEach (List.range 16) (fun s p =>
         (((s.penDrive p ((s.getPort p).state.inPower)).spinDrive p (s.spinFor p)).modPort p (fun q => { q with mediaHeld := true })))
       let t := { t with pair := { t.pair with toClaim := ps } }
       .next ((if b then t.raise .pair [.PAIR_SHADOW_INVALID] else t).claimedAll.settle))) ∧
  (∀ (s t : State),
      s.mode.cur = .switchover →
      s.takeover = t →
      t.mode.cur ≠ .switchover →
      exec .takeoverComplete s =
      .next (t.plannedBack.peerTry.resumeAll.settle)) ∧
  (∀ (s t : State) (o : Bool),
      s.pair.peer = .stateCopy →
      s.mirrorUp = true →
      (s.unitSt s.pair.active.other).inReset = false →
      (s.getJf s.pair.active.other.code).exhausted = false →
      s.shadowsValid = true →
      s.lanesTrained = true →
      s.sameVersion = true →
      (s.unitSt s.pair.active.other).releasedAt = none →
      t = s.modUnit s.pair.active.other (fun x => { x with releasedAt := none, plannedRelease := false, tripped := false, resent := false }) →
      exec (.standbyReady o) s =
      (let t := (({ t with pair := { t.pair with peer := .ready, settleFrom := some t.now } } : State).recorderJoin.followLines).mcCopy s.pair.active.other
       .next ((match t.pair.heldCheck with
         | none => t
         | some c => if t.checkTripped t.pair.active c then t.releaseToken (some c) .tokenReleased false
           else { t with pair := { t.pair with heldCheck := none } }).settle))) ∧
  (∀ (s : State) (t : Nat),
      s.pair.settleFrom = some t →
      t + 1000000 * s.rd Obj.REJOIN_SETTLE ≤ s.now →
      exec .rejoinSettleExpiry s = .next { s with pair := { s.pair with settleFrom := none } })

/-- A released unit is let out of reset for its self-test, or refused after REJOIN_LIMIT releases in 24 hours; PAIR_COMMAND
02h starts one attempt, 01h begins a planned switchover or, in Maintenance, waits for it; a warm restart reloads firmware; an
activation whose image fails its check stops, and with the standby ready its first Drain begins; mirror messages carry the
lines; the link goes on with half its lanes, and down the standby is absent; a retrain is counted. -/
def Obligations.RejoinActivationAndMirror : Prop :=
  (∀ (s : State) (u : UnitId) (t : Nat),
      (s.unitSt u).releasedAt = some t →
      t + 10000 ≤ s.now →
      (s.unitSt u).plannedRelease = false →
      (s.unitSt u).inReset = true →
      s.pair.peer = .released →
      s.releases24h u ≤ s.rd Obj.REJOIN_LIMIT →
      s.rd Obj.AUTO_REJOIN = 1 →
      exec (.rejoinResetRelease u) s = .next ((s.rejoinStart u).settle)) ∧
  (∀ (s : State) (u : UnitId) (t : Nat),
      (s.unitSt u).releasedAt = some t →
      t + 10000 ≤ s.now →
      (s.unitSt u).plannedRelease = false →
      (s.unitSt u).inReset = true →
      s.pair.peer = .released →
      s.rd Obj.REJOIN_LIMIT < s.releases24h u →
      exec (.rejoinResetRelease u) s = .next ((s.rejoinRefused u).settle)) ∧
  (∀ (s : State) (q : Requester) (u : UnitId),
      s.Accepts q u Obj.PAIR_COMMAND [2] →
      s.pair.peer = .refused →
      (s.unitSt s.pair.active.other).inReset = true →
      exec (.rejoinAttempt q u) s = .next (((s.rejoinStart s.pair.active.other).answer q 0).settle)) ∧
  (∀ (s : State) (q : Requester) (u : UnitId),
      s.Accepts q u Obj.PAIR_COMMAND [1] →
      s.mode.cur = .frond →
      s.peerReady = true →
      exec (.plannedSwitchover q u) s = .next (((s.switchDrain true).answer q 0).settle)) ∧
  (∀ (s : State) (q : Requester) (u : UnitId),
      s.Accepts q u Obj.PAIR_COMMAND [1] →
      s.mode.cur = .maintenance →
      s.peerReady = true →
      exec (.plannedSwitchover q u) s =
      .next ((({ s with pair := { s.pair with maintSwitch := true } } : State).answer q 0).settle)) ∧
  (∀ (s : State) (u : UnitId),
      u ≠ s.pair.active →
      (s.unitSt u).inReset = false →
      s.pair.roleDecided = true →
      exec (.warmRestart u) s =
      (let t := (s.modUnit u (fun x => { x with fwRunning := false })).modFw u.code (fun f => { f with running := none })
       .next ((({ t with pair := { t.pair with peer := .selfTest } } : State)).settle))) ∧
  (∀ (s : State),
      s.pair.step = .sendImage →
      s.fwCheck s.pair.actHome.other (s.slotImage s.pair.actHome s.pair.actSlot) ≠ 1 →
      exec .activationStepAdvance s = .next (s.activationFailed.settle)) ∧
  (∀ (s : State),
      s.pair.step = .peerRestart →
      s.peerReady = true →
      s.mode.cur = .frond →
      exec .activationStepAdvance s =
      .next (((({ s with pair := { s.pair with step := .drain1 } } : State).switchDrain false)).settle)) ∧
  (∀ (s : State) (n m : Nat),
      s.mirrorUp = true →
      s.pair.peer = .ready →
      exec (.mirrorMessage n m) s =
      .next ((s.followLines.wr Obj.MIRROR_LAG_MAX (max (s.rd Obj.MIRROR_LAG_MAX) (min n 0xFFFFFFFF))).wr Obj.MIRROR_REPLAYS
        (min (s.rd Obj.MIRROR_REPLAYS + m) 0xFFFFFFFF))) ∧
  (∀ (s : State),
      s.pair.mirror = .up16 →
      s.mirrorUp = true →
      exec (.mirrorLinkDown true) s =
      .next (({ s with pair := { s.pair with mirror := .up8 } } : State).settle)) ∧
  (∀ (s : State),
      s.mirrorUp = true →
      s.pair.peer = .ready →
      s.mode.cur = .frond →
      exec (.mirrorLinkDown false) s =
      .next ((({ s with pair := { s.pair with mirror := .down, mirrorAt := s.now, settleFrom := none, peer := .absent } } : State).raise .pair
        [.PAIR_MIRROR_DOWN]).settle)) ∧
  (∀ (s : State),
      s.mirrorUp = false →
      s.mode.cur = .frond →
      s.pair.mirror = .training →
      s.bit Obj.PAIR_STATUS Flag.PAIR_MIRROR_DOWN.bit = false →
      exec (.mirrorRetrain none) s =
      .next ((({ s with pair := { s.pair with mirrorAt := s.now, mirror := .down } } : State).raise .pair [.PAIR_MIRROR_DOWN]).settle)) ∧
  (∀ (s t : State) (b : Bool),
      s.mirrorUp = false →
      s.mode.cur = .frond →
      s.pair.mirror = .down →
      s.pair.mirrorAt + 100000 ≤ s.now →
      t = s.inc Obj.MIRROR_RETRAINS →
      (t.unitSt .A).inReset = false →
      (t.unitSt .B).inReset = false →
      exec (.mirrorRetrain (some b)) s =
      .next (((({ t with pair := { t.pair with mirrorAt := t.now, mirror := if b then .up16 else .up8 } } : State).lower .pair .PAIR_MIRROR_DOWN).peerTry).settle))

/-- An access is held while the buffer trains or retrains and otherwise made, one beyond the buffer being an error; a merge
entry is written back with its bad words; a failed transfer repeats three times and retrains; in Quiescent the idle buffer
refreshes itself; a group is remapped, the log cleared; a scrub pass starts, skips a group that the merge buffer holds, and
stops when asked; FLIP_MODE is stored when its fields are valid. What errors a transfer meets is the sender's (log entry 184).
-/
def Obligations.BufferAccessesAndScrubbing : Prop :=
  (∀ (s t : State) (u : UnitId) (g : Nat) (e : MergeEntry),
      (s.getBuf u.code).state.holds = false →
      (s.getBuf u.code).merge.find? (fun e => e.group == g) = some e →
      s.rd (Obj.MERGE_HOLD u) ≤ 1000 * (s.now - e.since) →
      t = s.wake u →
      exec (.mergeWriteback u g) s =
      (let t := t.putBuf u.code { t.getBuf u.code with merge := (t.getBuf u.code).merge.filter (fun e => e.group ≠ g) }
       let t := t.writeWords u g ((wordsOf e.bytes).map (fun x =>
         (x.1, x.2, e.bad.contains x.1 && !((List.range 64).all (fun i => e.written.contains (64 * x.1 + i))))))
       .next (t.inc (Obj.MERGE_WRITEBACKS u)))) ∧
  (∀ (s : State) (u : UnitId),
      (s.getBuf u.code).state.holds = false →
      exec (.linkTransferFail u true 3) s =
      .next (((((s.add (Obj.LINK_RETRIES u) 3).inc (Obj.RETRAINS u)).modBuf u.code (fun b => { b with state := .retraining })).raise (.buf u)
        [.BUF_LINK_FAIL, .BUF_RETRAINED]))) ∧
  (∀ (s : State) (u : UnitId),
      (s.getBuf u.code).state.holds = false →
      exec (.linkTransferFail u false 3) s =
      .next (((((s.add (Obj.LINK_RETRIES u) 3).inc (Obj.RETRAINS u)).modBuf u.code (fun b => { b with state := .retraining })).raise (.buf u)
        [.BUF_RETRAINED]))) ∧
  (∀ (s : State) (u : UnitId) (w : Bool) (n : Fin 4),
      (s.getBuf u.code).state.holds = false →
      n.val < 3 →
      exec (.linkTransferFail u w n) s = .next (s.add (Obj.LINK_RETRIES u) (n.val + 1))) ∧
  (∀ (s : State) (u : UnitId),
      s.mode.cur = .quiescent →
      (s.getBuf u.code).lastUse + s.rd (Obj.SR_IDLE u) ≤ s.now →
      (s.getBuf u.code).state = .inService →
      (s.getBuf u.code).held.isEmpty = true →
      exec (.selfRefreshIdle u) s =
      .next ((s.mergeFlush u).modBuf u.code (fun b => { b with state := .selfRefresh }))) ∧
  (∀ (s : State) (q : Requester) (u : UnitId) (g : BitVec 32),
      s.mode.cur ≠ .switchover →
      s.writeErr u 0x4002 1 q (leBytes 4 g.toNat) = 0 →
      exec (.remapRequest q u g) s =
      .next ((s.remap u g.toNat).1.answer q (if (s.remap u g.toNat).2 = 4 then 0x07 else if (s.remap u g.toNat).2 = 3 then 0x09 else 0))) ∧
  (∀ (s : State) (q : Requester) (u : UnitId),
      s.Accepts q u (Obj.LOG_CLEAR u) [1] →
      exec (.logClear q u 1) s = .next ((s.modBuf u.code (fun b => { b with log := [] })).answer q 0)) ∧
  (∀ (s : State) (q : Requester) (u : UnitId),
      s.Accepts q u (Obj.SCRUB_COMMAND u) [1] →
      (s.getBuf u.code).scrub.result ≠ 1 →
      exec (.scrubStart q u) s =
      .next ((s.scrubStart u (s.rd (Obj.SCRUB_FIRST u)) (s.rd (Obj.SCRUB_LAST u)) false).answer q 0)) ∧
  (∀ (s : State) (q : Requester) (u : UnitId),
      s.Accepts q u (Obj.SCRUB_COMMAND u) [2] →
      (s.getBuf u.code).scrub.result = 1 →
      exec (.scrubStop q u) s =
      .next ((s.modBuf u.code (fun b => { b with scrub := { b.scrub with stopAsked := true } })).answer q 0)) ∧
  (∀ (s : State) (u : UnitId) (e : MemErrs),
      (s.getBuf u.code).scrub.result = 1 →
      (s.getBuf u.code).state.holds = false →
      512 * (s.getBuf u.code).scrub.done ≤ s.rd (Obj.SCRUB_RATE u) * (s.now - (s.getBuf u.code).scrub.startTime) →
      (s.getBuf u.code).merge.any (fun x => x.group == (s.getBuf u.code).scrub.next) = true →
      (s.getBuf u.code).scrub.next < (s.getBuf u.code).scrub.last →
      (s.getBuf u.code).scrub.stopAsked = false →
      exec (.scrubGroup u e) s =
      .next ((s.modBuf u.code (fun b => { b with scrub := { b.scrub with skipped := b.scrub.skipped + 1 } })).modBuf u.code
        (fun b => { b with scrub := { b.scrub with next := (s.getBuf u.code).scrub.next + 1 } }))) ∧
  (∀ (s : State) (u : UnitId) (e : MemErrs),
      (s.getBuf u.code).scrub.result = 1 →
      (s.getBuf u.code).state.holds = false →
      512 * (s.getBuf u.code).scrub.done ≤ s.rd (Obj.SCRUB_RATE u) * (s.now - (s.getBuf u.code).scrub.startTime) →
      exec (.scrubGroup u e) s = .next (s.scrubGroup u e.masks)) ∧
  (∀ (s : State) (u : UnitId),
      s.rd (Obj.SCRUB_INTERVAL u) ≠ 0 →
      (s.getBuf u.code).scrubAt + 3600000000 * s.rd (Obj.SCRUB_INTERVAL u) ≤ s.now →
      s.mode.cur = .frond →
      (s.getBuf u.code).scrub.result ≠ 1 →
      exec (.scrubIntervalExpiry u) s =
      .next ((s.modBuf u.code (fun b => { b with scrubAt := s.now })).scrubStart u 0 (bufGroups - 1) true)) ∧
  (∀ (s : State) (q : Requester) (u : UnitId) (v : BitVec 8),
      s.Accepts q u (Obj.FLIP_MODE u) [v] →
      s.flipFieldsOk u v.toNat = true →
      exec (.flipModeWrite q u v) s = .next ((s.wr (Obj.FLIP_MODE u) v.toNat).answer q 0)) ∧
  (∀ (s : State) (u : UnitId) (a n : Nat) (e : MemErrs),
      (s.getBuf u.code).state.holds = true →
      exec (.bufferRead u a n e) s =
      .next ((s.putBuf u.code { s.getBuf u.code with resp := .none, held := (s.getBuf u.code).held ++
        [{ write := false, addr := a, len := n, bytes := [] }] }).grave)) ∧
  (∀ (s : State) (u : UnitId) (a n : Nat) (e : MemErrs),
      (s.getBuf u.code).state.holds = false →
      exec (.bufferRead u a n e) s =
      .next (((s.access u a n none e).1.modBuf u.code (fun b => { b with resp := (s.access u a n none e).2 })).grave)) ∧
  (∀ (s : State) (u : UnitId) (a : Nat) (d : List Byte) (e : MemErrs),
      (s.getBuf u.code).state.holds = false →
      exec (.bufferWrite u a d e) s =
      .next (((s.access u a d.length (some d) e).1.modBuf u.code (fun b => { b with resp := (s.access u a d.length (some d) e).2 })).grave)) ∧
  (∀ (s : State) (u : UnitId) (a : Nat) (d : List Byte) (e : MemErrs),
      (s.getBuf u.code).state.holds = false →
      bufLimit < a + d.length →
      exec (.bufferWrite u a d e) s =
      .next (((s.raise (.buf u) [.BUF_ADDR_ERR]).modBuf u.code (fun b => { b with resp := .error })).grave)) ∧
  (∀ (s : State) (u : UnitId),
      (s.getBuf u.code).state = .retraining →
      exec (.gddr7RetrainComplete u) s =
      .next (((s.modBuf u.code (fun b => { b with state := .inService })).replayHeld u).grave))

/-- A cache access goes through the cache inside the window and to the buffer outside; a write-back that must be repeated is
queued again and counted; WAY_ENABLE powers and cleans ways; a cleaned way powers down and is reported; the cache is enabled
empty, and disabled once everything has been written; a raw command in range starts, and its completion leaves the result
words and what was read; the buffer window reads and writes 64 KiB at BUF_WIN_ADDR. -/
def Obligations.CacheAndRawWindows : Prop :=
  (∀ (s : State) (u : UnitId) (a n : Nat) (d : Option (List Byte)) (e : MemErrs),
      d = none →
      exec (.cacheAccess u a n d e) s =
      .next (((s.bufCommand u a n none e).modCache u.code (fun c => { c with resp := ((s.bufCommand u a n none e).getBuf u.code).resp })).grave)) ∧
  (∀ (s : State) (u : UnitId) (a n : Nat) (d : List Byte) (e : MemErrs),
      exec (.cacheAccess u a n (some d) e) s =
      .next (((s.bufCommand u a d.length (some d) e).modCache u.code (fun c => { c with resp := ((s.bufCommand u a d.length (some d) e).getBuf u.code).resp })).grave)) ∧
  (∀ (s : State) (u : UnitId),
      (s.getCache u.code).evict = [] →
      exec (.cacheWritebackComplete u) s = .next s.grave) ∧
  (∀ (s : State) (u : UnitId) (e : EvictEntry) (r : List EvictEntry),
      (s.getBuf u.code).state.holds = false →
      (s.getCache u.code).evict = e :: r →
      e.again = true →
      exec (.cacheWritebackComplete u) s =
      .next (((((s.wake u).writeGroup u e.group e.bytes).modCache u.code (fun c => { c with evict := r ++ [{ e with again := false }] })).inc
        (Obj.WRITEBACKS u)).grave)) ∧
  (∀ (s : State) (q : Requester) (u : UnitId) (v : BitVec 16),
      s.Accepts q u (Obj.WAY_ENABLE u) (leBytes 2 v.toNat) →
      v ≠ 0 →
      exec (.wayEnableWrite q u v) s = .next ((s.wayEnable u v.toNat).answer q 0)) ∧
  (∀ (s : State) (u : UnitId) (w : Nat),
      w < 16 →
      s.bit (Obj.WAY_CLEANING u) w = true →
      (s.getCache u.code).firstDirty w = none →
      exec (.wayCleanDone u w) s =
      .next ((s.wayDown u w).raise (.cache u) [.CACHE_WAY_CLEAN_DONE])) ∧
  (∀ (s : State) (q : Requester) (u : UnitId),
      s.Accepts q u (Obj.CACHE_CONTROL u) [1] →
      (s.getCache u.code).state = .disabled →
      exec (.cacheEnable q u) s =
      .next (((s.modCache u.code (fun c => { c with state := .enabled, lines := [], evict := [] })).wr (Obj.WAY_POWERED u)
        (s.rd (Obj.WAY_ENABLE u))).answer q 0)) ∧
  (∀ (s : State) (q : Requester) (u : UnitId),
      s.Accepts q u (Obj.CACHE_CONTROL u) [2] →
      (s.getCache u.code).state = .enabled →
      exec (.cacheDisable q u) s =
      .next (((s.modCache u.code (fun c => { c with state := .disablePending })).wr (Obj.WAY_CLEANING u)
        (s.rd (Obj.WAY_POWERED u))).answer q 0)) ∧
  (∀ (s : State) (u : UnitId),
      (s.getCache u.code).state = .disablePending →
      (s.getCache u.code).evict = [] →
      (s.getCache u.code).lines = [] →
      exec (.cacheDisableComplete u) s =
      .next (((s.forEach (List.range 16) (fun s w => s.wayDown u w)).modCache u.code (fun c => { c with state := .disabled })).raise (.cache u)
        [.CACHE_CACHE_DISABLED])) ∧
  (∀ (s : State) (q : Requester) (u : UnitId) (p : PortId) (a : ActId) (v : BitVec 8),
      s.mode.cur ≠ .switchover →
      s.writeErr u (keyIndex (Obj.RAW_COMMAND p a)) 1 q (leBytes 1 v.toNat) = 0 →
      (s.getRaw (chanKey p a)).op = none →
      (s.rawTargetOf p a).inRange = true →
      (s.rawTargetOf p a).op = 1 →
      exec (.rawCommand q u p a v) s =
      .next ((s.modRaw (chanKey p a) (fun _ => { op := some 1 })).answer q 0)) ∧
  (∀ (s : State) (p : PortId) (a : ActId) (op : Nat) (l : List Nat),
      (s.getRaw (chanKey p a)).op = some op →
      (s.getRaw (chanKey p a)).results (s.rawTargetOf p a).count = some l →
      exec (.rawOperationComplete p a) s =
      (let t := (s.modRaw (chanKey p a) (fun _ => { st := 2 })).wrBlob (Obj.RAW_RESULT p a) (l.flatMap (leBytes 8))
       .next ((if op = 1 then t.wrBlob (Obj.RAW_DATA p a) ((s.getRaw (chanKey p a)).data (s.rawTargetOf p a).count) else t).settle))) ∧
  (∀ (s : State) (q : Requester) (u : UnitId),
      s.mode.cur ≠ .switchover →
      s.readErr 0x9000 1 q = 0 →
      s.rd (Obj.BUF_WIN_ADDR u) + 65536 ≤ bufLimit →
      s.bufReady u = true →
      exec (.bufWinDataAccess q u none) s =
      (let r := s.engRead u (s.rd (Obj.BUF_WIN_ADDR u)) 65536
       .next ((match r.2 with | some b => r.1.answer q 0 b | none => r.1.answer q 0x09).grave))) ∧
  (∀ (s : State) (q : Requester) (u : UnitId) (d : List Byte),
      s.Accepts q u (Obj.BUF_WIN_DATA u) d →
      s.rd (Obj.BUF_WIN_ADDR u) + 65536 ≤ bufLimit →
      s.bufReady u = true →
      exec (.bufWinDataAccess q u (some d)) s =
      .next (((s.engWrite u (s.rd (Obj.BUF_WIN_ADDR u)) d).1.answer q 0).grave))

/-- The oldest pulse of a unit, or one of a coder, reaches every subscriber; an event is fired, a timer that is on pulses and
is restarted by a write; an idle channel is armed with its descriptor, a running one stops after its burst, a waiting one at
once; a burst moves the data or, where its write is refused, fails with its address; a job that is pending runs; rings are set
while empty; a domain stops its work, goes down and comes up, held during a power-down. The moment of a pulse, a burst or a
job is the sender's (log entries 3 and 184). -/
def Obligations.EventFabricAndDma : Prop :=
  (∀ (s : State) (u : UnitId) (e : Nat),
      (s.fabric.find? (fun x => x.1 = u)) = some (u, e) →
      exec (.evPulse u none) s =
      .next ((({ s with fabric := s.fabric.erase (u, e) } : State).deliver u e).grave)) ∧
  (∀ (s : State) (u : UnitId) (i : Fin 4),
      (mapGet (fun _ => ({} : CoderSt)) (s.getFab u.code).coder i.val).cols ≠ 0 →
      exec (.evPulse u (some i)) s =
      .next (((s.coderEnd u i).deliver u (0x64 + i)).grave)) ∧
  (∀ (s : State) (q : Requester) (u : UnitId) (v : BitVec 8),
      s.Accepts q u (Obj.EV_FIRE u) [v] →
      exec (.evFire q u v) s = .next ((s.pulse u v.toNat).answer q 0)) ∧
  (∀ (s : State) (u : UnitId) (t : Fin 8),
      (s.unitSt u).fwRunning = true →
      s.rd (Obj.TIMER_PERIOD u t) ≠ 0 →
      (s.rd (Obj.TIMER_SWEEP u)).testBit t = false →
      mapGet (fun _ => 0) (s.getFab u.code).timers t + s.rd (Obj.TIMER_PERIOD u t) ≤ s.now →
      exec (.timerTick u t) s =
      .next ((s.modFab u.code (fun f => { f with timers := mapPut (fun _ => 0) f.timers t s.now })).pulse u (0x68 + t))) ∧
  (∀ (s : State) (u : UnitId) (t : Fin 8),
      (s.unitSt u).fwRunning = true →
      (s.rd (Obj.TIMER_PERIOD u t) = 0 ∨ (s.rd (Obj.TIMER_SWEEP u)).testBit t = true) →
      exec (.timerTick u t) s = .next s) ∧
  (∀ (s : State) (q : Requester) (u : UnitId) (i : Fin 9) (v : Word),
      s.Accepts q u (Obj.TIMER_PERIOD u i) (leBytes 4 v.toNat) →
      i.val < 8 →
      exec (.timerWrite q u i v) s =
      .next (((s.wr (Obj.TIMER_PERIOD u i) (leNat (leBytes 4 v.toNat))).modFab u.code (fun f => { f with
        timers := mapPut (fun _ => 0) f.timers i.val s.now })).answer q 0)) ∧
  (∀ (s t : State) (q : Requester) (u : UnitId) (n : Fin 32) (l : List (Fin 4 × CoderSetup)),
      t = s.modFab u.code (fun f => { f with coder := l.foldl (fun m e => mapPut (fun _ => ({} : CoderSt)) m e.1 { profile := e.2.profile.toNat, cols := e.2.cols.toNat, addrs := e.2.addrs.map BitVec.toNat }) f.coder }) →
      t.Accepts q u (Obj.CH_CTRL u n) [1] →
      (t.getDma (dmaKey u n)).st = .idle →
      exec (.chArm q u n l) s =
      .next ((((t.modDma (dmaKey u n) (fun c => { c with credits := 0 })).dmaLoad u n (t.rd (Obj.DESC_ADDR u n)) true).answer q 0).grave)) ∧
  (∀ (s : State) (q : Requester) (u : UnitId) (n : Fin 32),
      s.Accepts q u (Obj.CH_CTRL u n) [2] →
      (s.getDma (dmaKey u n)).st = .running →
      exec (.chStop q u n) s =
      .next (((s.modDma (dmaKey u n) (fun c => { c with st := .stopping })).answer q 0).grave)) ∧
  (∀ (s : State) (q : Requester) (u : UnitId) (n : Fin 32),
      s.Accepts q u (Obj.CH_CTRL u n) [2] →
      (s.getDma (dmaKey u n)).st = .waitCredit →
      exec (.chStop q u n) s =
      .next (((s.dmaFail u n [.DMA_STOPPED]).answer q 0).grave)) ∧
  (∀ (s : State) (u : UnitId) (n : Fin 32) (e : Option BurstErr),
      (s.getDma (dmaKey u n)).st = .running →
      s.dmaServed u n = true →
      exec (.dmaBurstResponse u n e) s =
      .next (((s.modFab u.code (fun f => { f with turns := mapPut (fun _ => 31) f.turns (s.rd (Obj.PRIORITY u n)) n.val })).dmaBurst u n e).grave)) ∧
  (∀ (s : State) (u : UnitId) (n : Fin 32) (e : Option BurstErr),
      (s.getDma (dmaKey u n)).st = .running →
      s.dmaServed u n = false →
      exec (.dmaBurstResponse u n e) s = .next s.grave) ∧
  (∀ (s t : State) (u : UnitId) (n : Fin 32) (c : DmaSt) (d : List Byte),
      (s.getDma (dmaKey u n)).st = .running →
      s.dmaServed u n = true →
      t = s.modFab u.code (fun f => { f with turns := mapPut (fun _ => 31) f.turns (s.rd (Obj.PRIORITY u n)) n.val }) →
      t.getDma (dmaKey u n) = c →
      c.fld 47 1 = 2 →
      c.fld 15 1 = 0 →
      d = (List.range c.burst.2.2).map (fun i => c.desc.getD ((c.off + i) % 8) 0) →
      (t.engWrite u c.burst.2.1 d).2 = false →
      exec (.dmaBurstResponse u n none) s =
      (let last := c.remain == 0 && c.off + c.burst.2.2 == c.esize && c.fld 56 8 == 0
       let r := (t.engWrite u c.burst.2.1 d).1
       let at_ := (r.getBuf u.code).errAt
       .next ((r.dmaBad u n at_ true (last && decide (c.burst.2.1 + c.burst.2.2 ≤ at_ + 64))).grave))) ∧
  (∀ (s : State) (q : Requester) (u : UnitId) (e : Fin 16) (v : BitVec 8),
      s.Accepts q u (Obj.RING_TAIL u e) [v] →
      exec (.ringTailWrite q u e v) s = .next ((s.wr (Obj.RING_TAIL u e) v.toNat).answer q 0)) ∧
  (∀ (s : State) (q : Requester) (u : UnitId) (e : Fin 16) (v : BitVec 64),
      s.Accepts q u (Obj.RING_BASE u e) (leBytes 8 v.toNat) →
      s.rd (Obj.RING_HEAD u e) = s.rd (Obj.RING_TAIL u e) →
      v.toNat % 4096 = 0 →
      exec (.ringBaseWrite q u e v) s = .next ((s.wr (Obj.RING_BASE u e) v.toNat).answer q 0)) ∧
  (∀ (s : State) (u : UnitId) (e : Fin 16) (f : Bool) (b : Option Bool),
      s.engBusy u e = true →
      exec (.engineJobComplete u e f b) s = .next ((s.jobRun u e f b false).grave)) ∧
  (∀ (s : State) (q : Requester) (u : UnitId) (d : Fin 7),
      s.Accepts q u (Obj.DOMAIN_REQUEST u) [BitVec.ofNat 8 d] →
      (s.getFab u.code).going.contains d.val = false →
      (s.getFab u.code).powered.testBit d = true →
      exec (.domainPowerDown q u d) s =
      (let t := s.putFab u.code { s.getFab u.code with result := 1, going := (s.getFab u.code).going ++ [d.val] }
       .next ((((t.domainStop u d false).forEach ((engOf d).filter (fun e => s.engBusy u e)) (fun s e => s.jobRun u e false none true)).answer
         q 0).grave))) ∧
  (∀ (s : State) (u : UnitId) (d : Fin 7),
      (s.getFab u.code).going.contains d.val = true →
      exec (.domainPowerDownComplete u d) s =
      (let t := s.domainStop u d true
       let r := t.modFab u.code (fun f =>
         { f with
           coder := if d.val = 2 then [] else f.coder
           going := f.going.filter (· != d.val), upHeld := f.upHeld.filter (· != d.val), result := 2
           powered := if f.powered.testBit d then f.powered - 2 ^ d.val else f.powered })
       .next ((if (t.getFab u.code).upHeld.contains d.val then r.domainUp u d else r).grave))) ∧
  (∀ (s : State) (q : Requester) (u : UnitId) (d : Fin 7),
      s.Accepts q u (Obj.DOMAIN_REQUEST u) [BitVec.ofNat 8 (128 + d)] →
      (s.getFab u.code).going.contains d.val = false →
      exec (.domainPowerUp q u d) s = .next ((s.domainUp u d).answer q 0)) ∧
  (∀ (s : State) (q : Requester) (u : UnitId) (d : Fin 7),
      s.Accepts q u (Obj.DOMAIN_REQUEST u) [BitVec.ofNat 8 (128 + d)] →
      (s.getFab u.code).going.contains d.val = true →
      exec (.domainPowerUp q u d) s =
      .next ((s.modFab u.code (fun f => if f.upHeld.contains d.val then f else { f with upHeld := f.upHeld ++ [d.val] })).answer q 0))

/-- A command of the active unit is fetched into the command table, counted, with its queue's head moved on; one of the other
unit is forwarded; an unknown opcode completes with Invalid Command Opcode; queues are created with sizes 2 to 1024 and
identifiers 1 to 64, and deleted; page C0h gives its bytes; Identify, Abort of a waiting command, features and asynchronous
event requests complete as NVM Express gives them; pieces of an image are kept. A queue deletion completes its commands first
(R350). The other pages and Identify data take their offsets from NVM Express (log entry 94). -/
def Obligations.AdminQueuesAndFeatures : Prop :=
  (∀ (s : State) (t : CmdTag) (n : Nat) (l m : List (Nat × Nat)),
      t.ctrl = s.pair.active →
      exec (.commandFetch t n l m) s = .next (s.fetch t n l m).1) ∧
  (∀ (s : State) (t : CmdTag) (l m : List (Nat × Nat)),
      t.ctrl = s.pair.active →
      s.cmds.any (fun c => c.tag == t) = false →
      (s.getCtrl t.ctrl.code).rdy = true →
      fetches s.mode.cur = true →
      (s.getCtrl t.ctrl.code).sqs.any (fun q => q.qid == t.sq) = true →
      s.cmds.length < 16384 →
      s.bufferFull 0 = false →
      s.admits t ((t.sq, 0) :: l.filter (fun e => e.1 != t.sq)) m = true →
      exec (.commandFetch t 0 l m) s =
      (let r := (s.inc (Obj.COMMANDS_ENTERED t.ctrl.code)).modCtrl t.ctrl.code (fun c =>
         c.fetched t.sq (s.eligible t.ctrl ((t.sq, 0) :: l.filter (fun e => e.1 != t.sq))))
       let r := ({ r with lastCtrl := t.ctrl } : State).enterCmd { tag := t, forwarded := t.ctrl != s.pair.active }
       .next (r.wr Obj.CMD_SLOTS_PEAK (max (r.rd Obj.CMD_SLOTS_PEAK) r.cmds.length)))) ∧
  (∀ (s : State) (t : CmdTag) (n : Nat) (l m : List (Nat × Nat)),
      t.ctrl ≠ s.pair.active →
      exec (.forwardedCommand t n l m) s = .next (s.fetch t n l m).1) ∧
  (∀ (s : State) (t : CmdTag),
      s.Begins t 0 →
      exec (.invalidCommandOpcode t) s =
      .next (((s.fetch t 0).1.complete t .invalidOpcode).settle)) ∧
  (∀ (s r : State) (t : CmdTag)(i z v : Nat),
      s.Begins t 0 →
      r = (s.fetch t 0).1.modCmd t (fun c => { c with kind := .admin }) →
      1 ≤ i →
      i ≤ 64 →
      (r.getCtrl t.ctrl.code).cqs.any (fun q => q.qid == i) = false →
      2 ≤ z →
      z ≤ 1024 →
      v ≤ 64 →
      exec (.createIoCompletionQueue t i z v true) s =
      .next (((r.modCtrl t.ctrl.code (fun c => { c with cqs := c.cqs ++ [{ qid := i, size := z, vector := v }] })).complete t .success).settle)) ∧
  (∀ (s r : State) (t : CmdTag)(i z q : Nat),
      s.Begins t 0 →
      r = (s.fetch t 0).1.modCmd t (fun c => { c with kind := .admin }) →
      1 ≤ i →
      i ≤ 64 →
      (r.getCtrl t.ctrl.code).sqs.any (fun x => x.qid == i) = false →
      2 ≤ z →
      z ≤ 1024 →
      1 ≤ q →
      (r.getCtrl t.ctrl.code).cqs.any (fun x => x.qid == q) = true →
      exec (.createIoSubmissionQueue t i z q true) s =
      .next (((r.modCtrl t.ctrl.code (fun c => { c with sqs := c.sqs ++ [{ qid := i, cq := q, size := z }] })).complete t .success).settle)) ∧
  (∀ (s r : State) (t : CmdTag)(i : Nat),
      s.Begins t 0 →
      r = (s.fetch t 0).1.modCmd t (fun c => { c with kind := .admin }) →
      1 ≤ i →
      (r.getCtrl t.ctrl.code).sqs.any (fun x => x.qid == i) = true →
      exec (.deleteIoSubmissionQueue t i) s =
      .next (((let x := r.forEach (r.cmds.filter (fun (c : HostCmd) => c.tag.ctrl == t.ctrl && c.tag.sq == i)) (fun s c =>
         (s.abandonCmd c).complete c.tag .queueDeletion)
       ((x.modCtrl t.ctrl.code (fun c => { c with sqs := c.sqs.filter (fun (q : SubQueue) => q.qid != i) })).settleCmds).complete t .success)).settle)) ∧
  (∀ (s r : State) (t : CmdTag)(i : Nat),
      s.Begins t 0 →
      r = (s.fetch t 0).1.modCmd t (fun c => { c with kind := .admin }) →
      1 ≤ i →
      (r.getCtrl t.ctrl.code).cqs.any (fun x => x.qid == i) = true →
      (r.getCtrl t.ctrl.code).sqs.any (fun x => x.cq == i) = false →
      exec (.deleteIoCompletionQueue t i) s =
      .next (((r.modCtrl t.ctrl.code (fun c => { c with cqs := c.cqs.filter (fun (q : CplQueue) => q.qid != i) })).complete t .success).settle)) ∧
  (∀ (s r : State) (t : CmdTag)(o n : Nat) (b : List Byte) (w : State),
      s.Begins t 0 →
      r = (s.fetch t 0).1.modCmd t (fun c => { c with kind := .admin }) →
      r.freeBytes 512 = (b, w) →
      exec (.getLogPage t 0xC0 o n true) s =
      .next ((w.complete t .success 0 ((w.deferredPage.drop o).take n)).settle)) ∧
  (∀ (s r : State) (t : CmdTag)(n : Nat) (b : List Byte) (w v : State) (x : Nat),
      s.Begins t 0 →
      r = (s.fetch t 0).1.modCmd t (fun c => { c with kind := .admin }) →
      r.freeBytes 16 = (b, w) →
      w.next = (x, v) →
      exec (.identify t 1 n) s =
      .next ((v.complete t .success 0 (v.identifyController t.ctrl)).settle)) ∧
  (∀ (s r : State) (t : CmdTag)(q i : Nat),
      s.Begins t 0 →
      r = (s.fetch t 0).1.modCmd t (fun c => { c with kind := .admin }) →
      (r.getCtrl t.ctrl.code).sqs.any (fun x => x.qid == q) = true →
      r.cmds.any (fun c => c.tag == ⟨t.ctrl, q, i⟩) = false →
      exec (.nvmeAbort t q i true) s =
      .next ((((r.modCtrl t.ctrl.code (fun c => c.takeEntry q)).complete ⟨t.ctrl, q, i⟩ .abortRequested).complete t .success 0).settle)) ∧
  (∀ (s r : State) (t : CmdTag)(v : BitVec 32),
      s.Begins t 0 →
      r = (s.fetch t 0).1.modCmd t (fun c => { c with kind := .admin }) →
      exec (.setFeatures t 4 v) s =
      .next (((r.modCtrl t.ctrl.code (fun c => { c with features := mapIns (mapDel c.features 4) 4 v.toNat })).complete t .success).settle)) ∧
  (∀ (s r : State) (t : CmdTag)(x : Nat × Nat),
      s.Begins t 0 →
      r = (s.fetch t 0).1.modCmd t (fun c => { c with kind := .admin }) →
      (r.getCtrl t.ctrl.code).features.find? (fun e => e.1 == 4) = some x →
      exec (.getFeatures t 4) s =
      .next ((r.complete t .success x.2).settle)) ∧
  (∀ (s r : State) (t : CmdTag),
      s.Begins t 0 →
      r = (s.fetch t 0).1.modCmd t (fun c => { c with kind := .admin }) →
      (r.getCtrl t.ctrl.code).aers.length < 8 →
      (r.getCtrl t.ctrl.code).events = [] →
      exec (.asynchronousEventRequest t) s =
      .next ((((r.modCmd t (fun c => { c with kind := .aer })).modCtrl t.ctrl.code (fun c =>
        (match c.events with
         | [] => { c with aers := c.aers ++ [t.cid] }
         | a :: rest => ({ c with aers := c.aers ++ [t.cid], events := rest } : CtrlSt).event t.ctrl a))).aerSlots).settle)) ∧
  (∀ (s r : State) (t : CmdTag)(o : Nat) (d : List Byte),
      s.Begins t 0 →
      r = (s.fetch t 0).1.modCmd t (fun c => { c with kind := .admin }) →
      o % 4096 = 0 →
      d.length % 4096 = 0 →
      exec (.firmwareImageDownload t o d) s =
      .next (((r.modCtrl t.ctrl.code (fun c => { c with download := (o, d) :: c.download })).complete t .success).settle))

/-- A Firmware Commit runs when no activation does and the mode lets it act, and one that activates waits in another mode;
CC.EN makes the admin queues of 2 to 256 entries; a reset of a controller abandons its commands, clears it and may start a
pending activation; PERSTn also takes its link down. -/
def Obligations.CommitsAndControllerResets : Prop :=
  (∀ (s r : State) (t : CmdTag)(i : Fin 8),
      s.Begins t 0 →
      r = (s.fetch t 0).1.modCmd t (fun c => { c with kind := .admin }) →
      r.pair.step = .idle →
      activates r.mode.cur = true →
      exec (.fwCommitStore t i) s =
      .next ((r.commitRun t i 0).settle)) ∧
  (∀ (s r : State) (t : CmdTag)(i : Fin 8),
      s.Begins t 0 →
      r = (s.fetch t 0).1.modCmd t (fun c => { c with kind := .admin }) →
      r.pair.step = .idle →
      activates r.mode.cur = true →
      exec (.fwCommitStoreActivateReset t i) s =
      .next ((r.commitRun t i 1).settle)) ∧
  (∀ (s r : State) (t : CmdTag)(i : Fin 8),
      s.Begins t 0 →
      r = (s.fetch t 0).1.modCmd t (fun c => { c with kind := .admin }) →
      r.pair.step = .idle →
      activates r.mode.cur = true →
      exec (.fwCommitActivateReset t i) s =
      .next ((r.commitRun t i 2).settle)) ∧
  (∀ (s r : State) (t : CmdTag)(i : Fin 8),
      s.Begins t 0 →
      r = (s.fetch t 0).1.modCmd t (fun c => { c with kind := .admin }) →
      r.pair.step = .idle →
      activates r.mode.cur = true →
      exec (.fwCommitActivateNow t i) s =
      .next ((r.commitRun t i 3).settle)) ∧
  (∀ (s r : State) (t : CmdTag)(i : Fin 8),
      s.Begins t 0 →
      r = (s.fetch t 0).1.modCmd t (fun c => { c with kind := .admin }) →
      r.pair.step = .idle →
      activates r.mode.cur = false →
      exec (.fwCommitActivateNow t i) s =
      .next ((r.modCmd t (fun c => { c with kind := .commit, slot := i, action := 3 })).settle)) ∧
  (∀ (s : State) (u : UnitId) (a b : Nat),
      (s.getCtrl u.code).linkUp = true →
      (s.getCtrl u.code).ccEn = false →
      2 ≤ a →
      a ≤ 256 →
      2 ≤ b →
      b ≤ 256 →
      exec (.ccEnSet u a b) s =
      .next (((s.modCtrl u.code (fun c =>
        { c with ccEn := true, sqs := [{ qid := 0, cq := 0, size := a }], cqs := [{ qid := 0, size := b }] })).readyTry u).settle)) ∧
  (∀ (s : State) (u : UnitId),
      (s.getCtrl u.code).linkUp = true →
      exec (.controllerReset u) s =
      .next (((s.abandonCtrl u).modCtrl u.code (fun c => { c.cleared with ccEn := false, cfs := false, pp := false })).pendingStart.settle)) ∧
  (∀ (s : State) (u : UnitId),
      (s.getCtrl u.code).linkUp = true →
      exec (.perstnAsserted u) s =
      .next ((((s.abandonCtrl u).modCtrl u.code (fun c => { c.cleared with ccEn := false, cfs := false, pp := false })).pendingStart.modCtrl u.code
        (fun c => { c with linkUp := false })).settle))

/-- A Store that nothing refuses enters the table with its value and is cut into chunks, or held while fewer than 13 HDAs are
writable; one that must not find its key completes with Key Exists; a Retrieve of a value whose columns are there completes
with its bytes; a Delete of a present key is staged in its turn, of a missing one fails; Exist and List answer from what is
observed; Flush seals the open packing chunk and waits its turn; NSID FFFFFFFFh flushes every namespace; a command on another
module of the tree is forwarded. List data have the format of the Key Value Command Set (PRESUMED, log entry 94). -/
def Obligations.KeyValueCommands : Prop :=
  (∀ (s r : State) (t : CmdTag) (i n : Nat) (k v : List Byte) (o : StoreOpt) (m : Option CompressMode) (d : HostCmd),
      s.BeginsIo t v.length →
      r = (s.fetch t v.length).1 →
      r.casc.role ≠ .isolated →
      nsidOf i = some (0, n) →
      r.storeRefusal n k v.length o = none →
      r.cmds.find? (fun c => c.tag == t) = some d →
      exec (.store t i k v o m) s =
      .next ((let d : HostCmd := { d with
         kind := .store, ns := n, key := k, value := v, hint := m.getD (compressionOf (r.rd (Obj.COMPRESSION n)))
         held := true, heldAt := r.now }
       let x : State := { r with cmds := r.cmds.map (fun (c : HostCmd) => if c.tag == t then d else c) }
       if x.width < 13 && x.mode.cur != .bringUp then x else (x.formChunks d).settleCmds).settle)) ∧
  (∀ (s r : State) (t : CmdTag) (i n : Nat) (k v : List Byte) (o : StoreOpt) (m : Option CompressMode),
      s.BeginsIo t v.length →
      r = (s.fetch t v.length).1 →
      r.casc.role ≠ .isolated →
      nsidOf i = some (0, n) →
      r.storeRefusal n k v.length o = some .keyExists →
      exec (.store t i k v o m) s =
      .next ((r.complete t .keyExists).settle)) ∧
  (∀ (s r : State) (t : CmdTag) (i n : Nat) (k : List Byte) (l : Nat) (d : ValueDesc),
      s.BeginsIo t 0 →
      r = (s.fetch t 0).1 →
      r.casc.role ≠ .isolated →
      nsidOf i = some (0, n) →
      r.kvRefusal n (some k) false false = none →
      r.observe n k = .stored d →
      d.lost = false →
      r.mode.cur = .frond →
      d.chunks = [] →
      exec (.retrieve t i k l) s =
      .next ((r.complete t .success d.len []).settle)) ∧
  (∀ (s r : State) (t : CmdTag) (i n : Nat) (k : List Byte) (l : Nat) (d : ValueDesc),
      s.BeginsIo t 0 →
      r = (s.fetch t 0).1 →
      r.casc.role ≠ .isolated →
      nsidOf i = some (0, n) →
      r.kvRefusal n (some k) false false = none →
      r.observe n k = .stored d →
      d.lost = false →
      r.mode.cur = .frond →
      d.chunks.isEmpty = false →
      exec (.retrieve t i k l) s =
      .next (((r.modCmd t (fun c => { c with
         kind := .retrieve, ns := n, key := k, limit := l, desc := some d, waits := d.chunks })).forEach d.chunks (fun s n => s.readWant n id)).settle)) ∧
  (∀ (s r : State) (t : CmdTag) (i n : Nat) (k : List Byte) (l : Nat) (c : HostCmd),
      s.BeginsIo t 0 →
      r = (s.fetch t 0).1 →
      r.casc.role ≠ .isolated →
      nsidOf i = some (0, n) →
      r.kvRefusal n (some k) false false = none →
      r.observe n k = .pendingStore c →
      exec (.retrieve t i k l) s =
      .next (((r.modCmd c.tag (fun c => { c with observed := true })).complete t .success c.value.length (c.value.take l)).settle)) ∧
  (∀ (s r : State) (t : CmdTag) (i n : Nat) (k : List Byte),
      s.BeginsIo t 0 →
      r = (s.fetch t 0).1 →
      r.casc.role ≠ .isolated →
      nsidOf i = some (0, n) →
      r.kvRefusal n (some k) true true = none →
      r.present n k = true →
      exec (.delete t i k) s =
      .next (((r.modCmd t (fun c => { c with kind := .delete, ns := n, key := k })).settleCmds).settle)) ∧
  (∀ (s r : State) (t : CmdTag) (i n : Nat) (k : List Byte),
      s.BeginsIo t 0 →
      r = (s.fetch t 0).1 →
      r.casc.role ≠ .isolated →
      nsidOf i = some (0, n) →
      r.kvRefusal n (some k) true true = none →
      r.present n k = false →
      exec (.delete t i k) s =
      .next ((r.complete t .keyNotFound).settle)) ∧
  (∀ (s r : State) (t : CmdTag) (i n : Nat) (k : List Byte),
      s.BeginsIo t 0 →
      r = (s.fetch t 0).1 →
      r.casc.role ≠ .isolated →
      nsidOf i = some (0, n) →
      r.kvRefusal n (some k) false false = none →
      r.present n k = true →
      exec (.exist t i k) s =
      .next ((r.complete t .success).settle)) ∧
  (∀ (s r : State) (t : CmdTag) (i n : Nat) (k : List Byte) (l : Nat),
      s.BeginsIo t 0 →
      r = (s.fetch t 0).1 →
      r.casc.role ≠ .isolated →
      nsidOf i = some (0, n) →
      r.kvRefusal n (some k) false false = none →
      exec (.list t i k l) s =
      .next ((let ks := keysFit (l - 4) ((r.keysOf n).filter (fun x => keyLe k x))
       r.complete t .success 0 ((leBytes 4 ks.length ++ ks.flatMap listEntry).take l)).settle)) ∧
  (∀ (s r : State) (t : CmdTag) (i n : Nat),
      s.BeginsIo t 0 →
      r = (s.fetch t 0).1 →
      r.casc.role ≠ .isolated →
      nsidOf i = some (0, n) →
      r.kvRefusal n none false false = none →
      exec (.flush t i) s =
      .next ((((r.sealPack n).modCmd t (fun c => { c with kind := .flush, ns := n, all := false, waits := [] })).settleCmds).settle)) ∧
  (∀ (s r : State) (t : CmdTag),
      s.BeginsIo t 0 →
      r = (s.fetch t 0).1 →
      r.casc.role ≠ .isolated →
      r.flushMods = [] →
      exec (.flush t 0xFFFFFFFF) s =
      .next (((r.modCmd t (fun c => { c with fwdTag := r.casc.nextTag })).runFlush t 0 true []).settle)) ∧
  (∀ (s r : State) (t : CmdTag) (i m n : Nat) (k : List Byte),
      s.BeginsIo t 0 →
      r = (s.fetch t 0).1 →
      nsidOf i = some (m + 1, n) →
      r.casc.role = .root →
      (mapGet (fun _ => ({} : TreeModule)) r.casc.table (m + 1)).used = true →
      r.casc.dropped.contains (m + 1) = false →
      (mapGet (fun _ => ({} : TreeModule)) r.casc.table (m + 1)).reachable = true →
      exec (.exist t i k) s =
      .next ((r.forwardKv t (m + 1) { op := .exist, ns := n, key := k } []).settle))

/-- A namespace is created, deleted and, once no command uses it, removed; the open packing chunk is sealed at PACK_WAIT; at
LATE_LIMIT fragments without a check are missing; a Store held for width fails at WIDTH_WAIT; an acknowledged record is
staged; a sorus that cannot be decoded loses its chunk, the read of another has its columns; the chunk of the next sorus to
repair is read, and rebuild may be blocked; a checkpoint writes an index sorus and a root; compaction moves a sorus of the
next set while a member is short of bands, in every state completing; an HDA joins as a new member or back in its slot; index
recovery ends in reduced service or unavailable. A checkpoint's sectors are a free value (log entry 90). -/
def Obligations.NamespacesSorusesAndRebuild : Prop :=
  (∀ (s : State) (q : Requester) (u : UnitId) (n : Fin 16),
      s.Accepts q u (Obj.NS_COMMAND n) [1] →
      s.os.nsStateOf n = 0 →
      exec (.nsCreate q u n) s = .next ((s.nsTo n 1).answer q 0)) ∧
  (∀ (s : State) (q : Requester) (u : UnitId) (n : Fin 16),
      s.Accepts q u (Obj.NS_COMMAND n) [2] →
      s.os.nsStateOf n = 1 →
      exec (.nsDelete q u n) s =
      .next (({ s with os := { s.os with nsState := mapPut (fun _ => 0) s.os.nsState n 2 } } : State).answer q 0)) ∧
  (∀ (s : State) (n : Fin 16),
      s.os.nsStateOf n = 2 →
      s.cmds.any (fun c => (c.kind == .store || c.kind == .delete) && c.ns == n.val) = false →
      exec (.nsDeletionComplete n) s = .next ((s.dropNamespace n).nsTo n 0)) ∧
  (∀ (s : State) (n : Fin 16) (k : Nat),
      s.os.openPack n = some k →
      (s.sorus k).since + (s.sorus k).packWait ≤ s.now →
      exec (.packWaitExpiry n) s = .next (s.closeChunk k (s.sorus k).hint)) ∧
  (∀ (s : State) (a b n : Nat),
      s.os.byId a b = some n →
      (s.sorus n).sealed = true →
      (s.sorus n).sealedAt + s.rd Obj.LATE_LIMIT ≤ s.rd Obj.SWEEP_COUNT →
      exec (.lateLimitExpiry a b) s =
      (let x := s.sorus n
       let late := (x.frags.map Prod.fst).filter (fun f => !x.checked.testBit f && !x.missing.testBit f)
       let t := { s with chan := s.chan.map (fun (e : Nat × ChanSt) =>
         (e.1, { e.2 with checks := e.2.checks.filter (fun (c : FragCheck) => c.sorus != n) })) }
       .next (((t.forEach late (fun s f => s.fragMissing n f)).releaseChunk n).settle))) ∧
  (∀ (s : State) (t : CmdTag),
      s.cmds.any (fun c => c.tag == t && c.kind == .store && c.held && decide (c.heldAt + 1000 * s.rd Obj.WIDTH_WAIT ≤ s.now)) = true →
      s.width < 13 →
      exec (.widthWaitExpiry t) s = .next ((s.complete t .notReady).settleCmds.settle)) ∧
  (∀ (s : State) (t : CmdTag),
      s.cmds.any (fun c => c.tag == t && c.ackDue) = true →
      exec (.stagingAck t) s = .next ((s.modCmd t (fun c => { c with ackDue := false })).settleCmds.settle)) ∧
  (∀ (s : State) (a b n : Nat),
      s.os.byId a b = some n →
      decodable (s.sorus n).profile (s.sorus n).k (s.sorus n).missing = false →
      exec (.sorusDecodeComplete a b) s = .next ((s.chunkLost n).settle)) ∧
  (∀ (s : State) (a b n : Nat) (x : SorusSt),
      s.os.byId a b = some n →
      s.sorus n = x →
      x.lost = false →
      decodable x.profile x.k x.missing = true →
      s.os.reads.any (fun e => e.1 == n && x.decodes (e.2.there x.f)) = true →
      exec (.sorusDecodeComplete a b) s =
      .next (((s.forEach x.frags (fun s f =>
        match (mapGet (fun _ => ({} : Member)) s.os.members f.2.slot).port with
        | none => s
        | some p => s.ladderRebuilt p f.2.act (fun y => s.fragHas p f.2 x.f y))).coderDone n).settle)) ∧
  (∀ (s : State),
      s.backgroundRuns = true →
      s.nextRepair = none →
      exec .rebuildStep s = .next (s.blockedStep.settle)) ∧
  (∀ (s : State) (n : Nat),
      s.backgroundRuns = true →
      s.nextRepair = some n →
      (s.sorus n).missing ≠ 0 →
      exec .rebuildStep s = .next ((s.readWant n (fun r => { r with copy := true })).blockedStep.settle)) ∧
  (∀ (s : State) (m : Nat) (o : Option Nat) (x y : State),
      s.checkpointDue = true →
      s.mode.cur = .frond →
      13 ≤ s.width →
      s.os.mode = .readWrite →
      o = (s.os.soruses.find? (fun e => e.2.index && !e.2.dead && !s.os.moving e.1)).map Prod.fst →
      s.next.2.newSorus { index := true, profile := 1, slack := 1, n := 1 + (Config.indexSectors s.next.1).val, replaces := o } = (m, x) →
      y = (x.queueSorus m).inc Obj.CHECKPOINT_SEQ →
      exec .checkpoint s =
      .next ((({ y with os := { y.os with
        checkAt := y.now, rootOlder := y.os.journal
        members := y.os.members.map (fun (e : Nat × Member) =>
          (e.1, if y.memberWritable e.2 then { e.2 with root := y.rd Obj.CHECKPOINT_SEQ } else e.2)) } } : State).stage1
        { kind := .root, size := recordBytes [] [], need := y.journalUnits }).settleCmds)) ∧
  (∀ (s : State),
      exec .compactionStep s = .next (s.compactStep.settle)) ∧
  (∀ (s v : State) (b : BandSet) (e : Nat × SorusSt),
      s.compactMark = v →
      v.os.compacting = true →
      v.backgroundRuns = true →
      v.repairFirst = false →
      v.nextSetToCompact = some b →
      (v.os.inSet b.no).find? (fun e => v.holds e.1 e.2 && e.2.sealed && !e.2.lost && !v.os.moving e.1) = some e →
      exec .compactionStep s = .next ((v.moveSorus e.1).settle)) ∧
  (∀ (s v : State),
      s.compactMark = v →
      v.os.compacting = false →
      exec .compactionStep s = .next (v.settle)) ∧
  (∀ (s : State) (p : PortId),
      (s.getPort p).state = .ready →
      s.os.slotOf p = none →
      exec (.memberRecognition p .none) s = .next ((s.newMember p).osRefresh.settle)) ∧
  (∀ (s : State) (p : PortId) (n : Fin 32),
      (s.getPort p).state = .ready →
      s.os.slotOf p = none →
      (mapGet (fun _ => ({} : Member)) s.os.members n).state = .lost →
      exec (.memberRecognition p (.own n)) s = .next ((s.memberBack n p).osRefresh.settle)) ∧
  (∀ (s : State),
      s.os.mode = .recovering →
      s.mode.cur = .bringUp →
      exec (.indexRecoveryComplete true) s =
      (let x := { s with os := { s.os with mode := .reduced, recovered := true } }
       .next (((x.wr Obj.REDUCED_SERVICE 1).wr Obj.T_REDUCED (x.wr Obj.REDUCED_SERVICE 1).now).settle))) ∧
  (∀ (s : State),
      s.os.mode = .recovering →
      exec (.indexRecoveryComplete false) s =
      .next (((({ s with os := { s.os with mode := .indexUnavailable, recovered := true } } : State).raise .os [.OS_INDEX_UNAVAILABLE]).deferredError
        0x03 0).settle))

/-- A subtree that stays unreachable is lost with an error to its commands, and later its namespaces drop; the trained host
port may make the module the root; without strap or upstream link it is isolated; a level of the enumeration ends, an answer
is noted, a late partner joins; a member answers a query, takes its number, or passes one on; a link trains step by step with
the partner's identity, receives packets in order with an acknowledgement and asks again for others, and replays. Times and
bits on the wire are the sender's (log entries 3 and 184). -/
def Obligations.TreeAndGriugLinks : Prop :=
  (∀ (s : State) (m : Nat) (p : Fin 2) (ms : List Nat),
      s.casc.role = .root →
      m ≠ 0 →
      ms = (s.casc.below m p).filter (fun k => (mapGet (fun _ => ({} : TreeModule)) s.casc.table k).reachable) →
      ms.isEmpty = false →
      exec (.griugHoldExpiry m p) s =
      (let t := s.forEach ms (fun s k => s.modTable k (fun e => { e with reachable := false, lostAt := s.now }))
       .next (((t.transportError ms).raise .casc [.CASC_SUBTREE_LOST]).settle))) ∧
  (∀ (s : State) (p : Fin 2) (ms : List Nat),
      s.casc.role = .root →
      s.casc.downHops.contains (p.val + 1) = true →
      mapGet (fun _ => 0) s.casc.downAt (p.val + 1) + 1000 * s.rd Obj.GRIUG_HOLD ≤ s.now →
      ms = (s.casc.below 0 p).filter (fun k => (mapGet (fun _ => ({} : TreeModule)) s.casc.table k).reachable) →
      ms.isEmpty = false →
      exec (.griugHoldExpiry 0 p) s =
      (let t := s.forEach ms (fun s k => s.modTable k (fun e => { e with reachable := false, lostAt := s.now }))
       .next (((t.transportError ms).raise .casc [.CASC_SUBTREE_LOST]).settle))) ∧
  (∀ (s : State) (m : Nat) (p : Fin 2) (ms : List Nat),
      s.casc.role = .root →
      ms = (s.casc.below m p).filter (fun k => !(mapGet (fun _ => ({} : TreeModule)) s.casc.table k).reachable && !s.casc.dropped.contains k && decide ((mapGet (fun _ => ({} : TreeModule)) s.casc.table k).lostAt + 1000 * s.rd Obj.GRIUG_DROP ≤ s.now)) →
      ms.isEmpty = false →
      exec (.griugDropExpiry m p) s =
      .next ((({ s with casc := { s.casc with dropped := s.casc.dropped ++ ms } } : State).nsNotice).settle)) ∧
  (∀ (s : State) (u : UnitId),
      (s.getCtrl u.code).linkUp = false →
      s.sup.vin12 = true →
      linksTrain s.mode.cur = true →
      (s.unitSt u).inReset = false →
      exec (.hostPortTrained u true) s =
      .next ((s.modCtrl u.code (fun c => { c with linkUp := true })).rootTry.settle)) ∧
  (∀ (s : State) (u : UnitId),
      exec (.hostPortTrained u false) s = .next ((s.ctrlDown u).settle)) ∧
  (∀ (s : State),
      s.sup.straps.root = false →
      s.upstream = false →
      s.casc.role = .undecided →
      linksTrain s.mode.cur = true →
      s.rd Obj.T_FIDDLEHEAD + 100000 ≤ s.now →
      exec .isolationTimeout s = .next (({ s with casc := { s.casc with role := .isolated } } : State).settle)) ∧
  (∀ (s : State) (e : EnumSt),
      s.casc.enumr = some e →
      s.casc.role = .root →
      s.levelWaited e = true →
      exec .enumLevelWait s = .next ((State.lateServe 64 (s.levelDone e)).settle)) ∧
  (∀ (s : State) (m : Nat) (a b : PartnerSeen) (e : EnumSt),
      s.casc.role = .root →
      (mapGet (fun _ => ({} : TreeModule)) s.casc.table m).used = true →
      s.casc.enumr = some e →
      e.level.contains m = true →
      exec (.enumState m a b) s =
      .next (({ s with casc := { s.casc with enumr := some { e with seen := mapIns (mapDel e.seen m) m (a, b) } } } : State).settle)) ∧
  (∀ (s : State) (m : Nat) (a b : PartnerSeen),
      s.casc.role = .root →
      (mapGet (fun _ => ({} : TreeModule)) s.casc.table m).used = true →
      s.casc.enumr = none →
      exec (.enumState m a b) s = .next ((s.lateSeen m a b).settle)) ∧
  (∀ (s : State) (n : Nat),
      s.casc.role = .member →
      exec (.enumQuery n) s =
      .next ((s.send (.enumState (s.partnerAt 0) (s.partnerAt 1)) 0xFF n).settle)) ∧
  (∀ (s : State) (n d : Nat),
      s.casc.role = .member →
      n < 64 →
      exec (.enumAssign none n d) s =
      .next ((({ s with casc := { s.casc with number := some n, depth := some d, rootless := false } } : State).tokenAskAll).settle)) ∧
  (∀ (s : State) (p : Fin 2) (n d : Nat),
      s.casc.role = .member →
      n < 64 →
      exec (.enumAssign (some p) n d) s =
      (let t := { s with casc := { s.casc with routes := mapPut (fun _ => 0xFF) s.casc.routes n (p.val + 1) } }
       .next ((t.sendHop (p + 1) { body := .enumAssign p n d, dest := 0xFE, src := t.casc.src }).settle))) ∧
  (∀ (s : State) (u : UnitId) (l : GriugPort) (i : LinkIdent),
      s.sup.vin12 = true →
      linksTrain s.mode.cur = true →
      (s.unitSt u).inReset = false →
      (s.link u l.hop).st.isUp = false →
      (s.link u l.hop).st ≠ .miswired →
      (s.link u l.hop).step = 3 →
      exec (.griugTrainingStep u l (.ident i)) s =
      .next ((s.modLink u l.hop (fun k => { k with st := .training, step := k.step + 1, ident := some i, two := k.two || i.two })).settle)) ∧
  (∀ (s : State) (u : UnitId) (l : GriugPort),
      s.sup.vin12 = true →
      linksTrain s.mode.cur = true →
      (s.unitSt u).inReset = false →
      (s.link u l.hop).st.isUp = false →
      (s.link u l.hop).st ≠ .miswired →
      exec (.griugTrainingStep u l .failed) s =
      .next ((s.modLink u l.hop (fun k => { k with st := .failed, step := 0, two := false })).settle)) ∧
  (∀ (s : State) (u : UnitId) (l : GriugPort),
      exec (.griugLinkDown u l) s = .next ((s.linkLeaves u l.hop .noPartner).settle)) ∧
  (∀ (s : State) (u : UnitId) (l : GriugPort) (p : Packet),
      (s.link u l.hop).st.isUp = true →
      exec (.griugPacketReceive u l (.packet (s.link u l.hop).rxSeq true p)) s =
      .next (((s.modLink u l.hop (fun k => { k with rxSeq := k.rxSeq + 1, answer := some (.ack (s.link u l.hop).rxSeq) })).forward p).settle)) ∧
  (∀ (s : State) (u : UnitId) (l : GriugPort) (n : BitVec 12) (p : Packet),
      (s.link u l.hop).st.isUp = true →
      exec (.griugPacketReceive u l (.packet n false p)) s =
      .next ((s.modLink u l.hop (fun k => { k with answer := some (.nak k.rxSeq) })).settle)) ∧
  (∀ (s : State) (u : UnitId) (l : GriugPort),
      (s.link u l.hop).st.isUp = true →
      (s.link u l.hop).sentAt + 10 ≤ s.now →
      exec (.griugReplayTimeout u l) s = .next ((s.linkReplay u l.hop).settle))

/-- At the root a request of a used module enters the ledger, a token is returned or expires and the next is served; at a
module a grant goes to the lowest waiting port or back; a command of the root enters the module's table and runs; the root
sends the data asked for and gathers those of a read; the module gathers those of a Store and runs it at the last; a
completion ends the forwarded command at the root; an event of a module is raised on both controllers. -/
def Obligations.TokensAndForwardedCommands : Prop :=
  (∀ (s : State) (m p : Nat),
      s.casc.role = .root →
      (mapGet (fun _ => ({} : TreeModule)) s.casc.table m).used = true →
      exec (.tokenReq m p) s = .next ((s.request m p).settle)) ∧
  (∀ (s : State) (n w : Nat),
      s.grantHere n = true →
      s.firstWaiting = none →
      s.casc.role = .member →
      exec (.tokenGrant n w) s =
      .next (((s.inc Obj.GRANTS).send (.tokenReturn n) 0xFF).settle)) ∧
  (∀ (s : State) (n w p : Nat),
      s.grantHere n = true →
      s.firstWaiting = some p →
      exec (.tokenGrant n w) s = .next ((s.grantPort p n w false).settle)) ∧
  (∀ (s : State) (m n : Nat),
      s.casc.role = .root →
      s.casc.ledger.any (fun g => g.module == m && g.number == n) = true →
      exec (.tokenReturn m n) s = .next ((s.ledgerFree n).settle)) ∧
  (∀ (s : State) (n : Nat),
      s.casc.role = .root →
      s.casc.ledger.any (fun g => g.number == n && decide (g.due ≤ s.now)) = true →
      exec (.tokenExpiry n) s = .next ((s.ledgerFree n).settle)) ∧
  (∀ (s : State),
      s.casc.holdoff = true →
      s.casc.holdFrom + 14000000 ≤ s.now →
      exec .ledgerRebuildHoldoffExpiry s =
      .next ((({ s with casc := { s.casc with holdoff := false } } : State).serve).settle)) ∧
  (∀ (s : State),
      s.mode.cur = .bringUp →
      s.casc.number = none →
      s.rd Obj.T_BRINGUP + 1000 * s.rd Obj.ROOTLESS_WAIT ≤ s.now →
      exec .rootlessWaitExpiry s = .next (({ s with casc := { s.casc with rootless := true } } : State).settle)) ∧
  (∀ (s : State) (n : Nat) (c : KvSub),
      s.casc.role = .member →
      s.casc.number.isNone = false →
      c.ns < 16 →
      s.cascCmd n = none →
      s.cmds.length < 16384 →
      s.postsHeld = false →
      s.cmds = [] →
      exec (.cmd n c) s =
      (let t := s.enterCmd { tag := ⟨s.pair.active, cascQueue, n⟩ }
       let t := t.wr Obj.CMD_SLOTS_PEAK (max (t.rd Obj.CMD_SLOTS_PEAK) t.cmds.length)
       .next ((if t.postsHeld || t.cascBehind c then t else t.cascRun ⟨s.pair.active, cascQueue, n⟩ c).settle))) ∧
  (∀ (s : State) (m n o k : Nat) (c : HostCmd),
      s.forwarded m n = some c →
      c.need ≠ 0 →
      exec (.dataReq m n o k) s =
      .next ((s.send (.data (((c.value.drop o).take k).take 4096)) m n o).settle)) ∧
  (∀ (s : State) (m n : Nat) (d : List Byte) (c : HostCmd),
      s.casc.role = .root →
      s.forwarded m n = some c →
      c.need = 0 →
      exec (.data m n c.value.length d) s =
      .next ((s.modCmd c.tag (fun c => { c with value := c.value ++ d })).settle)) ∧
  (∀ (s : State) (m n : Nat) (d : List Byte) (c : HostCmd),
      s.casc.role = .member →
      s.cascCmd n = some c →
      c.need = d.length →
      d.isEmpty = false →
      exec (.data m n c.value.length d) s =
      .next (((s.modCmd c.tag (fun h => { h with value := h.value ++ d, need := h.need - d.length })).runStore c.tag c.ns c.key (c.value ++ d)
        c.opt c.hint).settle)) ∧
  (∀ (s : State) (m n a b d w : Nat) (r : Bool) (c : HostCmd),
      s.forwarded m n = some c →
      exec (.cpl m n a b r d w) s =
      .next ((s.completeWith c.tag a b r d w (if c.need = 0 then c.value.take c.limit else [])).settle)) ∧
  (∀ (s : State) (m a b d : Nat),
      s.casc.role = .root →
      (mapGet (fun _ => ({} : TreeModule)) s.casc.table m).used = true →
      exec (.event m a b d) s =
      .next ((s.aenAll (aenMask a b) { ty := a, info := b, log := d }).settle))

/-- A blank page reads FFh; a program starts on a blank page of a block that may be programmed and ends with its bytes; an
erase first writes the row ERASING with its count raised, and verified leaves the block blank, failed retires it; an erase of
the same interface is suspended and resumed; status, blankness and the state row are read; a block is retired; an unmapped
number takes the source's block. Each answers with its status word; bit errors are the sender's. -/
def Obligations.JournalFlashCommands : Prop :=
  (∀ (s : State) (u : UnitId) (i : JfIface) (x : BitVec 32) (n : Nat),
      s.jfRefuse u i 1 x true = none →
      (s.getJf u.code).busy = false →
      (s.getJf u.code).phys (jfBlock x) ≠ 0xFFFF →
      (s.getJf u.code).erase = none →
      (s.getJf u.code).incomplete.contains ((s.getJf u.code).phys (jfBlock x)) = false →
      (s.getJf u.code).page ((s.getJf u.code).phys (jfBlock x)) (jfPageNo x) = .blank →
      exec (.readPage u i x n) s =
      (let t := s
       .next ((t.jfAnswer u i ((t.getJf u.code).word 1 (some (jfBlock x)) (swDataValid ||| swDone)) (List.replicate 256 0xFF)).settle))) ∧
  (∀ (s : State) (u : UnitId) (i : JfIface) (x : BitVec 32) (d : List Byte),
      s.jfRefuse u i 2 x true = none →
      (s.getJf u.code).phys (jfBlock x) ≠ 0xFFFF →
      (s.getJf u.code).busy = false →
      (s.getJf u.code).erase = none →
      (s.getJf u.code).incomplete.contains ((s.getJf u.code).phys (jfBlock x)) = false →
      (s.getJf u.code).blocked.contains ((s.getJf u.code).phys (jfBlock x)) = false →
      (s.getJf u.code).page ((s.getJf u.code).phys (jfBlock x)) (jfPageNo x) = .blank →
      exec (.programPage u i x d) s =
      (let t := s.modJf u.code (fun j => { j with prog := some ⟨(s.getJf u.code).phys (jfBlock x), jfPageNo x, (d ++ List.replicate 256 0xFF).take 256, i⟩ })
       .next ((t.jfAnswer u i ((t.getJf u.code).word 2 (some (jfBlock x)) (0)) []).settle))) ∧
  (∀ (s : State) (u : UnitId) (n : Nat) (g : JfProg),
      (s.getJf u.code).prog = some g →
      n ≤ 2 →
      g.iface ≠ .firmware →
      exec (.jfProgramComplete u n) s =
      (let t := s.putJf u.code { (s.getJf u.code).setPage g.phys g.page (.data g.bytes) with prog := none }
       .next ((t.jfAnswer u g.iface ((t.getJf u.code).word 2 (some ((s.getJf u.code).row g.phys).logical) swDone)).settle))) ∧
  (∀ (s : State) (u : UnitId) (i : JfIface) (x : BitVec 32),
      s.jfRefuse u i 3 x false = none →
      (s.getJf u.code).phys (jfBlock x) ≠ 0xFFFF →
      (s.getJf u.code).busy = false →
      (s.getJf u.code).suspended = false →
      (s.getJf u.code).live (jfBlock x) = false →
      exec (.eraseBlock u i x) s =
      (let t := (let n := min (((s.getJf u.code).row ((s.getJf u.code).phys (jfBlock x))).count + 1) 0xFFFFFFFF
         let r := s.putJf u.code { (s.getJf u.code).writeRow ((s.getJf u.code).phys (jfBlock x)) 0xA5 n (jfBlock x) with erase := some { logical := jfBlock x, phys := (s.getJf u.code).phys (jfBlock x), iface := i, since := s.now } }
         let r := if r.rd (Obj.ERASE_COUNT_MAX u) < n then r.wr (Obj.ERASE_COUNT_MAX u) n else r
         if n = 100000000 then r.raise (.jf u) [.JF_WEAR_LIMIT] else r)
       .next ((t.jfAnswer u i ((t.getJf u.code).word 3 (some (jfBlock x)) (0)) []).settle))) ∧
  (∀ (s : State) (u : UnitId) (e : JfErase),
      (s.getJf u.code).erase = some e →
      e.suspended = false →
      exec (.jfEraseComplete u true) s =
      (let j := ((s.getJf u.code).writeRow e.phys 0x5A ((s.getJf u.code).row e.phys).count e.logical).blankBlock e.phys
       let t := s.putJf u.code { j with
         erase := none, incomplete := (s.getJf u.code).incomplete.filter (· ≠ e.phys), blocked := (s.getJf u.code).blocked.filter (· ≠ e.phys) }
       let t := t.wr (Obj.INCOMPLETE_BLOCKS u) (t.getJf u.code).incomplete.length
       .next ((t.jfAnswer u e.iface ((t.getJf u.code).word 3 (some e.logical) swDone)).settleCmds.settle))) ∧
  (∀ (s : State) (u : UnitId) (e : JfErase),
      (s.getJf u.code).erase = some e →
      e.suspended = false →
      exec (.jfEraseComplete u false) s =
      (let t := s.putJf u.code { (s.getJf u.code).blankBlock e.phys with erase := none }
       let t := ((t.inc (Obj.ERASE_FAILS u)).raise (.jf u) [.JF_ERASE_FAIL]).jfRetire u e.logical
       let t := t.wr (Obj.INCOMPLETE_BLOCKS u) (t.getJf u.code).incomplete.length
       .next ((t.jfAnswer u e.iface ((t.getJf u.code).word 3 (some e.logical) (swRetired ||| swEraseFail ||| swDone))).settleCmds.settle))) ∧
  (∀ (s : State) (u : UnitId) (i : JfIface) (x : BitVec 32) (e : JfErase),
      s.jfRefuse u i 4 x false = none →
      (s.getJf u.code).erase = some e →
      e.suspended = false →
      e.iface = i →
      e.since + 500 ≤ s.now →
      exec (.eraseSuspend u i x) s =
      (let t := (s.modJf u.code (fun j => { j with erase := some { e with suspended := true, asked := none } })).inc (Obj.SUSPENDS u)
       .next ((t.jfAnswer u i ((t.getJf u.code).word 4 (some (jfBlock x)) (swDone)) []).settle))) ∧
  (∀ (s : State) (u : UnitId) (i : JfIface) (x : BitVec 32) (e : JfErase),
      s.jfRefuse u i 5 x false = none →
      (s.getJf u.code).erase = some e →
      e.suspended = true →
      (s.getJf u.code).prog = none →
      e.iface = i →
      exec (.eraseResume u i x) s =
      (let t := s.modJf u.code (fun j => { j with erase := some { e with suspended := false, since := s.now } })
       .next ((t.jfAnswer u i ((t.getJf u.code).word 5 (some (jfBlock x)) (swDone)) []).settle))) ∧
  (∀ (s : State) (u : UnitId) (i : JfIface) (x : BitVec 32),
      s.jfRefuse u i 6 x true = none →
      exec (.readStatus u i x) s =
      (let t := s
       .next ((t.jfAnswer u i ((t.getJf u.code).word 6 (some (jfBlock x)) (swDone)) []).settle))) ∧
  (∀ (s : State) (u : UnitId) (i : JfIface) (x : BitVec 32),
      s.jfRefuse u i 7 x true = none →
      (s.getJf u.code).busy = false →
      (s.getJf u.code).phys (jfBlock x) ≠ 0xFFFF →
      (s.getJf u.code).incomplete.contains ((s.getJf u.code).phys (jfBlock x)) = false →
      (s.getJf u.code).erase = none →
      exec (.blankCheck u i x) s =
      (let t := s
       .next ((t.jfAnswer u i ((t.getJf u.code).word 7 (some (jfBlock x)) ((if (s.getJf u.code).page ((s.getJf u.code).phys (jfBlock x)) (jfPageNo x) = .blank then 0 else swNotBlank) ||| swDone)) []).settle))) ∧
  (∀ (s : State) (u : UnitId) (i : JfIface) (x : BitVec 32),
      s.jfRefuse u i 8 x false = none →
      (s.getJf u.code).phys (jfBlock x) ≠ 0xFFFF →
      exec (.readStateRow u i x) s =
      (let t := s
       .next ((t.jfAnswer u i ((t.getJf u.code).word 8 (some (jfBlock x)) (swDone)) ((s.getJf u.code).row ((s.getJf u.code).phys (jfBlock x))).bytes).settle))) ∧
  (∀ (s : State) (u : UnitId) (i : JfIface) (x : BitVec 32),
      s.jfRefuse u i 9 x true = none →
      (s.getJf u.code).busy = false →
      (s.getJf u.code).erase = none →
      (s.getJf u.code).phys (jfBlock x) ≠ 0xFFFF →
      exec (.retireBlock u i x) s =
      (let t := s.jfRetire u (jfBlock x)
       .next ((t.jfAnswer u i ((t.getJf u.code).word 9 (some (jfBlock x)) (swRetired ||| swDone)) []).settle))) ∧
  (∀ (s : State) (u : UnitId) (i : JfIface) (x : BitVec 32) (d : BitVec 16),
      s.jfRefuse u i 10 x true = none →
      i = .management →
      (s.getJf u.code).busy = false →
      (s.getJf u.code).erase = none →
      (s.getJf u.code).phys (jfBlock x) = 0xFFFF →
      (s.getJf u.code).phys d.toNat ≠ 0xFFFF →
      d.toNat ≤ 3999 →
      inJournal d.toNat = false →
      exec (.moveMap u i x d) s =
      (let t := (s.putJf u.code ((((s.getJf u.code).writeRow ((s.getJf u.code).phys d.toNat) ((s.getJf u.code).row ((s.getJf u.code).phys d.toNat)).state ((s.getJf u.code).row ((s.getJf u.code).phys d.toNat)).count (jfBlock x)).setMap (jfBlock x)
         ((s.getJf u.code).phys d.toNat)).setMap d.toNat 0xFFFF)).slotRestore u (jfBlock x)
       .next ((t.jfAnswer u i ((t.getJf u.code).word 10 (some (jfBlock x)) (swDone)) []).settle)))

/-- A clearing write clears the clearable bits of a status object and makes a record where it clears one; the oldest emergency
message leaves at a transmit opportunity, one more for each burst frame; a due page is programmed at the write point, or sets
WRITE_FAIL; a record is read and ER_READ_SEQ moves on; a challenge of 16 random bytes is held for its requester, and expires;
the right response over challenge, newest number and 5Ah erases the ring and is recorded. Random bytes are free values (log
entry 8). -/
def Obligations.EventRecorder : Prop :=
  (∀ (s : State) (q : Requester) (u : UnitId) (i j : Nat) (v : BitVec 16) (x : Site),
      siteAt u i j = some x →
      s.mode.cur ≠ .switchover →
      s.writeErr u i j q (leBytes 2 v.toNat) = 0 →
      exec (.statusClear q u i j v) s = .next ((s.clearStatus q x v.toNat).answer q 0)) ∧
  (∀ (s : State) (q : Requester) (u : UnitId) (i j : Nat) (v : BitVec 16) (x : Site),
      siteAt u i j = some x →
      s.mode.cur ≠ .switchover →
      s.writeErr u i j q (leBytes 2 v.toNat) = 0 →
      s.clearable x v.toNat ≠ 0 →
      exec (.statusClear q u i j v) s =
      (let t := s.wr x.key (s.rd x.key - s.clearable x v.toNat)
       .next ((t.log { ty := 3, unit := x.unit.getD t.reporter,
                       body := leBytes 2 (keyIndex x.key) ++ leBytes 1 (keySub x.key) ++ leBytes 2 (s.clearable x v.toNat) ++
                         leBytes 1 (ifaceCode q) }).answer q 0))) ∧
  (∀ (s : State) (m : Emcy) (r : List Emcy),
      s.plcaActive s.reporter = false →
      s.emcy = m :: r →
      exec .emergency s =
      (let f : KdapOut := { unit := s.reporter, dest := s.rd Obj.EMCY_DEST_MAC, service := 0x10, index := m.index, sub := m.sub,
                            param := m.ty + 0x10000 * m.cls, data := m.body }
       .next ((({ s with emcy := r, kdapTx := f :: s.kdapTx } : State).inc Obj.EMCY_SEQ).inc (Obj.KDAP_TX s.reporter)))) ∧
  (∀ (s : State) (u : UnitId) (e : ErSt) (j : JfSt) (n : Nat),
      (s.getEr u.code) = e →
      (s.getJf u.code) = j →
      s.canProgram u = true →
      j.busy = false →
      e.due.isEmpty = false →
      e.wraps = false →
      (decide (e.wp % 256 = 0) && j.stale (548 + e.wp / 256)) = false →
      j.page (j.phys (548 + e.wp / 256)) (e.wp % 256) ≠ .blank →
      exec (.eventPageProgram u n) s =
      .next ((s.putEr u.code e).raise (.er u) [.ER_WRITE_FAIL])) ∧
  (∀ (s : State) (u : UnitId) (e : ErSt) (j : JfSt) (n p : Nat),
      (s.getEr u.code) = e →
      (s.getJf u.code) = j →
      s.canProgram u = true →
      j.busy = false →
      e.due.isEmpty = false →
      e.wraps = false →
      (decide (e.wp % 256 = 0) && j.stale (548 + e.wp / 256)) = false →
      p = j.phys (548 + e.wp / 256) →
      p ≠ 0xFFFF →
      j.erase = none →
      j.incomplete.contains p = false →
      j.blocked.contains p = false →
      j.page p (e.wp % 256) = .blank →
      n ≤ 2 →
      exec (.eventPageProgram u n) s =
      (let b := e.programPage.2.flatMap (fun x => x.2.bytes)
       .next ((s.putJf u.code (j.setPage p (e.wp % 256) (.data (b ++ List.replicate (256 - b.length) 0xFF)))).putEr u.code e.programPage.1))) ∧
  (∀ (s : State) (q : Requester) (u : UnitId) (r : Rec) (b : Bool),
      s.mode.cur ≠ .switchover →
      s.readErr 0x5200 5 q = 0 →
      s.rd (Obj.ER_READ_SEQ u) < (s.getEr u.code).next →
      (s.getEr u.code).oldest ≤ s.rd (Obj.ER_READ_SEQ u) →
      (s.getEr u.code).find (s.rd (Obj.ER_READ_SEQ u)) = some (r, b) →
      (b = true ∨ s.sup.vin12 = true) →
      exec (.erRecordRead q u) s =
      .next (((s.wr (Obj.ER_READ_SEQ u) (s.rd (Obj.ER_READ_SEQ u) + 1)).modEr u.code (fun e => { e with readResult := 0 })).answer q 0 r.bytes)) ∧
  (∀ (s : State) (q : Requester) (u : UnitId),
      s.mode.cur ≠ .switchover →
      s.readErr 0x5210 0 q = 0 →
      (((s.getEr u.code).forget q).challenges.filter (fun c => decide (s.now ≤ c.2.2 + 60000000))).length < 8 →
      exec (.erChallengeRead q u) s =
      .next (((s.random16.2.modEr u.code (fun e =>
        { e.forget q with challenges := (q, s.random16.1, s.random16.2.now) :: (e.forget q).challenges })).answer q 0 s.random16.1))) ∧
  (∀ (s : State) (q : Requester) (u : UnitId) (d : List Byte),
      s.mode.cur ≠ .switchover →
      s.writeErr u 0x5210 1 q d = 0 →
      exec (.erClearResponseWrite q u d) s = .next ((s.erClear q u d).answer q 0)) ∧
  (∀ (s : State) (q : Requester) (u : UnitId) (d k c : List Byte),
      s.mode.cur = .maintenance →
      s.writeErr u 0x5210 1 q d = 0 →
      (s.getFuse u.code).erKey = some k →
      (s.getEr u.code).challengeOf q s.now = some c →
      d = erResponse k c (s.getEr u.code).newest →
      exec (.erClearResponseWrite q u d) s =
      (let e := s.getEr u.code
       let t := s.erErase.modEr u.code (fun e => { e.forget q with clearResult := 1 })
       let b := leBytes 8 e.oldest ++ leBytes 8 e.newest ++ leBytes 1 (ifaceCode q) ++ c
       let t := ((t.log { ty := 8, unit := u, body := b }).raise (.er u) [.ER_CLEARED]).incSave (Obj.ER_CLEARS u)
       .next ((t.emergency { index := 0, sub := 0, ty := 8, cls := 0, body := b }).answer q 0))) ∧
  (∀ (s : State) (q : Requester) (u : UnitId),
      exec (.erChallengeExpiry q u) s =
      .next (s.modEr u.code (fun e =>
        { e with challenges := e.challenges.filter (fun c => c.1 != q || decide (s.now < c.2.2 + 60000000)) })))

/-- A well-formed frame of its EtherType is counted as received and answered: a read with its bytes, a write with an empty
answer, a failed access and a target out of reach with an abort that carries the code; a malformed frame is dropped and
counted. A transfer that finds room is opened, sent in a window of 8, acknowledged after every fourth segment and after the
last, applied as a whole, and ends by abort, by a third silence or by its time limit. The delay bounds that send the two
timeouts are the sender's (log entry 3). -/
def Obligations.ManagementTransfers : Prop :=
  (∀ (s : State) (u t : UnitId) (f : KdapFrame) (r : State) (d : List Byte),
      s.mode.cur ≠ .switchover →
      s.Hears f false →
      f.target.toNat < 4 →
      (s.inc (Obj.KDAP_RX u)).kdapTarget u f = some t →
      ((s.inc (Obj.KDAP_RX u)).dictRead (.kdap f.src) t f.index f.sub).takeAnswer = (r, 0, d) →
      d.length ≤ 1024 →
      exec (.expeditedRead u f) s = .next (r.kdapSend (f.reply u 0x81 d.length d))) ∧
  (∀ (s : State) (u t : UnitId) (f : KdapFrame) (r : State) (e : Nat) (d : List Byte),
      s.mode.cur ≠ .switchover →
      s.Hears f false →
      f.target.toNat < 4 →
      (s.inc (Obj.KDAP_RX u)).kdapTarget u f = some t →
      ((s.inc (Obj.KDAP_RX u)).dictRead (.kdap f.src) t f.index f.sub).takeAnswer = (r, e, d) →
      e ≠ 0 →
      exec (.expeditedRead u f) s = .next (r.kdapAbort u f e)) ∧
  (∀ (s : State) (u : UnitId) (f : KdapFrame),
      s.mode.cur ≠ .switchover →
      s.Hears f false →
      f.target.toNat < 4 →
      (s.inc (Obj.KDAP_RX u)).kdapTarget u f = none →
      exec (.expeditedRead u f) s = .next ((s.inc (Obj.KDAP_RX u)).kdapAbort u f 0x0D)) ∧
  (∀ (s : State) (u : UnitId) (f : KdapFrame),
      s.mode.cur ≠ .switchover →
      s.kdapUp = true →
      f.etherType = s.rd Obj.KDAP_ETHERTYPE →
      f.broadcast = false →
      f.formed = false →
      exec (.expeditedRead u f) s = .next (s.inc (Obj.KDAP_DROPPED u))) ∧
  (∀ (s : State) (u : UnitId) (f : KdapFrame),
      s.mode.cur ≠ .switchover →
      s.kdapUp = true →
      f.etherType = s.rd Obj.KDAP_ETHERTYPE →
      f.broadcast = false →
      2 ≤ f.queued →
      exec (.expeditedRead u f) s = .next (s.inc (Obj.KDAP_DROPPED u))) ∧
  (∀ (s : State) (u : UnitId) (f : KdapFrame),
      f.broadcast = true →
      s.Hears f f.discovers →
      exec (.expeditedRead u f) s =
      .next ((s.inc (Obj.KDAP_RX u)).modDict u.code (fun d => { d with found := d.found ++ [(f, (s.inc (Obj.KDAP_RX u)).now)] }))) ∧
  (∀ (s : State) (u t : UnitId) (f : KdapFrame) (r : State) (d : List Byte),
      s.mode.cur ≠ .switchover →
      s.Hears f false →
      f.target.toNat < 4 →
      (s.inc (Obj.KDAP_RX u)).kdapTarget u f = some t →
      ((s.inc (Obj.KDAP_RX u)).dictWrite (.kdap f.src) t f.index f.sub f.body).takeAnswer = (r, 0, d) →
      exec (.expeditedWrite u f) s = .next ((r.kdapSend (f.reply u 0x82 0 [])).settle)) ∧
  (∀ (s : State) (u t : UnitId) (f : KdapFrame) (r : State) (d part : List Byte),
      s.mode.cur ≠ .switchover →
      s.Hears f false →
      f.target.toNat < 4 →
      (s.inc (Obj.KDAP_RX u)).kdapTarget u f = some t →
      ((s.inc (Obj.KDAP_RX u)).getDict u.code).room f.index f.sub = true →
      ((s.inc (Obj.KDAP_RX u)).dictRead (.kdap f.src) t f.index f.sub).takeAnswer = (r, 0, d) →
      readPart f.index f.sub f.param (if leNat f.body = 0 then d.length else leNat f.body) d = (0, part) →
      part.isEmpty = false →
      exec (.segmentedReadInitiate u f) s =
      .next ((r.kdapSend (f.reply u 0x83 part.length [])).sendWindow u
        { src := f.src, transId := f.transId, index := f.index, sub := f.sub, write := false, total := part.length, bytes := part, tries := 1 } 0)) ∧
  (∀ (s : State) (u t : UnitId) (f : KdapFrame),
      s.mode.cur ≠ .switchover →
      s.Hears f false →
      f.target.toNat < 4 →
      (s.inc (Obj.KDAP_RX u)).kdapTarget u f = some t →
      ((s.inc (Obj.KDAP_RX u)).getDict u.code).room f.index f.sub = false →
      exec (.segmentedReadInitiate u f) s = .next ((s.inc (Obj.KDAP_RX u)).kdapAbort u f 0x0A)) ∧
  (∀ (s : State) (u t : UnitId) (f : KdapFrame),
      s.mode.cur ≠ .switchover →
      s.Hears f false →
      f.target.toNat < 4 →
      (s.inc (Obj.KDAP_RX u)).kdapTarget u f = some t →
      ((s.inc (Obj.KDAP_RX u)).getDict u.code).room f.index f.sub = true →
      exec (.segmentedWriteInitiate u f) s =
      .next (((s.inc (Obj.KDAP_RX u)).modDict u.code (fun d => d.putTransfer
        { src := f.src, transId := f.transId, index := f.index, sub := f.sub, write := true, total := f.param, bytes := [], frameAt := (s.inc (Obj.KDAP_RX u)).now })).kdapSend
          (f.reply u 0x84 f.param []))) ∧
  (∀ (s : State) (u t : UnitId) (f : KdapFrame) (x : Transfer),
      f.last = false →
      s.Hears f false →
      f.target.toNat < 4 →
      (s.inc (Obj.KDAP_RX u)).kdapTarget u f = some t →
      (((s.inc (Obj.KDAP_RX u)).getDict u.code).transfer f.src f.transId) = some x →
      x.write = true →
      f.seq = x.inOrder % 256 →
      f.param = 1024 * x.inOrder →
      f.length = 1024 →
      exec (.segment u f) s =
      (let y := { x with inOrder := x.inOrder + 1, bytes := x.bytes ++ f.body, frameAt := (s.inc (Obj.KDAP_RX u)).now }
       let t := (s.inc (Obj.KDAP_RX u)).modDict u.code (fun d => d.putTransfer y)
       .next (if y.inOrder % 4 = 0 then t.kdapSend (f.reply u 0x06 y.inOrder []) else t).settle)) ∧
  (∀ (s : State) (u t : UnitId) (f : KdapFrame) (x : Transfer),
      f.last = false →
      s.Hears f false →
      f.target.toNat < 4 →
      (s.inc (Obj.KDAP_RX u)).kdapTarget u f = some t →
      (((s.inc (Obj.KDAP_RX u)).getDict u.code).transfer f.src f.transId) = some x →
      x.write = true →
      f.param ≠ 1024 * x.inOrder →
      exec (.segment u f) s =
      .next ((((s.inc (Obj.KDAP_RX u)).modDict u.code (fun d => d.putTransfer { x with frameAt := (s.inc (Obj.KDAP_RX u)).now })).kdapSend (f.reply u 0x06 (x.inOrder - x.inOrder % 4) [])).settle)) ∧
  (∀ (s : State) (u t : UnitId) (f : KdapFrame) (x y : Transfer) (r : State) (d : List Byte),
      f.last = true →
      s.mode.cur ≠ .switchover →
      s.Hears f false →
      f.target.toNat < 4 →
      (s.inc (Obj.KDAP_RX u)).kdapTarget u f = some t →
      (((s.inc (Obj.KDAP_RX u)).getDict u.code).transfer f.src f.transId) = some x →
      x.write = true →
      f.seq = x.inOrder % 256 →
      f.param = 1024 * x.inOrder →
      f.length ≠ 0 →
      y = { x with inOrder := x.inOrder + 1, bytes := x.bytes ++ f.body, frameAt := (s.inc (Obj.KDAP_RX u)).now } →
      y.bytes.length = y.total →
      (State.dictWrite ((State.modDict (s.inc (Obj.KDAP_RX u)) u.code (fun d => d.endTransfer f.src f.transId)).kdapSend (f.reply u 0x06 y.inOrder []))
        (.kdap f.src) t x.index x.sub y.bytes).takeAnswer = (r, 0, d) →
      exec (.segment u f) s =
      .next ((r.kdapSend (KdapFrame.reply { f with index := x.index, sub := x.sub } u 0x82 0 [])).settle)) ∧
  (∀ (s : State) (u t : UnitId) (f : KdapFrame),
      f.last = false →
      s.Hears f false →
      f.target.toNat < 4 →
      (s.inc (Obj.KDAP_RX u)).kdapTarget u f = some t →
      (((s.inc (Obj.KDAP_RX u)).getDict u.code).transfer f.src f.transId) = none →
      exec (.segment u f) s = .next (((s.inc (Obj.KDAP_RX u)).kdapAbort u f 0x0B).settle)) ∧
  (∀ (s : State) (u t : UnitId) (f : KdapFrame) (x : Transfer),
      s.Hears f false →
      f.target.toNat < 4 →
      (s.inc (Obj.KDAP_RX u)).kdapTarget u f = some t →
      (((s.inc (Obj.KDAP_RX u)).getDict u.code).transfer f.src f.transId) = some x →
      x.write = false →
      x.inOrder ≤ f.param →
      f.param ≤ x.sent →
      f.param < x.segments →
      exec (.segmentAcknowledge u f) s =
      .next ((s.inc (Obj.KDAP_RX u)).sendWindow u { x with inOrder := f.param, tries := 1 } x.sent)) ∧
  (∀ (s : State) (u t : UnitId) (f : KdapFrame) (x : Transfer),
      s.Hears f false →
      f.target.toNat < 4 →
      (s.inc (Obj.KDAP_RX u)).kdapTarget u f = some t →
      (((s.inc (Obj.KDAP_RX u)).getDict u.code).transfer f.src f.transId) = some x →
      x.write = false →
      x.inOrder ≤ f.param →
      f.param ≤ x.sent →
      x.segments ≤ f.param →
      exec (.segmentAcknowledge u f) s =
      .next ((s.inc (Obj.KDAP_RX u)).modDict u.code (fun d => d.endTransfer f.src f.transId))) ∧
  (∀ (s : State) (u : UnitId) (f : KdapFrame),
      s.Hears f false →
      exec (.kdapAbort u f) s = .next ((s.inc (Obj.KDAP_RX u)).modDict u.code (fun d => d.endTransfer f.src f.transId))) ∧
  (∀ (s : State) (u : UnitId) (n m : Nat) (x : Transfer),
      (s.getDict u.code).transfer n m = some x →
      x.write = false →
      x.waitFrom + 50000 ≤ s.now →
      x.tries < 3 →
      exec (.kdapRetransmitTimeout u n m) s = .next (s.sendWindow u { x with tries := x.tries + 1 } x.inOrder)) ∧
  (∀ (s : State) (u : UnitId) (n m : Nat) (x : Transfer),
      (s.getDict u.code).transfer n m = some x →
      x.write = false →
      x.waitFrom + 50000 ≤ s.now →
      3 ≤ x.tries →
      exec (.kdapRetransmitTimeout u n m) s = .next (s.timeoutTransfer u x)) ∧
  (∀ (s : State) (u : UnitId) (n m : Nat) (x : Transfer),
      (s.getDict u.code).transfer n m = some x →
      x.frameAt + 500000 ≤ s.now →
      exec (.kdapTransferTimeout u n m) s =
      .next (((s.modDict u.code (fun d => d.endTransfer x.src x.transId)).kdapSend
        { unit := u, dest := x.src, service := 0x07, transId := x.transId, index := x.index, sub := x.sub, param := 0x0C }).inc
          (Obj.KDAP_ABORTS u)))

/-- A broadcast read that discovers is kept and, after a millisecond for each node number, answered to its requester; another
broadcast is not; a heartbeat is sent each HB_PERIOD that is not 0, and one from another address with the own node number is a
conflict; a sync is latched and its follow-up sets the offset and the state; ten seconds without a new pair hold the state; a
beacon makes PLCA active; a reserved EtherType is refused. -/
def Obligations.DiscoveryHeartbeatsAndTime : Prop :=
  (∀ (s : State) (u : UnitId) (f : KdapFrame) (t r : State) (d : List Byte),
      s.mode.cur ≠ .switchover →
      s.kdapUp = true →
      (s.getDict u.code).found.any (fun e => e.1 == f && decide (e.2 + 1000 * s.nodeId u ≤ s.now)) = true →
      t = s.modDict u.code (fun d => { d with found := d.found.filter (fun e => e.1 != f) }) →
      (t.dictRead (.kdap f.src) u f.index f.sub).takeAnswer = (r, 0, d) →
      exec (.discoveryAnswer u f) s = .next (r.kdapSend (f.reply u 0x81 d.length d))) ∧
  (∀ (s : State) (u : UnitId) (f : KdapFrame),
      f.broadcast = true →
      f.discovers = false →
      exec (.expeditedRead u f) s = .next s) ∧
  (∀ (s : State) (u : UnitId) (f : KdapFrame),
      (s.getDict u.code).found = [] →
      exec (.discoveryAnswer u f) s = .next s) ∧
  (∀ (s : State) (u : UnitId),
      s.kdapUp = true →
      s.rd Obj.HB_PERIOD ≠ 0 →
      (s.getDict u.code).beatAt + 1000 * s.rd Obj.HB_PERIOD ≤ s.now →
      exec (.heartbeat u) s =
      .next (((s.modDict u.code (fun d => { d with beatAt := s.now })).kdapSend
        { unit := u, dest := s.rd Obj.HB_DEST_MAC, service := 0x11, data := s.heartbeatData u }).inc Obj.HB_SENT)) ∧
  (∀ (s : State) (u : UnitId),
      s.rd Obj.HB_PERIOD = 0 →
      exec (.heartbeat u) s = .next s) ∧
  (∀ (s : State) (u : UnitId) (n m : Nat),
      s.kdapUp = true →
      m = s.nodeId u →
      n ≠ macOf u →
      exec (.heartbeatReceived u n m) s = .next ((s.inc (Obj.PLCA_CONFLICTS u)).logFirmware u advisory)) ∧
  (∀ (s : State) (u : UnitId) (f : KdapFrame) (n : Nat),
      s.Hears f true →
      (s.inc (Obj.KDAP_RX u)).masterOk f.src = true →
      exec (.timeSync u f n) s =
      .next ((s.inc (Obj.KDAP_RX u)).modDict u.code (fun d => { d with sync := some (f.src, f.transId, 1000 * (s.inc (Obj.KDAP_RX u)).now + n % 1000 / 20 * 20) }))) ∧
  (∀ (s : State) (u : UnitId) (f : KdapFrame) (n : Nat),
      s.Hears f true →
      ((s.inc (Obj.KDAP_RX u)).getDict u.code).sync = some (f.src, f.transId, n) →
      exec (.timeFollowUp u f) s =
      .next ((s.inc (Obj.KDAP_RX u)).modDict u.code (fun d => { d with
        sync := none, timeOffset := (leNat f.body : Int) - (n : Int), timeState := 1, pairAt := (s.inc (Obj.KDAP_RX u)).now }))) ∧
  (∀ (s : State) (u : UnitId) (f : KdapFrame),
      s.Hears f true →
      ((s.inc (Obj.KDAP_RX u)).getDict u.code).sync = none →
      exec (.timeFollowUp u f) s = .next (s.inc (Obj.KDAP_RX u))) ∧
  (∀ (s : State) (u : UnitId),
      exec (.timeHoldExpiry u) s =
      .next (s.modDict u.code (fun d => if d.timeState = 1 ∧ d.pairAt + 10000000 ≤ s.now then { d with timeState := 2 } else d))) ∧
  (∀ (s : State) (u : UnitId) (b : Bool),
      exec (.plcaBeacon u b) s = .next (s.modDict u.code (fun d => { d with beacon := b }))) ∧
  (∀ (s : State) (q : Requester) (u : UnitId) (v : BitVec 16),
      s.Accepts q u Obj.KDAP_ETHERTYPE (leBytes 2 v.toNat) →
      reservedEtherType v.toNat = false →
      exec (.kdapEthertypeWrite q u v) s = .next ((s.save Obj.KDAP_ETHERTYPE v.toNat).answer q 0)) ∧
  (∀ (s : State) (q : Requester) (u : UnitId) (v : BitVec 16),
      s.Accepts q u Obj.KDAP_ETHERTYPE (leBytes 2 v.toNat) →
      reservedEtherType v.toNat = true →
      exec (.kdapEthertypeWrite q u v) s = .next (s.answer q 0x09))

/-- An access that fails a check of R561 is answered with its code and changes nothing; a write that passes puts the value,
stages it if persistent, and does what follows; a write of an object with a command of its own is that command; in Switchover
the access waits; RESTORE_DEFAULTS puts every persistent object back. The admin commands read and write the objects of the
unit TARGET names, or of another module by DICT, which fails with 0Dh while it is out of reach, and a request is served and
answered. -/
def Obligations.DictionaryWritesAndReads : Prop :=
  (∀ (s : State) (q : Requester) (u : UnitId) (i j : Nat) (d : List Byte) (r : ObjRow) (e : Nat),
      s.mode.cur ≠ .switchover →
      objLookup i j = some (some r) →
      s.writeErr u i j q d = e →
      e ≠ 0 →
      ownRefusal r.idx j e = false →
      exec (.registerWrite q u i j d) s = .next ((s.answer q e).settle)) ∧
  (∀ (s : State) (q : Requester) (u : UnitId) (i j : Nat) (d : List Byte),
      s.mode.cur ≠ .switchover →
      objLookup i j = none →
      exec (.registerWrite q u i j d) s = .next ((s.answer q 0x01).settle)) ∧
  (∀ (s : State) (q : Requester) (u : UnitId) (i j : Nat) (d : List Byte),
      s.mode.cur ≠ .switchover →
      objLookup i j = some none →
      exec (.registerWrite q u i j d) s = .next ((s.answer q 0x02).settle)) ∧
  (∀ (s : State) (q : Requester) (u : UnitId) (i j : Nat) (d : List Byte) (r : ObjRow),
      s.mode.cur ≠ .switchover →
      objLookup i j = some (some r) →
      s.writeErr u i j q d = 0 →
      s.cmdWrite q u r.idx i j d = none →
      r.ty.numeric = true →
      (if r.idx / 4096 = 3 then State.rulePort (leNat d) r.idx j d else s.ruleUnit u (leNat d) r.idx i j d) = 0 →
      exec (.registerWrite q u i j d) s =
      .next (((s.numberDo u (objKey u i j r) r (leNat d) r.idx i j).answer q 0).settle)) ∧
  (∀ (s : State) (q : Requester) (u : UnitId) (i j : Nat) (d : List Byte) (r : ObjRow) (e : Nat),
      s.mode.cur ≠ .switchover →
      objLookup i j = some (some r) →
      s.writeErr u i j q d = 0 →
      s.cmdWrite q u r.idx i j d = none →
      (if r.idx / 4096 = 3 then State.rulePort (leNat d) r.idx j d else s.ruleUnit u (leNat d) r.idx i j d) = e →
      e ≠ 0 →
      exec (.registerWrite q u i j d) s = .next ((s.answer q e).settle)) ∧
  (∀ (s : State) (q : Requester) (u : UnitId) (i j : Nat) (d : List Byte) (r : ObjRow) (o : Host.Outcome State Fault Refusal),
      s.mode.cur ≠ .switchover →
      objLookup i j = some (some r) →
      s.writeErr u i j q d = 0 →
      s.cmdWrite q u r.idx i j d = some o →
      exec (.registerWrite q u i j d) s = .next (nextOf s o).settle) ∧
  (∀ (s : State) (q : Requester) (u : UnitId) (i j : Nat) (d : List Byte),
      s.mode.cur = .switchover →
      (i ≠ 0x1101 ∨ j ≠ 0) →
      exec (.registerWrite q u i j d) s = .next (({ s with accHeld := s.accHeld ++ [.write q u i j d] } : State).settle)) ∧
  (∀ (s : State) (q : Requester) (u : UnitId),
      s.Accepts q u Obj.RESTORE_DEFAULTS [0x5A] →
      exec (.restoreDefaults q u 0x5A) s =
      .next ((s.restoreDefaults.restoreEffects.answer q 0).settle)) ∧
  (∀ (s r : State) (t : CmdTag)(m : Nat) (y : BitVec 2) (u : UnitId) (i j : Nat) (d : List Byte) (x : State) (e : Nat) (z : List Byte),
      s.Begins t 0 →
      r = (s.fetch t 0).1.modCmd t (fun c => { c with kind := .admin }) →
      r.ownModule m = true →
      r.targetUnit t.ctrl y = some u →
      (r.dictWrite (.inband t.ctrl) u i j d).takeAnswer = (x, e, z) →
      exec (.dictionaryWrite t m y i j d) s =
      .next ((x.dictEnd t e d.length []).settle)) ∧
  (∀ (s r : State) (t : CmdTag)(m : Nat) (y : BitVec 2) (u : UnitId) (i j o l : Nat) (x : State) (d : List Byte),
      s.Begins t 0 →
      r = (s.fetch t 0).1.modCmd t (fun c => { c with kind := .admin }) →
      r.ownModule m = true →
      r.targetUnit t.ctrl y = some u →
      (r.dictRead (.inband t.ctrl) u i j).takeAnswer = (x, 0, d) →
      exec (.dictionaryRead t m y i j o l) s =
      .next ((x.dictEnd t (readPart i j o l d).1 d.length (readPart i j o l d).2).settle)) ∧
  (∀ (s r : State) (t : CmdTag)(m : Nat) (y : BitVec 2) (i j o l : Nat),
      s.Begins t 0 →
      r = (s.fetch t 0).1.modCmd t (fun c => { c with kind := .admin }) →
      r.ownModule m = false →
      r.moduleUp m = false →
      exec (.dictionaryRead t m y i j o l) s =
      .next ((r.dictEnd t 0x0D 0 []).settle)) ∧
  (∀ (s r : State) (t : CmdTag)(m : Nat) (y : BitVec 2) (i j : Nat) (d : List Byte),
      s.Begins t 0 →
      r = (s.fetch t 0).1.modCmd t (fun c => { c with kind := .admin }) →
      r.ownModule m = false →
      r.moduleUp m = true →
      exec (.dictionaryWrite t m y i j d) s =
      .next ((let k := r.casc.nextTag
       let x := { r with casc := { r.casc with nextTag := k + 1 } }
       (x.modCmd t (fun h => { h with kind := .forwarded, target := some m, fwdTag := k, off := 0, limit := 0, slot := 256 * i + j, action := 2 })).send
         (.dictReq true t.ctrl y i j d) m k).settle)) ∧
  (∀ (s : State) (m k : Nat) (b : Bool) (v u : UnitId) (y : BitVec 2) (i j : Nat) (d : List Byte) (r : State) (e : Nat) (z : List Byte),
      s.casc.number.isSome = true →
      s.mode.cur ≠ .switchover →
      s.targetUnit ((s.hopUnit 0).getD s.pair.active) y = some u →
      (if b then s.dictWrite (.inband v) u i j d else s.dictRead (.inband v) u i j).takeAnswer = (r, e, z) →
      exec (.dict m k (.dictReq b v y i j d)) s =
      .next ((r.send (.dictRsp e (if b then leBytes 4 d.length else z)) m k).settle)) ∧
  (∀ (s : State) (m k e : Nat) (d : List Byte) (c : HostCmd),
      s.dictForwarded m k = some c →
      e = 0 →
      c.action = 2 →
      exec (.dict m k (.dictRsp e d)) s = .next ((s.dictEnd c.tag 0 (leNat (d.take 4)) []).settle))

/-- Staged settings are saved while VIN12 is in window and SETTINGS_GEN counts; the timestamp is saved once the time base is
set; a challenge is drawn, a right response opens a session, a wrong one gets 06h and is counted, one without a challenge 09h;
a session closes or expires; a locked-out requester gets 0Ah. A fuse write is carried out in both arrays, refused without
VIN12 or a ready standby; a key once provisioned and a version never fall back. Challenges and the manufactured version are
free values (log entries 8 and 28). -/
def Obligations.SettingsSessionsAndFuses : Prop :=
  (∀ (s : State) (u : UnitId) (k : Nat),
      s.sup.vin12 = true →
      s.mode.served = true →
      (s.unitSt u).inReset = false →
      k ∈ (s.getSet u.code).staged →
      exec (.settingsSave u) s =
      (let t := s.getSet u.code
       let ks := t.staged ++ t.held.filter (fun k => !t.staged.contains k)
       .next ((s.modSet u.code (fun t => { t with
         saved := ks.foldl (fun m k => mapPut objDefault m k (s.rd k)) t.saved
         savedBlob := ks.foldl (fun m k => mapPut (fun _ => []) m k (s.rdBlob k)) t.savedBlob
         savedKeys := t.savedKeys ++ ks.filter (fun k => !t.savedKeys.contains k), staged := [], held := [] })).inc Obj.SETTINGS_GEN))) ∧
  (∀ (s : State) (u : UnitId),
      (s.getSet u.code).savedTime.all (fun t => decide (t + 10000000 ≤ s.now)) = true →
      s.sup.vin12 = true →
      s.rd (Obj.TIME_BASE_STATE u) = 1 →
      exec (.timestampSave u) s = .next (s.modSet u.code (fun t => { t with savedTime := some s.now }))) ∧
  (∀ (s : State) (q : Requester) (u : UnitId),
      s.mode.cur ≠ .switchover →
      s.readErr 0x1020 0 q = 0 →
      (s.getDict u.code).lockedOut q s.now = false →
      exec (.authChallengeRead q u) s =
      .next ((s.random16.2.modDict u.code (fun d =>
        { d.forget q with challenges := (q, s.random16.1, s.random16.2.now) :: (d.forget q).challenges })).answer q 0 s.random16.1)) ∧
  (∀ (s : State) (q : Requester) (u : UnitId),
      s.mode.cur ≠ .switchover →
      s.readErr 0x1020 0 q = 0 →
      (s.getDict u.code).lockedOut q s.now = true →
      exec (.authChallengeRead q u) s = .next (s.answer q 0x0A)) ∧
  (∀ (s : State) (q : Requester) (u : UnitId) (d k c : List Byte),
      s.mode.cur ≠ .switchover →
      s.writeErr u 0x1020 1 q d = 0 →
      (s.getDict u.code).challengeOf q s.now = some c →
      (s.getFuse u.code).mgmtKey = some k →
      d = authResponse k c q →
      ((s.getDict u.code).sessions.filter (fun e => e.1 != q && decide (s.now < e.2))).length < 8 →
      exec (.authResponseWrite q u d) s =
      .next (((s.modDict u.code (fun d => d.forget q)).modDict u.code (fun x =>
        { x with sessions := (q, s.now + 1000000 * s.rd (Obj.AUTH_WINDOW u)) :: (s.getDict u.code).sessions.filter (fun e => e.1 != q && decide (s.now < e.2)) })).answer q 0)) ∧
  (∀ (s : State) (q : Requester) (u : UnitId) (d k c : List Byte),
      s.mode.cur ≠ .switchover →
      s.writeErr u 0x1020 1 q d = 0 →
      (s.getDict u.code).challengeOf q s.now = some c →
      (s.getFuse u.code).mgmtKey = some k →
      d ≠ authResponse k c q →
      exec (.authResponseWrite q u d) s =
      .next (((s.modDict u.code (fun d => d.forget q)).authWrong q u).answer q 0x06)) ∧
  (∀ (s : State) (q : Requester) (u : UnitId) (d : List Byte),
      s.mode.cur ≠ .switchover →
      s.writeErr u 0x1020 1 q d = 0 →
      (s.getDict u.code).challengeOf q s.now = none →
      exec (.authResponseWrite q u d) s = .next (s.answer q 0x09)) ∧
  (∀ (s : State) (q : Requester) (u : UnitId) (v : BitVec 8),
      s.Accepts q u (Obj.AUTH_CLOSE u) (leBytes 1 v.toNat) →
      exec (.authClose q u v) s =
      .next ((s.modDict u.code (fun d => { d with sessions := d.sessions.filter (fun e => e.1 != q) })).answer q 0)) ∧
  (∀ (s : State) (q : Requester) (u : UnitId),
      exec (.authWindowExpiry q u) s =
      .next (s.modDict u.code (fun d => { d with sessions := d.sessions.filter (fun e => e.1 != q || decide (s.now < e.2)) }))) ∧
  (∀ (s : State) (q : Requester) (u : UnitId),
      exec (.authLockoutExpiry q u) s =
      .next (s.modDict u.code (fun d => { d with locked := d.locked.filter (fun e => e.1 != q || decide (s.now < e.2)) }))) ∧
  (∀ (s : State) (q : Requester) (u : UnitId),
      (s.getDict u.code).challengeOf q s.now = none →
      exec (.authChallengeExpiry q u) s =
      .next (s.modDict u.code (fun d => { d with challenges := d.challenges.filter (fun c => c.1 != q) }))) ∧
  (∀ (s : State) (q : Requester) (u : UnitId) (c : List Byte),
      (s.getDict u.code).challengeOf q s.now = some c →
      exec (.authChallengeExpiry q u) s = .next s) ∧
  (∀ (s : State) (q : Requester) (u : UnitId) (a b : Bool),
      s.mode.cur ≠ .switchover →
      s.writeErr u 0x5F00 1 q [0xA5] = 0 →
      s.fuseRefusal = none →
      exec (.mondisBlow q u 0xA5 a b) s =
      (let t := (s.fuseProgram u a b (fun f => { f with mondis := true })).answer q 0
       .next (if (t.getFuse 0).mondis || (t.getFuse 1).mondis then { t with mon := {} } else t))) ∧
  (∀ (s : State) (q : Requester) (u : UnitId) (a b : Bool),
      s.mode.cur ≠ .switchover →
      s.writeErr u 0x5F00 1 q [0xA5] = 0 →
      s.sup.vin12 = false →
      (s.getFuse 0).mondis = false →
      (s.getFuse 1).mondis = false →
      exec (.mondisBlow q u 0xA5 a b) s = .next ((s.wr (Obj.FUSE_RESULT u) 5).answer q 0x0E)) ∧
  (∀ (s : State) (q : Requester) (u : UnitId) (v : BitVec 32) (a b : Bool),
      s.mode.cur ≠ .switchover →
      s.writeErr u 0x5F00 3 q (leBytes 4 v.toNat) = 0 →
      s.fuseRefusal = none →
      s.minSvn u < v.toNat →
      v.toNat ≤ s.rd (Obj.FW_SVN u) →
      exec (.fwMinSvnWrite q u v a b) s =
      .next ((s.fuseProgram u a b (fun f => { f with minSvn := some (max f.svn v.toNat) })).answer q 0)) ∧
  (∀ (s : State) (q : Requester) (u : UnitId) (v : BitVec 32) (a b : Bool),
      s.mode.cur ≠ .switchover →
      s.writeErr u 0x5F00 3 q (leBytes 4 v.toNat) = 0 →
      v.toNat = s.minSvn u →
      exec (.fwMinSvnWrite q u v a b) s = .next ((s.wr (Obj.FUSE_RESULT u) 2).answer q 0)) ∧
  (∀ (s : State) (q : Requester) (u : UnitId) (d : List Byte) (a b : Bool) (r : ObjRow),
      s.mode.cur = .maintenance →
      (s.getFuse u.code).mgmtKey = none →
      objLookup 0x5F00 4 = some (some r) →
      s.modeErr 0x5F00 4 r q true = 0 →
      d.length = 32 →
      s.fuseRefusal = none →
      exec (.mgmtKeyWrite q u d a b) s =
      .next ((s.fuseProgram u a b (fun f => { f with mgmtKey := f.mgmtKey.or (some d) })).answer q 0)) ∧
  (∀ (s : State) (q : Requester) (u : UnitId) (d : List Byte) (a b : Bool),
      s.mode.cur ≠ .switchover →
      s.writeErr u 0x5F00 5 q d = 0 →
      (s.getFuse u.code).erKey = none →
      s.fuseRefusal = none →
      exec (.erKeyWrite q u d a b) s =
      .next ((s.fuseProgram u a b (fun f => { f with erKey := f.erKey.or (some d) })).answer q 0)) ∧
  (∀ (s : State) (q : Requester) (u : UnitId) (d : List Byte) (a b : Bool) (k : List Byte),
      s.mode.cur ≠ .switchover →
      s.writeErr u 0x5F00 5 q d = 0 →
      (s.getFuse u.code).erKey = some k →
      s.fuseRefusal = none →
      exec (.erKeyWrite q u d a b) s = .next ((s.wr (Obj.FUSE_RESULT u) 2).answer q 0x09))

/-- A faulty line is counted and answered with ERR; a well-formed line is counted and answered with its output and OK or ERR,
or with ERR 06h while the monitor is locked; peek, poke and dump access the object by R561; records are printed, and status
objects traced; journal flash pages are read; a challenge is drawn and a response judged; a listed rate takes effect, and
falls back when no character proves it; MONDIS ends the monitor. Line framing is the sender's. -/
def Obligations.MonitorLines : Prop :=
  (∀ (s : State) (w : List Byte),
      s.monUp = true →
      200 < w.length →
      exec (.monLine w 0) s = .next (s.lineIn.monEnd 0x0F)) ∧
  (∀ (s : State) (w : List Byte),
      s.monUp = true →
      w.length ≤ 200 →
      (lineWords w).isEmpty = true →
      exec (.monLine w 0) s = .next s.monChar) ∧
  (∀ (s : State) (w : List Byte) (c : Nat),
      s.monUp = true →
      w.length ≤ 200 →
      (lineWords w).isEmpty = false →
      lineCall (linePrefix w).1 (linePrefix w).2 = .err c →
      exec (.monLine w 0) s = .next (s.lineIn.monEnd c)) ∧
  (∀ (s : State) (w : List Byte) (f : State → Host.Outcome State Fault Refusal),
      s.monUp = true →
      w.length ≤ 200 →
      (lineWords w).isEmpty = false →
      lineCall (linePrefix w).1 (linePrefix w).2 = .run f →
      exec (.monLine w 0) s = f s) ∧
  (∀ (s : State),
      s.monUp = true →
      exec (.monLine (ascii "help") 0) s = exec .monHelp s ∧
      exec (.monLine (ascii "@b id") 0) s = exec (.monId (.unit .B)) s ∧
      exec (.monLine (ascii "peek 3350h.00") 0) s = exec (.monPeek .serving 0x3350 0) s ∧
      exec (.monLine (ascii "@a poke 1001h.03 7") 0) s = exec (.monPoke (.unit .A) 0x1001 3 [7]) s ∧
      exec (.monLine (ascii "dump 9020h.08 16 1Fh") 0) s = exec (.monDump .serving 0x9020 8 16 (some 31)) s ∧
      exec (.monLine (ascii "mode") 0) s = exec (.monMode none) s ∧
      exec (.monLine (ascii "mode 2h") 0) s = exec (.monMode (some 2)) s ∧
      exec (.monLine (ascii "ev") 0) s = exec (.monEv .serving 8) s ∧
      exec (.monLine (ascii "ev from 12") 0) s = exec (.monEvFrom .serving 12) s ∧
      exec (.monLine (ascii "ev tail") 0) s = exec (.monEvTail .serving) s ∧
      exec (.monLine (ascii "trace off") 0) s = exec .monTraceOff s ∧
      exec (.monLine (ascii "trace 5000h.00") 0) s = exec (.monTrace .serving 0x5000 0) s ∧
      exec (.monLine (ascii "seq regs 5") 0) s = exec (.monSeqRegs .serving 5) s ∧
      exec (.monLine (ascii "jf status 4") 0) s = exec (.monJfStatus .serving 4) s ∧
      exec (.monLine (ascii "auth 00ff") 0) s = exec (.monAuthResponse .serving [0, 0xFF]) s ∧
      exec (.monLine (ascii "baud 921600") 0) s = exec (.monBaud 921600) s) ∧
  (∀ (s : State) (w : List Byte) (n : Nat),
      s.monUp = true →
      n ≠ 0 →
      exec (.monLine w n) s =
      .next ((s.add (Obj.MON_DROPPED s.pair.active) n).lineErr 0x0F)) ∧
  (∀ (s : State) (w : List Byte) (n : Nat),
      s.monUp = false →
      exec (.monLine w n) s = .next s) ∧
  (∀ (s : State) (m : MonUnit),
      s.RunsLine s.lineIn true →
      s.lineIn.monReach m = false →
      exec (.monId m) s = .next ((s.lineIn.monPrint []).monEnd 0x0D)) ∧
  (∀ (s : State),
      s.monUp = true →
      s.rd (Obj.MON_LOCK s.pair.active) = 1 →
      s.session s.pair.active .monitor = false →
      exec .monTraceOff s = .next (s.lineIn.monEnd 0x06)) ∧
  (∀ (s : State),
      s.RunsLine s.lineIn true →
      exec .monHelp s = .next ((s.lineIn.monPrint [.help]).monEnd 0)) ∧
  (∀ (s : State) (m : MonUnit),
      s.RunsLine s.lineIn true →
      s.lineIn.monReach m = true →
      exec (.monId m) s = .next ((s.lineIn.monPrint ((List.range 11).map (fun j =>
        MonOut.value 0x1000 j (s.lineIn.liveBytes (s.lineIn.monUnit m) 0x1000 j)) ++
       [.value 0x1100 0 (s.lineIn.liveBytes (s.lineIn.monUnit m) 0x1100 0), .value 0x1200 3 (s.lineIn.liveBytes (s.lineIn.monUnit m) 0x1200 3)])).monEnd 0)) ∧
  (∀ (s : State) (m : MonUnit) (i j : Nat) (r : State) (d : List Byte),
      s.mode.cur ≠ .switchover →
      (s.RunsLine r (decide (0x1000 ≤ i ∧ i ≤ 0x10FF))) →
      (s.lineIn.dictRead .monitor (s.lineIn.monUnit m) i j).takeAnswer = (r, 0, d) →
      s.lineIn.monReach m = true →
      exec (.monPeek m i j) s = .next ((r.monPrint [.value i j d]).monEnd 0)) ∧
  (∀ (s : State) (m : MonUnit) (i j e : Nat) (r : State) (d : List Byte),
      s.mode.cur ≠ .switchover →
      (s.RunsLine r (decide (0x1000 ≤ i ∧ i ≤ 0x10FF))) →
      (s.lineIn.dictRead .monitor (s.lineIn.monUnit m) i j).takeAnswer = (r, e, d) →
      e ≠ 0 →
      s.lineIn.monReach m = true →
      exec (.monPeek m i j) s = .next ((r.monPrint []).monEnd e)) ∧
  (∀ (s : State) (m : MonUnit) (i j e : Nat) (d z : List Byte) (r : State),
      s.mode.cur ≠ .switchover →
      s.RunsLine r false →
      d.length ≤ 64 →
      (s.lineIn.dictWrite .monitor (s.lineIn.monUnit m) i j d).takeAnswer = (r, e, z) →
      s.lineIn.monReach m = true →
      exec (.monPoke m i j d) s = 
      .next (((r.monPrint []).monEnd e).settle)) ∧
  (∀ (s : State) (m : MonUnit) (i j o : Nat) (l : Option Nat) (part : List Byte) (r : State) (d : List Byte),
      s.mode.cur ≠ .switchover →
      s.RunsLine r false →
      (s.lineIn.dictRead .monitor (s.lineIn.monUnit m) i j).takeAnswer = (r, 0, d) →
      part = (match l with | some n => (d.drop o).take n | none => d.drop o) →
      part.length ≤ 65536 →
      s.lineIn.monReach m = true →
      exec (.monDump m i j o l) s = .next ((r.monPrint [.dump o part]).monEnd 0)) ∧
  (∀ (s : State),
      s.mode.cur ≠ .switchover →
      s.RunsLine s.lineIn false →
      exec (.monMode none) s = .next ((s.lineIn.monPrint [.mode s.lineIn.mode.cur.code]).monEnd 0)) ∧
  (∀ (s : State) (c : BitVec 8) (e : Nat) (r : State) (d : List Byte),
      s.mode.cur ≠ .switchover →
      s.RunsLine r false →
      (s.lineIn.dictWrite .monitor s.lineIn.pair.active 0x1101 0 [c]).takeAnswer = (r, e, d) →
      exec (.monMode (some c)) s = .next ((r.monPrint []).monEnd e)) ∧
  (∀ (s : State) (m : MonUnit) (n : Nat),
      s.RunsLine s.lineIn false →
      n ≠ 0 →
      s.lineIn.monReach m = true →
      exec (.monEv m n) s = .next ((s.lineIn.monPrint ((s.lineIn.getEr (s.lineIn.monUnit m).code).printed (max (s.lineIn.getEr (s.lineIn.monUnit m).code).oldest
       ((s.lineIn.getEr (s.lineIn.monUnit m).code).next - n)) (s.lineIn.getEr (s.lineIn.monUnit m).code).next)).monEnd 0)) ∧
  (∀ (s : State) (m : MonUnit) (n : Nat),
      s.RunsLine s.lineIn false →
      n < (s.lineIn.getEr (s.lineIn.monUnit m).code).next →
      s.lineIn.monReach m = true →
      exec (.monEvFrom m n) s = .next ((s.lineIn.monPrint ((s.lineIn.getEr (s.lineIn.monUnit m).code).printed (max (s.lineIn.getEr (s.lineIn.monUnit m).code).oldest n)
       (s.lineIn.getEr (s.lineIn.monUnit m).code).next)).monEnd 0)) ∧
  (∀ (s : State) (m : MonUnit),
      s.RunsLine ({ s.lineIn with mon := { s.lineIn.mon with tail := some (s.lineIn.monUnit m) } } : State) false →
      s.lineIn.monReach m = true →
      exec (.monEvTail m) s = .next ((({ s.lineIn with mon := { s.lineIn.mon with tail := some (s.lineIn.monUnit m) } } : State).monPrint []).monEnd 0)) ∧
  (∀ (s : State) (m : MonUnit) (i j : Nat) (x : Site),
      s.RunsLine ({ s.lineIn with mon := { s.lineIn.mon with traces := x.key :: s.lineIn.mon.traces } } : State) false →
      siteAt (s.lineIn.monUnit m) i j = some x →
      s.lineIn.mon.traces.contains x.key = false →
      s.lineIn.mon.traces.length < 8 →
      s.lineIn.monReach m = true →
      exec (.monTrace m i j) s = .next ((({ s.lineIn with mon := { s.lineIn.mon with traces := x.key :: s.lineIn.mon.traces } } : State).monPrint []).monEnd 0)) ∧
  (∀ (s : State),
      s.RunsLine ({ s.lineIn with mon := { s.lineIn.mon with traces := [] } } : State) false →
      exec .monTraceOff s = .next ((({ s.lineIn with mon := { s.lineIn.mon with traces := [] } } : State).monPrint []).monEnd 0)) ∧
  (∀ (s : State) (m : MonUnit) (k : Nat) (u : UnitId) (r : State),
      s.mode.cur ≠ .switchover →
      s.RunsLine r false →
      u = s.lineIn.monUnit m →
      s.lineIn.writeErr u 0x4201 0 .monitor [1] = 0 →
      r = s.lineIn.jfRun u .management 6 (jfAddress k 0) true (fun s => (s, swDone, [])) →
      s.lineIn.monReach m = true →
      exec (.monJfStatus m k) s = .next ((r.monPrint [.status (r.rd (Obj.JF_STATUS_WORD u)) (r.getJf u.code).mgmtData]).monEnd 0)) ∧
  (∀ (s : State) (m : MonUnit) (k n e : Nat) (u : UnitId) (r : State),
      s.mode.cur ≠ .switchover →
      s.RunsLine r false →
      u = s.lineIn.monUnit m →
      s.lineIn.writeErr u 0x4201 0 .monitor [1] = 0 →
      n ≤ 255 →
      r = s.lineIn.readPage u .management (jfAddress k n) e →
      s.lineIn.monReach m = true →
      exec (.monJfRead m k n e) s = .next ((r.monPrint [.status (r.rd (Obj.JF_STATUS_WORD u)) (r.getJf u.code).mgmtData]).monEnd 0)) ∧
  (∀ (s : State) (m : MonUnit),
      s.mode.cur ≠ .switchover →
      s.RunsLine s.lineIn false →
      s.lineIn.readErr 0x4200 2 .monitor = 0 →
      s.lineIn.monReach m = true →
      exec (.monJfCounters m) s = .next ((s.lineIn.monPrint ((List.range 12).map (fun k =>
       MonOut.value 0x4200 (k + 2) (s.lineIn.liveBytes (s.lineIn.monUnit m) 0x4200 (k + 2))))).monEnd 0)) ∧
  (∀ (s : State) (m : MonUnit) (r : State) (d : List Byte),
      s.mode.cur ≠ .switchover →
      s.RunsLine r true →
      (s.lineIn.authChallenge .monitor (s.lineIn.monUnit m)).takeAnswer = (r, 0, d) →
      s.lineIn.monReach m = true →
      exec (.monAuth m) s = .next ((r.monPrint [.challenge d]).monEnd 0)) ∧
  (∀ (s : State) (m : MonUnit) (k : List Byte) (e : Nat) (r : State) (d : List Byte),
      s.mode.cur ≠ .switchover →
      s.RunsLine r true →
      (s.lineIn.authRespond .monitor (s.lineIn.monUnit m) k).takeAnswer = (r, e, d) →
      s.lineIn.monReach m = true →
      exec (.monAuthResponse m k) s = .next ((r.monPrint []).monEnd e)) ∧
  (∀ (s : State) (n : Nat),
      s.RunsLine ({ s.lineIn.wr (Obj.MON_BAUD s.lineIn.pair.active) n with mon := { s.lineIn.mon with rateSince := some s.lineIn.now } } : State) false →
      monRates.contains n = true →
      exec (.monBaud n) s = .next ((({ s.lineIn.wr (Obj.MON_BAUD s.lineIn.pair.active) n with mon := { s.lineIn.mon with rateSince := some s.lineIn.now } } : State).monPrint []).monEnd 0)) ∧
  (∀ (s : State) (n : Nat),
      s.RunsLine s.lineIn false →
      monRates.contains n = false →
      exec (.monBaud n) s = .next ((s.lineIn.monPrint []).monEnd 0x07)) ∧
  (∀ (s : State) (t : Nat),
      s.mon.rateSince = some t →
      t + 10000000 ≤ s.now →
      exec .baudRevert s =
      .next { s.wr (Obj.MON_BAUD s.pair.active) 115200 with mon := { s.mon with rateSince := none } }) ∧
  (∀ (s : State),
      s.mon.rateSince = none →
      exec .baudRevert s = .next s)

/-- In Maintenance, while the executing plan of the actuator allows it, seq halt stops a sequencer at its next word, seq step
carries out n words of a halted one, seq run lets it go on, and seq regs prints G0-G31 and the word address; outside
Maintenance ERR 05h, without such a plan or for a step of one that is not halted ERR 09h. -/
def Obligations.MonitorOfSequencers : Prop :=
  (∀ (s : State) (m : MonUnit) (k : Nat),
      s.RunsLine (s.lineIn.modSeq (seqIdOf (s.lineIn.monUnit m) k).key (fun e => { e with halted := true })) false →
      k < 64 →
      s.lineIn.mode.cur = .maintenance →
      s.lineIn.rawPlan (seqIdOf (s.lineIn.monUnit m) k) = true →
      s.lineIn.monReach m = true →
      exec (.monSeqHalt m k) s = .next (((s.lineIn.modSeq (seqIdOf (s.lineIn.monUnit m) k).key (fun e => { e with halted := true })).monPrint []).monEnd 0)) ∧
  (∀ (s : State) (m : MonUnit) (k : Nat),
      s.RunsLine (s.lineIn.modSeq (seqIdOf (s.lineIn.monUnit m) k).key (fun e => { e with halted := false })) false →
      k < 64 →
      s.lineIn.mode.cur = .maintenance →
      s.lineIn.rawPlan (seqIdOf (s.lineIn.monUnit m) k) = true →
      s.lineIn.monReach m = true →
      exec (.monSeqRun m k) s = .next (((s.lineIn.modSeq (seqIdOf (s.lineIn.monUnit m) k).key (fun e => { e with halted := false })).monPrint []).monEnd 0)) ∧
  (∀ (s : State) (m : MonUnit) (k : Nat) (n : Nat),
      s.RunsLine (s.lineIn.seqSteps (seqIdOf (s.lineIn.monUnit m) k) n) false →
      k < 64 →
      s.lineIn.mode.cur = .maintenance →
      s.lineIn.rawPlan (seqIdOf (s.lineIn.monUnit m) k) = true →
      (s.lineIn.getSeq (seqIdOf (s.lineIn.monUnit m) k).key).halted = true →
      s.lineIn.monReach m = true →
      exec (.monSeqStep m k n) s = 
      .next (((s.lineIn.seqSteps (seqIdOf (s.lineIn.monUnit m) k) n).monPrint []).monEnd 0).grave) ∧
  (∀ (s : State) (m : MonUnit) (k : Nat) (n : Nat),
      s.RunsLine s.lineIn false →
      k < 64 →
      s.lineIn.mode.cur = .maintenance →
      s.lineIn.rawPlan (seqIdOf (s.lineIn.monUnit m) k) = true →
      (s.lineIn.getSeq (seqIdOf (s.lineIn.monUnit m) k).key).halted = false →
      s.lineIn.monReach m = true →
      exec (.monSeqStep m k n) s = 
      .next ((s.lineIn.monPrint []).monEnd 0x09).grave) ∧
  (∀ (s : State) (m : MonUnit) (k : Nat),
      s.RunsLine s.lineIn false →
      k < 64 →
      s.lineIn.mode.cur = .maintenance →
      s.lineIn.rawPlan (seqIdOf (s.lineIn.monUnit m) k) = true →
      s.lineIn.monReach m = true →
      exec (.monSeqRegs m k) s = .next ((s.lineIn.monPrint [.regs ((List.range 32).map (fun n => ((s.lineIn.getSeq (seqIdOf (s.lineIn.monUnit m) k).key).greg n).toNat))
       (s.lineIn.getSeq (seqIdOf (s.lineIn.monUnit m) k).key).pc.toNat]).monEnd 0)) ∧
  (∀ (s : State) (m : MonUnit) (k : Nat),
      s.RunsLine s.lineIn false →
      k < 64 →
      s.lineIn.mode.cur ≠ .maintenance →
      s.lineIn.monReach m = true →
      exec (.monSeqHalt m k) s = .next ((s.lineIn.monPrint []).monEnd 0x05)) ∧
  (∀ (s : State) (m : MonUnit) (k : Nat),
      s.RunsLine s.lineIn false →
      k < 64 →
      s.lineIn.mode.cur = .maintenance →
      s.lineIn.rawPlan (seqIdOf (s.lineIn.monUnit m) k) = false →
      s.lineIn.monReach m = true →
      exec (.monSeqHalt m k) s = .next ((s.lineIn.monPrint []).monEnd 0x09))

/-- In every state whose queue holds a command c in front of a rest, the step answers what exec answers for c on the state
with only the rest waiting: the outcome of the command, nothing added around it. The queue of waiting commands is the model's
own (log entry 7). -/
def Obligations.StepRunsFrontCommand : Prop :=
  ∀ (c : Instr) (rest : List Instr) (s : State), s.pending = c :: rest → step s = exec c { s with pending := rest }

/-- On an empty queue, outside Switchover, a step first answers what a Switchover left held; with nothing held, or in
Switchover, a way being cleaned writes back a line, a suspension that waited takes effect, the cores take what has been
posted, and the timestamp count is one higher while VAUX3 is present. With no way being cleaned and no erase under way the
step is that count and the posted entries alone; without VAUX3 it is the same state. That a step on an empty queue is the tick
of the count, and that the cores read with it, is the model's choice (log entries 1 and 66). -/
def Obligations.IdleStepPassesTime : Prop :=
  (∀ s : State, s.pending = [] → s.accHeld.isEmpty = true ∨ s.mode.cur = .switchover →
    step s = ((((s.cleanTick .A).cleanTick .B).suspendTick .A).suspendTick .B).idle) ∧
  (∀ s : State, s.pending = [] → s.accHeld.isEmpty = false → s.mode.cur ≠ .switchover → step s = s.resumeAll.conclude) ∧
  (∀ s : State, s.pending = [] → s.accHeld.isEmpty = true ∨ s.mode.cur = .switchover → s.rd (Obj.WAY_CLEANING .A) = 0 → s.rd (Obj.WAY_CLEANING .B) = 0 →
    (s.getJf UnitId.A.code).erase = none → (s.getJf UnitId.B.code).erase = none → s.sup.vaux3 = true →
    step s = .next { s.coresRead with now := s.now + 1 }) ∧
  (∀ s : State, s.pending = [] → s.accHeld.isEmpty = true ∨ s.mode.cur = .switchover → s.rd (Obj.WAY_CLEANING .A) = 0 → s.rd (Obj.WAY_CLEANING .B) = 0 →
    (s.getJf UnitId.A.code).erase = none → (s.getJf UnitId.B.code).erase = none → s.sup.vaux3 = false → step s = .next s)

/-- The reset state is the module before VAUX3 is first applied: mode Unpowered, no supply in its window, no Grave latch, no
role decided, no command waiting or in the command table, no access held, the timestamp count at 0, every numeric object at
its default and every buffer byte reading 0. The defaults of objects for which the spec states none, and what unwritten memory
reads as, are the model's choice (log entries 9, 10 and 11). -/
def Obligations.ResetIsUnpowered : Prop :=
  State.reset.mode.cur = .unpowered ∧ State.reset.sup.vaux3 = false ∧ State.reset.sup.vin12 = false ∧ State.reset.mode.graveLatch = false ∧
  State.reset.pair.roleDecided = false ∧ State.reset.pending = [] ∧ State.reset.cmds = [] ∧ State.reset.accHeld = [] ∧ State.reset.now = 0 ∧
  (∀ k, State.reset.rd k = objDefault k) ∧ (∀ (u : UnitId) (a n : Nat), cellsRead (State.reset.getBuf u.code).data a n = List.replicate n 0)

/-- No command of the table stops the model: for every command and every state exec answers a next state, and so does every
step. What the spec calls an error is an answer, a status bit or a record, never a stop. -/
def Obligations.EveryStepAnswers : Prop :=
  (∀ (c : Instr) (s : State), ∃ t, exec c s = .next t) ∧ (∀ s : State, s.Live)

/-- For every command and every state: the next state that exec answers holds the same queue as before; so a step leaves
exactly the rest of the queue, in order, and on an empty queue an empty one. Sequencers, engines, retries and held accesses
that a command sets off never enter a command in the queue. -/
def Obligations.QueueKeptByCommands : Prop :=
  (∀ (c : Instr) (s t : State), exec c s = .next t → t.pending = s.pending) ∧ (∀ s t : State, s.steps t → t.pending = s.pending.tail)

/-- For every command and every state, and for every step: in each unit's fuse array MONDIS stays blown once it is, MGMT_KEY
and ER_KEY keep the value they were first given, and FW_MIN_SVN does not fall. Whether a write verifies is an operand or a
free value (log entry 27). -/
def Obligations.FusesOnlyGrow : Prop :=
  (∀ (c : Instr) (s t : State), exec c s = .next t → s.FusesGrow t) ∧ (∀ s t : State, s.steps t → s.FusesGrow t) ∧
  (∀ s t : State, s.Reaches t → s.FusesGrow t)

/-- At reset every command that waits is well-formed (none waits), and every step from a state whose queue is well-formed
leads to one whose queue is. -/
def Obligations.QueueStaysWellFormed : Prop :=
  State.reset.QueueWf ∧ ∀ s t : State, s.QueueWf → s.steps t → t.QueueWf

/-- Each of the 56 operations of R160 is fetched by the same rules. A sequencer that does not run, that the monitor has
halted, or whose control store holds another word at the next address, takes no word; a fetched word's address becomes SEQ_PC.
A word of the other kind, and a transfer word with TIMING Dh to Fh, stops it with ILLEGAL_OP and has no other effect of its
own. A corrected word is counted, sets CS_CORRECTED, is noted for rewriting in its cluster's store and then carried out. A
write of G32 and above stops with ILLEGAL_OP, except that register 21h is PLAN_PTR. -/
def Obligations.SequencerWordRules : Prop :=
  (∀ (s : State) (q : SeqId) (w : MicroWord), exec (.nop q w) s = .next ((s.seqRun q .nop w).grave)) ∧
  (∀ (s : State) (q : SeqId) (w : MicroWord), exec (.brz q w) s = .next ((s.seqRun q .brz w).grave)) ∧
  (∀ (s : State) (q : SeqId) (w : MicroWord), exec (.brneg q w) s = .next ((s.seqRun q .brneg w).grave)) ∧
  (∀ (s : State) (q : SeqId) (w : MicroWord), exec (.breqi q w) s = .next ((s.seqRun q .breqi w).grave)) ∧
  (∀ (s : State) (q : SeqId) (w : MicroWord), exec (.brlt q w) s = .next ((s.seqRun q .brlt w).grave)) ∧
  (∀ (s : State) (q : SeqId) (w : MicroWord), exec (.brbit q w) s = .next ((s.seqRun q .brbit w).grave)) ∧
  (∀ (s : State) (q : SeqId) (w : MicroWord), exec (.brflag q w) s = .next ((s.seqRun q .brflag w).grave)) ∧
  (∀ (s : State) (q : SeqId) (w : MicroWord), exec (.djnz q w) s = .next ((s.seqRun q .djnz w).grave)) ∧
  (∀ (s : State) (q : SeqId) (w : MicroWord), exec (.call q w) s = .next ((s.seqRun q .call w).grave)) ∧
  (∀ (s : State) (q : SeqId) (w : MicroWord), exec (.ret q w) s = .next ((s.seqRun q .ret w).grave)) ∧
  (∀ (s : State) (q : SeqId) (w : MicroWord), exec (.switch q w) s = .next ((s.seqRun q .switch w).grave)) ∧
  (∀ (s : State) (q : SeqId) (w : MicroWord), exec (.endsweep q w) s = .next ((s.seqRun q .endsweep w).grave)) ∧
  (∀ (s : State) (q : SeqId) (w : MicroWord), exec (.abort q w) s = .next ((s.seqRun q .abort w).grave)) ∧
  (∀ (s : State) (q : SeqId) (w : MicroWord), exec (.fence q w) s = .next ((s.seqRun q .fence w).grave)) ∧
  (∀ (s : State) (q : SeqId) (w : MicroWord), exec (.waitidx q w) s = .next ((s.seqRun q .waitidx w).grave)) ∧
  (∀ (s : State) (q : SeqId) (w : MicroWord), exec (.trap q w) s = .next ((s.seqRun q .trap w).grave)) ∧
  (∀ (s : State) (q : SeqId) (w : MicroWord), exec (.ldi q w) s = .next ((s.seqRun q .ldi w).grave)) ∧
  (∀ (s : State) (q : SeqId) (w : MicroWord), exec (.ldis q w) s = .next ((s.seqRun q .ldis w).grave)) ∧
  (∀ (s : State) (q : SeqId) (w : MicroWord), exec (.ldim q w) s = .next ((s.seqRun q .ldim w).grave)) ∧
  (∀ (s : State) (q : SeqId) (w : MicroWord), exec (.ldih q w) s = .next ((s.seqRun q .ldih w).grave)) ∧
  (∀ (s : State) (q : SeqId) (w : MicroWord), exec (.mov q w) s = .next ((s.seqRun q .mov w).grave)) ∧
  (∀ (s : State) (q : SeqId) (w : MicroWord), exec (.add q w) s = .next ((s.seqRun q .add w).grave)) ∧
  (∀ (s : State) (q : SeqId) (w : MicroWord), exec (.addi q w) s = .next ((s.seqRun q .addi w).grave)) ∧
  (∀ (s : State) (q : SeqId) (w : MicroWord), exec (.sub q w) s = .next ((s.seqRun q .sub w).grave)) ∧
  (∀ (s : State) (q : SeqId) (w : MicroWord), exec (.and q w) s = .next ((s.seqRun q .and w).grave)) ∧
  (∀ (s : State) (q : SeqId) (w : MicroWord), exec (.andi q w) s = .next ((s.seqRun q .andi w).grave)) ∧
  (∀ (s : State) (q : SeqId) (w : MicroWord), exec (.or q w) s = .next ((s.seqRun q .or w).grave)) ∧
  (∀ (s : State) (q : SeqId) (w : MicroWord), exec (.ori q w) s = .next ((s.seqRun q .ori w).grave)) ∧
  (∀ (s : State) (q : SeqId) (w : MicroWord), exec (.xor q w) s = .next ((s.seqRun q .xor w).grave)) ∧
  (∀ (s : State) (q : SeqId) (w : MicroWord), exec (.shli q w) s = .next ((s.seqRun q .shli w).grave)) ∧
  (∀ (s : State) (q : SeqId) (w : MicroWord), exec (.shri q w) s = .next ((s.seqRun q .shri w).grave)) ∧
  (∀ (s : State) (q : SeqId) (w : MicroWord), exec (.muli q w) s = .next ((s.seqRun q .muli w).grave)) ∧
  (∀ (s : State) (q : SeqId) (w : MicroWord), exec (.ldp q w) s = .next ((s.seqRun q .ldp w).grave)) ∧
  (∀ (s : State) (q : SeqId) (w : MicroWord), exec (.nextitem q w) s = .next ((s.seqRun q .nextitem w).grave)) ∧
  (∀ (s : State) (q : SeqId) (w : MicroWord), exec (.ldh q w) s = .next ((s.seqRun q .ldh w).grave)) ∧
  (∀ (s : State) (q : SeqId) (w : MicroWord), exec (.ldm q w) s = .next ((s.seqRun q .ldm w).grave)) ∧
  (∀ (s : State) (q : SeqId) (w : MicroWord), exec (.stm q w) s = .next ((s.seqRun q .stm w).grave)) ∧
  (∀ (s : State) (q : SeqId) (w : MicroWord), exec (.post q w) s = .next ((s.seqRun q .post w).grave)) ∧
  (∀ (s : State) (q : SeqId) (w : MicroWord), exec (.msend q w) s = .next ((s.seqRun q .msend w).grave)) ∧
  (∀ (s : State) (q : SeqId) (w : MicroWord), exec (.mrecv q w) s = .next ((s.seqRun q .mrecv w).grave)) ∧
  (∀ (s : State) (q : SeqId) (w : MicroWord), exec (.pred q w) s = .next ((s.seqRun q .pred w).grave)) ∧
  (∀ (s : State) (q : SeqId) (w : MicroWord), exec (.pset q w) s = .next ((s.seqRun q .pset w).grave)) ∧
  (∀ (s : State) (q : SeqId) (w : MicroWord), exec (.swap q w) s = .next ((s.seqRun q .swap w).grave)) ∧
  (∀ (s : State) (q : SeqId) (w : MicroWord), exec (.wrset q w) s = .next ((s.seqRun q .wrset w).grave)) ∧
  (∀ (s : State) (q : SeqId) (w : MicroWord), exec (.srd q w) s = .next ((s.seqRun q .srd w).grave)) ∧
  (∀ (s : State) (q : SeqId) (w : MicroWord), exec (.swr q w) s = .next ((s.seqRun q .swr w).grave)) ∧
  (∀ (s : State) (q : SeqId) (w : MicroWord), exec (.cfrag q w) s = .next ((s.seqRun q .cfrag w).grave)) ∧
  (∀ (s : State) (q : SeqId) (w : MicroWord), exec (.gateoff q w) s = .next ((s.seqRun q .gateoff w).grave)) ∧
  (∀ (s : State) (q : SeqId) (w : MicroWord), exec (.seekreq q w) s = .next ((s.seqRun q .seekreq w).grave)) ∧
  (∀ (s : State) (q : SeqId) (w : MicroWord), exec (.replay q w) s = .next ((s.seqRun q .replay w).grave)) ∧
  (∀ (s : State) (q : SeqId) (w : MicroWord), exec (.armclr q w) s = .next ((s.seqRun q .armclr w).grave)) ∧
  (∀ (s : State) (q : SeqId) (w : MicroWord), exec (.ctsnap q w) s = .next ((s.seqRun q .ctsnap w).grave)) ∧
  (∀ (s : State) (q : SeqId) (w : MicroWord), exec (.ticket q w) s = .next ((s.seqRun q .ticket w).grave)) ∧
  (∀ (s : State) (q : SeqId) (w : MicroWord), exec (.wfeed q w) s = .next ((s.seqRun q .wfeed w).grave)) ∧
  (∀ (s : State) (q : SeqId) (w : MicroWord), exec (.evsend q w) s = .next ((s.seqRun q .evsend w).grave)) ∧
  (∀ (s : State) (q : SeqId) (w : MicroWord), exec (.evclr q w) s = .next ((s.seqRun q .evclr w).grave)) ∧
  (∀ (s : State) (q : SeqId) (o : SeqOp) (w : MicroWord), (s.getSeq q.key).goes = false ∨ s.fetches q o w = false → s.seqRun q o w = s) ∧
  (∀ (s : State) (q : SeqId) (o : SeqOp) (w : MicroWord), (s.getSeq q.key).goes = true → s.fetches q o w = true →
    ((q.xfer = true ∧ o.mediaOnly = true) ∨ (q.xfer = false ∧ o.xferOnly = true) ∨ (q.xfer = true ∧ 0xD ≤ w.timing.toNat)) →
    s.seqRun q o w = (s.seqFetch q w.corrected).seqStop q .SEQ_ILLEGAL_OP) ∧
  (∀ (s t : State) (q : SeqId) (o : SeqOp) (w : MicroWord), (s.getSeq q.key).goes = true → s.fetches q o w = true →
    (q.xfer = true → o.mediaOnly = false) → (q.xfer = false → o.xferOnly = false) → (q.xfer = true → w.timing.toNat < 0xD) →
    t = s.seqFetch q w.corrected → s.seqRun q o w = t.seqAfter q o w (t.op q o w)) ∧
  (∀ (s : State) (q : SeqId), s.seqFetch q false = s.modSeq q.key (fun e => { e with pc := (s.getSeq q.key).next })) ∧
  (∀ (s : State) (q : SeqId), s.seqFetch q true =
    (((s.seqFetch q false).inc (Obj.CS_CORRECTED_COUNT q.unit q.k)).raise (.seq q.k) [.SEQ_CS_CORRECTED]).modStore q
      (fun m => { m with flaws := (q.xfer, (s.getSeq q.key).next.toNat) :: m.flaws })) ∧
  (∀ (s : State) (q : SeqId) (w : MicroWord) (v : Word), 32 ≤ w.a.toNat → w.a ≠ 0x21 → s.seqSet q w v = .stop s .SEQ_ILLEGAL_OP) ∧
  (∀ (s : State) (q : SeqId) (w : MicroWord) (v : Word), w.a = 0x21 →
    s.seqSet q w v = .done (s.modSeq q.key (fun e => { e with planPtr := v })) w.next)

/-- While MONDIS is blown in either unit's fuse array, every line of the monitor, well formed or faulty, exempt from the lock
or not, leaves the state as it is outside Switchover, with only the follow-up transitions that end the commands of objects and
sequencers: nothing is printed, counted, read or written. -/
def Obligations.MonitorIgnoredOnceBlown : Prop :=
  (∀ (s : State) (d : List Byte) (n : Nat), s.monDisabled = true → s.mode.cur ≠ .switchover → exec (.monLine d n) s = .next s) ∧
  (∀ s : State, s.monDisabled = true → s.mode.cur ≠ .switchover → exec .monHelp s = .next s) ∧
  (∀ (s : State) (m : MonUnit), s.monDisabled = true → s.mode.cur ≠ .switchover → exec (.monId m) s = .next s) ∧
  (∀ (s : State) (m : MonUnit) (i : Nat) (j : Nat), s.monDisabled = true → s.mode.cur ≠ .switchover → exec (.monPeek m i j) s = .next s) ∧
  (∀ (s : State) (m : MonUnit) (i : Nat) (j : Nat) (d : List Byte), s.monDisabled = true → s.mode.cur ≠ .switchover → exec (.monPoke m i j d) s = .next s.settle) ∧
  (∀ (s : State) (m : MonUnit) (i : Nat) (j : Nat) (o : Nat) (l : Option Nat), s.monDisabled = true → s.mode.cur ≠ .switchover → exec (.monDump m i j o l) s = .next s) ∧
  (∀ (s : State) (v : Option (BitVec 8)), s.monDisabled = true → s.mode.cur ≠ .switchover → exec (.monMode v) s = .next s) ∧
  (∀ (s : State) (m : MonUnit) (n : Nat), s.monDisabled = true → s.mode.cur ≠ .switchover → exec (.monEv m n) s = .next s) ∧
  (∀ (s : State) (m : MonUnit) (n : Nat), s.monDisabled = true → s.mode.cur ≠ .switchover → exec (.monEvFrom m n) s = .next s) ∧
  (∀ (s : State) (m : MonUnit), s.monDisabled = true → s.mode.cur ≠ .switchover → exec (.monEvTail m) s = .next s) ∧
  (∀ (s : State) (m : MonUnit) (i : Nat) (j : Nat), s.monDisabled = true → s.mode.cur ≠ .switchover → exec (.monTrace m i j) s = .next s) ∧
  (∀ s : State, s.monDisabled = true → s.mode.cur ≠ .switchover → exec .monTraceOff s = .next s) ∧
  (∀ (s : State) (m : MonUnit) (i : Nat), s.monDisabled = true → s.mode.cur ≠ .switchover → exec (.monJfStatus m i) s = .next s) ∧
  (∀ (s : State) (m : MonUnit) (i : Nat) (j : Nat) (n : Nat), s.monDisabled = true → s.mode.cur ≠ .switchover → exec (.monJfRead m i j n) s = .next s) ∧
  (∀ (s : State) (m : MonUnit), s.monDisabled = true → s.mode.cur ≠ .switchover → exec (.monJfCounters m) s = .next s) ∧
  (∀ (s : State) (m : MonUnit) (n : Nat), s.monDisabled = true → s.mode.cur ≠ .switchover → exec (.monSeqHalt m n) s = .next s) ∧
  (∀ (s : State) (m : MonUnit) (n : Nat) (i : Nat), s.monDisabled = true → s.mode.cur ≠ .switchover → exec (.monSeqStep m n i) s = .next s.grave) ∧
  (∀ (s : State) (m : MonUnit) (n : Nat), s.monDisabled = true → s.mode.cur ≠ .switchover → exec (.monSeqRun m n) s = .next s) ∧
  (∀ (s : State) (m : MonUnit) (n : Nat), s.monDisabled = true → s.mode.cur ≠ .switchover → exec (.monSeqRegs m n) s = .next s) ∧
  (∀ (s : State) (m : MonUnit), s.monDisabled = true → s.mode.cur ≠ .switchover → exec (.monAuth m) s = .next s) ∧
  (∀ (s : State) (m : MonUnit) (d : List Byte), s.monDisabled = true → s.mode.cur ≠ .switchover → exec (.monAuthResponse m d) s = .next s) ∧
  (∀ (s : State) (n : Nat), s.monDisabled = true → s.mode.cur ≠ .switchover → exec (.monBaud n) s = .next s)

/-- The error of a write is that of the first check it fails: 01h and 02h where the object does not exist, 0Eh where it is not
served or the module is in Hold-up, 03h for a read-only object, 05h where the mode forbids it, 06h without a session, 08h for
a wrong length, 07h out of range, and 0Ah under a segmented write of another requester. It is 0 exactly when the object exists
and every one of those checks passes. Reads run the first four. Where the check of R564 stands in the order is the model's
reading (log entry 30 names the codes of refusals). -/
def Obligations.AccessChecksInOrder : Prop :=
  (∀ (s : State) (u : UnitId) (i j : Nat) (q : Requester) (d : List Byte), objLookup i j = none → s.writeErr u i j q d = 0x01 ∧ s.readErr i j q = 0x01) ∧
  (∀ (s : State) (u : UnitId) (i j : Nat) (q : Requester) (d : List Byte), objLookup i j = some none → s.writeErr u i j q d = 0x02 ∧ s.readErr i j q = 0x02) ∧
  (∀ (s : State) (u : UnitId) (i j : Nat) (q : Requester) (d : List Byte) (r : ObjRow), objLookup i j = some (some r) → s.served i j r = false → s.writeErr u i j q d = 0x0E ∧ s.readErr i j q = 0x0E) ∧
  (∀ (s : State) (u : UnitId) (i j : Nat) (q : Requester) (d : List Byte) (r : ObjRow), objLookup i j = some (some r) → s.mode.cur = .holdUp → (r.idx ≠ 0x5210 ∨ j ≠ 1) → s.writeErr u i j q d = 0x0E) ∧
  (∀ (s : State) (u : UnitId) (i j : Nat) (q : Requester) (d : List Byte) (r : ObjRow), objLookup i j = some (some r) → s.served i j r = true → s.mode.cur ≠ .holdUp → r.acc = .ro → s.writeErr u i j q d = 0x03) ∧
  (∀ (s : State) (u : UnitId) (i j : Nat) (q : Requester) (d : List Byte) (r : ObjRow), objLookup i j = some (some r) → s.served i j r = true → r.acc = .wo → s.readErr i j q = 0x04) ∧
  (∀ (s : State) (u : UnitId) (i j : Nat) (q : Requester) (d : List Byte) (r : ObjRow), objLookup i j = some (some r) → s.served i j r = true → s.mode.cur ≠ .holdUp → r.acc = .rwq → q ≠ .firmware →
    modeQuiet s.mode.cur = false → s.writeErr u i j q d = 0x05) ∧
  (∀ (s : State) (u : UnitId) (i j : Nat) (q : Requester) (d : List Byte) (r : ObjRow), objLookup i j = some (some r) → s.modeErr i j r q true = 0 → r.acc = .rwa → s.session u q = false → s.writeErr u i j q d = 0x06) ∧
  (∀ (s : State) (u : UnitId) (i j : Nat) (q : Requester) (d : List Byte) (r : ObjRow), objLookup i j = some (some r) → s.modeErr i j r q true = 0 → (r.acc = .rwa → s.session u q = true) →
    r.ty.lengthOk d.length = false → s.writeErr u i j q d = 0x08) ∧
  (∀ (s : State) (u : UnitId) (i j : Nat) (q : Requester) (d : List Byte) (r : ObjRow), objLookup i j = some (some r) → (s.writeErr u i j q d = 0 ↔
    s.modeErr i j r q true = 0 ∧ (r.acc = .rwa → s.session u q = true) ∧ r.ty.lengthOk d.length = true ∧
      (r.ty.numeric = true → r.inRange (leNat d) = true) ∧ s.writeHeld u i j r q = false))

/-- While the module is in Switchover, a read or write of an object by any interface (register writes, authorisation,
recorder, fuses, the exchanges and initiates of the management network, and every monitor line that accesses objects) is put
at the end of the accesses held and has no other effect: no answer, no check, no counter. The unit that then holds TOKEN
answers them in that order. A write of 1101h that passes its checks is besides stored at once (R37); a broadcast read that
discovery answers is no access to an object of one unit (log entry 30 names the codes of refusals). -/
def Obligations.SwitchoverHoldsAccesses : Prop :=
  (∀ (s : State) (q : Requester) (u : UnitId) (i j : Nat) (d : List Byte), s.mode.cur = .switchover → (i ≠ 0x1101 ∨ j ≠ 0) → exec (.registerWrite q u i j d) s =
    .next (({ s with accHeld := s.accHeld ++ [.write q u i j d] } : State).settle)) ∧
  (∀ (s : State) (q : Requester) (u : UnitId), s.mode.cur = .switchover → exec (.authChallengeRead q u) s =
    .next ({ s with accHeld := s.accHeld ++ [.authChallenge q u] } : State)) ∧
  (∀ (s : State) (q : Requester) (u : UnitId) (d : List Byte), s.mode.cur = .switchover → exec (.authResponseWrite q u d) s =
    .next ({ s with accHeld := s.accHeld ++ [.write q u 0x1020 1 d] } : State)) ∧
  (∀ (s : State) (q : Requester) (u : UnitId), s.mode.cur = .switchover → exec (.erRecordRead q u) s =
    .next ({ s with accHeld := s.accHeld ++ [.erRecord q u] } : State)) ∧
  (∀ (s : State) (q : Requester) (u : UnitId), s.mode.cur = .switchover → exec (.erChallengeRead q u) s =
    .next ({ s with accHeld := s.accHeld ++ [.erChallenge q u] } : State)) ∧
  (∀ (s : State) (q : Requester) (u : UnitId) (v : BitVec 8) (a b : Bool), s.mode.cur = .switchover → exec (.mondisBlow q u v a b) s =
    .next ({ s with accHeld := s.accHeld ++ [.mondis q u v a b] } : State)) ∧
  (∀ (s : State) (q : Requester) (u : UnitId) (v : BitVec 32) (a b : Bool), s.mode.cur = .switchover → exec (.fwMinSvnWrite q u v a b) s =
    .next ({ s with accHeld := s.accHeld ++ [.minSvn q u v a b] } : State)) ∧
  (∀ (s : State) (q : Requester) (u : UnitId) (d : List Byte) (a b : Bool), s.mode.cur = .switchover → exec (.mgmtKeyWrite q u d a b) s =
    .next ({ s with accHeld := s.accHeld ++ [.mgmtKey q u d a b] } : State)) ∧
  (∀ (s : State) (q : Requester) (u : UnitId) (d : List Byte) (a b : Bool), s.mode.cur = .switchover → exec (.erKeyWrite q u d a b) s =
    .next ({ s with accHeld := s.accHeld ++ [.erKey q u d a b] } : State)) ∧
  (∀ (s : State) (u : UnitId) (f : KdapFrame), s.mode.cur = .switchover → f.broadcast = false → exec (.expeditedRead u f) s =
    .next ({ s with accHeld := s.accHeld ++ [.expeditedRead u f] } : State)) ∧
  (∀ (s : State) (u : UnitId) (f : KdapFrame), s.mode.cur = .switchover → (f.index ≠ 0x1101 ∨ f.sub ≠ 0) → exec (.expeditedWrite u f) s =
    .next (({ s with accHeld := s.accHeld ++ [.expeditedWrite u f] } : State).settle)) ∧
  (∀ (s : State) (u : UnitId) (f : KdapFrame), s.mode.cur = .switchover → exec (.segmentedReadInitiate u f) s =
    .next ({ s with accHeld := s.accHeld ++ [.segmentedRead u f] } : State)) ∧
  (∀ (s : State) (u : UnitId) (f : KdapFrame), s.mode.cur = .switchover → exec (.segmentedWriteInitiate u f) s =
    .next ({ s with accHeld := s.accHeld ++ [.segmentedWrite u f] } : State)) ∧
  (∀ (s : State) (m : MonUnit) (i j : Nat), s.mode.cur = .switchover → exec (.monPeek m i j) s =
    .next ({ s with accHeld := s.accHeld ++ [.peek m i j] } : State)) ∧
  (∀ (s : State) (m : MonUnit) (i j : Nat) (d : List Byte), s.mode.cur = .switchover → (i ≠ 0x1101 ∨ j ≠ 0) → exec (.monPoke m i j d) s =
    .next (({ s with accHeld := s.accHeld ++ [.poke m i j d] } : State).settle)) ∧
  (∀ (s : State) (m : MonUnit) (i j o : Nat) (l : Option Nat), s.mode.cur = .switchover → exec (.monDump m i j o l) s =
    .next ({ s with accHeld := s.accHeld ++ [.dump m i j o l] } : State)) ∧
  (∀ (s : State) , s.mode.cur = .switchover → exec (.monMode none) s =
    .next ({ s with accHeld := s.accHeld ++ [.modeLine none] } : State)) ∧
  (∀ (s : State) (m : MonUnit) (i : Nat), s.mode.cur = .switchover → exec (.monJfStatus m i) s =
    .next ({ s with accHeld := s.accHeld ++ [.jfStatus m i] } : State)) ∧
  (∀ (s : State) (m : MonUnit) (i j n : Nat), s.mode.cur = .switchover → exec (.monJfRead m i j n) s =
    .next ({ s with accHeld := s.accHeld ++ [.jfRead m i j n] } : State)) ∧
  (∀ (s : State) (m : MonUnit), s.mode.cur = .switchover → exec (.monJfCounters m) s =
    .next ({ s with accHeld := s.accHeld ++ [.jfCounters m] } : State)) ∧
  (∀ (s : State) (m : MonUnit), s.mode.cur = .switchover → exec (.monAuth m) s =
    .next ({ s with accHeld := s.accHeld ++ [.auth m] } : State)) ∧
  (∀ (s : State) (m : MonUnit) (d : List Byte), s.mode.cur = .switchover → exec (.monAuthResponse m d) s =
    .next ({ s with accHeld := s.accHeld ++ [.authResponse m d] } : State)) ∧
  (∀ (s : State) (q : Requester) (u : UnitId) (v : BitVec 8), s.mode.cur = .switchover → exec (.evFire q u v) s =
    .next ({ s with accHeld := s.accHeld ++ [.write q u (keyIndex (Obj.EV_FIRE u)) (keySub (Obj.EV_FIRE u)) [v]] } : State)) ∧
  (∀ (s : State) (q : Requester) (u : UnitId) (d : List Byte), s.mode.cur = .switchover → [0x02, 0x04, 0x07, 0x0A].contains (leNat d) = true →
    s.writeErr u 0x1101 0 q d = 0 → exec (.registerWrite q u 0x1101 0 d) s =
    .next (({ s.save Obj.REQUESTED_MODE (leNat d) with accHeld := s.accHeld ++ [.write q u 0x1101 0 d] } : State).settle)) ∧
  (∀ (s : State) (q : Requester) (u : UnitId) (v : BitVec 8), s.mode.cur = .switchover → [0x02, 0x04, 0x07, 0x0A].contains v.toNat = true →
    s.writeErr u 0x1101 0 q [v] = 0 → exec (.requestedModeWrite q u v) s =
    .next (({ s.save Obj.REQUESTED_MODE v.toNat with accHeld := s.accHeld ++ [.write q u 0x1101 0 [v]] } : State).settle)) ∧
  (∀ (s : State) (v : BitVec 8), s.mode.cur = .switchover → exec (.monMode (some v)) s =
    .next ({ s.lineWritten .serving 0x1101 0 [v] with accHeld := s.accHeld ++ [.modeLine (some v)] } : State))

/-- After a 64-byte word is put on the devices with fresh check bytes, the decoder reads it clean and gives the bytes written,
whatever was stored or flipped there before; a word put poisoned reads as poisoned; and every other word of the group, and
every word of a group that lies elsewhere on the devices, reads as it did before. Noise of the access itself is left out here
(it is an operand of the read). -/
def Obligations.BufferWordReadsBack : Prop :=
  (∀ (b : BufSt) (g w : Nat) (d : List Byte), w < 8 → d.length = 64 → ((b.putWord g w d false).decode g [])[w]? = some (.clean, d)) ∧
  (∀ (b : BufSt) (g w : Nat) (d : List Byte), w < 8 → d.length = 64 → (((b.putWord g w d true).decode g [])[w]?).map Prod.fst = some .poisoned) ∧
  (∀ (b : BufSt) (g w v : Nat) (d : List Byte) (p : Bool), w < 8 → v < 8 → v ≠ w → d.length = 64 → ((b.putWord g w d p).decode g [])[v]? = (b.decode g [])[v]?) ∧
  (∀ (b : BufSt) (g h w : Nat) (d : List Byte) (p : Bool), w < 8 → b.loc h ≠ b.loc g → d.length = 64 → (b.putWord g w d p).decode h [] = b.decode h [])

/-- Bit i of byte j of the transposed element is bit j of byte i of the element, for all eight bits and bytes; the transpose
of the transpose is the element; and a running channel whose descriptor has MODE 01h writes, for the element it has read, its
transpose to the destination, then goes on to the next element. -/
def Obligations.BitPlaneTransposesElements : Prop :=
  (∀ (d : List Byte) (i j : Nat), i < 8 → j < 8 → ((bitPlane d).getD j 0).getLsbD i = (d.getD i 0).getLsbD j) ∧
  (∀ d : List Byte, (bitPlane d).length = 8) ∧
  (∀ d : List Byte, d.length = 8 → bitPlane (bitPlane d) = d) ∧
  (∀ (s t r w v : State) (u : UnitId) (n : Fin 32) (c : DmaSt) (d : List Byte), (s.getDma (dmaKey u n)).st = .running → s.dmaServed u n = true →
    t = s.modFab u.code (fun f => { f with turns := mapPut (fun _ => 31) f.turns (s.rd (Obj.PRIORITY u n)) n.val }) →
    t.getDma (dmaKey u n) = c → c.fld 47 1 = 1 → c.tap = false → t.engRead u c.burst.1 c.burst.2.2 = (r, some d) →
    r.dmaPut u (c.fld 15 1) c.burst.2.1 (bitPlane d) = (w, true) →
    v = w.wr (Obj.DMA_BYTES_MOVED u) (min (2 ^ 64 - 1) (w.rd (Obj.DMA_BYTES_MOVED u) + c.burst.2.2)) → v.dmaEnds u n = [] →
    c.esize ≤ c.off + c.burst.2.2 → exec (.dmaBurstResponse u n none) s = .next ((v.dmaNext u n).grave))

/-- CALL with eight addresses held, or RET with none, stops the sequencer with STACK_ERR; CALL with fewer pushes its return
address and RET takes the newest off. MSEND to a mailbox of fewer than sixteen words appends its word, and with sixteen held
it waits, adding nothing. -/
def Obligations.ReturnStackAndMailboxBounds : Prop :=
  (∀ (s u : State) (q : SeqId) (w : MicroWord),
      s.SeqReady q .call w u →
      8 ≤ (u.getSeq q.key).stack.length →
      exec (.call q w) s =
      .next ((u.seqStop q .SEQ_STACK_ERR).grave)) ∧
  (∀ (s u : State) (q : SeqId) (w : MicroWord),
      s.SeqReady q .call w u →
      (u.getSeq q.key).stack.length < 8 →
      exec (.call q w) s =
      .next (((u.modSeq q.key (fun e => { e with stack := w.next :: e.stack })).seqTiming q w w.b).grave)) ∧
  (∀ (s u : State) (q : SeqId) (w : MicroWord),
      s.SeqReady q .ret w u →
      (u.getSeq q.key).stack = [] →
      exec (.ret q w) s =
      .next ((u.seqStop q .SEQ_STACK_ERR).grave)) ∧
  (∀ (s u : State) (q : SeqId) (w : MicroWord) (r : BitVec 12) (l : List (BitVec 12)),
      s.SeqReady q .ret w u →
      (u.getSeq q.key).stack = r :: l →
      exec (.ret q w) s =
      .next (((u.modSeq q.key (fun e => { e with stack := l })).seqTiming q w r).grave)) ∧
  (∀ (s u : State) (q : SeqId) (w : MicroWord),
      s.SeqReady q .msend w u →
      16 ≤ (u.getSeq q.partner.key).mbox.length →
      exec (.msend q w) s =
      .next ((u.modSeq q.key (fun e => { e with
        state := .waiting, wait := .op .msend w, waitAt := match e.wait with | .op _ _ => e.waitAt | _ => u.now })).grave)) ∧
  (∀ (s u : State) (q : SeqId) (w : MicroWord),
      s.SeqReady q .msend w u →
      (u.getSeq q.partner.key).mbox.length < 16 →
      exec (.msend q w) s =
      .next (((u.modSeq q.partner.key (fun e => { e with mbox := e.mbox ++ [u.seqA q w] })).seqTiming q w w.next).grave))

/-- A unit that takes an expedited request for an object of a unit it can reach answers with one frame: the object's data when
it has at most 1024 bytes, abort 08h when it is larger, and for an access that fails an abort that carries the access error
code, for reads and for writes; an accepted write is answered with a frame without data. -/
def Obligations.ExpeditedExchangesInOneFrame : Prop :=
  (∀ (s : State) (u t : UnitId) (f : KdapFrame) (r : State) (d : List Byte),
      s.mode.cur ≠ .switchover →
      s.Hears f false →
      f.target.toNat < 4 →
      (s.inc (Obj.KDAP_RX u)).kdapTarget u f = some t →
      ((s.inc (Obj.KDAP_RX u)).dictRead (.kdap f.src) t f.index f.sub).takeAnswer = (r, 0, d) →
      d.length ≤ 1024 →
      exec (.expeditedRead u f) s = .next (r.kdapSend (f.reply u 0x81 d.length d))) ∧
  (∀ (s : State) (u t : UnitId) (f : KdapFrame) (r : State) (d : List Byte),
      s.mode.cur ≠ .switchover →
      s.Hears f false →
      f.target.toNat < 4 →
      (s.inc (Obj.KDAP_RX u)).kdapTarget u f = some t →
      ((s.inc (Obj.KDAP_RX u)).dictRead (.kdap f.src) t f.index f.sub).takeAnswer = (r, 0, d) →
      1024 < d.length →
      exec (.expeditedRead u f) s = .next (r.kdapAbort u f 0x08)) ∧
  (∀ (s : State) (u t : UnitId) (f : KdapFrame) (r : State) (e : Nat) (d : List Byte),
      s.mode.cur ≠ .switchover →
      s.Hears f false →
      f.target.toNat < 4 →
      (s.inc (Obj.KDAP_RX u)).kdapTarget u f = some t →
      ((s.inc (Obj.KDAP_RX u)).dictRead (.kdap f.src) t f.index f.sub).takeAnswer = (r, e, d) →
      e ≠ 0 →
      exec (.expeditedRead u f) s = .next (r.kdapAbort u f e)) ∧
  (∀ (s : State) (u t : UnitId) (f : KdapFrame) (r : State) (d : List Byte),
      s.mode.cur ≠ .switchover →
      s.Hears f false →
      f.target.toNat < 4 →
      (s.inc (Obj.KDAP_RX u)).kdapTarget u f = some t →
      ((s.inc (Obj.KDAP_RX u)).dictWrite (.kdap f.src) t f.index f.sub f.body).takeAnswer = (r, 0, d) →
      exec (.expeditedWrite u f) s = .next ((r.kdapSend (f.reply u 0x82 0 [])).settle)) ∧
  (∀ (s : State) (u t : UnitId) (f : KdapFrame) (r : State) (e : Nat) (d : List Byte),
      s.mode.cur ≠ .switchover →
      s.Hears f false →
      f.target.toNat < 4 →
      (s.inc (Obj.KDAP_RX u)).kdapTarget u f = some t →
      ((s.inc (Obj.KDAP_RX u)).dictWrite (.kdap f.src) t f.index f.sub f.body).takeAnswer = (r, e, d) →
      e ≠ 0 →
      exec (.expeditedWrite u f) s = .next ((r.kdapAbort u f e).settle))

/-- The twelve modes have the codes 00h to 0Bh of the table; 1100h.00 and 1100h.01 read the codes of the current and of the
previous mode; and a change of mode writes an event record that holds the codes of the mode left and of the mode entered. -/
def Obligations.ModesHaveTheirCodes : Prop :=
  Mode.code .unpowered = 0x00 ∧ Mode.code .resetHold = 0x01 ∧ Mode.code .fiddlehead = 0x02 ∧ Mode.code .bringUp = 0x03 ∧ Mode.code .frond = 0x04 ∧ Mode.code .frondDegraded = 0x05 ∧ Mode.code .drain = 0x06 ∧ Mode.code .quiescent = 0x07 ∧ Mode.code .holdUp = 0x08 ∧ Mode.code .switchover = 0x09 ∧ Mode.code .maintenance = 0x0A ∧ Mode.code .faultLatched = 0x0B ∧
  (∀ (s : State) (u : UnitId), s.liveBytes u 0x1100 0 = [BitVec.ofNat 8 s.mode.cur.code]) ∧ (∀ (s : State) (u : UnitId), s.liveBytes u 0x1100 1 = [BitVec.ofNat 8 s.mode.prev.code]) ∧
  (∀ (s : State) (m : Mode) (c : ModeCause), s.setMode m c = ((({ s with mode := { s.mode with cur := m, prev := s.mode.cur, cause := c, entryTime := s.now } } : State).countMode).logPlain 1 [BitVec.ofNat 8 s.mode.cur.code, BitVec.ofNat 8 m.code, BitVec.ofNat 8 c.code]))

/-- Keys are compared as unsigned bytes from the first, a prefix before the longer key; while a namespace's index is in
ascending order without repeats, so are the keys a command observes and those List returns, and a descriptor put into such an
index leaves it so. -/
def Obligations.KeysListedInOrder : Prop :=
  (∀ (a b : List Byte), keyLe a (a ++ b) = true ∧ (b ≠ [] → keyLe (a ++ b) a = false)) ∧
  (∀ (a b c : List Byte) (x y : Byte), x.toNat < y.toNat → keyLe (a ++ x :: b) (a ++ y :: c) = true ∧ keyLe (a ++ y :: c) (a ++ x :: b) = false) ∧
  (∀ (l : List ValueDesc) (v : ValueDesc), (l.map ValueDesc.key).Pairwise (fun a b => keyLe a b = true ∧ a ≠ b) →
    ((putValue l v).map ValueDesc.key).Pairwise (fun a b => keyLe a b = true ∧ a ≠ b)) ∧
  (∀ (s : State) (n : Nat), ((s.os.values n).map ValueDesc.key).Pairwise (fun a b => keyLe a b = true ∧ a ≠ b) →
    (s.keysOf n).Pairwise (fun a b => keyLe a b = true ∧ a ≠ b)) ∧
  (∀ (s : State) (t : CmdTag) (n len : Nat) (key : List Byte), s.kvRefusal n (some key) false false = none →
    ((s.os.values n).map ValueDesc.key).Pairwise (fun a b => keyLe a b = true ∧ a ≠ b) →
    ∃ l : List (List Byte), l.Pairwise (fun a b => keyLe a b = true ∧ a ≠ b) ∧ (∀ k ∈ l, k ∈ s.keysOf n ∧ keyLe key k = true) ∧
      s.runList t n key len = s.complete t .success 0 ((leBytes 4 l.length ++ l.flatMap listEntry).take len))

/-- Bit 21 of the decoded track number is bit 21 of the code, every lower bit is the exclusive or of the next higher decoded
bit with its own code bit, and the number has no bits above 21. -/
def Obligations.GrayCodeOfTracks : Prop :=
  (∀ g : BitVec 22, (grayDecode g).testBit 21 = g.getLsbD 21) ∧
  (∀ (g : BitVec 22) (i : Nat), i < 21 → (grayDecode g).testBit i = xor ((grayDecode g).testBit (i + 1)) (g.getLsbD i)) ∧ (∀ g : BitVec 22, grayDecode g < 2 ^ 22)
end

