-- ==== Sys2Proof/Laws/Store.lean ====
section
/-! SUPPORT. Laws of the sparse stores: a read after a write gives the value written and leaves every other key alone, and every
write keeps the canonical form. -/

namespace Sys2Proof.Machine

variable {α : Type}

theorem mapGet_mapDel_self (d : Nat → α) (m : Map α) (k : Nat) : mapGet d (mapDel m k) k = d k := by
  induction m with
  | nil => rfl
  | cons e t ih =>
    obtain ⟨i, v⟩ := e
    by_cases h : i = k
    · simpa [mapDel, h] using ih
    · simpa [mapDel, mapGet, h] using ih

theorem mapGet_mapDel_ne (d : Nat → α) (m : Map α) {k j : Nat} (h : j ≠ k) : mapGet d (mapDel m k) j = mapGet d m j := by
  induction m with
  | nil => rfl
  | cons e t ih =>
    obtain ⟨i, v⟩ := e
    by_cases hi : i = k
    · subst hi
      simp [mapDel, mapGet, ih, Ne.symm h]
    · by_cases hj : i = j
      · subst hj; simp only [mapDel, hi, if_false, mapGet, if_true]
      · simp only [mapDel, hi, if_false, mapGet, hj, ih]

theorem mapGet_mapIns_ne (d : Nat → α) (m : Map α) {k j : Nat} (v : α) (h : j ≠ k) : mapGet d (mapIns m k v) j = mapGet d m j := by
  induction m with
  | nil => simp [mapIns, mapGet, Ne.symm h]
  | cons e t ih =>
    obtain ⟨i, w⟩ := e
    by_cases hk : k < i
    · simp [mapIns, mapGet, hk, Ne.symm h]
    · simp [mapIns, mapGet, hk, ih]

theorem mapGet_mapIns_self (d : Nat → α) (m : Map α) (k : Nat) (v : α) (h : ∀ e ∈ m, e.1 ≠ k) : mapGet d (mapIns m k v) k = v := by
  induction m with
  | nil => simp [mapIns, mapGet]
  | cons e t ih =>
    obtain ⟨i, w⟩ := e
    have hi : i ≠ k := h (i, w) (by simp)
    by_cases hk : k < i
    · simp [mapIns, mapGet, hk]
    · simp only [mapIns, hk, if_false, mapGet, hi]
      exact ih (fun e he => h e (List.mem_cons_of_mem _ he))

theorem mapDel_no_key (m : Map α) (k : Nat) : ∀ e ∈ mapDel m k, e.1 ≠ k := by
  induction m with
  | nil => simp [mapDel]
  | cons e t ih =>
    obtain ⟨i, v⟩ := e
    by_cases h : i = k
    · simpa [mapDel, h] using ih
    · intro e he
      simp only [mapDel, h, if_false, List.mem_cons] at he
      rcases he with rfl | he
      · exact h
      · exact ih e he

/-- A read after a write of the same key gives the value written. -/
@[simp] theorem mapGet_mapPut [DecidableEq α] (d : Nat → α) (m : Map α) (k : Nat) (v : α) : mapGet d (mapPut d m k v) k = v := by
  unfold mapPut
  split
  · rename_i h; rw [mapGet_mapDel_self, h]
  · exact mapGet_mapIns_self d _ k v (mapDel_no_key m k)

/-- A write leaves every other key alone. -/
theorem mapGet_mapPut_ne [DecidableEq α] (d : Nat → α) (m : Map α) {k j : Nat} (v : α) (h : j ≠ k) :
    mapGet d (mapPut d m k v) j = mapGet d m j := by
  unfold mapPut
  split
  · exact mapGet_mapDel_ne d m h
  · rw [mapGet_mapIns_ne d _ v h, mapGet_mapDel_ne d m h]

/-! ## The canonical form -/

theorem mapRising_mono {lo hi : Option Nat} (m : Map α) (h : mapRising hi m = true)
    (hl : ∀ a, lo = some a → ∃ b, hi = some b ∧ a ≤ b) : mapRising lo m = true := by
  cases m with
  | nil => rfl
  | cons e t =>
    obtain ⟨i, v⟩ := e
    simp only [mapRising, Bool.and_eq_true] at h ⊢
    refine ⟨?_, h.2⟩
    cases lo with
    | none => rfl
    | some a =>
      obtain ⟨b, hb, hab⟩ := hl a rfl
      subst hb
      have := h.1
      simp only [decide_eq_true_eq] at this ⊢
      omega

theorem mapRising_mapDel (m : Map α) (k : Nat) (lo : Option Nat) (h : mapRising lo m = true) : mapRising lo (mapDel m k) = true := by
  induction m generalizing lo with
  | nil => rfl
  | cons e t ih =>
    obtain ⟨i, v⟩ := e
    simp only [mapRising, Bool.and_eq_true] at h
    by_cases hi : i = k
    · simp only [mapDel, hi, if_true]
      refine ih lo (mapRising_mono t h.2 ?_)
      intro a ha
      subst ha
      have := h.1
      simp only [decide_eq_true_eq] at this
      exact ⟨i, rfl, by omega⟩
    · simp only [mapDel, hi, if_false, mapRising, Bool.and_eq_true]
      exact ⟨h.1, ih (some i) h.2⟩

theorem mapRising_mapIns (m : Map α) (k : Nat) (v : α) (lo : Option Nat) (h : mapRising lo m = true) (hk : ∀ e ∈ m, e.1 ≠ k)
    (hlo : ∀ a, lo = some a → a < k) : mapRising lo (mapIns m k v) = true := by
  induction m generalizing lo with
  | nil =>
    cases lo with
    | none => rfl
    | some a => simp [mapIns, mapRising, hlo a rfl]
  | cons e t ih =>
    obtain ⟨i, w⟩ := e
    have hi : i ≠ k := hk (i, w) (by simp)
    simp only [mapRising, Bool.and_eq_true] at h
    by_cases hki : k < i
    · simp only [mapIns, hki, if_true, mapRising, Bool.and_eq_true, decide_true, true_and]
      refine ⟨?_, h.2⟩
      cases lo with
      | none => rfl
      | some a => simp [hlo a rfl]
    · simp only [mapIns, hki, if_false, mapRising, Bool.and_eq_true]
      refine ⟨h.1, ih (some i) h.2 (fun e he => hk e (List.mem_cons_of_mem _ he)) ?_⟩
      intro a ha
      cases ha
      omega

theorem mem_mapDel {m : Map α} {k : Nat} {e : Nat × α} (h : e ∈ mapDel m k) : e ∈ m := by
  induction m with
  | nil => simp [mapDel] at h
  | cons x t ih =>
    obtain ⟨i, v⟩ := x
    by_cases hi : i = k
    · simp only [mapDel, hi, if_true] at h
      exact List.mem_cons_of_mem _ (ih h)
    · simp only [mapDel, hi, if_false, List.mem_cons] at h
      rcases h with rfl | h
      · simp
      · exact List.mem_cons_of_mem _ (ih h)

theorem mem_mapIns {m : Map α} {k : Nat} {v : α} {e : Nat × α} (h : e ∈ mapIns m k v) : e = (k, v) ∨ e ∈ m := by
  induction m with
  | nil => simpa [mapIns] using h
  | cons x t ih =>
    obtain ⟨i, w⟩ := x
    by_cases hk : k < i
    · simpa [mapIns, hk] using h
    · simp only [mapIns, hk, if_false, List.mem_cons] at h
      rcases h with rfl | h
      · simp
      · rcases ih h with h | h
        · exact .inl h
        · exact .inr (List.mem_cons_of_mem _ h)

/-- The empty store is canonical. -/
theorem mapWf_nil [DecidableEq α] (d : Nat → α) : mapWf d [] = true := rfl

/-- A write keeps the canonical form. -/
theorem mapWf_mapPut [DecidableEq α] (d : Nat → α) (m : Map α) (k : Nat) (v : α) (h : mapWf d m = true) :
    mapWf d (mapPut d m k v) = true := by
  simp only [mapWf, Bool.and_eq_true, List.all_eq_true, decide_eq_true_eq] at h ⊢
  unfold mapPut
  split
  · exact ⟨mapRising_mapDel m k none h.1, fun e he => h.2 e (mem_mapDel he)⟩
  · rename_i hv
    refine ⟨mapRising_mapIns _ k v none (mapRising_mapDel m k none h.1) (mapDel_no_key m k) (by simp), ?_⟩
    intro e he
    rcases mem_mapIns he with rfl | he
    · exact hv
    · exact h.2 e (mem_mapDel he)

/-- A change of several keys keeps the canonical form. -/
theorem mapWf_mapEach [DecidableEq α] (d : Nat → α) (m : Map α) (ks : List Nat) (f : Nat → α → α) (h : mapWf d m = true) :
    mapWf d (mapEach d m ks f) = true := by
  unfold mapEach
  induction ks generalizing m with
  | nil => exact h
  | cons k t ih => exact ih _ (mapWf_mapPut d m k _ h)

end Sys2Proof.Machine
end

