-- ==== Sys2Proof/Laws/State.lean ====
section
/-! SUPPORT. What a write of one register or record reads as afterwards, and that it leaves every other part of the state alone: one
lemma for each part and each write. -/

namespace Sys2Proof.Machine

/-! ## Registers and byte strings -/

@[simp] theorem State.rd_wr (s : State) (k v : Nat) : (s.wr k v).rd k = v := mapGet_mapPut _ _ _ _
theorem State.rd_wr_ne (s : State) {k j : Nat} (v : Nat) (h : j ≠ k) : (s.wr k v).rd j = s.rd j := mapGet_mapPut_ne _ _ _ h
@[simp] theorem State.rdBlob_wrBlob (s : State) (k : Nat) (v : List Byte) : (s.wrBlob k v).rdBlob k = v := mapGet_mapPut _ _ _ _
theorem State.rdBlob_wrBlob_ne (s : State) {k j : Nat} (v : List Byte) (h : j ≠ k) : (s.wrBlob k v).rdBlob j = s.rdBlob j :=
  mapGet_mapPut_ne _ _ _ h

/-! ## Port -/

@[simp] theorem State.getPort_putPort (s : State) (k : Nat) (v : PortSt) : (s.putPort k v).getPort k = v := mapGet_mapPut _ _ _ _
theorem State.getPort_putPort_ne (s : State) {k j : Nat} (v : PortSt) (h : j ≠ k) : (s.putPort k v).getPort j = s.getPort j :=
  mapGet_mapPut_ne _ _ _ h
@[simp] theorem State.getPort_modPort (s : State) (k : Nat) (f : PortSt → PortSt) : (s.modPort k f).getPort k = f (s.getPort k) :=
  mapGet_mapPut _ _ _ _
theorem State.getPort_modPort_ne (s : State) {k j : Nat} (f : PortSt → PortSt) (h : j ≠ k) : (s.modPort k f).getPort j = s.getPort j :=
  mapGet_mapPut_ne _ _ _ h

/-! ## Line -/

@[simp] theorem State.getLine_putLine (s : State) (k : Nat) (v : LineSt) : (s.putLine k v).getLine k = v := mapGet_mapPut _ _ _ _
theorem State.getLine_putLine_ne (s : State) {k j : Nat} (v : LineSt) (h : j ≠ k) : (s.putLine k v).getLine j = s.getLine j :=
  mapGet_mapPut_ne _ _ _ h
@[simp] theorem State.getLine_modLine (s : State) (k : Nat) (f : LineSt → LineSt) : (s.modLine k f).getLine k = f (s.getLine k) :=
  mapGet_mapPut _ _ _ _
theorem State.getLine_modLine_ne (s : State) {k j : Nat} (f : LineSt → LineSt) (h : j ≠ k) : (s.modLine k f).getLine j = s.getLine j :=
  mapGet_mapPut_ne _ _ _ h

/-! ## Pn2 -/

@[simp] theorem State.getPn2_putPn2 (s : State) (k : Nat) (v : Pn2St) : (s.putPn2 k v).getPn2 k = v := mapGet_mapPut _ _ _ _
theorem State.getPn2_putPn2_ne (s : State) {k j : Nat} (v : Pn2St) (h : j ≠ k) : (s.putPn2 k v).getPn2 j = s.getPn2 j :=
  mapGet_mapPut_ne _ _ _ h
@[simp] theorem State.getPn2_modPn2 (s : State) (k : Nat) (f : Pn2St → Pn2St) : (s.modPn2 k f).getPn2 k = f (s.getPn2 k) :=
  mapGet_mapPut _ _ _ _
theorem State.getPn2_modPn2_ne (s : State) {k j : Nat} (f : Pn2St → Pn2St) (h : j ≠ k) : (s.modPn2 k f).getPn2 j = s.getPn2 j :=
  mapGet_mapPut_ne _ _ _ h

/-! ## Chan -/

@[simp] theorem State.getChan_putChan (s : State) (k : Nat) (v : ChanSt) : (s.putChan k v).getChan k = v := mapGet_mapPut _ _ _ _
theorem State.getChan_putChan_ne (s : State) {k j : Nat} (v : ChanSt) (h : j ≠ k) : (s.putChan k v).getChan j = s.getChan j :=
  mapGet_mapPut_ne _ _ _ h
@[simp] theorem State.getChan_modChan (s : State) (k : Nat) (f : ChanSt → ChanSt) : (s.modChan k f).getChan k = f (s.getChan k) :=
  mapGet_mapPut _ _ _ _
theorem State.getChan_modChan_ne (s : State) {k j : Nat} (f : ChanSt → ChanSt) (h : j ≠ k) : (s.modChan k f).getChan j = s.getChan j :=
  mapGet_mapPut_ne _ _ _ h

/-! ## Plan -/

@[simp] theorem State.getPlan_putPlan (s : State) (k : Nat) (v : PlanSt) : (s.putPlan k v).getPlan k = v := mapGet_mapPut _ _ _ _
theorem State.getPlan_putPlan_ne (s : State) {k j : Nat} (v : PlanSt) (h : j ≠ k) : (s.putPlan k v).getPlan j = s.getPlan j :=
  mapGet_mapPut_ne _ _ _ h
@[simp] theorem State.getPlan_modPlan (s : State) (k : Nat) (f : PlanSt → PlanSt) : (s.modPlan k f).getPlan k = f (s.getPlan k) :=
  mapGet_mapPut _ _ _ _
theorem State.getPlan_modPlan_ne (s : State) {k j : Nat} (f : PlanSt → PlanSt) (h : j ≠ k) : (s.modPlan k f).getPlan j = s.getPlan j :=
  mapGet_mapPut_ne _ _ _ h

/-! ## Srv -/

@[simp] theorem State.getSrv_putSrv (s : State) (k : Nat) (v : SrvSt) : (s.putSrv k v).getSrv k = v := mapGet_mapPut _ _ _ _
theorem State.getSrv_putSrv_ne (s : State) {k j : Nat} (v : SrvSt) (h : j ≠ k) : (s.putSrv k v).getSrv j = s.getSrv j :=
  mapGet_mapPut_ne _ _ _ h
@[simp] theorem State.getSrv_modSrv (s : State) (k : Nat) (f : SrvSt → SrvSt) : (s.modSrv k f).getSrv k = f (s.getSrv k) :=
  mapGet_mapPut _ _ _ _
theorem State.getSrv_modSrv_ne (s : State) {k j : Nat} (f : SrvSt → SrvSt) (h : j ≠ k) : (s.modSrv k f).getSrv j = s.getSrv j :=
  mapGet_mapPut_ne _ _ _ h

/-! ## Shadow -/

@[simp] theorem State.getShadow_putShadow (s : State) (k : Nat) (v : SrvSt) : (s.putShadow k v).getShadow k = v := mapGet_mapPut _ _ _ _
theorem State.getShadow_putShadow_ne (s : State) {k j : Nat} (v : SrvSt) (h : j ≠ k) : (s.putShadow k v).getShadow j = s.getShadow j :=
  mapGet_mapPut_ne _ _ _ h
@[simp] theorem State.getShadow_modShadow (s : State) (k : Nat) (f : SrvSt → SrvSt) : (s.modShadow k f).getShadow k = f (s.getShadow k) :=
  mapGet_mapPut _ _ _ _
theorem State.getShadow_modShadow_ne (s : State) {k j : Nat} (f : SrvSt → SrvSt) (h : j ≠ k) : (s.modShadow k f).getShadow j = s.getShadow j :=
  mapGet_mapPut_ne _ _ _ h

/-! ## SpdShadow -/

@[simp] theorem State.getSpdShadow_putSpdShadow (s : State) (k : Nat) (v : SpdSt) : (s.putSpdShadow k v).getSpdShadow k = v := mapGet_mapPut _ _ _ _
theorem State.getSpdShadow_putSpdShadow_ne (s : State) {k j : Nat} (v : SpdSt) (h : j ≠ k) : (s.putSpdShadow k v).getSpdShadow j = s.getSpdShadow j :=
  mapGet_mapPut_ne _ _ _ h
@[simp] theorem State.getSpdShadow_modSpdShadow (s : State) (k : Nat) (f : SpdSt → SpdSt) : (s.modSpdShadow k f).getSpdShadow k = f (s.getSpdShadow k) :=
  mapGet_mapPut _ _ _ _
theorem State.getSpdShadow_modSpdShadow_ne (s : State) {k j : Nat} (f : SpdSt → SpdSt) (h : j ≠ k) : (s.modSpdShadow k f).getSpdShadow j = s.getSpdShadow j :=
  mapGet_mapPut_ne _ _ _ h

/-! ## Seq -/

@[simp] theorem State.getSeq_putSeq (s : State) (k : Nat) (v : SeqSt) : (s.putSeq k v).getSeq k = v := mapGet_mapPut _ _ _ _
theorem State.getSeq_putSeq_ne (s : State) {k j : Nat} (v : SeqSt) (h : j ≠ k) : (s.putSeq k v).getSeq j = s.getSeq j :=
  mapGet_mapPut_ne _ _ _ h
@[simp] theorem State.getSeq_modSeq (s : State) (k : Nat) (f : SeqSt → SeqSt) : (s.modSeq k f).getSeq k = f (s.getSeq k) :=
  mapGet_mapPut _ _ _ _
theorem State.getSeq_modSeq_ne (s : State) {k j : Nat} (f : SeqSt → SeqSt) (h : j ≠ k) : (s.modSeq k f).getSeq j = s.getSeq j :=
  mapGet_mapPut_ne _ _ _ h

/-! ## Fab -/

@[simp] theorem State.getFab_putFab (s : State) (k : Nat) (v : FabSt) : (s.putFab k v).getFab k = v := mapGet_mapPut _ _ _ _
theorem State.getFab_putFab_ne (s : State) {k j : Nat} (v : FabSt) (h : j ≠ k) : (s.putFab k v).getFab j = s.getFab j :=
  mapGet_mapPut_ne _ _ _ h
@[simp] theorem State.getFab_modFab (s : State) (k : Nat) (f : FabSt → FabSt) : (s.modFab k f).getFab k = f (s.getFab k) :=
  mapGet_mapPut _ _ _ _
theorem State.getFab_modFab_ne (s : State) {k j : Nat} (f : FabSt → FabSt) (h : j ≠ k) : (s.modFab k f).getFab j = s.getFab j :=
  mapGet_mapPut_ne _ _ _ h

/-! ## Dma -/

@[simp] theorem State.getDma_putDma (s : State) (k : Nat) (v : DmaSt) : (s.putDma k v).getDma k = v := mapGet_mapPut _ _ _ _
theorem State.getDma_putDma_ne (s : State) {k j : Nat} (v : DmaSt) (h : j ≠ k) : (s.putDma k v).getDma j = s.getDma j :=
  mapGet_mapPut_ne _ _ _ h
@[simp] theorem State.getDma_modDma (s : State) (k : Nat) (f : DmaSt → DmaSt) : (s.modDma k f).getDma k = f (s.getDma k) :=
  mapGet_mapPut _ _ _ _
theorem State.getDma_modDma_ne (s : State) {k j : Nat} (f : DmaSt → DmaSt) (h : j ≠ k) : (s.modDma k f).getDma j = s.getDma j :=
  mapGet_mapPut_ne _ _ _ h

/-! ## Raw -/

@[simp] theorem State.getRaw_putRaw (s : State) (k : Nat) (v : RawSt) : (s.putRaw k v).getRaw k = v := mapGet_mapPut _ _ _ _
theorem State.getRaw_putRaw_ne (s : State) {k j : Nat} (v : RawSt) (h : j ≠ k) : (s.putRaw k v).getRaw j = s.getRaw j :=
  mapGet_mapPut_ne _ _ _ h
@[simp] theorem State.getRaw_modRaw (s : State) (k : Nat) (f : RawSt → RawSt) : (s.modRaw k f).getRaw k = f (s.getRaw k) :=
  mapGet_mapPut _ _ _ _
theorem State.getRaw_modRaw_ne (s : State) {k j : Nat} (f : RawSt → RawSt) (h : j ≠ k) : (s.modRaw k f).getRaw j = s.getRaw j :=
  mapGet_mapPut_ne _ _ _ h

/-! ## Spd -/

@[simp] theorem State.getSpd_putSpd (s : State) (k : Nat) (v : SpdSt) : (s.putSpd k v).getSpd k = v := mapGet_mapPut _ _ _ _
theorem State.getSpd_putSpd_ne (s : State) {k j : Nat} (v : SpdSt) (h : j ≠ k) : (s.putSpd k v).getSpd j = s.getSpd j :=
  mapGet_mapPut_ne _ _ _ h
@[simp] theorem State.getSpd_modSpd (s : State) (k : Nat) (f : SpdSt → SpdSt) : (s.modSpd k f).getSpd k = f (s.getSpd k) :=
  mapGet_mapPut _ _ _ _
theorem State.getSpd_modSpd_ne (s : State) {k j : Nat} (f : SpdSt → SpdSt) (h : j ≠ k) : (s.modSpd k f).getSpd j = s.getSpd j :=
  mapGet_mapPut_ne _ _ _ h

/-! ## Hda -/

@[simp] theorem State.getHda_putHda (s : State) (k : Nat) (v : HdaSt) : (s.putHda k v).getHda k = v := mapGet_mapPut _ _ _ _
theorem State.getHda_putHda_ne (s : State) {k j : Nat} (v : HdaSt) (h : j ≠ k) : (s.putHda k v).getHda j = s.getHda j :=
  mapGet_mapPut_ne _ _ _ h
@[simp] theorem State.getHda_modHda (s : State) (k : Nat) (f : HdaSt → HdaSt) : (s.modHda k f).getHda k = f (s.getHda k) :=
  mapGet_mapPut _ _ _ _
theorem State.getHda_modHda_ne (s : State) {k j : Nat} (f : HdaSt → HdaSt) (h : j ≠ k) : (s.modHda k f).getHda j = s.getHda j :=
  mapGet_mapPut_ne _ _ _ h

/-! ## Sensor -/

@[simp] theorem State.getSensor_putSensor (s : State) (k : Nat) (v : Reading) : (s.putSensor k v).getSensor k = v := mapGet_mapPut _ _ _ _
theorem State.getSensor_putSensor_ne (s : State) {k j : Nat} (v : Reading) (h : j ≠ k) : (s.putSensor k v).getSensor j = s.getSensor j :=
  mapGet_mapPut_ne _ _ _ h
@[simp] theorem State.getSensor_modSensor (s : State) (k : Nat) (f : Reading → Reading) : (s.modSensor k f).getSensor k = f (s.getSensor k) :=
  mapGet_mapPut _ _ _ _
theorem State.getSensor_modSensor_ne (s : State) {k j : Nat} (f : Reading → Reading) (h : j ≠ k) : (s.modSensor k f).getSensor j = s.getSensor j :=
  mapGet_mapPut_ne _ _ _ h

/-! ## Ctrl -/

@[simp] theorem State.getCtrl_putCtrl (s : State) (k : Nat) (v : CtrlSt) : (s.putCtrl k v).getCtrl k = v := mapGet_mapPut _ _ _ _
theorem State.getCtrl_putCtrl_ne (s : State) {k j : Nat} (v : CtrlSt) (h : j ≠ k) : (s.putCtrl k v).getCtrl j = s.getCtrl j :=
  mapGet_mapPut_ne _ _ _ h
@[simp] theorem State.getCtrl_modCtrl (s : State) (k : Nat) (f : CtrlSt → CtrlSt) : (s.modCtrl k f).getCtrl k = f (s.getCtrl k) :=
  mapGet_mapPut _ _ _ _
theorem State.getCtrl_modCtrl_ne (s : State) {k j : Nat} (f : CtrlSt → CtrlSt) (h : j ≠ k) : (s.modCtrl k f).getCtrl j = s.getCtrl j :=
  mapGet_mapPut_ne _ _ _ h

/-! ## Buf -/

@[simp] theorem State.getBuf_putBuf (s : State) (k : Nat) (v : BufSt) : (s.putBuf k v).getBuf k = v := mapGet_mapPut _ _ _ _
theorem State.getBuf_putBuf_ne (s : State) {k j : Nat} (v : BufSt) (h : j ≠ k) : (s.putBuf k v).getBuf j = s.getBuf j :=
  mapGet_mapPut_ne _ _ _ h
@[simp] theorem State.getBuf_modBuf (s : State) (k : Nat) (f : BufSt → BufSt) : (s.modBuf k f).getBuf k = f (s.getBuf k) :=
  mapGet_mapPut _ _ _ _
theorem State.getBuf_modBuf_ne (s : State) {k j : Nat} (f : BufSt → BufSt) (h : j ≠ k) : (s.modBuf k f).getBuf j = s.getBuf j :=
  mapGet_mapPut_ne _ _ _ h

/-! ## Cache -/

@[simp] theorem State.getCache_putCache (s : State) (k : Nat) (v : CacheSt) : (s.putCache k v).getCache k = v := mapGet_mapPut _ _ _ _
theorem State.getCache_putCache_ne (s : State) {k j : Nat} (v : CacheSt) (h : j ≠ k) : (s.putCache k v).getCache j = s.getCache j :=
  mapGet_mapPut_ne _ _ _ h
@[simp] theorem State.getCache_modCache (s : State) (k : Nat) (f : CacheSt → CacheSt) : (s.modCache k f).getCache k = f (s.getCache k) :=
  mapGet_mapPut _ _ _ _
theorem State.getCache_modCache_ne (s : State) {k j : Nat} (f : CacheSt → CacheSt) (h : j ≠ k) : (s.modCache k f).getCache j = s.getCache j :=
  mapGet_mapPut_ne _ _ _ h

/-! ## Fw -/

@[simp] theorem State.getFw_putFw (s : State) (k : Nat) (v : FwSt) : (s.putFw k v).getFw k = v := mapGet_mapPut _ _ _ _
theorem State.getFw_putFw_ne (s : State) {k j : Nat} (v : FwSt) (h : j ≠ k) : (s.putFw k v).getFw j = s.getFw j :=
  mapGet_mapPut_ne _ _ _ h
@[simp] theorem State.getFw_modFw (s : State) (k : Nat) (f : FwSt → FwSt) : (s.modFw k f).getFw k = f (s.getFw k) :=
  mapGet_mapPut _ _ _ _
theorem State.getFw_modFw_ne (s : State) {k j : Nat} (f : FwSt → FwSt) (h : j ≠ k) : (s.modFw k f).getFw j = s.getFw j :=
  mapGet_mapPut_ne _ _ _ h

/-! ## Jf -/

@[simp] theorem State.getJf_putJf (s : State) (k : Nat) (v : JfSt) : (s.putJf k v).getJf k = v := mapGet_mapPut _ _ _ _
theorem State.getJf_putJf_ne (s : State) {k j : Nat} (v : JfSt) (h : j ≠ k) : (s.putJf k v).getJf j = s.getJf j :=
  mapGet_mapPut_ne _ _ _ h
@[simp] theorem State.getJf_modJf (s : State) (k : Nat) (f : JfSt → JfSt) : (s.modJf k f).getJf k = f (s.getJf k) :=
  mapGet_mapPut _ _ _ _
theorem State.getJf_modJf_ne (s : State) {k j : Nat} (f : JfSt → JfSt) (h : j ≠ k) : (s.modJf k f).getJf j = s.getJf j :=
  mapGet_mapPut_ne _ _ _ h

/-! ## Er -/

@[simp] theorem State.getEr_putEr (s : State) (k : Nat) (v : ErSt) : (s.putEr k v).getEr k = v := mapGet_mapPut _ _ _ _
theorem State.getEr_putEr_ne (s : State) {k j : Nat} (v : ErSt) (h : j ≠ k) : (s.putEr k v).getEr j = s.getEr j :=
  mapGet_mapPut_ne _ _ _ h
@[simp] theorem State.getEr_modEr (s : State) (k : Nat) (f : ErSt → ErSt) : (s.modEr k f).getEr k = f (s.getEr k) :=
  mapGet_mapPut _ _ _ _
theorem State.getEr_modEr_ne (s : State) {k j : Nat} (f : ErSt → ErSt) (h : j ≠ k) : (s.modEr k f).getEr j = s.getEr j :=
  mapGet_mapPut_ne _ _ _ h

/-! ## Set -/

@[simp] theorem State.getSet_putSet (s : State) (k : Nat) (v : SetSt) : (s.putSet k v).getSet k = v := mapGet_mapPut _ _ _ _
theorem State.getSet_putSet_ne (s : State) {k j : Nat} (v : SetSt) (h : j ≠ k) : (s.putSet k v).getSet j = s.getSet j :=
  mapGet_mapPut_ne _ _ _ h
@[simp] theorem State.getSet_modSet (s : State) (k : Nat) (f : SetSt → SetSt) : (s.modSet k f).getSet k = f (s.getSet k) :=
  mapGet_mapPut _ _ _ _
theorem State.getSet_modSet_ne (s : State) {k j : Nat} (f : SetSt → SetSt) (h : j ≠ k) : (s.modSet k f).getSet j = s.getSet j :=
  mapGet_mapPut_ne _ _ _ h

/-! ## Dict -/

@[simp] theorem State.getDict_putDict (s : State) (k : Nat) (v : DictSt) : (s.putDict k v).getDict k = v := mapGet_mapPut _ _ _ _
theorem State.getDict_putDict_ne (s : State) {k j : Nat} (v : DictSt) (h : j ≠ k) : (s.putDict k v).getDict j = s.getDict j :=
  mapGet_mapPut_ne _ _ _ h
@[simp] theorem State.getDict_modDict (s : State) (k : Nat) (f : DictSt → DictSt) : (s.modDict k f).getDict k = f (s.getDict k) :=
  mapGet_mapPut _ _ _ _
theorem State.getDict_modDict_ne (s : State) {k j : Nat} (f : DictSt → DictSt) (h : j ≠ k) : (s.modDict k f).getDict j = s.getDict j :=
  mapGet_mapPut_ne _ _ _ h

/-! ## Fuse -/

@[simp] theorem State.getFuse_putFuse (s : State) (k : Nat) (v : FuseSt) : (s.putFuse k v).getFuse k = v := mapGet_mapPut _ _ _ _
theorem State.getFuse_putFuse_ne (s : State) {k j : Nat} (v : FuseSt) (h : j ≠ k) : (s.putFuse k v).getFuse j = s.getFuse j :=
  mapGet_mapPut_ne _ _ _ h
@[simp] theorem State.getFuse_modFuse (s : State) (k : Nat) (f : FuseSt → FuseSt) : (s.modFuse k f).getFuse k = f (s.getFuse k) :=
  mapGet_mapPut _ _ _ _
theorem State.getFuse_modFuse_ne (s : State) {k j : Nat} (f : FuseSt → FuseSt) (h : j ≠ k) : (s.modFuse k f).getFuse j = s.getFuse j :=
  mapGet_mapPut_ne _ _ _ h

/-! ## What `wr` leaves alone -/

@[simp] theorem State.wr_pending (s : State) (k v : Nat) : (s.wr k v).pending = s.pending := rfl
@[simp] theorem State.wr_now (s : State) (k v : Nat) : (s.wr k v).now = s.now := rfl
@[simp] theorem State.wr_fresh (s : State) (k v : Nat) : (s.wr k v).fresh = s.fresh := rfl
@[simp] theorem State.wr_blob (s : State) (k v : Nat) : (s.wr k v).blob = s.blob := rfl
@[simp] theorem State.wr_mode (s : State) (k v : Nat) : (s.wr k v).mode = s.mode := rfl
@[simp] theorem State.wr_sup (s : State) (k v : Nat) : (s.wr k v).sup = s.sup := rfl
@[simp] theorem State.wr_port (s : State) (k v : Nat) : (s.wr k v).port = s.port := rfl
@[simp] theorem State.wr_line (s : State) (k v : Nat) : (s.wr k v).line = s.line := rfl
@[simp] theorem State.wr_pn2 (s : State) (k v : Nat) : (s.wr k v).pn2 = s.pn2 := rfl
@[simp] theorem State.wr_chan (s : State) (k v : Nat) : (s.wr k v).chan = s.chan := rfl
@[simp] theorem State.wr_plan (s : State) (k v : Nat) : (s.wr k v).plan = s.plan := rfl
@[simp] theorem State.wr_srv (s : State) (k v : Nat) : (s.wr k v).srv = s.srv := rfl
@[simp] theorem State.wr_shadow (s : State) (k v : Nat) : (s.wr k v).shadow = s.shadow := rfl
@[simp] theorem State.wr_spdShadow (s : State) (k v : Nat) : (s.wr k v).spdShadow = s.spdShadow := rfl
@[simp] theorem State.wr_seq (s : State) (k v : Nat) : (s.wr k v).seq = s.seq := rfl
@[simp] theorem State.wr_mc (s : State) (k v : Nat) : (s.wr k v).mc = s.mc := rfl
@[simp] theorem State.wr_fabric (s : State) (k v : Nat) : (s.wr k v).fabric = s.fabric := rfl
@[simp] theorem State.wr_fab (s : State) (k v : Nat) : (s.wr k v).fab = s.fab := rfl
@[simp] theorem State.wr_dma (s : State) (k v : Nat) : (s.wr k v).dma = s.dma := rfl
@[simp] theorem State.wr_raw (s : State) (k v : Nat) : (s.wr k v).raw = s.raw := rfl
@[simp] theorem State.wr_spd (s : State) (k v : Nat) : (s.wr k v).spd = s.spd := rfl
@[simp] theorem State.wr_sweepRef (s : State) (k v : Nat) : (s.wr k v).sweepRef = s.sweepRef := rfl
@[simp] theorem State.wr_rpm (s : State) (k v : Nat) : (s.wr k v).rpm = s.rpm := rfl
@[simp] theorem State.wr_hda (s : State) (k v : Nat) : (s.wr k v).hda = s.hda := rfl
@[simp] theorem State.wr_sensor (s : State) (k v : Nat) : (s.wr k v).sensor = s.sensor := rfl
@[simp] theorem State.wr_os (s : State) (k v : Nat) : (s.wr k v).os = s.os := rfl
@[simp] theorem State.wr_cmds (s : State) (k v : Nat) : (s.wr k v).cmds = s.cmds := rfl
@[simp] theorem State.wr_deferred (s : State) (k v : Nat) : (s.wr k v).deferred = s.deferred := rfl
@[simp] theorem State.wr_heldCpl (s : State) (k v : Nat) : (s.wr k v).heldCpl = s.heldCpl := rfl
@[simp] theorem State.wr_lastCtrl (s : State) (k v : Nat) : (s.wr k v).lastCtrl = s.lastCtrl := rfl
@[simp] theorem State.wr_ctrl (s : State) (k v : Nat) : (s.wr k v).ctrl = s.ctrl := rfl
@[simp] theorem State.wr_buf (s : State) (k v : Nat) : (s.wr k v).buf = s.buf := rfl
@[simp] theorem State.wr_cache (s : State) (k v : Nat) : (s.wr k v).cache = s.cache := rfl
@[simp] theorem State.wr_pair (s : State) (k v : Nat) : (s.wr k v).pair = s.pair := rfl
@[simp] theorem State.wr_casc (s : State) (k v : Nat) : (s.wr k v).casc = s.casc := rfl
@[simp] theorem State.wr_fw (s : State) (k v : Nat) : (s.wr k v).fw = s.fw := rfl
@[simp] theorem State.wr_jf (s : State) (k v : Nat) : (s.wr k v).jf = s.jf := rfl
@[simp] theorem State.wr_er (s : State) (k v : Nat) : (s.wr k v).er = s.er := rfl
@[simp] theorem State.wr_set (s : State) (k v : Nat) : (s.wr k v).set = s.set := rfl
@[simp] theorem State.wr_dict (s : State) (k v : Nat) : (s.wr k v).dict = s.dict := rfl
@[simp] theorem State.wr_fuse (s : State) (k v : Nat) : (s.wr k v).fuse = s.fuse := rfl
@[simp] theorem State.wr_kdapTx (s : State) (k v : Nat) : (s.wr k v).kdapTx = s.kdapTx := rfl
@[simp] theorem State.wr_mon (s : State) (k v : Nat) : (s.wr k v).mon = s.mon := rfl
@[simp] theorem State.wr_emcy (s : State) (k v : Nat) : (s.wr k v).emcy = s.emcy := rfl
@[simp] theorem State.wr_answers (s : State) (k v : Nat) : (s.wr k v).answers = s.answers := rfl
@[simp] theorem State.wr_accHeld (s : State) (k v : Nat) : (s.wr k v).accHeld = s.accHeld := rfl

/-! ## What `wrBlob` leaves alone -/

@[simp] theorem State.wrBlob_pending (s : State) (k : Nat) (v : List Byte) : (s.wrBlob k v).pending = s.pending := rfl
@[simp] theorem State.wrBlob_now (s : State) (k : Nat) (v : List Byte) : (s.wrBlob k v).now = s.now := rfl
@[simp] theorem State.wrBlob_fresh (s : State) (k : Nat) (v : List Byte) : (s.wrBlob k v).fresh = s.fresh := rfl
@[simp] theorem State.wrBlob_obj (s : State) (k : Nat) (v : List Byte) : (s.wrBlob k v).obj = s.obj := rfl
@[simp] theorem State.wrBlob_mode (s : State) (k : Nat) (v : List Byte) : (s.wrBlob k v).mode = s.mode := rfl
@[simp] theorem State.wrBlob_sup (s : State) (k : Nat) (v : List Byte) : (s.wrBlob k v).sup = s.sup := rfl
@[simp] theorem State.wrBlob_port (s : State) (k : Nat) (v : List Byte) : (s.wrBlob k v).port = s.port := rfl
@[simp] theorem State.wrBlob_line (s : State) (k : Nat) (v : List Byte) : (s.wrBlob k v).line = s.line := rfl
@[simp] theorem State.wrBlob_pn2 (s : State) (k : Nat) (v : List Byte) : (s.wrBlob k v).pn2 = s.pn2 := rfl
@[simp] theorem State.wrBlob_chan (s : State) (k : Nat) (v : List Byte) : (s.wrBlob k v).chan = s.chan := rfl
@[simp] theorem State.wrBlob_plan (s : State) (k : Nat) (v : List Byte) : (s.wrBlob k v).plan = s.plan := rfl
@[simp] theorem State.wrBlob_srv (s : State) (k : Nat) (v : List Byte) : (s.wrBlob k v).srv = s.srv := rfl
@[simp] theorem State.wrBlob_shadow (s : State) (k : Nat) (v : List Byte) : (s.wrBlob k v).shadow = s.shadow := rfl
@[simp] theorem State.wrBlob_spdShadow (s : State) (k : Nat) (v : List Byte) : (s.wrBlob k v).spdShadow = s.spdShadow := rfl
@[simp] theorem State.wrBlob_seq (s : State) (k : Nat) (v : List Byte) : (s.wrBlob k v).seq = s.seq := rfl
@[simp] theorem State.wrBlob_mc (s : State) (k : Nat) (v : List Byte) : (s.wrBlob k v).mc = s.mc := rfl
@[simp] theorem State.wrBlob_fabric (s : State) (k : Nat) (v : List Byte) : (s.wrBlob k v).fabric = s.fabric := rfl
@[simp] theorem State.wrBlob_fab (s : State) (k : Nat) (v : List Byte) : (s.wrBlob k v).fab = s.fab := rfl
@[simp] theorem State.wrBlob_dma (s : State) (k : Nat) (v : List Byte) : (s.wrBlob k v).dma = s.dma := rfl
@[simp] theorem State.wrBlob_raw (s : State) (k : Nat) (v : List Byte) : (s.wrBlob k v).raw = s.raw := rfl
@[simp] theorem State.wrBlob_spd (s : State) (k : Nat) (v : List Byte) : (s.wrBlob k v).spd = s.spd := rfl
@[simp] theorem State.wrBlob_sweepRef (s : State) (k : Nat) (v : List Byte) : (s.wrBlob k v).sweepRef = s.sweepRef := rfl
@[simp] theorem State.wrBlob_rpm (s : State) (k : Nat) (v : List Byte) : (s.wrBlob k v).rpm = s.rpm := rfl
@[simp] theorem State.wrBlob_hda (s : State) (k : Nat) (v : List Byte) : (s.wrBlob k v).hda = s.hda := rfl
@[simp] theorem State.wrBlob_sensor (s : State) (k : Nat) (v : List Byte) : (s.wrBlob k v).sensor = s.sensor := rfl
@[simp] theorem State.wrBlob_os (s : State) (k : Nat) (v : List Byte) : (s.wrBlob k v).os = s.os := rfl
@[simp] theorem State.wrBlob_cmds (s : State) (k : Nat) (v : List Byte) : (s.wrBlob k v).cmds = s.cmds := rfl
@[simp] theorem State.wrBlob_deferred (s : State) (k : Nat) (v : List Byte) : (s.wrBlob k v).deferred = s.deferred := rfl
@[simp] theorem State.wrBlob_heldCpl (s : State) (k : Nat) (v : List Byte) : (s.wrBlob k v).heldCpl = s.heldCpl := rfl
@[simp] theorem State.wrBlob_lastCtrl (s : State) (k : Nat) (v : List Byte) : (s.wrBlob k v).lastCtrl = s.lastCtrl := rfl
@[simp] theorem State.wrBlob_ctrl (s : State) (k : Nat) (v : List Byte) : (s.wrBlob k v).ctrl = s.ctrl := rfl
@[simp] theorem State.wrBlob_buf (s : State) (k : Nat) (v : List Byte) : (s.wrBlob k v).buf = s.buf := rfl
@[simp] theorem State.wrBlob_cache (s : State) (k : Nat) (v : List Byte) : (s.wrBlob k v).cache = s.cache := rfl
@[simp] theorem State.wrBlob_pair (s : State) (k : Nat) (v : List Byte) : (s.wrBlob k v).pair = s.pair := rfl
@[simp] theorem State.wrBlob_casc (s : State) (k : Nat) (v : List Byte) : (s.wrBlob k v).casc = s.casc := rfl
@[simp] theorem State.wrBlob_fw (s : State) (k : Nat) (v : List Byte) : (s.wrBlob k v).fw = s.fw := rfl
@[simp] theorem State.wrBlob_jf (s : State) (k : Nat) (v : List Byte) : (s.wrBlob k v).jf = s.jf := rfl
@[simp] theorem State.wrBlob_er (s : State) (k : Nat) (v : List Byte) : (s.wrBlob k v).er = s.er := rfl
@[simp] theorem State.wrBlob_set (s : State) (k : Nat) (v : List Byte) : (s.wrBlob k v).set = s.set := rfl
@[simp] theorem State.wrBlob_dict (s : State) (k : Nat) (v : List Byte) : (s.wrBlob k v).dict = s.dict := rfl
@[simp] theorem State.wrBlob_fuse (s : State) (k : Nat) (v : List Byte) : (s.wrBlob k v).fuse = s.fuse := rfl
@[simp] theorem State.wrBlob_kdapTx (s : State) (k : Nat) (v : List Byte) : (s.wrBlob k v).kdapTx = s.kdapTx := rfl
@[simp] theorem State.wrBlob_mon (s : State) (k : Nat) (v : List Byte) : (s.wrBlob k v).mon = s.mon := rfl
@[simp] theorem State.wrBlob_emcy (s : State) (k : Nat) (v : List Byte) : (s.wrBlob k v).emcy = s.emcy := rfl
@[simp] theorem State.wrBlob_answers (s : State) (k : Nat) (v : List Byte) : (s.wrBlob k v).answers = s.answers := rfl
@[simp] theorem State.wrBlob_accHeld (s : State) (k : Nat) (v : List Byte) : (s.wrBlob k v).accHeld = s.accHeld := rfl

/-! ## What `putPort` leaves alone -/

@[simp] theorem State.putPort_pending (s : State) (k : Nat) (v : PortSt) : (s.putPort k v).pending = s.pending := rfl
@[simp] theorem State.putPort_now (s : State) (k : Nat) (v : PortSt) : (s.putPort k v).now = s.now := rfl
@[simp] theorem State.putPort_fresh (s : State) (k : Nat) (v : PortSt) : (s.putPort k v).fresh = s.fresh := rfl
@[simp] theorem State.putPort_obj (s : State) (k : Nat) (v : PortSt) : (s.putPort k v).obj = s.obj := rfl
@[simp] theorem State.putPort_blob (s : State) (k : Nat) (v : PortSt) : (s.putPort k v).blob = s.blob := rfl
@[simp] theorem State.putPort_mode (s : State) (k : Nat) (v : PortSt) : (s.putPort k v).mode = s.mode := rfl
@[simp] theorem State.putPort_sup (s : State) (k : Nat) (v : PortSt) : (s.putPort k v).sup = s.sup := rfl
@[simp] theorem State.putPort_line (s : State) (k : Nat) (v : PortSt) : (s.putPort k v).line = s.line := rfl
@[simp] theorem State.putPort_pn2 (s : State) (k : Nat) (v : PortSt) : (s.putPort k v).pn2 = s.pn2 := rfl
@[simp] theorem State.putPort_chan (s : State) (k : Nat) (v : PortSt) : (s.putPort k v).chan = s.chan := rfl
@[simp] theorem State.putPort_plan (s : State) (k : Nat) (v : PortSt) : (s.putPort k v).plan = s.plan := rfl
@[simp] theorem State.putPort_srv (s : State) (k : Nat) (v : PortSt) : (s.putPort k v).srv = s.srv := rfl
@[simp] theorem State.putPort_shadow (s : State) (k : Nat) (v : PortSt) : (s.putPort k v).shadow = s.shadow := rfl
@[simp] theorem State.putPort_spdShadow (s : State) (k : Nat) (v : PortSt) : (s.putPort k v).spdShadow = s.spdShadow := rfl
@[simp] theorem State.putPort_seq (s : State) (k : Nat) (v : PortSt) : (s.putPort k v).seq = s.seq := rfl
@[simp] theorem State.putPort_mc (s : State) (k : Nat) (v : PortSt) : (s.putPort k v).mc = s.mc := rfl
@[simp] theorem State.putPort_fabric (s : State) (k : Nat) (v : PortSt) : (s.putPort k v).fabric = s.fabric := rfl
@[simp] theorem State.putPort_fab (s : State) (k : Nat) (v : PortSt) : (s.putPort k v).fab = s.fab := rfl
@[simp] theorem State.putPort_dma (s : State) (k : Nat) (v : PortSt) : (s.putPort k v).dma = s.dma := rfl
@[simp] theorem State.putPort_raw (s : State) (k : Nat) (v : PortSt) : (s.putPort k v).raw = s.raw := rfl
@[simp] theorem State.putPort_spd (s : State) (k : Nat) (v : PortSt) : (s.putPort k v).spd = s.spd := rfl
@[simp] theorem State.putPort_sweepRef (s : State) (k : Nat) (v : PortSt) : (s.putPort k v).sweepRef = s.sweepRef := rfl
@[simp] theorem State.putPort_rpm (s : State) (k : Nat) (v : PortSt) : (s.putPort k v).rpm = s.rpm := rfl
@[simp] theorem State.putPort_hda (s : State) (k : Nat) (v : PortSt) : (s.putPort k v).hda = s.hda := rfl
@[simp] theorem State.putPort_sensor (s : State) (k : Nat) (v : PortSt) : (s.putPort k v).sensor = s.sensor := rfl
@[simp] theorem State.putPort_os (s : State) (k : Nat) (v : PortSt) : (s.putPort k v).os = s.os := rfl
@[simp] theorem State.putPort_cmds (s : State) (k : Nat) (v : PortSt) : (s.putPort k v).cmds = s.cmds := rfl
@[simp] theorem State.putPort_deferred (s : State) (k : Nat) (v : PortSt) : (s.putPort k v).deferred = s.deferred := rfl
@[simp] theorem State.putPort_heldCpl (s : State) (k : Nat) (v : PortSt) : (s.putPort k v).heldCpl = s.heldCpl := rfl
@[simp] theorem State.putPort_lastCtrl (s : State) (k : Nat) (v : PortSt) : (s.putPort k v).lastCtrl = s.lastCtrl := rfl
@[simp] theorem State.putPort_ctrl (s : State) (k : Nat) (v : PortSt) : (s.putPort k v).ctrl = s.ctrl := rfl
@[simp] theorem State.putPort_buf (s : State) (k : Nat) (v : PortSt) : (s.putPort k v).buf = s.buf := rfl
@[simp] theorem State.putPort_cache (s : State) (k : Nat) (v : PortSt) : (s.putPort k v).cache = s.cache := rfl
@[simp] theorem State.putPort_pair (s : State) (k : Nat) (v : PortSt) : (s.putPort k v).pair = s.pair := rfl
@[simp] theorem State.putPort_casc (s : State) (k : Nat) (v : PortSt) : (s.putPort k v).casc = s.casc := rfl
@[simp] theorem State.putPort_fw (s : State) (k : Nat) (v : PortSt) : (s.putPort k v).fw = s.fw := rfl
@[simp] theorem State.putPort_jf (s : State) (k : Nat) (v : PortSt) : (s.putPort k v).jf = s.jf := rfl
@[simp] theorem State.putPort_er (s : State) (k : Nat) (v : PortSt) : (s.putPort k v).er = s.er := rfl
@[simp] theorem State.putPort_set (s : State) (k : Nat) (v : PortSt) : (s.putPort k v).set = s.set := rfl
@[simp] theorem State.putPort_dict (s : State) (k : Nat) (v : PortSt) : (s.putPort k v).dict = s.dict := rfl
@[simp] theorem State.putPort_fuse (s : State) (k : Nat) (v : PortSt) : (s.putPort k v).fuse = s.fuse := rfl
@[simp] theorem State.putPort_kdapTx (s : State) (k : Nat) (v : PortSt) : (s.putPort k v).kdapTx = s.kdapTx := rfl
@[simp] theorem State.putPort_mon (s : State) (k : Nat) (v : PortSt) : (s.putPort k v).mon = s.mon := rfl
@[simp] theorem State.putPort_emcy (s : State) (k : Nat) (v : PortSt) : (s.putPort k v).emcy = s.emcy := rfl
@[simp] theorem State.putPort_answers (s : State) (k : Nat) (v : PortSt) : (s.putPort k v).answers = s.answers := rfl
@[simp] theorem State.putPort_accHeld (s : State) (k : Nat) (v : PortSt) : (s.putPort k v).accHeld = s.accHeld := rfl

/-! ## What `modPort` leaves alone -/

@[simp] theorem State.modPort_pending (s : State) (k : Nat) (f : PortSt → PortSt) : (s.modPort k f).pending = s.pending := rfl
@[simp] theorem State.modPort_now (s : State) (k : Nat) (f : PortSt → PortSt) : (s.modPort k f).now = s.now := rfl
@[simp] theorem State.modPort_fresh (s : State) (k : Nat) (f : PortSt → PortSt) : (s.modPort k f).fresh = s.fresh := rfl
@[simp] theorem State.modPort_obj (s : State) (k : Nat) (f : PortSt → PortSt) : (s.modPort k f).obj = s.obj := rfl
@[simp] theorem State.modPort_blob (s : State) (k : Nat) (f : PortSt → PortSt) : (s.modPort k f).blob = s.blob := rfl
@[simp] theorem State.modPort_mode (s : State) (k : Nat) (f : PortSt → PortSt) : (s.modPort k f).mode = s.mode := rfl
@[simp] theorem State.modPort_sup (s : State) (k : Nat) (f : PortSt → PortSt) : (s.modPort k f).sup = s.sup := rfl
@[simp] theorem State.modPort_line (s : State) (k : Nat) (f : PortSt → PortSt) : (s.modPort k f).line = s.line := rfl
@[simp] theorem State.modPort_pn2 (s : State) (k : Nat) (f : PortSt → PortSt) : (s.modPort k f).pn2 = s.pn2 := rfl
@[simp] theorem State.modPort_chan (s : State) (k : Nat) (f : PortSt → PortSt) : (s.modPort k f).chan = s.chan := rfl
@[simp] theorem State.modPort_plan (s : State) (k : Nat) (f : PortSt → PortSt) : (s.modPort k f).plan = s.plan := rfl
@[simp] theorem State.modPort_srv (s : State) (k : Nat) (f : PortSt → PortSt) : (s.modPort k f).srv = s.srv := rfl
@[simp] theorem State.modPort_shadow (s : State) (k : Nat) (f : PortSt → PortSt) : (s.modPort k f).shadow = s.shadow := rfl
@[simp] theorem State.modPort_spdShadow (s : State) (k : Nat) (f : PortSt → PortSt) : (s.modPort k f).spdShadow = s.spdShadow := rfl
@[simp] theorem State.modPort_seq (s : State) (k : Nat) (f : PortSt → PortSt) : (s.modPort k f).seq = s.seq := rfl
@[simp] theorem State.modPort_mc (s : State) (k : Nat) (f : PortSt → PortSt) : (s.modPort k f).mc = s.mc := rfl
@[simp] theorem State.modPort_fabric (s : State) (k : Nat) (f : PortSt → PortSt) : (s.modPort k f).fabric = s.fabric := rfl
@[simp] theorem State.modPort_fab (s : State) (k : Nat) (f : PortSt → PortSt) : (s.modPort k f).fab = s.fab := rfl
@[simp] theorem State.modPort_dma (s : State) (k : Nat) (f : PortSt → PortSt) : (s.modPort k f).dma = s.dma := rfl
@[simp] theorem State.modPort_raw (s : State) (k : Nat) (f : PortSt → PortSt) : (s.modPort k f).raw = s.raw := rfl
@[simp] theorem State.modPort_spd (s : State) (k : Nat) (f : PortSt → PortSt) : (s.modPort k f).spd = s.spd := rfl
@[simp] theorem State.modPort_sweepRef (s : State) (k : Nat) (f : PortSt → PortSt) : (s.modPort k f).sweepRef = s.sweepRef := rfl
@[simp] theorem State.modPort_rpm (s : State) (k : Nat) (f : PortSt → PortSt) : (s.modPort k f).rpm = s.rpm := rfl
@[simp] theorem State.modPort_hda (s : State) (k : Nat) (f : PortSt → PortSt) : (s.modPort k f).hda = s.hda := rfl
@[simp] theorem State.modPort_sensor (s : State) (k : Nat) (f : PortSt → PortSt) : (s.modPort k f).sensor = s.sensor := rfl
@[simp] theorem State.modPort_os (s : State) (k : Nat) (f : PortSt → PortSt) : (s.modPort k f).os = s.os := rfl
@[simp] theorem State.modPort_cmds (s : State) (k : Nat) (f : PortSt → PortSt) : (s.modPort k f).cmds = s.cmds := rfl
@[simp] theorem State.modPort_deferred (s : State) (k : Nat) (f : PortSt → PortSt) : (s.modPort k f).deferred = s.deferred := rfl
@[simp] theorem State.modPort_heldCpl (s : State) (k : Nat) (f : PortSt → PortSt) : (s.modPort k f).heldCpl = s.heldCpl := rfl
@[simp] theorem State.modPort_lastCtrl (s : State) (k : Nat) (f : PortSt → PortSt) : (s.modPort k f).lastCtrl = s.lastCtrl := rfl
@[simp] theorem State.modPort_ctrl (s : State) (k : Nat) (f : PortSt → PortSt) : (s.modPort k f).ctrl = s.ctrl := rfl
@[simp] theorem State.modPort_buf (s : State) (k : Nat) (f : PortSt → PortSt) : (s.modPort k f).buf = s.buf := rfl
@[simp] theorem State.modPort_cache (s : State) (k : Nat) (f : PortSt → PortSt) : (s.modPort k f).cache = s.cache := rfl
@[simp] theorem State.modPort_pair (s : State) (k : Nat) (f : PortSt → PortSt) : (s.modPort k f).pair = s.pair := rfl
@[simp] theorem State.modPort_casc (s : State) (k : Nat) (f : PortSt → PortSt) : (s.modPort k f).casc = s.casc := rfl
@[simp] theorem State.modPort_fw (s : State) (k : Nat) (f : PortSt → PortSt) : (s.modPort k f).fw = s.fw := rfl
@[simp] theorem State.modPort_jf (s : State) (k : Nat) (f : PortSt → PortSt) : (s.modPort k f).jf = s.jf := rfl
@[simp] theorem State.modPort_er (s : State) (k : Nat) (f : PortSt → PortSt) : (s.modPort k f).er = s.er := rfl
@[simp] theorem State.modPort_set (s : State) (k : Nat) (f : PortSt → PortSt) : (s.modPort k f).set = s.set := rfl
@[simp] theorem State.modPort_dict (s : State) (k : Nat) (f : PortSt → PortSt) : (s.modPort k f).dict = s.dict := rfl
@[simp] theorem State.modPort_fuse (s : State) (k : Nat) (f : PortSt → PortSt) : (s.modPort k f).fuse = s.fuse := rfl
@[simp] theorem State.modPort_kdapTx (s : State) (k : Nat) (f : PortSt → PortSt) : (s.modPort k f).kdapTx = s.kdapTx := rfl
@[simp] theorem State.modPort_mon (s : State) (k : Nat) (f : PortSt → PortSt) : (s.modPort k f).mon = s.mon := rfl
@[simp] theorem State.modPort_emcy (s : State) (k : Nat) (f : PortSt → PortSt) : (s.modPort k f).emcy = s.emcy := rfl
@[simp] theorem State.modPort_answers (s : State) (k : Nat) (f : PortSt → PortSt) : (s.modPort k f).answers = s.answers := rfl
@[simp] theorem State.modPort_accHeld (s : State) (k : Nat) (f : PortSt → PortSt) : (s.modPort k f).accHeld = s.accHeld := rfl

/-! ## What `putLine` leaves alone -/

@[simp] theorem State.putLine_pending (s : State) (k : Nat) (v : LineSt) : (s.putLine k v).pending = s.pending := rfl
@[simp] theorem State.putLine_now (s : State) (k : Nat) (v : LineSt) : (s.putLine k v).now = s.now := rfl
@[simp] theorem State.putLine_fresh (s : State) (k : Nat) (v : LineSt) : (s.putLine k v).fresh = s.fresh := rfl
@[simp] theorem State.putLine_obj (s : State) (k : Nat) (v : LineSt) : (s.putLine k v).obj = s.obj := rfl
@[simp] theorem State.putLine_blob (s : State) (k : Nat) (v : LineSt) : (s.putLine k v).blob = s.blob := rfl
@[simp] theorem State.putLine_mode (s : State) (k : Nat) (v : LineSt) : (s.putLine k v).mode = s.mode := rfl
@[simp] theorem State.putLine_sup (s : State) (k : Nat) (v : LineSt) : (s.putLine k v).sup = s.sup := rfl
@[simp] theorem State.putLine_port (s : State) (k : Nat) (v : LineSt) : (s.putLine k v).port = s.port := rfl
@[simp] theorem State.putLine_pn2 (s : State) (k : Nat) (v : LineSt) : (s.putLine k v).pn2 = s.pn2 := rfl
@[simp] theorem State.putLine_chan (s : State) (k : Nat) (v : LineSt) : (s.putLine k v).chan = s.chan := rfl
@[simp] theorem State.putLine_plan (s : State) (k : Nat) (v : LineSt) : (s.putLine k v).plan = s.plan := rfl
@[simp] theorem State.putLine_srv (s : State) (k : Nat) (v : LineSt) : (s.putLine k v).srv = s.srv := rfl
@[simp] theorem State.putLine_shadow (s : State) (k : Nat) (v : LineSt) : (s.putLine k v).shadow = s.shadow := rfl
@[simp] theorem State.putLine_spdShadow (s : State) (k : Nat) (v : LineSt) : (s.putLine k v).spdShadow = s.spdShadow := rfl
@[simp] theorem State.putLine_seq (s : State) (k : Nat) (v : LineSt) : (s.putLine k v).seq = s.seq := rfl
@[simp] theorem State.putLine_mc (s : State) (k : Nat) (v : LineSt) : (s.putLine k v).mc = s.mc := rfl
@[simp] theorem State.putLine_fabric (s : State) (k : Nat) (v : LineSt) : (s.putLine k v).fabric = s.fabric := rfl
@[simp] theorem State.putLine_fab (s : State) (k : Nat) (v : LineSt) : (s.putLine k v).fab = s.fab := rfl
@[simp] theorem State.putLine_dma (s : State) (k : Nat) (v : LineSt) : (s.putLine k v).dma = s.dma := rfl
@[simp] theorem State.putLine_raw (s : State) (k : Nat) (v : LineSt) : (s.putLine k v).raw = s.raw := rfl
@[simp] theorem State.putLine_spd (s : State) (k : Nat) (v : LineSt) : (s.putLine k v).spd = s.spd := rfl
@[simp] theorem State.putLine_sweepRef (s : State) (k : Nat) (v : LineSt) : (s.putLine k v).sweepRef = s.sweepRef := rfl
@[simp] theorem State.putLine_rpm (s : State) (k : Nat) (v : LineSt) : (s.putLine k v).rpm = s.rpm := rfl
@[simp] theorem State.putLine_hda (s : State) (k : Nat) (v : LineSt) : (s.putLine k v).hda = s.hda := rfl
@[simp] theorem State.putLine_sensor (s : State) (k : Nat) (v : LineSt) : (s.putLine k v).sensor = s.sensor := rfl
@[simp] theorem State.putLine_os (s : State) (k : Nat) (v : LineSt) : (s.putLine k v).os = s.os := rfl
@[simp] theorem State.putLine_cmds (s : State) (k : Nat) (v : LineSt) : (s.putLine k v).cmds = s.cmds := rfl
@[simp] theorem State.putLine_deferred (s : State) (k : Nat) (v : LineSt) : (s.putLine k v).deferred = s.deferred := rfl
@[simp] theorem State.putLine_heldCpl (s : State) (k : Nat) (v : LineSt) : (s.putLine k v).heldCpl = s.heldCpl := rfl
@[simp] theorem State.putLine_lastCtrl (s : State) (k : Nat) (v : LineSt) : (s.putLine k v).lastCtrl = s.lastCtrl := rfl
@[simp] theorem State.putLine_ctrl (s : State) (k : Nat) (v : LineSt) : (s.putLine k v).ctrl = s.ctrl := rfl
@[simp] theorem State.putLine_buf (s : State) (k : Nat) (v : LineSt) : (s.putLine k v).buf = s.buf := rfl
@[simp] theorem State.putLine_cache (s : State) (k : Nat) (v : LineSt) : (s.putLine k v).cache = s.cache := rfl
@[simp] theorem State.putLine_pair (s : State) (k : Nat) (v : LineSt) : (s.putLine k v).pair = s.pair := rfl
@[simp] theorem State.putLine_casc (s : State) (k : Nat) (v : LineSt) : (s.putLine k v).casc = s.casc := rfl
@[simp] theorem State.putLine_fw (s : State) (k : Nat) (v : LineSt) : (s.putLine k v).fw = s.fw := rfl
@[simp] theorem State.putLine_jf (s : State) (k : Nat) (v : LineSt) : (s.putLine k v).jf = s.jf := rfl
@[simp] theorem State.putLine_er (s : State) (k : Nat) (v : LineSt) : (s.putLine k v).er = s.er := rfl
@[simp] theorem State.putLine_set (s : State) (k : Nat) (v : LineSt) : (s.putLine k v).set = s.set := rfl
@[simp] theorem State.putLine_dict (s : State) (k : Nat) (v : LineSt) : (s.putLine k v).dict = s.dict := rfl
@[simp] theorem State.putLine_fuse (s : State) (k : Nat) (v : LineSt) : (s.putLine k v).fuse = s.fuse := rfl
@[simp] theorem State.putLine_kdapTx (s : State) (k : Nat) (v : LineSt) : (s.putLine k v).kdapTx = s.kdapTx := rfl
@[simp] theorem State.putLine_mon (s : State) (k : Nat) (v : LineSt) : (s.putLine k v).mon = s.mon := rfl
@[simp] theorem State.putLine_emcy (s : State) (k : Nat) (v : LineSt) : (s.putLine k v).emcy = s.emcy := rfl
@[simp] theorem State.putLine_answers (s : State) (k : Nat) (v : LineSt) : (s.putLine k v).answers = s.answers := rfl
@[simp] theorem State.putLine_accHeld (s : State) (k : Nat) (v : LineSt) : (s.putLine k v).accHeld = s.accHeld := rfl

/-! ## What `modLine` leaves alone -/

@[simp] theorem State.modLine_pending (s : State) (k : Nat) (f : LineSt → LineSt) : (s.modLine k f).pending = s.pending := rfl
@[simp] theorem State.modLine_now (s : State) (k : Nat) (f : LineSt → LineSt) : (s.modLine k f).now = s.now := rfl
@[simp] theorem State.modLine_fresh (s : State) (k : Nat) (f : LineSt → LineSt) : (s.modLine k f).fresh = s.fresh := rfl
@[simp] theorem State.modLine_obj (s : State) (k : Nat) (f : LineSt → LineSt) : (s.modLine k f).obj = s.obj := rfl
@[simp] theorem State.modLine_blob (s : State) (k : Nat) (f : LineSt → LineSt) : (s.modLine k f).blob = s.blob := rfl
@[simp] theorem State.modLine_mode (s : State) (k : Nat) (f : LineSt → LineSt) : (s.modLine k f).mode = s.mode := rfl
@[simp] theorem State.modLine_sup (s : State) (k : Nat) (f : LineSt → LineSt) : (s.modLine k f).sup = s.sup := rfl
@[simp] theorem State.modLine_port (s : State) (k : Nat) (f : LineSt → LineSt) : (s.modLine k f).port = s.port := rfl
@[simp] theorem State.modLine_pn2 (s : State) (k : Nat) (f : LineSt → LineSt) : (s.modLine k f).pn2 = s.pn2 := rfl
@[simp] theorem State.modLine_chan (s : State) (k : Nat) (f : LineSt → LineSt) : (s.modLine k f).chan = s.chan := rfl
@[simp] theorem State.modLine_plan (s : State) (k : Nat) (f : LineSt → LineSt) : (s.modLine k f).plan = s.plan := rfl
@[simp] theorem State.modLine_srv (s : State) (k : Nat) (f : LineSt → LineSt) : (s.modLine k f).srv = s.srv := rfl
@[simp] theorem State.modLine_shadow (s : State) (k : Nat) (f : LineSt → LineSt) : (s.modLine k f).shadow = s.shadow := rfl
@[simp] theorem State.modLine_spdShadow (s : State) (k : Nat) (f : LineSt → LineSt) : (s.modLine k f).spdShadow = s.spdShadow := rfl
@[simp] theorem State.modLine_seq (s : State) (k : Nat) (f : LineSt → LineSt) : (s.modLine k f).seq = s.seq := rfl
@[simp] theorem State.modLine_mc (s : State) (k : Nat) (f : LineSt → LineSt) : (s.modLine k f).mc = s.mc := rfl
@[simp] theorem State.modLine_fabric (s : State) (k : Nat) (f : LineSt → LineSt) : (s.modLine k f).fabric = s.fabric := rfl
@[simp] theorem State.modLine_fab (s : State) (k : Nat) (f : LineSt → LineSt) : (s.modLine k f).fab = s.fab := rfl
@[simp] theorem State.modLine_dma (s : State) (k : Nat) (f : LineSt → LineSt) : (s.modLine k f).dma = s.dma := rfl
@[simp] theorem State.modLine_raw (s : State) (k : Nat) (f : LineSt → LineSt) : (s.modLine k f).raw = s.raw := rfl
@[simp] theorem State.modLine_spd (s : State) (k : Nat) (f : LineSt → LineSt) : (s.modLine k f).spd = s.spd := rfl
@[simp] theorem State.modLine_sweepRef (s : State) (k : Nat) (f : LineSt → LineSt) : (s.modLine k f).sweepRef = s.sweepRef := rfl
@[simp] theorem State.modLine_rpm (s : State) (k : Nat) (f : LineSt → LineSt) : (s.modLine k f).rpm = s.rpm := rfl
@[simp] theorem State.modLine_hda (s : State) (k : Nat) (f : LineSt → LineSt) : (s.modLine k f).hda = s.hda := rfl
@[simp] theorem State.modLine_sensor (s : State) (k : Nat) (f : LineSt → LineSt) : (s.modLine k f).sensor = s.sensor := rfl
@[simp] theorem State.modLine_os (s : State) (k : Nat) (f : LineSt → LineSt) : (s.modLine k f).os = s.os := rfl
@[simp] theorem State.modLine_cmds (s : State) (k : Nat) (f : LineSt → LineSt) : (s.modLine k f).cmds = s.cmds := rfl
@[simp] theorem State.modLine_deferred (s : State) (k : Nat) (f : LineSt → LineSt) : (s.modLine k f).deferred = s.deferred := rfl
@[simp] theorem State.modLine_heldCpl (s : State) (k : Nat) (f : LineSt → LineSt) : (s.modLine k f).heldCpl = s.heldCpl := rfl
@[simp] theorem State.modLine_lastCtrl (s : State) (k : Nat) (f : LineSt → LineSt) : (s.modLine k f).lastCtrl = s.lastCtrl := rfl
@[simp] theorem State.modLine_ctrl (s : State) (k : Nat) (f : LineSt → LineSt) : (s.modLine k f).ctrl = s.ctrl := rfl
@[simp] theorem State.modLine_buf (s : State) (k : Nat) (f : LineSt → LineSt) : (s.modLine k f).buf = s.buf := rfl
@[simp] theorem State.modLine_cache (s : State) (k : Nat) (f : LineSt → LineSt) : (s.modLine k f).cache = s.cache := rfl
@[simp] theorem State.modLine_pair (s : State) (k : Nat) (f : LineSt → LineSt) : (s.modLine k f).pair = s.pair := rfl
@[simp] theorem State.modLine_casc (s : State) (k : Nat) (f : LineSt → LineSt) : (s.modLine k f).casc = s.casc := rfl
@[simp] theorem State.modLine_fw (s : State) (k : Nat) (f : LineSt → LineSt) : (s.modLine k f).fw = s.fw := rfl
@[simp] theorem State.modLine_jf (s : State) (k : Nat) (f : LineSt → LineSt) : (s.modLine k f).jf = s.jf := rfl
@[simp] theorem State.modLine_er (s : State) (k : Nat) (f : LineSt → LineSt) : (s.modLine k f).er = s.er := rfl
@[simp] theorem State.modLine_set (s : State) (k : Nat) (f : LineSt → LineSt) : (s.modLine k f).set = s.set := rfl
@[simp] theorem State.modLine_dict (s : State) (k : Nat) (f : LineSt → LineSt) : (s.modLine k f).dict = s.dict := rfl
@[simp] theorem State.modLine_fuse (s : State) (k : Nat) (f : LineSt → LineSt) : (s.modLine k f).fuse = s.fuse := rfl
@[simp] theorem State.modLine_kdapTx (s : State) (k : Nat) (f : LineSt → LineSt) : (s.modLine k f).kdapTx = s.kdapTx := rfl
@[simp] theorem State.modLine_mon (s : State) (k : Nat) (f : LineSt → LineSt) : (s.modLine k f).mon = s.mon := rfl
@[simp] theorem State.modLine_emcy (s : State) (k : Nat) (f : LineSt → LineSt) : (s.modLine k f).emcy = s.emcy := rfl
@[simp] theorem State.modLine_answers (s : State) (k : Nat) (f : LineSt → LineSt) : (s.modLine k f).answers = s.answers := rfl
@[simp] theorem State.modLine_accHeld (s : State) (k : Nat) (f : LineSt → LineSt) : (s.modLine k f).accHeld = s.accHeld := rfl

/-! ## What `putPn2` leaves alone -/

@[simp] theorem State.putPn2_pending (s : State) (k : Nat) (v : Pn2St) : (s.putPn2 k v).pending = s.pending := rfl
@[simp] theorem State.putPn2_now (s : State) (k : Nat) (v : Pn2St) : (s.putPn2 k v).now = s.now := rfl
@[simp] theorem State.putPn2_fresh (s : State) (k : Nat) (v : Pn2St) : (s.putPn2 k v).fresh = s.fresh := rfl
@[simp] theorem State.putPn2_obj (s : State) (k : Nat) (v : Pn2St) : (s.putPn2 k v).obj = s.obj := rfl
@[simp] theorem State.putPn2_blob (s : State) (k : Nat) (v : Pn2St) : (s.putPn2 k v).blob = s.blob := rfl
@[simp] theorem State.putPn2_mode (s : State) (k : Nat) (v : Pn2St) : (s.putPn2 k v).mode = s.mode := rfl
@[simp] theorem State.putPn2_sup (s : State) (k : Nat) (v : Pn2St) : (s.putPn2 k v).sup = s.sup := rfl
@[simp] theorem State.putPn2_port (s : State) (k : Nat) (v : Pn2St) : (s.putPn2 k v).port = s.port := rfl
@[simp] theorem State.putPn2_line (s : State) (k : Nat) (v : Pn2St) : (s.putPn2 k v).line = s.line := rfl
@[simp] theorem State.putPn2_chan (s : State) (k : Nat) (v : Pn2St) : (s.putPn2 k v).chan = s.chan := rfl
@[simp] theorem State.putPn2_plan (s : State) (k : Nat) (v : Pn2St) : (s.putPn2 k v).plan = s.plan := rfl
@[simp] theorem State.putPn2_srv (s : State) (k : Nat) (v : Pn2St) : (s.putPn2 k v).srv = s.srv := rfl
@[simp] theorem State.putPn2_shadow (s : State) (k : Nat) (v : Pn2St) : (s.putPn2 k v).shadow = s.shadow := rfl
@[simp] theorem State.putPn2_spdShadow (s : State) (k : Nat) (v : Pn2St) : (s.putPn2 k v).spdShadow = s.spdShadow := rfl
@[simp] theorem State.putPn2_seq (s : State) (k : Nat) (v : Pn2St) : (s.putPn2 k v).seq = s.seq := rfl
@[simp] theorem State.putPn2_mc (s : State) (k : Nat) (v : Pn2St) : (s.putPn2 k v).mc = s.mc := rfl
@[simp] theorem State.putPn2_fabric (s : State) (k : Nat) (v : Pn2St) : (s.putPn2 k v).fabric = s.fabric := rfl
@[simp] theorem State.putPn2_fab (s : State) (k : Nat) (v : Pn2St) : (s.putPn2 k v).fab = s.fab := rfl
@[simp] theorem State.putPn2_dma (s : State) (k : Nat) (v : Pn2St) : (s.putPn2 k v).dma = s.dma := rfl
@[simp] theorem State.putPn2_raw (s : State) (k : Nat) (v : Pn2St) : (s.putPn2 k v).raw = s.raw := rfl
@[simp] theorem State.putPn2_spd (s : State) (k : Nat) (v : Pn2St) : (s.putPn2 k v).spd = s.spd := rfl
@[simp] theorem State.putPn2_sweepRef (s : State) (k : Nat) (v : Pn2St) : (s.putPn2 k v).sweepRef = s.sweepRef := rfl
@[simp] theorem State.putPn2_rpm (s : State) (k : Nat) (v : Pn2St) : (s.putPn2 k v).rpm = s.rpm := rfl
@[simp] theorem State.putPn2_hda (s : State) (k : Nat) (v : Pn2St) : (s.putPn2 k v).hda = s.hda := rfl
@[simp] theorem State.putPn2_sensor (s : State) (k : Nat) (v : Pn2St) : (s.putPn2 k v).sensor = s.sensor := rfl
@[simp] theorem State.putPn2_os (s : State) (k : Nat) (v : Pn2St) : (s.putPn2 k v).os = s.os := rfl
@[simp] theorem State.putPn2_cmds (s : State) (k : Nat) (v : Pn2St) : (s.putPn2 k v).cmds = s.cmds := rfl
@[simp] theorem State.putPn2_deferred (s : State) (k : Nat) (v : Pn2St) : (s.putPn2 k v).deferred = s.deferred := rfl
@[simp] theorem State.putPn2_heldCpl (s : State) (k : Nat) (v : Pn2St) : (s.putPn2 k v).heldCpl = s.heldCpl := rfl
@[simp] theorem State.putPn2_lastCtrl (s : State) (k : Nat) (v : Pn2St) : (s.putPn2 k v).lastCtrl = s.lastCtrl := rfl
@[simp] theorem State.putPn2_ctrl (s : State) (k : Nat) (v : Pn2St) : (s.putPn2 k v).ctrl = s.ctrl := rfl
@[simp] theorem State.putPn2_buf (s : State) (k : Nat) (v : Pn2St) : (s.putPn2 k v).buf = s.buf := rfl
@[simp] theorem State.putPn2_cache (s : State) (k : Nat) (v : Pn2St) : (s.putPn2 k v).cache = s.cache := rfl
@[simp] theorem State.putPn2_pair (s : State) (k : Nat) (v : Pn2St) : (s.putPn2 k v).pair = s.pair := rfl
@[simp] theorem State.putPn2_casc (s : State) (k : Nat) (v : Pn2St) : (s.putPn2 k v).casc = s.casc := rfl
@[simp] theorem State.putPn2_fw (s : State) (k : Nat) (v : Pn2St) : (s.putPn2 k v).fw = s.fw := rfl
@[simp] theorem State.putPn2_jf (s : State) (k : Nat) (v : Pn2St) : (s.putPn2 k v).jf = s.jf := rfl
@[simp] theorem State.putPn2_er (s : State) (k : Nat) (v : Pn2St) : (s.putPn2 k v).er = s.er := rfl
@[simp] theorem State.putPn2_set (s : State) (k : Nat) (v : Pn2St) : (s.putPn2 k v).set = s.set := rfl
@[simp] theorem State.putPn2_dict (s : State) (k : Nat) (v : Pn2St) : (s.putPn2 k v).dict = s.dict := rfl
@[simp] theorem State.putPn2_fuse (s : State) (k : Nat) (v : Pn2St) : (s.putPn2 k v).fuse = s.fuse := rfl
@[simp] theorem State.putPn2_kdapTx (s : State) (k : Nat) (v : Pn2St) : (s.putPn2 k v).kdapTx = s.kdapTx := rfl
@[simp] theorem State.putPn2_mon (s : State) (k : Nat) (v : Pn2St) : (s.putPn2 k v).mon = s.mon := rfl
@[simp] theorem State.putPn2_emcy (s : State) (k : Nat) (v : Pn2St) : (s.putPn2 k v).emcy = s.emcy := rfl
@[simp] theorem State.putPn2_answers (s : State) (k : Nat) (v : Pn2St) : (s.putPn2 k v).answers = s.answers := rfl
@[simp] theorem State.putPn2_accHeld (s : State) (k : Nat) (v : Pn2St) : (s.putPn2 k v).accHeld = s.accHeld := rfl

/-! ## What `modPn2` leaves alone -/

@[simp] theorem State.modPn2_pending (s : State) (k : Nat) (f : Pn2St → Pn2St) : (s.modPn2 k f).pending = s.pending := rfl
@[simp] theorem State.modPn2_now (s : State) (k : Nat) (f : Pn2St → Pn2St) : (s.modPn2 k f).now = s.now := rfl
@[simp] theorem State.modPn2_fresh (s : State) (k : Nat) (f : Pn2St → Pn2St) : (s.modPn2 k f).fresh = s.fresh := rfl
@[simp] theorem State.modPn2_obj (s : State) (k : Nat) (f : Pn2St → Pn2St) : (s.modPn2 k f).obj = s.obj := rfl
@[simp] theorem State.modPn2_blob (s : State) (k : Nat) (f : Pn2St → Pn2St) : (s.modPn2 k f).blob = s.blob := rfl
@[simp] theorem State.modPn2_mode (s : State) (k : Nat) (f : Pn2St → Pn2St) : (s.modPn2 k f).mode = s.mode := rfl
@[simp] theorem State.modPn2_sup (s : State) (k : Nat) (f : Pn2St → Pn2St) : (s.modPn2 k f).sup = s.sup := rfl
@[simp] theorem State.modPn2_port (s : State) (k : Nat) (f : Pn2St → Pn2St) : (s.modPn2 k f).port = s.port := rfl
@[simp] theorem State.modPn2_line (s : State) (k : Nat) (f : Pn2St → Pn2St) : (s.modPn2 k f).line = s.line := rfl
@[simp] theorem State.modPn2_chan (s : State) (k : Nat) (f : Pn2St → Pn2St) : (s.modPn2 k f).chan = s.chan := rfl
@[simp] theorem State.modPn2_plan (s : State) (k : Nat) (f : Pn2St → Pn2St) : (s.modPn2 k f).plan = s.plan := rfl
@[simp] theorem State.modPn2_srv (s : State) (k : Nat) (f : Pn2St → Pn2St) : (s.modPn2 k f).srv = s.srv := rfl
@[simp] theorem State.modPn2_shadow (s : State) (k : Nat) (f : Pn2St → Pn2St) : (s.modPn2 k f).shadow = s.shadow := rfl
@[simp] theorem State.modPn2_spdShadow (s : State) (k : Nat) (f : Pn2St → Pn2St) : (s.modPn2 k f).spdShadow = s.spdShadow := rfl
@[simp] theorem State.modPn2_seq (s : State) (k : Nat) (f : Pn2St → Pn2St) : (s.modPn2 k f).seq = s.seq := rfl
@[simp] theorem State.modPn2_mc (s : State) (k : Nat) (f : Pn2St → Pn2St) : (s.modPn2 k f).mc = s.mc := rfl
@[simp] theorem State.modPn2_fabric (s : State) (k : Nat) (f : Pn2St → Pn2St) : (s.modPn2 k f).fabric = s.fabric := rfl
@[simp] theorem State.modPn2_fab (s : State) (k : Nat) (f : Pn2St → Pn2St) : (s.modPn2 k f).fab = s.fab := rfl
@[simp] theorem State.modPn2_dma (s : State) (k : Nat) (f : Pn2St → Pn2St) : (s.modPn2 k f).dma = s.dma := rfl
@[simp] theorem State.modPn2_raw (s : State) (k : Nat) (f : Pn2St → Pn2St) : (s.modPn2 k f).raw = s.raw := rfl
@[simp] theorem State.modPn2_spd (s : State) (k : Nat) (f : Pn2St → Pn2St) : (s.modPn2 k f).spd = s.spd := rfl
@[simp] theorem State.modPn2_sweepRef (s : State) (k : Nat) (f : Pn2St → Pn2St) : (s.modPn2 k f).sweepRef = s.sweepRef := rfl
@[simp] theorem State.modPn2_rpm (s : State) (k : Nat) (f : Pn2St → Pn2St) : (s.modPn2 k f).rpm = s.rpm := rfl
@[simp] theorem State.modPn2_hda (s : State) (k : Nat) (f : Pn2St → Pn2St) : (s.modPn2 k f).hda = s.hda := rfl
@[simp] theorem State.modPn2_sensor (s : State) (k : Nat) (f : Pn2St → Pn2St) : (s.modPn2 k f).sensor = s.sensor := rfl
@[simp] theorem State.modPn2_os (s : State) (k : Nat) (f : Pn2St → Pn2St) : (s.modPn2 k f).os = s.os := rfl
@[simp] theorem State.modPn2_cmds (s : State) (k : Nat) (f : Pn2St → Pn2St) : (s.modPn2 k f).cmds = s.cmds := rfl
@[simp] theorem State.modPn2_deferred (s : State) (k : Nat) (f : Pn2St → Pn2St) : (s.modPn2 k f).deferred = s.deferred := rfl
@[simp] theorem State.modPn2_heldCpl (s : State) (k : Nat) (f : Pn2St → Pn2St) : (s.modPn2 k f).heldCpl = s.heldCpl := rfl
@[simp] theorem State.modPn2_lastCtrl (s : State) (k : Nat) (f : Pn2St → Pn2St) : (s.modPn2 k f).lastCtrl = s.lastCtrl := rfl
@[simp] theorem State.modPn2_ctrl (s : State) (k : Nat) (f : Pn2St → Pn2St) : (s.modPn2 k f).ctrl = s.ctrl := rfl
@[simp] theorem State.modPn2_buf (s : State) (k : Nat) (f : Pn2St → Pn2St) : (s.modPn2 k f).buf = s.buf := rfl
@[simp] theorem State.modPn2_cache (s : State) (k : Nat) (f : Pn2St → Pn2St) : (s.modPn2 k f).cache = s.cache := rfl
@[simp] theorem State.modPn2_pair (s : State) (k : Nat) (f : Pn2St → Pn2St) : (s.modPn2 k f).pair = s.pair := rfl
@[simp] theorem State.modPn2_casc (s : State) (k : Nat) (f : Pn2St → Pn2St) : (s.modPn2 k f).casc = s.casc := rfl
@[simp] theorem State.modPn2_fw (s : State) (k : Nat) (f : Pn2St → Pn2St) : (s.modPn2 k f).fw = s.fw := rfl
@[simp] theorem State.modPn2_jf (s : State) (k : Nat) (f : Pn2St → Pn2St) : (s.modPn2 k f).jf = s.jf := rfl
@[simp] theorem State.modPn2_er (s : State) (k : Nat) (f : Pn2St → Pn2St) : (s.modPn2 k f).er = s.er := rfl
@[simp] theorem State.modPn2_set (s : State) (k : Nat) (f : Pn2St → Pn2St) : (s.modPn2 k f).set = s.set := rfl
@[simp] theorem State.modPn2_dict (s : State) (k : Nat) (f : Pn2St → Pn2St) : (s.modPn2 k f).dict = s.dict := rfl
@[simp] theorem State.modPn2_fuse (s : State) (k : Nat) (f : Pn2St → Pn2St) : (s.modPn2 k f).fuse = s.fuse := rfl
@[simp] theorem State.modPn2_kdapTx (s : State) (k : Nat) (f : Pn2St → Pn2St) : (s.modPn2 k f).kdapTx = s.kdapTx := rfl
@[simp] theorem State.modPn2_mon (s : State) (k : Nat) (f : Pn2St → Pn2St) : (s.modPn2 k f).mon = s.mon := rfl
@[simp] theorem State.modPn2_emcy (s : State) (k : Nat) (f : Pn2St → Pn2St) : (s.modPn2 k f).emcy = s.emcy := rfl
@[simp] theorem State.modPn2_answers (s : State) (k : Nat) (f : Pn2St → Pn2St) : (s.modPn2 k f).answers = s.answers := rfl
@[simp] theorem State.modPn2_accHeld (s : State) (k : Nat) (f : Pn2St → Pn2St) : (s.modPn2 k f).accHeld = s.accHeld := rfl

/-! ## What `putChan` leaves alone -/

@[simp] theorem State.putChan_pending (s : State) (k : Nat) (v : ChanSt) : (s.putChan k v).pending = s.pending := rfl
@[simp] theorem State.putChan_now (s : State) (k : Nat) (v : ChanSt) : (s.putChan k v).now = s.now := rfl
@[simp] theorem State.putChan_fresh (s : State) (k : Nat) (v : ChanSt) : (s.putChan k v).fresh = s.fresh := rfl
@[simp] theorem State.putChan_obj (s : State) (k : Nat) (v : ChanSt) : (s.putChan k v).obj = s.obj := rfl
@[simp] theorem State.putChan_blob (s : State) (k : Nat) (v : ChanSt) : (s.putChan k v).blob = s.blob := rfl
@[simp] theorem State.putChan_mode (s : State) (k : Nat) (v : ChanSt) : (s.putChan k v).mode = s.mode := rfl
@[simp] theorem State.putChan_sup (s : State) (k : Nat) (v : ChanSt) : (s.putChan k v).sup = s.sup := rfl
@[simp] theorem State.putChan_port (s : State) (k : Nat) (v : ChanSt) : (s.putChan k v).port = s.port := rfl
@[simp] theorem State.putChan_line (s : State) (k : Nat) (v : ChanSt) : (s.putChan k v).line = s.line := rfl
@[simp] theorem State.putChan_pn2 (s : State) (k : Nat) (v : ChanSt) : (s.putChan k v).pn2 = s.pn2 := rfl
@[simp] theorem State.putChan_plan (s : State) (k : Nat) (v : ChanSt) : (s.putChan k v).plan = s.plan := rfl
@[simp] theorem State.putChan_srv (s : State) (k : Nat) (v : ChanSt) : (s.putChan k v).srv = s.srv := rfl
@[simp] theorem State.putChan_shadow (s : State) (k : Nat) (v : ChanSt) : (s.putChan k v).shadow = s.shadow := rfl
@[simp] theorem State.putChan_spdShadow (s : State) (k : Nat) (v : ChanSt) : (s.putChan k v).spdShadow = s.spdShadow := rfl
@[simp] theorem State.putChan_seq (s : State) (k : Nat) (v : ChanSt) : (s.putChan k v).seq = s.seq := rfl
@[simp] theorem State.putChan_mc (s : State) (k : Nat) (v : ChanSt) : (s.putChan k v).mc = s.mc := rfl
@[simp] theorem State.putChan_fabric (s : State) (k : Nat) (v : ChanSt) : (s.putChan k v).fabric = s.fabric := rfl
@[simp] theorem State.putChan_fab (s : State) (k : Nat) (v : ChanSt) : (s.putChan k v).fab = s.fab := rfl
@[simp] theorem State.putChan_dma (s : State) (k : Nat) (v : ChanSt) : (s.putChan k v).dma = s.dma := rfl
@[simp] theorem State.putChan_raw (s : State) (k : Nat) (v : ChanSt) : (s.putChan k v).raw = s.raw := rfl
@[simp] theorem State.putChan_spd (s : State) (k : Nat) (v : ChanSt) : (s.putChan k v).spd = s.spd := rfl
@[simp] theorem State.putChan_sweepRef (s : State) (k : Nat) (v : ChanSt) : (s.putChan k v).sweepRef = s.sweepRef := rfl
@[simp] theorem State.putChan_rpm (s : State) (k : Nat) (v : ChanSt) : (s.putChan k v).rpm = s.rpm := rfl
@[simp] theorem State.putChan_hda (s : State) (k : Nat) (v : ChanSt) : (s.putChan k v).hda = s.hda := rfl
@[simp] theorem State.putChan_sensor (s : State) (k : Nat) (v : ChanSt) : (s.putChan k v).sensor = s.sensor := rfl
@[simp] theorem State.putChan_os (s : State) (k : Nat) (v : ChanSt) : (s.putChan k v).os = s.os := rfl
@[simp] theorem State.putChan_cmds (s : State) (k : Nat) (v : ChanSt) : (s.putChan k v).cmds = s.cmds := rfl
@[simp] theorem State.putChan_deferred (s : State) (k : Nat) (v : ChanSt) : (s.putChan k v).deferred = s.deferred := rfl
@[simp] theorem State.putChan_heldCpl (s : State) (k : Nat) (v : ChanSt) : (s.putChan k v).heldCpl = s.heldCpl := rfl
@[simp] theorem State.putChan_lastCtrl (s : State) (k : Nat) (v : ChanSt) : (s.putChan k v).lastCtrl = s.lastCtrl := rfl
@[simp] theorem State.putChan_ctrl (s : State) (k : Nat) (v : ChanSt) : (s.putChan k v).ctrl = s.ctrl := rfl
@[simp] theorem State.putChan_buf (s : State) (k : Nat) (v : ChanSt) : (s.putChan k v).buf = s.buf := rfl
@[simp] theorem State.putChan_cache (s : State) (k : Nat) (v : ChanSt) : (s.putChan k v).cache = s.cache := rfl
@[simp] theorem State.putChan_pair (s : State) (k : Nat) (v : ChanSt) : (s.putChan k v).pair = s.pair := rfl
@[simp] theorem State.putChan_casc (s : State) (k : Nat) (v : ChanSt) : (s.putChan k v).casc = s.casc := rfl
@[simp] theorem State.putChan_fw (s : State) (k : Nat) (v : ChanSt) : (s.putChan k v).fw = s.fw := rfl
@[simp] theorem State.putChan_jf (s : State) (k : Nat) (v : ChanSt) : (s.putChan k v).jf = s.jf := rfl
@[simp] theorem State.putChan_er (s : State) (k : Nat) (v : ChanSt) : (s.putChan k v).er = s.er := rfl
@[simp] theorem State.putChan_set (s : State) (k : Nat) (v : ChanSt) : (s.putChan k v).set = s.set := rfl
@[simp] theorem State.putChan_dict (s : State) (k : Nat) (v : ChanSt) : (s.putChan k v).dict = s.dict := rfl
@[simp] theorem State.putChan_fuse (s : State) (k : Nat) (v : ChanSt) : (s.putChan k v).fuse = s.fuse := rfl
@[simp] theorem State.putChan_kdapTx (s : State) (k : Nat) (v : ChanSt) : (s.putChan k v).kdapTx = s.kdapTx := rfl
@[simp] theorem State.putChan_mon (s : State) (k : Nat) (v : ChanSt) : (s.putChan k v).mon = s.mon := rfl
@[simp] theorem State.putChan_emcy (s : State) (k : Nat) (v : ChanSt) : (s.putChan k v).emcy = s.emcy := rfl
@[simp] theorem State.putChan_answers (s : State) (k : Nat) (v : ChanSt) : (s.putChan k v).answers = s.answers := rfl
@[simp] theorem State.putChan_accHeld (s : State) (k : Nat) (v : ChanSt) : (s.putChan k v).accHeld = s.accHeld := rfl

/-! ## What `modChan` leaves alone -/

@[simp] theorem State.modChan_pending (s : State) (k : Nat) (f : ChanSt → ChanSt) : (s.modChan k f).pending = s.pending := rfl
@[simp] theorem State.modChan_now (s : State) (k : Nat) (f : ChanSt → ChanSt) : (s.modChan k f).now = s.now := rfl
@[simp] theorem State.modChan_fresh (s : State) (k : Nat) (f : ChanSt → ChanSt) : (s.modChan k f).fresh = s.fresh := rfl
@[simp] theorem State.modChan_obj (s : State) (k : Nat) (f : ChanSt → ChanSt) : (s.modChan k f).obj = s.obj := rfl
@[simp] theorem State.modChan_blob (s : State) (k : Nat) (f : ChanSt → ChanSt) : (s.modChan k f).blob = s.blob := rfl
@[simp] theorem State.modChan_mode (s : State) (k : Nat) (f : ChanSt → ChanSt) : (s.modChan k f).mode = s.mode := rfl
@[simp] theorem State.modChan_sup (s : State) (k : Nat) (f : ChanSt → ChanSt) : (s.modChan k f).sup = s.sup := rfl
@[simp] theorem State.modChan_port (s : State) (k : Nat) (f : ChanSt → ChanSt) : (s.modChan k f).port = s.port := rfl
@[simp] theorem State.modChan_line (s : State) (k : Nat) (f : ChanSt → ChanSt) : (s.modChan k f).line = s.line := rfl
@[simp] theorem State.modChan_pn2 (s : State) (k : Nat) (f : ChanSt → ChanSt) : (s.modChan k f).pn2 = s.pn2 := rfl
@[simp] theorem State.modChan_plan (s : State) (k : Nat) (f : ChanSt → ChanSt) : (s.modChan k f).plan = s.plan := rfl
@[simp] theorem State.modChan_srv (s : State) (k : Nat) (f : ChanSt → ChanSt) : (s.modChan k f).srv = s.srv := rfl
@[simp] theorem State.modChan_shadow (s : State) (k : Nat) (f : ChanSt → ChanSt) : (s.modChan k f).shadow = s.shadow := rfl
@[simp] theorem State.modChan_spdShadow (s : State) (k : Nat) (f : ChanSt → ChanSt) : (s.modChan k f).spdShadow = s.spdShadow := rfl
@[simp] theorem State.modChan_seq (s : State) (k : Nat) (f : ChanSt → ChanSt) : (s.modChan k f).seq = s.seq := rfl
@[simp] theorem State.modChan_mc (s : State) (k : Nat) (f : ChanSt → ChanSt) : (s.modChan k f).mc = s.mc := rfl
@[simp] theorem State.modChan_fabric (s : State) (k : Nat) (f : ChanSt → ChanSt) : (s.modChan k f).fabric = s.fabric := rfl
@[simp] theorem State.modChan_fab (s : State) (k : Nat) (f : ChanSt → ChanSt) : (s.modChan k f).fab = s.fab := rfl
@[simp] theorem State.modChan_dma (s : State) (k : Nat) (f : ChanSt → ChanSt) : (s.modChan k f).dma = s.dma := rfl
@[simp] theorem State.modChan_raw (s : State) (k : Nat) (f : ChanSt → ChanSt) : (s.modChan k f).raw = s.raw := rfl
@[simp] theorem State.modChan_spd (s : State) (k : Nat) (f : ChanSt → ChanSt) : (s.modChan k f).spd = s.spd := rfl
@[simp] theorem State.modChan_sweepRef (s : State) (k : Nat) (f : ChanSt → ChanSt) : (s.modChan k f).sweepRef = s.sweepRef := rfl
@[simp] theorem State.modChan_rpm (s : State) (k : Nat) (f : ChanSt → ChanSt) : (s.modChan k f).rpm = s.rpm := rfl
@[simp] theorem State.modChan_hda (s : State) (k : Nat) (f : ChanSt → ChanSt) : (s.modChan k f).hda = s.hda := rfl
@[simp] theorem State.modChan_sensor (s : State) (k : Nat) (f : ChanSt → ChanSt) : (s.modChan k f).sensor = s.sensor := rfl
@[simp] theorem State.modChan_os (s : State) (k : Nat) (f : ChanSt → ChanSt) : (s.modChan k f).os = s.os := rfl
@[simp] theorem State.modChan_cmds (s : State) (k : Nat) (f : ChanSt → ChanSt) : (s.modChan k f).cmds = s.cmds := rfl
@[simp] theorem State.modChan_deferred (s : State) (k : Nat) (f : ChanSt → ChanSt) : (s.modChan k f).deferred = s.deferred := rfl
@[simp] theorem State.modChan_heldCpl (s : State) (k : Nat) (f : ChanSt → ChanSt) : (s.modChan k f).heldCpl = s.heldCpl := rfl
@[simp] theorem State.modChan_lastCtrl (s : State) (k : Nat) (f : ChanSt → ChanSt) : (s.modChan k f).lastCtrl = s.lastCtrl := rfl
@[simp] theorem State.modChan_ctrl (s : State) (k : Nat) (f : ChanSt → ChanSt) : (s.modChan k f).ctrl = s.ctrl := rfl
@[simp] theorem State.modChan_buf (s : State) (k : Nat) (f : ChanSt → ChanSt) : (s.modChan k f).buf = s.buf := rfl
@[simp] theorem State.modChan_cache (s : State) (k : Nat) (f : ChanSt → ChanSt) : (s.modChan k f).cache = s.cache := rfl
@[simp] theorem State.modChan_pair (s : State) (k : Nat) (f : ChanSt → ChanSt) : (s.modChan k f).pair = s.pair := rfl
@[simp] theorem State.modChan_casc (s : State) (k : Nat) (f : ChanSt → ChanSt) : (s.modChan k f).casc = s.casc := rfl
@[simp] theorem State.modChan_fw (s : State) (k : Nat) (f : ChanSt → ChanSt) : (s.modChan k f).fw = s.fw := rfl
@[simp] theorem State.modChan_jf (s : State) (k : Nat) (f : ChanSt → ChanSt) : (s.modChan k f).jf = s.jf := rfl
@[simp] theorem State.modChan_er (s : State) (k : Nat) (f : ChanSt → ChanSt) : (s.modChan k f).er = s.er := rfl
@[simp] theorem State.modChan_set (s : State) (k : Nat) (f : ChanSt → ChanSt) : (s.modChan k f).set = s.set := rfl
@[simp] theorem State.modChan_dict (s : State) (k : Nat) (f : ChanSt → ChanSt) : (s.modChan k f).dict = s.dict := rfl
@[simp] theorem State.modChan_fuse (s : State) (k : Nat) (f : ChanSt → ChanSt) : (s.modChan k f).fuse = s.fuse := rfl
@[simp] theorem State.modChan_kdapTx (s : State) (k : Nat) (f : ChanSt → ChanSt) : (s.modChan k f).kdapTx = s.kdapTx := rfl
@[simp] theorem State.modChan_mon (s : State) (k : Nat) (f : ChanSt → ChanSt) : (s.modChan k f).mon = s.mon := rfl
@[simp] theorem State.modChan_emcy (s : State) (k : Nat) (f : ChanSt → ChanSt) : (s.modChan k f).emcy = s.emcy := rfl
@[simp] theorem State.modChan_answers (s : State) (k : Nat) (f : ChanSt → ChanSt) : (s.modChan k f).answers = s.answers := rfl
@[simp] theorem State.modChan_accHeld (s : State) (k : Nat) (f : ChanSt → ChanSt) : (s.modChan k f).accHeld = s.accHeld := rfl

/-! ## What `putPlan` leaves alone -/

@[simp] theorem State.putPlan_pending (s : State) (k : Nat) (v : PlanSt) : (s.putPlan k v).pending = s.pending := rfl
@[simp] theorem State.putPlan_now (s : State) (k : Nat) (v : PlanSt) : (s.putPlan k v).now = s.now := rfl
@[simp] theorem State.putPlan_fresh (s : State) (k : Nat) (v : PlanSt) : (s.putPlan k v).fresh = s.fresh := rfl
@[simp] theorem State.putPlan_obj (s : State) (k : Nat) (v : PlanSt) : (s.putPlan k v).obj = s.obj := rfl
@[simp] theorem State.putPlan_blob (s : State) (k : Nat) (v : PlanSt) : (s.putPlan k v).blob = s.blob := rfl
@[simp] theorem State.putPlan_mode (s : State) (k : Nat) (v : PlanSt) : (s.putPlan k v).mode = s.mode := rfl
@[simp] theorem State.putPlan_sup (s : State) (k : Nat) (v : PlanSt) : (s.putPlan k v).sup = s.sup := rfl
@[simp] theorem State.putPlan_port (s : State) (k : Nat) (v : PlanSt) : (s.putPlan k v).port = s.port := rfl
@[simp] theorem State.putPlan_line (s : State) (k : Nat) (v : PlanSt) : (s.putPlan k v).line = s.line := rfl
@[simp] theorem State.putPlan_pn2 (s : State) (k : Nat) (v : PlanSt) : (s.putPlan k v).pn2 = s.pn2 := rfl
@[simp] theorem State.putPlan_chan (s : State) (k : Nat) (v : PlanSt) : (s.putPlan k v).chan = s.chan := rfl
@[simp] theorem State.putPlan_srv (s : State) (k : Nat) (v : PlanSt) : (s.putPlan k v).srv = s.srv := rfl
@[simp] theorem State.putPlan_shadow (s : State) (k : Nat) (v : PlanSt) : (s.putPlan k v).shadow = s.shadow := rfl
@[simp] theorem State.putPlan_spdShadow (s : State) (k : Nat) (v : PlanSt) : (s.putPlan k v).spdShadow = s.spdShadow := rfl
@[simp] theorem State.putPlan_seq (s : State) (k : Nat) (v : PlanSt) : (s.putPlan k v).seq = s.seq := rfl
@[simp] theorem State.putPlan_mc (s : State) (k : Nat) (v : PlanSt) : (s.putPlan k v).mc = s.mc := rfl
@[simp] theorem State.putPlan_fabric (s : State) (k : Nat) (v : PlanSt) : (s.putPlan k v).fabric = s.fabric := rfl
@[simp] theorem State.putPlan_fab (s : State) (k : Nat) (v : PlanSt) : (s.putPlan k v).fab = s.fab := rfl
@[simp] theorem State.putPlan_dma (s : State) (k : Nat) (v : PlanSt) : (s.putPlan k v).dma = s.dma := rfl
@[simp] theorem State.putPlan_raw (s : State) (k : Nat) (v : PlanSt) : (s.putPlan k v).raw = s.raw := rfl
@[simp] theorem State.putPlan_spd (s : State) (k : Nat) (v : PlanSt) : (s.putPlan k v).spd = s.spd := rfl
@[simp] theorem State.putPlan_sweepRef (s : State) (k : Nat) (v : PlanSt) : (s.putPlan k v).sweepRef = s.sweepRef := rfl
@[simp] theorem State.putPlan_rpm (s : State) (k : Nat) (v : PlanSt) : (s.putPlan k v).rpm = s.rpm := rfl
@[simp] theorem State.putPlan_hda (s : State) (k : Nat) (v : PlanSt) : (s.putPlan k v).hda = s.hda := rfl
@[simp] theorem State.putPlan_sensor (s : State) (k : Nat) (v : PlanSt) : (s.putPlan k v).sensor = s.sensor := rfl
@[simp] theorem State.putPlan_os (s : State) (k : Nat) (v : PlanSt) : (s.putPlan k v).os = s.os := rfl
@[simp] theorem State.putPlan_cmds (s : State) (k : Nat) (v : PlanSt) : (s.putPlan k v).cmds = s.cmds := rfl
@[simp] theorem State.putPlan_deferred (s : State) (k : Nat) (v : PlanSt) : (s.putPlan k v).deferred = s.deferred := rfl
@[simp] theorem State.putPlan_heldCpl (s : State) (k : Nat) (v : PlanSt) : (s.putPlan k v).heldCpl = s.heldCpl := rfl
@[simp] theorem State.putPlan_lastCtrl (s : State) (k : Nat) (v : PlanSt) : (s.putPlan k v).lastCtrl = s.lastCtrl := rfl
@[simp] theorem State.putPlan_ctrl (s : State) (k : Nat) (v : PlanSt) : (s.putPlan k v).ctrl = s.ctrl := rfl
@[simp] theorem State.putPlan_buf (s : State) (k : Nat) (v : PlanSt) : (s.putPlan k v).buf = s.buf := rfl
@[simp] theorem State.putPlan_cache (s : State) (k : Nat) (v : PlanSt) : (s.putPlan k v).cache = s.cache := rfl
@[simp] theorem State.putPlan_pair (s : State) (k : Nat) (v : PlanSt) : (s.putPlan k v).pair = s.pair := rfl
@[simp] theorem State.putPlan_casc (s : State) (k : Nat) (v : PlanSt) : (s.putPlan k v).casc = s.casc := rfl
@[simp] theorem State.putPlan_fw (s : State) (k : Nat) (v : PlanSt) : (s.putPlan k v).fw = s.fw := rfl
@[simp] theorem State.putPlan_jf (s : State) (k : Nat) (v : PlanSt) : (s.putPlan k v).jf = s.jf := rfl
@[simp] theorem State.putPlan_er (s : State) (k : Nat) (v : PlanSt) : (s.putPlan k v).er = s.er := rfl
@[simp] theorem State.putPlan_set (s : State) (k : Nat) (v : PlanSt) : (s.putPlan k v).set = s.set := rfl
@[simp] theorem State.putPlan_dict (s : State) (k : Nat) (v : PlanSt) : (s.putPlan k v).dict = s.dict := rfl
@[simp] theorem State.putPlan_fuse (s : State) (k : Nat) (v : PlanSt) : (s.putPlan k v).fuse = s.fuse := rfl
@[simp] theorem State.putPlan_kdapTx (s : State) (k : Nat) (v : PlanSt) : (s.putPlan k v).kdapTx = s.kdapTx := rfl
@[simp] theorem State.putPlan_mon (s : State) (k : Nat) (v : PlanSt) : (s.putPlan k v).mon = s.mon := rfl
@[simp] theorem State.putPlan_emcy (s : State) (k : Nat) (v : PlanSt) : (s.putPlan k v).emcy = s.emcy := rfl
@[simp] theorem State.putPlan_answers (s : State) (k : Nat) (v : PlanSt) : (s.putPlan k v).answers = s.answers := rfl
@[simp] theorem State.putPlan_accHeld (s : State) (k : Nat) (v : PlanSt) : (s.putPlan k v).accHeld = s.accHeld := rfl

/-! ## What `modPlan` leaves alone -/

@[simp] theorem State.modPlan_pending (s : State) (k : Nat) (f : PlanSt → PlanSt) : (s.modPlan k f).pending = s.pending := rfl
@[simp] theorem State.modPlan_now (s : State) (k : Nat) (f : PlanSt → PlanSt) : (s.modPlan k f).now = s.now := rfl
@[simp] theorem State.modPlan_fresh (s : State) (k : Nat) (f : PlanSt → PlanSt) : (s.modPlan k f).fresh = s.fresh := rfl
@[simp] theorem State.modPlan_obj (s : State) (k : Nat) (f : PlanSt → PlanSt) : (s.modPlan k f).obj = s.obj := rfl
@[simp] theorem State.modPlan_blob (s : State) (k : Nat) (f : PlanSt → PlanSt) : (s.modPlan k f).blob = s.blob := rfl
@[simp] theorem State.modPlan_mode (s : State) (k : Nat) (f : PlanSt → PlanSt) : (s.modPlan k f).mode = s.mode := rfl
@[simp] theorem State.modPlan_sup (s : State) (k : Nat) (f : PlanSt → PlanSt) : (s.modPlan k f).sup = s.sup := rfl
@[simp] theorem State.modPlan_port (s : State) (k : Nat) (f : PlanSt → PlanSt) : (s.modPlan k f).port = s.port := rfl
@[simp] theorem State.modPlan_line (s : State) (k : Nat) (f : PlanSt → PlanSt) : (s.modPlan k f).line = s.line := rfl
@[simp] theorem State.modPlan_pn2 (s : State) (k : Nat) (f : PlanSt → PlanSt) : (s.modPlan k f).pn2 = s.pn2 := rfl
@[simp] theorem State.modPlan_chan (s : State) (k : Nat) (f : PlanSt → PlanSt) : (s.modPlan k f).chan = s.chan := rfl
@[simp] theorem State.modPlan_srv (s : State) (k : Nat) (f : PlanSt → PlanSt) : (s.modPlan k f).srv = s.srv := rfl
@[simp] theorem State.modPlan_shadow (s : State) (k : Nat) (f : PlanSt → PlanSt) : (s.modPlan k f).shadow = s.shadow := rfl
@[simp] theorem State.modPlan_spdShadow (s : State) (k : Nat) (f : PlanSt → PlanSt) : (s.modPlan k f).spdShadow = s.spdShadow := rfl
@[simp] theorem State.modPlan_seq (s : State) (k : Nat) (f : PlanSt → PlanSt) : (s.modPlan k f).seq = s.seq := rfl
@[simp] theorem State.modPlan_mc (s : State) (k : Nat) (f : PlanSt → PlanSt) : (s.modPlan k f).mc = s.mc := rfl
@[simp] theorem State.modPlan_fabric (s : State) (k : Nat) (f : PlanSt → PlanSt) : (s.modPlan k f).fabric = s.fabric := rfl
@[simp] theorem State.modPlan_fab (s : State) (k : Nat) (f : PlanSt → PlanSt) : (s.modPlan k f).fab = s.fab := rfl
@[simp] theorem State.modPlan_dma (s : State) (k : Nat) (f : PlanSt → PlanSt) : (s.modPlan k f).dma = s.dma := rfl
@[simp] theorem State.modPlan_raw (s : State) (k : Nat) (f : PlanSt → PlanSt) : (s.modPlan k f).raw = s.raw := rfl
@[simp] theorem State.modPlan_spd (s : State) (k : Nat) (f : PlanSt → PlanSt) : (s.modPlan k f).spd = s.spd := rfl
@[simp] theorem State.modPlan_sweepRef (s : State) (k : Nat) (f : PlanSt → PlanSt) : (s.modPlan k f).sweepRef = s.sweepRef := rfl
@[simp] theorem State.modPlan_rpm (s : State) (k : Nat) (f : PlanSt → PlanSt) : (s.modPlan k f).rpm = s.rpm := rfl
@[simp] theorem State.modPlan_hda (s : State) (k : Nat) (f : PlanSt → PlanSt) : (s.modPlan k f).hda = s.hda := rfl
@[simp] theorem State.modPlan_sensor (s : State) (k : Nat) (f : PlanSt → PlanSt) : (s.modPlan k f).sensor = s.sensor := rfl
@[simp] theorem State.modPlan_os (s : State) (k : Nat) (f : PlanSt → PlanSt) : (s.modPlan k f).os = s.os := rfl
@[simp] theorem State.modPlan_cmds (s : State) (k : Nat) (f : PlanSt → PlanSt) : (s.modPlan k f).cmds = s.cmds := rfl
@[simp] theorem State.modPlan_deferred (s : State) (k : Nat) (f : PlanSt → PlanSt) : (s.modPlan k f).deferred = s.deferred := rfl
@[simp] theorem State.modPlan_heldCpl (s : State) (k : Nat) (f : PlanSt → PlanSt) : (s.modPlan k f).heldCpl = s.heldCpl := rfl
@[simp] theorem State.modPlan_lastCtrl (s : State) (k : Nat) (f : PlanSt → PlanSt) : (s.modPlan k f).lastCtrl = s.lastCtrl := rfl
@[simp] theorem State.modPlan_ctrl (s : State) (k : Nat) (f : PlanSt → PlanSt) : (s.modPlan k f).ctrl = s.ctrl := rfl
@[simp] theorem State.modPlan_buf (s : State) (k : Nat) (f : PlanSt → PlanSt) : (s.modPlan k f).buf = s.buf := rfl
@[simp] theorem State.modPlan_cache (s : State) (k : Nat) (f : PlanSt → PlanSt) : (s.modPlan k f).cache = s.cache := rfl
@[simp] theorem State.modPlan_pair (s : State) (k : Nat) (f : PlanSt → PlanSt) : (s.modPlan k f).pair = s.pair := rfl
@[simp] theorem State.modPlan_casc (s : State) (k : Nat) (f : PlanSt → PlanSt) : (s.modPlan k f).casc = s.casc := rfl
@[simp] theorem State.modPlan_fw (s : State) (k : Nat) (f : PlanSt → PlanSt) : (s.modPlan k f).fw = s.fw := rfl
@[simp] theorem State.modPlan_jf (s : State) (k : Nat) (f : PlanSt → PlanSt) : (s.modPlan k f).jf = s.jf := rfl
@[simp] theorem State.modPlan_er (s : State) (k : Nat) (f : PlanSt → PlanSt) : (s.modPlan k f).er = s.er := rfl
@[simp] theorem State.modPlan_set (s : State) (k : Nat) (f : PlanSt → PlanSt) : (s.modPlan k f).set = s.set := rfl
@[simp] theorem State.modPlan_dict (s : State) (k : Nat) (f : PlanSt → PlanSt) : (s.modPlan k f).dict = s.dict := rfl
@[simp] theorem State.modPlan_fuse (s : State) (k : Nat) (f : PlanSt → PlanSt) : (s.modPlan k f).fuse = s.fuse := rfl
@[simp] theorem State.modPlan_kdapTx (s : State) (k : Nat) (f : PlanSt → PlanSt) : (s.modPlan k f).kdapTx = s.kdapTx := rfl
@[simp] theorem State.modPlan_mon (s : State) (k : Nat) (f : PlanSt → PlanSt) : (s.modPlan k f).mon = s.mon := rfl
@[simp] theorem State.modPlan_emcy (s : State) (k : Nat) (f : PlanSt → PlanSt) : (s.modPlan k f).emcy = s.emcy := rfl
@[simp] theorem State.modPlan_answers (s : State) (k : Nat) (f : PlanSt → PlanSt) : (s.modPlan k f).answers = s.answers := rfl
@[simp] theorem State.modPlan_accHeld (s : State) (k : Nat) (f : PlanSt → PlanSt) : (s.modPlan k f).accHeld = s.accHeld := rfl

/-! ## What `putSrv` leaves alone -/

@[simp] theorem State.putSrv_pending (s : State) (k : Nat) (v : SrvSt) : (s.putSrv k v).pending = s.pending := rfl
@[simp] theorem State.putSrv_now (s : State) (k : Nat) (v : SrvSt) : (s.putSrv k v).now = s.now := rfl
@[simp] theorem State.putSrv_fresh (s : State) (k : Nat) (v : SrvSt) : (s.putSrv k v).fresh = s.fresh := rfl
@[simp] theorem State.putSrv_obj (s : State) (k : Nat) (v : SrvSt) : (s.putSrv k v).obj = s.obj := rfl
@[simp] theorem State.putSrv_blob (s : State) (k : Nat) (v : SrvSt) : (s.putSrv k v).blob = s.blob := rfl
@[simp] theorem State.putSrv_mode (s : State) (k : Nat) (v : SrvSt) : (s.putSrv k v).mode = s.mode := rfl
@[simp] theorem State.putSrv_sup (s : State) (k : Nat) (v : SrvSt) : (s.putSrv k v).sup = s.sup := rfl
@[simp] theorem State.putSrv_port (s : State) (k : Nat) (v : SrvSt) : (s.putSrv k v).port = s.port := rfl
@[simp] theorem State.putSrv_line (s : State) (k : Nat) (v : SrvSt) : (s.putSrv k v).line = s.line := rfl
@[simp] theorem State.putSrv_pn2 (s : State) (k : Nat) (v : SrvSt) : (s.putSrv k v).pn2 = s.pn2 := rfl
@[simp] theorem State.putSrv_chan (s : State) (k : Nat) (v : SrvSt) : (s.putSrv k v).chan = s.chan := rfl
@[simp] theorem State.putSrv_plan (s : State) (k : Nat) (v : SrvSt) : (s.putSrv k v).plan = s.plan := rfl
@[simp] theorem State.putSrv_shadow (s : State) (k : Nat) (v : SrvSt) : (s.putSrv k v).shadow = s.shadow := rfl
@[simp] theorem State.putSrv_spdShadow (s : State) (k : Nat) (v : SrvSt) : (s.putSrv k v).spdShadow = s.spdShadow := rfl
@[simp] theorem State.putSrv_seq (s : State) (k : Nat) (v : SrvSt) : (s.putSrv k v).seq = s.seq := rfl
@[simp] theorem State.putSrv_mc (s : State) (k : Nat) (v : SrvSt) : (s.putSrv k v).mc = s.mc := rfl
@[simp] theorem State.putSrv_fabric (s : State) (k : Nat) (v : SrvSt) : (s.putSrv k v).fabric = s.fabric := rfl
@[simp] theorem State.putSrv_fab (s : State) (k : Nat) (v : SrvSt) : (s.putSrv k v).fab = s.fab := rfl
@[simp] theorem State.putSrv_dma (s : State) (k : Nat) (v : SrvSt) : (s.putSrv k v).dma = s.dma := rfl
@[simp] theorem State.putSrv_raw (s : State) (k : Nat) (v : SrvSt) : (s.putSrv k v).raw = s.raw := rfl
@[simp] theorem State.putSrv_spd (s : State) (k : Nat) (v : SrvSt) : (s.putSrv k v).spd = s.spd := rfl
@[simp] theorem State.putSrv_sweepRef (s : State) (k : Nat) (v : SrvSt) : (s.putSrv k v).sweepRef = s.sweepRef := rfl
@[simp] theorem State.putSrv_rpm (s : State) (k : Nat) (v : SrvSt) : (s.putSrv k v).rpm = s.rpm := rfl
@[simp] theorem State.putSrv_hda (s : State) (k : Nat) (v : SrvSt) : (s.putSrv k v).hda = s.hda := rfl
@[simp] theorem State.putSrv_sensor (s : State) (k : Nat) (v : SrvSt) : (s.putSrv k v).sensor = s.sensor := rfl
@[simp] theorem State.putSrv_os (s : State) (k : Nat) (v : SrvSt) : (s.putSrv k v).os = s.os := rfl
@[simp] theorem State.putSrv_cmds (s : State) (k : Nat) (v : SrvSt) : (s.putSrv k v).cmds = s.cmds := rfl
@[simp] theorem State.putSrv_deferred (s : State) (k : Nat) (v : SrvSt) : (s.putSrv k v).deferred = s.deferred := rfl
@[simp] theorem State.putSrv_heldCpl (s : State) (k : Nat) (v : SrvSt) : (s.putSrv k v).heldCpl = s.heldCpl := rfl
@[simp] theorem State.putSrv_lastCtrl (s : State) (k : Nat) (v : SrvSt) : (s.putSrv k v).lastCtrl = s.lastCtrl := rfl
@[simp] theorem State.putSrv_ctrl (s : State) (k : Nat) (v : SrvSt) : (s.putSrv k v).ctrl = s.ctrl := rfl
@[simp] theorem State.putSrv_buf (s : State) (k : Nat) (v : SrvSt) : (s.putSrv k v).buf = s.buf := rfl
@[simp] theorem State.putSrv_cache (s : State) (k : Nat) (v : SrvSt) : (s.putSrv k v).cache = s.cache := rfl
@[simp] theorem State.putSrv_pair (s : State) (k : Nat) (v : SrvSt) : (s.putSrv k v).pair = s.pair := rfl
@[simp] theorem State.putSrv_casc (s : State) (k : Nat) (v : SrvSt) : (s.putSrv k v).casc = s.casc := rfl
@[simp] theorem State.putSrv_fw (s : State) (k : Nat) (v : SrvSt) : (s.putSrv k v).fw = s.fw := rfl
@[simp] theorem State.putSrv_jf (s : State) (k : Nat) (v : SrvSt) : (s.putSrv k v).jf = s.jf := rfl
@[simp] theorem State.putSrv_er (s : State) (k : Nat) (v : SrvSt) : (s.putSrv k v).er = s.er := rfl
@[simp] theorem State.putSrv_set (s : State) (k : Nat) (v : SrvSt) : (s.putSrv k v).set = s.set := rfl
@[simp] theorem State.putSrv_dict (s : State) (k : Nat) (v : SrvSt) : (s.putSrv k v).dict = s.dict := rfl
@[simp] theorem State.putSrv_fuse (s : State) (k : Nat) (v : SrvSt) : (s.putSrv k v).fuse = s.fuse := rfl
@[simp] theorem State.putSrv_kdapTx (s : State) (k : Nat) (v : SrvSt) : (s.putSrv k v).kdapTx = s.kdapTx := rfl
@[simp] theorem State.putSrv_mon (s : State) (k : Nat) (v : SrvSt) : (s.putSrv k v).mon = s.mon := rfl
@[simp] theorem State.putSrv_emcy (s : State) (k : Nat) (v : SrvSt) : (s.putSrv k v).emcy = s.emcy := rfl
@[simp] theorem State.putSrv_answers (s : State) (k : Nat) (v : SrvSt) : (s.putSrv k v).answers = s.answers := rfl
@[simp] theorem State.putSrv_accHeld (s : State) (k : Nat) (v : SrvSt) : (s.putSrv k v).accHeld = s.accHeld := rfl

/-! ## What `modSrv` leaves alone -/

@[simp] theorem State.modSrv_pending (s : State) (k : Nat) (f : SrvSt → SrvSt) : (s.modSrv k f).pending = s.pending := rfl
@[simp] theorem State.modSrv_now (s : State) (k : Nat) (f : SrvSt → SrvSt) : (s.modSrv k f).now = s.now := rfl
@[simp] theorem State.modSrv_fresh (s : State) (k : Nat) (f : SrvSt → SrvSt) : (s.modSrv k f).fresh = s.fresh := rfl
@[simp] theorem State.modSrv_obj (s : State) (k : Nat) (f : SrvSt → SrvSt) : (s.modSrv k f).obj = s.obj := rfl
@[simp] theorem State.modSrv_blob (s : State) (k : Nat) (f : SrvSt → SrvSt) : (s.modSrv k f).blob = s.blob := rfl
@[simp] theorem State.modSrv_mode (s : State) (k : Nat) (f : SrvSt → SrvSt) : (s.modSrv k f).mode = s.mode := rfl
@[simp] theorem State.modSrv_sup (s : State) (k : Nat) (f : SrvSt → SrvSt) : (s.modSrv k f).sup = s.sup := rfl
@[simp] theorem State.modSrv_port (s : State) (k : Nat) (f : SrvSt → SrvSt) : (s.modSrv k f).port = s.port := rfl
@[simp] theorem State.modSrv_line (s : State) (k : Nat) (f : SrvSt → SrvSt) : (s.modSrv k f).line = s.line := rfl
@[simp] theorem State.modSrv_pn2 (s : State) (k : Nat) (f : SrvSt → SrvSt) : (s.modSrv k f).pn2 = s.pn2 := rfl
@[simp] theorem State.modSrv_chan (s : State) (k : Nat) (f : SrvSt → SrvSt) : (s.modSrv k f).chan = s.chan := rfl
@[simp] theorem State.modSrv_plan (s : State) (k : Nat) (f : SrvSt → SrvSt) : (s.modSrv k f).plan = s.plan := rfl
@[simp] theorem State.modSrv_spdShadow (s : State) (k : Nat) (f : SrvSt → SrvSt) : (s.modSrv k f).spdShadow = s.spdShadow := rfl
@[simp] theorem State.modSrv_seq (s : State) (k : Nat) (f : SrvSt → SrvSt) : (s.modSrv k f).seq = s.seq := rfl
@[simp] theorem State.modSrv_mc (s : State) (k : Nat) (f : SrvSt → SrvSt) : (s.modSrv k f).mc = s.mc := rfl
@[simp] theorem State.modSrv_fabric (s : State) (k : Nat) (f : SrvSt → SrvSt) : (s.modSrv k f).fabric = s.fabric := rfl
@[simp] theorem State.modSrv_fab (s : State) (k : Nat) (f : SrvSt → SrvSt) : (s.modSrv k f).fab = s.fab := rfl
@[simp] theorem State.modSrv_dma (s : State) (k : Nat) (f : SrvSt → SrvSt) : (s.modSrv k f).dma = s.dma := rfl
@[simp] theorem State.modSrv_raw (s : State) (k : Nat) (f : SrvSt → SrvSt) : (s.modSrv k f).raw = s.raw := rfl
@[simp] theorem State.modSrv_spd (s : State) (k : Nat) (f : SrvSt → SrvSt) : (s.modSrv k f).spd = s.spd := rfl
@[simp] theorem State.modSrv_sweepRef (s : State) (k : Nat) (f : SrvSt → SrvSt) : (s.modSrv k f).sweepRef = s.sweepRef := rfl
@[simp] theorem State.modSrv_rpm (s : State) (k : Nat) (f : SrvSt → SrvSt) : (s.modSrv k f).rpm = s.rpm := rfl
@[simp] theorem State.modSrv_hda (s : State) (k : Nat) (f : SrvSt → SrvSt) : (s.modSrv k f).hda = s.hda := rfl
@[simp] theorem State.modSrv_sensor (s : State) (k : Nat) (f : SrvSt → SrvSt) : (s.modSrv k f).sensor = s.sensor := rfl
@[simp] theorem State.modSrv_os (s : State) (k : Nat) (f : SrvSt → SrvSt) : (s.modSrv k f).os = s.os := rfl
@[simp] theorem State.modSrv_cmds (s : State) (k : Nat) (f : SrvSt → SrvSt) : (s.modSrv k f).cmds = s.cmds := rfl
@[simp] theorem State.modSrv_deferred (s : State) (k : Nat) (f : SrvSt → SrvSt) : (s.modSrv k f).deferred = s.deferred := rfl
@[simp] theorem State.modSrv_heldCpl (s : State) (k : Nat) (f : SrvSt → SrvSt) : (s.modSrv k f).heldCpl = s.heldCpl := rfl
@[simp] theorem State.modSrv_lastCtrl (s : State) (k : Nat) (f : SrvSt → SrvSt) : (s.modSrv k f).lastCtrl = s.lastCtrl := rfl
@[simp] theorem State.modSrv_ctrl (s : State) (k : Nat) (f : SrvSt → SrvSt) : (s.modSrv k f).ctrl = s.ctrl := rfl
@[simp] theorem State.modSrv_buf (s : State) (k : Nat) (f : SrvSt → SrvSt) : (s.modSrv k f).buf = s.buf := rfl
@[simp] theorem State.modSrv_cache (s : State) (k : Nat) (f : SrvSt → SrvSt) : (s.modSrv k f).cache = s.cache := rfl
@[simp] theorem State.modSrv_pair (s : State) (k : Nat) (f : SrvSt → SrvSt) : (s.modSrv k f).pair = s.pair := rfl
@[simp] theorem State.modSrv_casc (s : State) (k : Nat) (f : SrvSt → SrvSt) : (s.modSrv k f).casc = s.casc := rfl
@[simp] theorem State.modSrv_fw (s : State) (k : Nat) (f : SrvSt → SrvSt) : (s.modSrv k f).fw = s.fw := rfl
@[simp] theorem State.modSrv_jf (s : State) (k : Nat) (f : SrvSt → SrvSt) : (s.modSrv k f).jf = s.jf := rfl
@[simp] theorem State.modSrv_er (s : State) (k : Nat) (f : SrvSt → SrvSt) : (s.modSrv k f).er = s.er := rfl
@[simp] theorem State.modSrv_set (s : State) (k : Nat) (f : SrvSt → SrvSt) : (s.modSrv k f).set = s.set := rfl
@[simp] theorem State.modSrv_dict (s : State) (k : Nat) (f : SrvSt → SrvSt) : (s.modSrv k f).dict = s.dict := rfl
@[simp] theorem State.modSrv_fuse (s : State) (k : Nat) (f : SrvSt → SrvSt) : (s.modSrv k f).fuse = s.fuse := rfl
@[simp] theorem State.modSrv_kdapTx (s : State) (k : Nat) (f : SrvSt → SrvSt) : (s.modSrv k f).kdapTx = s.kdapTx := rfl
@[simp] theorem State.modSrv_mon (s : State) (k : Nat) (f : SrvSt → SrvSt) : (s.modSrv k f).mon = s.mon := rfl
@[simp] theorem State.modSrv_emcy (s : State) (k : Nat) (f : SrvSt → SrvSt) : (s.modSrv k f).emcy = s.emcy := rfl
@[simp] theorem State.modSrv_answers (s : State) (k : Nat) (f : SrvSt → SrvSt) : (s.modSrv k f).answers = s.answers := rfl
@[simp] theorem State.modSrv_accHeld (s : State) (k : Nat) (f : SrvSt → SrvSt) : (s.modSrv k f).accHeld = s.accHeld := rfl

/-! ## What `putShadow` leaves alone -/

@[simp] theorem State.putShadow_pending (s : State) (k : Nat) (v : SrvSt) : (s.putShadow k v).pending = s.pending := rfl
@[simp] theorem State.putShadow_now (s : State) (k : Nat) (v : SrvSt) : (s.putShadow k v).now = s.now := rfl
@[simp] theorem State.putShadow_fresh (s : State) (k : Nat) (v : SrvSt) : (s.putShadow k v).fresh = s.fresh := rfl
@[simp] theorem State.putShadow_obj (s : State) (k : Nat) (v : SrvSt) : (s.putShadow k v).obj = s.obj := rfl
@[simp] theorem State.putShadow_blob (s : State) (k : Nat) (v : SrvSt) : (s.putShadow k v).blob = s.blob := rfl
@[simp] theorem State.putShadow_mode (s : State) (k : Nat) (v : SrvSt) : (s.putShadow k v).mode = s.mode := rfl
@[simp] theorem State.putShadow_sup (s : State) (k : Nat) (v : SrvSt) : (s.putShadow k v).sup = s.sup := rfl
@[simp] theorem State.putShadow_port (s : State) (k : Nat) (v : SrvSt) : (s.putShadow k v).port = s.port := rfl
@[simp] theorem State.putShadow_line (s : State) (k : Nat) (v : SrvSt) : (s.putShadow k v).line = s.line := rfl
@[simp] theorem State.putShadow_pn2 (s : State) (k : Nat) (v : SrvSt) : (s.putShadow k v).pn2 = s.pn2 := rfl
@[simp] theorem State.putShadow_chan (s : State) (k : Nat) (v : SrvSt) : (s.putShadow k v).chan = s.chan := rfl
@[simp] theorem State.putShadow_plan (s : State) (k : Nat) (v : SrvSt) : (s.putShadow k v).plan = s.plan := rfl
@[simp] theorem State.putShadow_srv (s : State) (k : Nat) (v : SrvSt) : (s.putShadow k v).srv = s.srv := rfl
@[simp] theorem State.putShadow_spdShadow (s : State) (k : Nat) (v : SrvSt) : (s.putShadow k v).spdShadow = s.spdShadow := rfl
@[simp] theorem State.putShadow_seq (s : State) (k : Nat) (v : SrvSt) : (s.putShadow k v).seq = s.seq := rfl
@[simp] theorem State.putShadow_mc (s : State) (k : Nat) (v : SrvSt) : (s.putShadow k v).mc = s.mc := rfl
@[simp] theorem State.putShadow_fabric (s : State) (k : Nat) (v : SrvSt) : (s.putShadow k v).fabric = s.fabric := rfl
@[simp] theorem State.putShadow_fab (s : State) (k : Nat) (v : SrvSt) : (s.putShadow k v).fab = s.fab := rfl
@[simp] theorem State.putShadow_dma (s : State) (k : Nat) (v : SrvSt) : (s.putShadow k v).dma = s.dma := rfl
@[simp] theorem State.putShadow_raw (s : State) (k : Nat) (v : SrvSt) : (s.putShadow k v).raw = s.raw := rfl
@[simp] theorem State.putShadow_spd (s : State) (k : Nat) (v : SrvSt) : (s.putShadow k v).spd = s.spd := rfl
@[simp] theorem State.putShadow_sweepRef (s : State) (k : Nat) (v : SrvSt) : (s.putShadow k v).sweepRef = s.sweepRef := rfl
@[simp] theorem State.putShadow_rpm (s : State) (k : Nat) (v : SrvSt) : (s.putShadow k v).rpm = s.rpm := rfl
@[simp] theorem State.putShadow_hda (s : State) (k : Nat) (v : SrvSt) : (s.putShadow k v).hda = s.hda := rfl
@[simp] theorem State.putShadow_sensor (s : State) (k : Nat) (v : SrvSt) : (s.putShadow k v).sensor = s.sensor := rfl
@[simp] theorem State.putShadow_os (s : State) (k : Nat) (v : SrvSt) : (s.putShadow k v).os = s.os := rfl
@[simp] theorem State.putShadow_cmds (s : State) (k : Nat) (v : SrvSt) : (s.putShadow k v).cmds = s.cmds := rfl
@[simp] theorem State.putShadow_deferred (s : State) (k : Nat) (v : SrvSt) : (s.putShadow k v).deferred = s.deferred := rfl
@[simp] theorem State.putShadow_heldCpl (s : State) (k : Nat) (v : SrvSt) : (s.putShadow k v).heldCpl = s.heldCpl := rfl
@[simp] theorem State.putShadow_lastCtrl (s : State) (k : Nat) (v : SrvSt) : (s.putShadow k v).lastCtrl = s.lastCtrl := rfl
@[simp] theorem State.putShadow_ctrl (s : State) (k : Nat) (v : SrvSt) : (s.putShadow k v).ctrl = s.ctrl := rfl
@[simp] theorem State.putShadow_buf (s : State) (k : Nat) (v : SrvSt) : (s.putShadow k v).buf = s.buf := rfl
@[simp] theorem State.putShadow_cache (s : State) (k : Nat) (v : SrvSt) : (s.putShadow k v).cache = s.cache := rfl
@[simp] theorem State.putShadow_pair (s : State) (k : Nat) (v : SrvSt) : (s.putShadow k v).pair = s.pair := rfl
@[simp] theorem State.putShadow_casc (s : State) (k : Nat) (v : SrvSt) : (s.putShadow k v).casc = s.casc := rfl
@[simp] theorem State.putShadow_fw (s : State) (k : Nat) (v : SrvSt) : (s.putShadow k v).fw = s.fw := rfl
@[simp] theorem State.putShadow_jf (s : State) (k : Nat) (v : SrvSt) : (s.putShadow k v).jf = s.jf := rfl
@[simp] theorem State.putShadow_er (s : State) (k : Nat) (v : SrvSt) : (s.putShadow k v).er = s.er := rfl
@[simp] theorem State.putShadow_set (s : State) (k : Nat) (v : SrvSt) : (s.putShadow k v).set = s.set := rfl
@[simp] theorem State.putShadow_dict (s : State) (k : Nat) (v : SrvSt) : (s.putShadow k v).dict = s.dict := rfl
@[simp] theorem State.putShadow_fuse (s : State) (k : Nat) (v : SrvSt) : (s.putShadow k v).fuse = s.fuse := rfl
@[simp] theorem State.putShadow_kdapTx (s : State) (k : Nat) (v : SrvSt) : (s.putShadow k v).kdapTx = s.kdapTx := rfl
@[simp] theorem State.putShadow_mon (s : State) (k : Nat) (v : SrvSt) : (s.putShadow k v).mon = s.mon := rfl
@[simp] theorem State.putShadow_emcy (s : State) (k : Nat) (v : SrvSt) : (s.putShadow k v).emcy = s.emcy := rfl
@[simp] theorem State.putShadow_answers (s : State) (k : Nat) (v : SrvSt) : (s.putShadow k v).answers = s.answers := rfl
@[simp] theorem State.putShadow_accHeld (s : State) (k : Nat) (v : SrvSt) : (s.putShadow k v).accHeld = s.accHeld := rfl

/-! ## What `modShadow` leaves alone -/

@[simp] theorem State.modShadow_pending (s : State) (k : Nat) (f : SrvSt → SrvSt) : (s.modShadow k f).pending = s.pending := rfl
@[simp] theorem State.modShadow_now (s : State) (k : Nat) (f : SrvSt → SrvSt) : (s.modShadow k f).now = s.now := rfl
@[simp] theorem State.modShadow_fresh (s : State) (k : Nat) (f : SrvSt → SrvSt) : (s.modShadow k f).fresh = s.fresh := rfl
@[simp] theorem State.modShadow_obj (s : State) (k : Nat) (f : SrvSt → SrvSt) : (s.modShadow k f).obj = s.obj := rfl
@[simp] theorem State.modShadow_blob (s : State) (k : Nat) (f : SrvSt → SrvSt) : (s.modShadow k f).blob = s.blob := rfl
@[simp] theorem State.modShadow_mode (s : State) (k : Nat) (f : SrvSt → SrvSt) : (s.modShadow k f).mode = s.mode := rfl
@[simp] theorem State.modShadow_sup (s : State) (k : Nat) (f : SrvSt → SrvSt) : (s.modShadow k f).sup = s.sup := rfl
@[simp] theorem State.modShadow_port (s : State) (k : Nat) (f : SrvSt → SrvSt) : (s.modShadow k f).port = s.port := rfl
@[simp] theorem State.modShadow_line (s : State) (k : Nat) (f : SrvSt → SrvSt) : (s.modShadow k f).line = s.line := rfl
@[simp] theorem State.modShadow_pn2 (s : State) (k : Nat) (f : SrvSt → SrvSt) : (s.modShadow k f).pn2 = s.pn2 := rfl
@[simp] theorem State.modShadow_chan (s : State) (k : Nat) (f : SrvSt → SrvSt) : (s.modShadow k f).chan = s.chan := rfl
@[simp] theorem State.modShadow_plan (s : State) (k : Nat) (f : SrvSt → SrvSt) : (s.modShadow k f).plan = s.plan := rfl
@[simp] theorem State.modShadow_srv (s : State) (k : Nat) (f : SrvSt → SrvSt) : (s.modShadow k f).srv = s.srv := rfl
@[simp] theorem State.modShadow_spdShadow (s : State) (k : Nat) (f : SrvSt → SrvSt) : (s.modShadow k f).spdShadow = s.spdShadow := rfl
@[simp] theorem State.modShadow_seq (s : State) (k : Nat) (f : SrvSt → SrvSt) : (s.modShadow k f).seq = s.seq := rfl
@[simp] theorem State.modShadow_mc (s : State) (k : Nat) (f : SrvSt → SrvSt) : (s.modShadow k f).mc = s.mc := rfl
@[simp] theorem State.modShadow_fabric (s : State) (k : Nat) (f : SrvSt → SrvSt) : (s.modShadow k f).fabric = s.fabric := rfl
@[simp] theorem State.modShadow_fab (s : State) (k : Nat) (f : SrvSt → SrvSt) : (s.modShadow k f).fab = s.fab := rfl
@[simp] theorem State.modShadow_dma (s : State) (k : Nat) (f : SrvSt → SrvSt) : (s.modShadow k f).dma = s.dma := rfl
@[simp] theorem State.modShadow_raw (s : State) (k : Nat) (f : SrvSt → SrvSt) : (s.modShadow k f).raw = s.raw := rfl
@[simp] theorem State.modShadow_spd (s : State) (k : Nat) (f : SrvSt → SrvSt) : (s.modShadow k f).spd = s.spd := rfl
@[simp] theorem State.modShadow_sweepRef (s : State) (k : Nat) (f : SrvSt → SrvSt) : (s.modShadow k f).sweepRef = s.sweepRef := rfl
@[simp] theorem State.modShadow_rpm (s : State) (k : Nat) (f : SrvSt → SrvSt) : (s.modShadow k f).rpm = s.rpm := rfl
@[simp] theorem State.modShadow_hda (s : State) (k : Nat) (f : SrvSt → SrvSt) : (s.modShadow k f).hda = s.hda := rfl
@[simp] theorem State.modShadow_sensor (s : State) (k : Nat) (f : SrvSt → SrvSt) : (s.modShadow k f).sensor = s.sensor := rfl
@[simp] theorem State.modShadow_os (s : State) (k : Nat) (f : SrvSt → SrvSt) : (s.modShadow k f).os = s.os := rfl
@[simp] theorem State.modShadow_cmds (s : State) (k : Nat) (f : SrvSt → SrvSt) : (s.modShadow k f).cmds = s.cmds := rfl
@[simp] theorem State.modShadow_deferred (s : State) (k : Nat) (f : SrvSt → SrvSt) : (s.modShadow k f).deferred = s.deferred := rfl
@[simp] theorem State.modShadow_heldCpl (s : State) (k : Nat) (f : SrvSt → SrvSt) : (s.modShadow k f).heldCpl = s.heldCpl := rfl
@[simp] theorem State.modShadow_lastCtrl (s : State) (k : Nat) (f : SrvSt → SrvSt) : (s.modShadow k f).lastCtrl = s.lastCtrl := rfl
@[simp] theorem State.modShadow_ctrl (s : State) (k : Nat) (f : SrvSt → SrvSt) : (s.modShadow k f).ctrl = s.ctrl := rfl
@[simp] theorem State.modShadow_buf (s : State) (k : Nat) (f : SrvSt → SrvSt) : (s.modShadow k f).buf = s.buf := rfl
@[simp] theorem State.modShadow_cache (s : State) (k : Nat) (f : SrvSt → SrvSt) : (s.modShadow k f).cache = s.cache := rfl
@[simp] theorem State.modShadow_pair (s : State) (k : Nat) (f : SrvSt → SrvSt) : (s.modShadow k f).pair = s.pair := rfl
@[simp] theorem State.modShadow_casc (s : State) (k : Nat) (f : SrvSt → SrvSt) : (s.modShadow k f).casc = s.casc := rfl
@[simp] theorem State.modShadow_fw (s : State) (k : Nat) (f : SrvSt → SrvSt) : (s.modShadow k f).fw = s.fw := rfl
@[simp] theorem State.modShadow_jf (s : State) (k : Nat) (f : SrvSt → SrvSt) : (s.modShadow k f).jf = s.jf := rfl
@[simp] theorem State.modShadow_er (s : State) (k : Nat) (f : SrvSt → SrvSt) : (s.modShadow k f).er = s.er := rfl
@[simp] theorem State.modShadow_set (s : State) (k : Nat) (f : SrvSt → SrvSt) : (s.modShadow k f).set = s.set := rfl
@[simp] theorem State.modShadow_dict (s : State) (k : Nat) (f : SrvSt → SrvSt) : (s.modShadow k f).dict = s.dict := rfl
@[simp] theorem State.modShadow_fuse (s : State) (k : Nat) (f : SrvSt → SrvSt) : (s.modShadow k f).fuse = s.fuse := rfl
@[simp] theorem State.modShadow_kdapTx (s : State) (k : Nat) (f : SrvSt → SrvSt) : (s.modShadow k f).kdapTx = s.kdapTx := rfl
@[simp] theorem State.modShadow_mon (s : State) (k : Nat) (f : SrvSt → SrvSt) : (s.modShadow k f).mon = s.mon := rfl
@[simp] theorem State.modShadow_emcy (s : State) (k : Nat) (f : SrvSt → SrvSt) : (s.modShadow k f).emcy = s.emcy := rfl
@[simp] theorem State.modShadow_answers (s : State) (k : Nat) (f : SrvSt → SrvSt) : (s.modShadow k f).answers = s.answers := rfl
@[simp] theorem State.modShadow_accHeld (s : State) (k : Nat) (f : SrvSt → SrvSt) : (s.modShadow k f).accHeld = s.accHeld := rfl

/-! ## What `putSpdShadow` leaves alone -/

@[simp] theorem State.putSpdShadow_pending (s : State) (k : Nat) (v : SpdSt) : (s.putSpdShadow k v).pending = s.pending := rfl
@[simp] theorem State.putSpdShadow_now (s : State) (k : Nat) (v : SpdSt) : (s.putSpdShadow k v).now = s.now := rfl
@[simp] theorem State.putSpdShadow_fresh (s : State) (k : Nat) (v : SpdSt) : (s.putSpdShadow k v).fresh = s.fresh := rfl
@[simp] theorem State.putSpdShadow_obj (s : State) (k : Nat) (v : SpdSt) : (s.putSpdShadow k v).obj = s.obj := rfl
@[simp] theorem State.putSpdShadow_blob (s : State) (k : Nat) (v : SpdSt) : (s.putSpdShadow k v).blob = s.blob := rfl
@[simp] theorem State.putSpdShadow_mode (s : State) (k : Nat) (v : SpdSt) : (s.putSpdShadow k v).mode = s.mode := rfl
@[simp] theorem State.putSpdShadow_sup (s : State) (k : Nat) (v : SpdSt) : (s.putSpdShadow k v).sup = s.sup := rfl
@[simp] theorem State.putSpdShadow_port (s : State) (k : Nat) (v : SpdSt) : (s.putSpdShadow k v).port = s.port := rfl
@[simp] theorem State.putSpdShadow_line (s : State) (k : Nat) (v : SpdSt) : (s.putSpdShadow k v).line = s.line := rfl
@[simp] theorem State.putSpdShadow_pn2 (s : State) (k : Nat) (v : SpdSt) : (s.putSpdShadow k v).pn2 = s.pn2 := rfl
@[simp] theorem State.putSpdShadow_chan (s : State) (k : Nat) (v : SpdSt) : (s.putSpdShadow k v).chan = s.chan := rfl
@[simp] theorem State.putSpdShadow_plan (s : State) (k : Nat) (v : SpdSt) : (s.putSpdShadow k v).plan = s.plan := rfl
@[simp] theorem State.putSpdShadow_srv (s : State) (k : Nat) (v : SpdSt) : (s.putSpdShadow k v).srv = s.srv := rfl
@[simp] theorem State.putSpdShadow_shadow (s : State) (k : Nat) (v : SpdSt) : (s.putSpdShadow k v).shadow = s.shadow := rfl
@[simp] theorem State.putSpdShadow_seq (s : State) (k : Nat) (v : SpdSt) : (s.putSpdShadow k v).seq = s.seq := rfl
@[simp] theorem State.putSpdShadow_mc (s : State) (k : Nat) (v : SpdSt) : (s.putSpdShadow k v).mc = s.mc := rfl
@[simp] theorem State.putSpdShadow_fabric (s : State) (k : Nat) (v : SpdSt) : (s.putSpdShadow k v).fabric = s.fabric := rfl
@[simp] theorem State.putSpdShadow_fab (s : State) (k : Nat) (v : SpdSt) : (s.putSpdShadow k v).fab = s.fab := rfl
@[simp] theorem State.putSpdShadow_dma (s : State) (k : Nat) (v : SpdSt) : (s.putSpdShadow k v).dma = s.dma := rfl
@[simp] theorem State.putSpdShadow_raw (s : State) (k : Nat) (v : SpdSt) : (s.putSpdShadow k v).raw = s.raw := rfl
@[simp] theorem State.putSpdShadow_spd (s : State) (k : Nat) (v : SpdSt) : (s.putSpdShadow k v).spd = s.spd := rfl
@[simp] theorem State.putSpdShadow_sweepRef (s : State) (k : Nat) (v : SpdSt) : (s.putSpdShadow k v).sweepRef = s.sweepRef := rfl
@[simp] theorem State.putSpdShadow_rpm (s : State) (k : Nat) (v : SpdSt) : (s.putSpdShadow k v).rpm = s.rpm := rfl
@[simp] theorem State.putSpdShadow_hda (s : State) (k : Nat) (v : SpdSt) : (s.putSpdShadow k v).hda = s.hda := rfl
@[simp] theorem State.putSpdShadow_sensor (s : State) (k : Nat) (v : SpdSt) : (s.putSpdShadow k v).sensor = s.sensor := rfl
@[simp] theorem State.putSpdShadow_os (s : State) (k : Nat) (v : SpdSt) : (s.putSpdShadow k v).os = s.os := rfl
@[simp] theorem State.putSpdShadow_cmds (s : State) (k : Nat) (v : SpdSt) : (s.putSpdShadow k v).cmds = s.cmds := rfl
@[simp] theorem State.putSpdShadow_deferred (s : State) (k : Nat) (v : SpdSt) : (s.putSpdShadow k v).deferred = s.deferred := rfl
@[simp] theorem State.putSpdShadow_heldCpl (s : State) (k : Nat) (v : SpdSt) : (s.putSpdShadow k v).heldCpl = s.heldCpl := rfl
@[simp] theorem State.putSpdShadow_lastCtrl (s : State) (k : Nat) (v : SpdSt) : (s.putSpdShadow k v).lastCtrl = s.lastCtrl := rfl
@[simp] theorem State.putSpdShadow_ctrl (s : State) (k : Nat) (v : SpdSt) : (s.putSpdShadow k v).ctrl = s.ctrl := rfl
@[simp] theorem State.putSpdShadow_buf (s : State) (k : Nat) (v : SpdSt) : (s.putSpdShadow k v).buf = s.buf := rfl
@[simp] theorem State.putSpdShadow_cache (s : State) (k : Nat) (v : SpdSt) : (s.putSpdShadow k v).cache = s.cache := rfl
@[simp] theorem State.putSpdShadow_pair (s : State) (k : Nat) (v : SpdSt) : (s.putSpdShadow k v).pair = s.pair := rfl
@[simp] theorem State.putSpdShadow_casc (s : State) (k : Nat) (v : SpdSt) : (s.putSpdShadow k v).casc = s.casc := rfl
@[simp] theorem State.putSpdShadow_fw (s : State) (k : Nat) (v : SpdSt) : (s.putSpdShadow k v).fw = s.fw := rfl
@[simp] theorem State.putSpdShadow_jf (s : State) (k : Nat) (v : SpdSt) : (s.putSpdShadow k v).jf = s.jf := rfl
@[simp] theorem State.putSpdShadow_er (s : State) (k : Nat) (v : SpdSt) : (s.putSpdShadow k v).er = s.er := rfl
@[simp] theorem State.putSpdShadow_set (s : State) (k : Nat) (v : SpdSt) : (s.putSpdShadow k v).set = s.set := rfl
@[simp] theorem State.putSpdShadow_dict (s : State) (k : Nat) (v : SpdSt) : (s.putSpdShadow k v).dict = s.dict := rfl
@[simp] theorem State.putSpdShadow_fuse (s : State) (k : Nat) (v : SpdSt) : (s.putSpdShadow k v).fuse = s.fuse := rfl
@[simp] theorem State.putSpdShadow_kdapTx (s : State) (k : Nat) (v : SpdSt) : (s.putSpdShadow k v).kdapTx = s.kdapTx := rfl
@[simp] theorem State.putSpdShadow_mon (s : State) (k : Nat) (v : SpdSt) : (s.putSpdShadow k v).mon = s.mon := rfl
@[simp] theorem State.putSpdShadow_emcy (s : State) (k : Nat) (v : SpdSt) : (s.putSpdShadow k v).emcy = s.emcy := rfl
@[simp] theorem State.putSpdShadow_answers (s : State) (k : Nat) (v : SpdSt) : (s.putSpdShadow k v).answers = s.answers := rfl
@[simp] theorem State.putSpdShadow_accHeld (s : State) (k : Nat) (v : SpdSt) : (s.putSpdShadow k v).accHeld = s.accHeld := rfl

/-! ## What `modSpdShadow` leaves alone -/

@[simp] theorem State.modSpdShadow_pending (s : State) (k : Nat) (f : SpdSt → SpdSt) : (s.modSpdShadow k f).pending = s.pending := rfl
@[simp] theorem State.modSpdShadow_now (s : State) (k : Nat) (f : SpdSt → SpdSt) : (s.modSpdShadow k f).now = s.now := rfl
@[simp] theorem State.modSpdShadow_fresh (s : State) (k : Nat) (f : SpdSt → SpdSt) : (s.modSpdShadow k f).fresh = s.fresh := rfl
@[simp] theorem State.modSpdShadow_obj (s : State) (k : Nat) (f : SpdSt → SpdSt) : (s.modSpdShadow k f).obj = s.obj := rfl
@[simp] theorem State.modSpdShadow_blob (s : State) (k : Nat) (f : SpdSt → SpdSt) : (s.modSpdShadow k f).blob = s.blob := rfl
@[simp] theorem State.modSpdShadow_mode (s : State) (k : Nat) (f : SpdSt → SpdSt) : (s.modSpdShadow k f).mode = s.mode := rfl
@[simp] theorem State.modSpdShadow_sup (s : State) (k : Nat) (f : SpdSt → SpdSt) : (s.modSpdShadow k f).sup = s.sup := rfl
@[simp] theorem State.modSpdShadow_port (s : State) (k : Nat) (f : SpdSt → SpdSt) : (s.modSpdShadow k f).port = s.port := rfl
@[simp] theorem State.modSpdShadow_line (s : State) (k : Nat) (f : SpdSt → SpdSt) : (s.modSpdShadow k f).line = s.line := rfl
@[simp] theorem State.modSpdShadow_pn2 (s : State) (k : Nat) (f : SpdSt → SpdSt) : (s.modSpdShadow k f).pn2 = s.pn2 := rfl
@[simp] theorem State.modSpdShadow_chan (s : State) (k : Nat) (f : SpdSt → SpdSt) : (s.modSpdShadow k f).chan = s.chan := rfl
@[simp] theorem State.modSpdShadow_plan (s : State) (k : Nat) (f : SpdSt → SpdSt) : (s.modSpdShadow k f).plan = s.plan := rfl
@[simp] theorem State.modSpdShadow_srv (s : State) (k : Nat) (f : SpdSt → SpdSt) : (s.modSpdShadow k f).srv = s.srv := rfl
@[simp] theorem State.modSpdShadow_shadow (s : State) (k : Nat) (f : SpdSt → SpdSt) : (s.modSpdShadow k f).shadow = s.shadow := rfl
@[simp] theorem State.modSpdShadow_seq (s : State) (k : Nat) (f : SpdSt → SpdSt) : (s.modSpdShadow k f).seq = s.seq := rfl
@[simp] theorem State.modSpdShadow_mc (s : State) (k : Nat) (f : SpdSt → SpdSt) : (s.modSpdShadow k f).mc = s.mc := rfl
@[simp] theorem State.modSpdShadow_fabric (s : State) (k : Nat) (f : SpdSt → SpdSt) : (s.modSpdShadow k f).fabric = s.fabric := rfl
@[simp] theorem State.modSpdShadow_fab (s : State) (k : Nat) (f : SpdSt → SpdSt) : (s.modSpdShadow k f).fab = s.fab := rfl
@[simp] theorem State.modSpdShadow_dma (s : State) (k : Nat) (f : SpdSt → SpdSt) : (s.modSpdShadow k f).dma = s.dma := rfl
@[simp] theorem State.modSpdShadow_raw (s : State) (k : Nat) (f : SpdSt → SpdSt) : (s.modSpdShadow k f).raw = s.raw := rfl
@[simp] theorem State.modSpdShadow_spd (s : State) (k : Nat) (f : SpdSt → SpdSt) : (s.modSpdShadow k f).spd = s.spd := rfl
@[simp] theorem State.modSpdShadow_sweepRef (s : State) (k : Nat) (f : SpdSt → SpdSt) : (s.modSpdShadow k f).sweepRef = s.sweepRef := rfl
@[simp] theorem State.modSpdShadow_rpm (s : State) (k : Nat) (f : SpdSt → SpdSt) : (s.modSpdShadow k f).rpm = s.rpm := rfl
@[simp] theorem State.modSpdShadow_hda (s : State) (k : Nat) (f : SpdSt → SpdSt) : (s.modSpdShadow k f).hda = s.hda := rfl
@[simp] theorem State.modSpdShadow_sensor (s : State) (k : Nat) (f : SpdSt → SpdSt) : (s.modSpdShadow k f).sensor = s.sensor := rfl
@[simp] theorem State.modSpdShadow_os (s : State) (k : Nat) (f : SpdSt → SpdSt) : (s.modSpdShadow k f).os = s.os := rfl
@[simp] theorem State.modSpdShadow_cmds (s : State) (k : Nat) (f : SpdSt → SpdSt) : (s.modSpdShadow k f).cmds = s.cmds := rfl
@[simp] theorem State.modSpdShadow_deferred (s : State) (k : Nat) (f : SpdSt → SpdSt) : (s.modSpdShadow k f).deferred = s.deferred := rfl
@[simp] theorem State.modSpdShadow_heldCpl (s : State) (k : Nat) (f : SpdSt → SpdSt) : (s.modSpdShadow k f).heldCpl = s.heldCpl := rfl
@[simp] theorem State.modSpdShadow_lastCtrl (s : State) (k : Nat) (f : SpdSt → SpdSt) : (s.modSpdShadow k f).lastCtrl = s.lastCtrl := rfl
@[simp] theorem State.modSpdShadow_ctrl (s : State) (k : Nat) (f : SpdSt → SpdSt) : (s.modSpdShadow k f).ctrl = s.ctrl := rfl
@[simp] theorem State.modSpdShadow_buf (s : State) (k : Nat) (f : SpdSt → SpdSt) : (s.modSpdShadow k f).buf = s.buf := rfl
@[simp] theorem State.modSpdShadow_cache (s : State) (k : Nat) (f : SpdSt → SpdSt) : (s.modSpdShadow k f).cache = s.cache := rfl
@[simp] theorem State.modSpdShadow_pair (s : State) (k : Nat) (f : SpdSt → SpdSt) : (s.modSpdShadow k f).pair = s.pair := rfl
@[simp] theorem State.modSpdShadow_casc (s : State) (k : Nat) (f : SpdSt → SpdSt) : (s.modSpdShadow k f).casc = s.casc := rfl
@[simp] theorem State.modSpdShadow_fw (s : State) (k : Nat) (f : SpdSt → SpdSt) : (s.modSpdShadow k f).fw = s.fw := rfl
@[simp] theorem State.modSpdShadow_jf (s : State) (k : Nat) (f : SpdSt → SpdSt) : (s.modSpdShadow k f).jf = s.jf := rfl
@[simp] theorem State.modSpdShadow_er (s : State) (k : Nat) (f : SpdSt → SpdSt) : (s.modSpdShadow k f).er = s.er := rfl
@[simp] theorem State.modSpdShadow_set (s : State) (k : Nat) (f : SpdSt → SpdSt) : (s.modSpdShadow k f).set = s.set := rfl
@[simp] theorem State.modSpdShadow_dict (s : State) (k : Nat) (f : SpdSt → SpdSt) : (s.modSpdShadow k f).dict = s.dict := rfl
@[simp] theorem State.modSpdShadow_fuse (s : State) (k : Nat) (f : SpdSt → SpdSt) : (s.modSpdShadow k f).fuse = s.fuse := rfl
@[simp] theorem State.modSpdShadow_kdapTx (s : State) (k : Nat) (f : SpdSt → SpdSt) : (s.modSpdShadow k f).kdapTx = s.kdapTx := rfl
@[simp] theorem State.modSpdShadow_mon (s : State) (k : Nat) (f : SpdSt → SpdSt) : (s.modSpdShadow k f).mon = s.mon := rfl
@[simp] theorem State.modSpdShadow_emcy (s : State) (k : Nat) (f : SpdSt → SpdSt) : (s.modSpdShadow k f).emcy = s.emcy := rfl
@[simp] theorem State.modSpdShadow_answers (s : State) (k : Nat) (f : SpdSt → SpdSt) : (s.modSpdShadow k f).answers = s.answers := rfl
@[simp] theorem State.modSpdShadow_accHeld (s : State) (k : Nat) (f : SpdSt → SpdSt) : (s.modSpdShadow k f).accHeld = s.accHeld := rfl

/-! ## What `putSeq` leaves alone -/

@[simp] theorem State.putSeq_pending (s : State) (k : Nat) (v : SeqSt) : (s.putSeq k v).pending = s.pending := rfl
@[simp] theorem State.putSeq_now (s : State) (k : Nat) (v : SeqSt) : (s.putSeq k v).now = s.now := rfl
@[simp] theorem State.putSeq_fresh (s : State) (k : Nat) (v : SeqSt) : (s.putSeq k v).fresh = s.fresh := rfl
@[simp] theorem State.putSeq_obj (s : State) (k : Nat) (v : SeqSt) : (s.putSeq k v).obj = s.obj := rfl
@[simp] theorem State.putSeq_blob (s : State) (k : Nat) (v : SeqSt) : (s.putSeq k v).blob = s.blob := rfl
@[simp] theorem State.putSeq_mode (s : State) (k : Nat) (v : SeqSt) : (s.putSeq k v).mode = s.mode := rfl
@[simp] theorem State.putSeq_sup (s : State) (k : Nat) (v : SeqSt) : (s.putSeq k v).sup = s.sup := rfl
@[simp] theorem State.putSeq_port (s : State) (k : Nat) (v : SeqSt) : (s.putSeq k v).port = s.port := rfl
@[simp] theorem State.putSeq_line (s : State) (k : Nat) (v : SeqSt) : (s.putSeq k v).line = s.line := rfl
@[simp] theorem State.putSeq_pn2 (s : State) (k : Nat) (v : SeqSt) : (s.putSeq k v).pn2 = s.pn2 := rfl
@[simp] theorem State.putSeq_chan (s : State) (k : Nat) (v : SeqSt) : (s.putSeq k v).chan = s.chan := rfl
@[simp] theorem State.putSeq_plan (s : State) (k : Nat) (v : SeqSt) : (s.putSeq k v).plan = s.plan := rfl
@[simp] theorem State.putSeq_srv (s : State) (k : Nat) (v : SeqSt) : (s.putSeq k v).srv = s.srv := rfl
@[simp] theorem State.putSeq_shadow (s : State) (k : Nat) (v : SeqSt) : (s.putSeq k v).shadow = s.shadow := rfl
@[simp] theorem State.putSeq_spdShadow (s : State) (k : Nat) (v : SeqSt) : (s.putSeq k v).spdShadow = s.spdShadow := rfl
@[simp] theorem State.putSeq_mc (s : State) (k : Nat) (v : SeqSt) : (s.putSeq k v).mc = s.mc := rfl
@[simp] theorem State.putSeq_fabric (s : State) (k : Nat) (v : SeqSt) : (s.putSeq k v).fabric = s.fabric := rfl
@[simp] theorem State.putSeq_fab (s : State) (k : Nat) (v : SeqSt) : (s.putSeq k v).fab = s.fab := rfl
@[simp] theorem State.putSeq_dma (s : State) (k : Nat) (v : SeqSt) : (s.putSeq k v).dma = s.dma := rfl
@[simp] theorem State.putSeq_raw (s : State) (k : Nat) (v : SeqSt) : (s.putSeq k v).raw = s.raw := rfl
@[simp] theorem State.putSeq_spd (s : State) (k : Nat) (v : SeqSt) : (s.putSeq k v).spd = s.spd := rfl
@[simp] theorem State.putSeq_sweepRef (s : State) (k : Nat) (v : SeqSt) : (s.putSeq k v).sweepRef = s.sweepRef := rfl
@[simp] theorem State.putSeq_rpm (s : State) (k : Nat) (v : SeqSt) : (s.putSeq k v).rpm = s.rpm := rfl
@[simp] theorem State.putSeq_hda (s : State) (k : Nat) (v : SeqSt) : (s.putSeq k v).hda = s.hda := rfl
@[simp] theorem State.putSeq_sensor (s : State) (k : Nat) (v : SeqSt) : (s.putSeq k v).sensor = s.sensor := rfl
@[simp] theorem State.putSeq_os (s : State) (k : Nat) (v : SeqSt) : (s.putSeq k v).os = s.os := rfl
@[simp] theorem State.putSeq_cmds (s : State) (k : Nat) (v : SeqSt) : (s.putSeq k v).cmds = s.cmds := rfl
@[simp] theorem State.putSeq_deferred (s : State) (k : Nat) (v : SeqSt) : (s.putSeq k v).deferred = s.deferred := rfl
@[simp] theorem State.putSeq_heldCpl (s : State) (k : Nat) (v : SeqSt) : (s.putSeq k v).heldCpl = s.heldCpl := rfl
@[simp] theorem State.putSeq_lastCtrl (s : State) (k : Nat) (v : SeqSt) : (s.putSeq k v).lastCtrl = s.lastCtrl := rfl
@[simp] theorem State.putSeq_ctrl (s : State) (k : Nat) (v : SeqSt) : (s.putSeq k v).ctrl = s.ctrl := rfl
@[simp] theorem State.putSeq_buf (s : State) (k : Nat) (v : SeqSt) : (s.putSeq k v).buf = s.buf := rfl
@[simp] theorem State.putSeq_cache (s : State) (k : Nat) (v : SeqSt) : (s.putSeq k v).cache = s.cache := rfl
@[simp] theorem State.putSeq_pair (s : State) (k : Nat) (v : SeqSt) : (s.putSeq k v).pair = s.pair := rfl
@[simp] theorem State.putSeq_casc (s : State) (k : Nat) (v : SeqSt) : (s.putSeq k v).casc = s.casc := rfl
@[simp] theorem State.putSeq_fw (s : State) (k : Nat) (v : SeqSt) : (s.putSeq k v).fw = s.fw := rfl
@[simp] theorem State.putSeq_jf (s : State) (k : Nat) (v : SeqSt) : (s.putSeq k v).jf = s.jf := rfl
@[simp] theorem State.putSeq_er (s : State) (k : Nat) (v : SeqSt) : (s.putSeq k v).er = s.er := rfl
@[simp] theorem State.putSeq_set (s : State) (k : Nat) (v : SeqSt) : (s.putSeq k v).set = s.set := rfl
@[simp] theorem State.putSeq_dict (s : State) (k : Nat) (v : SeqSt) : (s.putSeq k v).dict = s.dict := rfl
@[simp] theorem State.putSeq_fuse (s : State) (k : Nat) (v : SeqSt) : (s.putSeq k v).fuse = s.fuse := rfl
@[simp] theorem State.putSeq_kdapTx (s : State) (k : Nat) (v : SeqSt) : (s.putSeq k v).kdapTx = s.kdapTx := rfl
@[simp] theorem State.putSeq_mon (s : State) (k : Nat) (v : SeqSt) : (s.putSeq k v).mon = s.mon := rfl
@[simp] theorem State.putSeq_emcy (s : State) (k : Nat) (v : SeqSt) : (s.putSeq k v).emcy = s.emcy := rfl
@[simp] theorem State.putSeq_answers (s : State) (k : Nat) (v : SeqSt) : (s.putSeq k v).answers = s.answers := rfl
@[simp] theorem State.putSeq_accHeld (s : State) (k : Nat) (v : SeqSt) : (s.putSeq k v).accHeld = s.accHeld := rfl

/-! ## What `modSeq` leaves alone -/

@[simp] theorem State.modSeq_pending (s : State) (k : Nat) (f : SeqSt → SeqSt) : (s.modSeq k f).pending = s.pending := rfl
@[simp] theorem State.modSeq_now (s : State) (k : Nat) (f : SeqSt → SeqSt) : (s.modSeq k f).now = s.now := rfl
@[simp] theorem State.modSeq_fresh (s : State) (k : Nat) (f : SeqSt → SeqSt) : (s.modSeq k f).fresh = s.fresh := rfl
@[simp] theorem State.modSeq_obj (s : State) (k : Nat) (f : SeqSt → SeqSt) : (s.modSeq k f).obj = s.obj := rfl
@[simp] theorem State.modSeq_blob (s : State) (k : Nat) (f : SeqSt → SeqSt) : (s.modSeq k f).blob = s.blob := rfl
@[simp] theorem State.modSeq_mode (s : State) (k : Nat) (f : SeqSt → SeqSt) : (s.modSeq k f).mode = s.mode := rfl
@[simp] theorem State.modSeq_sup (s : State) (k : Nat) (f : SeqSt → SeqSt) : (s.modSeq k f).sup = s.sup := rfl
@[simp] theorem State.modSeq_port (s : State) (k : Nat) (f : SeqSt → SeqSt) : (s.modSeq k f).port = s.port := rfl
@[simp] theorem State.modSeq_line (s : State) (k : Nat) (f : SeqSt → SeqSt) : (s.modSeq k f).line = s.line := rfl
@[simp] theorem State.modSeq_pn2 (s : State) (k : Nat) (f : SeqSt → SeqSt) : (s.modSeq k f).pn2 = s.pn2 := rfl
@[simp] theorem State.modSeq_chan (s : State) (k : Nat) (f : SeqSt → SeqSt) : (s.modSeq k f).chan = s.chan := rfl
@[simp] theorem State.modSeq_plan (s : State) (k : Nat) (f : SeqSt → SeqSt) : (s.modSeq k f).plan = s.plan := rfl
@[simp] theorem State.modSeq_srv (s : State) (k : Nat) (f : SeqSt → SeqSt) : (s.modSeq k f).srv = s.srv := rfl
@[simp] theorem State.modSeq_shadow (s : State) (k : Nat) (f : SeqSt → SeqSt) : (s.modSeq k f).shadow = s.shadow := rfl
@[simp] theorem State.modSeq_spdShadow (s : State) (k : Nat) (f : SeqSt → SeqSt) : (s.modSeq k f).spdShadow = s.spdShadow := rfl
@[simp] theorem State.modSeq_mc (s : State) (k : Nat) (f : SeqSt → SeqSt) : (s.modSeq k f).mc = s.mc := rfl
@[simp] theorem State.modSeq_fabric (s : State) (k : Nat) (f : SeqSt → SeqSt) : (s.modSeq k f).fabric = s.fabric := rfl
@[simp] theorem State.modSeq_fab (s : State) (k : Nat) (f : SeqSt → SeqSt) : (s.modSeq k f).fab = s.fab := rfl
@[simp] theorem State.modSeq_dma (s : State) (k : Nat) (f : SeqSt → SeqSt) : (s.modSeq k f).dma = s.dma := rfl
@[simp] theorem State.modSeq_raw (s : State) (k : Nat) (f : SeqSt → SeqSt) : (s.modSeq k f).raw = s.raw := rfl
@[simp] theorem State.modSeq_spd (s : State) (k : Nat) (f : SeqSt → SeqSt) : (s.modSeq k f).spd = s.spd := rfl
@[simp] theorem State.modSeq_sweepRef (s : State) (k : Nat) (f : SeqSt → SeqSt) : (s.modSeq k f).sweepRef = s.sweepRef := rfl
@[simp] theorem State.modSeq_rpm (s : State) (k : Nat) (f : SeqSt → SeqSt) : (s.modSeq k f).rpm = s.rpm := rfl
@[simp] theorem State.modSeq_hda (s : State) (k : Nat) (f : SeqSt → SeqSt) : (s.modSeq k f).hda = s.hda := rfl
@[simp] theorem State.modSeq_sensor (s : State) (k : Nat) (f : SeqSt → SeqSt) : (s.modSeq k f).sensor = s.sensor := rfl
@[simp] theorem State.modSeq_os (s : State) (k : Nat) (f : SeqSt → SeqSt) : (s.modSeq k f).os = s.os := rfl
@[simp] theorem State.modSeq_cmds (s : State) (k : Nat) (f : SeqSt → SeqSt) : (s.modSeq k f).cmds = s.cmds := rfl
@[simp] theorem State.modSeq_deferred (s : State) (k : Nat) (f : SeqSt → SeqSt) : (s.modSeq k f).deferred = s.deferred := rfl
@[simp] theorem State.modSeq_heldCpl (s : State) (k : Nat) (f : SeqSt → SeqSt) : (s.modSeq k f).heldCpl = s.heldCpl := rfl
@[simp] theorem State.modSeq_lastCtrl (s : State) (k : Nat) (f : SeqSt → SeqSt) : (s.modSeq k f).lastCtrl = s.lastCtrl := rfl
@[simp] theorem State.modSeq_ctrl (s : State) (k : Nat) (f : SeqSt → SeqSt) : (s.modSeq k f).ctrl = s.ctrl := rfl
@[simp] theorem State.modSeq_buf (s : State) (k : Nat) (f : SeqSt → SeqSt) : (s.modSeq k f).buf = s.buf := rfl
@[simp] theorem State.modSeq_cache (s : State) (k : Nat) (f : SeqSt → SeqSt) : (s.modSeq k f).cache = s.cache := rfl
@[simp] theorem State.modSeq_pair (s : State) (k : Nat) (f : SeqSt → SeqSt) : (s.modSeq k f).pair = s.pair := rfl
@[simp] theorem State.modSeq_casc (s : State) (k : Nat) (f : SeqSt → SeqSt) : (s.modSeq k f).casc = s.casc := rfl
@[simp] theorem State.modSeq_fw (s : State) (k : Nat) (f : SeqSt → SeqSt) : (s.modSeq k f).fw = s.fw := rfl
@[simp] theorem State.modSeq_jf (s : State) (k : Nat) (f : SeqSt → SeqSt) : (s.modSeq k f).jf = s.jf := rfl
@[simp] theorem State.modSeq_er (s : State) (k : Nat) (f : SeqSt → SeqSt) : (s.modSeq k f).er = s.er := rfl
@[simp] theorem State.modSeq_set (s : State) (k : Nat) (f : SeqSt → SeqSt) : (s.modSeq k f).set = s.set := rfl
@[simp] theorem State.modSeq_dict (s : State) (k : Nat) (f : SeqSt → SeqSt) : (s.modSeq k f).dict = s.dict := rfl
@[simp] theorem State.modSeq_fuse (s : State) (k : Nat) (f : SeqSt → SeqSt) : (s.modSeq k f).fuse = s.fuse := rfl
@[simp] theorem State.modSeq_kdapTx (s : State) (k : Nat) (f : SeqSt → SeqSt) : (s.modSeq k f).kdapTx = s.kdapTx := rfl
@[simp] theorem State.modSeq_mon (s : State) (k : Nat) (f : SeqSt → SeqSt) : (s.modSeq k f).mon = s.mon := rfl
@[simp] theorem State.modSeq_emcy (s : State) (k : Nat) (f : SeqSt → SeqSt) : (s.modSeq k f).emcy = s.emcy := rfl
@[simp] theorem State.modSeq_answers (s : State) (k : Nat) (f : SeqSt → SeqSt) : (s.modSeq k f).answers = s.answers := rfl
@[simp] theorem State.modSeq_accHeld (s : State) (k : Nat) (f : SeqSt → SeqSt) : (s.modSeq k f).accHeld = s.accHeld := rfl

/-! ## What `putFab` leaves alone -/

@[simp] theorem State.putFab_pending (s : State) (k : Nat) (v : FabSt) : (s.putFab k v).pending = s.pending := rfl
@[simp] theorem State.putFab_now (s : State) (k : Nat) (v : FabSt) : (s.putFab k v).now = s.now := rfl
@[simp] theorem State.putFab_fresh (s : State) (k : Nat) (v : FabSt) : (s.putFab k v).fresh = s.fresh := rfl
@[simp] theorem State.putFab_obj (s : State) (k : Nat) (v : FabSt) : (s.putFab k v).obj = s.obj := rfl
@[simp] theorem State.putFab_blob (s : State) (k : Nat) (v : FabSt) : (s.putFab k v).blob = s.blob := rfl
@[simp] theorem State.putFab_mode (s : State) (k : Nat) (v : FabSt) : (s.putFab k v).mode = s.mode := rfl
@[simp] theorem State.putFab_sup (s : State) (k : Nat) (v : FabSt) : (s.putFab k v).sup = s.sup := rfl
@[simp] theorem State.putFab_port (s : State) (k : Nat) (v : FabSt) : (s.putFab k v).port = s.port := rfl
@[simp] theorem State.putFab_line (s : State) (k : Nat) (v : FabSt) : (s.putFab k v).line = s.line := rfl
@[simp] theorem State.putFab_pn2 (s : State) (k : Nat) (v : FabSt) : (s.putFab k v).pn2 = s.pn2 := rfl
@[simp] theorem State.putFab_chan (s : State) (k : Nat) (v : FabSt) : (s.putFab k v).chan = s.chan := rfl
@[simp] theorem State.putFab_plan (s : State) (k : Nat) (v : FabSt) : (s.putFab k v).plan = s.plan := rfl
@[simp] theorem State.putFab_srv (s : State) (k : Nat) (v : FabSt) : (s.putFab k v).srv = s.srv := rfl
@[simp] theorem State.putFab_shadow (s : State) (k : Nat) (v : FabSt) : (s.putFab k v).shadow = s.shadow := rfl
@[simp] theorem State.putFab_spdShadow (s : State) (k : Nat) (v : FabSt) : (s.putFab k v).spdShadow = s.spdShadow := rfl
@[simp] theorem State.putFab_seq (s : State) (k : Nat) (v : FabSt) : (s.putFab k v).seq = s.seq := rfl
@[simp] theorem State.putFab_mc (s : State) (k : Nat) (v : FabSt) : (s.putFab k v).mc = s.mc := rfl
@[simp] theorem State.putFab_fabric (s : State) (k : Nat) (v : FabSt) : (s.putFab k v).fabric = s.fabric := rfl
@[simp] theorem State.putFab_dma (s : State) (k : Nat) (v : FabSt) : (s.putFab k v).dma = s.dma := rfl
@[simp] theorem State.putFab_raw (s : State) (k : Nat) (v : FabSt) : (s.putFab k v).raw = s.raw := rfl
@[simp] theorem State.putFab_spd (s : State) (k : Nat) (v : FabSt) : (s.putFab k v).spd = s.spd := rfl
@[simp] theorem State.putFab_sweepRef (s : State) (k : Nat) (v : FabSt) : (s.putFab k v).sweepRef = s.sweepRef := rfl
@[simp] theorem State.putFab_rpm (s : State) (k : Nat) (v : FabSt) : (s.putFab k v).rpm = s.rpm := rfl
@[simp] theorem State.putFab_hda (s : State) (k : Nat) (v : FabSt) : (s.putFab k v).hda = s.hda := rfl
@[simp] theorem State.putFab_sensor (s : State) (k : Nat) (v : FabSt) : (s.putFab k v).sensor = s.sensor := rfl
@[simp] theorem State.putFab_os (s : State) (k : Nat) (v : FabSt) : (s.putFab k v).os = s.os := rfl
@[simp] theorem State.putFab_cmds (s : State) (k : Nat) (v : FabSt) : (s.putFab k v).cmds = s.cmds := rfl
@[simp] theorem State.putFab_deferred (s : State) (k : Nat) (v : FabSt) : (s.putFab k v).deferred = s.deferred := rfl
@[simp] theorem State.putFab_heldCpl (s : State) (k : Nat) (v : FabSt) : (s.putFab k v).heldCpl = s.heldCpl := rfl
@[simp] theorem State.putFab_lastCtrl (s : State) (k : Nat) (v : FabSt) : (s.putFab k v).lastCtrl = s.lastCtrl := rfl
@[simp] theorem State.putFab_ctrl (s : State) (k : Nat) (v : FabSt) : (s.putFab k v).ctrl = s.ctrl := rfl
@[simp] theorem State.putFab_buf (s : State) (k : Nat) (v : FabSt) : (s.putFab k v).buf = s.buf := rfl
@[simp] theorem State.putFab_cache (s : State) (k : Nat) (v : FabSt) : (s.putFab k v).cache = s.cache := rfl
@[simp] theorem State.putFab_pair (s : State) (k : Nat) (v : FabSt) : (s.putFab k v).pair = s.pair := rfl
@[simp] theorem State.putFab_casc (s : State) (k : Nat) (v : FabSt) : (s.putFab k v).casc = s.casc := rfl
@[simp] theorem State.putFab_fw (s : State) (k : Nat) (v : FabSt) : (s.putFab k v).fw = s.fw := rfl
@[simp] theorem State.putFab_jf (s : State) (k : Nat) (v : FabSt) : (s.putFab k v).jf = s.jf := rfl
@[simp] theorem State.putFab_er (s : State) (k : Nat) (v : FabSt) : (s.putFab k v).er = s.er := rfl
@[simp] theorem State.putFab_set (s : State) (k : Nat) (v : FabSt) : (s.putFab k v).set = s.set := rfl
@[simp] theorem State.putFab_dict (s : State) (k : Nat) (v : FabSt) : (s.putFab k v).dict = s.dict := rfl
@[simp] theorem State.putFab_fuse (s : State) (k : Nat) (v : FabSt) : (s.putFab k v).fuse = s.fuse := rfl
@[simp] theorem State.putFab_kdapTx (s : State) (k : Nat) (v : FabSt) : (s.putFab k v).kdapTx = s.kdapTx := rfl
@[simp] theorem State.putFab_mon (s : State) (k : Nat) (v : FabSt) : (s.putFab k v).mon = s.mon := rfl
@[simp] theorem State.putFab_emcy (s : State) (k : Nat) (v : FabSt) : (s.putFab k v).emcy = s.emcy := rfl
@[simp] theorem State.putFab_answers (s : State) (k : Nat) (v : FabSt) : (s.putFab k v).answers = s.answers := rfl
@[simp] theorem State.putFab_accHeld (s : State) (k : Nat) (v : FabSt) : (s.putFab k v).accHeld = s.accHeld := rfl

/-! ## What `modFab` leaves alone -/

@[simp] theorem State.modFab_pending (s : State) (k : Nat) (f : FabSt → FabSt) : (s.modFab k f).pending = s.pending := rfl
@[simp] theorem State.modFab_now (s : State) (k : Nat) (f : FabSt → FabSt) : (s.modFab k f).now = s.now := rfl
@[simp] theorem State.modFab_fresh (s : State) (k : Nat) (f : FabSt → FabSt) : (s.modFab k f).fresh = s.fresh := rfl
@[simp] theorem State.modFab_obj (s : State) (k : Nat) (f : FabSt → FabSt) : (s.modFab k f).obj = s.obj := rfl
@[simp] theorem State.modFab_blob (s : State) (k : Nat) (f : FabSt → FabSt) : (s.modFab k f).blob = s.blob := rfl
@[simp] theorem State.modFab_mode (s : State) (k : Nat) (f : FabSt → FabSt) : (s.modFab k f).mode = s.mode := rfl
@[simp] theorem State.modFab_sup (s : State) (k : Nat) (f : FabSt → FabSt) : (s.modFab k f).sup = s.sup := rfl
@[simp] theorem State.modFab_port (s : State) (k : Nat) (f : FabSt → FabSt) : (s.modFab k f).port = s.port := rfl
@[simp] theorem State.modFab_line (s : State) (k : Nat) (f : FabSt → FabSt) : (s.modFab k f).line = s.line := rfl
@[simp] theorem State.modFab_pn2 (s : State) (k : Nat) (f : FabSt → FabSt) : (s.modFab k f).pn2 = s.pn2 := rfl
@[simp] theorem State.modFab_chan (s : State) (k : Nat) (f : FabSt → FabSt) : (s.modFab k f).chan = s.chan := rfl
@[simp] theorem State.modFab_plan (s : State) (k : Nat) (f : FabSt → FabSt) : (s.modFab k f).plan = s.plan := rfl
@[simp] theorem State.modFab_srv (s : State) (k : Nat) (f : FabSt → FabSt) : (s.modFab k f).srv = s.srv := rfl
@[simp] theorem State.modFab_shadow (s : State) (k : Nat) (f : FabSt → FabSt) : (s.modFab k f).shadow = s.shadow := rfl
@[simp] theorem State.modFab_spdShadow (s : State) (k : Nat) (f : FabSt → FabSt) : (s.modFab k f).spdShadow = s.spdShadow := rfl
@[simp] theorem State.modFab_seq (s : State) (k : Nat) (f : FabSt → FabSt) : (s.modFab k f).seq = s.seq := rfl
@[simp] theorem State.modFab_mc (s : State) (k : Nat) (f : FabSt → FabSt) : (s.modFab k f).mc = s.mc := rfl
@[simp] theorem State.modFab_fabric (s : State) (k : Nat) (f : FabSt → FabSt) : (s.modFab k f).fabric = s.fabric := rfl
@[simp] theorem State.modFab_dma (s : State) (k : Nat) (f : FabSt → FabSt) : (s.modFab k f).dma = s.dma := rfl
@[simp] theorem State.modFab_raw (s : State) (k : Nat) (f : FabSt → FabSt) : (s.modFab k f).raw = s.raw := rfl
@[simp] theorem State.modFab_spd (s : State) (k : Nat) (f : FabSt → FabSt) : (s.modFab k f).spd = s.spd := rfl
@[simp] theorem State.modFab_sweepRef (s : State) (k : Nat) (f : FabSt → FabSt) : (s.modFab k f).sweepRef = s.sweepRef := rfl
@[simp] theorem State.modFab_rpm (s : State) (k : Nat) (f : FabSt → FabSt) : (s.modFab k f).rpm = s.rpm := rfl
@[simp] theorem State.modFab_hda (s : State) (k : Nat) (f : FabSt → FabSt) : (s.modFab k f).hda = s.hda := rfl
@[simp] theorem State.modFab_sensor (s : State) (k : Nat) (f : FabSt → FabSt) : (s.modFab k f).sensor = s.sensor := rfl
@[simp] theorem State.modFab_os (s : State) (k : Nat) (f : FabSt → FabSt) : (s.modFab k f).os = s.os := rfl
@[simp] theorem State.modFab_cmds (s : State) (k : Nat) (f : FabSt → FabSt) : (s.modFab k f).cmds = s.cmds := rfl
@[simp] theorem State.modFab_deferred (s : State) (k : Nat) (f : FabSt → FabSt) : (s.modFab k f).deferred = s.deferred := rfl
@[simp] theorem State.modFab_heldCpl (s : State) (k : Nat) (f : FabSt → FabSt) : (s.modFab k f).heldCpl = s.heldCpl := rfl
@[simp] theorem State.modFab_lastCtrl (s : State) (k : Nat) (f : FabSt → FabSt) : (s.modFab k f).lastCtrl = s.lastCtrl := rfl
@[simp] theorem State.modFab_ctrl (s : State) (k : Nat) (f : FabSt → FabSt) : (s.modFab k f).ctrl = s.ctrl := rfl
@[simp] theorem State.modFab_buf (s : State) (k : Nat) (f : FabSt → FabSt) : (s.modFab k f).buf = s.buf := rfl
@[simp] theorem State.modFab_cache (s : State) (k : Nat) (f : FabSt → FabSt) : (s.modFab k f).cache = s.cache := rfl
@[simp] theorem State.modFab_pair (s : State) (k : Nat) (f : FabSt → FabSt) : (s.modFab k f).pair = s.pair := rfl
@[simp] theorem State.modFab_casc (s : State) (k : Nat) (f : FabSt → FabSt) : (s.modFab k f).casc = s.casc := rfl
@[simp] theorem State.modFab_fw (s : State) (k : Nat) (f : FabSt → FabSt) : (s.modFab k f).fw = s.fw := rfl
@[simp] theorem State.modFab_jf (s : State) (k : Nat) (f : FabSt → FabSt) : (s.modFab k f).jf = s.jf := rfl
@[simp] theorem State.modFab_er (s : State) (k : Nat) (f : FabSt → FabSt) : (s.modFab k f).er = s.er := rfl
@[simp] theorem State.modFab_set (s : State) (k : Nat) (f : FabSt → FabSt) : (s.modFab k f).set = s.set := rfl
@[simp] theorem State.modFab_dict (s : State) (k : Nat) (f : FabSt → FabSt) : (s.modFab k f).dict = s.dict := rfl
@[simp] theorem State.modFab_fuse (s : State) (k : Nat) (f : FabSt → FabSt) : (s.modFab k f).fuse = s.fuse := rfl
@[simp] theorem State.modFab_kdapTx (s : State) (k : Nat) (f : FabSt → FabSt) : (s.modFab k f).kdapTx = s.kdapTx := rfl
@[simp] theorem State.modFab_mon (s : State) (k : Nat) (f : FabSt → FabSt) : (s.modFab k f).mon = s.mon := rfl
@[simp] theorem State.modFab_emcy (s : State) (k : Nat) (f : FabSt → FabSt) : (s.modFab k f).emcy = s.emcy := rfl
@[simp] theorem State.modFab_answers (s : State) (k : Nat) (f : FabSt → FabSt) : (s.modFab k f).answers = s.answers := rfl
@[simp] theorem State.modFab_accHeld (s : State) (k : Nat) (f : FabSt → FabSt) : (s.modFab k f).accHeld = s.accHeld := rfl

/-! ## What `putDma` leaves alone -/

@[simp] theorem State.putDma_pending (s : State) (k : Nat) (v : DmaSt) : (s.putDma k v).pending = s.pending := rfl
@[simp] theorem State.putDma_now (s : State) (k : Nat) (v : DmaSt) : (s.putDma k v).now = s.now := rfl
@[simp] theorem State.putDma_fresh (s : State) (k : Nat) (v : DmaSt) : (s.putDma k v).fresh = s.fresh := rfl
@[simp] theorem State.putDma_obj (s : State) (k : Nat) (v : DmaSt) : (s.putDma k v).obj = s.obj := rfl
@[simp] theorem State.putDma_blob (s : State) (k : Nat) (v : DmaSt) : (s.putDma k v).blob = s.blob := rfl
@[simp] theorem State.putDma_mode (s : State) (k : Nat) (v : DmaSt) : (s.putDma k v).mode = s.mode := rfl
@[simp] theorem State.putDma_sup (s : State) (k : Nat) (v : DmaSt) : (s.putDma k v).sup = s.sup := rfl
@[simp] theorem State.putDma_port (s : State) (k : Nat) (v : DmaSt) : (s.putDma k v).port = s.port := rfl
@[simp] theorem State.putDma_line (s : State) (k : Nat) (v : DmaSt) : (s.putDma k v).line = s.line := rfl
@[simp] theorem State.putDma_pn2 (s : State) (k : Nat) (v : DmaSt) : (s.putDma k v).pn2 = s.pn2 := rfl
@[simp] theorem State.putDma_chan (s : State) (k : Nat) (v : DmaSt) : (s.putDma k v).chan = s.chan := rfl
@[simp] theorem State.putDma_plan (s : State) (k : Nat) (v : DmaSt) : (s.putDma k v).plan = s.plan := rfl
@[simp] theorem State.putDma_srv (s : State) (k : Nat) (v : DmaSt) : (s.putDma k v).srv = s.srv := rfl
@[simp] theorem State.putDma_shadow (s : State) (k : Nat) (v : DmaSt) : (s.putDma k v).shadow = s.shadow := rfl
@[simp] theorem State.putDma_spdShadow (s : State) (k : Nat) (v : DmaSt) : (s.putDma k v).spdShadow = s.spdShadow := rfl
@[simp] theorem State.putDma_seq (s : State) (k : Nat) (v : DmaSt) : (s.putDma k v).seq = s.seq := rfl
@[simp] theorem State.putDma_mc (s : State) (k : Nat) (v : DmaSt) : (s.putDma k v).mc = s.mc := rfl
@[simp] theorem State.putDma_fabric (s : State) (k : Nat) (v : DmaSt) : (s.putDma k v).fabric = s.fabric := rfl
@[simp] theorem State.putDma_fab (s : State) (k : Nat) (v : DmaSt) : (s.putDma k v).fab = s.fab := rfl
@[simp] theorem State.putDma_raw (s : State) (k : Nat) (v : DmaSt) : (s.putDma k v).raw = s.raw := rfl
@[simp] theorem State.putDma_spd (s : State) (k : Nat) (v : DmaSt) : (s.putDma k v).spd = s.spd := rfl
@[simp] theorem State.putDma_sweepRef (s : State) (k : Nat) (v : DmaSt) : (s.putDma k v).sweepRef = s.sweepRef := rfl
@[simp] theorem State.putDma_rpm (s : State) (k : Nat) (v : DmaSt) : (s.putDma k v).rpm = s.rpm := rfl
@[simp] theorem State.putDma_hda (s : State) (k : Nat) (v : DmaSt) : (s.putDma k v).hda = s.hda := rfl
@[simp] theorem State.putDma_sensor (s : State) (k : Nat) (v : DmaSt) : (s.putDma k v).sensor = s.sensor := rfl
@[simp] theorem State.putDma_os (s : State) (k : Nat) (v : DmaSt) : (s.putDma k v).os = s.os := rfl
@[simp] theorem State.putDma_cmds (s : State) (k : Nat) (v : DmaSt) : (s.putDma k v).cmds = s.cmds := rfl
@[simp] theorem State.putDma_deferred (s : State) (k : Nat) (v : DmaSt) : (s.putDma k v).deferred = s.deferred := rfl
@[simp] theorem State.putDma_heldCpl (s : State) (k : Nat) (v : DmaSt) : (s.putDma k v).heldCpl = s.heldCpl := rfl
@[simp] theorem State.putDma_lastCtrl (s : State) (k : Nat) (v : DmaSt) : (s.putDma k v).lastCtrl = s.lastCtrl := rfl
@[simp] theorem State.putDma_ctrl (s : State) (k : Nat) (v : DmaSt) : (s.putDma k v).ctrl = s.ctrl := rfl
@[simp] theorem State.putDma_buf (s : State) (k : Nat) (v : DmaSt) : (s.putDma k v).buf = s.buf := rfl
@[simp] theorem State.putDma_cache (s : State) (k : Nat) (v : DmaSt) : (s.putDma k v).cache = s.cache := rfl
@[simp] theorem State.putDma_pair (s : State) (k : Nat) (v : DmaSt) : (s.putDma k v).pair = s.pair := rfl
@[simp] theorem State.putDma_casc (s : State) (k : Nat) (v : DmaSt) : (s.putDma k v).casc = s.casc := rfl
@[simp] theorem State.putDma_fw (s : State) (k : Nat) (v : DmaSt) : (s.putDma k v).fw = s.fw := rfl
@[simp] theorem State.putDma_jf (s : State) (k : Nat) (v : DmaSt) : (s.putDma k v).jf = s.jf := rfl
@[simp] theorem State.putDma_er (s : State) (k : Nat) (v : DmaSt) : (s.putDma k v).er = s.er := rfl
@[simp] theorem State.putDma_set (s : State) (k : Nat) (v : DmaSt) : (s.putDma k v).set = s.set := rfl
@[simp] theorem State.putDma_dict (s : State) (k : Nat) (v : DmaSt) : (s.putDma k v).dict = s.dict := rfl
@[simp] theorem State.putDma_fuse (s : State) (k : Nat) (v : DmaSt) : (s.putDma k v).fuse = s.fuse := rfl
@[simp] theorem State.putDma_kdapTx (s : State) (k : Nat) (v : DmaSt) : (s.putDma k v).kdapTx = s.kdapTx := rfl
@[simp] theorem State.putDma_mon (s : State) (k : Nat) (v : DmaSt) : (s.putDma k v).mon = s.mon := rfl
@[simp] theorem State.putDma_emcy (s : State) (k : Nat) (v : DmaSt) : (s.putDma k v).emcy = s.emcy := rfl
@[simp] theorem State.putDma_answers (s : State) (k : Nat) (v : DmaSt) : (s.putDma k v).answers = s.answers := rfl
@[simp] theorem State.putDma_accHeld (s : State) (k : Nat) (v : DmaSt) : (s.putDma k v).accHeld = s.accHeld := rfl

/-! ## What `modDma` leaves alone -/

@[simp] theorem State.modDma_pending (s : State) (k : Nat) (f : DmaSt → DmaSt) : (s.modDma k f).pending = s.pending := rfl
@[simp] theorem State.modDma_now (s : State) (k : Nat) (f : DmaSt → DmaSt) : (s.modDma k f).now = s.now := rfl
@[simp] theorem State.modDma_fresh (s : State) (k : Nat) (f : DmaSt → DmaSt) : (s.modDma k f).fresh = s.fresh := rfl
@[simp] theorem State.modDma_obj (s : State) (k : Nat) (f : DmaSt → DmaSt) : (s.modDma k f).obj = s.obj := rfl
@[simp] theorem State.modDma_blob (s : State) (k : Nat) (f : DmaSt → DmaSt) : (s.modDma k f).blob = s.blob := rfl
@[simp] theorem State.modDma_mode (s : State) (k : Nat) (f : DmaSt → DmaSt) : (s.modDma k f).mode = s.mode := rfl
@[simp] theorem State.modDma_sup (s : State) (k : Nat) (f : DmaSt → DmaSt) : (s.modDma k f).sup = s.sup := rfl
@[simp] theorem State.modDma_port (s : State) (k : Nat) (f : DmaSt → DmaSt) : (s.modDma k f).port = s.port := rfl
@[simp] theorem State.modDma_line (s : State) (k : Nat) (f : DmaSt → DmaSt) : (s.modDma k f).line = s.line := rfl
@[simp] theorem State.modDma_pn2 (s : State) (k : Nat) (f : DmaSt → DmaSt) : (s.modDma k f).pn2 = s.pn2 := rfl
@[simp] theorem State.modDma_chan (s : State) (k : Nat) (f : DmaSt → DmaSt) : (s.modDma k f).chan = s.chan := rfl
@[simp] theorem State.modDma_plan (s : State) (k : Nat) (f : DmaSt → DmaSt) : (s.modDma k f).plan = s.plan := rfl
@[simp] theorem State.modDma_srv (s : State) (k : Nat) (f : DmaSt → DmaSt) : (s.modDma k f).srv = s.srv := rfl
@[simp] theorem State.modDma_shadow (s : State) (k : Nat) (f : DmaSt → DmaSt) : (s.modDma k f).shadow = s.shadow := rfl
@[simp] theorem State.modDma_spdShadow (s : State) (k : Nat) (f : DmaSt → DmaSt) : (s.modDma k f).spdShadow = s.spdShadow := rfl
@[simp] theorem State.modDma_seq (s : State) (k : Nat) (f : DmaSt → DmaSt) : (s.modDma k f).seq = s.seq := rfl
@[simp] theorem State.modDma_mc (s : State) (k : Nat) (f : DmaSt → DmaSt) : (s.modDma k f).mc = s.mc := rfl
@[simp] theorem State.modDma_fabric (s : State) (k : Nat) (f : DmaSt → DmaSt) : (s.modDma k f).fabric = s.fabric := rfl
@[simp] theorem State.modDma_fab (s : State) (k : Nat) (f : DmaSt → DmaSt) : (s.modDma k f).fab = s.fab := rfl
@[simp] theorem State.modDma_raw (s : State) (k : Nat) (f : DmaSt → DmaSt) : (s.modDma k f).raw = s.raw := rfl
@[simp] theorem State.modDma_spd (s : State) (k : Nat) (f : DmaSt → DmaSt) : (s.modDma k f).spd = s.spd := rfl
@[simp] theorem State.modDma_sweepRef (s : State) (k : Nat) (f : DmaSt → DmaSt) : (s.modDma k f).sweepRef = s.sweepRef := rfl
@[simp] theorem State.modDma_rpm (s : State) (k : Nat) (f : DmaSt → DmaSt) : (s.modDma k f).rpm = s.rpm := rfl
@[simp] theorem State.modDma_hda (s : State) (k : Nat) (f : DmaSt → DmaSt) : (s.modDma k f).hda = s.hda := rfl
@[simp] theorem State.modDma_sensor (s : State) (k : Nat) (f : DmaSt → DmaSt) : (s.modDma k f).sensor = s.sensor := rfl
@[simp] theorem State.modDma_os (s : State) (k : Nat) (f : DmaSt → DmaSt) : (s.modDma k f).os = s.os := rfl
@[simp] theorem State.modDma_cmds (s : State) (k : Nat) (f : DmaSt → DmaSt) : (s.modDma k f).cmds = s.cmds := rfl
@[simp] theorem State.modDma_deferred (s : State) (k : Nat) (f : DmaSt → DmaSt) : (s.modDma k f).deferred = s.deferred := rfl
@[simp] theorem State.modDma_heldCpl (s : State) (k : Nat) (f : DmaSt → DmaSt) : (s.modDma k f).heldCpl = s.heldCpl := rfl
@[simp] theorem State.modDma_lastCtrl (s : State) (k : Nat) (f : DmaSt → DmaSt) : (s.modDma k f).lastCtrl = s.lastCtrl := rfl
@[simp] theorem State.modDma_ctrl (s : State) (k : Nat) (f : DmaSt → DmaSt) : (s.modDma k f).ctrl = s.ctrl := rfl
@[simp] theorem State.modDma_buf (s : State) (k : Nat) (f : DmaSt → DmaSt) : (s.modDma k f).buf = s.buf := rfl
@[simp] theorem State.modDma_cache (s : State) (k : Nat) (f : DmaSt → DmaSt) : (s.modDma k f).cache = s.cache := rfl
@[simp] theorem State.modDma_pair (s : State) (k : Nat) (f : DmaSt → DmaSt) : (s.modDma k f).pair = s.pair := rfl
@[simp] theorem State.modDma_casc (s : State) (k : Nat) (f : DmaSt → DmaSt) : (s.modDma k f).casc = s.casc := rfl
@[simp] theorem State.modDma_fw (s : State) (k : Nat) (f : DmaSt → DmaSt) : (s.modDma k f).fw = s.fw := rfl
@[simp] theorem State.modDma_jf (s : State) (k : Nat) (f : DmaSt → DmaSt) : (s.modDma k f).jf = s.jf := rfl
@[simp] theorem State.modDma_er (s : State) (k : Nat) (f : DmaSt → DmaSt) : (s.modDma k f).er = s.er := rfl
@[simp] theorem State.modDma_set (s : State) (k : Nat) (f : DmaSt → DmaSt) : (s.modDma k f).set = s.set := rfl
@[simp] theorem State.modDma_dict (s : State) (k : Nat) (f : DmaSt → DmaSt) : (s.modDma k f).dict = s.dict := rfl
@[simp] theorem State.modDma_fuse (s : State) (k : Nat) (f : DmaSt → DmaSt) : (s.modDma k f).fuse = s.fuse := rfl
@[simp] theorem State.modDma_kdapTx (s : State) (k : Nat) (f : DmaSt → DmaSt) : (s.modDma k f).kdapTx = s.kdapTx := rfl
@[simp] theorem State.modDma_mon (s : State) (k : Nat) (f : DmaSt → DmaSt) : (s.modDma k f).mon = s.mon := rfl
@[simp] theorem State.modDma_emcy (s : State) (k : Nat) (f : DmaSt → DmaSt) : (s.modDma k f).emcy = s.emcy := rfl
@[simp] theorem State.modDma_answers (s : State) (k : Nat) (f : DmaSt → DmaSt) : (s.modDma k f).answers = s.answers := rfl
@[simp] theorem State.modDma_accHeld (s : State) (k : Nat) (f : DmaSt → DmaSt) : (s.modDma k f).accHeld = s.accHeld := rfl

/-! ## What `putRaw` leaves alone -/

@[simp] theorem State.putRaw_pending (s : State) (k : Nat) (v : RawSt) : (s.putRaw k v).pending = s.pending := rfl
@[simp] theorem State.putRaw_now (s : State) (k : Nat) (v : RawSt) : (s.putRaw k v).now = s.now := rfl
@[simp] theorem State.putRaw_fresh (s : State) (k : Nat) (v : RawSt) : (s.putRaw k v).fresh = s.fresh := rfl
@[simp] theorem State.putRaw_obj (s : State) (k : Nat) (v : RawSt) : (s.putRaw k v).obj = s.obj := rfl
@[simp] theorem State.putRaw_blob (s : State) (k : Nat) (v : RawSt) : (s.putRaw k v).blob = s.blob := rfl
@[simp] theorem State.putRaw_mode (s : State) (k : Nat) (v : RawSt) : (s.putRaw k v).mode = s.mode := rfl
@[simp] theorem State.putRaw_sup (s : State) (k : Nat) (v : RawSt) : (s.putRaw k v).sup = s.sup := rfl
@[simp] theorem State.putRaw_port (s : State) (k : Nat) (v : RawSt) : (s.putRaw k v).port = s.port := rfl
@[simp] theorem State.putRaw_line (s : State) (k : Nat) (v : RawSt) : (s.putRaw k v).line = s.line := rfl
@[simp] theorem State.putRaw_pn2 (s : State) (k : Nat) (v : RawSt) : (s.putRaw k v).pn2 = s.pn2 := rfl
@[simp] theorem State.putRaw_chan (s : State) (k : Nat) (v : RawSt) : (s.putRaw k v).chan = s.chan := rfl
@[simp] theorem State.putRaw_plan (s : State) (k : Nat) (v : RawSt) : (s.putRaw k v).plan = s.plan := rfl
@[simp] theorem State.putRaw_srv (s : State) (k : Nat) (v : RawSt) : (s.putRaw k v).srv = s.srv := rfl
@[simp] theorem State.putRaw_shadow (s : State) (k : Nat) (v : RawSt) : (s.putRaw k v).shadow = s.shadow := rfl
@[simp] theorem State.putRaw_spdShadow (s : State) (k : Nat) (v : RawSt) : (s.putRaw k v).spdShadow = s.spdShadow := rfl
@[simp] theorem State.putRaw_seq (s : State) (k : Nat) (v : RawSt) : (s.putRaw k v).seq = s.seq := rfl
@[simp] theorem State.putRaw_mc (s : State) (k : Nat) (v : RawSt) : (s.putRaw k v).mc = s.mc := rfl
@[simp] theorem State.putRaw_fabric (s : State) (k : Nat) (v : RawSt) : (s.putRaw k v).fabric = s.fabric := rfl
@[simp] theorem State.putRaw_fab (s : State) (k : Nat) (v : RawSt) : (s.putRaw k v).fab = s.fab := rfl
@[simp] theorem State.putRaw_dma (s : State) (k : Nat) (v : RawSt) : (s.putRaw k v).dma = s.dma := rfl
@[simp] theorem State.putRaw_spd (s : State) (k : Nat) (v : RawSt) : (s.putRaw k v).spd = s.spd := rfl
@[simp] theorem State.putRaw_sweepRef (s : State) (k : Nat) (v : RawSt) : (s.putRaw k v).sweepRef = s.sweepRef := rfl
@[simp] theorem State.putRaw_rpm (s : State) (k : Nat) (v : RawSt) : (s.putRaw k v).rpm = s.rpm := rfl
@[simp] theorem State.putRaw_hda (s : State) (k : Nat) (v : RawSt) : (s.putRaw k v).hda = s.hda := rfl
@[simp] theorem State.putRaw_sensor (s : State) (k : Nat) (v : RawSt) : (s.putRaw k v).sensor = s.sensor := rfl
@[simp] theorem State.putRaw_os (s : State) (k : Nat) (v : RawSt) : (s.putRaw k v).os = s.os := rfl
@[simp] theorem State.putRaw_cmds (s : State) (k : Nat) (v : RawSt) : (s.putRaw k v).cmds = s.cmds := rfl
@[simp] theorem State.putRaw_deferred (s : State) (k : Nat) (v : RawSt) : (s.putRaw k v).deferred = s.deferred := rfl
@[simp] theorem State.putRaw_heldCpl (s : State) (k : Nat) (v : RawSt) : (s.putRaw k v).heldCpl = s.heldCpl := rfl
@[simp] theorem State.putRaw_lastCtrl (s : State) (k : Nat) (v : RawSt) : (s.putRaw k v).lastCtrl = s.lastCtrl := rfl
@[simp] theorem State.putRaw_ctrl (s : State) (k : Nat) (v : RawSt) : (s.putRaw k v).ctrl = s.ctrl := rfl
@[simp] theorem State.putRaw_buf (s : State) (k : Nat) (v : RawSt) : (s.putRaw k v).buf = s.buf := rfl
@[simp] theorem State.putRaw_cache (s : State) (k : Nat) (v : RawSt) : (s.putRaw k v).cache = s.cache := rfl
@[simp] theorem State.putRaw_pair (s : State) (k : Nat) (v : RawSt) : (s.putRaw k v).pair = s.pair := rfl
@[simp] theorem State.putRaw_casc (s : State) (k : Nat) (v : RawSt) : (s.putRaw k v).casc = s.casc := rfl
@[simp] theorem State.putRaw_fw (s : State) (k : Nat) (v : RawSt) : (s.putRaw k v).fw = s.fw := rfl
@[simp] theorem State.putRaw_jf (s : State) (k : Nat) (v : RawSt) : (s.putRaw k v).jf = s.jf := rfl
@[simp] theorem State.putRaw_er (s : State) (k : Nat) (v : RawSt) : (s.putRaw k v).er = s.er := rfl
@[simp] theorem State.putRaw_set (s : State) (k : Nat) (v : RawSt) : (s.putRaw k v).set = s.set := rfl
@[simp] theorem State.putRaw_dict (s : State) (k : Nat) (v : RawSt) : (s.putRaw k v).dict = s.dict := rfl
@[simp] theorem State.putRaw_fuse (s : State) (k : Nat) (v : RawSt) : (s.putRaw k v).fuse = s.fuse := rfl
@[simp] theorem State.putRaw_kdapTx (s : State) (k : Nat) (v : RawSt) : (s.putRaw k v).kdapTx = s.kdapTx := rfl
@[simp] theorem State.putRaw_mon (s : State) (k : Nat) (v : RawSt) : (s.putRaw k v).mon = s.mon := rfl
@[simp] theorem State.putRaw_emcy (s : State) (k : Nat) (v : RawSt) : (s.putRaw k v).emcy = s.emcy := rfl
@[simp] theorem State.putRaw_answers (s : State) (k : Nat) (v : RawSt) : (s.putRaw k v).answers = s.answers := rfl
@[simp] theorem State.putRaw_accHeld (s : State) (k : Nat) (v : RawSt) : (s.putRaw k v).accHeld = s.accHeld := rfl

/-! ## What `modRaw` leaves alone -/

@[simp] theorem State.modRaw_pending (s : State) (k : Nat) (f : RawSt → RawSt) : (s.modRaw k f).pending = s.pending := rfl
@[simp] theorem State.modRaw_now (s : State) (k : Nat) (f : RawSt → RawSt) : (s.modRaw k f).now = s.now := rfl
@[simp] theorem State.modRaw_fresh (s : State) (k : Nat) (f : RawSt → RawSt) : (s.modRaw k f).fresh = s.fresh := rfl
@[simp] theorem State.modRaw_obj (s : State) (k : Nat) (f : RawSt → RawSt) : (s.modRaw k f).obj = s.obj := rfl
@[simp] theorem State.modRaw_blob (s : State) (k : Nat) (f : RawSt → RawSt) : (s.modRaw k f).blob = s.blob := rfl
@[simp] theorem State.modRaw_mode (s : State) (k : Nat) (f : RawSt → RawSt) : (s.modRaw k f).mode = s.mode := rfl
@[simp] theorem State.modRaw_sup (s : State) (k : Nat) (f : RawSt → RawSt) : (s.modRaw k f).sup = s.sup := rfl
@[simp] theorem State.modRaw_port (s : State) (k : Nat) (f : RawSt → RawSt) : (s.modRaw k f).port = s.port := rfl
@[simp] theorem State.modRaw_line (s : State) (k : Nat) (f : RawSt → RawSt) : (s.modRaw k f).line = s.line := rfl
@[simp] theorem State.modRaw_pn2 (s : State) (k : Nat) (f : RawSt → RawSt) : (s.modRaw k f).pn2 = s.pn2 := rfl
@[simp] theorem State.modRaw_chan (s : State) (k : Nat) (f : RawSt → RawSt) : (s.modRaw k f).chan = s.chan := rfl
@[simp] theorem State.modRaw_plan (s : State) (k : Nat) (f : RawSt → RawSt) : (s.modRaw k f).plan = s.plan := rfl
@[simp] theorem State.modRaw_srv (s : State) (k : Nat) (f : RawSt → RawSt) : (s.modRaw k f).srv = s.srv := rfl
@[simp] theorem State.modRaw_shadow (s : State) (k : Nat) (f : RawSt → RawSt) : (s.modRaw k f).shadow = s.shadow := rfl
@[simp] theorem State.modRaw_spdShadow (s : State) (k : Nat) (f : RawSt → RawSt) : (s.modRaw k f).spdShadow = s.spdShadow := rfl
@[simp] theorem State.modRaw_seq (s : State) (k : Nat) (f : RawSt → RawSt) : (s.modRaw k f).seq = s.seq := rfl
@[simp] theorem State.modRaw_mc (s : State) (k : Nat) (f : RawSt → RawSt) : (s.modRaw k f).mc = s.mc := rfl
@[simp] theorem State.modRaw_fabric (s : State) (k : Nat) (f : RawSt → RawSt) : (s.modRaw k f).fabric = s.fabric := rfl
@[simp] theorem State.modRaw_fab (s : State) (k : Nat) (f : RawSt → RawSt) : (s.modRaw k f).fab = s.fab := rfl
@[simp] theorem State.modRaw_dma (s : State) (k : Nat) (f : RawSt → RawSt) : (s.modRaw k f).dma = s.dma := rfl
@[simp] theorem State.modRaw_spd (s : State) (k : Nat) (f : RawSt → RawSt) : (s.modRaw k f).spd = s.spd := rfl
@[simp] theorem State.modRaw_sweepRef (s : State) (k : Nat) (f : RawSt → RawSt) : (s.modRaw k f).sweepRef = s.sweepRef := rfl
@[simp] theorem State.modRaw_rpm (s : State) (k : Nat) (f : RawSt → RawSt) : (s.modRaw k f).rpm = s.rpm := rfl
@[simp] theorem State.modRaw_hda (s : State) (k : Nat) (f : RawSt → RawSt) : (s.modRaw k f).hda = s.hda := rfl
@[simp] theorem State.modRaw_sensor (s : State) (k : Nat) (f : RawSt → RawSt) : (s.modRaw k f).sensor = s.sensor := rfl
@[simp] theorem State.modRaw_os (s : State) (k : Nat) (f : RawSt → RawSt) : (s.modRaw k f).os = s.os := rfl
@[simp] theorem State.modRaw_cmds (s : State) (k : Nat) (f : RawSt → RawSt) : (s.modRaw k f).cmds = s.cmds := rfl
@[simp] theorem State.modRaw_deferred (s : State) (k : Nat) (f : RawSt → RawSt) : (s.modRaw k f).deferred = s.deferred := rfl
@[simp] theorem State.modRaw_heldCpl (s : State) (k : Nat) (f : RawSt → RawSt) : (s.modRaw k f).heldCpl = s.heldCpl := rfl
@[simp] theorem State.modRaw_lastCtrl (s : State) (k : Nat) (f : RawSt → RawSt) : (s.modRaw k f).lastCtrl = s.lastCtrl := rfl
@[simp] theorem State.modRaw_ctrl (s : State) (k : Nat) (f : RawSt → RawSt) : (s.modRaw k f).ctrl = s.ctrl := rfl
@[simp] theorem State.modRaw_buf (s : State) (k : Nat) (f : RawSt → RawSt) : (s.modRaw k f).buf = s.buf := rfl
@[simp] theorem State.modRaw_cache (s : State) (k : Nat) (f : RawSt → RawSt) : (s.modRaw k f).cache = s.cache := rfl
@[simp] theorem State.modRaw_pair (s : State) (k : Nat) (f : RawSt → RawSt) : (s.modRaw k f).pair = s.pair := rfl
@[simp] theorem State.modRaw_casc (s : State) (k : Nat) (f : RawSt → RawSt) : (s.modRaw k f).casc = s.casc := rfl
@[simp] theorem State.modRaw_fw (s : State) (k : Nat) (f : RawSt → RawSt) : (s.modRaw k f).fw = s.fw := rfl
@[simp] theorem State.modRaw_jf (s : State) (k : Nat) (f : RawSt → RawSt) : (s.modRaw k f).jf = s.jf := rfl
@[simp] theorem State.modRaw_er (s : State) (k : Nat) (f : RawSt → RawSt) : (s.modRaw k f).er = s.er := rfl
@[simp] theorem State.modRaw_set (s : State) (k : Nat) (f : RawSt → RawSt) : (s.modRaw k f).set = s.set := rfl
@[simp] theorem State.modRaw_dict (s : State) (k : Nat) (f : RawSt → RawSt) : (s.modRaw k f).dict = s.dict := rfl
@[simp] theorem State.modRaw_fuse (s : State) (k : Nat) (f : RawSt → RawSt) : (s.modRaw k f).fuse = s.fuse := rfl
@[simp] theorem State.modRaw_kdapTx (s : State) (k : Nat) (f : RawSt → RawSt) : (s.modRaw k f).kdapTx = s.kdapTx := rfl
@[simp] theorem State.modRaw_mon (s : State) (k : Nat) (f : RawSt → RawSt) : (s.modRaw k f).mon = s.mon := rfl
@[simp] theorem State.modRaw_emcy (s : State) (k : Nat) (f : RawSt → RawSt) : (s.modRaw k f).emcy = s.emcy := rfl
@[simp] theorem State.modRaw_answers (s : State) (k : Nat) (f : RawSt → RawSt) : (s.modRaw k f).answers = s.answers := rfl
@[simp] theorem State.modRaw_accHeld (s : State) (k : Nat) (f : RawSt → RawSt) : (s.modRaw k f).accHeld = s.accHeld := rfl

/-! ## What `putSpd` leaves alone -/

@[simp] theorem State.putSpd_pending (s : State) (k : Nat) (v : SpdSt) : (s.putSpd k v).pending = s.pending := rfl
@[simp] theorem State.putSpd_now (s : State) (k : Nat) (v : SpdSt) : (s.putSpd k v).now = s.now := rfl
@[simp] theorem State.putSpd_fresh (s : State) (k : Nat) (v : SpdSt) : (s.putSpd k v).fresh = s.fresh := rfl
@[simp] theorem State.putSpd_obj (s : State) (k : Nat) (v : SpdSt) : (s.putSpd k v).obj = s.obj := rfl
@[simp] theorem State.putSpd_blob (s : State) (k : Nat) (v : SpdSt) : (s.putSpd k v).blob = s.blob := rfl
@[simp] theorem State.putSpd_mode (s : State) (k : Nat) (v : SpdSt) : (s.putSpd k v).mode = s.mode := rfl
@[simp] theorem State.putSpd_sup (s : State) (k : Nat) (v : SpdSt) : (s.putSpd k v).sup = s.sup := rfl
@[simp] theorem State.putSpd_port (s : State) (k : Nat) (v : SpdSt) : (s.putSpd k v).port = s.port := rfl
@[simp] theorem State.putSpd_line (s : State) (k : Nat) (v : SpdSt) : (s.putSpd k v).line = s.line := rfl
@[simp] theorem State.putSpd_pn2 (s : State) (k : Nat) (v : SpdSt) : (s.putSpd k v).pn2 = s.pn2 := rfl
@[simp] theorem State.putSpd_chan (s : State) (k : Nat) (v : SpdSt) : (s.putSpd k v).chan = s.chan := rfl
@[simp] theorem State.putSpd_plan (s : State) (k : Nat) (v : SpdSt) : (s.putSpd k v).plan = s.plan := rfl
@[simp] theorem State.putSpd_srv (s : State) (k : Nat) (v : SpdSt) : (s.putSpd k v).srv = s.srv := rfl
@[simp] theorem State.putSpd_shadow (s : State) (k : Nat) (v : SpdSt) : (s.putSpd k v).shadow = s.shadow := rfl
@[simp] theorem State.putSpd_spdShadow (s : State) (k : Nat) (v : SpdSt) : (s.putSpd k v).spdShadow = s.spdShadow := rfl
@[simp] theorem State.putSpd_seq (s : State) (k : Nat) (v : SpdSt) : (s.putSpd k v).seq = s.seq := rfl
@[simp] theorem State.putSpd_mc (s : State) (k : Nat) (v : SpdSt) : (s.putSpd k v).mc = s.mc := rfl
@[simp] theorem State.putSpd_fabric (s : State) (k : Nat) (v : SpdSt) : (s.putSpd k v).fabric = s.fabric := rfl
@[simp] theorem State.putSpd_fab (s : State) (k : Nat) (v : SpdSt) : (s.putSpd k v).fab = s.fab := rfl
@[simp] theorem State.putSpd_dma (s : State) (k : Nat) (v : SpdSt) : (s.putSpd k v).dma = s.dma := rfl
@[simp] theorem State.putSpd_raw (s : State) (k : Nat) (v : SpdSt) : (s.putSpd k v).raw = s.raw := rfl
@[simp] theorem State.putSpd_sweepRef (s : State) (k : Nat) (v : SpdSt) : (s.putSpd k v).sweepRef = s.sweepRef := rfl
@[simp] theorem State.putSpd_rpm (s : State) (k : Nat) (v : SpdSt) : (s.putSpd k v).rpm = s.rpm := rfl
@[simp] theorem State.putSpd_hda (s : State) (k : Nat) (v : SpdSt) : (s.putSpd k v).hda = s.hda := rfl
@[simp] theorem State.putSpd_sensor (s : State) (k : Nat) (v : SpdSt) : (s.putSpd k v).sensor = s.sensor := rfl
@[simp] theorem State.putSpd_os (s : State) (k : Nat) (v : SpdSt) : (s.putSpd k v).os = s.os := rfl
@[simp] theorem State.putSpd_cmds (s : State) (k : Nat) (v : SpdSt) : (s.putSpd k v).cmds = s.cmds := rfl
@[simp] theorem State.putSpd_deferred (s : State) (k : Nat) (v : SpdSt) : (s.putSpd k v).deferred = s.deferred := rfl
@[simp] theorem State.putSpd_heldCpl (s : State) (k : Nat) (v : SpdSt) : (s.putSpd k v).heldCpl = s.heldCpl := rfl
@[simp] theorem State.putSpd_lastCtrl (s : State) (k : Nat) (v : SpdSt) : (s.putSpd k v).lastCtrl = s.lastCtrl := rfl
@[simp] theorem State.putSpd_ctrl (s : State) (k : Nat) (v : SpdSt) : (s.putSpd k v).ctrl = s.ctrl := rfl
@[simp] theorem State.putSpd_buf (s : State) (k : Nat) (v : SpdSt) : (s.putSpd k v).buf = s.buf := rfl
@[simp] theorem State.putSpd_cache (s : State) (k : Nat) (v : SpdSt) : (s.putSpd k v).cache = s.cache := rfl
@[simp] theorem State.putSpd_pair (s : State) (k : Nat) (v : SpdSt) : (s.putSpd k v).pair = s.pair := rfl
@[simp] theorem State.putSpd_casc (s : State) (k : Nat) (v : SpdSt) : (s.putSpd k v).casc = s.casc := rfl
@[simp] theorem State.putSpd_fw (s : State) (k : Nat) (v : SpdSt) : (s.putSpd k v).fw = s.fw := rfl
@[simp] theorem State.putSpd_jf (s : State) (k : Nat) (v : SpdSt) : (s.putSpd k v).jf = s.jf := rfl
@[simp] theorem State.putSpd_er (s : State) (k : Nat) (v : SpdSt) : (s.putSpd k v).er = s.er := rfl
@[simp] theorem State.putSpd_set (s : State) (k : Nat) (v : SpdSt) : (s.putSpd k v).set = s.set := rfl
@[simp] theorem State.putSpd_dict (s : State) (k : Nat) (v : SpdSt) : (s.putSpd k v).dict = s.dict := rfl
@[simp] theorem State.putSpd_fuse (s : State) (k : Nat) (v : SpdSt) : (s.putSpd k v).fuse = s.fuse := rfl
@[simp] theorem State.putSpd_kdapTx (s : State) (k : Nat) (v : SpdSt) : (s.putSpd k v).kdapTx = s.kdapTx := rfl
@[simp] theorem State.putSpd_mon (s : State) (k : Nat) (v : SpdSt) : (s.putSpd k v).mon = s.mon := rfl
@[simp] theorem State.putSpd_emcy (s : State) (k : Nat) (v : SpdSt) : (s.putSpd k v).emcy = s.emcy := rfl
@[simp] theorem State.putSpd_answers (s : State) (k : Nat) (v : SpdSt) : (s.putSpd k v).answers = s.answers := rfl
@[simp] theorem State.putSpd_accHeld (s : State) (k : Nat) (v : SpdSt) : (s.putSpd k v).accHeld = s.accHeld := rfl

/-! ## What `modSpd` leaves alone -/

@[simp] theorem State.modSpd_pending (s : State) (k : Nat) (f : SpdSt → SpdSt) : (s.modSpd k f).pending = s.pending := rfl
@[simp] theorem State.modSpd_now (s : State) (k : Nat) (f : SpdSt → SpdSt) : (s.modSpd k f).now = s.now := rfl
@[simp] theorem State.modSpd_fresh (s : State) (k : Nat) (f : SpdSt → SpdSt) : (s.modSpd k f).fresh = s.fresh := rfl
@[simp] theorem State.modSpd_obj (s : State) (k : Nat) (f : SpdSt → SpdSt) : (s.modSpd k f).obj = s.obj := rfl
@[simp] theorem State.modSpd_blob (s : State) (k : Nat) (f : SpdSt → SpdSt) : (s.modSpd k f).blob = s.blob := rfl
@[simp] theorem State.modSpd_mode (s : State) (k : Nat) (f : SpdSt → SpdSt) : (s.modSpd k f).mode = s.mode := rfl
@[simp] theorem State.modSpd_sup (s : State) (k : Nat) (f : SpdSt → SpdSt) : (s.modSpd k f).sup = s.sup := rfl
@[simp] theorem State.modSpd_port (s : State) (k : Nat) (f : SpdSt → SpdSt) : (s.modSpd k f).port = s.port := rfl
@[simp] theorem State.modSpd_line (s : State) (k : Nat) (f : SpdSt → SpdSt) : (s.modSpd k f).line = s.line := rfl
@[simp] theorem State.modSpd_pn2 (s : State) (k : Nat) (f : SpdSt → SpdSt) : (s.modSpd k f).pn2 = s.pn2 := rfl
@[simp] theorem State.modSpd_chan (s : State) (k : Nat) (f : SpdSt → SpdSt) : (s.modSpd k f).chan = s.chan := rfl
@[simp] theorem State.modSpd_plan (s : State) (k : Nat) (f : SpdSt → SpdSt) : (s.modSpd k f).plan = s.plan := rfl
@[simp] theorem State.modSpd_srv (s : State) (k : Nat) (f : SpdSt → SpdSt) : (s.modSpd k f).srv = s.srv := rfl
@[simp] theorem State.modSpd_shadow (s : State) (k : Nat) (f : SpdSt → SpdSt) : (s.modSpd k f).shadow = s.shadow := rfl
@[simp] theorem State.modSpd_seq (s : State) (k : Nat) (f : SpdSt → SpdSt) : (s.modSpd k f).seq = s.seq := rfl
@[simp] theorem State.modSpd_mc (s : State) (k : Nat) (f : SpdSt → SpdSt) : (s.modSpd k f).mc = s.mc := rfl
@[simp] theorem State.modSpd_fabric (s : State) (k : Nat) (f : SpdSt → SpdSt) : (s.modSpd k f).fabric = s.fabric := rfl
@[simp] theorem State.modSpd_fab (s : State) (k : Nat) (f : SpdSt → SpdSt) : (s.modSpd k f).fab = s.fab := rfl
@[simp] theorem State.modSpd_dma (s : State) (k : Nat) (f : SpdSt → SpdSt) : (s.modSpd k f).dma = s.dma := rfl
@[simp] theorem State.modSpd_raw (s : State) (k : Nat) (f : SpdSt → SpdSt) : (s.modSpd k f).raw = s.raw := rfl
@[simp] theorem State.modSpd_sweepRef (s : State) (k : Nat) (f : SpdSt → SpdSt) : (s.modSpd k f).sweepRef = s.sweepRef := rfl
@[simp] theorem State.modSpd_rpm (s : State) (k : Nat) (f : SpdSt → SpdSt) : (s.modSpd k f).rpm = s.rpm := rfl
@[simp] theorem State.modSpd_hda (s : State) (k : Nat) (f : SpdSt → SpdSt) : (s.modSpd k f).hda = s.hda := rfl
@[simp] theorem State.modSpd_sensor (s : State) (k : Nat) (f : SpdSt → SpdSt) : (s.modSpd k f).sensor = s.sensor := rfl
@[simp] theorem State.modSpd_os (s : State) (k : Nat) (f : SpdSt → SpdSt) : (s.modSpd k f).os = s.os := rfl
@[simp] theorem State.modSpd_cmds (s : State) (k : Nat) (f : SpdSt → SpdSt) : (s.modSpd k f).cmds = s.cmds := rfl
@[simp] theorem State.modSpd_deferred (s : State) (k : Nat) (f : SpdSt → SpdSt) : (s.modSpd k f).deferred = s.deferred := rfl
@[simp] theorem State.modSpd_heldCpl (s : State) (k : Nat) (f : SpdSt → SpdSt) : (s.modSpd k f).heldCpl = s.heldCpl := rfl
@[simp] theorem State.modSpd_lastCtrl (s : State) (k : Nat) (f : SpdSt → SpdSt) : (s.modSpd k f).lastCtrl = s.lastCtrl := rfl
@[simp] theorem State.modSpd_ctrl (s : State) (k : Nat) (f : SpdSt → SpdSt) : (s.modSpd k f).ctrl = s.ctrl := rfl
@[simp] theorem State.modSpd_buf (s : State) (k : Nat) (f : SpdSt → SpdSt) : (s.modSpd k f).buf = s.buf := rfl
@[simp] theorem State.modSpd_cache (s : State) (k : Nat) (f : SpdSt → SpdSt) : (s.modSpd k f).cache = s.cache := rfl
@[simp] theorem State.modSpd_pair (s : State) (k : Nat) (f : SpdSt → SpdSt) : (s.modSpd k f).pair = s.pair := rfl
@[simp] theorem State.modSpd_casc (s : State) (k : Nat) (f : SpdSt → SpdSt) : (s.modSpd k f).casc = s.casc := rfl
@[simp] theorem State.modSpd_fw (s : State) (k : Nat) (f : SpdSt → SpdSt) : (s.modSpd k f).fw = s.fw := rfl
@[simp] theorem State.modSpd_jf (s : State) (k : Nat) (f : SpdSt → SpdSt) : (s.modSpd k f).jf = s.jf := rfl
@[simp] theorem State.modSpd_er (s : State) (k : Nat) (f : SpdSt → SpdSt) : (s.modSpd k f).er = s.er := rfl
@[simp] theorem State.modSpd_set (s : State) (k : Nat) (f : SpdSt → SpdSt) : (s.modSpd k f).set = s.set := rfl
@[simp] theorem State.modSpd_dict (s : State) (k : Nat) (f : SpdSt → SpdSt) : (s.modSpd k f).dict = s.dict := rfl
@[simp] theorem State.modSpd_fuse (s : State) (k : Nat) (f : SpdSt → SpdSt) : (s.modSpd k f).fuse = s.fuse := rfl
@[simp] theorem State.modSpd_kdapTx (s : State) (k : Nat) (f : SpdSt → SpdSt) : (s.modSpd k f).kdapTx = s.kdapTx := rfl
@[simp] theorem State.modSpd_mon (s : State) (k : Nat) (f : SpdSt → SpdSt) : (s.modSpd k f).mon = s.mon := rfl
@[simp] theorem State.modSpd_emcy (s : State) (k : Nat) (f : SpdSt → SpdSt) : (s.modSpd k f).emcy = s.emcy := rfl
@[simp] theorem State.modSpd_answers (s : State) (k : Nat) (f : SpdSt → SpdSt) : (s.modSpd k f).answers = s.answers := rfl
@[simp] theorem State.modSpd_accHeld (s : State) (k : Nat) (f : SpdSt → SpdSt) : (s.modSpd k f).accHeld = s.accHeld := rfl

/-! ## What `putHda` leaves alone -/

@[simp] theorem State.putHda_pending (s : State) (k : Nat) (v : HdaSt) : (s.putHda k v).pending = s.pending := rfl
@[simp] theorem State.putHda_now (s : State) (k : Nat) (v : HdaSt) : (s.putHda k v).now = s.now := rfl
@[simp] theorem State.putHda_fresh (s : State) (k : Nat) (v : HdaSt) : (s.putHda k v).fresh = s.fresh := rfl
@[simp] theorem State.putHda_obj (s : State) (k : Nat) (v : HdaSt) : (s.putHda k v).obj = s.obj := rfl
@[simp] theorem State.putHda_blob (s : State) (k : Nat) (v : HdaSt) : (s.putHda k v).blob = s.blob := rfl
@[simp] theorem State.putHda_mode (s : State) (k : Nat) (v : HdaSt) : (s.putHda k v).mode = s.mode := rfl
@[simp] theorem State.putHda_sup (s : State) (k : Nat) (v : HdaSt) : (s.putHda k v).sup = s.sup := rfl
@[simp] theorem State.putHda_port (s : State) (k : Nat) (v : HdaSt) : (s.putHda k v).port = s.port := rfl
@[simp] theorem State.putHda_line (s : State) (k : Nat) (v : HdaSt) : (s.putHda k v).line = s.line := rfl
@[simp] theorem State.putHda_pn2 (s : State) (k : Nat) (v : HdaSt) : (s.putHda k v).pn2 = s.pn2 := rfl
@[simp] theorem State.putHda_chan (s : State) (k : Nat) (v : HdaSt) : (s.putHda k v).chan = s.chan := rfl
@[simp] theorem State.putHda_plan (s : State) (k : Nat) (v : HdaSt) : (s.putHda k v).plan = s.plan := rfl
@[simp] theorem State.putHda_srv (s : State) (k : Nat) (v : HdaSt) : (s.putHda k v).srv = s.srv := rfl
@[simp] theorem State.putHda_shadow (s : State) (k : Nat) (v : HdaSt) : (s.putHda k v).shadow = s.shadow := rfl
@[simp] theorem State.putHda_spdShadow (s : State) (k : Nat) (v : HdaSt) : (s.putHda k v).spdShadow = s.spdShadow := rfl
@[simp] theorem State.putHda_seq (s : State) (k : Nat) (v : HdaSt) : (s.putHda k v).seq = s.seq := rfl
@[simp] theorem State.putHda_mc (s : State) (k : Nat) (v : HdaSt) : (s.putHda k v).mc = s.mc := rfl
@[simp] theorem State.putHda_fabric (s : State) (k : Nat) (v : HdaSt) : (s.putHda k v).fabric = s.fabric := rfl
@[simp] theorem State.putHda_fab (s : State) (k : Nat) (v : HdaSt) : (s.putHda k v).fab = s.fab := rfl
@[simp] theorem State.putHda_dma (s : State) (k : Nat) (v : HdaSt) : (s.putHda k v).dma = s.dma := rfl
@[simp] theorem State.putHda_raw (s : State) (k : Nat) (v : HdaSt) : (s.putHda k v).raw = s.raw := rfl
@[simp] theorem State.putHda_spd (s : State) (k : Nat) (v : HdaSt) : (s.putHda k v).spd = s.spd := rfl
@[simp] theorem State.putHda_sweepRef (s : State) (k : Nat) (v : HdaSt) : (s.putHda k v).sweepRef = s.sweepRef := rfl
@[simp] theorem State.putHda_rpm (s : State) (k : Nat) (v : HdaSt) : (s.putHda k v).rpm = s.rpm := rfl
@[simp] theorem State.putHda_sensor (s : State) (k : Nat) (v : HdaSt) : (s.putHda k v).sensor = s.sensor := rfl
@[simp] theorem State.putHda_os (s : State) (k : Nat) (v : HdaSt) : (s.putHda k v).os = s.os := rfl
@[simp] theorem State.putHda_cmds (s : State) (k : Nat) (v : HdaSt) : (s.putHda k v).cmds = s.cmds := rfl
@[simp] theorem State.putHda_deferred (s : State) (k : Nat) (v : HdaSt) : (s.putHda k v).deferred = s.deferred := rfl
@[simp] theorem State.putHda_heldCpl (s : State) (k : Nat) (v : HdaSt) : (s.putHda k v).heldCpl = s.heldCpl := rfl
@[simp] theorem State.putHda_lastCtrl (s : State) (k : Nat) (v : HdaSt) : (s.putHda k v).lastCtrl = s.lastCtrl := rfl
@[simp] theorem State.putHda_ctrl (s : State) (k : Nat) (v : HdaSt) : (s.putHda k v).ctrl = s.ctrl := rfl
@[simp] theorem State.putHda_buf (s : State) (k : Nat) (v : HdaSt) : (s.putHda k v).buf = s.buf := rfl
@[simp] theorem State.putHda_cache (s : State) (k : Nat) (v : HdaSt) : (s.putHda k v).cache = s.cache := rfl
@[simp] theorem State.putHda_pair (s : State) (k : Nat) (v : HdaSt) : (s.putHda k v).pair = s.pair := rfl
@[simp] theorem State.putHda_casc (s : State) (k : Nat) (v : HdaSt) : (s.putHda k v).casc = s.casc := rfl
@[simp] theorem State.putHda_fw (s : State) (k : Nat) (v : HdaSt) : (s.putHda k v).fw = s.fw := rfl
@[simp] theorem State.putHda_jf (s : State) (k : Nat) (v : HdaSt) : (s.putHda k v).jf = s.jf := rfl
@[simp] theorem State.putHda_er (s : State) (k : Nat) (v : HdaSt) : (s.putHda k v).er = s.er := rfl
@[simp] theorem State.putHda_set (s : State) (k : Nat) (v : HdaSt) : (s.putHda k v).set = s.set := rfl
@[simp] theorem State.putHda_dict (s : State) (k : Nat) (v : HdaSt) : (s.putHda k v).dict = s.dict := rfl
@[simp] theorem State.putHda_fuse (s : State) (k : Nat) (v : HdaSt) : (s.putHda k v).fuse = s.fuse := rfl
@[simp] theorem State.putHda_kdapTx (s : State) (k : Nat) (v : HdaSt) : (s.putHda k v).kdapTx = s.kdapTx := rfl
@[simp] theorem State.putHda_mon (s : State) (k : Nat) (v : HdaSt) : (s.putHda k v).mon = s.mon := rfl
@[simp] theorem State.putHda_emcy (s : State) (k : Nat) (v : HdaSt) : (s.putHda k v).emcy = s.emcy := rfl
@[simp] theorem State.putHda_answers (s : State) (k : Nat) (v : HdaSt) : (s.putHda k v).answers = s.answers := rfl
@[simp] theorem State.putHda_accHeld (s : State) (k : Nat) (v : HdaSt) : (s.putHda k v).accHeld = s.accHeld := rfl

/-! ## What `modHda` leaves alone -/

@[simp] theorem State.modHda_pending (s : State) (k : Nat) (f : HdaSt → HdaSt) : (s.modHda k f).pending = s.pending := rfl
@[simp] theorem State.modHda_now (s : State) (k : Nat) (f : HdaSt → HdaSt) : (s.modHda k f).now = s.now := rfl
@[simp] theorem State.modHda_fresh (s : State) (k : Nat) (f : HdaSt → HdaSt) : (s.modHda k f).fresh = s.fresh := rfl
@[simp] theorem State.modHda_obj (s : State) (k : Nat) (f : HdaSt → HdaSt) : (s.modHda k f).obj = s.obj := rfl
@[simp] theorem State.modHda_blob (s : State) (k : Nat) (f : HdaSt → HdaSt) : (s.modHda k f).blob = s.blob := rfl
@[simp] theorem State.modHda_mode (s : State) (k : Nat) (f : HdaSt → HdaSt) : (s.modHda k f).mode = s.mode := rfl
@[simp] theorem State.modHda_sup (s : State) (k : Nat) (f : HdaSt → HdaSt) : (s.modHda k f).sup = s.sup := rfl
@[simp] theorem State.modHda_port (s : State) (k : Nat) (f : HdaSt → HdaSt) : (s.modHda k f).port = s.port := rfl
@[simp] theorem State.modHda_line (s : State) (k : Nat) (f : HdaSt → HdaSt) : (s.modHda k f).line = s.line := rfl
@[simp] theorem State.modHda_pn2 (s : State) (k : Nat) (f : HdaSt → HdaSt) : (s.modHda k f).pn2 = s.pn2 := rfl
@[simp] theorem State.modHda_chan (s : State) (k : Nat) (f : HdaSt → HdaSt) : (s.modHda k f).chan = s.chan := rfl
@[simp] theorem State.modHda_plan (s : State) (k : Nat) (f : HdaSt → HdaSt) : (s.modHda k f).plan = s.plan := rfl
@[simp] theorem State.modHda_srv (s : State) (k : Nat) (f : HdaSt → HdaSt) : (s.modHda k f).srv = s.srv := rfl
@[simp] theorem State.modHda_shadow (s : State) (k : Nat) (f : HdaSt → HdaSt) : (s.modHda k f).shadow = s.shadow := rfl
@[simp] theorem State.modHda_spdShadow (s : State) (k : Nat) (f : HdaSt → HdaSt) : (s.modHda k f).spdShadow = s.spdShadow := rfl
@[simp] theorem State.modHda_seq (s : State) (k : Nat) (f : HdaSt → HdaSt) : (s.modHda k f).seq = s.seq := rfl
@[simp] theorem State.modHda_mc (s : State) (k : Nat) (f : HdaSt → HdaSt) : (s.modHda k f).mc = s.mc := rfl
@[simp] theorem State.modHda_fabric (s : State) (k : Nat) (f : HdaSt → HdaSt) : (s.modHda k f).fabric = s.fabric := rfl
@[simp] theorem State.modHda_fab (s : State) (k : Nat) (f : HdaSt → HdaSt) : (s.modHda k f).fab = s.fab := rfl
@[simp] theorem State.modHda_dma (s : State) (k : Nat) (f : HdaSt → HdaSt) : (s.modHda k f).dma = s.dma := rfl
@[simp] theorem State.modHda_raw (s : State) (k : Nat) (f : HdaSt → HdaSt) : (s.modHda k f).raw = s.raw := rfl
@[simp] theorem State.modHda_spd (s : State) (k : Nat) (f : HdaSt → HdaSt) : (s.modHda k f).spd = s.spd := rfl
@[simp] theorem State.modHda_sweepRef (s : State) (k : Nat) (f : HdaSt → HdaSt) : (s.modHda k f).sweepRef = s.sweepRef := rfl
@[simp] theorem State.modHda_rpm (s : State) (k : Nat) (f : HdaSt → HdaSt) : (s.modHda k f).rpm = s.rpm := rfl
@[simp] theorem State.modHda_sensor (s : State) (k : Nat) (f : HdaSt → HdaSt) : (s.modHda k f).sensor = s.sensor := rfl
@[simp] theorem State.modHda_os (s : State) (k : Nat) (f : HdaSt → HdaSt) : (s.modHda k f).os = s.os := rfl
@[simp] theorem State.modHda_cmds (s : State) (k : Nat) (f : HdaSt → HdaSt) : (s.modHda k f).cmds = s.cmds := rfl
@[simp] theorem State.modHda_deferred (s : State) (k : Nat) (f : HdaSt → HdaSt) : (s.modHda k f).deferred = s.deferred := rfl
@[simp] theorem State.modHda_heldCpl (s : State) (k : Nat) (f : HdaSt → HdaSt) : (s.modHda k f).heldCpl = s.heldCpl := rfl
@[simp] theorem State.modHda_lastCtrl (s : State) (k : Nat) (f : HdaSt → HdaSt) : (s.modHda k f).lastCtrl = s.lastCtrl := rfl
@[simp] theorem State.modHda_ctrl (s : State) (k : Nat) (f : HdaSt → HdaSt) : (s.modHda k f).ctrl = s.ctrl := rfl
@[simp] theorem State.modHda_buf (s : State) (k : Nat) (f : HdaSt → HdaSt) : (s.modHda k f).buf = s.buf := rfl
@[simp] theorem State.modHda_cache (s : State) (k : Nat) (f : HdaSt → HdaSt) : (s.modHda k f).cache = s.cache := rfl
@[simp] theorem State.modHda_pair (s : State) (k : Nat) (f : HdaSt → HdaSt) : (s.modHda k f).pair = s.pair := rfl
@[simp] theorem State.modHda_casc (s : State) (k : Nat) (f : HdaSt → HdaSt) : (s.modHda k f).casc = s.casc := rfl
@[simp] theorem State.modHda_fw (s : State) (k : Nat) (f : HdaSt → HdaSt) : (s.modHda k f).fw = s.fw := rfl
@[simp] theorem State.modHda_jf (s : State) (k : Nat) (f : HdaSt → HdaSt) : (s.modHda k f).jf = s.jf := rfl
@[simp] theorem State.modHda_er (s : State) (k : Nat) (f : HdaSt → HdaSt) : (s.modHda k f).er = s.er := rfl
@[simp] theorem State.modHda_set (s : State) (k : Nat) (f : HdaSt → HdaSt) : (s.modHda k f).set = s.set := rfl
@[simp] theorem State.modHda_dict (s : State) (k : Nat) (f : HdaSt → HdaSt) : (s.modHda k f).dict = s.dict := rfl
@[simp] theorem State.modHda_fuse (s : State) (k : Nat) (f : HdaSt → HdaSt) : (s.modHda k f).fuse = s.fuse := rfl
@[simp] theorem State.modHda_kdapTx (s : State) (k : Nat) (f : HdaSt → HdaSt) : (s.modHda k f).kdapTx = s.kdapTx := rfl
@[simp] theorem State.modHda_mon (s : State) (k : Nat) (f : HdaSt → HdaSt) : (s.modHda k f).mon = s.mon := rfl
@[simp] theorem State.modHda_emcy (s : State) (k : Nat) (f : HdaSt → HdaSt) : (s.modHda k f).emcy = s.emcy := rfl
@[simp] theorem State.modHda_answers (s : State) (k : Nat) (f : HdaSt → HdaSt) : (s.modHda k f).answers = s.answers := rfl
@[simp] theorem State.modHda_accHeld (s : State) (k : Nat) (f : HdaSt → HdaSt) : (s.modHda k f).accHeld = s.accHeld := rfl

/-! ## What `putSensor` leaves alone -/

@[simp] theorem State.putSensor_pending (s : State) (k : Nat) (v : Reading) : (s.putSensor k v).pending = s.pending := rfl
@[simp] theorem State.putSensor_now (s : State) (k : Nat) (v : Reading) : (s.putSensor k v).now = s.now := rfl
@[simp] theorem State.putSensor_fresh (s : State) (k : Nat) (v : Reading) : (s.putSensor k v).fresh = s.fresh := rfl
@[simp] theorem State.putSensor_obj (s : State) (k : Nat) (v : Reading) : (s.putSensor k v).obj = s.obj := rfl
@[simp] theorem State.putSensor_blob (s : State) (k : Nat) (v : Reading) : (s.putSensor k v).blob = s.blob := rfl
@[simp] theorem State.putSensor_mode (s : State) (k : Nat) (v : Reading) : (s.putSensor k v).mode = s.mode := rfl
@[simp] theorem State.putSensor_sup (s : State) (k : Nat) (v : Reading) : (s.putSensor k v).sup = s.sup := rfl
@[simp] theorem State.putSensor_port (s : State) (k : Nat) (v : Reading) : (s.putSensor k v).port = s.port := rfl
@[simp] theorem State.putSensor_line (s : State) (k : Nat) (v : Reading) : (s.putSensor k v).line = s.line := rfl
@[simp] theorem State.putSensor_pn2 (s : State) (k : Nat) (v : Reading) : (s.putSensor k v).pn2 = s.pn2 := rfl
@[simp] theorem State.putSensor_chan (s : State) (k : Nat) (v : Reading) : (s.putSensor k v).chan = s.chan := rfl
@[simp] theorem State.putSensor_plan (s : State) (k : Nat) (v : Reading) : (s.putSensor k v).plan = s.plan := rfl
@[simp] theorem State.putSensor_srv (s : State) (k : Nat) (v : Reading) : (s.putSensor k v).srv = s.srv := rfl
@[simp] theorem State.putSensor_shadow (s : State) (k : Nat) (v : Reading) : (s.putSensor k v).shadow = s.shadow := rfl
@[simp] theorem State.putSensor_spdShadow (s : State) (k : Nat) (v : Reading) : (s.putSensor k v).spdShadow = s.spdShadow := rfl
@[simp] theorem State.putSensor_seq (s : State) (k : Nat) (v : Reading) : (s.putSensor k v).seq = s.seq := rfl
@[simp] theorem State.putSensor_mc (s : State) (k : Nat) (v : Reading) : (s.putSensor k v).mc = s.mc := rfl
@[simp] theorem State.putSensor_fabric (s : State) (k : Nat) (v : Reading) : (s.putSensor k v).fabric = s.fabric := rfl
@[simp] theorem State.putSensor_fab (s : State) (k : Nat) (v : Reading) : (s.putSensor k v).fab = s.fab := rfl
@[simp] theorem State.putSensor_dma (s : State) (k : Nat) (v : Reading) : (s.putSensor k v).dma = s.dma := rfl
@[simp] theorem State.putSensor_raw (s : State) (k : Nat) (v : Reading) : (s.putSensor k v).raw = s.raw := rfl
@[simp] theorem State.putSensor_spd (s : State) (k : Nat) (v : Reading) : (s.putSensor k v).spd = s.spd := rfl
@[simp] theorem State.putSensor_sweepRef (s : State) (k : Nat) (v : Reading) : (s.putSensor k v).sweepRef = s.sweepRef := rfl
@[simp] theorem State.putSensor_rpm (s : State) (k : Nat) (v : Reading) : (s.putSensor k v).rpm = s.rpm := rfl
@[simp] theorem State.putSensor_hda (s : State) (k : Nat) (v : Reading) : (s.putSensor k v).hda = s.hda := rfl
@[simp] theorem State.putSensor_os (s : State) (k : Nat) (v : Reading) : (s.putSensor k v).os = s.os := rfl
@[simp] theorem State.putSensor_cmds (s : State) (k : Nat) (v : Reading) : (s.putSensor k v).cmds = s.cmds := rfl
@[simp] theorem State.putSensor_deferred (s : State) (k : Nat) (v : Reading) : (s.putSensor k v).deferred = s.deferred := rfl
@[simp] theorem State.putSensor_heldCpl (s : State) (k : Nat) (v : Reading) : (s.putSensor k v).heldCpl = s.heldCpl := rfl
@[simp] theorem State.putSensor_lastCtrl (s : State) (k : Nat) (v : Reading) : (s.putSensor k v).lastCtrl = s.lastCtrl := rfl
@[simp] theorem State.putSensor_ctrl (s : State) (k : Nat) (v : Reading) : (s.putSensor k v).ctrl = s.ctrl := rfl
@[simp] theorem State.putSensor_buf (s : State) (k : Nat) (v : Reading) : (s.putSensor k v).buf = s.buf := rfl
@[simp] theorem State.putSensor_cache (s : State) (k : Nat) (v : Reading) : (s.putSensor k v).cache = s.cache := rfl
@[simp] theorem State.putSensor_pair (s : State) (k : Nat) (v : Reading) : (s.putSensor k v).pair = s.pair := rfl
@[simp] theorem State.putSensor_casc (s : State) (k : Nat) (v : Reading) : (s.putSensor k v).casc = s.casc := rfl
@[simp] theorem State.putSensor_fw (s : State) (k : Nat) (v : Reading) : (s.putSensor k v).fw = s.fw := rfl
@[simp] theorem State.putSensor_jf (s : State) (k : Nat) (v : Reading) : (s.putSensor k v).jf = s.jf := rfl
@[simp] theorem State.putSensor_er (s : State) (k : Nat) (v : Reading) : (s.putSensor k v).er = s.er := rfl
@[simp] theorem State.putSensor_set (s : State) (k : Nat) (v : Reading) : (s.putSensor k v).set = s.set := rfl
@[simp] theorem State.putSensor_dict (s : State) (k : Nat) (v : Reading) : (s.putSensor k v).dict = s.dict := rfl
@[simp] theorem State.putSensor_fuse (s : State) (k : Nat) (v : Reading) : (s.putSensor k v).fuse = s.fuse := rfl
@[simp] theorem State.putSensor_kdapTx (s : State) (k : Nat) (v : Reading) : (s.putSensor k v).kdapTx = s.kdapTx := rfl
@[simp] theorem State.putSensor_mon (s : State) (k : Nat) (v : Reading) : (s.putSensor k v).mon = s.mon := rfl
@[simp] theorem State.putSensor_emcy (s : State) (k : Nat) (v : Reading) : (s.putSensor k v).emcy = s.emcy := rfl
@[simp] theorem State.putSensor_answers (s : State) (k : Nat) (v : Reading) : (s.putSensor k v).answers = s.answers := rfl
@[simp] theorem State.putSensor_accHeld (s : State) (k : Nat) (v : Reading) : (s.putSensor k v).accHeld = s.accHeld := rfl

/-! ## What `modSensor` leaves alone -/

@[simp] theorem State.modSensor_pending (s : State) (k : Nat) (f : Reading → Reading) : (s.modSensor k f).pending = s.pending := rfl
@[simp] theorem State.modSensor_now (s : State) (k : Nat) (f : Reading → Reading) : (s.modSensor k f).now = s.now := rfl
@[simp] theorem State.modSensor_fresh (s : State) (k : Nat) (f : Reading → Reading) : (s.modSensor k f).fresh = s.fresh := rfl
@[simp] theorem State.modSensor_obj (s : State) (k : Nat) (f : Reading → Reading) : (s.modSensor k f).obj = s.obj := rfl
@[simp] theorem State.modSensor_blob (s : State) (k : Nat) (f : Reading → Reading) : (s.modSensor k f).blob = s.blob := rfl
@[simp] theorem State.modSensor_mode (s : State) (k : Nat) (f : Reading → Reading) : (s.modSensor k f).mode = s.mode := rfl
@[simp] theorem State.modSensor_sup (s : State) (k : Nat) (f : Reading → Reading) : (s.modSensor k f).sup = s.sup := rfl
@[simp] theorem State.modSensor_port (s : State) (k : Nat) (f : Reading → Reading) : (s.modSensor k f).port = s.port := rfl
@[simp] theorem State.modSensor_line (s : State) (k : Nat) (f : Reading → Reading) : (s.modSensor k f).line = s.line := rfl
@[simp] theorem State.modSensor_pn2 (s : State) (k : Nat) (f : Reading → Reading) : (s.modSensor k f).pn2 = s.pn2 := rfl
@[simp] theorem State.modSensor_chan (s : State) (k : Nat) (f : Reading → Reading) : (s.modSensor k f).chan = s.chan := rfl
@[simp] theorem State.modSensor_plan (s : State) (k : Nat) (f : Reading → Reading) : (s.modSensor k f).plan = s.plan := rfl
@[simp] theorem State.modSensor_srv (s : State) (k : Nat) (f : Reading → Reading) : (s.modSensor k f).srv = s.srv := rfl
@[simp] theorem State.modSensor_shadow (s : State) (k : Nat) (f : Reading → Reading) : (s.modSensor k f).shadow = s.shadow := rfl
@[simp] theorem State.modSensor_spdShadow (s : State) (k : Nat) (f : Reading → Reading) : (s.modSensor k f).spdShadow = s.spdShadow := rfl
@[simp] theorem State.modSensor_seq (s : State) (k : Nat) (f : Reading → Reading) : (s.modSensor k f).seq = s.seq := rfl
@[simp] theorem State.modSensor_mc (s : State) (k : Nat) (f : Reading → Reading) : (s.modSensor k f).mc = s.mc := rfl
@[simp] theorem State.modSensor_fabric (s : State) (k : Nat) (f : Reading → Reading) : (s.modSensor k f).fabric = s.fabric := rfl
@[simp] theorem State.modSensor_fab (s : State) (k : Nat) (f : Reading → Reading) : (s.modSensor k f).fab = s.fab := rfl
@[simp] theorem State.modSensor_dma (s : State) (k : Nat) (f : Reading → Reading) : (s.modSensor k f).dma = s.dma := rfl
@[simp] theorem State.modSensor_raw (s : State) (k : Nat) (f : Reading → Reading) : (s.modSensor k f).raw = s.raw := rfl
@[simp] theorem State.modSensor_spd (s : State) (k : Nat) (f : Reading → Reading) : (s.modSensor k f).spd = s.spd := rfl
@[simp] theorem State.modSensor_sweepRef (s : State) (k : Nat) (f : Reading → Reading) : (s.modSensor k f).sweepRef = s.sweepRef := rfl
@[simp] theorem State.modSensor_rpm (s : State) (k : Nat) (f : Reading → Reading) : (s.modSensor k f).rpm = s.rpm := rfl
@[simp] theorem State.modSensor_hda (s : State) (k : Nat) (f : Reading → Reading) : (s.modSensor k f).hda = s.hda := rfl
@[simp] theorem State.modSensor_os (s : State) (k : Nat) (f : Reading → Reading) : (s.modSensor k f).os = s.os := rfl
@[simp] theorem State.modSensor_cmds (s : State) (k : Nat) (f : Reading → Reading) : (s.modSensor k f).cmds = s.cmds := rfl
@[simp] theorem State.modSensor_deferred (s : State) (k : Nat) (f : Reading → Reading) : (s.modSensor k f).deferred = s.deferred := rfl
@[simp] theorem State.modSensor_heldCpl (s : State) (k : Nat) (f : Reading → Reading) : (s.modSensor k f).heldCpl = s.heldCpl := rfl
@[simp] theorem State.modSensor_lastCtrl (s : State) (k : Nat) (f : Reading → Reading) : (s.modSensor k f).lastCtrl = s.lastCtrl := rfl
@[simp] theorem State.modSensor_ctrl (s : State) (k : Nat) (f : Reading → Reading) : (s.modSensor k f).ctrl = s.ctrl := rfl
@[simp] theorem State.modSensor_buf (s : State) (k : Nat) (f : Reading → Reading) : (s.modSensor k f).buf = s.buf := rfl
@[simp] theorem State.modSensor_cache (s : State) (k : Nat) (f : Reading → Reading) : (s.modSensor k f).cache = s.cache := rfl
@[simp] theorem State.modSensor_pair (s : State) (k : Nat) (f : Reading → Reading) : (s.modSensor k f).pair = s.pair := rfl
@[simp] theorem State.modSensor_casc (s : State) (k : Nat) (f : Reading → Reading) : (s.modSensor k f).casc = s.casc := rfl
@[simp] theorem State.modSensor_fw (s : State) (k : Nat) (f : Reading → Reading) : (s.modSensor k f).fw = s.fw := rfl
@[simp] theorem State.modSensor_jf (s : State) (k : Nat) (f : Reading → Reading) : (s.modSensor k f).jf = s.jf := rfl
@[simp] theorem State.modSensor_er (s : State) (k : Nat) (f : Reading → Reading) : (s.modSensor k f).er = s.er := rfl
@[simp] theorem State.modSensor_set (s : State) (k : Nat) (f : Reading → Reading) : (s.modSensor k f).set = s.set := rfl
@[simp] theorem State.modSensor_dict (s : State) (k : Nat) (f : Reading → Reading) : (s.modSensor k f).dict = s.dict := rfl
@[simp] theorem State.modSensor_fuse (s : State) (k : Nat) (f : Reading → Reading) : (s.modSensor k f).fuse = s.fuse := rfl
@[simp] theorem State.modSensor_kdapTx (s : State) (k : Nat) (f : Reading → Reading) : (s.modSensor k f).kdapTx = s.kdapTx := rfl
@[simp] theorem State.modSensor_mon (s : State) (k : Nat) (f : Reading → Reading) : (s.modSensor k f).mon = s.mon := rfl
@[simp] theorem State.modSensor_emcy (s : State) (k : Nat) (f : Reading → Reading) : (s.modSensor k f).emcy = s.emcy := rfl
@[simp] theorem State.modSensor_answers (s : State) (k : Nat) (f : Reading → Reading) : (s.modSensor k f).answers = s.answers := rfl
@[simp] theorem State.modSensor_accHeld (s : State) (k : Nat) (f : Reading → Reading) : (s.modSensor k f).accHeld = s.accHeld := rfl

/-! ## What `putCtrl` leaves alone -/

@[simp] theorem State.putCtrl_pending (s : State) (k : Nat) (v : CtrlSt) : (s.putCtrl k v).pending = s.pending := rfl
@[simp] theorem State.putCtrl_now (s : State) (k : Nat) (v : CtrlSt) : (s.putCtrl k v).now = s.now := rfl
@[simp] theorem State.putCtrl_fresh (s : State) (k : Nat) (v : CtrlSt) : (s.putCtrl k v).fresh = s.fresh := rfl
@[simp] theorem State.putCtrl_obj (s : State) (k : Nat) (v : CtrlSt) : (s.putCtrl k v).obj = s.obj := rfl
@[simp] theorem State.putCtrl_blob (s : State) (k : Nat) (v : CtrlSt) : (s.putCtrl k v).blob = s.blob := rfl
@[simp] theorem State.putCtrl_mode (s : State) (k : Nat) (v : CtrlSt) : (s.putCtrl k v).mode = s.mode := rfl
@[simp] theorem State.putCtrl_sup (s : State) (k : Nat) (v : CtrlSt) : (s.putCtrl k v).sup = s.sup := rfl
@[simp] theorem State.putCtrl_port (s : State) (k : Nat) (v : CtrlSt) : (s.putCtrl k v).port = s.port := rfl
@[simp] theorem State.putCtrl_line (s : State) (k : Nat) (v : CtrlSt) : (s.putCtrl k v).line = s.line := rfl
@[simp] theorem State.putCtrl_pn2 (s : State) (k : Nat) (v : CtrlSt) : (s.putCtrl k v).pn2 = s.pn2 := rfl
@[simp] theorem State.putCtrl_chan (s : State) (k : Nat) (v : CtrlSt) : (s.putCtrl k v).chan = s.chan := rfl
@[simp] theorem State.putCtrl_plan (s : State) (k : Nat) (v : CtrlSt) : (s.putCtrl k v).plan = s.plan := rfl
@[simp] theorem State.putCtrl_srv (s : State) (k : Nat) (v : CtrlSt) : (s.putCtrl k v).srv = s.srv := rfl
@[simp] theorem State.putCtrl_shadow (s : State) (k : Nat) (v : CtrlSt) : (s.putCtrl k v).shadow = s.shadow := rfl
@[simp] theorem State.putCtrl_spdShadow (s : State) (k : Nat) (v : CtrlSt) : (s.putCtrl k v).spdShadow = s.spdShadow := rfl
@[simp] theorem State.putCtrl_seq (s : State) (k : Nat) (v : CtrlSt) : (s.putCtrl k v).seq = s.seq := rfl
@[simp] theorem State.putCtrl_mc (s : State) (k : Nat) (v : CtrlSt) : (s.putCtrl k v).mc = s.mc := rfl
@[simp] theorem State.putCtrl_fabric (s : State) (k : Nat) (v : CtrlSt) : (s.putCtrl k v).fabric = s.fabric := rfl
@[simp] theorem State.putCtrl_fab (s : State) (k : Nat) (v : CtrlSt) : (s.putCtrl k v).fab = s.fab := rfl
@[simp] theorem State.putCtrl_dma (s : State) (k : Nat) (v : CtrlSt) : (s.putCtrl k v).dma = s.dma := rfl
@[simp] theorem State.putCtrl_raw (s : State) (k : Nat) (v : CtrlSt) : (s.putCtrl k v).raw = s.raw := rfl
@[simp] theorem State.putCtrl_spd (s : State) (k : Nat) (v : CtrlSt) : (s.putCtrl k v).spd = s.spd := rfl
@[simp] theorem State.putCtrl_sweepRef (s : State) (k : Nat) (v : CtrlSt) : (s.putCtrl k v).sweepRef = s.sweepRef := rfl
@[simp] theorem State.putCtrl_rpm (s : State) (k : Nat) (v : CtrlSt) : (s.putCtrl k v).rpm = s.rpm := rfl
@[simp] theorem State.putCtrl_hda (s : State) (k : Nat) (v : CtrlSt) : (s.putCtrl k v).hda = s.hda := rfl
@[simp] theorem State.putCtrl_sensor (s : State) (k : Nat) (v : CtrlSt) : (s.putCtrl k v).sensor = s.sensor := rfl
@[simp] theorem State.putCtrl_os (s : State) (k : Nat) (v : CtrlSt) : (s.putCtrl k v).os = s.os := rfl
@[simp] theorem State.putCtrl_cmds (s : State) (k : Nat) (v : CtrlSt) : (s.putCtrl k v).cmds = s.cmds := rfl
@[simp] theorem State.putCtrl_deferred (s : State) (k : Nat) (v : CtrlSt) : (s.putCtrl k v).deferred = s.deferred := rfl
@[simp] theorem State.putCtrl_heldCpl (s : State) (k : Nat) (v : CtrlSt) : (s.putCtrl k v).heldCpl = s.heldCpl := rfl
@[simp] theorem State.putCtrl_lastCtrl (s : State) (k : Nat) (v : CtrlSt) : (s.putCtrl k v).lastCtrl = s.lastCtrl := rfl
@[simp] theorem State.putCtrl_buf (s : State) (k : Nat) (v : CtrlSt) : (s.putCtrl k v).buf = s.buf := rfl
@[simp] theorem State.putCtrl_cache (s : State) (k : Nat) (v : CtrlSt) : (s.putCtrl k v).cache = s.cache := rfl
@[simp] theorem State.putCtrl_pair (s : State) (k : Nat) (v : CtrlSt) : (s.putCtrl k v).pair = s.pair := rfl
@[simp] theorem State.putCtrl_casc (s : State) (k : Nat) (v : CtrlSt) : (s.putCtrl k v).casc = s.casc := rfl
@[simp] theorem State.putCtrl_fw (s : State) (k : Nat) (v : CtrlSt) : (s.putCtrl k v).fw = s.fw := rfl
@[simp] theorem State.putCtrl_jf (s : State) (k : Nat) (v : CtrlSt) : (s.putCtrl k v).jf = s.jf := rfl
@[simp] theorem State.putCtrl_er (s : State) (k : Nat) (v : CtrlSt) : (s.putCtrl k v).er = s.er := rfl
@[simp] theorem State.putCtrl_set (s : State) (k : Nat) (v : CtrlSt) : (s.putCtrl k v).set = s.set := rfl
@[simp] theorem State.putCtrl_dict (s : State) (k : Nat) (v : CtrlSt) : (s.putCtrl k v).dict = s.dict := rfl
@[simp] theorem State.putCtrl_fuse (s : State) (k : Nat) (v : CtrlSt) : (s.putCtrl k v).fuse = s.fuse := rfl
@[simp] theorem State.putCtrl_kdapTx (s : State) (k : Nat) (v : CtrlSt) : (s.putCtrl k v).kdapTx = s.kdapTx := rfl
@[simp] theorem State.putCtrl_mon (s : State) (k : Nat) (v : CtrlSt) : (s.putCtrl k v).mon = s.mon := rfl
@[simp] theorem State.putCtrl_emcy (s : State) (k : Nat) (v : CtrlSt) : (s.putCtrl k v).emcy = s.emcy := rfl
@[simp] theorem State.putCtrl_answers (s : State) (k : Nat) (v : CtrlSt) : (s.putCtrl k v).answers = s.answers := rfl
@[simp] theorem State.putCtrl_accHeld (s : State) (k : Nat) (v : CtrlSt) : (s.putCtrl k v).accHeld = s.accHeld := rfl

/-! ## What `modCtrl` leaves alone -/

@[simp] theorem State.modCtrl_pending (s : State) (k : Nat) (f : CtrlSt → CtrlSt) : (s.modCtrl k f).pending = s.pending := rfl
@[simp] theorem State.modCtrl_now (s : State) (k : Nat) (f : CtrlSt → CtrlSt) : (s.modCtrl k f).now = s.now := rfl
@[simp] theorem State.modCtrl_fresh (s : State) (k : Nat) (f : CtrlSt → CtrlSt) : (s.modCtrl k f).fresh = s.fresh := rfl
@[simp] theorem State.modCtrl_obj (s : State) (k : Nat) (f : CtrlSt → CtrlSt) : (s.modCtrl k f).obj = s.obj := rfl
@[simp] theorem State.modCtrl_blob (s : State) (k : Nat) (f : CtrlSt → CtrlSt) : (s.modCtrl k f).blob = s.blob := rfl
@[simp] theorem State.modCtrl_mode (s : State) (k : Nat) (f : CtrlSt → CtrlSt) : (s.modCtrl k f).mode = s.mode := rfl
@[simp] theorem State.modCtrl_sup (s : State) (k : Nat) (f : CtrlSt → CtrlSt) : (s.modCtrl k f).sup = s.sup := rfl
@[simp] theorem State.modCtrl_port (s : State) (k : Nat) (f : CtrlSt → CtrlSt) : (s.modCtrl k f).port = s.port := rfl
@[simp] theorem State.modCtrl_line (s : State) (k : Nat) (f : CtrlSt → CtrlSt) : (s.modCtrl k f).line = s.line := rfl
@[simp] theorem State.modCtrl_pn2 (s : State) (k : Nat) (f : CtrlSt → CtrlSt) : (s.modCtrl k f).pn2 = s.pn2 := rfl
@[simp] theorem State.modCtrl_chan (s : State) (k : Nat) (f : CtrlSt → CtrlSt) : (s.modCtrl k f).chan = s.chan := rfl
@[simp] theorem State.modCtrl_plan (s : State) (k : Nat) (f : CtrlSt → CtrlSt) : (s.modCtrl k f).plan = s.plan := rfl
@[simp] theorem State.modCtrl_srv (s : State) (k : Nat) (f : CtrlSt → CtrlSt) : (s.modCtrl k f).srv = s.srv := rfl
@[simp] theorem State.modCtrl_shadow (s : State) (k : Nat) (f : CtrlSt → CtrlSt) : (s.modCtrl k f).shadow = s.shadow := rfl
@[simp] theorem State.modCtrl_spdShadow (s : State) (k : Nat) (f : CtrlSt → CtrlSt) : (s.modCtrl k f).spdShadow = s.spdShadow := rfl
@[simp] theorem State.modCtrl_seq (s : State) (k : Nat) (f : CtrlSt → CtrlSt) : (s.modCtrl k f).seq = s.seq := rfl
@[simp] theorem State.modCtrl_mc (s : State) (k : Nat) (f : CtrlSt → CtrlSt) : (s.modCtrl k f).mc = s.mc := rfl
@[simp] theorem State.modCtrl_fabric (s : State) (k : Nat) (f : CtrlSt → CtrlSt) : (s.modCtrl k f).fabric = s.fabric := rfl
@[simp] theorem State.modCtrl_fab (s : State) (k : Nat) (f : CtrlSt → CtrlSt) : (s.modCtrl k f).fab = s.fab := rfl
@[simp] theorem State.modCtrl_dma (s : State) (k : Nat) (f : CtrlSt → CtrlSt) : (s.modCtrl k f).dma = s.dma := rfl
@[simp] theorem State.modCtrl_raw (s : State) (k : Nat) (f : CtrlSt → CtrlSt) : (s.modCtrl k f).raw = s.raw := rfl
@[simp] theorem State.modCtrl_spd (s : State) (k : Nat) (f : CtrlSt → CtrlSt) : (s.modCtrl k f).spd = s.spd := rfl
@[simp] theorem State.modCtrl_sweepRef (s : State) (k : Nat) (f : CtrlSt → CtrlSt) : (s.modCtrl k f).sweepRef = s.sweepRef := rfl
@[simp] theorem State.modCtrl_rpm (s : State) (k : Nat) (f : CtrlSt → CtrlSt) : (s.modCtrl k f).rpm = s.rpm := rfl
@[simp] theorem State.modCtrl_hda (s : State) (k : Nat) (f : CtrlSt → CtrlSt) : (s.modCtrl k f).hda = s.hda := rfl
@[simp] theorem State.modCtrl_sensor (s : State) (k : Nat) (f : CtrlSt → CtrlSt) : (s.modCtrl k f).sensor = s.sensor := rfl
@[simp] theorem State.modCtrl_os (s : State) (k : Nat) (f : CtrlSt → CtrlSt) : (s.modCtrl k f).os = s.os := rfl
@[simp] theorem State.modCtrl_cmds (s : State) (k : Nat) (f : CtrlSt → CtrlSt) : (s.modCtrl k f).cmds = s.cmds := rfl
@[simp] theorem State.modCtrl_deferred (s : State) (k : Nat) (f : CtrlSt → CtrlSt) : (s.modCtrl k f).deferred = s.deferred := rfl
@[simp] theorem State.modCtrl_heldCpl (s : State) (k : Nat) (f : CtrlSt → CtrlSt) : (s.modCtrl k f).heldCpl = s.heldCpl := rfl
@[simp] theorem State.modCtrl_lastCtrl (s : State) (k : Nat) (f : CtrlSt → CtrlSt) : (s.modCtrl k f).lastCtrl = s.lastCtrl := rfl
@[simp] theorem State.modCtrl_buf (s : State) (k : Nat) (f : CtrlSt → CtrlSt) : (s.modCtrl k f).buf = s.buf := rfl
@[simp] theorem State.modCtrl_cache (s : State) (k : Nat) (f : CtrlSt → CtrlSt) : (s.modCtrl k f).cache = s.cache := rfl
@[simp] theorem State.modCtrl_pair (s : State) (k : Nat) (f : CtrlSt → CtrlSt) : (s.modCtrl k f).pair = s.pair := rfl
@[simp] theorem State.modCtrl_casc (s : State) (k : Nat) (f : CtrlSt → CtrlSt) : (s.modCtrl k f).casc = s.casc := rfl
@[simp] theorem State.modCtrl_fw (s : State) (k : Nat) (f : CtrlSt → CtrlSt) : (s.modCtrl k f).fw = s.fw := rfl
@[simp] theorem State.modCtrl_jf (s : State) (k : Nat) (f : CtrlSt → CtrlSt) : (s.modCtrl k f).jf = s.jf := rfl
@[simp] theorem State.modCtrl_er (s : State) (k : Nat) (f : CtrlSt → CtrlSt) : (s.modCtrl k f).er = s.er := rfl
@[simp] theorem State.modCtrl_set (s : State) (k : Nat) (f : CtrlSt → CtrlSt) : (s.modCtrl k f).set = s.set := rfl
@[simp] theorem State.modCtrl_dict (s : State) (k : Nat) (f : CtrlSt → CtrlSt) : (s.modCtrl k f).dict = s.dict := rfl
@[simp] theorem State.modCtrl_fuse (s : State) (k : Nat) (f : CtrlSt → CtrlSt) : (s.modCtrl k f).fuse = s.fuse := rfl
@[simp] theorem State.modCtrl_kdapTx (s : State) (k : Nat) (f : CtrlSt → CtrlSt) : (s.modCtrl k f).kdapTx = s.kdapTx := rfl
@[simp] theorem State.modCtrl_mon (s : State) (k : Nat) (f : CtrlSt → CtrlSt) : (s.modCtrl k f).mon = s.mon := rfl
@[simp] theorem State.modCtrl_emcy (s : State) (k : Nat) (f : CtrlSt → CtrlSt) : (s.modCtrl k f).emcy = s.emcy := rfl
@[simp] theorem State.modCtrl_answers (s : State) (k : Nat) (f : CtrlSt → CtrlSt) : (s.modCtrl k f).answers = s.answers := rfl
@[simp] theorem State.modCtrl_accHeld (s : State) (k : Nat) (f : CtrlSt → CtrlSt) : (s.modCtrl k f).accHeld = s.accHeld := rfl

/-! ## What `putBuf` leaves alone -/

@[simp] theorem State.putBuf_pending (s : State) (k : Nat) (v : BufSt) : (s.putBuf k v).pending = s.pending := rfl
@[simp] theorem State.putBuf_now (s : State) (k : Nat) (v : BufSt) : (s.putBuf k v).now = s.now := rfl
@[simp] theorem State.putBuf_fresh (s : State) (k : Nat) (v : BufSt) : (s.putBuf k v).fresh = s.fresh := rfl
@[simp] theorem State.putBuf_obj (s : State) (k : Nat) (v : BufSt) : (s.putBuf k v).obj = s.obj := rfl
@[simp] theorem State.putBuf_blob (s : State) (k : Nat) (v : BufSt) : (s.putBuf k v).blob = s.blob := rfl
@[simp] theorem State.putBuf_mode (s : State) (k : Nat) (v : BufSt) : (s.putBuf k v).mode = s.mode := rfl
@[simp] theorem State.putBuf_sup (s : State) (k : Nat) (v : BufSt) : (s.putBuf k v).sup = s.sup := rfl
@[simp] theorem State.putBuf_port (s : State) (k : Nat) (v : BufSt) : (s.putBuf k v).port = s.port := rfl
@[simp] theorem State.putBuf_line (s : State) (k : Nat) (v : BufSt) : (s.putBuf k v).line = s.line := rfl
@[simp] theorem State.putBuf_pn2 (s : State) (k : Nat) (v : BufSt) : (s.putBuf k v).pn2 = s.pn2 := rfl
@[simp] theorem State.putBuf_chan (s : State) (k : Nat) (v : BufSt) : (s.putBuf k v).chan = s.chan := rfl
@[simp] theorem State.putBuf_plan (s : State) (k : Nat) (v : BufSt) : (s.putBuf k v).plan = s.plan := rfl
@[simp] theorem State.putBuf_srv (s : State) (k : Nat) (v : BufSt) : (s.putBuf k v).srv = s.srv := rfl
@[simp] theorem State.putBuf_shadow (s : State) (k : Nat) (v : BufSt) : (s.putBuf k v).shadow = s.shadow := rfl
@[simp] theorem State.putBuf_spdShadow (s : State) (k : Nat) (v : BufSt) : (s.putBuf k v).spdShadow = s.spdShadow := rfl
@[simp] theorem State.putBuf_seq (s : State) (k : Nat) (v : BufSt) : (s.putBuf k v).seq = s.seq := rfl
@[simp] theorem State.putBuf_mc (s : State) (k : Nat) (v : BufSt) : (s.putBuf k v).mc = s.mc := rfl
@[simp] theorem State.putBuf_fabric (s : State) (k : Nat) (v : BufSt) : (s.putBuf k v).fabric = s.fabric := rfl
@[simp] theorem State.putBuf_fab (s : State) (k : Nat) (v : BufSt) : (s.putBuf k v).fab = s.fab := rfl
@[simp] theorem State.putBuf_dma (s : State) (k : Nat) (v : BufSt) : (s.putBuf k v).dma = s.dma := rfl
@[simp] theorem State.putBuf_raw (s : State) (k : Nat) (v : BufSt) : (s.putBuf k v).raw = s.raw := rfl
@[simp] theorem State.putBuf_spd (s : State) (k : Nat) (v : BufSt) : (s.putBuf k v).spd = s.spd := rfl
@[simp] theorem State.putBuf_sweepRef (s : State) (k : Nat) (v : BufSt) : (s.putBuf k v).sweepRef = s.sweepRef := rfl
@[simp] theorem State.putBuf_rpm (s : State) (k : Nat) (v : BufSt) : (s.putBuf k v).rpm = s.rpm := rfl
@[simp] theorem State.putBuf_hda (s : State) (k : Nat) (v : BufSt) : (s.putBuf k v).hda = s.hda := rfl
@[simp] theorem State.putBuf_sensor (s : State) (k : Nat) (v : BufSt) : (s.putBuf k v).sensor = s.sensor := rfl
@[simp] theorem State.putBuf_os (s : State) (k : Nat) (v : BufSt) : (s.putBuf k v).os = s.os := rfl
@[simp] theorem State.putBuf_cmds (s : State) (k : Nat) (v : BufSt) : (s.putBuf k v).cmds = s.cmds := rfl
@[simp] theorem State.putBuf_deferred (s : State) (k : Nat) (v : BufSt) : (s.putBuf k v).deferred = s.deferred := rfl
@[simp] theorem State.putBuf_heldCpl (s : State) (k : Nat) (v : BufSt) : (s.putBuf k v).heldCpl = s.heldCpl := rfl
@[simp] theorem State.putBuf_lastCtrl (s : State) (k : Nat) (v : BufSt) : (s.putBuf k v).lastCtrl = s.lastCtrl := rfl
@[simp] theorem State.putBuf_ctrl (s : State) (k : Nat) (v : BufSt) : (s.putBuf k v).ctrl = s.ctrl := rfl
@[simp] theorem State.putBuf_cache (s : State) (k : Nat) (v : BufSt) : (s.putBuf k v).cache = s.cache := rfl
@[simp] theorem State.putBuf_pair (s : State) (k : Nat) (v : BufSt) : (s.putBuf k v).pair = s.pair := rfl
@[simp] theorem State.putBuf_casc (s : State) (k : Nat) (v : BufSt) : (s.putBuf k v).casc = s.casc := rfl
@[simp] theorem State.putBuf_fw (s : State) (k : Nat) (v : BufSt) : (s.putBuf k v).fw = s.fw := rfl
@[simp] theorem State.putBuf_jf (s : State) (k : Nat) (v : BufSt) : (s.putBuf k v).jf = s.jf := rfl
@[simp] theorem State.putBuf_er (s : State) (k : Nat) (v : BufSt) : (s.putBuf k v).er = s.er := rfl
@[simp] theorem State.putBuf_set (s : State) (k : Nat) (v : BufSt) : (s.putBuf k v).set = s.set := rfl
@[simp] theorem State.putBuf_dict (s : State) (k : Nat) (v : BufSt) : (s.putBuf k v).dict = s.dict := rfl
@[simp] theorem State.putBuf_fuse (s : State) (k : Nat) (v : BufSt) : (s.putBuf k v).fuse = s.fuse := rfl
@[simp] theorem State.putBuf_kdapTx (s : State) (k : Nat) (v : BufSt) : (s.putBuf k v).kdapTx = s.kdapTx := rfl
@[simp] theorem State.putBuf_mon (s : State) (k : Nat) (v : BufSt) : (s.putBuf k v).mon = s.mon := rfl
@[simp] theorem State.putBuf_emcy (s : State) (k : Nat) (v : BufSt) : (s.putBuf k v).emcy = s.emcy := rfl
@[simp] theorem State.putBuf_answers (s : State) (k : Nat) (v : BufSt) : (s.putBuf k v).answers = s.answers := rfl
@[simp] theorem State.putBuf_accHeld (s : State) (k : Nat) (v : BufSt) : (s.putBuf k v).accHeld = s.accHeld := rfl

/-! ## What `modBuf` leaves alone -/

@[simp] theorem State.modBuf_pending (s : State) (k : Nat) (f : BufSt → BufSt) : (s.modBuf k f).pending = s.pending := rfl
@[simp] theorem State.modBuf_now (s : State) (k : Nat) (f : BufSt → BufSt) : (s.modBuf k f).now = s.now := rfl
@[simp] theorem State.modBuf_fresh (s : State) (k : Nat) (f : BufSt → BufSt) : (s.modBuf k f).fresh = s.fresh := rfl
@[simp] theorem State.modBuf_obj (s : State) (k : Nat) (f : BufSt → BufSt) : (s.modBuf k f).obj = s.obj := rfl
@[simp] theorem State.modBuf_blob (s : State) (k : Nat) (f : BufSt → BufSt) : (s.modBuf k f).blob = s.blob := rfl
@[simp] theorem State.modBuf_mode (s : State) (k : Nat) (f : BufSt → BufSt) : (s.modBuf k f).mode = s.mode := rfl
@[simp] theorem State.modBuf_sup (s : State) (k : Nat) (f : BufSt → BufSt) : (s.modBuf k f).sup = s.sup := rfl
@[simp] theorem State.modBuf_port (s : State) (k : Nat) (f : BufSt → BufSt) : (s.modBuf k f).port = s.port := rfl
@[simp] theorem State.modBuf_line (s : State) (k : Nat) (f : BufSt → BufSt) : (s.modBuf k f).line = s.line := rfl
@[simp] theorem State.modBuf_pn2 (s : State) (k : Nat) (f : BufSt → BufSt) : (s.modBuf k f).pn2 = s.pn2 := rfl
@[simp] theorem State.modBuf_chan (s : State) (k : Nat) (f : BufSt → BufSt) : (s.modBuf k f).chan = s.chan := rfl
@[simp] theorem State.modBuf_plan (s : State) (k : Nat) (f : BufSt → BufSt) : (s.modBuf k f).plan = s.plan := rfl
@[simp] theorem State.modBuf_srv (s : State) (k : Nat) (f : BufSt → BufSt) : (s.modBuf k f).srv = s.srv := rfl
@[simp] theorem State.modBuf_shadow (s : State) (k : Nat) (f : BufSt → BufSt) : (s.modBuf k f).shadow = s.shadow := rfl
@[simp] theorem State.modBuf_spdShadow (s : State) (k : Nat) (f : BufSt → BufSt) : (s.modBuf k f).spdShadow = s.spdShadow := rfl
@[simp] theorem State.modBuf_seq (s : State) (k : Nat) (f : BufSt → BufSt) : (s.modBuf k f).seq = s.seq := rfl
@[simp] theorem State.modBuf_mc (s : State) (k : Nat) (f : BufSt → BufSt) : (s.modBuf k f).mc = s.mc := rfl
@[simp] theorem State.modBuf_fabric (s : State) (k : Nat) (f : BufSt → BufSt) : (s.modBuf k f).fabric = s.fabric := rfl
@[simp] theorem State.modBuf_fab (s : State) (k : Nat) (f : BufSt → BufSt) : (s.modBuf k f).fab = s.fab := rfl
@[simp] theorem State.modBuf_dma (s : State) (k : Nat) (f : BufSt → BufSt) : (s.modBuf k f).dma = s.dma := rfl
@[simp] theorem State.modBuf_raw (s : State) (k : Nat) (f : BufSt → BufSt) : (s.modBuf k f).raw = s.raw := rfl
@[simp] theorem State.modBuf_spd (s : State) (k : Nat) (f : BufSt → BufSt) : (s.modBuf k f).spd = s.spd := rfl
@[simp] theorem State.modBuf_sweepRef (s : State) (k : Nat) (f : BufSt → BufSt) : (s.modBuf k f).sweepRef = s.sweepRef := rfl
@[simp] theorem State.modBuf_rpm (s : State) (k : Nat) (f : BufSt → BufSt) : (s.modBuf k f).rpm = s.rpm := rfl
@[simp] theorem State.modBuf_hda (s : State) (k : Nat) (f : BufSt → BufSt) : (s.modBuf k f).hda = s.hda := rfl
@[simp] theorem State.modBuf_sensor (s : State) (k : Nat) (f : BufSt → BufSt) : (s.modBuf k f).sensor = s.sensor := rfl
@[simp] theorem State.modBuf_os (s : State) (k : Nat) (f : BufSt → BufSt) : (s.modBuf k f).os = s.os := rfl
@[simp] theorem State.modBuf_cmds (s : State) (k : Nat) (f : BufSt → BufSt) : (s.modBuf k f).cmds = s.cmds := rfl
@[simp] theorem State.modBuf_deferred (s : State) (k : Nat) (f : BufSt → BufSt) : (s.modBuf k f).deferred = s.deferred := rfl
@[simp] theorem State.modBuf_heldCpl (s : State) (k : Nat) (f : BufSt → BufSt) : (s.modBuf k f).heldCpl = s.heldCpl := rfl
@[simp] theorem State.modBuf_lastCtrl (s : State) (k : Nat) (f : BufSt → BufSt) : (s.modBuf k f).lastCtrl = s.lastCtrl := rfl
@[simp] theorem State.modBuf_ctrl (s : State) (k : Nat) (f : BufSt → BufSt) : (s.modBuf k f).ctrl = s.ctrl := rfl
@[simp] theorem State.modBuf_cache (s : State) (k : Nat) (f : BufSt → BufSt) : (s.modBuf k f).cache = s.cache := rfl
@[simp] theorem State.modBuf_pair (s : State) (k : Nat) (f : BufSt → BufSt) : (s.modBuf k f).pair = s.pair := rfl
@[simp] theorem State.modBuf_casc (s : State) (k : Nat) (f : BufSt → BufSt) : (s.modBuf k f).casc = s.casc := rfl
@[simp] theorem State.modBuf_fw (s : State) (k : Nat) (f : BufSt → BufSt) : (s.modBuf k f).fw = s.fw := rfl
@[simp] theorem State.modBuf_jf (s : State) (k : Nat) (f : BufSt → BufSt) : (s.modBuf k f).jf = s.jf := rfl
@[simp] theorem State.modBuf_er (s : State) (k : Nat) (f : BufSt → BufSt) : (s.modBuf k f).er = s.er := rfl
@[simp] theorem State.modBuf_set (s : State) (k : Nat) (f : BufSt → BufSt) : (s.modBuf k f).set = s.set := rfl
@[simp] theorem State.modBuf_dict (s : State) (k : Nat) (f : BufSt → BufSt) : (s.modBuf k f).dict = s.dict := rfl
@[simp] theorem State.modBuf_fuse (s : State) (k : Nat) (f : BufSt → BufSt) : (s.modBuf k f).fuse = s.fuse := rfl
@[simp] theorem State.modBuf_kdapTx (s : State) (k : Nat) (f : BufSt → BufSt) : (s.modBuf k f).kdapTx = s.kdapTx := rfl
@[simp] theorem State.modBuf_mon (s : State) (k : Nat) (f : BufSt → BufSt) : (s.modBuf k f).mon = s.mon := rfl
@[simp] theorem State.modBuf_emcy (s : State) (k : Nat) (f : BufSt → BufSt) : (s.modBuf k f).emcy = s.emcy := rfl
@[simp] theorem State.modBuf_answers (s : State) (k : Nat) (f : BufSt → BufSt) : (s.modBuf k f).answers = s.answers := rfl
@[simp] theorem State.modBuf_accHeld (s : State) (k : Nat) (f : BufSt → BufSt) : (s.modBuf k f).accHeld = s.accHeld := rfl

/-! ## What `putCache` leaves alone -/

@[simp] theorem State.putCache_pending (s : State) (k : Nat) (v : CacheSt) : (s.putCache k v).pending = s.pending := rfl
@[simp] theorem State.putCache_now (s : State) (k : Nat) (v : CacheSt) : (s.putCache k v).now = s.now := rfl
@[simp] theorem State.putCache_fresh (s : State) (k : Nat) (v : CacheSt) : (s.putCache k v).fresh = s.fresh := rfl
@[simp] theorem State.putCache_obj (s : State) (k : Nat) (v : CacheSt) : (s.putCache k v).obj = s.obj := rfl
@[simp] theorem State.putCache_blob (s : State) (k : Nat) (v : CacheSt) : (s.putCache k v).blob = s.blob := rfl
@[simp] theorem State.putCache_mode (s : State) (k : Nat) (v : CacheSt) : (s.putCache k v).mode = s.mode := rfl
@[simp] theorem State.putCache_sup (s : State) (k : Nat) (v : CacheSt) : (s.putCache k v).sup = s.sup := rfl
@[simp] theorem State.putCache_port (s : State) (k : Nat) (v : CacheSt) : (s.putCache k v).port = s.port := rfl
@[simp] theorem State.putCache_line (s : State) (k : Nat) (v : CacheSt) : (s.putCache k v).line = s.line := rfl
@[simp] theorem State.putCache_pn2 (s : State) (k : Nat) (v : CacheSt) : (s.putCache k v).pn2 = s.pn2 := rfl
@[simp] theorem State.putCache_chan (s : State) (k : Nat) (v : CacheSt) : (s.putCache k v).chan = s.chan := rfl
@[simp] theorem State.putCache_plan (s : State) (k : Nat) (v : CacheSt) : (s.putCache k v).plan = s.plan := rfl
@[simp] theorem State.putCache_srv (s : State) (k : Nat) (v : CacheSt) : (s.putCache k v).srv = s.srv := rfl
@[simp] theorem State.putCache_shadow (s : State) (k : Nat) (v : CacheSt) : (s.putCache k v).shadow = s.shadow := rfl
@[simp] theorem State.putCache_spdShadow (s : State) (k : Nat) (v : CacheSt) : (s.putCache k v).spdShadow = s.spdShadow := rfl
@[simp] theorem State.putCache_seq (s : State) (k : Nat) (v : CacheSt) : (s.putCache k v).seq = s.seq := rfl
@[simp] theorem State.putCache_mc (s : State) (k : Nat) (v : CacheSt) : (s.putCache k v).mc = s.mc := rfl
@[simp] theorem State.putCache_fabric (s : State) (k : Nat) (v : CacheSt) : (s.putCache k v).fabric = s.fabric := rfl
@[simp] theorem State.putCache_fab (s : State) (k : Nat) (v : CacheSt) : (s.putCache k v).fab = s.fab := rfl
@[simp] theorem State.putCache_dma (s : State) (k : Nat) (v : CacheSt) : (s.putCache k v).dma = s.dma := rfl
@[simp] theorem State.putCache_raw (s : State) (k : Nat) (v : CacheSt) : (s.putCache k v).raw = s.raw := rfl
@[simp] theorem State.putCache_spd (s : State) (k : Nat) (v : CacheSt) : (s.putCache k v).spd = s.spd := rfl
@[simp] theorem State.putCache_sweepRef (s : State) (k : Nat) (v : CacheSt) : (s.putCache k v).sweepRef = s.sweepRef := rfl
@[simp] theorem State.putCache_rpm (s : State) (k : Nat) (v : CacheSt) : (s.putCache k v).rpm = s.rpm := rfl
@[simp] theorem State.putCache_hda (s : State) (k : Nat) (v : CacheSt) : (s.putCache k v).hda = s.hda := rfl
@[simp] theorem State.putCache_sensor (s : State) (k : Nat) (v : CacheSt) : (s.putCache k v).sensor = s.sensor := rfl
@[simp] theorem State.putCache_os (s : State) (k : Nat) (v : CacheSt) : (s.putCache k v).os = s.os := rfl
@[simp] theorem State.putCache_cmds (s : State) (k : Nat) (v : CacheSt) : (s.putCache k v).cmds = s.cmds := rfl
@[simp] theorem State.putCache_deferred (s : State) (k : Nat) (v : CacheSt) : (s.putCache k v).deferred = s.deferred := rfl
@[simp] theorem State.putCache_heldCpl (s : State) (k : Nat) (v : CacheSt) : (s.putCache k v).heldCpl = s.heldCpl := rfl
@[simp] theorem State.putCache_lastCtrl (s : State) (k : Nat) (v : CacheSt) : (s.putCache k v).lastCtrl = s.lastCtrl := rfl
@[simp] theorem State.putCache_ctrl (s : State) (k : Nat) (v : CacheSt) : (s.putCache k v).ctrl = s.ctrl := rfl
@[simp] theorem State.putCache_buf (s : State) (k : Nat) (v : CacheSt) : (s.putCache k v).buf = s.buf := rfl
@[simp] theorem State.putCache_pair (s : State) (k : Nat) (v : CacheSt) : (s.putCache k v).pair = s.pair := rfl
@[simp] theorem State.putCache_casc (s : State) (k : Nat) (v : CacheSt) : (s.putCache k v).casc = s.casc := rfl
@[simp] theorem State.putCache_fw (s : State) (k : Nat) (v : CacheSt) : (s.putCache k v).fw = s.fw := rfl
@[simp] theorem State.putCache_jf (s : State) (k : Nat) (v : CacheSt) : (s.putCache k v).jf = s.jf := rfl
@[simp] theorem State.putCache_er (s : State) (k : Nat) (v : CacheSt) : (s.putCache k v).er = s.er := rfl
@[simp] theorem State.putCache_set (s : State) (k : Nat) (v : CacheSt) : (s.putCache k v).set = s.set := rfl
@[simp] theorem State.putCache_dict (s : State) (k : Nat) (v : CacheSt) : (s.putCache k v).dict = s.dict := rfl
@[simp] theorem State.putCache_fuse (s : State) (k : Nat) (v : CacheSt) : (s.putCache k v).fuse = s.fuse := rfl
@[simp] theorem State.putCache_kdapTx (s : State) (k : Nat) (v : CacheSt) : (s.putCache k v).kdapTx = s.kdapTx := rfl
@[simp] theorem State.putCache_mon (s : State) (k : Nat) (v : CacheSt) : (s.putCache k v).mon = s.mon := rfl
@[simp] theorem State.putCache_emcy (s : State) (k : Nat) (v : CacheSt) : (s.putCache k v).emcy = s.emcy := rfl
@[simp] theorem State.putCache_answers (s : State) (k : Nat) (v : CacheSt) : (s.putCache k v).answers = s.answers := rfl
@[simp] theorem State.putCache_accHeld (s : State) (k : Nat) (v : CacheSt) : (s.putCache k v).accHeld = s.accHeld := rfl

/-! ## What `modCache` leaves alone -/

@[simp] theorem State.modCache_pending (s : State) (k : Nat) (f : CacheSt → CacheSt) : (s.modCache k f).pending = s.pending := rfl
@[simp] theorem State.modCache_now (s : State) (k : Nat) (f : CacheSt → CacheSt) : (s.modCache k f).now = s.now := rfl
@[simp] theorem State.modCache_fresh (s : State) (k : Nat) (f : CacheSt → CacheSt) : (s.modCache k f).fresh = s.fresh := rfl
@[simp] theorem State.modCache_obj (s : State) (k : Nat) (f : CacheSt → CacheSt) : (s.modCache k f).obj = s.obj := rfl
@[simp] theorem State.modCache_blob (s : State) (k : Nat) (f : CacheSt → CacheSt) : (s.modCache k f).blob = s.blob := rfl
@[simp] theorem State.modCache_mode (s : State) (k : Nat) (f : CacheSt → CacheSt) : (s.modCache k f).mode = s.mode := rfl
@[simp] theorem State.modCache_sup (s : State) (k : Nat) (f : CacheSt → CacheSt) : (s.modCache k f).sup = s.sup := rfl
@[simp] theorem State.modCache_port (s : State) (k : Nat) (f : CacheSt → CacheSt) : (s.modCache k f).port = s.port := rfl
@[simp] theorem State.modCache_line (s : State) (k : Nat) (f : CacheSt → CacheSt) : (s.modCache k f).line = s.line := rfl
@[simp] theorem State.modCache_pn2 (s : State) (k : Nat) (f : CacheSt → CacheSt) : (s.modCache k f).pn2 = s.pn2 := rfl
@[simp] theorem State.modCache_chan (s : State) (k : Nat) (f : CacheSt → CacheSt) : (s.modCache k f).chan = s.chan := rfl
@[simp] theorem State.modCache_plan (s : State) (k : Nat) (f : CacheSt → CacheSt) : (s.modCache k f).plan = s.plan := rfl
@[simp] theorem State.modCache_srv (s : State) (k : Nat) (f : CacheSt → CacheSt) : (s.modCache k f).srv = s.srv := rfl
@[simp] theorem State.modCache_shadow (s : State) (k : Nat) (f : CacheSt → CacheSt) : (s.modCache k f).shadow = s.shadow := rfl
@[simp] theorem State.modCache_spdShadow (s : State) (k : Nat) (f : CacheSt → CacheSt) : (s.modCache k f).spdShadow = s.spdShadow := rfl
@[simp] theorem State.modCache_seq (s : State) (k : Nat) (f : CacheSt → CacheSt) : (s.modCache k f).seq = s.seq := rfl
@[simp] theorem State.modCache_mc (s : State) (k : Nat) (f : CacheSt → CacheSt) : (s.modCache k f).mc = s.mc := rfl
@[simp] theorem State.modCache_fabric (s : State) (k : Nat) (f : CacheSt → CacheSt) : (s.modCache k f).fabric = s.fabric := rfl
@[simp] theorem State.modCache_fab (s : State) (k : Nat) (f : CacheSt → CacheSt) : (s.modCache k f).fab = s.fab := rfl
@[simp] theorem State.modCache_dma (s : State) (k : Nat) (f : CacheSt → CacheSt) : (s.modCache k f).dma = s.dma := rfl
@[simp] theorem State.modCache_raw (s : State) (k : Nat) (f : CacheSt → CacheSt) : (s.modCache k f).raw = s.raw := rfl
@[simp] theorem State.modCache_spd (s : State) (k : Nat) (f : CacheSt → CacheSt) : (s.modCache k f).spd = s.spd := rfl
@[simp] theorem State.modCache_sweepRef (s : State) (k : Nat) (f : CacheSt → CacheSt) : (s.modCache k f).sweepRef = s.sweepRef := rfl
@[simp] theorem State.modCache_rpm (s : State) (k : Nat) (f : CacheSt → CacheSt) : (s.modCache k f).rpm = s.rpm := rfl
@[simp] theorem State.modCache_hda (s : State) (k : Nat) (f : CacheSt → CacheSt) : (s.modCache k f).hda = s.hda := rfl
@[simp] theorem State.modCache_sensor (s : State) (k : Nat) (f : CacheSt → CacheSt) : (s.modCache k f).sensor = s.sensor := rfl
@[simp] theorem State.modCache_os (s : State) (k : Nat) (f : CacheSt → CacheSt) : (s.modCache k f).os = s.os := rfl
@[simp] theorem State.modCache_cmds (s : State) (k : Nat) (f : CacheSt → CacheSt) : (s.modCache k f).cmds = s.cmds := rfl
@[simp] theorem State.modCache_deferred (s : State) (k : Nat) (f : CacheSt → CacheSt) : (s.modCache k f).deferred = s.deferred := rfl
@[simp] theorem State.modCache_heldCpl (s : State) (k : Nat) (f : CacheSt → CacheSt) : (s.modCache k f).heldCpl = s.heldCpl := rfl
@[simp] theorem State.modCache_lastCtrl (s : State) (k : Nat) (f : CacheSt → CacheSt) : (s.modCache k f).lastCtrl = s.lastCtrl := rfl
@[simp] theorem State.modCache_ctrl (s : State) (k : Nat) (f : CacheSt → CacheSt) : (s.modCache k f).ctrl = s.ctrl := rfl
@[simp] theorem State.modCache_buf (s : State) (k : Nat) (f : CacheSt → CacheSt) : (s.modCache k f).buf = s.buf := rfl
@[simp] theorem State.modCache_pair (s : State) (k : Nat) (f : CacheSt → CacheSt) : (s.modCache k f).pair = s.pair := rfl
@[simp] theorem State.modCache_casc (s : State) (k : Nat) (f : CacheSt → CacheSt) : (s.modCache k f).casc = s.casc := rfl
@[simp] theorem State.modCache_fw (s : State) (k : Nat) (f : CacheSt → CacheSt) : (s.modCache k f).fw = s.fw := rfl
@[simp] theorem State.modCache_jf (s : State) (k : Nat) (f : CacheSt → CacheSt) : (s.modCache k f).jf = s.jf := rfl
@[simp] theorem State.modCache_er (s : State) (k : Nat) (f : CacheSt → CacheSt) : (s.modCache k f).er = s.er := rfl
@[simp] theorem State.modCache_set (s : State) (k : Nat) (f : CacheSt → CacheSt) : (s.modCache k f).set = s.set := rfl
@[simp] theorem State.modCache_dict (s : State) (k : Nat) (f : CacheSt → CacheSt) : (s.modCache k f).dict = s.dict := rfl
@[simp] theorem State.modCache_fuse (s : State) (k : Nat) (f : CacheSt → CacheSt) : (s.modCache k f).fuse = s.fuse := rfl
@[simp] theorem State.modCache_kdapTx (s : State) (k : Nat) (f : CacheSt → CacheSt) : (s.modCache k f).kdapTx = s.kdapTx := rfl
@[simp] theorem State.modCache_mon (s : State) (k : Nat) (f : CacheSt → CacheSt) : (s.modCache k f).mon = s.mon := rfl
@[simp] theorem State.modCache_emcy (s : State) (k : Nat) (f : CacheSt → CacheSt) : (s.modCache k f).emcy = s.emcy := rfl
@[simp] theorem State.modCache_answers (s : State) (k : Nat) (f : CacheSt → CacheSt) : (s.modCache k f).answers = s.answers := rfl
@[simp] theorem State.modCache_accHeld (s : State) (k : Nat) (f : CacheSt → CacheSt) : (s.modCache k f).accHeld = s.accHeld := rfl

/-! ## What `putFw` leaves alone -/

@[simp] theorem State.putFw_pending (s : State) (k : Nat) (v : FwSt) : (s.putFw k v).pending = s.pending := rfl
@[simp] theorem State.putFw_now (s : State) (k : Nat) (v : FwSt) : (s.putFw k v).now = s.now := rfl
@[simp] theorem State.putFw_fresh (s : State) (k : Nat) (v : FwSt) : (s.putFw k v).fresh = s.fresh := rfl
@[simp] theorem State.putFw_obj (s : State) (k : Nat) (v : FwSt) : (s.putFw k v).obj = s.obj := rfl
@[simp] theorem State.putFw_blob (s : State) (k : Nat) (v : FwSt) : (s.putFw k v).blob = s.blob := rfl
@[simp] theorem State.putFw_mode (s : State) (k : Nat) (v : FwSt) : (s.putFw k v).mode = s.mode := rfl
@[simp] theorem State.putFw_sup (s : State) (k : Nat) (v : FwSt) : (s.putFw k v).sup = s.sup := rfl
@[simp] theorem State.putFw_port (s : State) (k : Nat) (v : FwSt) : (s.putFw k v).port = s.port := rfl
@[simp] theorem State.putFw_line (s : State) (k : Nat) (v : FwSt) : (s.putFw k v).line = s.line := rfl
@[simp] theorem State.putFw_pn2 (s : State) (k : Nat) (v : FwSt) : (s.putFw k v).pn2 = s.pn2 := rfl
@[simp] theorem State.putFw_chan (s : State) (k : Nat) (v : FwSt) : (s.putFw k v).chan = s.chan := rfl
@[simp] theorem State.putFw_plan (s : State) (k : Nat) (v : FwSt) : (s.putFw k v).plan = s.plan := rfl
@[simp] theorem State.putFw_srv (s : State) (k : Nat) (v : FwSt) : (s.putFw k v).srv = s.srv := rfl
@[simp] theorem State.putFw_shadow (s : State) (k : Nat) (v : FwSt) : (s.putFw k v).shadow = s.shadow := rfl
@[simp] theorem State.putFw_spdShadow (s : State) (k : Nat) (v : FwSt) : (s.putFw k v).spdShadow = s.spdShadow := rfl
@[simp] theorem State.putFw_seq (s : State) (k : Nat) (v : FwSt) : (s.putFw k v).seq = s.seq := rfl
@[simp] theorem State.putFw_mc (s : State) (k : Nat) (v : FwSt) : (s.putFw k v).mc = s.mc := rfl
@[simp] theorem State.putFw_fabric (s : State) (k : Nat) (v : FwSt) : (s.putFw k v).fabric = s.fabric := rfl
@[simp] theorem State.putFw_fab (s : State) (k : Nat) (v : FwSt) : (s.putFw k v).fab = s.fab := rfl
@[simp] theorem State.putFw_dma (s : State) (k : Nat) (v : FwSt) : (s.putFw k v).dma = s.dma := rfl
@[simp] theorem State.putFw_raw (s : State) (k : Nat) (v : FwSt) : (s.putFw k v).raw = s.raw := rfl
@[simp] theorem State.putFw_spd (s : State) (k : Nat) (v : FwSt) : (s.putFw k v).spd = s.spd := rfl
@[simp] theorem State.putFw_sweepRef (s : State) (k : Nat) (v : FwSt) : (s.putFw k v).sweepRef = s.sweepRef := rfl
@[simp] theorem State.putFw_rpm (s : State) (k : Nat) (v : FwSt) : (s.putFw k v).rpm = s.rpm := rfl
@[simp] theorem State.putFw_hda (s : State) (k : Nat) (v : FwSt) : (s.putFw k v).hda = s.hda := rfl
@[simp] theorem State.putFw_sensor (s : State) (k : Nat) (v : FwSt) : (s.putFw k v).sensor = s.sensor := rfl
@[simp] theorem State.putFw_os (s : State) (k : Nat) (v : FwSt) : (s.putFw k v).os = s.os := rfl
@[simp] theorem State.putFw_cmds (s : State) (k : Nat) (v : FwSt) : (s.putFw k v).cmds = s.cmds := rfl
@[simp] theorem State.putFw_deferred (s : State) (k : Nat) (v : FwSt) : (s.putFw k v).deferred = s.deferred := rfl
@[simp] theorem State.putFw_heldCpl (s : State) (k : Nat) (v : FwSt) : (s.putFw k v).heldCpl = s.heldCpl := rfl
@[simp] theorem State.putFw_lastCtrl (s : State) (k : Nat) (v : FwSt) : (s.putFw k v).lastCtrl = s.lastCtrl := rfl
@[simp] theorem State.putFw_ctrl (s : State) (k : Nat) (v : FwSt) : (s.putFw k v).ctrl = s.ctrl := rfl
@[simp] theorem State.putFw_buf (s : State) (k : Nat) (v : FwSt) : (s.putFw k v).buf = s.buf := rfl
@[simp] theorem State.putFw_cache (s : State) (k : Nat) (v : FwSt) : (s.putFw k v).cache = s.cache := rfl
@[simp] theorem State.putFw_pair (s : State) (k : Nat) (v : FwSt) : (s.putFw k v).pair = s.pair := rfl
@[simp] theorem State.putFw_casc (s : State) (k : Nat) (v : FwSt) : (s.putFw k v).casc = s.casc := rfl
@[simp] theorem State.putFw_jf (s : State) (k : Nat) (v : FwSt) : (s.putFw k v).jf = s.jf := rfl
@[simp] theorem State.putFw_er (s : State) (k : Nat) (v : FwSt) : (s.putFw k v).er = s.er := rfl
@[simp] theorem State.putFw_set (s : State) (k : Nat) (v : FwSt) : (s.putFw k v).set = s.set := rfl
@[simp] theorem State.putFw_dict (s : State) (k : Nat) (v : FwSt) : (s.putFw k v).dict = s.dict := rfl
@[simp] theorem State.putFw_fuse (s : State) (k : Nat) (v : FwSt) : (s.putFw k v).fuse = s.fuse := rfl
@[simp] theorem State.putFw_kdapTx (s : State) (k : Nat) (v : FwSt) : (s.putFw k v).kdapTx = s.kdapTx := rfl
@[simp] theorem State.putFw_mon (s : State) (k : Nat) (v : FwSt) : (s.putFw k v).mon = s.mon := rfl
@[simp] theorem State.putFw_emcy (s : State) (k : Nat) (v : FwSt) : (s.putFw k v).emcy = s.emcy := rfl
@[simp] theorem State.putFw_answers (s : State) (k : Nat) (v : FwSt) : (s.putFw k v).answers = s.answers := rfl
@[simp] theorem State.putFw_accHeld (s : State) (k : Nat) (v : FwSt) : (s.putFw k v).accHeld = s.accHeld := rfl

/-! ## What `modFw` leaves alone -/

@[simp] theorem State.modFw_pending (s : State) (k : Nat) (f : FwSt → FwSt) : (s.modFw k f).pending = s.pending := rfl
@[simp] theorem State.modFw_now (s : State) (k : Nat) (f : FwSt → FwSt) : (s.modFw k f).now = s.now := rfl
@[simp] theorem State.modFw_fresh (s : State) (k : Nat) (f : FwSt → FwSt) : (s.modFw k f).fresh = s.fresh := rfl
@[simp] theorem State.modFw_obj (s : State) (k : Nat) (f : FwSt → FwSt) : (s.modFw k f).obj = s.obj := rfl
@[simp] theorem State.modFw_blob (s : State) (k : Nat) (f : FwSt → FwSt) : (s.modFw k f).blob = s.blob := rfl
@[simp] theorem State.modFw_mode (s : State) (k : Nat) (f : FwSt → FwSt) : (s.modFw k f).mode = s.mode := rfl
@[simp] theorem State.modFw_sup (s : State) (k : Nat) (f : FwSt → FwSt) : (s.modFw k f).sup = s.sup := rfl
@[simp] theorem State.modFw_port (s : State) (k : Nat) (f : FwSt → FwSt) : (s.modFw k f).port = s.port := rfl
@[simp] theorem State.modFw_line (s : State) (k : Nat) (f : FwSt → FwSt) : (s.modFw k f).line = s.line := rfl
@[simp] theorem State.modFw_pn2 (s : State) (k : Nat) (f : FwSt → FwSt) : (s.modFw k f).pn2 = s.pn2 := rfl
@[simp] theorem State.modFw_chan (s : State) (k : Nat) (f : FwSt → FwSt) : (s.modFw k f).chan = s.chan := rfl
@[simp] theorem State.modFw_plan (s : State) (k : Nat) (f : FwSt → FwSt) : (s.modFw k f).plan = s.plan := rfl
@[simp] theorem State.modFw_srv (s : State) (k : Nat) (f : FwSt → FwSt) : (s.modFw k f).srv = s.srv := rfl
@[simp] theorem State.modFw_shadow (s : State) (k : Nat) (f : FwSt → FwSt) : (s.modFw k f).shadow = s.shadow := rfl
@[simp] theorem State.modFw_spdShadow (s : State) (k : Nat) (f : FwSt → FwSt) : (s.modFw k f).spdShadow = s.spdShadow := rfl
@[simp] theorem State.modFw_seq (s : State) (k : Nat) (f : FwSt → FwSt) : (s.modFw k f).seq = s.seq := rfl
@[simp] theorem State.modFw_mc (s : State) (k : Nat) (f : FwSt → FwSt) : (s.modFw k f).mc = s.mc := rfl
@[simp] theorem State.modFw_fabric (s : State) (k : Nat) (f : FwSt → FwSt) : (s.modFw k f).fabric = s.fabric := rfl
@[simp] theorem State.modFw_fab (s : State) (k : Nat) (f : FwSt → FwSt) : (s.modFw k f).fab = s.fab := rfl
@[simp] theorem State.modFw_dma (s : State) (k : Nat) (f : FwSt → FwSt) : (s.modFw k f).dma = s.dma := rfl
@[simp] theorem State.modFw_raw (s : State) (k : Nat) (f : FwSt → FwSt) : (s.modFw k f).raw = s.raw := rfl
@[simp] theorem State.modFw_spd (s : State) (k : Nat) (f : FwSt → FwSt) : (s.modFw k f).spd = s.spd := rfl
@[simp] theorem State.modFw_sweepRef (s : State) (k : Nat) (f : FwSt → FwSt) : (s.modFw k f).sweepRef = s.sweepRef := rfl
@[simp] theorem State.modFw_rpm (s : State) (k : Nat) (f : FwSt → FwSt) : (s.modFw k f).rpm = s.rpm := rfl
@[simp] theorem State.modFw_hda (s : State) (k : Nat) (f : FwSt → FwSt) : (s.modFw k f).hda = s.hda := rfl
@[simp] theorem State.modFw_sensor (s : State) (k : Nat) (f : FwSt → FwSt) : (s.modFw k f).sensor = s.sensor := rfl
@[simp] theorem State.modFw_os (s : State) (k : Nat) (f : FwSt → FwSt) : (s.modFw k f).os = s.os := rfl
@[simp] theorem State.modFw_cmds (s : State) (k : Nat) (f : FwSt → FwSt) : (s.modFw k f).cmds = s.cmds := rfl
@[simp] theorem State.modFw_deferred (s : State) (k : Nat) (f : FwSt → FwSt) : (s.modFw k f).deferred = s.deferred := rfl
@[simp] theorem State.modFw_heldCpl (s : State) (k : Nat) (f : FwSt → FwSt) : (s.modFw k f).heldCpl = s.heldCpl := rfl
@[simp] theorem State.modFw_lastCtrl (s : State) (k : Nat) (f : FwSt → FwSt) : (s.modFw k f).lastCtrl = s.lastCtrl := rfl
@[simp] theorem State.modFw_ctrl (s : State) (k : Nat) (f : FwSt → FwSt) : (s.modFw k f).ctrl = s.ctrl := rfl
@[simp] theorem State.modFw_buf (s : State) (k : Nat) (f : FwSt → FwSt) : (s.modFw k f).buf = s.buf := rfl
@[simp] theorem State.modFw_cache (s : State) (k : Nat) (f : FwSt → FwSt) : (s.modFw k f).cache = s.cache := rfl
@[simp] theorem State.modFw_pair (s : State) (k : Nat) (f : FwSt → FwSt) : (s.modFw k f).pair = s.pair := rfl
@[simp] theorem State.modFw_casc (s : State) (k : Nat) (f : FwSt → FwSt) : (s.modFw k f).casc = s.casc := rfl
@[simp] theorem State.modFw_jf (s : State) (k : Nat) (f : FwSt → FwSt) : (s.modFw k f).jf = s.jf := rfl
@[simp] theorem State.modFw_er (s : State) (k : Nat) (f : FwSt → FwSt) : (s.modFw k f).er = s.er := rfl
@[simp] theorem State.modFw_set (s : State) (k : Nat) (f : FwSt → FwSt) : (s.modFw k f).set = s.set := rfl
@[simp] theorem State.modFw_dict (s : State) (k : Nat) (f : FwSt → FwSt) : (s.modFw k f).dict = s.dict := rfl
@[simp] theorem State.modFw_fuse (s : State) (k : Nat) (f : FwSt → FwSt) : (s.modFw k f).fuse = s.fuse := rfl
@[simp] theorem State.modFw_kdapTx (s : State) (k : Nat) (f : FwSt → FwSt) : (s.modFw k f).kdapTx = s.kdapTx := rfl
@[simp] theorem State.modFw_mon (s : State) (k : Nat) (f : FwSt → FwSt) : (s.modFw k f).mon = s.mon := rfl
@[simp] theorem State.modFw_emcy (s : State) (k : Nat) (f : FwSt → FwSt) : (s.modFw k f).emcy = s.emcy := rfl
@[simp] theorem State.modFw_answers (s : State) (k : Nat) (f : FwSt → FwSt) : (s.modFw k f).answers = s.answers := rfl
@[simp] theorem State.modFw_accHeld (s : State) (k : Nat) (f : FwSt → FwSt) : (s.modFw k f).accHeld = s.accHeld := rfl

/-! ## What `putJf` leaves alone -/

@[simp] theorem State.putJf_pending (s : State) (k : Nat) (v : JfSt) : (s.putJf k v).pending = s.pending := rfl
@[simp] theorem State.putJf_now (s : State) (k : Nat) (v : JfSt) : (s.putJf k v).now = s.now := rfl
@[simp] theorem State.putJf_fresh (s : State) (k : Nat) (v : JfSt) : (s.putJf k v).fresh = s.fresh := rfl
@[simp] theorem State.putJf_obj (s : State) (k : Nat) (v : JfSt) : (s.putJf k v).obj = s.obj := rfl
@[simp] theorem State.putJf_blob (s : State) (k : Nat) (v : JfSt) : (s.putJf k v).blob = s.blob := rfl
@[simp] theorem State.putJf_mode (s : State) (k : Nat) (v : JfSt) : (s.putJf k v).mode = s.mode := rfl
@[simp] theorem State.putJf_sup (s : State) (k : Nat) (v : JfSt) : (s.putJf k v).sup = s.sup := rfl
@[simp] theorem State.putJf_port (s : State) (k : Nat) (v : JfSt) : (s.putJf k v).port = s.port := rfl
@[simp] theorem State.putJf_line (s : State) (k : Nat) (v : JfSt) : (s.putJf k v).line = s.line := rfl
@[simp] theorem State.putJf_pn2 (s : State) (k : Nat) (v : JfSt) : (s.putJf k v).pn2 = s.pn2 := rfl
@[simp] theorem State.putJf_chan (s : State) (k : Nat) (v : JfSt) : (s.putJf k v).chan = s.chan := rfl
@[simp] theorem State.putJf_plan (s : State) (k : Nat) (v : JfSt) : (s.putJf k v).plan = s.plan := rfl
@[simp] theorem State.putJf_srv (s : State) (k : Nat) (v : JfSt) : (s.putJf k v).srv = s.srv := rfl
@[simp] theorem State.putJf_shadow (s : State) (k : Nat) (v : JfSt) : (s.putJf k v).shadow = s.shadow := rfl
@[simp] theorem State.putJf_spdShadow (s : State) (k : Nat) (v : JfSt) : (s.putJf k v).spdShadow = s.spdShadow := rfl
@[simp] theorem State.putJf_seq (s : State) (k : Nat) (v : JfSt) : (s.putJf k v).seq = s.seq := rfl
@[simp] theorem State.putJf_mc (s : State) (k : Nat) (v : JfSt) : (s.putJf k v).mc = s.mc := rfl
@[simp] theorem State.putJf_fabric (s : State) (k : Nat) (v : JfSt) : (s.putJf k v).fabric = s.fabric := rfl
@[simp] theorem State.putJf_fab (s : State) (k : Nat) (v : JfSt) : (s.putJf k v).fab = s.fab := rfl
@[simp] theorem State.putJf_dma (s : State) (k : Nat) (v : JfSt) : (s.putJf k v).dma = s.dma := rfl
@[simp] theorem State.putJf_raw (s : State) (k : Nat) (v : JfSt) : (s.putJf k v).raw = s.raw := rfl
@[simp] theorem State.putJf_spd (s : State) (k : Nat) (v : JfSt) : (s.putJf k v).spd = s.spd := rfl
@[simp] theorem State.putJf_sweepRef (s : State) (k : Nat) (v : JfSt) : (s.putJf k v).sweepRef = s.sweepRef := rfl
@[simp] theorem State.putJf_rpm (s : State) (k : Nat) (v : JfSt) : (s.putJf k v).rpm = s.rpm := rfl
@[simp] theorem State.putJf_hda (s : State) (k : Nat) (v : JfSt) : (s.putJf k v).hda = s.hda := rfl
@[simp] theorem State.putJf_sensor (s : State) (k : Nat) (v : JfSt) : (s.putJf k v).sensor = s.sensor := rfl
@[simp] theorem State.putJf_os (s : State) (k : Nat) (v : JfSt) : (s.putJf k v).os = s.os := rfl
@[simp] theorem State.putJf_cmds (s : State) (k : Nat) (v : JfSt) : (s.putJf k v).cmds = s.cmds := rfl
@[simp] theorem State.putJf_deferred (s : State) (k : Nat) (v : JfSt) : (s.putJf k v).deferred = s.deferred := rfl
@[simp] theorem State.putJf_heldCpl (s : State) (k : Nat) (v : JfSt) : (s.putJf k v).heldCpl = s.heldCpl := rfl
@[simp] theorem State.putJf_lastCtrl (s : State) (k : Nat) (v : JfSt) : (s.putJf k v).lastCtrl = s.lastCtrl := rfl
@[simp] theorem State.putJf_ctrl (s : State) (k : Nat) (v : JfSt) : (s.putJf k v).ctrl = s.ctrl := rfl
@[simp] theorem State.putJf_buf (s : State) (k : Nat) (v : JfSt) : (s.putJf k v).buf = s.buf := rfl
@[simp] theorem State.putJf_cache (s : State) (k : Nat) (v : JfSt) : (s.putJf k v).cache = s.cache := rfl
@[simp] theorem State.putJf_pair (s : State) (k : Nat) (v : JfSt) : (s.putJf k v).pair = s.pair := rfl
@[simp] theorem State.putJf_casc (s : State) (k : Nat) (v : JfSt) : (s.putJf k v).casc = s.casc := rfl
@[simp] theorem State.putJf_fw (s : State) (k : Nat) (v : JfSt) : (s.putJf k v).fw = s.fw := rfl
@[simp] theorem State.putJf_er (s : State) (k : Nat) (v : JfSt) : (s.putJf k v).er = s.er := rfl
@[simp] theorem State.putJf_set (s : State) (k : Nat) (v : JfSt) : (s.putJf k v).set = s.set := rfl
@[simp] theorem State.putJf_dict (s : State) (k : Nat) (v : JfSt) : (s.putJf k v).dict = s.dict := rfl
@[simp] theorem State.putJf_fuse (s : State) (k : Nat) (v : JfSt) : (s.putJf k v).fuse = s.fuse := rfl
@[simp] theorem State.putJf_kdapTx (s : State) (k : Nat) (v : JfSt) : (s.putJf k v).kdapTx = s.kdapTx := rfl
@[simp] theorem State.putJf_mon (s : State) (k : Nat) (v : JfSt) : (s.putJf k v).mon = s.mon := rfl
@[simp] theorem State.putJf_emcy (s : State) (k : Nat) (v : JfSt) : (s.putJf k v).emcy = s.emcy := rfl
@[simp] theorem State.putJf_answers (s : State) (k : Nat) (v : JfSt) : (s.putJf k v).answers = s.answers := rfl
@[simp] theorem State.putJf_accHeld (s : State) (k : Nat) (v : JfSt) : (s.putJf k v).accHeld = s.accHeld := rfl

/-! ## What `modJf` leaves alone -/

@[simp] theorem State.modJf_pending (s : State) (k : Nat) (f : JfSt → JfSt) : (s.modJf k f).pending = s.pending := rfl
@[simp] theorem State.modJf_now (s : State) (k : Nat) (f : JfSt → JfSt) : (s.modJf k f).now = s.now := rfl
@[simp] theorem State.modJf_fresh (s : State) (k : Nat) (f : JfSt → JfSt) : (s.modJf k f).fresh = s.fresh := rfl
@[simp] theorem State.modJf_obj (s : State) (k : Nat) (f : JfSt → JfSt) : (s.modJf k f).obj = s.obj := rfl
@[simp] theorem State.modJf_blob (s : State) (k : Nat) (f : JfSt → JfSt) : (s.modJf k f).blob = s.blob := rfl
@[simp] theorem State.modJf_mode (s : State) (k : Nat) (f : JfSt → JfSt) : (s.modJf k f).mode = s.mode := rfl
@[simp] theorem State.modJf_sup (s : State) (k : Nat) (f : JfSt → JfSt) : (s.modJf k f).sup = s.sup := rfl
@[simp] theorem State.modJf_port (s : State) (k : Nat) (f : JfSt → JfSt) : (s.modJf k f).port = s.port := rfl
@[simp] theorem State.modJf_line (s : State) (k : Nat) (f : JfSt → JfSt) : (s.modJf k f).line = s.line := rfl
@[simp] theorem State.modJf_pn2 (s : State) (k : Nat) (f : JfSt → JfSt) : (s.modJf k f).pn2 = s.pn2 := rfl
@[simp] theorem State.modJf_chan (s : State) (k : Nat) (f : JfSt → JfSt) : (s.modJf k f).chan = s.chan := rfl
@[simp] theorem State.modJf_plan (s : State) (k : Nat) (f : JfSt → JfSt) : (s.modJf k f).plan = s.plan := rfl
@[simp] theorem State.modJf_srv (s : State) (k : Nat) (f : JfSt → JfSt) : (s.modJf k f).srv = s.srv := rfl
@[simp] theorem State.modJf_shadow (s : State) (k : Nat) (f : JfSt → JfSt) : (s.modJf k f).shadow = s.shadow := rfl
@[simp] theorem State.modJf_spdShadow (s : State) (k : Nat) (f : JfSt → JfSt) : (s.modJf k f).spdShadow = s.spdShadow := rfl
@[simp] theorem State.modJf_seq (s : State) (k : Nat) (f : JfSt → JfSt) : (s.modJf k f).seq = s.seq := rfl
@[simp] theorem State.modJf_mc (s : State) (k : Nat) (f : JfSt → JfSt) : (s.modJf k f).mc = s.mc := rfl
@[simp] theorem State.modJf_fabric (s : State) (k : Nat) (f : JfSt → JfSt) : (s.modJf k f).fabric = s.fabric := rfl
@[simp] theorem State.modJf_fab (s : State) (k : Nat) (f : JfSt → JfSt) : (s.modJf k f).fab = s.fab := rfl
@[simp] theorem State.modJf_dma (s : State) (k : Nat) (f : JfSt → JfSt) : (s.modJf k f).dma = s.dma := rfl
@[simp] theorem State.modJf_raw (s : State) (k : Nat) (f : JfSt → JfSt) : (s.modJf k f).raw = s.raw := rfl
@[simp] theorem State.modJf_spd (s : State) (k : Nat) (f : JfSt → JfSt) : (s.modJf k f).spd = s.spd := rfl
@[simp] theorem State.modJf_sweepRef (s : State) (k : Nat) (f : JfSt → JfSt) : (s.modJf k f).sweepRef = s.sweepRef := rfl
@[simp] theorem State.modJf_rpm (s : State) (k : Nat) (f : JfSt → JfSt) : (s.modJf k f).rpm = s.rpm := rfl
@[simp] theorem State.modJf_hda (s : State) (k : Nat) (f : JfSt → JfSt) : (s.modJf k f).hda = s.hda := rfl
@[simp] theorem State.modJf_sensor (s : State) (k : Nat) (f : JfSt → JfSt) : (s.modJf k f).sensor = s.sensor := rfl
@[simp] theorem State.modJf_os (s : State) (k : Nat) (f : JfSt → JfSt) : (s.modJf k f).os = s.os := rfl
@[simp] theorem State.modJf_cmds (s : State) (k : Nat) (f : JfSt → JfSt) : (s.modJf k f).cmds = s.cmds := rfl
@[simp] theorem State.modJf_deferred (s : State) (k : Nat) (f : JfSt → JfSt) : (s.modJf k f).deferred = s.deferred := rfl
@[simp] theorem State.modJf_heldCpl (s : State) (k : Nat) (f : JfSt → JfSt) : (s.modJf k f).heldCpl = s.heldCpl := rfl
@[simp] theorem State.modJf_lastCtrl (s : State) (k : Nat) (f : JfSt → JfSt) : (s.modJf k f).lastCtrl = s.lastCtrl := rfl
@[simp] theorem State.modJf_ctrl (s : State) (k : Nat) (f : JfSt → JfSt) : (s.modJf k f).ctrl = s.ctrl := rfl
@[simp] theorem State.modJf_buf (s : State) (k : Nat) (f : JfSt → JfSt) : (s.modJf k f).buf = s.buf := rfl
@[simp] theorem State.modJf_cache (s : State) (k : Nat) (f : JfSt → JfSt) : (s.modJf k f).cache = s.cache := rfl
@[simp] theorem State.modJf_pair (s : State) (k : Nat) (f : JfSt → JfSt) : (s.modJf k f).pair = s.pair := rfl
@[simp] theorem State.modJf_casc (s : State) (k : Nat) (f : JfSt → JfSt) : (s.modJf k f).casc = s.casc := rfl
@[simp] theorem State.modJf_fw (s : State) (k : Nat) (f : JfSt → JfSt) : (s.modJf k f).fw = s.fw := rfl
@[simp] theorem State.modJf_er (s : State) (k : Nat) (f : JfSt → JfSt) : (s.modJf k f).er = s.er := rfl
@[simp] theorem State.modJf_set (s : State) (k : Nat) (f : JfSt → JfSt) : (s.modJf k f).set = s.set := rfl
@[simp] theorem State.modJf_dict (s : State) (k : Nat) (f : JfSt → JfSt) : (s.modJf k f).dict = s.dict := rfl
@[simp] theorem State.modJf_fuse (s : State) (k : Nat) (f : JfSt → JfSt) : (s.modJf k f).fuse = s.fuse := rfl
@[simp] theorem State.modJf_kdapTx (s : State) (k : Nat) (f : JfSt → JfSt) : (s.modJf k f).kdapTx = s.kdapTx := rfl
@[simp] theorem State.modJf_mon (s : State) (k : Nat) (f : JfSt → JfSt) : (s.modJf k f).mon = s.mon := rfl
@[simp] theorem State.modJf_emcy (s : State) (k : Nat) (f : JfSt → JfSt) : (s.modJf k f).emcy = s.emcy := rfl
@[simp] theorem State.modJf_answers (s : State) (k : Nat) (f : JfSt → JfSt) : (s.modJf k f).answers = s.answers := rfl
@[simp] theorem State.modJf_accHeld (s : State) (k : Nat) (f : JfSt → JfSt) : (s.modJf k f).accHeld = s.accHeld := rfl

/-! ## What `putEr` leaves alone -/

@[simp] theorem State.putEr_pending (s : State) (k : Nat) (v : ErSt) : (s.putEr k v).pending = s.pending := rfl
@[simp] theorem State.putEr_now (s : State) (k : Nat) (v : ErSt) : (s.putEr k v).now = s.now := rfl
@[simp] theorem State.putEr_fresh (s : State) (k : Nat) (v : ErSt) : (s.putEr k v).fresh = s.fresh := rfl
@[simp] theorem State.putEr_obj (s : State) (k : Nat) (v : ErSt) : (s.putEr k v).obj = s.obj := rfl
@[simp] theorem State.putEr_blob (s : State) (k : Nat) (v : ErSt) : (s.putEr k v).blob = s.blob := rfl
@[simp] theorem State.putEr_mode (s : State) (k : Nat) (v : ErSt) : (s.putEr k v).mode = s.mode := rfl
@[simp] theorem State.putEr_sup (s : State) (k : Nat) (v : ErSt) : (s.putEr k v).sup = s.sup := rfl
@[simp] theorem State.putEr_port (s : State) (k : Nat) (v : ErSt) : (s.putEr k v).port = s.port := rfl
@[simp] theorem State.putEr_line (s : State) (k : Nat) (v : ErSt) : (s.putEr k v).line = s.line := rfl
@[simp] theorem State.putEr_pn2 (s : State) (k : Nat) (v : ErSt) : (s.putEr k v).pn2 = s.pn2 := rfl
@[simp] theorem State.putEr_chan (s : State) (k : Nat) (v : ErSt) : (s.putEr k v).chan = s.chan := rfl
@[simp] theorem State.putEr_plan (s : State) (k : Nat) (v : ErSt) : (s.putEr k v).plan = s.plan := rfl
@[simp] theorem State.putEr_srv (s : State) (k : Nat) (v : ErSt) : (s.putEr k v).srv = s.srv := rfl
@[simp] theorem State.putEr_shadow (s : State) (k : Nat) (v : ErSt) : (s.putEr k v).shadow = s.shadow := rfl
@[simp] theorem State.putEr_spdShadow (s : State) (k : Nat) (v : ErSt) : (s.putEr k v).spdShadow = s.spdShadow := rfl
@[simp] theorem State.putEr_seq (s : State) (k : Nat) (v : ErSt) : (s.putEr k v).seq = s.seq := rfl
@[simp] theorem State.putEr_mc (s : State) (k : Nat) (v : ErSt) : (s.putEr k v).mc = s.mc := rfl
@[simp] theorem State.putEr_fabric (s : State) (k : Nat) (v : ErSt) : (s.putEr k v).fabric = s.fabric := rfl
@[simp] theorem State.putEr_fab (s : State) (k : Nat) (v : ErSt) : (s.putEr k v).fab = s.fab := rfl
@[simp] theorem State.putEr_dma (s : State) (k : Nat) (v : ErSt) : (s.putEr k v).dma = s.dma := rfl
@[simp] theorem State.putEr_raw (s : State) (k : Nat) (v : ErSt) : (s.putEr k v).raw = s.raw := rfl
@[simp] theorem State.putEr_spd (s : State) (k : Nat) (v : ErSt) : (s.putEr k v).spd = s.spd := rfl
@[simp] theorem State.putEr_sweepRef (s : State) (k : Nat) (v : ErSt) : (s.putEr k v).sweepRef = s.sweepRef := rfl
@[simp] theorem State.putEr_rpm (s : State) (k : Nat) (v : ErSt) : (s.putEr k v).rpm = s.rpm := rfl
@[simp] theorem State.putEr_hda (s : State) (k : Nat) (v : ErSt) : (s.putEr k v).hda = s.hda := rfl
@[simp] theorem State.putEr_sensor (s : State) (k : Nat) (v : ErSt) : (s.putEr k v).sensor = s.sensor := rfl
@[simp] theorem State.putEr_os (s : State) (k : Nat) (v : ErSt) : (s.putEr k v).os = s.os := rfl
@[simp] theorem State.putEr_cmds (s : State) (k : Nat) (v : ErSt) : (s.putEr k v).cmds = s.cmds := rfl
@[simp] theorem State.putEr_deferred (s : State) (k : Nat) (v : ErSt) : (s.putEr k v).deferred = s.deferred := rfl
@[simp] theorem State.putEr_heldCpl (s : State) (k : Nat) (v : ErSt) : (s.putEr k v).heldCpl = s.heldCpl := rfl
@[simp] theorem State.putEr_lastCtrl (s : State) (k : Nat) (v : ErSt) : (s.putEr k v).lastCtrl = s.lastCtrl := rfl
@[simp] theorem State.putEr_ctrl (s : State) (k : Nat) (v : ErSt) : (s.putEr k v).ctrl = s.ctrl := rfl
@[simp] theorem State.putEr_buf (s : State) (k : Nat) (v : ErSt) : (s.putEr k v).buf = s.buf := rfl
@[simp] theorem State.putEr_cache (s : State) (k : Nat) (v : ErSt) : (s.putEr k v).cache = s.cache := rfl
@[simp] theorem State.putEr_pair (s : State) (k : Nat) (v : ErSt) : (s.putEr k v).pair = s.pair := rfl
@[simp] theorem State.putEr_casc (s : State) (k : Nat) (v : ErSt) : (s.putEr k v).casc = s.casc := rfl
@[simp] theorem State.putEr_fw (s : State) (k : Nat) (v : ErSt) : (s.putEr k v).fw = s.fw := rfl
@[simp] theorem State.putEr_jf (s : State) (k : Nat) (v : ErSt) : (s.putEr k v).jf = s.jf := rfl
@[simp] theorem State.putEr_set (s : State) (k : Nat) (v : ErSt) : (s.putEr k v).set = s.set := rfl
@[simp] theorem State.putEr_dict (s : State) (k : Nat) (v : ErSt) : (s.putEr k v).dict = s.dict := rfl
@[simp] theorem State.putEr_fuse (s : State) (k : Nat) (v : ErSt) : (s.putEr k v).fuse = s.fuse := rfl
@[simp] theorem State.putEr_kdapTx (s : State) (k : Nat) (v : ErSt) : (s.putEr k v).kdapTx = s.kdapTx := rfl
@[simp] theorem State.putEr_mon (s : State) (k : Nat) (v : ErSt) : (s.putEr k v).mon = s.mon := rfl
@[simp] theorem State.putEr_emcy (s : State) (k : Nat) (v : ErSt) : (s.putEr k v).emcy = s.emcy := rfl
@[simp] theorem State.putEr_answers (s : State) (k : Nat) (v : ErSt) : (s.putEr k v).answers = s.answers := rfl
@[simp] theorem State.putEr_accHeld (s : State) (k : Nat) (v : ErSt) : (s.putEr k v).accHeld = s.accHeld := rfl

/-! ## What `modEr` leaves alone -/

@[simp] theorem State.modEr_pending (s : State) (k : Nat) (f : ErSt → ErSt) : (s.modEr k f).pending = s.pending := rfl
@[simp] theorem State.modEr_now (s : State) (k : Nat) (f : ErSt → ErSt) : (s.modEr k f).now = s.now := rfl
@[simp] theorem State.modEr_fresh (s : State) (k : Nat) (f : ErSt → ErSt) : (s.modEr k f).fresh = s.fresh := rfl
@[simp] theorem State.modEr_obj (s : State) (k : Nat) (f : ErSt → ErSt) : (s.modEr k f).obj = s.obj := rfl
@[simp] theorem State.modEr_blob (s : State) (k : Nat) (f : ErSt → ErSt) : (s.modEr k f).blob = s.blob := rfl
@[simp] theorem State.modEr_mode (s : State) (k : Nat) (f : ErSt → ErSt) : (s.modEr k f).mode = s.mode := rfl
@[simp] theorem State.modEr_sup (s : State) (k : Nat) (f : ErSt → ErSt) : (s.modEr k f).sup = s.sup := rfl
@[simp] theorem State.modEr_port (s : State) (k : Nat) (f : ErSt → ErSt) : (s.modEr k f).port = s.port := rfl
@[simp] theorem State.modEr_line (s : State) (k : Nat) (f : ErSt → ErSt) : (s.modEr k f).line = s.line := rfl
@[simp] theorem State.modEr_pn2 (s : State) (k : Nat) (f : ErSt → ErSt) : (s.modEr k f).pn2 = s.pn2 := rfl
@[simp] theorem State.modEr_chan (s : State) (k : Nat) (f : ErSt → ErSt) : (s.modEr k f).chan = s.chan := rfl
@[simp] theorem State.modEr_plan (s : State) (k : Nat) (f : ErSt → ErSt) : (s.modEr k f).plan = s.plan := rfl
@[simp] theorem State.modEr_srv (s : State) (k : Nat) (f : ErSt → ErSt) : (s.modEr k f).srv = s.srv := rfl
@[simp] theorem State.modEr_shadow (s : State) (k : Nat) (f : ErSt → ErSt) : (s.modEr k f).shadow = s.shadow := rfl
@[simp] theorem State.modEr_spdShadow (s : State) (k : Nat) (f : ErSt → ErSt) : (s.modEr k f).spdShadow = s.spdShadow := rfl
@[simp] theorem State.modEr_seq (s : State) (k : Nat) (f : ErSt → ErSt) : (s.modEr k f).seq = s.seq := rfl
@[simp] theorem State.modEr_mc (s : State) (k : Nat) (f : ErSt → ErSt) : (s.modEr k f).mc = s.mc := rfl
@[simp] theorem State.modEr_fabric (s : State) (k : Nat) (f : ErSt → ErSt) : (s.modEr k f).fabric = s.fabric := rfl
@[simp] theorem State.modEr_fab (s : State) (k : Nat) (f : ErSt → ErSt) : (s.modEr k f).fab = s.fab := rfl
@[simp] theorem State.modEr_dma (s : State) (k : Nat) (f : ErSt → ErSt) : (s.modEr k f).dma = s.dma := rfl
@[simp] theorem State.modEr_raw (s : State) (k : Nat) (f : ErSt → ErSt) : (s.modEr k f).raw = s.raw := rfl
@[simp] theorem State.modEr_spd (s : State) (k : Nat) (f : ErSt → ErSt) : (s.modEr k f).spd = s.spd := rfl
@[simp] theorem State.modEr_sweepRef (s : State) (k : Nat) (f : ErSt → ErSt) : (s.modEr k f).sweepRef = s.sweepRef := rfl
@[simp] theorem State.modEr_rpm (s : State) (k : Nat) (f : ErSt → ErSt) : (s.modEr k f).rpm = s.rpm := rfl
@[simp] theorem State.modEr_hda (s : State) (k : Nat) (f : ErSt → ErSt) : (s.modEr k f).hda = s.hda := rfl
@[simp] theorem State.modEr_sensor (s : State) (k : Nat) (f : ErSt → ErSt) : (s.modEr k f).sensor = s.sensor := rfl
@[simp] theorem State.modEr_os (s : State) (k : Nat) (f : ErSt → ErSt) : (s.modEr k f).os = s.os := rfl
@[simp] theorem State.modEr_cmds (s : State) (k : Nat) (f : ErSt → ErSt) : (s.modEr k f).cmds = s.cmds := rfl
@[simp] theorem State.modEr_deferred (s : State) (k : Nat) (f : ErSt → ErSt) : (s.modEr k f).deferred = s.deferred := rfl
@[simp] theorem State.modEr_heldCpl (s : State) (k : Nat) (f : ErSt → ErSt) : (s.modEr k f).heldCpl = s.heldCpl := rfl
@[simp] theorem State.modEr_lastCtrl (s : State) (k : Nat) (f : ErSt → ErSt) : (s.modEr k f).lastCtrl = s.lastCtrl := rfl
@[simp] theorem State.modEr_ctrl (s : State) (k : Nat) (f : ErSt → ErSt) : (s.modEr k f).ctrl = s.ctrl := rfl
@[simp] theorem State.modEr_buf (s : State) (k : Nat) (f : ErSt → ErSt) : (s.modEr k f).buf = s.buf := rfl
@[simp] theorem State.modEr_cache (s : State) (k : Nat) (f : ErSt → ErSt) : (s.modEr k f).cache = s.cache := rfl
@[simp] theorem State.modEr_pair (s : State) (k : Nat) (f : ErSt → ErSt) : (s.modEr k f).pair = s.pair := rfl
@[simp] theorem State.modEr_casc (s : State) (k : Nat) (f : ErSt → ErSt) : (s.modEr k f).casc = s.casc := rfl
@[simp] theorem State.modEr_fw (s : State) (k : Nat) (f : ErSt → ErSt) : (s.modEr k f).fw = s.fw := rfl
@[simp] theorem State.modEr_jf (s : State) (k : Nat) (f : ErSt → ErSt) : (s.modEr k f).jf = s.jf := rfl
@[simp] theorem State.modEr_set (s : State) (k : Nat) (f : ErSt → ErSt) : (s.modEr k f).set = s.set := rfl
@[simp] theorem State.modEr_dict (s : State) (k : Nat) (f : ErSt → ErSt) : (s.modEr k f).dict = s.dict := rfl
@[simp] theorem State.modEr_fuse (s : State) (k : Nat) (f : ErSt → ErSt) : (s.modEr k f).fuse = s.fuse := rfl
@[simp] theorem State.modEr_kdapTx (s : State) (k : Nat) (f : ErSt → ErSt) : (s.modEr k f).kdapTx = s.kdapTx := rfl
@[simp] theorem State.modEr_mon (s : State) (k : Nat) (f : ErSt → ErSt) : (s.modEr k f).mon = s.mon := rfl
@[simp] theorem State.modEr_emcy (s : State) (k : Nat) (f : ErSt → ErSt) : (s.modEr k f).emcy = s.emcy := rfl
@[simp] theorem State.modEr_answers (s : State) (k : Nat) (f : ErSt → ErSt) : (s.modEr k f).answers = s.answers := rfl
@[simp] theorem State.modEr_accHeld (s : State) (k : Nat) (f : ErSt → ErSt) : (s.modEr k f).accHeld = s.accHeld := rfl

/-! ## What `putSet` leaves alone -/

@[simp] theorem State.putSet_pending (s : State) (k : Nat) (v : SetSt) : (s.putSet k v).pending = s.pending := rfl
@[simp] theorem State.putSet_now (s : State) (k : Nat) (v : SetSt) : (s.putSet k v).now = s.now := rfl
@[simp] theorem State.putSet_fresh (s : State) (k : Nat) (v : SetSt) : (s.putSet k v).fresh = s.fresh := rfl
@[simp] theorem State.putSet_obj (s : State) (k : Nat) (v : SetSt) : (s.putSet k v).obj = s.obj := rfl
@[simp] theorem State.putSet_blob (s : State) (k : Nat) (v : SetSt) : (s.putSet k v).blob = s.blob := rfl
@[simp] theorem State.putSet_mode (s : State) (k : Nat) (v : SetSt) : (s.putSet k v).mode = s.mode := rfl
@[simp] theorem State.putSet_sup (s : State) (k : Nat) (v : SetSt) : (s.putSet k v).sup = s.sup := rfl
@[simp] theorem State.putSet_port (s : State) (k : Nat) (v : SetSt) : (s.putSet k v).port = s.port := rfl
@[simp] theorem State.putSet_line (s : State) (k : Nat) (v : SetSt) : (s.putSet k v).line = s.line := rfl
@[simp] theorem State.putSet_pn2 (s : State) (k : Nat) (v : SetSt) : (s.putSet k v).pn2 = s.pn2 := rfl
@[simp] theorem State.putSet_chan (s : State) (k : Nat) (v : SetSt) : (s.putSet k v).chan = s.chan := rfl
@[simp] theorem State.putSet_plan (s : State) (k : Nat) (v : SetSt) : (s.putSet k v).plan = s.plan := rfl
@[simp] theorem State.putSet_srv (s : State) (k : Nat) (v : SetSt) : (s.putSet k v).srv = s.srv := rfl
@[simp] theorem State.putSet_shadow (s : State) (k : Nat) (v : SetSt) : (s.putSet k v).shadow = s.shadow := rfl
@[simp] theorem State.putSet_spdShadow (s : State) (k : Nat) (v : SetSt) : (s.putSet k v).spdShadow = s.spdShadow := rfl
@[simp] theorem State.putSet_seq (s : State) (k : Nat) (v : SetSt) : (s.putSet k v).seq = s.seq := rfl
@[simp] theorem State.putSet_mc (s : State) (k : Nat) (v : SetSt) : (s.putSet k v).mc = s.mc := rfl
@[simp] theorem State.putSet_fabric (s : State) (k : Nat) (v : SetSt) : (s.putSet k v).fabric = s.fabric := rfl
@[simp] theorem State.putSet_fab (s : State) (k : Nat) (v : SetSt) : (s.putSet k v).fab = s.fab := rfl
@[simp] theorem State.putSet_dma (s : State) (k : Nat) (v : SetSt) : (s.putSet k v).dma = s.dma := rfl
@[simp] theorem State.putSet_raw (s : State) (k : Nat) (v : SetSt) : (s.putSet k v).raw = s.raw := rfl
@[simp] theorem State.putSet_spd (s : State) (k : Nat) (v : SetSt) : (s.putSet k v).spd = s.spd := rfl
@[simp] theorem State.putSet_sweepRef (s : State) (k : Nat) (v : SetSt) : (s.putSet k v).sweepRef = s.sweepRef := rfl
@[simp] theorem State.putSet_rpm (s : State) (k : Nat) (v : SetSt) : (s.putSet k v).rpm = s.rpm := rfl
@[simp] theorem State.putSet_hda (s : State) (k : Nat) (v : SetSt) : (s.putSet k v).hda = s.hda := rfl
@[simp] theorem State.putSet_sensor (s : State) (k : Nat) (v : SetSt) : (s.putSet k v).sensor = s.sensor := rfl
@[simp] theorem State.putSet_os (s : State) (k : Nat) (v : SetSt) : (s.putSet k v).os = s.os := rfl
@[simp] theorem State.putSet_cmds (s : State) (k : Nat) (v : SetSt) : (s.putSet k v).cmds = s.cmds := rfl
@[simp] theorem State.putSet_deferred (s : State) (k : Nat) (v : SetSt) : (s.putSet k v).deferred = s.deferred := rfl
@[simp] theorem State.putSet_heldCpl (s : State) (k : Nat) (v : SetSt) : (s.putSet k v).heldCpl = s.heldCpl := rfl
@[simp] theorem State.putSet_lastCtrl (s : State) (k : Nat) (v : SetSt) : (s.putSet k v).lastCtrl = s.lastCtrl := rfl
@[simp] theorem State.putSet_ctrl (s : State) (k : Nat) (v : SetSt) : (s.putSet k v).ctrl = s.ctrl := rfl
@[simp] theorem State.putSet_buf (s : State) (k : Nat) (v : SetSt) : (s.putSet k v).buf = s.buf := rfl
@[simp] theorem State.putSet_cache (s : State) (k : Nat) (v : SetSt) : (s.putSet k v).cache = s.cache := rfl
@[simp] theorem State.putSet_pair (s : State) (k : Nat) (v : SetSt) : (s.putSet k v).pair = s.pair := rfl
@[simp] theorem State.putSet_casc (s : State) (k : Nat) (v : SetSt) : (s.putSet k v).casc = s.casc := rfl
@[simp] theorem State.putSet_fw (s : State) (k : Nat) (v : SetSt) : (s.putSet k v).fw = s.fw := rfl
@[simp] theorem State.putSet_jf (s : State) (k : Nat) (v : SetSt) : (s.putSet k v).jf = s.jf := rfl
@[simp] theorem State.putSet_er (s : State) (k : Nat) (v : SetSt) : (s.putSet k v).er = s.er := rfl
@[simp] theorem State.putSet_dict (s : State) (k : Nat) (v : SetSt) : (s.putSet k v).dict = s.dict := rfl
@[simp] theorem State.putSet_fuse (s : State) (k : Nat) (v : SetSt) : (s.putSet k v).fuse = s.fuse := rfl
@[simp] theorem State.putSet_kdapTx (s : State) (k : Nat) (v : SetSt) : (s.putSet k v).kdapTx = s.kdapTx := rfl
@[simp] theorem State.putSet_mon (s : State) (k : Nat) (v : SetSt) : (s.putSet k v).mon = s.mon := rfl
@[simp] theorem State.putSet_emcy (s : State) (k : Nat) (v : SetSt) : (s.putSet k v).emcy = s.emcy := rfl
@[simp] theorem State.putSet_answers (s : State) (k : Nat) (v : SetSt) : (s.putSet k v).answers = s.answers := rfl
@[simp] theorem State.putSet_accHeld (s : State) (k : Nat) (v : SetSt) : (s.putSet k v).accHeld = s.accHeld := rfl

/-! ## What `modSet` leaves alone -/

@[simp] theorem State.modSet_pending (s : State) (k : Nat) (f : SetSt → SetSt) : (s.modSet k f).pending = s.pending := rfl
@[simp] theorem State.modSet_now (s : State) (k : Nat) (f : SetSt → SetSt) : (s.modSet k f).now = s.now := rfl
@[simp] theorem State.modSet_fresh (s : State) (k : Nat) (f : SetSt → SetSt) : (s.modSet k f).fresh = s.fresh := rfl
@[simp] theorem State.modSet_obj (s : State) (k : Nat) (f : SetSt → SetSt) : (s.modSet k f).obj = s.obj := rfl
@[simp] theorem State.modSet_blob (s : State) (k : Nat) (f : SetSt → SetSt) : (s.modSet k f).blob = s.blob := rfl
@[simp] theorem State.modSet_mode (s : State) (k : Nat) (f : SetSt → SetSt) : (s.modSet k f).mode = s.mode := rfl
@[simp] theorem State.modSet_sup (s : State) (k : Nat) (f : SetSt → SetSt) : (s.modSet k f).sup = s.sup := rfl
@[simp] theorem State.modSet_port (s : State) (k : Nat) (f : SetSt → SetSt) : (s.modSet k f).port = s.port := rfl
@[simp] theorem State.modSet_line (s : State) (k : Nat) (f : SetSt → SetSt) : (s.modSet k f).line = s.line := rfl
@[simp] theorem State.modSet_pn2 (s : State) (k : Nat) (f : SetSt → SetSt) : (s.modSet k f).pn2 = s.pn2 := rfl
@[simp] theorem State.modSet_chan (s : State) (k : Nat) (f : SetSt → SetSt) : (s.modSet k f).chan = s.chan := rfl
@[simp] theorem State.modSet_plan (s : State) (k : Nat) (f : SetSt → SetSt) : (s.modSet k f).plan = s.plan := rfl
@[simp] theorem State.modSet_srv (s : State) (k : Nat) (f : SetSt → SetSt) : (s.modSet k f).srv = s.srv := rfl
@[simp] theorem State.modSet_shadow (s : State) (k : Nat) (f : SetSt → SetSt) : (s.modSet k f).shadow = s.shadow := rfl
@[simp] theorem State.modSet_spdShadow (s : State) (k : Nat) (f : SetSt → SetSt) : (s.modSet k f).spdShadow = s.spdShadow := rfl
@[simp] theorem State.modSet_seq (s : State) (k : Nat) (f : SetSt → SetSt) : (s.modSet k f).seq = s.seq := rfl
@[simp] theorem State.modSet_mc (s : State) (k : Nat) (f : SetSt → SetSt) : (s.modSet k f).mc = s.mc := rfl
@[simp] theorem State.modSet_fabric (s : State) (k : Nat) (f : SetSt → SetSt) : (s.modSet k f).fabric = s.fabric := rfl
@[simp] theorem State.modSet_fab (s : State) (k : Nat) (f : SetSt → SetSt) : (s.modSet k f).fab = s.fab := rfl
@[simp] theorem State.modSet_dma (s : State) (k : Nat) (f : SetSt → SetSt) : (s.modSet k f).dma = s.dma := rfl
@[simp] theorem State.modSet_raw (s : State) (k : Nat) (f : SetSt → SetSt) : (s.modSet k f).raw = s.raw := rfl
@[simp] theorem State.modSet_spd (s : State) (k : Nat) (f : SetSt → SetSt) : (s.modSet k f).spd = s.spd := rfl
@[simp] theorem State.modSet_sweepRef (s : State) (k : Nat) (f : SetSt → SetSt) : (s.modSet k f).sweepRef = s.sweepRef := rfl
@[simp] theorem State.modSet_rpm (s : State) (k : Nat) (f : SetSt → SetSt) : (s.modSet k f).rpm = s.rpm := rfl
@[simp] theorem State.modSet_hda (s : State) (k : Nat) (f : SetSt → SetSt) : (s.modSet k f).hda = s.hda := rfl
@[simp] theorem State.modSet_sensor (s : State) (k : Nat) (f : SetSt → SetSt) : (s.modSet k f).sensor = s.sensor := rfl
@[simp] theorem State.modSet_os (s : State) (k : Nat) (f : SetSt → SetSt) : (s.modSet k f).os = s.os := rfl
@[simp] theorem State.modSet_cmds (s : State) (k : Nat) (f : SetSt → SetSt) : (s.modSet k f).cmds = s.cmds := rfl
@[simp] theorem State.modSet_deferred (s : State) (k : Nat) (f : SetSt → SetSt) : (s.modSet k f).deferred = s.deferred := rfl
@[simp] theorem State.modSet_heldCpl (s : State) (k : Nat) (f : SetSt → SetSt) : (s.modSet k f).heldCpl = s.heldCpl := rfl
@[simp] theorem State.modSet_lastCtrl (s : State) (k : Nat) (f : SetSt → SetSt) : (s.modSet k f).lastCtrl = s.lastCtrl := rfl
@[simp] theorem State.modSet_ctrl (s : State) (k : Nat) (f : SetSt → SetSt) : (s.modSet k f).ctrl = s.ctrl := rfl
@[simp] theorem State.modSet_buf (s : State) (k : Nat) (f : SetSt → SetSt) : (s.modSet k f).buf = s.buf := rfl
@[simp] theorem State.modSet_cache (s : State) (k : Nat) (f : SetSt → SetSt) : (s.modSet k f).cache = s.cache := rfl
@[simp] theorem State.modSet_pair (s : State) (k : Nat) (f : SetSt → SetSt) : (s.modSet k f).pair = s.pair := rfl
@[simp] theorem State.modSet_casc (s : State) (k : Nat) (f : SetSt → SetSt) : (s.modSet k f).casc = s.casc := rfl
@[simp] theorem State.modSet_fw (s : State) (k : Nat) (f : SetSt → SetSt) : (s.modSet k f).fw = s.fw := rfl
@[simp] theorem State.modSet_jf (s : State) (k : Nat) (f : SetSt → SetSt) : (s.modSet k f).jf = s.jf := rfl
@[simp] theorem State.modSet_er (s : State) (k : Nat) (f : SetSt → SetSt) : (s.modSet k f).er = s.er := rfl
@[simp] theorem State.modSet_dict (s : State) (k : Nat) (f : SetSt → SetSt) : (s.modSet k f).dict = s.dict := rfl
@[simp] theorem State.modSet_fuse (s : State) (k : Nat) (f : SetSt → SetSt) : (s.modSet k f).fuse = s.fuse := rfl
@[simp] theorem State.modSet_kdapTx (s : State) (k : Nat) (f : SetSt → SetSt) : (s.modSet k f).kdapTx = s.kdapTx := rfl
@[simp] theorem State.modSet_mon (s : State) (k : Nat) (f : SetSt → SetSt) : (s.modSet k f).mon = s.mon := rfl
@[simp] theorem State.modSet_emcy (s : State) (k : Nat) (f : SetSt → SetSt) : (s.modSet k f).emcy = s.emcy := rfl
@[simp] theorem State.modSet_answers (s : State) (k : Nat) (f : SetSt → SetSt) : (s.modSet k f).answers = s.answers := rfl
@[simp] theorem State.modSet_accHeld (s : State) (k : Nat) (f : SetSt → SetSt) : (s.modSet k f).accHeld = s.accHeld := rfl

/-! ## What `putDict` leaves alone -/

@[simp] theorem State.putDict_pending (s : State) (k : Nat) (v : DictSt) : (s.putDict k v).pending = s.pending := rfl
@[simp] theorem State.putDict_now (s : State) (k : Nat) (v : DictSt) : (s.putDict k v).now = s.now := rfl
@[simp] theorem State.putDict_fresh (s : State) (k : Nat) (v : DictSt) : (s.putDict k v).fresh = s.fresh := rfl
@[simp] theorem State.putDict_obj (s : State) (k : Nat) (v : DictSt) : (s.putDict k v).obj = s.obj := rfl
@[simp] theorem State.putDict_blob (s : State) (k : Nat) (v : DictSt) : (s.putDict k v).blob = s.blob := rfl
@[simp] theorem State.putDict_mode (s : State) (k : Nat) (v : DictSt) : (s.putDict k v).mode = s.mode := rfl
@[simp] theorem State.putDict_sup (s : State) (k : Nat) (v : DictSt) : (s.putDict k v).sup = s.sup := rfl
@[simp] theorem State.putDict_port (s : State) (k : Nat) (v : DictSt) : (s.putDict k v).port = s.port := rfl
@[simp] theorem State.putDict_line (s : State) (k : Nat) (v : DictSt) : (s.putDict k v).line = s.line := rfl
@[simp] theorem State.putDict_pn2 (s : State) (k : Nat) (v : DictSt) : (s.putDict k v).pn2 = s.pn2 := rfl
@[simp] theorem State.putDict_chan (s : State) (k : Nat) (v : DictSt) : (s.putDict k v).chan = s.chan := rfl
@[simp] theorem State.putDict_plan (s : State) (k : Nat) (v : DictSt) : (s.putDict k v).plan = s.plan := rfl
@[simp] theorem State.putDict_srv (s : State) (k : Nat) (v : DictSt) : (s.putDict k v).srv = s.srv := rfl
@[simp] theorem State.putDict_shadow (s : State) (k : Nat) (v : DictSt) : (s.putDict k v).shadow = s.shadow := rfl
@[simp] theorem State.putDict_spdShadow (s : State) (k : Nat) (v : DictSt) : (s.putDict k v).spdShadow = s.spdShadow := rfl
@[simp] theorem State.putDict_seq (s : State) (k : Nat) (v : DictSt) : (s.putDict k v).seq = s.seq := rfl
@[simp] theorem State.putDict_mc (s : State) (k : Nat) (v : DictSt) : (s.putDict k v).mc = s.mc := rfl
@[simp] theorem State.putDict_fabric (s : State) (k : Nat) (v : DictSt) : (s.putDict k v).fabric = s.fabric := rfl
@[simp] theorem State.putDict_fab (s : State) (k : Nat) (v : DictSt) : (s.putDict k v).fab = s.fab := rfl
@[simp] theorem State.putDict_dma (s : State) (k : Nat) (v : DictSt) : (s.putDict k v).dma = s.dma := rfl
@[simp] theorem State.putDict_raw (s : State) (k : Nat) (v : DictSt) : (s.putDict k v).raw = s.raw := rfl
@[simp] theorem State.putDict_spd (s : State) (k : Nat) (v : DictSt) : (s.putDict k v).spd = s.spd := rfl
@[simp] theorem State.putDict_sweepRef (s : State) (k : Nat) (v : DictSt) : (s.putDict k v).sweepRef = s.sweepRef := rfl
@[simp] theorem State.putDict_rpm (s : State) (k : Nat) (v : DictSt) : (s.putDict k v).rpm = s.rpm := rfl
@[simp] theorem State.putDict_hda (s : State) (k : Nat) (v : DictSt) : (s.putDict k v).hda = s.hda := rfl
@[simp] theorem State.putDict_sensor (s : State) (k : Nat) (v : DictSt) : (s.putDict k v).sensor = s.sensor := rfl
@[simp] theorem State.putDict_os (s : State) (k : Nat) (v : DictSt) : (s.putDict k v).os = s.os := rfl
@[simp] theorem State.putDict_cmds (s : State) (k : Nat) (v : DictSt) : (s.putDict k v).cmds = s.cmds := rfl
@[simp] theorem State.putDict_deferred (s : State) (k : Nat) (v : DictSt) : (s.putDict k v).deferred = s.deferred := rfl
@[simp] theorem State.putDict_heldCpl (s : State) (k : Nat) (v : DictSt) : (s.putDict k v).heldCpl = s.heldCpl := rfl
@[simp] theorem State.putDict_lastCtrl (s : State) (k : Nat) (v : DictSt) : (s.putDict k v).lastCtrl = s.lastCtrl := rfl
@[simp] theorem State.putDict_ctrl (s : State) (k : Nat) (v : DictSt) : (s.putDict k v).ctrl = s.ctrl := rfl
@[simp] theorem State.putDict_buf (s : State) (k : Nat) (v : DictSt) : (s.putDict k v).buf = s.buf := rfl
@[simp] theorem State.putDict_cache (s : State) (k : Nat) (v : DictSt) : (s.putDict k v).cache = s.cache := rfl
@[simp] theorem State.putDict_pair (s : State) (k : Nat) (v : DictSt) : (s.putDict k v).pair = s.pair := rfl
@[simp] theorem State.putDict_casc (s : State) (k : Nat) (v : DictSt) : (s.putDict k v).casc = s.casc := rfl
@[simp] theorem State.putDict_fw (s : State) (k : Nat) (v : DictSt) : (s.putDict k v).fw = s.fw := rfl
@[simp] theorem State.putDict_jf (s : State) (k : Nat) (v : DictSt) : (s.putDict k v).jf = s.jf := rfl
@[simp] theorem State.putDict_er (s : State) (k : Nat) (v : DictSt) : (s.putDict k v).er = s.er := rfl
@[simp] theorem State.putDict_set (s : State) (k : Nat) (v : DictSt) : (s.putDict k v).set = s.set := rfl
@[simp] theorem State.putDict_fuse (s : State) (k : Nat) (v : DictSt) : (s.putDict k v).fuse = s.fuse := rfl
@[simp] theorem State.putDict_kdapTx (s : State) (k : Nat) (v : DictSt) : (s.putDict k v).kdapTx = s.kdapTx := rfl
@[simp] theorem State.putDict_mon (s : State) (k : Nat) (v : DictSt) : (s.putDict k v).mon = s.mon := rfl
@[simp] theorem State.putDict_emcy (s : State) (k : Nat) (v : DictSt) : (s.putDict k v).emcy = s.emcy := rfl
@[simp] theorem State.putDict_answers (s : State) (k : Nat) (v : DictSt) : (s.putDict k v).answers = s.answers := rfl
@[simp] theorem State.putDict_accHeld (s : State) (k : Nat) (v : DictSt) : (s.putDict k v).accHeld = s.accHeld := rfl

/-! ## What `modDict` leaves alone -/

@[simp] theorem State.modDict_pending (s : State) (k : Nat) (f : DictSt → DictSt) : (s.modDict k f).pending = s.pending := rfl
@[simp] theorem State.modDict_now (s : State) (k : Nat) (f : DictSt → DictSt) : (s.modDict k f).now = s.now := rfl
@[simp] theorem State.modDict_fresh (s : State) (k : Nat) (f : DictSt → DictSt) : (s.modDict k f).fresh = s.fresh := rfl
@[simp] theorem State.modDict_obj (s : State) (k : Nat) (f : DictSt → DictSt) : (s.modDict k f).obj = s.obj := rfl
@[simp] theorem State.modDict_blob (s : State) (k : Nat) (f : DictSt → DictSt) : (s.modDict k f).blob = s.blob := rfl
@[simp] theorem State.modDict_mode (s : State) (k : Nat) (f : DictSt → DictSt) : (s.modDict k f).mode = s.mode := rfl
@[simp] theorem State.modDict_sup (s : State) (k : Nat) (f : DictSt → DictSt) : (s.modDict k f).sup = s.sup := rfl
@[simp] theorem State.modDict_port (s : State) (k : Nat) (f : DictSt → DictSt) : (s.modDict k f).port = s.port := rfl
@[simp] theorem State.modDict_line (s : State) (k : Nat) (f : DictSt → DictSt) : (s.modDict k f).line = s.line := rfl
@[simp] theorem State.modDict_pn2 (s : State) (k : Nat) (f : DictSt → DictSt) : (s.modDict k f).pn2 = s.pn2 := rfl
@[simp] theorem State.modDict_chan (s : State) (k : Nat) (f : DictSt → DictSt) : (s.modDict k f).chan = s.chan := rfl
@[simp] theorem State.modDict_plan (s : State) (k : Nat) (f : DictSt → DictSt) : (s.modDict k f).plan = s.plan := rfl
@[simp] theorem State.modDict_srv (s : State) (k : Nat) (f : DictSt → DictSt) : (s.modDict k f).srv = s.srv := rfl
@[simp] theorem State.modDict_shadow (s : State) (k : Nat) (f : DictSt → DictSt) : (s.modDict k f).shadow = s.shadow := rfl
@[simp] theorem State.modDict_spdShadow (s : State) (k : Nat) (f : DictSt → DictSt) : (s.modDict k f).spdShadow = s.spdShadow := rfl
@[simp] theorem State.modDict_seq (s : State) (k : Nat) (f : DictSt → DictSt) : (s.modDict k f).seq = s.seq := rfl
@[simp] theorem State.modDict_mc (s : State) (k : Nat) (f : DictSt → DictSt) : (s.modDict k f).mc = s.mc := rfl
@[simp] theorem State.modDict_fabric (s : State) (k : Nat) (f : DictSt → DictSt) : (s.modDict k f).fabric = s.fabric := rfl
@[simp] theorem State.modDict_fab (s : State) (k : Nat) (f : DictSt → DictSt) : (s.modDict k f).fab = s.fab := rfl
@[simp] theorem State.modDict_dma (s : State) (k : Nat) (f : DictSt → DictSt) : (s.modDict k f).dma = s.dma := rfl
@[simp] theorem State.modDict_raw (s : State) (k : Nat) (f : DictSt → DictSt) : (s.modDict k f).raw = s.raw := rfl
@[simp] theorem State.modDict_spd (s : State) (k : Nat) (f : DictSt → DictSt) : (s.modDict k f).spd = s.spd := rfl
@[simp] theorem State.modDict_sweepRef (s : State) (k : Nat) (f : DictSt → DictSt) : (s.modDict k f).sweepRef = s.sweepRef := rfl
@[simp] theorem State.modDict_rpm (s : State) (k : Nat) (f : DictSt → DictSt) : (s.modDict k f).rpm = s.rpm := rfl
@[simp] theorem State.modDict_hda (s : State) (k : Nat) (f : DictSt → DictSt) : (s.modDict k f).hda = s.hda := rfl
@[simp] theorem State.modDict_sensor (s : State) (k : Nat) (f : DictSt → DictSt) : (s.modDict k f).sensor = s.sensor := rfl
@[simp] theorem State.modDict_os (s : State) (k : Nat) (f : DictSt → DictSt) : (s.modDict k f).os = s.os := rfl
@[simp] theorem State.modDict_cmds (s : State) (k : Nat) (f : DictSt → DictSt) : (s.modDict k f).cmds = s.cmds := rfl
@[simp] theorem State.modDict_deferred (s : State) (k : Nat) (f : DictSt → DictSt) : (s.modDict k f).deferred = s.deferred := rfl
@[simp] theorem State.modDict_heldCpl (s : State) (k : Nat) (f : DictSt → DictSt) : (s.modDict k f).heldCpl = s.heldCpl := rfl
@[simp] theorem State.modDict_lastCtrl (s : State) (k : Nat) (f : DictSt → DictSt) : (s.modDict k f).lastCtrl = s.lastCtrl := rfl
@[simp] theorem State.modDict_ctrl (s : State) (k : Nat) (f : DictSt → DictSt) : (s.modDict k f).ctrl = s.ctrl := rfl
@[simp] theorem State.modDict_buf (s : State) (k : Nat) (f : DictSt → DictSt) : (s.modDict k f).buf = s.buf := rfl
@[simp] theorem State.modDict_cache (s : State) (k : Nat) (f : DictSt → DictSt) : (s.modDict k f).cache = s.cache := rfl
@[simp] theorem State.modDict_pair (s : State) (k : Nat) (f : DictSt → DictSt) : (s.modDict k f).pair = s.pair := rfl
@[simp] theorem State.modDict_casc (s : State) (k : Nat) (f : DictSt → DictSt) : (s.modDict k f).casc = s.casc := rfl
@[simp] theorem State.modDict_fw (s : State) (k : Nat) (f : DictSt → DictSt) : (s.modDict k f).fw = s.fw := rfl
@[simp] theorem State.modDict_jf (s : State) (k : Nat) (f : DictSt → DictSt) : (s.modDict k f).jf = s.jf := rfl
@[simp] theorem State.modDict_er (s : State) (k : Nat) (f : DictSt → DictSt) : (s.modDict k f).er = s.er := rfl
@[simp] theorem State.modDict_set (s : State) (k : Nat) (f : DictSt → DictSt) : (s.modDict k f).set = s.set := rfl
@[simp] theorem State.modDict_fuse (s : State) (k : Nat) (f : DictSt → DictSt) : (s.modDict k f).fuse = s.fuse := rfl
@[simp] theorem State.modDict_kdapTx (s : State) (k : Nat) (f : DictSt → DictSt) : (s.modDict k f).kdapTx = s.kdapTx := rfl
@[simp] theorem State.modDict_mon (s : State) (k : Nat) (f : DictSt → DictSt) : (s.modDict k f).mon = s.mon := rfl
@[simp] theorem State.modDict_emcy (s : State) (k : Nat) (f : DictSt → DictSt) : (s.modDict k f).emcy = s.emcy := rfl
@[simp] theorem State.modDict_answers (s : State) (k : Nat) (f : DictSt → DictSt) : (s.modDict k f).answers = s.answers := rfl
@[simp] theorem State.modDict_accHeld (s : State) (k : Nat) (f : DictSt → DictSt) : (s.modDict k f).accHeld = s.accHeld := rfl

/-! ## What `putFuse` leaves alone -/

@[simp] theorem State.putFuse_pending (s : State) (k : Nat) (v : FuseSt) : (s.putFuse k v).pending = s.pending := rfl
@[simp] theorem State.putFuse_now (s : State) (k : Nat) (v : FuseSt) : (s.putFuse k v).now = s.now := rfl
@[simp] theorem State.putFuse_fresh (s : State) (k : Nat) (v : FuseSt) : (s.putFuse k v).fresh = s.fresh := rfl
@[simp] theorem State.putFuse_obj (s : State) (k : Nat) (v : FuseSt) : (s.putFuse k v).obj = s.obj := rfl
@[simp] theorem State.putFuse_blob (s : State) (k : Nat) (v : FuseSt) : (s.putFuse k v).blob = s.blob := rfl
@[simp] theorem State.putFuse_mode (s : State) (k : Nat) (v : FuseSt) : (s.putFuse k v).mode = s.mode := rfl
@[simp] theorem State.putFuse_sup (s : State) (k : Nat) (v : FuseSt) : (s.putFuse k v).sup = s.sup := rfl
@[simp] theorem State.putFuse_port (s : State) (k : Nat) (v : FuseSt) : (s.putFuse k v).port = s.port := rfl
@[simp] theorem State.putFuse_line (s : State) (k : Nat) (v : FuseSt) : (s.putFuse k v).line = s.line := rfl
@[simp] theorem State.putFuse_pn2 (s : State) (k : Nat) (v : FuseSt) : (s.putFuse k v).pn2 = s.pn2 := rfl
@[simp] theorem State.putFuse_chan (s : State) (k : Nat) (v : FuseSt) : (s.putFuse k v).chan = s.chan := rfl
@[simp] theorem State.putFuse_plan (s : State) (k : Nat) (v : FuseSt) : (s.putFuse k v).plan = s.plan := rfl
@[simp] theorem State.putFuse_srv (s : State) (k : Nat) (v : FuseSt) : (s.putFuse k v).srv = s.srv := rfl
@[simp] theorem State.putFuse_shadow (s : State) (k : Nat) (v : FuseSt) : (s.putFuse k v).shadow = s.shadow := rfl
@[simp] theorem State.putFuse_spdShadow (s : State) (k : Nat) (v : FuseSt) : (s.putFuse k v).spdShadow = s.spdShadow := rfl
@[simp] theorem State.putFuse_seq (s : State) (k : Nat) (v : FuseSt) : (s.putFuse k v).seq = s.seq := rfl
@[simp] theorem State.putFuse_mc (s : State) (k : Nat) (v : FuseSt) : (s.putFuse k v).mc = s.mc := rfl
@[simp] theorem State.putFuse_fabric (s : State) (k : Nat) (v : FuseSt) : (s.putFuse k v).fabric = s.fabric := rfl
@[simp] theorem State.putFuse_fab (s : State) (k : Nat) (v : FuseSt) : (s.putFuse k v).fab = s.fab := rfl
@[simp] theorem State.putFuse_dma (s : State) (k : Nat) (v : FuseSt) : (s.putFuse k v).dma = s.dma := rfl
@[simp] theorem State.putFuse_raw (s : State) (k : Nat) (v : FuseSt) : (s.putFuse k v).raw = s.raw := rfl
@[simp] theorem State.putFuse_spd (s : State) (k : Nat) (v : FuseSt) : (s.putFuse k v).spd = s.spd := rfl
@[simp] theorem State.putFuse_sweepRef (s : State) (k : Nat) (v : FuseSt) : (s.putFuse k v).sweepRef = s.sweepRef := rfl
@[simp] theorem State.putFuse_rpm (s : State) (k : Nat) (v : FuseSt) : (s.putFuse k v).rpm = s.rpm := rfl
@[simp] theorem State.putFuse_hda (s : State) (k : Nat) (v : FuseSt) : (s.putFuse k v).hda = s.hda := rfl
@[simp] theorem State.putFuse_sensor (s : State) (k : Nat) (v : FuseSt) : (s.putFuse k v).sensor = s.sensor := rfl
@[simp] theorem State.putFuse_os (s : State) (k : Nat) (v : FuseSt) : (s.putFuse k v).os = s.os := rfl
@[simp] theorem State.putFuse_cmds (s : State) (k : Nat) (v : FuseSt) : (s.putFuse k v).cmds = s.cmds := rfl
@[simp] theorem State.putFuse_deferred (s : State) (k : Nat) (v : FuseSt) : (s.putFuse k v).deferred = s.deferred := rfl
@[simp] theorem State.putFuse_heldCpl (s : State) (k : Nat) (v : FuseSt) : (s.putFuse k v).heldCpl = s.heldCpl := rfl
@[simp] theorem State.putFuse_lastCtrl (s : State) (k : Nat) (v : FuseSt) : (s.putFuse k v).lastCtrl = s.lastCtrl := rfl
@[simp] theorem State.putFuse_ctrl (s : State) (k : Nat) (v : FuseSt) : (s.putFuse k v).ctrl = s.ctrl := rfl
@[simp] theorem State.putFuse_buf (s : State) (k : Nat) (v : FuseSt) : (s.putFuse k v).buf = s.buf := rfl
@[simp] theorem State.putFuse_cache (s : State) (k : Nat) (v : FuseSt) : (s.putFuse k v).cache = s.cache := rfl
@[simp] theorem State.putFuse_pair (s : State) (k : Nat) (v : FuseSt) : (s.putFuse k v).pair = s.pair := rfl
@[simp] theorem State.putFuse_casc (s : State) (k : Nat) (v : FuseSt) : (s.putFuse k v).casc = s.casc := rfl
@[simp] theorem State.putFuse_fw (s : State) (k : Nat) (v : FuseSt) : (s.putFuse k v).fw = s.fw := rfl
@[simp] theorem State.putFuse_jf (s : State) (k : Nat) (v : FuseSt) : (s.putFuse k v).jf = s.jf := rfl
@[simp] theorem State.putFuse_er (s : State) (k : Nat) (v : FuseSt) : (s.putFuse k v).er = s.er := rfl
@[simp] theorem State.putFuse_set (s : State) (k : Nat) (v : FuseSt) : (s.putFuse k v).set = s.set := rfl
@[simp] theorem State.putFuse_dict (s : State) (k : Nat) (v : FuseSt) : (s.putFuse k v).dict = s.dict := rfl
@[simp] theorem State.putFuse_kdapTx (s : State) (k : Nat) (v : FuseSt) : (s.putFuse k v).kdapTx = s.kdapTx := rfl
@[simp] theorem State.putFuse_mon (s : State) (k : Nat) (v : FuseSt) : (s.putFuse k v).mon = s.mon := rfl
@[simp] theorem State.putFuse_emcy (s : State) (k : Nat) (v : FuseSt) : (s.putFuse k v).emcy = s.emcy := rfl
@[simp] theorem State.putFuse_answers (s : State) (k : Nat) (v : FuseSt) : (s.putFuse k v).answers = s.answers := rfl
@[simp] theorem State.putFuse_accHeld (s : State) (k : Nat) (v : FuseSt) : (s.putFuse k v).accHeld = s.accHeld := rfl

/-! ## What `modFuse` leaves alone -/

@[simp] theorem State.modFuse_pending (s : State) (k : Nat) (f : FuseSt → FuseSt) : (s.modFuse k f).pending = s.pending := rfl
@[simp] theorem State.modFuse_now (s : State) (k : Nat) (f : FuseSt → FuseSt) : (s.modFuse k f).now = s.now := rfl
@[simp] theorem State.modFuse_fresh (s : State) (k : Nat) (f : FuseSt → FuseSt) : (s.modFuse k f).fresh = s.fresh := rfl
@[simp] theorem State.modFuse_obj (s : State) (k : Nat) (f : FuseSt → FuseSt) : (s.modFuse k f).obj = s.obj := rfl
@[simp] theorem State.modFuse_blob (s : State) (k : Nat) (f : FuseSt → FuseSt) : (s.modFuse k f).blob = s.blob := rfl
@[simp] theorem State.modFuse_mode (s : State) (k : Nat) (f : FuseSt → FuseSt) : (s.modFuse k f).mode = s.mode := rfl
@[simp] theorem State.modFuse_sup (s : State) (k : Nat) (f : FuseSt → FuseSt) : (s.modFuse k f).sup = s.sup := rfl
@[simp] theorem State.modFuse_port (s : State) (k : Nat) (f : FuseSt → FuseSt) : (s.modFuse k f).port = s.port := rfl
@[simp] theorem State.modFuse_line (s : State) (k : Nat) (f : FuseSt → FuseSt) : (s.modFuse k f).line = s.line := rfl
@[simp] theorem State.modFuse_pn2 (s : State) (k : Nat) (f : FuseSt → FuseSt) : (s.modFuse k f).pn2 = s.pn2 := rfl
@[simp] theorem State.modFuse_chan (s : State) (k : Nat) (f : FuseSt → FuseSt) : (s.modFuse k f).chan = s.chan := rfl
@[simp] theorem State.modFuse_plan (s : State) (k : Nat) (f : FuseSt → FuseSt) : (s.modFuse k f).plan = s.plan := rfl
@[simp] theorem State.modFuse_srv (s : State) (k : Nat) (f : FuseSt → FuseSt) : (s.modFuse k f).srv = s.srv := rfl
@[simp] theorem State.modFuse_shadow (s : State) (k : Nat) (f : FuseSt → FuseSt) : (s.modFuse k f).shadow = s.shadow := rfl
@[simp] theorem State.modFuse_spdShadow (s : State) (k : Nat) (f : FuseSt → FuseSt) : (s.modFuse k f).spdShadow = s.spdShadow := rfl
@[simp] theorem State.modFuse_seq (s : State) (k : Nat) (f : FuseSt → FuseSt) : (s.modFuse k f).seq = s.seq := rfl
@[simp] theorem State.modFuse_mc (s : State) (k : Nat) (f : FuseSt → FuseSt) : (s.modFuse k f).mc = s.mc := rfl
@[simp] theorem State.modFuse_fabric (s : State) (k : Nat) (f : FuseSt → FuseSt) : (s.modFuse k f).fabric = s.fabric := rfl
@[simp] theorem State.modFuse_fab (s : State) (k : Nat) (f : FuseSt → FuseSt) : (s.modFuse k f).fab = s.fab := rfl
@[simp] theorem State.modFuse_dma (s : State) (k : Nat) (f : FuseSt → FuseSt) : (s.modFuse k f).dma = s.dma := rfl
@[simp] theorem State.modFuse_raw (s : State) (k : Nat) (f : FuseSt → FuseSt) : (s.modFuse k f).raw = s.raw := rfl
@[simp] theorem State.modFuse_spd (s : State) (k : Nat) (f : FuseSt → FuseSt) : (s.modFuse k f).spd = s.spd := rfl
@[simp] theorem State.modFuse_sweepRef (s : State) (k : Nat) (f : FuseSt → FuseSt) : (s.modFuse k f).sweepRef = s.sweepRef := rfl
@[simp] theorem State.modFuse_rpm (s : State) (k : Nat) (f : FuseSt → FuseSt) : (s.modFuse k f).rpm = s.rpm := rfl
@[simp] theorem State.modFuse_hda (s : State) (k : Nat) (f : FuseSt → FuseSt) : (s.modFuse k f).hda = s.hda := rfl
@[simp] theorem State.modFuse_sensor (s : State) (k : Nat) (f : FuseSt → FuseSt) : (s.modFuse k f).sensor = s.sensor := rfl
@[simp] theorem State.modFuse_os (s : State) (k : Nat) (f : FuseSt → FuseSt) : (s.modFuse k f).os = s.os := rfl
@[simp] theorem State.modFuse_cmds (s : State) (k : Nat) (f : FuseSt → FuseSt) : (s.modFuse k f).cmds = s.cmds := rfl
@[simp] theorem State.modFuse_deferred (s : State) (k : Nat) (f : FuseSt → FuseSt) : (s.modFuse k f).deferred = s.deferred := rfl
@[simp] theorem State.modFuse_heldCpl (s : State) (k : Nat) (f : FuseSt → FuseSt) : (s.modFuse k f).heldCpl = s.heldCpl := rfl
@[simp] theorem State.modFuse_lastCtrl (s : State) (k : Nat) (f : FuseSt → FuseSt) : (s.modFuse k f).lastCtrl = s.lastCtrl := rfl
@[simp] theorem State.modFuse_ctrl (s : State) (k : Nat) (f : FuseSt → FuseSt) : (s.modFuse k f).ctrl = s.ctrl := rfl
@[simp] theorem State.modFuse_buf (s : State) (k : Nat) (f : FuseSt → FuseSt) : (s.modFuse k f).buf = s.buf := rfl
@[simp] theorem State.modFuse_cache (s : State) (k : Nat) (f : FuseSt → FuseSt) : (s.modFuse k f).cache = s.cache := rfl
@[simp] theorem State.modFuse_pair (s : State) (k : Nat) (f : FuseSt → FuseSt) : (s.modFuse k f).pair = s.pair := rfl
@[simp] theorem State.modFuse_casc (s : State) (k : Nat) (f : FuseSt → FuseSt) : (s.modFuse k f).casc = s.casc := rfl
@[simp] theorem State.modFuse_fw (s : State) (k : Nat) (f : FuseSt → FuseSt) : (s.modFuse k f).fw = s.fw := rfl
@[simp] theorem State.modFuse_jf (s : State) (k : Nat) (f : FuseSt → FuseSt) : (s.modFuse k f).jf = s.jf := rfl
@[simp] theorem State.modFuse_er (s : State) (k : Nat) (f : FuseSt → FuseSt) : (s.modFuse k f).er = s.er := rfl
@[simp] theorem State.modFuse_set (s : State) (k : Nat) (f : FuseSt → FuseSt) : (s.modFuse k f).set = s.set := rfl
@[simp] theorem State.modFuse_dict (s : State) (k : Nat) (f : FuseSt → FuseSt) : (s.modFuse k f).dict = s.dict := rfl
@[simp] theorem State.modFuse_kdapTx (s : State) (k : Nat) (f : FuseSt → FuseSt) : (s.modFuse k f).kdapTx = s.kdapTx := rfl
@[simp] theorem State.modFuse_mon (s : State) (k : Nat) (f : FuseSt → FuseSt) : (s.modFuse k f).mon = s.mon := rfl
@[simp] theorem State.modFuse_emcy (s : State) (k : Nat) (f : FuseSt → FuseSt) : (s.modFuse k f).emcy = s.emcy := rfl
@[simp] theorem State.modFuse_answers (s : State) (k : Nat) (f : FuseSt → FuseSt) : (s.modFuse k f).answers = s.answers := rfl
@[simp] theorem State.modFuse_accHeld (s : State) (k : Nat) (f : FuseSt → FuseSt) : (s.modFuse k f).accHeld = s.accHeld := rfl

end Sys2Proof.Machine
end

