-- ==== Sys2Proof/Laws/Access.lean ====
section
/-! SUPPORT. What the shared operations of accesses do when their checks pass: a sequencer word, a write of an object, a host command that
begins, a management frame taken, a monitor line run. -/

open Sys2Proof

namespace Sys2Proof.Machine

theorem seqRun_ready {s u : State} {q : SeqId} {w : MicroWord} (o : SeqOp) (h : s.SeqReady q o w u)
    (hk : (q.xfer && o.mediaOnly || !q.xfer && o.xferOnly) = false) :
    s.seqRun q o w = u.seqAfter q o w (u.op q o w) := by
  obtain ⟨a, b, d, rfl⟩ := h
  have e : (q.xfer && decide (0xD ≤ w.timing.toNat)) = false := by
    cases hx : q.xfer
    · rfl
    · simp [Nat.not_le.mpr (d hx)]
  simp only [State.seqRun, State.seqWord, a, b]
  simp only [Bool.or_eq_false_iff] at hk
  simp [hk.1, hk.2, e]

theorem tryWrite_accepted {s : State} {q : Requester} {u : UnitId} {i j : Nat} {d : List Byte} (f : State → State)
    (h : s.mode.cur ≠ .switchover) (he : s.writeErr u i j q d = 0) : s.tryWrite q u i j d 0 f = (f s).answer q 0 := by
  simp [State.tryWrite, State.hold, h, he]

theorem tryKey_accepted {s : State} {q : Requester} {u : UnitId} {k : Nat} {d : List Byte} (f : State → State)
    (h : s.Accepts q u k d) : s.tryKey q u k d 0 f = (f s).answer q 0 := tryWrite_accepted f h.1 h.2

theorem hold_now {s : State} (c : WaitingAccess) (f : State → State) (h : s.mode.cur ≠ .switchover) : s.hold c f = f s := by
  simp [State.hold, h]

theorem mcWrite_accepted {s : State} {q : Requester} {u : UnitId} {k : Nat} {d : List Byte} (f : State → State)
    (h : s.Accepts q u k d) : s.mcWrite q u k d f = (f s).answer q 0 := by
  have h' := h
  obtain ⟨a, b⟩ := h
  simp [State.mcWrite, State.hold, a, b, tryKey_accepted f h']

theorem begin_now {s : State} {t : CmdTag} {n : Nat} (f : State → State) (h : s.Begins t n) : s.begin t n f = f (s.fetch t n).1 := by
  obtain ⟨a, b, c⟩ := h
  unfold State.begin
  rw [if_neg (by simpa using a)]
  rcases e : s.fetch t n with ⟨x, y⟩
  simp only [e] at b c
  subst b
  simp [c]

theorem beginIo_now {s : State} {t : CmdTag} {n : Nat} (f : State → State) (h : s.BeginsIo t n) :
    s.beginIo t n f = f (s.fetch t n).1 := by
  unfold State.beginIo
  rw [begin_now _ h.1, if_pos h.2]

theorem admin_now {s r : State} {t : CmdTag} (f : State → State) (h : s.Begins t 0)
    (e : r = (s.fetch t 0).1.modCmd t (fun c => { c with kind := .admin })) : s.admin t f = .next (f r).settle := by
  unfold State.admin
  rw [begin_now _ h, ← e]
  rfl

theorem kdapTake_heard {s : State} {u : UnitId} {f : KdapFrame} {b : Bool} (g : State → State) (h : s.Hears f b) :
    s.kdapTake u f b g = g (s.inc (Obj.KDAP_RX u)) := by
  obtain ⟨h1, h2, h3, h4, h5⟩ := h
  simp [State.kdapTake, h1, h2, h3, h5, Nat.not_le.mpr h4]

theorem kdapAt_heard {s : State} {u t : UnitId} {f : KdapFrame} (g : State → UnitId → State) (h : s.Hears f false)
    (hf : f.target.toNat < 4) (ht : (s.inc (Obj.KDAP_RX u)).kdapTarget u f = some t) :
    s.kdapAt u f g = g (s.inc (Obj.KDAP_RX u)) t := by
  simp only [State.kdapAt, kdapTake_heard _ h, ht, if_neg (Nat.not_le.mpr hf)]

theorem getFuse_answer (s : State) (q : Requester) (n e : Nat) (d : List Byte) : (s.answer q e d).getFuse n = s.getFuse n := rfl
theorem getFuse_wr (s : State) (k v n : Nat) : (s.wr k v).getFuse n = s.getFuse n := rfl

theorem State.inc_pair (s : State) (k : Nat) : (s.inc k).pair = s.pair := rfl
theorem State.inc_mon (s : State) (k : Nat) : (s.inc k).mon = s.mon := rfl
theorem State.inc_dict (s : State) (k : Nat) : (s.inc k).dict = s.dict := rfl
theorem State.inc_session (s : State) (k : Nat) (u : UnitId) (q : Requester) : (s.inc k).session u q = s.session u q := rfl
theorem State.inc_rd_ne (s : State) {k j : Nat} (h : j ≠ k) : (s.inc k).rd j = s.rd j := by
  simp only [State.inc, State.add]
  exact State.rd_wr_ne _ _ h
theorem monLock_ne (u w : UnitId) : Obj.MON_LOCK u ≠ Obj.MON_LINES w := by
  unfold Obj.MON_LOCK Obj.MON_LINES unitBase
  cases u <;> cases w <;> decide
theorem lineIn_pair (s : State) : s.lineIn.pair = s.pair := State.inc_pair _ _
theorem lineIn_session (s : State) (u : UnitId) (q : Requester) : s.lineIn.session u q = s.session u q := State.inc_session _ _ _ _
theorem lineIn_lock (s : State) (u : UnitId) : s.lineIn.rd (Obj.MON_LOCK u) = s.rd (Obj.MON_LOCK u) :=
  State.inc_rd_ne _ (monLock_ne _ _)

theorem monRun_runs {s r : State} {e : Bool} {f : State → State × List MonOut × Nat} {o : List MonOut} {n : Nat}
    (h : s.RunsLine r e) (hf : f s.lineIn = (r, o, n)) : s.monRun e f = (r.monPrint o).monEnd n := by
  obtain ⟨a, b, c⟩ := h
  unfold State.monRun
  rw [if_neg (by simp [a])]
  change (if _ then _ else _) = _
  have hp := lineIn_pair s
  have hs := lineIn_session s s.pair.active .monitor
  have hl := lineIn_lock s s.pair.active
  change (if (s.lineIn.rd (Obj.MON_LOCK s.lineIn.pair.active) = 1 && !e && !s.lineIn.session s.lineIn.pair.active .monitor) = true then
    s.lineIn.monEnd 6 else (match f s.lineIn with | (s, out, err) => if s.monUp then (s.monPrint out).monEnd err else s)) = _
  rw [hp, hl, hs, hf]
  simp only [c, if_true]
  rw [if_neg]
  rcases b with b | b | b <;> simp [b]

theorem monRunAt_runs {s r : State} {m : MonUnit} {e : Bool} {f : State → State × List MonOut × Nat} {o : List MonOut} {n : Nat}
    (h : s.RunsLine r e) (hr : s.lineIn.monReach m = true) (hf : f s.lineIn = (r, o, n)) : s.monRunAt m e f = (r.monPrint o).monEnd n :=
  monRun_runs h (by rw [if_pos hr]; exact hf)

end Sys2Proof.Machine
end

