-- ==== Sys2Proof/Laws/Standing.lean ====
section
/-! SUPPORT. What the shared operations leave standing: the queue of waiting commands and the fuses. One lemma for each operation. The
operations of the ports, spindles, buffers and of the mode. -/

set_option linter.unusedSimpArgs false
set_option linter.unusedVariables false

open Sys2Proof

namespace Sys2Proof.Machine

/-- The part of the state that no command but a write of a fuse changes: the queue and the fuses. -/
def State.standing (s : State) : List Instr × Map FuseSt := (s.pending, s.fuse)
@[simp] theorem State.standing_mk (s : State) {x1 x2 x3 x4 x5 x6 x7 x8 x9 x10 x11 x12 x13 x14 x15 x16 x17 x18 x19 x20 x21 x22 x23 x24 x25 x26 x27 x28 x29 x30 x31 x32 x33 x34 x35 x36 x37 x38 x39 x40 x42 x43 x44 x45 x46} :
    State.standing (State.mk s.pending x1 x2 x3 x4 x5 x6 x7 x8 x9 x10 x11 x12 x13 x14 x15 x16 x17 x18 x19 x20 x21 x22 x23 x24 x25 x26 x27 x28 x29 x30 x31 x32 x33 x34 x35 x36 x37 x38 x39 x40 s.fuse x42 x43 x44 x45 x46) = s.standing := (rfl)
@[simp] theorem nextOf_next (s t : State) : nextOf s (.next t) = t := by unfold nextOf; rfl
theorem foldl_standing {α : Type} {f : State → α → State} (h : ∀ s x, (f s x).standing = s.standing) (l : List α) (s : State) :
    (l.foldl f s).standing = s.standing := by
  induction l generalizing s with
  | nil => rfl
  | cons x l ih => simp [ih, h]

@[simp] theorem State.wr_standing (s : State) (k v : Nat) : (s.wr k v).standing = s.standing := (rfl)
@[simp] theorem State.wrBlob_standing (s : State) (k : Nat) (v : List Byte) : (s.wrBlob k v).standing = s.standing := (rfl)
@[simp] theorem State.putPort_standing (s : State) (k : Nat) (v : PortSt) : (s.putPort k v).standing = s.standing := (rfl)
@[simp] theorem State.modPort_standing (s : State) (k : Nat) (f : PortSt → PortSt) : (s.modPort k f).standing = s.standing := (rfl)
@[simp] theorem State.putLine_standing (s : State) (k : Nat) (v : LineSt) : (s.putLine k v).standing = s.standing := (rfl)
@[simp] theorem State.modLine_standing (s : State) (k : Nat) (f : LineSt → LineSt) : (s.modLine k f).standing = s.standing := (rfl)
@[simp] theorem State.putPn2_standing (s : State) (k : Nat) (v : Pn2St) : (s.putPn2 k v).standing = s.standing := (rfl)
@[simp] theorem State.modPn2_standing (s : State) (k : Nat) (f : Pn2St → Pn2St) : (s.modPn2 k f).standing = s.standing := (rfl)
@[simp] theorem State.putChan_standing (s : State) (k : Nat) (v : ChanSt) : (s.putChan k v).standing = s.standing := (rfl)
@[simp] theorem State.modChan_standing (s : State) (k : Nat) (f : ChanSt → ChanSt) : (s.modChan k f).standing = s.standing := (rfl)
@[simp] theorem State.putPlan_standing (s : State) (k : Nat) (v : PlanSt) : (s.putPlan k v).standing = s.standing := (rfl)
@[simp] theorem State.modPlan_standing (s : State) (k : Nat) (f : PlanSt → PlanSt) : (s.modPlan k f).standing = s.standing := (rfl)
@[simp] theorem State.putSrv_standing (s : State) (k : Nat) (v : SrvSt) : (s.putSrv k v).standing = s.standing := (rfl)
@[simp] theorem State.modSrv_standing (s : State) (k : Nat) (f : SrvSt → SrvSt) : (s.modSrv k f).standing = s.standing := (rfl)
@[simp] theorem State.putShadow_standing (s : State) (k : Nat) (v : SrvSt) : (s.putShadow k v).standing = s.standing := (rfl)
@[simp] theorem State.modShadow_standing (s : State) (k : Nat) (f : SrvSt → SrvSt) : (s.modShadow k f).standing = s.standing := (rfl)
@[simp] theorem State.putSpdShadow_standing (s : State) (k : Nat) (v : SpdSt) : (s.putSpdShadow k v).standing = s.standing := (rfl)
@[simp] theorem State.modSpdShadow_standing (s : State) (k : Nat) (f : SpdSt → SpdSt) : (s.modSpdShadow k f).standing = s.standing := (rfl)
@[simp] theorem State.putSeq_standing (s : State) (k : Nat) (v : SeqSt) : (s.putSeq k v).standing = s.standing := (rfl)
@[simp] theorem State.modSeq_standing (s : State) (k : Nat) (f : SeqSt → SeqSt) : (s.modSeq k f).standing = s.standing := (rfl)
@[simp] theorem State.putFab_standing (s : State) (k : Nat) (v : FabSt) : (s.putFab k v).standing = s.standing := (rfl)
@[simp] theorem State.modFab_standing (s : State) (k : Nat) (f : FabSt → FabSt) : (s.modFab k f).standing = s.standing := (rfl)
@[simp] theorem State.putDma_standing (s : State) (k : Nat) (v : DmaSt) : (s.putDma k v).standing = s.standing := (rfl)
@[simp] theorem State.modDma_standing (s : State) (k : Nat) (f : DmaSt → DmaSt) : (s.modDma k f).standing = s.standing := (rfl)
@[simp] theorem State.putRaw_standing (s : State) (k : Nat) (v : RawSt) : (s.putRaw k v).standing = s.standing := (rfl)
@[simp] theorem State.modRaw_standing (s : State) (k : Nat) (f : RawSt → RawSt) : (s.modRaw k f).standing = s.standing := (rfl)
@[simp] theorem State.putSpd_standing (s : State) (k : Nat) (v : SpdSt) : (s.putSpd k v).standing = s.standing := (rfl)
@[simp] theorem State.modSpd_standing (s : State) (k : Nat) (f : SpdSt → SpdSt) : (s.modSpd k f).standing = s.standing := (rfl)
@[simp] theorem State.putHda_standing (s : State) (k : Nat) (v : HdaSt) : (s.putHda k v).standing = s.standing := (rfl)
@[simp] theorem State.modHda_standing (s : State) (k : Nat) (f : HdaSt → HdaSt) : (s.modHda k f).standing = s.standing := (rfl)
@[simp] theorem State.putSensor_standing (s : State) (k : Nat) (v : Reading) : (s.putSensor k v).standing = s.standing := (rfl)
@[simp] theorem State.modSensor_standing (s : State) (k : Nat) (f : Reading → Reading) : (s.modSensor k f).standing = s.standing := (rfl)
@[simp] theorem State.putCtrl_standing (s : State) (k : Nat) (v : CtrlSt) : (s.putCtrl k v).standing = s.standing := (rfl)
@[simp] theorem State.modCtrl_standing (s : State) (k : Nat) (f : CtrlSt → CtrlSt) : (s.modCtrl k f).standing = s.standing := (rfl)
@[simp] theorem State.putBuf_standing (s : State) (k : Nat) (v : BufSt) : (s.putBuf k v).standing = s.standing := (rfl)
@[simp] theorem State.modBuf_standing (s : State) (k : Nat) (f : BufSt → BufSt) : (s.modBuf k f).standing = s.standing := (rfl)
@[simp] theorem State.putCache_standing (s : State) (k : Nat) (v : CacheSt) : (s.putCache k v).standing = s.standing := (rfl)
@[simp] theorem State.modCache_standing (s : State) (k : Nat) (f : CacheSt → CacheSt) : (s.modCache k f).standing = s.standing := (rfl)
@[simp] theorem State.putFw_standing (s : State) (k : Nat) (v : FwSt) : (s.putFw k v).standing = s.standing := (rfl)
@[simp] theorem State.modFw_standing (s : State) (k : Nat) (f : FwSt → FwSt) : (s.modFw k f).standing = s.standing := (rfl)
@[simp] theorem State.putJf_standing (s : State) (k : Nat) (v : JfSt) : (s.putJf k v).standing = s.standing := (rfl)
@[simp] theorem State.modJf_standing (s : State) (k : Nat) (f : JfSt → JfSt) : (s.modJf k f).standing = s.standing := (rfl)
@[simp] theorem State.putEr_standing (s : State) (k : Nat) (v : ErSt) : (s.putEr k v).standing = s.standing := (rfl)
@[simp] theorem State.modEr_standing (s : State) (k : Nat) (f : ErSt → ErSt) : (s.modEr k f).standing = s.standing := (rfl)
@[simp] theorem State.putSet_standing (s : State) (k : Nat) (v : SetSt) : (s.putSet k v).standing = s.standing := (rfl)
@[simp] theorem State.modSet_standing (s : State) (k : Nat) (f : SetSt → SetSt) : (s.modSet k f).standing = s.standing := (rfl)
@[simp] theorem State.putDict_standing (s : State) (k : Nat) (v : DictSt) : (s.putDict k v).standing = s.standing := (rfl)
@[simp] theorem State.modDict_standing (s : State) (k : Nat) (f : DictSt → DictSt) : (s.modDict k f).standing = s.standing := (rfl)
@[simp] theorem nextOf_after (s t : State) : nextOf s (State.after t) = t.grave := by unfold State.after; exact nextOf_next _ _
@[simp] theorem nextOf_conclude (s t : State) : nextOf s (State.conclude t) = t.settle := by unfold State.conclude; exact nextOf_next _ _

/-- The state that an operation of a sequencer leaves. -/
def OpRes.st (r : OpRes) (s : State) : State :=
  match r with
  | .done t _ | .ends t | .stop t _ => t
  | .blocked | .index => s
@[simp] theorem OpRes.st_done (s t : State) (n : BitVec 12) : (OpRes.done t n).st s = t := (rfl)
@[simp] theorem OpRes.st_ends (s t : State) : (OpRes.ends t).st s = t := (rfl)
@[simp] theorem OpRes.st_stop (s t : State) (f : Flag) : (OpRes.stop t f).st s = t := (rfl)
@[simp] theorem OpRes.st_blocked (s : State) : OpRes.blocked.st s = s := (rfl)
@[simp] theorem OpRes.st_index (s : State) : OpRes.index.st s = s := (rfl)
@[simp] theorem OpRes.st_ite (c : Prop) [Decidable c] (x y : OpRes) (s : State) : (if c then x else y).st s = if c then x.st s else y.st s := by
  split <;> rfl
@[simp] theorem OpRes.st_go (s t : State) (w : MicroWord) : (OpRes.go t w).st s = t := (rfl)
@[simp] theorem OpRes.st_branch (s t : State) (w : MicroWord) (c : Bool) : (OpRes.branch t w c).st s = t := (rfl)
@[simp] theorem State.seqSet_st (s t : State) (q : SeqId) (w : MicroWord) (v : Word) : ((s.seqSet q w v).st t).standing = s.standing := by
  unfold State.seqSet
  split
  · simp
  · split
    · simp
    · simp

@[simp] theorem State.add_standing (s : State) (k : Nat) (n : Nat) : (State.add s k n).standing = s.standing := by
  simp [State.add]

@[simp] theorem State.inc_standing (s : State) (k : Nat) : (State.inc s k).standing = s.standing := by
  simp [State.inc]

@[simp] theorem State.setBit_standing (s : State) (k : Nat) (i : Nat) (b : Bool) : (State.setBit s k i b).standing = s.standing := by
  simp [State.setBit, apply_ite State.standing]

@[simp] theorem State.next_standing (s : State) : (State.next s).2.standing = s.standing := by
  simp [State.next]

@[simp] theorem State.forEach_standing {α : Type} (s : State) (l : List α) (f : State → α → State) (h0 : ∀ (y0 : State) (y1 : α), (f y0 y1).standing = y0.standing) : (State.forEach s l f).standing = s.standing := by
  exact foldl_standing h0 l s

@[simp] theorem State.modLink_standing (s : State) (u : UnitId) (h : Nat) (f : GriugLink → GriugLink) : (State.modLink s u h f).standing = s.standing := by
  simp [State.modLink]

@[simp] theorem State.sendHop_standing (s : State) (h : Nat) (p : Packet) : (State.sendHop s h p).standing = s.standing := by
  unfold State.sendHop; split <;> simp [apply_ite State.standing]

@[simp] theorem State.send_standing (s : State) (body : PktBody) (dest : Nat) (tag : optParam Nat 0) (offset : optParam Nat 0) : (State.send s body dest tag offset).standing = s.standing := by
  simp [State.send, apply_ite State.standing]

@[simp] theorem State.emergency_standing (s : State) (m : Emcy) : (State.emergency s m).standing = s.standing := by
  simp [State.emergency, apply_ite State.standing]

@[simp] theorem State.traced_standing (s : State) (key : Nat) (old : Nat) (new : Nat) : (State.traced s key old new).standing = s.standing := by
  simp [State.traced, apply_ite State.standing]

@[simp] theorem State.erNote_standing (s : State) (u : UnitId) (f : Flag) : (State.erNote s u f).standing = s.standing := by
  simp [State.erNote, apply_ite State.standing]

@[simp] theorem State.logOn_standing (s : State) (u : UnitId) (r : Rec) : (State.logOn s u r).standing = s.standing := by
  unfold State.logOn; dsimp only; (repeat' split) <;> simp [apply_ite State.standing]

@[simp] theorem State.log_standing (s : State) (r : Rec) : (State.log s r).standing = s.standing := by
  simp [State.log, apply_ite State.standing]

@[simp] theorem State.logPlain_standing (s : State) (ty : Nat) (body : List Byte) : (State.logPlain s ty body).standing = s.standing := by
  simp [State.logPlain]

@[simp] theorem State.logFirmware_standing (s : State) (u : UnitId) (cls : FaultClass) : (State.logFirmware s u cls).standing = s.standing := by
  simp [State.logFirmware]

@[simp] theorem State.pulse_standing (s : State) (u : UnitId) (e : Nat) : (State.pulse s u e).standing = s.standing := by
  simp [State.pulse]

@[simp] theorem State.aerSlots_standing (s : State) : (State.aerSlots s).standing = s.standing := by
  simp [State.aerSlots]

@[simp] theorem State.aenAll_standing (s : State) (mask : Nat) (a : Aen) : (State.aenAll s mask a).standing = s.standing := by
  simp [State.aenAll, apply_ite State.standing]

@[simp] theorem State.smartEvent_standing (s : State) : (State.smartEvent s).standing = s.standing := by
  simp [State.smartEvent]

@[simp] theorem State.raise_standing (s : State) (x : Site) (fs : List Flag) (cls : optParam (Option FaultClass) Option.none) : (State.raise s x fs cls).standing = s.standing := by
  simp [State.raise, apply_ite State.standing]

@[simp] theorem State.lower_standing (s : State) (x : Site) (f : Flag) : (State.lower s x f).standing = s.standing := by
  simp [State.lower]

@[simp] theorem State.modUnit_standing (s : State) (u : UnitId) (f : UnitSt → UnitSt) : (State.modUnit s u f).standing = s.standing := by
  simp [State.modUnit]

@[simp] theorem State.stage_standing (s : State) (k : Nat) : (State.stage s k).standing = s.standing := by
  simp [State.stage]

@[simp] theorem State.countMode_standing (s : State) : (State.countMode s).standing = s.standing := by
  simp [State.countMode, apply_ite State.standing]

@[simp] theorem State.setMode_standing (s : State) (m : Mode) (c : ModeCause) : (State.setMode s m c).standing = s.standing := by
  simp [State.setMode]

@[simp] theorem State.freeBytes_standing (s : State) (len : Nat) : (State.freeBytes s len).2.standing = s.standing := by
  simp [State.freeBytes]

@[simp] theorem State.answer_standing (s : State) (dest : Requester) (err : Nat) (data : optParam (List Byte) []) : (State.answer s dest err data).standing = s.standing := by
  simp [State.answer]

@[simp] theorem State.coresRead_standing (s : State) : (State.coresRead s).standing = s.standing := by
  simp [State.coresRead, apply_ite State.standing]

@[simp] theorem State.idle_standing (s : State) : (nextOf s (State.idle s)).standing = s.standing := by
  simp [State.idle, apply_ite State.standing]

@[simp] theorem State.save_standing (s : State) (k : Nat) (v : Nat) : (State.save s k v).standing = s.standing := by
  simp [State.save]

@[simp] theorem State.incSave_standing (s : State) (k : Nat) : (State.incSave s k).standing = s.standing := by
  unfold State.incSave; split <;> simp [apply_ite State.standing]

@[simp] theorem State.store_standing (s : State) (k : Nat) (v : Nat) : (State.store s k v).standing = s.standing := by
  unfold State.store; split <;> simp [apply_ite State.standing]

@[simp] theorem State.modeWritten_standing (s : State) (q : Requester) (u : UnitId) (i : Nat) (sub : Nat) (data : List Byte) : (State.modeWritten s q u i sub data).standing = s.standing := by
  simp [State.modeWritten, apply_ite State.standing]

@[simp] theorem State.lineWritten_standing (s : State) (m : MonUnit) (i : Nat) (sub : Nat) (data : List Byte) : (State.lineWritten s m i sub data).standing = s.standing := by
  simp [State.lineWritten, apply_ite State.standing]

@[simp] theorem State.atOnce_standing (s : State) (c : WaitingAccess) : (State.atOnce s c).standing = s.standing := by
  unfold State.atOnce; (repeat' split) <;> simp

@[simp] theorem State.hold_standing (s : State) (c : WaitingAccess) (run : State → State) (h0 : ∀ (y0 : State), (run y0).standing = y0.standing) : (State.hold s c run).standing = s.standing := by
  simp [State.hold, apply_ite State.standing, h0]

@[simp] theorem State.tryWrite_standing (s : State) (q : Requester) (u : UnitId) (i : Nat) (sub : Nat) (data : List Byte) (own : Nat) (effect : State → State) (h0 : ∀ (y0 : State), (effect y0).standing = y0.standing) : (State.tryWrite s q u i sub data own effect).standing = s.standing := by
  simp [State.tryWrite, apply_ite State.standing, h0]

@[simp] theorem State.tryKey_standing (s : State) (q : Requester) (u : UnitId) (k : Nat) (data : List Byte) (own : Nat) (effect : State → State) (h0 : ∀ (y0 : State), (effect y0).standing = y0.standing) : (State.tryKey s q u k data own effect).standing = s.standing := by
  simp [State.tryKey, h0]

@[simp] theorem State.diag_standing (s : State) (u : UnitId) (c : ReleaseCause) : (State.diag s u c).standing = s.standing := by
  simp [State.diag]

@[simp] theorem State.jfAnswer_standing (s : State) (u : UnitId) (i : JfIface) (w : Nat) (data : optParam (List Byte) []) : (State.jfAnswer s u i w data).standing = s.standing := by
  unfold State.jfAnswer; split <;> simp [apply_ite State.standing]

@[simp] theorem State.jfRun_standing (s : State) (u : UnitId) (i : JfIface) (op : Nat) (addr : BitVec 32) (paged : Bool) (body : State → State × Nat × List Byte) (h0 : ∀ (y0 : State), (body y0).1.standing = y0.standing) : (State.jfRun s u i op addr paged body).standing = s.standing := by
  unfold State.jfRun; split <;> simp [apply_ite State.standing, h0]

@[simp] theorem State.journalExhausted_standing (s : State) (u : UnitId) : (State.journalExhausted s u).standing = s.standing := by
  simp [State.journalExhausted, apply_ite State.standing]

@[simp] theorem State.journalShrink_standing (s : State) (u : UnitId) : (State.journalShrink s u).standing = s.standing := by
  simp [State.journalShrink, apply_ite State.standing]

@[simp] theorem State.jfRetire_standing (s : State) (u : UnitId) (l : Nat) : (State.jfRetire s u l).standing = s.standing := by
  unfold State.jfRetire; dsimp only; (repeat' split) <;> simp [apply_ite State.standing]

@[simp] theorem State.readPage_standing (s : State) (u : UnitId) (i : JfIface) (addr : BitVec 32) (errs : Nat) : (State.readPage s u i addr errs).standing = s.standing := by
  unfold State.readPage; rw [State.jfRun_standing]; intro s; dsimp only; (repeat' split) <;> simp [apply_ite Prod.fst, apply_ite Prod.snd, apply_ite State.standing]

@[simp] theorem State.programPage_standing (s : State) (u : UnitId) (i : JfIface) (addr : BitVec 32) (data : List Byte) : (State.programPage s u i addr data).standing = s.standing := by
  unfold State.programPage; rw [State.jfRun_standing]; intro t; dsimp only; (repeat' split) <;> first | rfl | simp only [State.modJf_standing, State.raise_standing, State.inc_standing]

@[simp] theorem State.programComplete_standing (s : State) (u : UnitId) (errs : Nat) : (State.programComplete s u errs).standing = s.standing := by
  unfold State.programComplete; dsimp only; (repeat' split) <;> simp [apply_ite State.standing]

@[simp] theorem State.eraseBlock_standing (s : State) (u : UnitId) (i : JfIface) (addr : BitVec 32) : (State.eraseBlock s u i addr).standing = s.standing := by
  simp [State.eraseBlock, apply_ite Prod.fst, apply_ite Prod.snd, apply_ite State.standing]

@[simp] theorem State.eraseComplete_standing (s : State) (u : UnitId) (verified : Bool) : (State.eraseComplete s u verified).standing = s.standing := by
  unfold State.eraseComplete; dsimp only; (repeat' split) <;> simp [apply_ite State.standing]

@[simp] theorem State.suspendErase_standing (s : State) (u : UnitId) (i : JfIface) : (State.suspendErase s u i).standing = s.standing := by
  unfold State.suspendErase; split <;> simp [apply_ite State.standing]

@[simp] theorem State.suspendTick_standing (s : State) (u : UnitId) : (State.suspendTick s u).standing = s.standing := by
  unfold State.suspendTick; (repeat' split) <;> simp [apply_ite State.standing]

@[simp] theorem State.eraseSuspend_standing (s : State) (u : UnitId) (i : JfIface) (addr : BitVec 32) : (State.eraseSuspend s u i addr).standing = s.standing := by
  unfold State.eraseSuspend; rw [State.jfRun_standing]; intro s; (repeat' split) <;> simp

@[simp] theorem State.eraseResume_standing (s : State) (u : UnitId) (i : JfIface) (addr : BitVec 32) : (State.eraseResume s u i addr).standing = s.standing := by
  unfold State.eraseResume; rw [State.jfRun_standing]; intro s; dsimp only; (repeat' split) <;> simp [apply_ite Prod.fst, apply_ite Prod.snd, apply_ite State.standing]

@[simp] theorem State.blankCheck_standing (s : State) (u : UnitId) (i : JfIface) (addr : BitVec 32) : (State.blankCheck s u i addr).standing = s.standing := by
  simp [State.blankCheck, apply_ite Prod.fst, apply_ite Prod.snd, apply_ite State.standing]

@[simp] theorem State.readStateRow_standing (s : State) (u : UnitId) (i : JfIface) (addr : BitVec 32) : (State.readStateRow s u i addr).standing = s.standing := by
  simp [State.readStateRow, apply_ite Prod.fst, apply_ite Prod.snd, apply_ite State.standing]

@[simp] theorem State.retireBlock_standing (s : State) (u : UnitId) (i : JfIface) (addr : BitVec 32) : (State.retireBlock s u i addr).standing = s.standing := by
  simp [State.retireBlock, apply_ite Prod.fst, apply_ite Prod.snd, apply_ite State.standing]

@[simp] theorem State.slotRestore_standing (s : State) (u : UnitId) (l : Nat) : (State.slotRestore s u l).standing = s.standing := by
  simp [State.slotRestore, apply_ite State.standing]

@[simp] theorem State.moveMap_standing (s : State) (u : UnitId) (i : JfIface) (addr : BitVec 32) (src : BitVec 16) : (State.moveMap s u i addr src).standing = s.standing := by
  simp [State.moveMap, apply_ite Prod.fst, apply_ite Prod.snd, apply_ite State.standing]

@[simp] theorem State.jfSuspend_standing (s : State) (u : UnitId) : (State.jfSuspend s u).standing = s.standing := by
  simp [State.jfSuspend]

@[simp] theorem State.jfPowerLoss_standing (s : State) (u : UnitId) : (State.jfPowerLoss s u).standing = s.standing := by
  simp [State.jfPowerLoss]

@[simp] theorem State.jfScan_standing (s : State) (u : UnitId) (bad : List (Nat × Bool × Bool)) : (State.jfScan s u bad).standing = s.standing := by
  simp [State.jfScan, apply_ite State.standing]

@[simp] theorem State.clearStatus_standing (s : State) (q : Requester) (x : Site) (ones : Nat) : (State.clearStatus s q x ones).standing = s.standing := by
  simp [State.clearStatus, apply_ite State.standing]

@[simp] theorem execStatusClear_standing (q : Requester) (u : UnitId) (index : Nat) (sub : Nat) (ones : BitVec 16) (s : State) : (nextOf s (execStatusClear q u index sub ones s)).standing = s.standing := by
  unfold execStatusClear; split <;> simp [apply_ite State.standing]

@[simp] theorem State.sendEmergency_standing (s : State) : (State.sendEmergency s).standing = s.standing := by
  unfold State.sendEmergency; split <;> simp [apply_ite State.standing]

@[simp] theorem State.ringErase_standing (s : State) (u : UnitId) (l : Nat) : (State.ringErase s u l).standing = s.standing := by
  simp [State.ringErase]

@[simp] theorem State.erProgram_standing (s : State) (u : UnitId) (now : Bool) (errs : Nat) : (State.erProgram s u now errs).standing = s.standing := by
  simp [State.erProgram, apply_ite State.standing]

@[simp] theorem State.erRead_standing (s : State) (q : Requester) (u : UnitId) : (State.erRead s q u).standing = s.standing := by
  unfold State.erRead; rw [State.hold_standing]; intro s; dsimp only; (repeat' split) <;> simp [apply_ite Prod.fst, apply_ite Prod.snd, apply_ite State.standing]

@[simp] theorem execErRecordRead_standing (q : Requester) (u : UnitId) (s : State) : (nextOf s (execErRecordRead q u s)).standing = s.standing := by
  simp [execErRecordRead]

@[simp] theorem State.random16_standing (s : State) : (State.random16 s).2.standing = s.standing := by
  simp [State.random16]

@[simp] theorem State.erChallenge_standing (s : State) (q : Requester) (u : UnitId) : (State.erChallenge s q u).standing = s.standing := by
  simp [State.erChallenge, apply_ite State.standing]

@[simp] theorem execErChallengeRead_standing (q : Requester) (u : UnitId) (s : State) : (nextOf s (execErChallengeRead q u s)).standing = s.standing := by
  simp [execErChallengeRead]

@[simp] theorem State.erRefuse_standing (s : State) (q : Requester) (u : UnitId) (result : Nat) (challenge : List Byte) : (State.erRefuse s q u result challenge).standing = s.standing := by
  simp [State.erRefuse, apply_ite State.standing]

@[simp] theorem State.erErase_standing (s : State) : (State.erErase s).standing = s.standing := by
  simp [State.erErase, apply_ite State.standing]

@[simp] theorem State.erClear_standing (s : State) (q : Requester) (u : UnitId) (data : List Byte) : (State.erClear s q u data).standing = s.standing := by
  unfold State.erClear; dsimp only; (repeat' split) <;> simp [apply_ite State.standing]

@[simp] theorem execErClearResponseWrite_standing (q : Requester) (u : UnitId) (data : List Byte) (s : State) : (nextOf s (execErClearResponseWrite q u data s)).standing = s.standing := by
  simp [execErClearResponseWrite]

@[simp] theorem State.flip_standing (s : State) (u : UnitId) (g : Nat) (write : Bool) (ws : optParam (List Nat) (List.range 8)) : (State.flip s u g write ws).1.standing = s.standing := by
  unfold State.flip; dsimp only; (repeat' split) <;> simp [apply_ite State.standing]

@[simp] theorem State.logError_standing (s : State) (u : UnitId) (g : Nat) (w : Nat) (k : ErrKind) (pos : List Nat) : (State.logError s u g w k pos).standing = s.standing := by
  unfold State.logError; dsimp only; (repeat' split) <;> simp [apply_ite State.standing]

@[simp] theorem State.countWord_standing (s : State) (u : UnitId) (g : Nat) (w : Nat) (k : WordKind) : (State.countWord s u g w k).standing = s.standing := by
  unfold State.countWord; split <;> simp [apply_ite State.standing]

@[simp] theorem State.readGroup_standing (s : State) (u : UnitId) (g : Nat) (noise : List (Nat × Byte)) (only : optParam (List Nat) (List.range 8)) : (State.readGroup s u g noise only).1.standing = s.standing := by
  simp only [State.readGroup]; rw [foldl_standing (fun s x => by simp)]; simp

@[simp] theorem State.writeWords_standing (s : State) (u : UnitId) (g : Nat) (ws : List (Nat × List Byte × Bool)) : (State.writeWords s u g ws).standing = s.standing := by
  simp [State.writeWords, apply_ite State.standing]

@[simp] theorem State.writeGroup_standing (s : State) (u : UnitId) (g : Nat) (bytes : List Byte) : (State.writeGroup s u g bytes).standing = s.standing := by
  simp [State.writeGroup]

@[simp] theorem State.mergeWriteback_standing (s : State) (u : UnitId) (g : Nat) : (State.mergeWriteback s u g).standing = s.standing := by
  unfold State.mergeWriteback; dsimp only; (repeat' split) <;> simp [apply_ite State.standing]

@[simp] theorem State.mergeFlush_standing (s : State) (u : UnitId) : (State.mergeFlush s u).standing = s.standing := by
  simp [State.mergeFlush]

@[simp] theorem State.remap_standing (s : State) (u : UnitId) (g : Nat) : (State.remap s u g).1.standing = s.standing := by
  unfold State.remap; dsimp only; (repeat' split) <;> simp [apply_ite State.standing]

@[simp] theorem State.readChecked_standing (s : State) (u : UnitId) (g : Nat) (noise : List (Nat × Byte)) (only : optParam (List Nat) (List.range 8)) : (State.readChecked s u g noise only).1.standing = s.standing := by
  unfold State.readChecked; dsimp only; (repeat' split) <;> simp [apply_ite State.standing]

@[simp] theorem State.mergeWrite_standing (s : State) (u : UnitId) (g : Nat) (off : Nat) (bytes : List Byte) (noise : List (Nat × Byte)) : (State.mergeWrite s u g off bytes noise).standing = s.standing := by
  unfold State.mergeWrite; dsimp only; (repeat' split) <;> simp [apply_ite State.standing]

@[simp] theorem State.bufWritePart_standing (s : State) (u : UnitId) (g : Nat) (off : Nat) (bytes : List Byte) (noise : List (Nat × Byte)) : (State.bufWritePart s u g off bytes noise).standing = s.standing := by
  simp [State.bufWritePart, apply_ite State.standing]

@[simp] theorem State.bufReadPart_standing (s : State) (u : UnitId) (g : Nat) (off : Nat) (len : Nat) (noise : List (Nat × Byte)) : (State.bufReadPart s u g off len noise).1.standing = s.standing := by
  unfold State.bufReadPart; dsimp only; (repeat' split) <;> simp [apply_ite State.standing]

@[simp] theorem State.scrubStart_standing (s : State) (u : UnitId) (first : Nat) (last : Nat) (auto : Bool) : (State.scrubStart s u first last auto).standing = s.standing := by
  simp [State.scrubStart, apply_ite State.standing]

@[simp] theorem State.scrubEnd_standing (s : State) (u : UnitId) (result : Nat) : (State.scrubEnd s u result).standing = s.standing := by
  simp [State.scrubEnd]

@[simp] theorem State.wake_standing (s : State) (u : UnitId) : (State.wake s u).standing = s.standing := by
  simp [State.wake]

@[simp] theorem State.scrubGroup_standing (s : State) (u : UnitId) (noise : List (Nat × Byte)) : (State.scrubGroup s u noise).standing = s.standing := by
  simp [State.scrubGroup, apply_ite State.standing]

@[simp] theorem State.selfRefresh_standing (s : State) (u : UnitId) : (State.selfRefresh s u).standing = s.standing := by
  simp [State.selfRefresh, apply_ite State.standing]

@[simp] theorem State.selfRefreshEnd_standing (s : State) (u : UnitId) : (State.selfRefreshEnd s u).standing = s.standing := by
  simp [State.selfRefreshEnd, apply_ite State.standing]

@[simp] theorem execRemapRequest_standing (q : Requester) (u : UnitId) (group : BitVec 32) (s : State) : (nextOf s (execRemapRequest q u group s)).standing = s.standing := by
  simp [execRemapRequest, apply_ite State.standing]

@[simp] theorem execLogClear_standing (q : Requester) (u : UnitId) (v : BitVec 8) (s : State) : (nextOf s (execLogClear q u v s)).standing = s.standing := by
  simp [execLogClear]

@[simp] theorem execScrubStart_standing (q : Requester) (u : UnitId) (s : State) : (nextOf s (execScrubStart q u s)).standing = s.standing := by
  simp [execScrubStart]

@[simp] theorem execScrubStop_standing (q : Requester) (u : UnitId) (s : State) : (nextOf s (execScrubStop q u s)).standing = s.standing := by
  simp [execScrubStop, apply_ite State.standing]

@[simp] theorem execFlipModeWrite_standing (q : Requester) (u : UnitId) (v : BitVec 8) (s : State) : (nextOf s (execFlipModeWrite q u v s)).standing = s.standing := by
  simp [execFlipModeWrite]

@[simp] theorem State.evictLine_standing (s : State) (u : UnitId) (way : Nat) (set : Nat) : (State.evictLine s u way set).standing = s.standing := by
  simp [State.evictLine, apply_ite State.standing]

theorem State.allocate_standing (s : State) (u : UnitId) (g : Nat) (bytes : List Byte) (dirty : Bool) : ∀ t, State.allocate s u g bytes dirty = some t → t.standing = s.standing := by
  unfold State.allocate; dsimp only; (repeat' split) <;> simp [apply_ite State.standing]

@[simp] theorem State.cleanLine_standing (s : State) (u : UnitId) (way : Nat) (set : Nat) : (State.cleanLine s u way set).standing = s.standing := by
  simp [State.cleanLine, apply_ite State.standing]

@[simp] theorem State.wayDown_standing (s : State) (u : UnitId) (way : Nat) : (State.wayDown s u way).standing = s.standing := by
  simp [State.wayDown]

@[simp] theorem State.tagError_standing (s : State) (u : UnitId) (set : Nat) (e : Option (Nat × Bool)) : (State.tagError s u set e).standing = s.standing := by
  unfold State.tagError; split <;> simp [apply_ite State.standing]

@[simp] theorem State.lineError_standing (s : State) (u : UnitId) (way : Nat) (set : Nat) (errs : List (Nat × Bool)) : (State.lineError s u way set errs).1.standing = s.standing := by
  unfold State.lineError; dsimp only; (repeat' split) <;> simp [apply_ite State.standing]

@[simp] theorem State.lineHit_standing (s : State) (u : UnitId) (way : Nat) (g : Nat) (off : Nat) (len : Nat) (data : Option (List Byte)) : (State.lineHit s u way g off len data).1.standing = s.standing := by
  unfold State.lineHit; dsimp only; (repeat' split) <;> simp [apply_ite State.standing]

@[simp] theorem State.evictHit_standing (s : State) (u : UnitId) (g : Nat) (off : Nat) (len : Nat) (data : Option (List Byte)) : (State.evictHit s u g off len data).1.standing = s.standing := by
  unfold State.evictHit; split <;> simp [apply_ite State.standing]

@[simp] theorem State.cacheMiss_standing (s : State) (u : UnitId) (g : Nat) (off : Nat) (len : Nat) (data : Option (List Byte)) (noise : List (Nat × Byte)) : (State.cacheMiss s u g off len data noise).1.standing = s.standing := by
  unfold State.cacheMiss; dsimp only; (repeat' split) <;> first | (simp; done) | (rename_i h; have := State.allocate_standing _ _ _ _ _ _ h; simpa using this)

@[simp] theorem State.cachePart_standing (s : State) (u : UnitId) (g : Nat) (off : Nat) (len : Nat) (data : Option (List Byte)) (e : MemErrs) : (State.cachePart s u g off len data e).1.standing = s.standing := by
  unfold State.cachePart; dsimp only; split
  · split <;> (rename_i h; have e := congrArg (fun x => x.1.standing) h; simp at e; simp [← e])
  · split <;> simp

@[simp] theorem State.accessGroup_standing (s : State) (u : UnitId) (g : Nat) (off : Nat) (k : Nat) (part : Option (List Byte)) (e : MemErrs) : (State.accessGroup s u g off k part e).1.standing = s.standing := by
  unfold State.accessGroup; dsimp only; (repeat' split) <;> simp [apply_ite State.standing]

@[simp] theorem State.access_standing (s : State) (u : UnitId) (a : Nat) (n : Nat) (data : Option (List Byte)) (e : MemErrs) : (State.access s u a n data e).1.standing = s.standing := by
  unfold State.access; split
  · simp
  · have h : ∀ (l : List (Nat × Nat × Nat)) (x : State × BufResp), (l.foldl (accessStep u a data e) x).1.standing = x.1.standing := by
      intro l
      induction l with
      | nil => intro x; rfl
      | cons y l ih =>
        intro x; rw [List.foldl_cons, ih]; unfold accessStep; dsimp only; split <;> simp
    rw [h]; simp

@[simp] theorem State.engRead_standing (s : State) (u : UnitId) (a : Nat) (n : Nat) : (State.engRead s u a n).1.standing = s.standing := by
  simp [State.engRead]

@[simp] theorem State.engWrite_standing (s : State) (u : UnitId) (a : Nat) (d : List Byte) : (State.engWrite s u a d).1.standing = s.standing := by
  simp [State.engWrite]

@[simp] theorem State.bufCommand_standing (s : State) (u : UnitId) (a : Nat) (n : Nat) (data : Option (List Byte)) (e : MemErrs) : (State.bufCommand s u a n data e).standing = s.standing := by
  simp [State.bufCommand, apply_ite State.standing]

@[simp] theorem State.replayHeld_standing (s : State) (u : UnitId) : (State.replayHeld s u).standing = s.standing := by
  simp [State.replayHeld]

@[simp] theorem State.gddrTrained_standing (s : State) (u : UnitId) (ok : Bool) : (State.gddrTrained s u ok).standing = s.standing := by
  simp [State.gddrTrained, apply_ite State.standing]

@[simp] theorem State.writebackDone_standing (s : State) (u : UnitId) : (State.writebackDone s u).standing = s.standing := by
  unfold State.writebackDone; dsimp only; split
  · rfl
  · split
    · simp
    · rw [State.forEach_standing _ _ _ (fun s x => by simp)]
      simp only [State.modCache_standing]
      split
      · rename_i e _ _ _ _
        generalize hs : State.modCache _ _ _ = t
        have ht : t.standing = s.standing := by rw [← hs]; simp
        cases ha : t.allocate u e.group e.bytes false with
        | none => simpa using ht
        | some v => simpa [State.allocate_standing _ _ _ _ _ _ ha] using ht
      · simp

@[simp] theorem State.wayEnable_standing (s : State) (u : UnitId) (v : Nat) : (State.wayEnable s u v).standing = s.standing := by
  simp [State.wayEnable, apply_ite State.standing]

@[simp] theorem execWayEnableWrite_standing (q : Requester) (u : UnitId) (v : BitVec 16) (s : State) : (nextOf s (execWayEnableWrite q u v s)).standing = s.standing := by
  simp [execWayEnableWrite]

@[simp] theorem State.cleanTick_standing (s : State) (u : UnitId) : (State.cleanTick s u).standing = s.standing := by
  unfold State.cleanTick; (repeat' split) <;> simp [apply_ite State.standing]

@[simp] theorem State.cacheEnable_standing (s : State) (u : UnitId) : (State.cacheEnable s u).standing = s.standing := by
  unfold State.cacheEnable; split <;> simp [apply_ite State.standing]

@[simp] theorem State.cacheDisable_standing (s : State) (u : UnitId) : (State.cacheDisable s u).standing = s.standing := by
  simp [State.cacheDisable, apply_ite State.standing]

@[simp] theorem execCacheEnable_standing (q : Requester) (u : UnitId) (s : State) : (nextOf s (execCacheEnable q u s)).standing = s.standing := by
  simp [execCacheEnable]

@[simp] theorem execCacheDisable_standing (q : Requester) (u : UnitId) (s : State) : (nextOf s (execCacheDisable q u s)).standing = s.standing := by
  simp [execCacheDisable]

@[simp] theorem State.cacheDisabled_standing (s : State) (u : UnitId) : (State.cacheDisabled s u).standing = s.standing := by
  simp [State.cacheDisabled, apply_ite State.standing]

@[simp] theorem State.rawTake_standing (s : State) (p : Nat) (a : Nat) (x : Sector) (v : Verdict) : (State.rawTake s p a x v).standing = s.standing := by
  simp [State.rawTake, apply_ite State.standing]

@[simp] theorem State.postResult_standing (s : State) (p : Nat) (a : Nat) (x : Sector) (v : Verdict) : (State.postResult s p a x v).standing = s.standing := by
  unfold State.postResult; dsimp only; split <;> simp [apply_ite State.standing]

@[simp] theorem State.lineEnd_standing (s : State) (p : Nat) (a : Nat) (x : Sector) (v : Verdict) (flags : optParam (List Flag) []) : (State.lineEnd s p a x v flags).standing = s.standing := by
  simp [State.lineEnd, apply_ite State.standing]

@[simp] theorem State.failWrite_standing (s : State) (p : Nat) (a : Nat) (r : Arm) (cut : Bool) : (State.failWrite s p a r cut).standing = s.standing := by
  simp [State.failWrite]

@[simp] theorem State.cutGate_standing (s : State) (p : Nat) (a : Nat) (f : Flag) : (State.cutGate s p a f).standing = s.standing := by
  unfold State.cutGate; dsimp only; (repeat' split) <;> simp [apply_ite State.standing]

@[simp] theorem State.cutPort_standing (s : State) (p : Nat) : (State.cutPort s p).standing = s.standing := by
  simp [State.cutPort]

@[simp] theorem State.serveLedger_standing (x0 : Nat) (x1 : State) : (State.serveLedger x0 x1).standing = x1.standing := by
  induction x0 generalizing x1 with
  | zero => simp [State.serveLedger]
  | succ n ih => unfold State.serveLedger; split; · rfl
                 · dsimp only; rw [ih]; simp

@[simp] theorem State.serve_standing (s : State) : (State.serve s).standing = s.standing := by
  simp [State.serve, apply_ite State.standing]

@[simp] theorem State.request_standing (s : State) (m : Nat) (p : Nat) : (State.request s m p).standing = s.standing := by
  simp [State.request, apply_ite State.standing]

@[simp] theorem State.ledgerFree_standing (s : State) (n : Nat) : (State.ledgerFree s n).standing = s.standing := by
  simp [State.ledgerFree]

@[simp] theorem State.linksOff_standing (s : State) : (State.linksOff s).standing = s.standing := by
  simp [State.linksOff]

@[simp] theorem State.tokenAsk_standing (s : State) (p : Nat) : (State.tokenAsk s p).standing = s.standing := by
  simp [State.tokenAsk, apply_ite State.standing]

@[simp] theorem State.tokenAskAll_standing (s : State) : (State.tokenAskAll s).standing = s.standing := by
  simp [State.tokenAskAll]

@[simp] theorem State.tokenBack_standing (s : State) (p : Nat) : (State.tokenBack s p).standing = s.standing := by
  unfold State.tokenBack; split <;> simp [apply_ite State.standing]

@[simp] theorem State.dropCmd_standing (s : State) (t : CmdTag) : (State.dropCmd s t).standing = s.standing := by
  simp [State.dropCmd]

@[simp] theorem State.sendData_standing (s : State) (tag : Nat) (x2 : Nat) (x3 : Nat) (x4 : List Byte) : (State.sendData s tag x2 x3 x4).standing = s.standing := by
  induction x2 generalizing s x3 x4 with
  | zero => simp [State.sendData]
  | succ n ih => unfold State.sendData; split; · rfl
                 · rw [ih]; simp

@[simp] theorem State.postCpl_standing (s : State) (x : Cpl) : (State.postCpl s x).standing = s.standing := by
  simp [State.postCpl, apply_ite State.standing]

@[simp] theorem State.completeWith_standing (s : State) (t : CmdTag) (sct : Nat) (sc : Nat) (dnr : Bool) (crd : Nat) (dw0 : Nat) (data : List Byte) : (State.completeWith s t sct sc dnr crd dw0 data).standing = s.standing := by
  simp [State.completeWith, apply_ite State.standing]

@[simp] theorem State.postHeld_standing (s : State) : (State.postHeld s).standing = s.standing := by
  simp [State.postHeld, apply_ite State.standing]

@[simp] theorem State.complete_standing (s : State) (t : CmdTag) (o : Outcome) (dw0 : optParam Nat 0) (data : optParam (List Byte) []) : (State.complete s t o dw0 data).standing = s.standing := by
  simp [State.complete]

@[simp] theorem State.deferredError_standing (s : State) (cause : Nat) (ns : Nat) (key : optParam (List Byte) []) (sid : optParam (Option (Nat × Nat)) Option.none) : (State.deferredError s cause ns key sid).standing = s.standing := by
  simp [State.deferredError]

@[simp] theorem State.modSorus_standing (s : State) (n : Nat) (f : SorusSt → SorusSt) : (State.modSorus s n f).standing = s.standing := by
  simp [State.modSorus]

@[simp] theorem State.newSorus_standing (s : State) (x : SorusSt) : (State.newSorus s x).2.standing = s.standing := by
  simp [State.newSorus]

@[simp] theorem State.setValues_standing (s : State) (ns : Nat) (l : List ValueDesc) : (State.setValues s ns l).standing = s.standing := by
  simp [State.setValues]

@[simp] theorem State.mapValues_standing (s : State) (f : Nat → ValueDesc → ValueDesc) : (State.mapValues s f).standing = s.standing := by
  simp [State.mapValues]

@[simp] theorem State.releaseChunk_standing (s : State) (n : Nat) : (State.releaseChunk s n).standing = s.standing := by
  simp [State.releaseChunk, apply_ite State.standing]

@[simp] theorem State.modRead_standing (s : State) (n : Nat) (f : ChunkRead → ChunkRead) : (State.modRead s n f).standing = s.standing := by
  simp [State.modRead]

@[simp] theorem State.readWant_standing (s : State) (n : Nat) (f : ChunkRead → ChunkRead) : (State.readWant s n f).standing = s.standing := by
  simp [State.readWant, apply_ite State.standing]

@[simp] theorem State.modFragRead_standing (s : State) (n : Nat) (f : Nat) (g : FragRead → FragRead) : (State.modFragRead s n f g).standing = s.standing := by
  simp [State.modFragRead]

@[simp] theorem State.queueSorus_standing (s : State) (n : Nat) : (State.queueSorus s n).standing = s.standing := by
  simp [State.queueSorus]

@[simp] theorem State.queueRepair_standing (s : State) (n : Nat) : (State.queueRepair s n).standing = s.standing := by
  simp [State.queueRepair, apply_ite State.standing]

@[simp] theorem State.chunkLost_standing (s : State) (n : Nat) : (State.chunkLost s n).standing = s.standing := by
  simp [State.chunkLost, apply_ite State.standing]

@[simp] theorem State.fragMissing_standing (s : State) (n : Nat) (f : Nat) : (State.fragMissing s n f).standing = s.standing := by
  simp [State.fragMissing, apply_ite State.standing]

@[simp] theorem State.stage1_standing (s : State) (r : StagedRec) : (State.stage1 s r).standing = s.standing := by
  simp [State.stage1]

@[simp] theorem State.stageChange_standing (s : State) (key : List Byte) (chunks : List Nat) : (State.stageChange s key chunks).standing = s.standing := by
  simp [State.stageChange]

@[simp] theorem State.applyRecord_standing (s : State) (c : HostCmd) : (State.applyRecord s c).standing = s.standing := by
  simp [State.applyRecord, apply_ite State.standing]

@[simp] theorem State.stageRecord_standing (s : State) (c : HostCmd) : (State.stageRecord s c).standing = s.standing := by
  simp [State.stageRecord]

@[simp] theorem State.settleWrites_standing (s : State) (x1 : List HostCmd) (x2 : List HostCmd) : (State.settleWrites s x1 x2).standing = s.standing := by
  induction x1 generalizing s x2 with
  | nil => simp [State.settleWrites]
  | cons c l ih => unfold State.settleWrites; dsimp only; (repeat' split) <;> simp [ih]

@[simp] theorem State.settleFlushes_standing (s : State) (x1 : List HostCmd) (x2 : List HostCmd) : (State.settleFlushes s x1 x2).standing = s.standing := by
  induction x1 generalizing s x2 with
  | nil => simp [State.settleFlushes]
  | cons c l ih => unfold State.settleFlushes; split <;> simp [ih, apply_ite State.standing]

@[simp] theorem State.nsCounts_standing (s : State) : (State.nsCounts s).standing = s.standing := by
  simp [State.nsCounts]

@[simp] theorem State.settleCmds_standing (s : State) : (State.settleCmds s).standing = s.standing := by
  simp [State.settleCmds]

@[simp] theorem State.dropKept_standing (s : State) : (State.dropKept s).standing = s.standing := by
  simp [State.dropKept, apply_ite State.standing]

@[simp] theorem State.stagedOut_standing (s : State) (u : UnitId) (bytes : Nat) : (State.stagedOut s u bytes).standing = s.standing := by
  simp [State.stagedOut]

@[simp] theorem State.recordsProgrammed_standing (s : State) (u : UnitId) : (State.recordsProgrammed s u).standing = s.standing := by
  simp [State.recordsProgrammed]

@[simp] theorem State.journalCommit_standing (s : State) (u : UnitId) : (State.journalCommit s u).standing = s.standing := by
  simp [State.journalCommit]

@[simp] theorem State.recordsAlone_standing (s : State) : (State.recordsAlone s).standing = s.standing := by
  simp [State.recordsAlone]

@[simp] theorem State.undoRecord_standing (s : State) (r : StagedRec) : (State.undoRecord s r).standing = s.standing := by
  simp [State.undoRecord, apply_ite State.standing]

@[simp] theorem State.recordsLost_standing (s : State) : (State.recordsLost s).standing = s.standing := by
  simp [State.recordsLost]

@[simp] theorem State.takeMoves_standing (s : State) (n : Nat) : (State.takeMoves s n).standing = s.standing := by
  simp [State.takeMoves, apply_ite State.standing]

@[simp] theorem State.supersede_standing (s : State) (n : Nat) (index : Bool) (o : Nat) : (State.supersede s n index o).standing = s.standing := by
  simp [State.supersede, apply_ite State.standing]

@[simp] theorem State.sealSorus_standing (s : State) (n : Nat) : (State.sealSorus s n).standing = s.standing := by
  unfold State.sealSorus; dsimp only; (repeat' split) <;> simp [apply_ite State.standing]

@[simp] theorem State.failStores_standing (s : State) (n : Nat) (o : Outcome) : (State.failStores s n o).standing = s.standing := by
  simp [State.failStores]

@[simp] theorem State.judgeSorus_standing (s : State) (n : Nat) : (State.judgeSorus s n).standing = s.standing := by
  simp [State.judgeSorus, apply_ite State.standing]

@[simp] theorem State.hdaLost_standing (s : State) (p : Nat) : (State.hdaLost s p).standing = s.standing := by
  unfold State.hdaLost; split <;> simp [apply_ite State.standing]

@[simp] theorem State.sectorGone_standing (s : State) (p : Nat) (x : Psa) : (State.sectorGone s p x).standing = s.standing := by
  simp [State.sectorGone]

@[simp] theorem State.reportWeak_standing (s : State) (p : Nat) (x : Psa) : (State.reportWeak s p x).standing = s.standing := by
  unfold State.reportWeak; dsimp only; (repeat' split) <;> simp [apply_ite State.standing]

@[simp] theorem State.reportErased_standing (s : State) (p : Nat) (x : Psa) : (State.reportErased s p x).standing = s.standing := by
  unfold State.reportErased; dsimp only; (repeat' split) <;> simp [apply_ite State.standing]

@[simp] theorem State.sectorRead_standing (s : State) (p : Nat) (x : Psa) (data : List Byte) : (State.sectorRead s p x data).standing = s.standing := by
  simp [State.sectorRead, apply_ite State.standing]

@[simp] theorem State.ladderClose_standing (s : State) (p : Nat) (a : Nat) (x : Psa) (step : Nat) : (State.ladderClose s p a x step).standing = s.standing := by
  simp [State.ladderClose, apply_ite State.standing]

@[simp] theorem State.ladderQueue_standing (p : Nat) (a : Nat) (x2 : List (Sector × Bool)) (x3 : State) : (State.ladderQueue p a x2 x3).standing = x3.standing := by
  induction x2 generalizing x3 with
  | nil => simp [State.ladderQueue]
  | cons y l ih =>
    rw [State.ladderQueue]
    dsimp only
    (repeat' split) <;> simp [ih]

@[simp] theorem State.ladderStart_standing (s : State) (p : Nat) (a : Nat) (x : Sector) : (State.ladderStart s p a x).standing = s.standing := by
  simp [State.ladderStart]

@[simp] theorem State.ladderEnd_standing (s : State) (p : Nat) (a : Nat) (l : Ladder) (step : Nat) : (State.ladderEnd s p a l step).standing = s.standing := by
  simp [State.ladderEnd, apply_ite State.standing]

@[simp] theorem State.ladderMove_standing (s : State) (p : Nat) (a : Nat) (l : Ladder) : (State.ladderMove s p a l).standing = s.standing := by
  simp [State.ladderMove, apply_ite State.standing]

@[simp] theorem State.ladderResult_standing (s : State) (p : Nat) (a : Nat) (x : Sector) (v : Verdict) : (State.ladderResult s p a x v).standing = s.standing := by
  unfold State.ladderResult; dsimp only; (repeat' split) <;> simp [apply_ite State.standing]

@[simp] theorem State.ladderRebuilt_standing (s : State) (p : Nat) (a : Nat) (hit : Psa → Bool) : (State.ladderRebuilt s p a hit).standing = s.standing := by
  unfold State.ladderRebuilt; dsimp only; (repeat' split) <;> simp [apply_ite State.standing]

@[simp] theorem State.readEnds_standing (s : State) (p : Nat) (a : Nat) (x : Sector) (code : Nat) (flags : optParam (List Flag) []) : (State.readEnds s p a x code flags).standing = s.standing := by
  simp [State.readEnds, apply_ite State.standing]

@[simp] theorem State.dropRead_standing (s : State) (p : Nat) (a : Nat) : (State.dropRead s p a).standing = s.standing := by
  unfold State.dropRead; dsimp only; (repeat' split) <;> simp [apply_ite State.standing]

@[simp] theorem State.ticketUnread_standing (s : State) (p : Nat) (a : Nat) (t : Ticket) : (State.ticketUnread s p a t).standing = s.standing := by
  simp [State.ticketUnread]

@[simp] theorem State.dropInFlight_standing (s : State) (p : Nat) : (State.dropInFlight s p).standing = s.standing := by
  simp [State.dropInFlight]

@[simp] theorem State.withdraw_standing (s : State) (p : Nat) (a : Nat) : (State.withdraw s p a).standing = s.standing := by
  unfold State.withdraw; dsimp only; (repeat' split) <;> simp [apply_ite State.standing]

@[simp] theorem State.armLate_standing (s : State) (p : Nat) (a : Nat) (r : Arm) (write : Bool) : (State.armLate s p a r write).standing = s.standing := by
  simp [State.armLate, apply_ite State.standing]

@[simp] theorem State.spinDrive_standing (s : State) (p : Nat) (c : SpinCode) : (State.spinDrive s p c).standing = s.standing := by
  simp [State.spinDrive]

@[simp] theorem State.penDrive_standing (s : State) (p : Nat) (b : Bool) : (State.penDrive s p b).standing = s.standing := by
  simp [State.penDrive]

@[simp] theorem State.tokenLow_standing (s : State) (u : UnitId) (p : Nat) : (State.tokenLow s u p).standing = s.standing := by
  simp [State.tokenLow]

/-- What the standby computes of an actuator is put beside what the active unit made of it. -/
@[simp] theorem State.shadowAct_standing (s t : State) (k : Nat) (g : State → State) :
    (State.shadowAct s t k g).standing = t.standing := by
  simp [State.shadowAct, apply_ite State.standing]

@[simp] theorem State.shadowSpin_standing (s t : State) (p : Nat) (g : State → State) :
    (State.shadowSpin s t p g).standing = t.standing := by
  simp [State.shadowSpin, apply_ite State.standing]

@[simp] theorem State.shadowsCopy_standing (s : State) : (State.shadowsCopy s).standing = s.standing := (rfl)

@[simp] theorem State.tokenTry_standing (s : State) (p : Nat) : (State.tokenTry s p).standing = s.standing := by
  simp [State.tokenTry, apply_ite State.standing]

@[simp] theorem State.clearSafe_standing (s : State) (p : Nat) (a : Nat) : (State.clearSafe s p a).standing = s.standing := by
  simp [State.clearSafe, apply_ite State.standing]

@[simp] theorem State.srvTo_standing (s : State) (p : Nat) (a : Nat) (st : ActState) (ordered : optParam Bool Bool.false) : (State.srvTo s p a st ordered).standing = s.standing := by
  unfold State.srvTo; (repeat' split) <;> simp [apply_ite State.standing]

@[simp] theorem State.srvRetract_standing (s : State) (p : Nat) (a : Nat) (ordered : optParam Bool Bool.false) : (State.srvRetract s p a ordered).standing = s.standing := by
  unfold State.srvRetract; split <;> simp [apply_ite State.standing]

@[simp] theorem State.srvUnload_standing (s : State) (p : Nat) (a : Nat) : (State.srvUnload s p a).standing = s.standing := by
  unfold State.srvUnload; split <;> simp [apply_ite State.standing]

@[simp] theorem State.srvOff_standing (s : State) (p : Nat) : (State.srvOff s p).standing = s.standing := by
  simp [State.srvOff, apply_ite State.standing]

@[simp] theorem State.rpmTake_standing (s : State) : (State.rpmTake s).standing = s.standing := by
  simp [State.rpmTake, apply_ite State.standing]

@[simp] theorem State.spdTo_standing (s : State) (p : Nat) (st : SpdState) : (State.spdTo s p st).standing = s.standing := by
  simp [State.spdTo, apply_ite State.standing]

@[simp] theorem State.measureTry_standing (s : State) (p : Nat) : (State.measureTry s p).standing = s.standing := by
  simp [State.measureTry, apply_ite State.standing]

@[simp] theorem State.stopTry_standing (s : State) (p : Nat) : (State.stopTry s p).standing = s.standing := by
  unfold State.stopTry; (repeat' split) <;> simp [apply_ite State.standing]

@[simp] theorem State.persistState_standing (s : State) (p : Nat) (st : PortState) : (State.persistState s p st).standing = s.standing := by
  unfold State.persistState; split <;> simp [apply_ite State.standing]

@[simp] theorem State.lanesLost_standing (s : State) (u : UnitId) (p : Nat) : (State.lanesLost s u p).standing = s.standing := by
  simp [State.lanesLost]

@[simp] theorem State.portDown_standing (s : State) (p : Nat) : (State.portDown s p).standing = s.standing := by
  simp [State.portDown, apply_ite State.standing]

@[simp] theorem State.portMove_standing (s : State) (p : Nat) (st : PortState) (cause : PortCause) : (State.portMove s p st cause).standing = s.standing := by
  simp [State.portMove, apply_ite State.standing]

theorem State.portCommand_standing (s : State) (p : Nat) (v : Nat) : ∀ t, State.portCommand s p v = some t → t.standing = s.standing := by
  unfold State.portCommand; split <;> simp [apply_ite State.standing]

@[simp] theorem State.portSettle_standing (s : State) (p : Nat) : (State.portSettle s p).standing = s.standing := by
  unfold State.portSettle; dsimp only; split
  · rfl
  · split
    · rfl
    · rename_i v _ _
      generalize hs : State.modPort _ _ _ = t
      have ht : t.standing = s.standing := by rw [← hs]; simp
      cases ha : t.portCommand p v with
      | none => simpa using ht
      | some v => simpa [State.portCommand_standing _ _ _ _ ha] using ht

@[simp] theorem State.portTo_standing (s : State) (p : Nat) (st : PortState) (cause : PortCause) : (State.portTo s p st cause).standing = s.standing := by
  simp [State.portTo, apply_ite State.standing]

@[simp] theorem State.portFail_standing (s : State) (p : Nat) (cause : PortCause) : (State.portFail s p cause).standing = s.standing := by
  simp [State.portFail, apply_ite State.standing]

@[simp] theorem State.laneOut_standing (s : State) (p : Nat) (n : Nat) : (State.laneOut s p n).standing = s.standing := by
  unfold State.laneOut; split <;> simp [apply_ite State.standing]

@[simp] theorem State.shadowOut_standing (s : State) (p : Nat) (n : Nat) : (State.shadowOut s p n).standing = s.standing := by
  unfold State.shadowOut; split <;> simp [apply_ite State.standing]

@[simp] theorem State.laneFail_standing (s : State) (u : UnitId) (p : Nat) (n : Nat) : (State.laneFail s u p n).standing = s.standing := by
  unfold State.laneFail; (repeat' split) <;> simp [apply_ite State.standing]

@[simp] theorem State.bemfHold_standing (s : State) (p : Nat) : (State.bemfHold s p).standing = s.standing := by
  unfold State.bemfHold; split <;> simp [apply_ite State.standing]

@[simp] theorem State.ctLoss_standing (s : State) (p : Nat) : (State.ctLoss s p).standing = s.standing := by
  simp [State.ctLoss, apply_ite State.standing]

@[simp] theorem State.closeChunk_standing (s : State) (n : Nat) (mode : CompressMode) : (State.closeChunk s n mode).standing = s.standing := by
  simp [State.closeChunk]

@[simp] theorem State.sealPack_standing (s : State) (ns : Nat) : (State.sealPack s ns).standing = s.standing := by
  unfold State.sealPack; split <;> simp [apply_ite State.standing]

@[simp] theorem State.sealPacks_standing (s : State) : (State.sealPacks s).standing = s.standing := by
  simp [State.sealPacks]

@[simp] theorem State.packValue_standing (s : State) (ns : Nat) (key : List Byte) (value : List Byte) : (State.packValue s ns key value).2.2.standing = s.standing := by
  unfold State.packValue; dsimp only; (repeat' split) <;> simp [apply_ite State.standing]

@[simp] theorem State.cutValue_standing (x0 : Nat) (x1 : State) (x2 : Nat) (x3 : CompressMode) (x4 : List Byte) : (State.cutValue x0 x1 x2 x3 x4).2.standing = x1.standing := by
  induction x0 generalizing x1 x4 with
  | zero => simp [State.cutValue]
  | succ n ih => unfold State.cutValue; split; · rfl
                 · dsimp only; rw [ih]; simp

@[simp] theorem State.formChunks_standing (s : State) (c : HostCmd) : (State.formChunks s c).standing = s.standing := by
  simp [State.formChunks, apply_ite State.standing]

@[simp] theorem State.openSet_standing (s : State) (a : Nat) : (State.openSet s a).standing = s.standing := by
  simp [State.openSet, apply_ite State.standing]

@[simp] theorem State.closeSets_standing (s : State) : (State.closeSets s).standing = s.standing := by
  simp [State.closeSets]

@[simp] theorem State.openSets_standing (s : State) : (State.openSets s).standing = s.standing := by
  simp [State.openSets, apply_ite State.standing]

@[simp] theorem State.raiseFrontier_standing (s : State) (r : FragRec) (f : Nat) : (State.raiseFrontier s r f).standing = s.standing := by
  unfold State.raiseFrontier; split <;> simp [apply_ite State.standing]

@[simp] theorem State.placeSorus_standing (s : State) (t : BandSet) (ms : List SlotMap) (n : Nat) (ps : List Nat) : (State.placeSorus s t ms n ps).standing = s.standing := by
  simp [State.placeSorus]

@[simp] theorem State.placeQueue_standing (t : BandSet) (ms : List SlotMap) (lim : Nat) (x3 : List Nat) (x4 : Nat) (x5 : State) : (State.placeQueue t ms lim x3 x4 x5).2.2.standing = x5.standing := by
  induction x3 generalizing x4 x5 with
  | nil => simp [State.placeQueue]
  | cons n l ih =>
    rw [State.placeQueue]
    dsimp only
    (repeat' split) <;> simp [ih]

@[simp] theorem State.placeShares_standing (s : State) (t : BandSet) (ms : List SlotMap) : (State.placeShares s t ms).2.standing = s.standing := by
  unfold State.placeShares; dsimp only; (repeat' split) <;> simp [apply_ite State.standing]

@[simp] theorem State.placeSet_standing (s : State) (no : Nat) : (State.placeSet s no).standing = s.standing := by
  unfold State.placeSet; split <;> simp [apply_ite State.standing]

@[simp] theorem State.criticalWaits_standing (s : State) : (State.criticalWaits s).standing = s.standing := by
  simp [State.criticalWaits, apply_ite State.standing]

@[simp] theorem State.placeSweep_standing (s : State) : (State.placeSweep s).standing = s.standing := by
  simp [State.placeSweep, apply_ite State.standing]

@[simp] theorem State.abandonFrag_standing (s : State) (p : Nat) (a : Nat) (c : FragCheck) : (State.abandonFrag s p a c).standing = s.standing := by
  simp [State.abandonFrag]

@[simp] theorem State.rewriteFrag_standing (s : State) (p : Nat) (a : Nat) (c : FragCheck) : (State.rewriteFrag s p a c).standing = s.standing := by
  simp [State.rewriteFrag, apply_ite State.standing]

@[simp] theorem State.rewriteAll_standing (s : State) (p : Nat) (a : Nat) : (State.rewriteAll s p a).standing = s.standing := by
  simp [State.rewriteAll]

@[simp] theorem State.fragResult_standing (s : State) (p : Nat) (a : Nat) (c : FragCheck) (pass : Bool) (ran : Bool) : (State.fragResult s p a c pass ran).standing = s.standing := by
  simp [State.fragResult, apply_ite State.standing]

@[simp] theorem State.osRefresh_standing (s : State) : (State.osRefresh s).standing = s.standing := by
  simp [State.osRefresh, apply_ite State.standing]

@[simp] theorem State.enterCmd_standing (s : State) (c : HostCmd) : (State.enterCmd s c).standing = s.standing := by
  simp [State.enterCmd]

@[simp] theorem State.runStore_standing (s : State) (t : CmdTag) (ns : Nat) (key : List Byte) (value : List Byte) (opt : StoreOpt) (hint : CompressMode) : (State.runStore s t ns key value opt hint).standing = s.standing := by
  unfold State.runStore; split <;> simp [apply_ite State.standing]

@[simp] theorem State.releaseHeld_standing (s : State) : (State.releaseHeld s).standing = s.standing := by
  simp [State.releaseHeld, apply_ite State.standing]

@[simp] theorem State.modCmd_standing (s : State) (t : CmdTag) (f : HostCmd → HostCmd) : (State.modCmd s t f).standing = s.standing := by
  simp [State.modCmd]

@[simp] theorem State.fetch_standing (s : State) (t : CmdTag) (len : optParam Nat 0) (ready : optParam (List (Nat × Nat)) []) (other : optParam (List (Nat × Nat)) []) : (State.fetch s t len ready other).1.standing = s.standing := by
  unfold State.fetch; dsimp only; (repeat' split) <;> simp [apply_ite State.standing]

@[simp] theorem State.pauseEnd_standing (s : State) : (State.pauseEnd s).standing = s.standing := by
  simp [State.pauseEnd, apply_ite State.standing]

@[simp] theorem State.abandonCmd_standing (s : State) (c : HostCmd) : (State.abandonCmd s c).standing = s.standing := by
  simp [State.abandonCmd, apply_ite State.standing]

@[simp] theorem State.abandonCtrl_standing (s : State) (u : UnitId) : (State.abandonCtrl s u).standing = s.standing := by
  simp [State.abandonCtrl]

@[simp] theorem State.abandonAll_standing (s : State) : (State.abandonAll s).standing = s.standing := by
  simp [State.abandonAll]

@[simp] theorem State.ctrlDown_standing (s : State) (u : UnitId) : (State.ctrlDown s u).standing = s.standing := by
  simp [State.ctrlDown, apply_ite State.standing]

@[simp] theorem State.ctrlFatal_standing (s : State) (u : UnitId) : (State.ctrlFatal s u).standing = s.standing := by
  simp [State.ctrlFatal, apply_ite State.standing]

@[simp] theorem State.readyTry_standing (s : State) (u : UnitId) : (State.readyTry s u).standing = s.standing := by
  simp [State.readyTry, apply_ite State.standing]

@[simp] theorem State.readyBoth_standing (s : State) : (State.readyBoth s).standing = s.standing := by
  simp [State.readyBoth]

@[simp] theorem State.linesSafe_standing (s : State) : (State.linesSafe s).standing = s.standing := by
  simp [State.linesSafe]

@[simp] theorem State.portsOff_standing (s : State) : (State.portsOff s).standing = s.standing := by
  simp [State.portsOff, apply_ite State.standing]

@[simp] theorem State.portsQuiet_standing (s : State) : (State.portsQuiet s).standing = s.standing := by
  unfold State.portsQuiet; rw [State.forEach_standing]; intro s p; split <;> simp

@[simp] theorem State.spindlesIdle_standing (s : State) : (State.spindlesIdle s).standing = s.standing := by
  unfold State.spindlesIdle; rw [State.forEach_standing]; intro s p; split <;> simp

@[simp] theorem State.memoriesLost_standing (s : State) : (State.memoriesLost s).standing = s.standing := by
  simp [State.memoriesLost]

@[simp] theorem State.sorusesLost_standing (s : State) : (State.sorusesLost s).standing = s.standing := by
  simp [State.sorusesLost, apply_ite State.standing]

@[simp] theorem State.firmwareStopped_standing (s : State) : (State.firmwareStopped s).standing = s.standing := by
  simp [State.firmwareStopped]

@[simp] theorem State.statusCleared_standing (s : State) : (State.statusCleared s).standing = s.standing := by
  simp [State.statusCleared]

@[simp] theorem State.leave_standing (s : State) : (State.leave s).standing = s.standing := by
  unfold State.leave; split <;> simp [apply_ite State.standing]

@[simp] theorem State.back_standing (s : State) (m : Mode) (c : ModeCause) : (State.back s m c).standing = s.standing := by
  simp [State.back, apply_ite State.standing]

@[simp] theorem State.pwrBoth_standing (s : State) (f : Flag) : (State.pwrBoth s f).standing = s.standing := by
  simp [State.pwrBoth]

@[simp] theorem State.holdWaits_standing (s : State) : (State.holdWaits s).standing = s.standing := by
  simp [State.holdWaits, apply_ite State.standing]

@[simp] theorem State.bringUpBegin_standing (s : State) (old : Mode) : (State.bringUpBegin s old).standing = s.standing := by
  simp [State.bringUpBegin, apply_ite State.standing]

@[simp] theorem State.serviceBegin_standing (s : State) (old : Mode) : (State.serviceBegin s old).standing = s.standing := by
  simp [State.serviceBegin, apply_ite State.standing]

@[simp] theorem State.enter_standing (s : State) (m : Mode) (c : ModeCause) : (State.enter s m c).standing = s.standing := by
  unfold State.enter; dsimp only; (repeat' split) <;> simp [apply_ite State.standing]

@[simp] theorem State.drainBegin_standing (s : State) (p : DrainPurpose) (c : ModeCause) (planned : optParam Bool Bool.false) : (State.drainBegin s p c planned).standing = s.standing := by
  simp [State.drainBegin]

@[simp] theorem State.catchRotor_standing (s : State) (p : Nat) : (State.catchRotor s p).standing = s.standing := by
  simp [State.catchRotor]

@[simp] theorem State.grantPort_standing (s : State) (p : Nat) (number : Nat) (surge : Nat) (orphan : Bool) : (State.grantPort s p number surge orphan).standing = s.standing := by
  simp [State.grantPort, apply_ite State.standing]

@[simp] theorem State.orphanServe_standing (x0 : Nat) (x1 : State) : (State.orphanServe x0 x1).standing = x1.standing := by
  induction x0 generalizing x1 with
  | zero => simp [State.orphanServe]
  | succ n ih => unfold State.orphanServe; split
                 · split
                   · rw [ih]; simp
                   · rfl
                 · rfl

@[simp] theorem State.grave_standing (s : State) : (State.grave s).standing = s.standing := by
  unfold State.grave; dsimp only; (repeat' split) <;> simp [apply_ite State.standing]

@[simp] theorem State.after_standing (s : State) : (nextOf s (State.after s)).standing = s.standing := by
  simp [State.after]

@[simp] theorem State.recoverTry_standing (s : State) : (State.recoverTry s).standing = s.standing := by
  simp [State.recoverTry, apply_ite State.standing]

@[simp] theorem State.bringUpTry_standing (s : State) : (State.bringUpTry s).standing = s.standing := by
  simp [State.bringUpTry, apply_ite State.standing]

@[simp] theorem State.pathTry_standing (s : State) : (State.pathTry s).standing = s.standing := by
  unfold State.pathTry; (repeat' split) <;> simp [apply_ite State.standing]

@[simp] theorem State.recatchEnter_standing (s : State) (p : Nat) : (State.recatchEnter s p).standing = s.standing := by
  simp [State.recatchEnter]

@[simp] theorem State.authChallenge_standing (s : State) (q : Requester) (u : UnitId) : (State.authChallenge s q u).standing = s.standing := by
  simp [State.authChallenge, apply_ite State.standing]

@[simp] theorem execAuthChallengeRead_standing (q : Requester) (u : UnitId) (s : State) : (nextOf s (execAuthChallengeRead q u s)).standing = s.standing := by
  simp [execAuthChallengeRead]

@[simp] theorem State.authWrong_standing (s : State) (q : Requester) (u : UnitId) : (State.authWrong s q u).standing = s.standing := by
  simp [State.authWrong]

@[simp] theorem State.authRespond_standing (s : State) (q : Requester) (u : UnitId) (data : List Byte) : (State.authRespond s q u data).standing = s.standing := by
  unfold State.authRespond; rw [State.hold_standing]; intro s; dsimp only; (repeat' split) <;> simp [apply_ite Prod.fst, apply_ite Prod.snd, apply_ite State.standing]

@[simp] theorem execAuthResponseWrite_standing (q : Requester) (u : UnitId) (data : List Byte) (s : State) : (nextOf s (execAuthResponseWrite q u data s)).standing = s.standing := by
  simp [execAuthResponseWrite]

@[simp] theorem State.closeSession_standing (s : State) (q : Requester) (u : UnitId) : (State.closeSession s q u).standing = s.standing := by
  simp [State.closeSession]

@[simp] theorem execAuthClose_standing (q : Requester) (u : UnitId) (v : BitVec 8) (s : State) : (nextOf s (execAuthClose q u v s)).standing = s.standing := by
  simp [execAuthClose]

@[simp] theorem State.settingsSave_standing (s : State) (u : UnitId) : (State.settingsSave s u).standing = s.standing := by
  simp [State.settingsSave, apply_ite State.standing]

@[simp] theorem State.timestampSave_standing (s : State) (u : UnitId) : (State.timestampSave s u).standing = s.standing := by
  simp [State.timestampSave, apply_ite State.standing]

@[simp] theorem execKdapEthertypeWrite_standing (q : Requester) (u : UnitId) (v : BitVec 16) (s : State) : (nextOf s (execKdapEthertypeWrite q u v s)).standing = s.standing := by
  simp [execKdapEthertypeWrite]

@[simp] theorem State.restoreDefaults_standing (s : State) : (State.restoreDefaults s).standing = s.standing := by
  simp [State.restoreDefaults]

@[simp] theorem State.fuseResult_standing (s : State) (u : UnitId) (r : Nat) : (State.fuseResult s u r).standing = s.standing := by
  simp [State.fuseResult]

@[simp] theorem State.writeSlot_standing (s : State) (u : UnitId) (n : Nat) (img : List Byte) : (State.writeSlot s u n img).standing = s.standing := by
  simp [State.writeSlot]

@[simp] theorem State.fwTry_standing (s : State) (u : UnitId) (bad1 : Bool) (bad2 : Bool) : (State.fwTry s u bad1 bad2).1.standing = s.standing := by
  unfold State.fwTry; dsimp only; (repeat' split) <;> simp [apply_ite State.standing]

@[simp] theorem State.fwRun_standing (s : State) (u : UnitId) (n : Nat) : (State.fwRun s u n).standing = s.standing := by
  simp [State.fwRun]

@[simp] theorem State.loadKey_standing (s : State) (u : UnitId) (k : Nat) : (State.loadKey s u k).standing = s.standing := by
  simp [State.loadKey, apply_ite State.standing]

@[simp] theorem State.modesLoad_standing (s : State) (u : UnitId) : (State.modesLoad s u).standing = s.standing := by
  simp [State.modesLoad, apply_ite State.standing]

@[simp] theorem State.settingsLoad_standing (s : State) (u : UnitId) : (State.settingsLoad s u).standing = s.standing := by
  simp [State.settingsLoad]

@[simp] theorem State.shiftTimes_standing (s : State) (d : Nat) : (State.shiftTimes s d).standing = s.standing := by
  simp [State.shiftTimes]

@[simp] theorem State.timeBase_standing (s : State) (u : UnitId) : (State.timeBase s u).standing = s.standing := by
  unfold State.timeBase; dsimp only; (repeat' split) <;> simp [apply_ite State.standing]

@[simp] theorem State.persistApply_standing (s : State) (p : Nat) : (State.persistApply s p).standing = s.standing := by
  unfold State.persistApply; (repeat' split) <;> simp [apply_ite State.standing]

@[simp] theorem State.bootRead_standing (s : State) : (State.bootRead s).standing = s.standing := by
  simp [State.bootRead]

@[simp] theorem State.bootTry_standing (s : State) : (State.bootTry s).standing = s.standing := by
  simp [State.bootTry, apply_ite State.standing]

@[simp] theorem State.unitLost_standing (s : State) (u : UnitId) : (State.unitLost s u).standing = s.standing := by
  simp [State.unitLost]

@[simp] theorem State.mcCopy_standing (s : State) (u : UnitId) : (State.mcCopy s u).standing = s.standing := by
  simp [State.mcCopy]

@[simp] theorem State.markReleased_standing (s : State) (u : UnitId) (planned : Bool) : (State.markReleased s u planned).standing = s.standing := by
  simp [State.markReleased, apply_ite State.standing]

@[simp] theorem State.releasePort_standing (s : State) (p : Nat) : (State.releasePort s p).standing = s.standing := by
  simp [State.releasePort]

@[simp] theorem State.dropLines_standing (s : State) (u : UnitId) : (State.dropLines s u).standing = s.standing := by
  simp [State.dropLines]

@[simp] theorem State.noUnit_standing (s : State) : (State.noUnit s).standing = s.standing := by
  simp [State.noUnit, apply_ite State.standing]

@[simp] theorem State.toSwitchover_standing (s : State) (c : ModeCause) : (State.toSwitchover s c).standing = s.standing := by
  simp [State.toSwitchover, apply_ite State.standing]

@[simp] theorem State.releaseToken_standing (s : State) (cause : Option ReleaseCause) (c : ModeCause) (planned : Bool) : (State.releaseToken s cause c planned).standing = s.standing := by
  unfold State.releaseToken; split <;> simp [apply_ite State.standing]

@[simp] theorem State.checkTrip_standing (s : State) (c : ReleaseCause) : (State.checkTrip s c).standing = s.standing := by
  simp [State.checkTrip, apply_ite State.standing]

@[simp] theorem State.standbyTrip_standing (s : State) (c : ReleaseCause) : (State.standbyTrip s c).standing = s.standing := by
  simp [State.standbyTrip, apply_ite State.standing]

@[simp] theorem State.checksAct_standing (s : State) : (State.checksAct s).standing = s.standing := by
  simp [State.checksAct, apply_ite State.standing]

@[simp] theorem State.adopt_standing (s : State) (p : Nat) : (State.adopt s p).standing = s.standing := by
  simp [State.adopt, apply_ite State.standing]

@[simp] theorem State.shadowPort_standing (s : State) (p : Nat) : (State.shadowPort s p).1.standing = s.standing := by
  simp [State.shadowPort, apply_ite State.standing]

@[simp] theorem State.claimedAll_standing (s : State) : (State.claimedAll s).standing = s.standing := by
  simp [State.claimedAll, apply_ite State.standing]

@[simp] theorem State.takeRole_standing (s : State) : (State.takeRole s).standing = s.standing := by
  unfold State.takeRole; dsimp only; split
  · rfl
  · have hf : ∀ (l : List Nat) (x : State × Bool), (l.foldl (fun (s, b) p => let (s, x) := s.shadowPort p; (s, b || x)) x).1.standing = x.1.standing := by
      intro l
      induction l with
      | nil => intro x; rfl
      | cons p l ih => intro x; rw [List.foldl_cons, ih]; simp
    simp [apply_ite State.standing, hf]

@[simp] theorem State.claim_standing (s : State) (p : Nat) : (State.claim s p).standing = s.standing := by
  simp [State.claim, apply_ite State.standing]

@[simp] theorem State.paused_standing (s : State) (b : Bool) : (State.paused s b).standing = s.standing := by
  simp [State.paused]

@[simp] theorem State.switchDrain_standing (s : State) (planned : Bool) : (State.switchDrain s planned).standing = s.standing := by
  simp [State.switchDrain, apply_ite State.standing]

@[simp] theorem State.activationFailed_standing (s : State) : (State.activationFailed s).standing = s.standing := by
  unfold State.activationFailed; split <;> simp [apply_ite State.standing]

@[simp] theorem State.startActivation_standing (s : State) (slot : Nat) (cmd : Option CmdTag) : (State.startActivation s slot cmd).standing = s.standing := by
  simp [State.startActivation]

@[simp] theorem State.warmRestart_standing (s : State) (u : UnitId) : (State.warmRestart s u).standing = s.standing := by
  unfold State.warmRestart; dsimp only; (repeat' split) <;> simp [apply_ite State.standing]

@[simp] theorem State.activationDone_standing (s : State) : (State.activationDone s).standing = s.standing := by
  unfold State.activationDone; split <;> simp [apply_ite State.standing]

@[simp] theorem State.activationAdvance_standing (s : State) : (State.activationAdvance s).standing = s.standing := by
  unfold State.activationAdvance; split <;> simp [apply_ite State.standing]

@[simp] theorem State.drainTry_standing (s : State) : (State.drainTry s).standing = s.standing := by
  simp [State.drainTry, apply_ite State.standing]

@[simp] theorem State.maintSwitchTry_standing (s : State) : (State.maintSwitchTry s).standing = s.standing := by
  simp [State.maintSwitchTry, apply_ite State.standing]

@[simp] theorem State.activationTook_standing (s : State) : (State.activationTook s).standing = s.standing := by
  unfold State.activationTook; (repeat' split) <;> simp [apply_ite State.standing]

@[simp] theorem State.takeover_standing (s : State) : (State.takeover s).standing = s.standing := by
  simp [State.takeover, apply_ite State.standing]

@[simp] theorem State.commitRun_standing (s : State) (t : CmdTag) (slot : Nat) (action : Nat) : (State.commitRun s t slot action).standing = s.standing := by
  unfold State.commitRun; (repeat' split) <;> simp [apply_ite State.standing]

@[simp] theorem State.commitTry_standing (s : State) : (State.commitTry s).standing = s.standing := by
  simp [State.commitTry, apply_ite State.standing]

@[simp] theorem State.retrieveStep_standing (s : State) (c : HostCmd) (n : Nat) (input : List Byte) : (State.retrieveStep s c n input).standing = s.standing := by
  unfold State.retrieveStep; dsimp only; (repeat' split) <;> simp [apply_ite State.standing]

@[simp] theorem State.copySorus_standing (s : State) (n : Nat) (input : List Byte) : (State.copySorus s n input).standing = s.standing := by
  simp [State.copySorus]

@[simp] theorem State.repack_standing (s : State) (n : Nat) (input : List Byte) : (State.repack s n input).standing = s.standing := by
  simp [State.repack]

@[simp] theorem State.readDrop_standing (s : State) (n : Nat) : (State.readDrop s n).standing = s.standing := by
  simp [State.readDrop]

@[simp] theorem State.readDone_standing (s : State) (n : Nat) (r : ChunkRead) (input : List Byte) : (State.readDone s n r input).standing = s.standing := by
  simp [State.readDone, apply_ite State.standing]

@[simp] theorem State.readFail_standing (s : State) (n : Nat) : (State.readFail s n).standing = s.standing := by
  simp [State.readFail]

@[simp] theorem State.readStep_standing (s : State) (n : Nat) (r : ChunkRead) : (State.readStep s n r).standing = s.standing := by
  unfold State.readStep; dsimp only; (repeat' split) <;> simp [apply_ite State.standing]

@[simp] theorem State.readsSettle_standing (s : State) : (State.readsSettle s).standing = s.standing := by
  simp [State.readsSettle]

@[simp] theorem State.readsAge_standing (s : State) : (State.readsAge s).standing = s.standing := by
  simp [State.readsAge]

@[simp] theorem State.coderDone_standing (s : State) (n : Nat) : (State.coderDone s n).standing = s.standing := by
  simp [State.coderDone, apply_ite State.standing]

@[simp] theorem State.retireSlots_standing (s : State) : (State.retireSlots s).standing = s.standing := by
  simp [State.retireSlots]

@[simp] theorem State.aloneTry_standing (s : State) : (State.aloneTry s).standing = s.standing := by
  simp [State.aloneTry, apply_ite State.standing]

@[simp] theorem State.mirrorKeep_standing (s : State) : (State.mirrorKeep s).standing = s.standing := by
  simp [State.mirrorKeep, apply_ite State.standing]

@[simp] theorem State.settle_standing (s : State) : (State.settle s).standing = s.standing := by
  simp [State.settle]

@[simp] theorem State.conclude_standing (s : State) : (nextOf s (State.conclude s)).standing = s.standing := by
  simp [State.conclude]

@[simp] theorem State.runRetrieve_standing (s : State) (t : CmdTag) (ns : Nat) (key : List Byte) (len : Nat) : (State.runRetrieve s t ns key len).standing = s.standing := by
  unfold State.runRetrieve; (repeat' split) <;> simp [apply_ite State.standing]

@[simp] theorem State.runDelete_standing (s : State) (t : CmdTag) (ns : Nat) (key : List Byte) : (State.runDelete s t ns key).standing = s.standing := by
  unfold State.runDelete; split <;> simp [apply_ite State.standing]

@[simp] theorem State.runExist_standing (s : State) (t : CmdTag) (ns : Nat) (key : List Byte) : (State.runExist s t ns key).standing = s.standing := by
  unfold State.runExist; split <;> simp [apply_ite State.standing]

@[simp] theorem State.runList_standing (s : State) (t : CmdTag) (ns : Nat) (key : List Byte) (len : Nat) : (State.runList s t ns key len).standing = s.standing := by
  unfold State.runList; split <;> simp [apply_ite State.standing]

@[simp] theorem State.runFlush_standing (s : State) (t : CmdTag) (ns : Nat) (all : Bool) (mods : List Nat) : (State.runFlush s t ns all mods).standing = s.standing := by
  unfold State.runFlush; dsimp only; (repeat' split) <;> simp [apply_ite State.standing]

@[simp] theorem State.nsTo_standing (s : State) (n : Nat) (v : Nat) : (State.nsTo s n v).standing = s.standing := by
  simp [State.nsTo]

@[simp] theorem State.dropNamespace_standing (s : State) (n : Nat) : (State.dropNamespace s n).standing = s.standing := by
  simp [State.dropNamespace, apply_ite State.standing]

@[simp] theorem State.repairBegin_standing (s : State) : (State.repairBegin s).standing = s.standing := by
  unfold State.repairBegin; split <;> simp [apply_ite State.standing]

@[simp] theorem State.blockedStep_standing (s : State) : (State.blockedStep s).standing = s.standing := by
  simp [State.blockedStep, apply_ite State.standing]

@[simp] theorem State.rebuildStep_standing (s : State) : (State.rebuildStep s).standing = s.standing := by
  unfold State.rebuildStep; (repeat' split) <;> simp [apply_ite State.standing]

@[simp] theorem State.moveSorus_standing (s : State) (n : Nat) : (State.moveSorus s n).standing = s.standing := by
  simp [State.moveSorus, apply_ite State.standing]

@[simp] theorem State.releaseSets_standing (s : State) : (State.releaseSets s).standing = s.standing := by
  simp [State.releaseSets]

@[simp] theorem State.compactMark_standing (s : State) : (State.compactMark s).standing = s.standing := by
  show s.releaseSets.standing = _
  simp

@[simp] theorem State.compactMove_standing (s : State) : (State.compactMove s).standing = s.standing := by
  unfold State.compactMove; (repeat' split) <;> simp

@[simp] theorem State.compactStep_standing (s : State) : (State.compactStep s).standing = s.standing := by
  simp [State.compactStep]

@[simp] theorem State.checkpoint_standing (s : State) : (State.checkpoint s).standing = s.standing := by
  simp [State.checkpoint, apply_ite State.standing]

@[simp] theorem State.putMember_standing (s : State) (slot : Nat) (m : Member) : (State.putMember s slot m).standing = s.standing := by
  simp [State.putMember]

@[simp] theorem State.newMember_standing (s : State) (p : Nat) : (State.newMember s p).standing = s.standing := by
  unfold State.newMember; split <;> simp [apply_ite State.standing]

@[simp] theorem State.memberBack_standing (s : State) (slot : Nat) (p : Nat) : (State.memberBack s slot p).standing = s.standing := by
  simp [State.memberBack, apply_ite State.standing]

@[simp] theorem State.recognise_standing (s : State) (p : Nat) (r : MemberRecord) : (State.recognise s p r).standing = s.standing := by
  unfold State.recognise; dsimp only; (repeat' split) <;> simp [apply_ite State.standing]

@[simp] theorem State.capture_standing (s : State) (p : Nat) (a : Nat) (x : Sector) (code : Nat) : (State.capture s p a x code).standing = s.standing := by
  simp [State.capture, apply_ite State.standing]

@[simp] theorem State.replayEnd_standing (s : State) (p : Nat) (a : Nat) (x : Sector) (v : Verdict) (flags : optParam (List Flag) []) : (State.replayEnd s p a x v flags).standing = s.standing := by
  unfold State.replayEnd; split <;> simp [apply_ite State.standing]

@[simp] theorem State.sectorEnd_standing (s : State) (p : Nat) (a : Nat) (x : Sector) (v : Verdict) (flags : optParam (List Flag) []) : (State.sectorEnd s p a x v flags).standing = s.standing := by
  simp [State.sectorEnd, apply_ite State.standing]

@[simp] theorem State.rxEnd_standing (s : State) (p : Nat) (a : Nat) (code : Nat) (flags : List Flag) : (State.rxEnd s p a code flags).standing = s.standing := by
  unfold State.rxEnd; split <;> simp [apply_ite State.standing]

@[simp] theorem State.markerIn_standing (s : State) (u : UnitId) (p : Nat) (a : Nat) (lane : Nat) (w : BitVec 64) : (State.markerIn s u p a lane w).standing = s.standing := by
  unfold State.markerIn; dsimp only; (repeat' split) <;> simp [apply_ite State.standing]

@[simp] theorem State.preempt_standing (s : State) (p : Nat) (a : Nat) : (State.preempt s p a).standing = s.standing := by
  unfold State.preempt; split <;> simp [apply_ite State.standing]

@[simp] theorem State.readStart_standing (s : State) (p : Nat) (a : Nat) (r : Arm) : (State.readStart s p a r).standing = s.standing := by
  simp [State.readStart, apply_ite State.standing]

@[simp] theorem State.feedPayload_standing (s : State) (addr : Nat) : (State.feedPayload s addr).1.standing = s.standing := by
  unfold State.feedPayload
  have h := State.engRead_standing s s.pair.active addr 4096
  rcases e : s.engRead s.pair.active addr 4096 with ⟨t, r⟩
  rw [e] at h
  cases r with
  | some b => exact h
  | none => exact (State.next_standing t).trans h

@[simp] theorem State.writeFragment_standing (s : State) (p : Nat) (a : Nat) (r : Arm) : (State.writeFragment s p a r).standing = s.standing := by
  unfold State.writeFragment; split <;> simp [apply_ite State.standing]

@[simp] theorem State.writeStart_standing (s : State) (p : Nat) (a : Nat) (r : Arm) : (State.writeStart s p a r).standing = s.standing := by
  simp [State.writeStart, apply_ite State.standing]

@[simp] theorem State.readers_standing (s : State) (p : Nat) (a : Nat) (d : SectorSamples) : (State.readers s p a d).1.standing = s.standing := by
  simp [State.readers]

@[simp] theorem State.judgeSync_standing (s : State) (p : Nat) (a : Nat) (l : List SyncMatch) : (State.judgeSync s p a l).1.standing = s.standing := by
  simp [State.judgeSync, apply_ite State.standing]

@[simp] theorem State.judge_standing (s : State) (p : Nat) (a : Nat) (x : Sector) (f : Fold) (os : List FragOut) : (State.judge s p a x f os).1.standing = s.standing := by
  unfold State.judge; split <;> simp [apply_ite State.standing]

@[simp] theorem State.carryTaps_standing (s : State) (p : Nat) (a : Nat) (x : Sector) (q : FoldSet) (f : Fold) : (State.carryTaps s p a x q f).standing = s.standing := by
  simp [State.carryTaps, apply_ite State.standing]

@[simp] theorem State.samplesEnd_standing (s : State) (p : Nat) (a : Nat) (x : Sector) (d : SectorSamples) : (State.samplesEnd s p a x d).standing = s.standing := by
  simp [State.samplesEnd, apply_ite State.standing]

@[simp] theorem State.rawSamples_standing (s : State) (p : Nat) (a : Nat) (x : Sector) (d : SectorSamples) : (State.rawSamples s p a x d).standing = s.standing := by
  simp [State.rawSamples, apply_ite State.standing]

@[simp] theorem State.replayRun_standing (s : State) (p : Nat) (a : Nat) (x : Sector) : (State.replayRun s p a x).1.standing = s.standing := by
  unfold State.replayRun; dsimp only; (repeat' split) <;> simp [apply_ite State.standing]

@[simp] theorem State.rawFinal_standing (s : State) (p : Nat) (a : Nat) (x : Sector) : (State.rawFinal s p a x).standing = s.standing := by
  unfold State.rawFinal; dsimp only; (repeat' split) <;> simp [apply_ite State.standing]

end Sys2Proof.Machine
end

