-- ==== Sys2Proof/Laws/StandingServices.lean ====
section
/-! SUPPORT. What the operations of the services leave standing (see Laws/Standing.lean): host commands, key-value service, tree, DMA,
recorder, dictionary and monitor, and the meanings that other meanings call. -/

set_option linter.unusedSimpArgs false
set_option linter.unusedVariables false

open Sys2Proof

namespace Sys2Proof.Machine

@[simp] theorem State.begin_standing (s : State) (t : CmdTag) (len : Nat) (f : State → State) (h0 : ∀ (y0 : State), (f y0).standing = y0.standing) : (State.begin s t len f).standing = s.standing := by
  simp [State.begin, apply_ite State.standing, h0]

@[simp] theorem State.beginIo_standing (s : State) (t : CmdTag) (len : Nat) (f : State → State) (h0 : ∀ (y0 : State), (f y0).standing = y0.standing) : (State.beginIo s t len f).standing = s.standing := by
  simp [State.beginIo, apply_ite State.standing, h0]

@[simp] theorem State.forwardKv_standing (s : State) (t : CmdTag) (m : Nat) (c : KvSub) (value : List Byte) : (State.forwardKv s t m c value).standing = s.standing := by
  simp [State.forwardKv]

@[simp] theorem State.onNsid_standing (s : State) (t : CmdTag) (nsid : Nat) (c : KvSub) (value : List Byte) (own : Nat → State → State) (h0 : ∀ (y0 : Nat) (y1 : State), (own y0 y1).standing = y1.standing) : (State.onNsid s t nsid c value own).standing = s.standing := by
  unfold State.onNsid; (repeat' split) <;> simp [apply_ite State.standing, h0]

@[simp] theorem execNsCreate_standing (q : Requester) (u : UnitId) (n : Fin 16) (s : State) : (nextOf s (execNsCreate q u n s)).standing = s.standing := by
  simp [execNsCreate]

@[simp] theorem State.nsDelete_standing (s : State) (n : Nat) : (State.nsDelete s n).standing = s.standing := by
  simp [State.nsDelete]

@[simp] theorem execNsDelete_standing (q : Requester) (u : UnitId) (n : Fin 16) (s : State) : (nextOf s (execNsDelete q u n s)).standing = s.standing := by
  simp [execNsDelete]

@[simp] theorem State.lateLimit_standing (s : State) (n : Nat) : (State.lateLimit s n).standing = s.standing := by
  simp [State.lateLimit, apply_ite State.standing]

@[simp] theorem State.modTable_standing (s : State) (m : Nat) (f : TreeModule → TreeModule) : (State.modTable s m f).standing = s.standing := by
  simp [State.modTable]

@[simp] theorem State.nsNotice_standing (s : State) : (State.nsNotice s).standing = s.standing := by
  simp [State.nsNotice]

@[simp] theorem State.reached_standing (s : State) (ms : List Nat) : (State.reached s ms).standing = s.standing := by
  simp [State.reached, apply_ite State.standing]

@[simp] theorem State.transportError_standing (s : State) (ms : List Nat) : (State.transportError s ms).standing = s.standing := by
  simp [State.transportError]

@[simp] theorem State.queryLevel_standing (s : State) (level : List Nat) : (State.queryLevel s level).standing = s.standing := by
  simp [State.queryLevel]

@[simp] theorem State.becomeRoot_standing (s : State) : (State.becomeRoot s).standing = s.standing := by
  simp [State.becomeRoot]

@[simp] theorem State.rootTry_standing (s : State) : (State.rootTry s).standing = s.standing := by
  simp [State.rootTry, apply_ite State.standing]

@[simp] theorem State.becomeMember_standing (s : State) : (State.becomeMember s).standing = s.standing := by
  simp [State.becomeMember, apply_ite State.standing]

@[simp] theorem State.reportTokens_standing (s : State) (m : Nat) (tokens : List (Nat × Nat)) : (State.reportTokens s m tokens).standing = s.standing := by
  simp [State.reportTokens]

@[simp] theorem State.assign_standing (s : State) (m : Nat) (port : Nat) (depth : Nat) (serial : List Byte) (tokens : List (Nat × Nat)) : (State.assign s m port depth serial tokens).1.standing = s.standing := by
  unfold State.assign; split <;> simp [apply_ite State.standing]

@[simp] theorem State.assignLevel_standing (s : State) (e : EnumSt) : (State.assignLevel s e).1.standing = s.standing := by
  have hf : ∀ (l : List (Nat × Nat × PartnerSeen)) (x : State × List Nat), (l.foldl (fun (s, l) (m, port, p) =>
      match p with
      | .partner serial tokens =>
        let (s, n) := s.assign m port (e.depth + 1) serial tokens
        (s, match n with | some n => l ++ [n] | none => l)
      | _ => (s, l)) x).1.standing = x.1.standing := by
    intro l
    induction l with
    | nil => intro x; rfl
    | cons y l ih => intro x; rw [List.foldl_cons, ih]; dsimp only; split <;> simp
  unfold State.assignLevel
  exact hf _ _

@[simp] theorem State.levelDone_standing (s : State) (e : EnumSt) : (State.levelDone s e).standing = s.standing := by
  simp [State.levelDone, apply_ite State.standing]

@[simp] theorem State.lateJoin_standing (s : State) (m : Nat) (ports : List (Nat × PartnerSeen)) : (State.lateJoin s m ports).standing = s.standing := by
  unfold State.lateJoin
  dsimp only
  generalize hx : List.foldl _ _ ports = x
  have h : x.1.standing = s.standing := by
    rw [← hx]
    have hf : ∀ (l : List (Nat × PartnerSeen)) (x : State × List Nat), (l.foldl (fun (x : State × List Nat) e =>
        match e.2 with
        | .partner serial tokens =>
          match (x.1.casc.table.find? (fun r => r.2.used && r.2.serial == serial && r.2.parent == m && r.2.port == e.1)).map Prod.fst with
          | some n =>
            if (mapGet (fun _ => ({} : TreeModule)) x.1.casc.table n).reachable then (x.1, x.2)
            else (((x.1.assign m e.1 ((mapGet (fun _ => ({} : TreeModule)) s.casc.table m).depth + 1) serial tokens).1).reached (x.1.casc.below m e.1), x.2)
          | none =>
            if 6 < (mapGet (fun _ => ({} : TreeModule)) s.casc.table m).depth + 1 then (x.1, x.2)
            else
              match (x.1.assign m e.1 ((mapGet (fun _ => ({} : TreeModule)) s.casc.table m).depth + 1) serial tokens).2 with
              | none => ((x.1.assign m e.1 ((mapGet (fun _ => ({} : TreeModule)) s.casc.table m).depth + 1) serial tokens).1, x.2)
              | some n => ((((x.1.assign m e.1 ((mapGet (fun _ => ({} : TreeModule)) s.casc.table m).depth + 1) serial tokens).1).raise .casc [.CASC_LATE_JOIN]).nsNotice, x.2 ++ [n])
        | _ => (x.1, x.2)) x).1.standing = x.1.standing := by
      intro l
      induction l with
      | nil => intro x; rfl
      | cons y l ih =>
        intro x; rw [List.foldl_cons, ih]; (repeat' split) <;> simp
    exact hf ports (s, [])
  (repeat' split) <;> simp [h]

@[simp] theorem State.lateServe_standing (x0 : Nat) (x1 : State) : (State.lateServe x0 x1).standing = x1.standing := by
  induction x0 generalizing x1 with
  | zero => simp [State.lateServe]
  | succ n ih =>
    rw [State.lateServe]
    split
    · rw [ih]; simp
    · rfl

@[simp] theorem State.lateSeen_standing (s : State) (m : Nat) (p0 : PartnerSeen) (p1 : PartnerSeen) : (State.lateSeen s m p0 p1).standing = s.standing := by
  simp [State.lateSeen, apply_ite State.standing]

@[simp] theorem State.unpark_standing (s : State) (h : Nat) : (State.unpark s h).standing = s.standing := by
  simp [State.unpark]

@[simp] theorem State.linkLeaves_standing (s : State) (u : UnitId) (h : Nat) (st : GriugState) : (State.linkLeaves s u h st).standing = s.standing := by
  simp [State.linkLeaves, apply_ite State.standing]

@[simp] theorem State.linkServes_standing (s : State) (h : Nat) : (State.linkServes s h).standing = s.standing := by
  simp [State.linkServes, apply_ite State.standing]

@[simp] theorem State.linkTrained_standing (s : State) (u : UnitId) (l : GriugPort) : (State.linkTrained s u l).standing = s.standing := by
  unfold State.linkTrained; dsimp only; (repeat' split) <;> simp [apply_ite State.standing]

@[simp] theorem State.linkRetrain_standing (s : State) (u : UnitId) (h : Nat) : (State.linkRetrain s u h).standing = s.standing := by
  simp [State.linkRetrain]

@[simp] theorem State.linkReplay_standing (s : State) (u : UnitId) (h : Nat) : (State.linkReplay s u h).standing = s.standing := by
  simp [State.linkReplay, apply_ite State.standing]

@[simp] theorem State.linkAck_standing (s : State) (u : UnitId) (h : Nat) (f : List (BitVec 12 × Packet) → List (BitVec 12 × Packet)) : (State.linkAck s u h f).standing = s.standing := by
  simp [State.linkAck, apply_ite State.standing]

@[simp] theorem State.forward_standing (s : State) (p : Packet) : (State.forward s p).standing = s.standing := by
  unfold State.forward; (repeat' split) <;> simp [apply_ite State.standing]

@[simp] theorem State.dataAsk_standing (s : State) (c : HostCmd) : (State.dataAsk s c).standing = s.standing := by
  simp [State.dataAsk, apply_ite State.standing]

@[simp] theorem State.cascRun_standing (s : State) (t : CmdTag) (c : KvSub) : (State.cascRun s t c).standing = s.standing := by
  unfold State.cascRun; dsimp only; (repeat' split) <;> simp [apply_ite State.standing]

@[simp] theorem State.postEntry_standing (s : State) (u : UnitId) (k : Nat) (bytes : List Byte) : (State.postEntry s u k bytes).standing = s.standing := by
  simp [State.postEntry]

@[simp] theorem State.planReject_standing (s : State) (p : Nat) (a : Nat) : (State.planReject s p a).standing = s.standing := by
  simp [State.planReject]

@[simp] theorem State.seqStop_standing (s : State) (q : SeqId) (f : Flag) : (State.seqStop s q f).standing = s.standing := by
  simp [State.seqStop, apply_ite State.standing]

@[simp] theorem OpRes.go_standing (s : State) (w : MicroWord) : ((OpRes.go s w).st s).standing = s.standing := by
  simp [OpRes.go]

@[simp] theorem OpRes.branch_standing (s : State) (w : MicroWord) (c : Bool) : ((OpRes.branch s w c).st s).standing = s.standing := by
  simp [OpRes.branch]

@[simp] theorem State.opPred_standing (s : State) (q : SeqId) (w : MicroWord) : ((State.opPred s q w).st s).standing = s.standing := by
  unfold State.opPred
  (try dsimp only)
  (repeat' split) <;> simp [apply_ite State.standing]

@[simp] theorem State.opPset_standing (s : State) (q : SeqId) (w : MicroWord) : ((State.opPset s q w).st s).standing = s.standing := by
  unfold State.opPset
  (try dsimp only)
  (repeat' split) <;> simp [apply_ite State.standing]

@[simp] theorem State.opWrset_standing (s : State) (q : SeqId) (w : MicroWord) : ((State.opWrset s q w).st s).standing = s.standing := by
  simp [State.opWrset, apply_ite State.standing]

@[simp] theorem State.opSrd_standing (s : State) (q : SeqId) (w : MicroWord) : ((State.opSrd s q w).st s).standing = s.standing := by
  unfold State.opSrd
  (try dsimp only)
  (repeat' split) <;> simp [apply_ite State.standing]

@[simp] theorem State.opSwr_standing (s : State) (q : SeqId) (w : MicroWord) : ((State.opSwr s q w).st s).standing = s.standing := by
  unfold State.opSwr
  (try dsimp only)
  (repeat' split) <;> simp [apply_ite State.standing]

@[simp] theorem State.opCfrag_standing (s : State) (q : SeqId) (w : MicroWord) : ((State.opCfrag s q w).st s).standing = s.standing := by
  unfold State.opCfrag
  (try dsimp only)
  (repeat' split) <;> simp [apply_ite State.standing]

@[simp] theorem State.opSeekreq_standing (s : State) (q : SeqId) (w : MicroWord) : ((State.opSeekreq s q w).st s).standing = s.standing := by
  unfold State.opSeekreq
  (try dsimp only)
  (repeat' split) <;> simp [apply_ite State.standing]

@[simp] theorem State.opReplay_standing (s : State) (q : SeqId) (w : MicroWord) : ((State.opReplay s q w).st s).standing = s.standing := by
  unfold State.opReplay
  (try dsimp only)
  (repeat' split) <;> simp [apply_ite State.standing]

@[simp] theorem State.opLdm_standing (s : State) (q : SeqId) (w : MicroWord) : ((State.opLdm s q w).st s).standing = s.standing := by
  unfold State.opLdm
  dsimp only
  (repeat' split) <;> first | (simp; done) | (rename_i h; have e := congrArg (fun x => x.1.standing) h; simp at e; simp [e])

@[simp] theorem State.opPost_standing (s : State) (q : SeqId) (w : MicroWord) : ((State.opPost s q w).st s).standing = s.standing := by
  unfold State.opPost
  (try dsimp only)
  (repeat' split) <;> simp [apply_ite State.standing]

@[simp] theorem State.opTicket_standing (s : State) (q : SeqId) (w : MicroWord) : ((State.opTicket s q w).st s).standing = s.standing := by
  unfold State.opTicket
  (try dsimp only)
  (repeat' split) <;> simp [apply_ite State.standing]

@[simp] theorem State.opWfeed_standing (s : State) (q : SeqId) (w : MicroWord) : ((State.opWfeed s q w).st s).standing = s.standing := by
  unfold State.opWfeed
  (try dsimp only)
  (repeat' split) <;> simp [apply_ite State.standing]

@[simp] theorem State.condTake_standing (s : State) (q : SeqId) (n : Nat) : (State.condTake s q n).standing = s.standing := by
  simp [State.condTake]

@[simp] theorem State.op_standing (s : State) (q : SeqId) (o : SeqOp) (w : MicroWord) : ((State.op s q o w).st s).standing = s.standing := by
  cases o <;> simp [State.op, apply_ite State.standing]
  · split
    · rename_i s1 _ h
      have e := State.seqSet_st s s q w (s.seqA q w - 1#32)
      rw [h] at e
      simpa using e
    · simp
  · split <;> simp
  · split <;> simp

@[simp] theorem State.seqTiming_standing (s : State) (q : SeqId) (w : MicroWord) (nxt : BitVec 12) : (State.seqTiming s q w nxt).standing = s.standing := by
  simp [State.seqTiming, apply_ite State.standing]

@[simp] theorem State.seqAfter_standing (s : State) (q : SeqId) (o : SeqOp) (w : MicroWord) (r : OpRes) (h0 : (r.st s).standing = s.standing) : (State.seqAfter s q o w r).standing = s.standing := by
  unfold State.seqAfter; split <;> simp_all

@[simp] theorem State.modStore_standing (s : State) (q : SeqId) (f : StoreSt → StoreSt) : (State.modStore s q f).standing = s.standing := by
  simp [State.modStore]

@[simp] theorem State.seqFetch_standing (s : State) (q : SeqId) (corrected : Bool) : (State.seqFetch s q corrected).standing = s.standing := by
  simp [State.seqFetch, apply_ite State.standing]

@[simp] theorem State.seqWord_standing (s : State) (q : SeqId) (o : SeqOp) (w : MicroWord) : (State.seqWord s q o w).standing = s.standing := by
  simp [State.seqWord, apply_ite State.standing]

@[simp] theorem State.seqRun_standing (s : State) (q : SeqId) (o : SeqOp) (w : MicroWord) : (State.seqRun s q o w).standing = s.standing := by
  simp [State.seqRun, apply_ite State.standing]

@[simp] theorem State.seqDrain_standing (s : State) (q : SeqId) (start : Bool) : (State.seqDrain s q start).standing = s.standing := by
  simp [State.seqDrain, apply_ite State.standing]

@[simp] theorem State.edgeEnds_standing (s : State) (p : Nat) (a : Nat) : (State.edgeEnds s p a).standing = s.standing := by
  unfold State.edgeEnds; dsimp only; (repeat' split) <;> simp [apply_ite State.standing]

@[simp] theorem State.drainAct_standing (s : State) (p : PortId) (a : ActId) : (State.drainAct s p a).standing = s.standing := by
  simp [State.drainAct]

@[simp] theorem State.drainPort_standing (s : State) (p : PortId) : (State.drainPort s p).standing = s.standing := by
  simp [State.drainPort]

@[simp] theorem State.seqFreeze_standing (s : State) (u : UnitId) (p : PortId) : (State.seqFreeze s u p).standing = s.standing := by
  simp [State.seqFreeze]

@[simp] theorem State.mcService_standing (s : State) (b : List Byte) (src : McSource) : (State.mcService s b src).standing = s.standing := by
  simp [State.mcService, apply_ite State.standing]

@[simp] theorem State.mcBuiltIn_standing (s : State) : (State.mcBuiltIn s).standing = s.standing := by
  simp [State.mcBuiltIn]

@[simp] theorem State.mcBringUp_standing (s : State) : (State.mcBringUp s).standing = s.standing := by
  unfold State.mcBringUp; split <;> simp [apply_ite State.standing]

@[simp] theorem State.mcResult_standing (s : State) (r : Nat) : (State.mcResult s r).standing = s.standing := by
  simp [State.mcResult]

@[simp] theorem State.mcWrite_standing (s : State) (q : Requester) (u : UnitId) (key : Nat) (d : List Byte) (effect : State → State) (h0 : ∀ (y0 : State), (effect y0).standing = y0.standing) : (State.mcWrite s q u key d effect).standing = s.standing := by
  simp [State.mcWrite, apply_ite State.standing, h0]

@[simp] theorem execMcStageWrite_standing (q : Requester) (u : UnitId) (data : List Byte) (s : State) : (nextOf s (execMcStageWrite q u data s)).standing = s.standing := by
  simp [execMcStageWrite, apply_ite Prod.fst, apply_ite Prod.snd, apply_ite State.standing]

@[simp] theorem execMcVerify_standing (q : Requester) (u : UnitId) (s : State) : (nextOf s (execMcVerify q u s)).standing = s.standing := by
  simp [execMcVerify, apply_ite Prod.fst, apply_ite Prod.snd, apply_ite State.standing]

@[simp] theorem execMcLoad_standing (q : Requester) (u : UnitId) (s : State) : (nextOf s (execMcLoad q u s)).standing = s.standing := by
  simp [execMcLoad, apply_ite Prod.fst, apply_ite Prod.snd, apply_ite State.standing]

@[simp] theorem execMcPersist_standing (q : Requester) (u : UnitId) (s : State) : (nextOf s (execMcPersist q u s)).standing = s.standing := by
  simp [execMcPersist, apply_ite Prod.fst, apply_ite Prod.snd, apply_ite State.standing]

@[simp] theorem execMcRevert_standing (q : Requester) (u : UnitId) (s : State) : (nextOf s (execMcRevert q u s)).standing = s.standing := by
  simp [execMcRevert, apply_ite Prod.fst, apply_ite Prod.snd, apply_ite State.standing]

@[simp] theorem State.rawCommand_standing (s : State) (q : Requester) (u : UnitId) (p : Nat) (a : Nat) (v : Nat) : (State.rawCommand s q u p a v).standing = s.standing := by
  simp [State.rawCommand, apply_ite State.standing]

@[simp] theorem execRawCommand_standing (q : Requester) (u : UnitId) (p : PortId) (a : ActId) (v : BitVec 8) (s : State) : (nextOf s (execRawCommand q u p a v s)).standing = s.standing := by
  simp [execRawCommand]

@[simp] theorem State.winRead_standing (s : State) (q : Requester) (u : UnitId) : (State.winRead s q u).standing = s.standing := by
  unfold State.winRead; rw [State.hold_standing]; intro s; dsimp only; (repeat' split) <;> simp [apply_ite Prod.fst, apply_ite Prod.snd, apply_ite State.standing]

@[simp] theorem State.winWrite_standing (s : State) (q : Requester) (u : UnitId) (d : List Byte) : (State.winWrite s q u d).standing = s.standing := by
  simp [State.winWrite]

@[simp] theorem execBufWinDataAccess_standing (q : Requester) (u : UnitId) (write : Option (List Byte)) (s : State) : (nextOf s (execBufWinDataAccess q u write s)).standing = s.standing := by
  unfold execBufWinDataAccess; split <;> simp [apply_ite State.standing]

@[simp] theorem State.capStep_standing (s : State) (p : Nat) (w : Nat) : (State.capStep s p w).standing = s.standing := by
  simp [State.capStep, apply_ite State.standing]

@[simp] theorem State.phaseSet_standing (s : State) (p : Nat) (e : Int) : (State.phaseSet s p e).standing = s.standing := by
  simp [State.phaseSet]

@[simp] theorem State.zcCount_standing (s : State) (p : Nat) : (State.zcCount s p).standing = s.standing := by
  simp [State.zcCount, apply_ite State.standing]

@[simp] theorem State.startFail_standing (s : State) (p : Nat) (cause : PortCause) : (State.startFail s p cause).standing = s.standing := by
  simp [State.startFail]

@[simp] theorem State.recatchNext_standing (s : State) (p : Nat) : (State.recatchNext s p).standing = s.standing := by
  simp [State.recatchNext, apply_ite State.standing]

@[simp] theorem State.rotorLost_standing (s : State) (p : Nat) : (State.rotorLost s p).standing = s.standing := by
  simp [State.rotorLost]

@[simp] theorem State.recatchDone_standing (s : State) (p : Nat) : (State.recatchDone s p).standing = s.standing := by
  simp [State.recatchDone]

@[simp] theorem State.measureStep_standing (s : State) (p : Nat) : (State.measureStep s p).standing = s.standing := by
  unfold State.measureStep; dsimp only; (repeat' split) <;> simp [apply_ite State.standing]

@[simp] theorem State.trackSpin_standing (s : State) (p : Nat) : (State.trackSpin s p).standing = s.standing := by
  simp [State.trackSpin, apply_ite State.standing]

@[simp] theorem State.recatchRead_standing (s : State) (p : Nat) : (State.recatchRead s p).standing = s.standing := by
  unfold State.recatchRead; dsimp only; (repeat' split) <;> simp [apply_ite State.standing]

@[simp] theorem State.zcValid_standing (s : State) (p : Nat) (t : Nat) (opened : Nat) : (State.zcValid s p t opened).standing = s.standing := by
  unfold State.zcValid; dsimp only; (repeat' split) <;> simp [apply_ite State.standing]

@[simp] theorem State.zcDrive_standing (s : State) (p : Nat) (i : Nat) (t : Nat) : (State.zcDrive s p i t).standing = s.standing := by
  unfold State.zcDrive; split <;> simp [apply_ite State.standing]

@[simp] theorem State.regenStep_standing (s : State) (p : Nat) (i : Int) : (State.regenStep s p i).standing = s.standing := by
  simp [State.regenStep, apply_ite State.standing]

@[simp] theorem State.quietStep_standing (s : State) (p : Nat) (b : MotorTlm) : (State.quietStep s p b).standing = s.standing := by
  simp [State.quietStep, apply_ite State.standing]

@[simp] theorem State.brakeFrame_standing (s : State) (p : Nat) : (State.brakeFrame s p).standing = s.standing := by
  simp [State.brakeFrame]

@[simp] theorem State.motorSend_standing (s : State) (p : Nat) : (State.motorSend s p).standing = s.standing := by
  simp [State.motorSend]

@[simp] theorem State.motorTlm_standing (s : State) (p : Nat) (q0 : SpdSt) (b : MotorTlm) : (State.motorTlm s p q0 b).standing = s.standing := by
  unfold State.motorTlm; dsimp only; (repeat' split) <;> simp [apply_ite State.standing]

@[simp] theorem State.zcMissed_standing (s : State) (p : Nat) : (State.zcMissed s p).standing = s.standing := by
  simp [State.zcMissed, apply_ite State.standing]

@[simp] theorem State.commutate_standing (s : State) (p : Nat) : (State.commutate s p).standing = s.standing := by
  unfold State.commutate; dsimp only; (repeat' split) <;> simp [apply_ite State.standing]

@[simp] theorem State.voltageStep_standing (s : State) (p : Nat) (high : Bool) : (State.voltageStep s p high).standing = s.standing := by
  simp [State.voltageStep, apply_ite State.standing]

@[simp] theorem State.modStep_standing (s : State) (p : Nat) : (State.modStep s p).standing = s.standing := by
  simp [State.modStep, apply_ite State.standing]

@[simp] theorem State.applyDuty_standing (s : State) (p : Nat) (request : Int) : (State.applyDuty s p request).standing = s.standing := by
  simp [State.applyDuty]

@[simp] theorem State.dutyUpdate_standing (s : State) (p : Nat) : (State.dutyUpdate s p).standing = s.standing := by
  unfold State.dutyUpdate; dsimp only; (repeat' split) <;> simp [apply_ite State.standing]

@[simp] theorem State.spdLock_standing (s : State) (p : Nat) : (State.spdLock s p).standing = s.standing := by
  simp [State.spdLock, apply_ite State.standing]

@[simp] theorem State.spdIndex_standing (s : State) (p : Nat) (t : Nat) : (State.spdIndex s p t).standing = s.standing := by
  unfold State.spdIndex; dsimp only; (repeat' split) <;> simp [apply_ite State.standing]

@[simp] theorem State.brakeWith_standing (s : State) (p : Nat) (bemf : Nat) : (State.brakeWith s p bemf).standing = s.standing := by
  simp [State.brakeWith]

@[simp] theorem State.stopped_standing (s : State) (p : Nat) : (State.stopped s p).standing = s.standing := by
  simp [State.stopped, apply_ite State.standing]

@[simp] theorem State.brakeProbe_standing (s : State) (p : Nat) (bemf : Nat) : (State.brakeProbe s p bemf).standing = s.standing := by
  unfold State.brakeProbe; dsimp only; (repeat' split) <;> simp [apply_ite State.standing]

@[simp] theorem State.motorBlock_standing (s : State) (p : Nat) (w : Option (BitVec 64)) : (State.motorBlock s p w).standing = s.standing := by
  unfold State.motorBlock; dsimp only; split <;> simp [apply_ite State.standing]

@[simp] theorem State.dutyDue_standing (s : State) (p : Nat) : (State.dutyDue s p).standing = s.standing := by
  simp [State.dutyDue, apply_ite State.standing]

@[simp] theorem State.indexSeen_standing (s : State) (p : Nat) (b e : CtStamp) : (State.indexSeen s p b e).standing = s.standing := by
  unfold State.indexSeen; split <;> simp

@[simp] theorem State.probeEnd_standing (s : State) (p : Nat) : (State.probeEnd s p).standing = s.standing := by
  simp [State.probeEnd, apply_ite State.standing]

@[simp] theorem State.rampStart_standing (s : State) (p : Nat) : (State.rampStart s p).standing = s.standing := by
  simp [State.rampStart]

@[simp] theorem State.rampFail_standing (s : State) (p : Nat) : (State.rampFail s p).standing = s.standing := by
  simp [State.rampFail, apply_ite State.standing]

@[simp] theorem execSweepRpmWrite_standing (q : Requester) (u : UnitId) (v : BitVec 16) (s : State) : (nextOf s (execSweepRpmWrite q u v s)).standing = s.standing := by
  simp [execSweepRpmWrite]

@[simp] theorem State.sweepTimers_standing (s : State) (u : UnitId) : (State.sweepTimers s u).standing = s.standing := by
  simp [State.sweepTimers, apply_ite State.standing]

@[simp] theorem State.isolate_standing (s : State) (p : Nat) : (State.isolate s p).standing = s.standing := by
  simp [State.isolate, apply_ite State.standing]

@[simp] theorem State.readCode_standing (s : State) (p : Nat) (code : Nat) : (State.readCode s p code).standing = s.standing := by
  simp [State.readCode, apply_ite State.standing]

@[simp] theorem State.fltOn_standing (s : State) (p : Nat) : (State.fltOn s p).standing = s.standing := by
  simp [State.fltOn, apply_ite State.standing]

@[simp] theorem State.fltOff_standing (s : State) (p : Nat) : (State.fltOff s p).standing = s.standing := by
  simp [State.fltOff, apply_ite State.standing]

@[simp] theorem State.removed_standing (s : State) (p : Nat) : (State.removed s p).standing = s.standing := by
  unfold State.removed; dsimp only; (repeat' split) <;> simp [apply_ite State.standing]

@[simp] theorem State.inputTo_standing (s : State) (u : UnitId) (p : Nat) (i : LineInput) (level : Bool) : (State.inputTo s u p i level).standing = s.standing := by
  unfold State.inputTo; split <;> simp [apply_ite State.standing]

@[simp] theorem State.trainFail_standing (s : State) (u : UnitId) (p : Nat) : (State.trainFail s u p).standing = s.standing := by
  simp [State.trainFail, apply_ite State.standing]

@[simp] theorem State.takeIdentity_standing (s : State) (p : Nat) (i : HdaIdentity) : (State.takeIdentity s p i).standing = s.standing := by
  simp [State.takeIdentity, apply_ite State.standing]

@[simp] theorem State.countersZero_standing (s : State) (p : Nat) : (State.countersZero s p).standing = s.standing := by
  simp [State.countersZero]

@[simp] theorem State.lanesIn_standing (s : State) (u : UnitId) (p : Nat) : (State.lanesIn s u p).standing = s.standing := by
  simp [State.lanesIn]

@[simp] theorem State.trained_standing (s : State) (p : Nat) : (State.trained s p).standing = s.standing := by
  simp [State.trained]

@[simp] theorem State.countErrs_standing (s : State) (u : UnitId) (p : Nat) (lane : Nat) (n : Nat) : (State.countErrs s u p lane n).standing = s.standing := by
  simp [State.countErrs]

@[simp] theorem State.ctRegain_standing (s : State) (p : Nat) : (State.ctRegain s p).standing = s.standing := by
  simp [State.ctRegain, apply_ite State.standing]

@[simp] theorem State.handOver_standing (s : State) (p : Nat) (good : Bool) : (State.handOver s p good).standing = s.standing := by
  simp [State.handOver, apply_ite State.standing]

@[simp] theorem State.portWrite_standing (s : State) (q : Requester) (u : UnitId) (p : Nat) (v : Nat) : (State.portWrite s q u p v).standing = s.standing := by
  unfold State.portWrite; dsimp only; rw [State.tryKey_standing]; intro t; split
  · simp
  · split
    · rename_i h; exact State.portCommand_standing _ _ _ _ h
    · rfl

@[simp] theorem execOffline_standing (q : Requester) (u : UnitId) (p : PortId) (s : State) : (nextOf s (execOffline q u p s)).standing = s.standing := by
  simp [execOffline, apply_ite Prod.fst, apply_ite Prod.snd, apply_ite State.standing]

@[simp] theorem execOnline_standing (q : Requester) (u : UnitId) (p : PortId) (s : State) : (nextOf s (execOnline q u p s)).standing = s.standing := by
  simp [execOnline, apply_ite Prod.fst, apply_ite Prod.snd, apply_ite State.standing]

@[simp] theorem execRetry_standing (q : Requester) (u : UnitId) (p : PortId) (s : State) : (nextOf s (execRetry q u p s)).standing = s.standing := by
  simp [execRetry, apply_ite Prod.fst, apply_ite Prod.snd, apply_ite State.standing]

@[simp] theorem State.saturated_standing (s : State) (p : Nat) (a : Nat) (n : Nat) : (State.saturated s p a n).standing = s.standing := by
  simp [State.saturated, apply_ite State.standing]

@[simp] theorem State.heaterSet_standing (s : State) (p : Nat) (a : Nat) (switch : Bool) : (State.heaterSet s p a switch).standing = s.standing := by
  simp [State.heaterSet, apply_ite State.standing]

@[simp] theorem State.newTarget_standing (s : State) (p : Nat) (a : Nat) (track : Nat) (head : Nat) : (State.newTarget s p a track head).standing = s.standing := by
  simp [State.newTarget, apply_ite State.standing]

@[simp] theorem State.rebase_standing (s : State) (p : Nat) (a : Nat) (pc : Int) : (State.rebase s p a pc).standing = s.standing := by
  unfold State.rebase; dsimp only; (repeat' split) <;> simp [apply_ite State.standing]

@[simp] theorem State.seekStep_standing (s : State) (p : Nat) (a : Nat) : (State.seekStep s p a).standing = s.standing := by
  simp [State.seekStep, apply_ite State.standing]

@[simp] theorem State.swapStep_standing (s : State) (p : Nat) (a : Nat) : (State.swapStep s p a).standing = s.standing := by
  simp [State.swapStep]

@[simp] theorem State.targetStep_standing (s : State) (p : Nat) (a : Nat) : (State.targetStep s p a).standing = s.standing := by
  unfold State.targetStep; dsimp only; (repeat' split) <;> simp [apply_ite State.standing]

@[simp] theorem State.trackStep_standing (s : State) (p : Nat) (a : Nat) : (State.trackStep s p a).standing = s.standing := by
  simp [State.trackStep, apply_ite State.standing]

@[simp] theorem State.acquireStep_standing (s : State) (p : Nat) (a : Nat) (pc : Option Int) : (State.acquireStep s p a pc).standing = s.standing := by
  unfold State.acquireStep; dsimp only; (repeat' split) <;> simp [apply_ite State.standing]

@[simp] theorem State.errorStep_standing (s : State) (p : Nat) (a : Nat) (pc : Option Int) : (State.errorStep s p a pc).standing = s.standing := by
  unfold State.errorStep; split <;> simp [apply_ite State.standing]

@[simp] theorem State.safeStep_standing (s : State) (p : Nat) (a : Nat) : (State.safeStep s p a).standing = s.standing := by
  simp [State.safeStep, apply_ite State.standing]

@[simp] theorem State.srvFault_standing (s : State) (p : Nat) (a : Nat) : (State.srvFault s p a).standing = s.standing := by
  simp [State.srvFault, apply_ite State.standing]

@[simp] theorem State.loadTry_standing (s : State) (p : Nat) (a : Nat) : (State.loadTry s p a).standing = s.standing := by
  simp [State.loadTry, apply_ite State.standing]

@[simp] theorem State.parkedStep_standing (s : State) (p : Nat) (a : Nat) (parked : Bool) : (State.parkedStep s p a parked).standing = s.standing := by
  unfold State.parkedStep; split <;> simp [apply_ite State.standing]

@[simp] theorem State.boundary_standing (s : State) (p a : Nat) (d : ServoWindow) : (State.boundary s p a d).standing = s.standing := by
  simp [State.boundary, apply_ite State.standing]

@[simp] theorem State.outerProduct_standing (s : State) (p a : Nat) (b : Bool) : (State.outerProduct s p a b).standing = s.standing := by
  unfold State.outerProduct; dsimp only; (repeat' split) <;> simp [apply_ite State.standing]

@[simp] theorem State.shadowDiag_standing (s : State) (b : Bool) : (State.shadowDiag s b).standing = s.standing := by
  simp [State.shadowDiag, apply_ite State.standing]

@[simp] theorem State.selfRetract_standing (s : State) (p a : Nat) : (State.selfRetract s p a).standing = s.standing := by
  unfold State.selfRetract; split <;> simp

@[simp] theorem State.servoRead_standing (s : State) (p a : Nat) (w : Option (BitVec 64)) :
    (State.servoRead s p a w).standing = s.standing := by
  unfold State.servoRead; dsimp only; split <;> simp [apply_ite State.standing]

@[simp] theorem State.servoBlock_standing (s : State) (p a : Nat) (w : Option (BitVec 64)) :
    (State.servoBlock s p a w).standing = s.standing := by
  unfold State.servoBlock; dsimp only; (repeat' split) <;> simp [apply_ite State.standing]

@[simp] theorem State.innerFrame_standing (s : State) (p a : Nat) (k j : Nat) (x y : Bool) : (State.innerFrame s p a k j x y).standing = s.standing := by
  unfold State.innerFrame; dsimp only; (repeat' split) <;> simp [apply_ite State.standing]

@[simp] theorem State.heaterEnd_standing (s : State) (p a : Nat) : (State.heaterEnd s p a).standing = s.standing := by
  simp [State.heaterEnd, apply_ite State.standing]

@[simp] theorem State.safeHoldEnd_standing (s : State) (p a : Nat) : (State.safeHoldEnd s p a).standing = s.standing := by
  simp [State.safeHoldEnd, apply_ite State.standing]

@[simp] theorem State.loadOverrun_standing (s : State) (p a : Nat) : (State.loadOverrun s p a).standing = s.standing := by
  simp [State.loadOverrun, apply_ite State.standing]

@[simp] theorem State.acquireOverrun_standing (s : State) (p a : Nat) : (State.acquireOverrun s p a).standing = s.standing := by
  simp [State.acquireOverrun, apply_ite State.standing]

@[simp] theorem State.seekOverrun_standing (s : State) (p a : Nat) : (State.seekOverrun s p a).standing = s.standing := by
  simp [State.seekOverrun, apply_ite State.standing]

@[simp] theorem State.unloadOverrun_standing (s : State) (p a : Nat) : (State.unloadOverrun s p a).standing = s.standing := by
  simp [State.unloadOverrun, apply_ite State.standing]

@[simp] theorem State.retractOverrun_standing (s : State) (p a : Nat) : (State.retractOverrun s p a).standing = s.standing := by
  simp [State.retractOverrun, apply_ite State.standing]

@[simp] theorem execBankWrite_standing (q : Requester) (u : UnitId) (p : PortId) (a : ActId) (bank : Fin 4) (data : List Byte) (s : State) : (nextOf s (execBankWrite q u p a bank data s)).standing = s.standing := by
  simp [execBankWrite, apply_ite Prod.fst, apply_ite Prod.snd, apply_ite State.standing]

@[simp] theorem execBankSwap_standing (q : Requester) (u : UnitId) (p : PortId) (a : ActId) (v : BitVec 8) (s : State) : (nextOf s (execBankSwap q u p a v s)).standing = s.standing := by
  simp [execBankSwap, apply_ite Prod.fst, apply_ite Prod.snd, apply_ite State.standing]

@[simp] theorem execActLoad_standing (q : Requester) (u : UnitId) (p : PortId) (a : ActId) (s : State) : (nextOf s (execActLoad q u p a s)).standing = s.standing := by
  simp [execActLoad, apply_ite Prod.fst, apply_ite Prod.snd, apply_ite State.standing]

@[simp] theorem execActUnload_standing (q : Requester) (u : UnitId) (p : PortId) (a : ActId) (s : State) : (nextOf s (execActUnload q u p a s)).standing = s.standing := by
  simp [execActUnload, apply_ite Prod.fst, apply_ite Prod.snd, apply_ite State.standing]

@[simp] theorem execActRetract_standing (q : Requester) (u : UnitId) (p : PortId) (a : ActId) (s : State) : (nextOf s (execActRetract q u p a s)).standing = s.standing := by
  simp [execActRetract, apply_ite Prod.fst, apply_ite Prod.snd, apply_ite State.standing]

@[simp] theorem State.sysSave_standing (s : State) (p : Nat) (a : Nat) : (State.sysSave s p a).standing = s.standing := by
  unfold State.sysSave; dsimp only; (repeat' split) <;> simp [apply_ite State.standing]

@[simp] theorem State.sysLoad_standing (s : State) (p : Nat) (a : Nat) (copies : List SysCopy) : (State.sysLoad s p a copies).standing = s.standing := by
  unfold State.sysLoad; split <;> simp [apply_ite State.standing]

@[simp] theorem State.calibrated_standing (s : State) (p : Nat) (a : Nat) (d : CalData) : (State.calibrated s p a d).standing = s.standing := by
  simp [State.calibrated, apply_ite State.standing]

@[simp] theorem State.plannedBack_standing (s : State) : (State.plannedBack s).standing = s.standing := by
  simp [State.plannedBack, apply_ite State.standing]

@[simp] theorem State.sendImage_standing (s : State) : (State.sendImage s).standing = s.standing := by
  simp [State.sendImage, apply_ite State.standing]

@[simp] theorem State.peerTry_standing (s : State) : (State.peerTry s).standing = s.standing := by
  unfold State.peerTry; split <;> simp [apply_ite State.standing]

@[simp] theorem State.recorderJoin_standing (s : State) : (State.recorderJoin s).standing = s.standing := by
  simp [State.recorderJoin]

@[simp] theorem State.followLines_standing (s : State) : (State.followLines s).standing = s.standing := by
  simp [State.followLines]

@[simp] theorem State.standbyReady_standing (s : State) (overlap : Bool) : (State.standbyReady s overlap).standing = s.standing := by
  unfold State.standbyReady; dsimp only; (repeat' split) <;> simp [apply_ite State.standing]

@[simp] theorem State.rejoinStart_standing (s : State) (v : UnitId) : (State.rejoinStart s v).standing = s.standing := by
  simp [State.rejoinStart, apply_ite State.standing]

@[simp] theorem State.rejoinRefused_standing (s : State) (v : UnitId) : (State.rejoinRefused s v).standing = s.standing := by
  simp [State.rejoinRefused, apply_ite State.standing]

@[simp] theorem execRejoinAttempt_standing (q : Requester) (u : UnitId) (s : State) : (nextOf s (execRejoinAttempt q u s)).standing = s.standing := by
  unfold execRejoinAttempt; simp only [nextOf_conclude, State.settle_standing]; rw [State.tryKey_standing]; intro t; (repeat' split) <;> simp

@[simp] theorem execPlannedSwitchover_standing (q : Requester) (u : UnitId) (s : State) : (nextOf s (execPlannedSwitchover q u s)).standing = s.standing := by
  simp [execPlannedSwitchover, apply_ite Prod.fst, apply_ite Prod.snd, apply_ite State.standing]

@[simp] theorem State.dmaFail_standing (s : State) (u : UnitId) (n : Nat) (fs : List Flag) : (State.dmaFail s u n fs).standing = s.standing := by
  simp [State.dmaFail]

@[simp] theorem State.dmaLoad_standing (s : State) (u : UnitId) (n : Nat) (addr : Nat) (first : Bool) : (State.dmaLoad s u n addr first).standing = s.standing := by
  unfold State.dmaLoad; dsimp only; (repeat' split) <;> simp [apply_ite State.standing]

@[simp] theorem State.pulseDma_standing (s : State) (u : UnitId) (e : Nat) (n : Nat) : (State.pulseDma s u e n).standing = s.standing := by
  simp [State.pulseDma, apply_ite State.standing]

@[simp] theorem State.pulseSeq_standing (s : State) (u : UnitId) (e : Nat) (p : Nat) (a : Nat) : (State.pulseSeq s u e p a).standing = s.standing := by
  simp [State.pulseSeq, apply_ite State.standing]

@[simp] theorem State.deliver_standing (s : State) (u : UnitId) (e : Nat) : (State.deliver s u e).standing = s.standing := by
  simp [State.deliver, apply_ite State.standing]

@[simp] theorem State.coderEnd_standing (s : State) (u : UnitId) (i : Nat) : (State.coderEnd s u i).standing = s.standing := by
  simp [State.coderEnd]

@[simp] theorem State.coderTake_standing (s : State) (u : UnitId) (i : Nat) (d : List Byte) : (State.coderTake s u i d).standing = s.standing := by
  unfold State.coderTake
  dsimp only
  have hf : ∀ (c : CoderSt) (l : List (Nat × Nat)) (x : State × Bool), (l.foldl (fun (x : State × Bool) e =>
      ((x.1.engWrite u (e.1 + 4096 * c.row) (c.parity e.2 c.got)).1, x.2 && (x.1.engWrite u (e.1 + 4096 * c.row) (c.parity e.2 c.got)).2)) x).1.standing
        = x.1.standing := by
    intro c l
    induction l with
    | nil => intro x; rfl
    | cons y l ih => intro x; rw [List.foldl_cons, ih]; simp
  split
  · rfl
  · generalize (if 4096 ≤ _ then _ else _ : CoderSt) = c
    split
    · simp
    · generalize hx : List.foldl _ _ _ = x
      have h := hf c c.addrs.zipIdx (s, true)
      dsimp only at h
      rw [hx] at h
      split <;> simp [h]

@[simp] theorem State.streamDone_standing (s : State) (u : UnitId) (i : Nat) : (State.streamDone s u i).standing = s.standing := by
  simp [State.streamDone, apply_ite State.standing]

@[simp] theorem execEvFire_standing (q : Requester) (u : UnitId) (v : BitVec 8) (s : State) : (nextOf s (execEvFire q u v s)).standing = s.standing := by
  simp [execEvFire]

@[simp] theorem execTimerWrite_standing (q : Requester) (u : UnitId) (i : Fin 9) (v : Word) (s : State) : (nextOf s (execTimerWrite q u i v s)).standing = s.standing := by
  simp [execTimerWrite]

@[simp] theorem execChArm_standing (q : Requester) (u : UnitId) (n : Fin 32) (streams : List (Fin 4 × CoderSetup)) (s : State) : (nextOf s (execChArm q u n streams s)).standing = s.standing := by
  simp [execChArm, apply_ite Prod.fst, apply_ite Prod.snd, apply_ite State.standing]

@[simp] theorem execChStop_standing (q : Requester) (u : UnitId) (n : Fin 32) (s : State) : (nextOf s (execChStop q u n s)).standing = s.standing := by
  unfold execChStop; simp only [nextOf_after, State.grave_standing]; rw [State.tryKey_standing]; intro t; (repeat' split) <;> simp

@[simp] theorem State.dmaPut_standing (s : State) (u : UnitId) (space : Nat) (addr : Nat) (d : List Byte) : (State.dmaPut s u space addr d).1.standing = s.standing := by
  unfold State.dmaPut; (repeat' split) <;> simp [apply_ite State.standing]

@[simp] theorem State.dmaNext_standing (s : State) (u : UnitId) (n : Nat) : (State.dmaNext s u n).standing = s.standing := by
  simp [State.dmaNext, apply_ite State.standing]

@[simp] theorem State.dmaBad_standing (s : State) (u : UnitId) (n : Nat) (addr : Nat) (write : Bool) (last : Bool) : (State.dmaBad s u n addr write last).standing = s.standing := by
  simp [State.dmaBad]

@[simp] theorem State.dmaBurst_standing (s : State) (u : UnitId) (n : Nat) (e : Option BurstErr) : (State.dmaBurst s u n e).standing = s.standing := by
  unfold State.dmaBurst; dsimp only; (repeat' split) <;> simp [apply_ite State.standing]

@[simp] theorem State.areaWrite_standing (u : UnitId) (x1 : Nat) (x2 : State) (x3 : Nat) (x4 : Nat) (x5 : Nat) (x6 : List Byte) : (State.areaWrite u x1 x2 x3 x4 x5 x6).1.standing = x2.standing := by
  induction x1 generalizing x2 x3 x4 x5 x6 with
  | zero => simp [State.areaWrite]
  | succ n ih =>
    unfold State.areaWrite; dsimp only; repeat' split
    all_goals simp [ih, apply_ite Prod.fst, apply_ite State.standing]

@[simp] theorem State.areaLen_standing (u : UnitId) (need : Nat) (x2 : Nat) (x3 : State) (x4 : Nat) (x5 : Nat) : (State.areaLen u need x2 x3 x4 x5).1.standing = x3.standing := by
  induction x2 generalizing x3 x4 x5 with
  | zero => simp [State.areaLen]
  | succ n ih =>
    unfold State.areaLen; dsimp only; repeat' split
    all_goals simp [ih]

@[simp] theorem State.jobWrite_standing (s : State) (u : UnitId) (d : List Byte) (out : List Byte) : (State.jobWrite s u d out).1.standing = s.standing := by
  simp [State.jobWrite]

@[simp] theorem State.jobSpoil_standing (s : State) (u : UnitId) (d : List Byte) (n : Nat) : (State.jobSpoil s u d n).standing = s.standing := by
  simp [State.jobSpoil]

@[simp] theorem State.compressJob_standing (s : State) (u : UnitId) (d : List Byte) (verifyFail : Bool) : (State.compressJob s u d verifyFail).1.standing = s.standing := by
  unfold State.compressJob; dsimp only; (repeat' split) <;> simp [apply_ite State.standing]

@[simp] theorem State.expandJob_standing (s : State) (u : UnitId) (d : List Byte) : (State.expandJob s u d).1.standing = s.standing := by
  unfold State.expandJob; dsimp only; (repeat' split) <;> simp [apply_ite State.standing]

@[simp] theorem State.addTo_standing (s : State) (k : Nat) (n : Nat) : (State.addTo s k n).standing = s.standing := by
  simp [State.addTo]

@[simp] theorem State.recheckDone_standing (s : State) (u : UnitId) (e : Nat) (tag : Nat) (r : JobEnd) : (State.recheckDone s u e tag r).standing = s.standing := by
  unfold State.recheckDone; dsimp only; (repeat' split) <;> simp

@[simp] theorem State.jobEnd_standing (s : State) (u : UnitId) (e : Nat) (d : List Byte) (r : JobEnd) : (State.jobEnd s u e d r).standing = s.standing := by
  simp [State.jobEnd, apply_ite State.standing]

@[simp] theorem State.jobRun_standing (s : State) (u : UnitId) (e : Nat) (verifyFail : Bool) (bus : Option Bool) (domainOff : Bool) : (State.jobRun s u e verifyFail bus domainOff).standing = s.standing := by
  unfold State.jobRun; dsimp only; (repeat' split) <;> simp [apply_ite State.standing]

@[simp] theorem execRingTailWrite_standing (q : Requester) (u : UnitId) (e : Fin 16) (v : BitVec 8) (s : State) : (nextOf s (execRingTailWrite q u e v s)).standing = s.standing := by
  simp [execRingTailWrite]

@[simp] theorem execRingBaseWrite_standing (q : Requester) (u : UnitId) (e : Fin 16) (v : BitVec 64) (s : State) : (nextOf s (execRingBaseWrite q u e v s)).standing = s.standing := by
  simp [execRingBaseWrite]

@[simp] theorem State.domainUp_standing (s : State) (u : UnitId) (d : Nat) : (State.domainUp s u d).standing = s.standing := by
  simp [State.domainUp]

@[simp] theorem State.domainStop_standing (s : State) (u : UnitId) (d : Nat) (all : Bool) : (State.domainStop s u d all).standing = s.standing := by
  unfold State.domainStop; rw [State.forEach_standing]; intro s n; dsimp only; (repeat' split) <;> simp [apply_ite Prod.fst, apply_ite Prod.snd, apply_ite State.standing]

@[simp] theorem execDomainPowerDown_standing (q : Requester) (u : UnitId) (d : Fin 7) (s : State) : (nextOf s (execDomainPowerDown q u d s)).standing = s.standing := by
  simp [execDomainPowerDown, apply_ite Prod.fst, apply_ite Prod.snd, apply_ite State.standing]

@[simp] theorem execDomainPowerUp_standing (q : Requester) (u : UnitId) (d : Fin 7) (s : State) : (nextOf s (execDomainPowerUp q u d s)).standing = s.standing := by
  simp [execDomainPowerUp, apply_ite State.standing]

@[simp] theorem State.unpoweredTry_standing (s : State) : (State.unpoweredTry s).standing = s.standing := by
  simp [State.unpoweredTry, apply_ite State.standing]

@[simp] theorem State.holdupBegin_standing (s : State) : (State.holdupBegin s).standing = s.standing := by
  simp [State.holdupBegin, apply_ite State.standing]

@[simp] theorem State.holdEnds_standing (s : State) : (State.holdEnds s).standing = s.standing := by
  simp [State.holdEnds, apply_ite State.standing]

@[simp] theorem State.commitSettings_standing (s : State) (u : UnitId) : (State.commitSettings s u).standing = s.standing := by
  simp [State.commitSettings, apply_ite State.standing]

@[simp] theorem State.commitPages_standing (s : State) (u : UnitId) : (State.commitPages s u).standing = s.standing := by
  simp [State.commitPages]

@[simp] theorem State.holdJudge_standing (s : State) (enough : Bool) : (State.holdJudge s enough).standing = s.standing := by
  simp [State.holdJudge, apply_ite State.standing]

@[simp] theorem State.holdUsable_standing (s : State) (uf : Nat) : (State.holdUsable s uf).standing = s.standing := by
  simp [State.holdUsable]

@[simp] theorem State.checkWaits_standing (s : State) (u : UnitId) (c : ReleaseCause) : (State.checkWaits s u c).standing = s.standing := by
  simp [State.checkWaits, apply_ite State.standing]

@[simp] theorem execVcoreSetWrite_standing (q : Requester) (u : UnitId) (v : BitVec 16) (s : State) : (nextOf s (execVcoreSetWrite q u v s)).standing = s.standing := by
  simp [execVcoreSetWrite]

@[simp] theorem State.paceWindow_standing (s : State) (u : UnitId) (counts : List (Option Nat)) : (State.paceWindow s u counts).standing = s.standing := by
  simp [State.paceWindow, apply_ite State.standing]

@[simp] theorem State.putReading_standing (s : State) (u : UnitId) (i : Nat) (r : Reading) : (State.putReading s u i r).standing = s.standing := by
  simp [State.putReading, apply_ite State.standing]

@[simp] theorem State.readRing_standing (s : State) (u : UnitId) (i : Nat) (raw : SensorRaw) : (State.readRing s u i raw).standing = s.standing := by
  simp [State.readRing]

@[simp] theorem State.readDiode_standing (s : State) (u : UnitId) (raw : SensorRaw) : (State.readDiode s u raw).standing = s.standing := by
  simp [State.readDiode]

@[simp] theorem State.readPair_standing (s : State) (u : UnitId) (i : Nat) (w : UnitId) (j : Nat) (raw : SensorRaw) : (State.readPair s u i w j raw).standing = s.standing := by
  simp [State.readPair, apply_ite State.standing]

@[simp] theorem State.readHda_standing (s : State) (u : UnitId) (p : Nat) (raw : SensorRaw) : (State.readHda s u p raw).standing = s.standing := by
  simp [State.readHda, apply_ite State.standing]

@[simp] theorem State.bandsAfter_standing (old : State) (s : State) (u : UnitId) : (State.bandsAfter old s u).standing = s.standing := by
  simp [State.bandsAfter, apply_ite State.standing]

@[simp] theorem State.fltEnd_standing (s : State) (p : Nat) : (State.fltEnd s p).standing = s.standing := by
  simp [State.fltEnd]

@[simp] theorem State.mediaFree_standing (s : State) (p : Nat) : (State.mediaFree s p).standing = s.standing := by
  simp [State.mediaFree]

@[simp] theorem State.ctRestore_standing (s : State) (p : Nat) : (State.ctRestore s p).standing = s.standing := by
  simp [State.ctRestore, apply_ite State.standing]

@[simp] theorem State.planGate_standing (s : State) (p : Nat) : (State.planGate s p).standing = s.standing := by
  simp [State.planGate, apply_ite State.standing]

@[simp] theorem State.sweepCount_standing (s : State) (p : Nat) : (State.sweepCount s p).standing = s.standing := by
  simp [State.sweepCount]

@[simp] theorem State.indexAdopt_standing (s : State) (p : Nat) : (State.indexAdopt s p).standing = s.standing := by
  simp [State.indexAdopt]

@[simp] theorem State.lanesStart_standing (s : State) (p : Nat) : (State.lanesStart s p).standing = s.standing := by
  simp [State.lanesStart]

@[simp] theorem State.shadowStep_standing (s : State) (p : Nat) : (State.shadowStep s p).standing = s.standing := by
  simp [State.shadowStep]

@[simp] theorem State.edgeMode_standing (s : State) : (State.edgeMode s).standing = s.standing := by
  unfold State.edgeMode; split <;> simp [apply_ite State.standing]

@[simp] theorem State.edgePlan_standing (s : State) : (State.edgePlan s).standing = s.standing := by
  simp [State.edgePlan]

@[simp] theorem State.edgeAct_standing (s : State) (p : Nat) (a : Nat) : (State.edgeAct s p a).standing = s.standing := by
  unfold State.edgeAct; dsimp only; (repeat' split) <;> simp [apply_ite State.standing]

@[simp] theorem execRequestedModeWrite_standing (q : Requester) (u : UnitId) (v : BitVec 8) (s : State) : (nextOf s (execRequestedModeWrite q u v s)).standing = s.standing := by
  simp [execRequestedModeWrite, apply_ite Prod.fst, apply_ite Prod.snd, apply_ite State.standing]

@[simp] theorem State.kept_standing (s : State) : (State.kept s).standing = s.standing := by
  simp [State.kept]

@[simp] theorem State.startBegin_standing (s : State) : (State.startBegin s).standing = s.standing := by
  simp [State.startBegin, apply_ite State.standing]

@[simp] theorem State.holdCut_standing (s : State) : (State.holdCut s).standing = s.standing := by
  simp [State.holdCut]

@[simp] theorem State.rejoinTested_standing (s : State) (u : UnitId) (ok : Bool) : (State.rejoinTested s u ok).standing = s.standing := by
  simp [State.rejoinTested, apply_ite State.standing]

@[simp] theorem State.unitFailed_standing (s : State) (u : UnitId) : (State.unitFailed s u).standing = s.standing := by
  simp [State.unitFailed, apply_ite State.standing]

@[simp] theorem State.firmwareLoaded_standing (s : State) (u : UnitId) (n : Nat) : (State.firmwareLoaded s u n).standing = s.standing := by
  unfold State.firmwareLoaded; dsimp only; (repeat' split) <;> simp [apply_ite State.standing]

@[simp] theorem execFwRecoveryStageWrite_standing (q : Requester) (u : UnitId) (data : List Byte) (s : State) : (nextOf s (execFwRecoveryStageWrite q u data s)).standing = s.standing := by
  simp [execFwRecoveryStageWrite]

@[simp] theorem execReadPage_standing (u : UnitId) (i : JfIface) (addr : BitVec 32) (errs : Nat) (s : State) : (nextOf s (execReadPage u i addr errs s)).standing = s.standing := by
  simp [execReadPage, apply_ite Prod.fst, apply_ite Prod.snd, apply_ite State.standing]

@[simp] theorem execProgramPage_standing (u : UnitId) (i : JfIface) (addr : BitVec 32) (data : List Byte) (s : State) : (nextOf s (execProgramPage u i addr data s)).standing = s.standing := by
  simp [execProgramPage, apply_ite Prod.fst, apply_ite Prod.snd, apply_ite State.standing]

@[simp] theorem State.journalProgrammed_standing (s : State) (u : UnitId) (errs : Nat) : (State.journalProgrammed s u errs).standing = s.standing := by
  unfold State.journalProgrammed; split <;> simp [apply_ite State.standing]

@[simp] theorem execEraseBlock_standing (u : UnitId) (i : JfIface) (addr : BitVec 32) (s : State) : (nextOf s (execEraseBlock u i addr s)).standing = s.standing := by
  simp [execEraseBlock, apply_ite Prod.fst, apply_ite Prod.snd, apply_ite State.standing]

@[simp] theorem execEraseSuspend_standing (u : UnitId) (i : JfIface) (addr : BitVec 32) (s : State) : (nextOf s (execEraseSuspend u i addr s)).standing = s.standing := by
  simp [execEraseSuspend, apply_ite Prod.fst, apply_ite Prod.snd, apply_ite State.standing]

@[simp] theorem execEraseResume_standing (u : UnitId) (i : JfIface) (addr : BitVec 32) (s : State) : (nextOf s (execEraseResume u i addr s)).standing = s.standing := by
  simp [execEraseResume, apply_ite Prod.fst, apply_ite Prod.snd, apply_ite State.standing]

@[simp] theorem execReadStatus_standing (u : UnitId) (i : JfIface) (addr : BitVec 32) (s : State) : (nextOf s (execReadStatus u i addr s)).standing = s.standing := by
  simp [execReadStatus, apply_ite Prod.fst, apply_ite Prod.snd, apply_ite State.standing]

@[simp] theorem execBlankCheck_standing (u : UnitId) (i : JfIface) (addr : BitVec 32) (s : State) : (nextOf s (execBlankCheck u i addr s)).standing = s.standing := by
  simp [execBlankCheck, apply_ite Prod.fst, apply_ite Prod.snd, apply_ite State.standing]

@[simp] theorem execReadStateRow_standing (u : UnitId) (i : JfIface) (addr : BitVec 32) (s : State) : (nextOf s (execReadStateRow u i addr s)).standing = s.standing := by
  simp [execReadStateRow, apply_ite Prod.fst, apply_ite Prod.snd, apply_ite State.standing]

@[simp] theorem execRetireBlock_standing (u : UnitId) (i : JfIface) (addr : BitVec 32) (s : State) : (nextOf s (execRetireBlock u i addr s)).standing = s.standing := by
  simp [execRetireBlock, apply_ite Prod.fst, apply_ite Prod.snd, apply_ite State.standing]

@[simp] theorem execMoveMap_standing (u : UnitId) (i : JfIface) (addr : BitVec 32) (src : BitVec 16) (s : State) : (nextOf s (execMoveMap u i addr src s)).standing = s.standing := by
  simp [execMoveMap, apply_ite Prod.fst, apply_ite Prod.snd, apply_ite State.standing]

@[simp] theorem State.dictRead_standing (s : State) (q : Requester) (u : UnitId) (i : Nat) (sub : Nat) : (State.dictRead s q u i sub).standing = s.standing := by
  unfold State.dictRead; (repeat' split) <;> simp [apply_ite State.standing]

@[simp] theorem State.domainDo_standing (s : State) (k : Nat) (r : ObjRow) (p : Nat) (a : Nat) (c : Nat) (sub : Nat) (data : List Byte) : (State.domainDo s k r p a c sub data).standing = s.standing := by
  unfold State.domainDo; split <;> simp [apply_ite State.standing]

@[simp] theorem State.numberDo_standing (s : State) (u : UnitId) (k : Nat) (r : ObjRow) (v : Nat) (c : Nat) (i : Nat) (sub : Nat) : (State.numberDo s u k r v c i sub).standing = s.standing := by
  unfold State.numberDo; split <;> simp [apply_ite State.standing]

@[simp] theorem State.plainWrite_standing (s : State) (q : Requester) (u : UnitId) (r : ObjRow) (i : Nat) (sub : Nat) (data : List Byte) : (State.plainWrite s q u r i sub data).standing = s.standing := by
  simp [State.plainWrite, apply_ite State.standing]

@[simp] theorem State.restoreEffects_standing (s : State) : (State.restoreEffects s).standing = s.standing := by
  simp [State.restoreEffects]

@[simp] theorem execRestoreDefaults_standing (q : Requester) (u : UnitId) (v : BitVec 8) (s : State) : (nextOf s (execRestoreDefaults q u v s)).standing = s.standing := by
  simp [execRestoreDefaults, apply_ite Prod.fst, apply_ite Prod.snd, apply_ite State.standing]

theorem State.cmdBase_standing (s : State) (q : Requester) (u : UnitId) (c : Nat) (sub : Nat) (v : Nat) (d : List Byte) : ∀ o, State.cmdBase s q u c sub v d = some o → (nextOf s o).standing = s.standing := by
  unfold State.cmdBase; (repeat' split) <;> simp [apply_ite State.standing]

theorem State.cmdPort_standing (s : State) (q : Requester) (u : UnitId) (c : Nat) (i : Nat) (sub : Nat) (v : Nat) (d : List Byte) : ∀ o, State.cmdPort s q u c i sub v d = some o → (nextOf s o).standing = s.standing := by
  intro o h
  unfold State.cmdPort at h
  (repeat' split at h) <;> cases h <;>
    simp only [execNsCreate_standing, execNsDelete_standing, execOffline_standing, execOnline_standing, execRetry_standing,
      execActLoad_standing, execActUnload_standing, execActRetract_standing, execBankSwap_standing, execBankWrite_standing]

theorem State.cmdBuf_standing (s : State) (q : Requester) (u : UnitId) (c : Nat) (sub : Nat) (v : Nat) : ∀ o, State.cmdBuf s q u c sub v = some o → (nextOf s o).standing = s.standing := by
  unfold State.cmdBuf; (repeat' split) <;> simp [apply_ite State.standing]

@[simp] theorem State.jfCommand_standing (s : State) (u : UnitId) (op : Nat) : (State.jfCommand s u op).standing = s.standing := by
  unfold State.jfCommand; split <;> simp [apply_ite State.standing]

@[simp] theorem State.jfWrite_standing (s : State) (q : Requester) (u : UnitId) (v : Nat) : (State.jfWrite s q u v).standing = s.standing := by
  simp [State.jfWrite]

@[simp] theorem State.domainWrite_standing (s : State) (q : Requester) (u : UnitId) (v : Nat) : (nextOf s (State.domainWrite s q u v)).standing = s.standing := by
  unfold State.domainWrite; (repeat' split) <;> simp [apply_ite State.standing]

theorem State.cmdFabric_standing (s : State) (q : Requester) (u : UnitId) (c : Nat) (i : Nat) (sub : Nat) (v : Nat) (d : List Byte) : ∀ o, State.cmdFabric s q u c i sub v d = some o → (nextOf s o).standing = s.standing := by
  intro o h
  unfold State.cmdFabric at h
  (repeat' split at h) <;> cases h <;>
    simp only [nextOf_next, State.jfWrite_standing, State.domainWrite_standing, execEvFire_standing, execTimerWrite_standing,
      execChArm_standing, execChStop_standing, execRingBaseWrite_standing, execRingTailWrite_standing, execMcVerify_standing,
      execMcLoad_standing, execMcPersist_standing, execMcRevert_standing, execMcStageWrite_standing]

@[simp] theorem State.kdapSend_standing (s : State) (f : KdapOut) : (State.kdapSend s f).standing = s.standing := by
  simp [State.kdapSend]

@[simp] theorem State.kdapAbort_standing (s : State) (u : UnitId) (f : KdapFrame) (code : Nat) : (State.kdapAbort s u f code).standing = s.standing := by
  simp [State.kdapAbort]

@[simp] theorem State.kdapTake_standing (s : State) (u : UnitId) (f : KdapFrame) (broadcastOk : Bool) (service : State → State) (h0 : ∀ (y0 : State), (service y0).standing = y0.standing) : (State.kdapTake s u f broadcastOk service).standing = s.standing := by
  simp [State.kdapTake, apply_ite State.standing, h0]

@[simp] theorem State.kdapAt_standing (s : State) (u : UnitId) (f : KdapFrame) (service : State → UnitId → State) (h0 : ∀ (y0 : State) (y1 : UnitId), (service y0 y1).standing = y0.standing) : (State.kdapAt s u f service).standing = s.standing := by
  unfold State.kdapAt; rw [State.kdapTake_standing]; intro t; split
  · simp
  · split <;> simp [h0]

@[simp] theorem State.takeAnswer_standing (s : State) : (State.takeAnswer s).1.standing = s.standing := by
  unfold State.takeAnswer; split <;> simp [apply_ite State.standing]

@[simp] theorem execExpeditedRead_standing (u : UnitId) (f : KdapFrame) (s : State) : (nextOf s (execExpeditedRead u f s)).standing = s.standing := by
  simp [execExpeditedRead, apply_ite State.standing]

@[simp] theorem State.sendSegment_standing (s : State) (u : UnitId) (t : Transfer) (n : Nat) : (State.sendSegment s u t n).standing = s.standing := by
  simp [State.sendSegment]

@[simp] theorem State.sendWindow_standing (s : State) (u : UnitId) (t : Transfer) (fromSeg : Nat) : (State.sendWindow s u t fromSeg).standing = s.standing := by
  unfold State.sendWindow; dsimp only; rw [State.modDict_standing, foldl_standing (fun s x => by simp)]

@[simp] theorem State.kdapBreak_standing (s : State) (u : UnitId) (f : KdapFrame) (code : Nat) : (State.kdapBreak s u f code).standing = s.standing := by
  simp [State.kdapBreak]

@[simp] theorem execSegmentedReadInitiate_standing (u : UnitId) (f : KdapFrame) (s : State) : (nextOf s (execSegmentedReadInitiate u f s)).standing = s.standing := by
  simp [execSegmentedReadInitiate, apply_ite State.standing]

@[simp] theorem execSegmentedWriteInitiate_standing (u : UnitId) (f : KdapFrame) (s : State) : (nextOf s (execSegmentedWriteInitiate u f s)).standing = s.standing := by
  simp [execSegmentedWriteInitiate, apply_ite State.standing]

@[simp] theorem State.timeoutTransfer_standing (s : State) (u : UnitId) (x : Transfer) : (State.timeoutTransfer s u x).standing = s.standing := by
  simp [State.timeoutTransfer]

@[simp] theorem execDiscoveryAnswer_standing (u : UnitId) (f : KdapFrame) (s : State) : (nextOf s (execDiscoveryAnswer u f s)).standing = s.standing := by
  simp [execDiscoveryAnswer, apply_ite State.standing]

@[simp] theorem State.specific_standing (s : State) (t : CmdTag) (sc : Nat) : (State.specific s t sc).standing = s.standing := by
  simp [State.specific]

@[simp] theorem State.admin_standing (s : State) (t : CmdTag) (f : State → State) (h0 : ∀ (y0 : State), (f y0).standing = y0.standing) : (nextOf s (State.admin s t f)).standing = s.standing := by
  simp [State.admin, apply_ite Prod.fst, apply_ite Prod.snd, apply_ite State.standing, h0]

@[simp] theorem State.commitStart_standing (s : State) (t : CmdTag) (slot : Nat) (action : Nat) : (State.commitStart s t slot action).standing = s.standing := by
  simp [State.commitStart, apply_ite State.standing]

@[simp] theorem State.pendingStart_standing (s : State) : (State.pendingStart s).standing = s.standing := by
  unfold State.pendingStart; split <;> simp [apply_ite State.standing]

@[simp] theorem State.ctrlReset_standing (s : State) (u : UnitId) : (State.ctrlReset s u).standing = s.standing := by
  simp [State.ctrlReset]

@[simp] theorem State.dictEnd_standing (s : State) (t : CmdTag) (err : Nat) (size : Nat) (data : List Byte) : (State.dictEnd s t err size data).standing = s.standing := by
  simp [State.dictEnd, apply_ite State.standing]

@[simp] theorem State.dictForward_standing (s : State) (t : CmdTag) (m : Nat) (write : Bool) (target : BitVec 2) (i : Nat) (sub : Nat) (off : Nat) (len : Nat) (d : List Byte) : (State.dictForward s t m write target i sub off len d).standing = s.standing := by
  simp [State.dictForward, apply_ite State.standing]

@[simp] theorem State.dictAnswered_standing (s : State) (src : Nat) (tag : Nat) (err : Nat) (d : List Byte) : (State.dictAnswered s src tag err d).standing = s.standing := by
  unfold State.dictAnswered; split <;> simp [apply_ite State.standing]

@[simp] theorem State.monPrint_standing (s : State) (l : List MonOut) : (State.monPrint s l).standing = s.standing := by
  simp [State.monPrint]

@[simp] theorem State.monEnd_standing (s : State) (err : Nat) : (State.monEnd s err).standing = s.standing := by
  simp [State.monEnd]

@[simp] theorem State.monChar_standing (s : State) : (State.monChar s).standing = s.standing := by
  simp [State.monChar]

@[simp] theorem State.monRun_standing (s : State) (exempt : Bool) (body : State → State × List MonOut × Nat) (h0 : ∀ (y0 : State), (body y0).1.standing = y0.standing) : (State.monRun s exempt body).standing = s.standing := by
  simp [State.monRun, apply_ite State.standing, h0]

@[simp] theorem execMonHelp_standing (s : State) : (nextOf s (execMonHelp s)).standing = s.standing := by
  simp [execMonHelp]

@[simp] theorem State.monRunAt_standing (s : State) (m : MonUnit) (exempt : Bool) (body : State → State × List MonOut × Nat) (h0 : ∀ (y0 : State), (body y0).1.standing = y0.standing) : (State.monRunAt s m exempt body).standing = s.standing := by
  simp [State.monRunAt, apply_ite Prod.fst, apply_ite Prod.snd, apply_ite State.standing, h0]

@[simp] theorem execMonId_standing (m : MonUnit) (s : State) : (nextOf s (execMonId m s)).standing = s.standing := by
  simp [execMonId]

@[simp] theorem execMonPeek_standing (m : MonUnit) (index : Nat) (sub : Nat) (s : State) : (nextOf s (execMonPeek m index sub s)).standing = s.standing := by
  simp [execMonPeek]

@[simp] theorem execMonDump_standing (m : MonUnit) (index : Nat) (sub : Nat) (off : Nat) (len : Option Nat) (s : State) : (nextOf s (execMonDump m index sub off len s)).standing = s.standing := by
  simp [execMonDump, apply_ite Prod.fst, apply_ite Prod.snd, apply_ite State.standing]

@[simp] theorem execMonEv_standing (m : MonUnit) (n : Nat) (s : State) : (nextOf s (execMonEv m n s)).standing = s.standing := by
  unfold execMonEv; split <;> simp [apply_ite State.standing]

@[simp] theorem execMonEvFrom_standing (m : MonUnit) (n : Nat) (s : State) : (nextOf s (execMonEvFrom m n s)).standing = s.standing := by
  simp [execMonEvFrom, apply_ite Prod.fst, apply_ite Prod.snd, apply_ite State.standing]

@[simp] theorem execMonEvTail_standing (m : MonUnit) (s : State) : (nextOf s (execMonEvTail m s)).standing = s.standing := by
  simp [execMonEvTail]

@[simp] theorem execMonTrace_standing (m : MonUnit) (index : Nat) (sub : Nat) (s : State) : (nextOf s (execMonTrace m index sub s)).standing = s.standing := by
  unfold execMonTrace; rw [nextOf_next, State.monRunAt_standing]; intro t; split
  · rfl
  · (repeat' split) <;> simp

@[simp] theorem execMonTraceOff_standing (s : State) : (nextOf s (execMonTraceOff s)).standing = s.standing := by
  simp [execMonTraceOff]

@[simp] theorem State.monJf_standing (s : State) (m : MonUnit) (run : State → UnitId → State) (h0 : ∀ (y0 : State) (y1 : UnitId), (run y0 y1).standing = y0.standing) : (State.monJf s m run).1.standing = s.standing := by
  unfold State.monJf; dsimp only; (repeat' split) <;> simp [apply_ite State.standing, h0]

@[simp] theorem execMonJfStatus_standing (m : MonUnit) (block : Nat) (s : State) : (nextOf s (execMonJfStatus m block s)).standing = s.standing := by
  unfold execMonJfStatus; rw [nextOf_next, State.hold_standing]; intro t; rw [State.monRunAt_standing]; intro t; rw [State.monJf_standing]; intro t u; simp

@[simp] theorem execMonJfRead_standing (m : MonUnit) (block : Nat) (page : Nat) (errs : Nat) (s : State) : (nextOf s (execMonJfRead m block page errs s)).standing = s.standing := by
  unfold execMonJfRead; rw [nextOf_next, State.hold_standing]; intro t; rw [State.monRunAt_standing]; intro t; split; · rfl
  rw [State.monJf_standing]; intro t u; simp

@[simp] theorem execMonJfCounters_standing (m : MonUnit) (s : State) : (nextOf s (execMonJfCounters m s)).standing = s.standing := by
  simp [execMonJfCounters, apply_ite Prod.fst, apply_ite Prod.snd, apply_ite State.standing]

@[simp] theorem execMonAuth_standing (m : MonUnit) (s : State) : (nextOf s (execMonAuth m s)).standing = s.standing := by
  simp [execMonAuth]

@[simp] theorem execMonAuthResponse_standing (m : MonUnit) (data : List Byte) (s : State) : (nextOf s (execMonAuthResponse m data s)).standing = s.standing := by
  simp [execMonAuthResponse]

@[simp] theorem execMonBaud_standing (rate : Nat) (s : State) : (nextOf s (execMonBaud rate s)).standing = s.standing := by
  unfold execMonBaud; split <;> simp [apply_ite State.standing]

@[simp] theorem State.seqStepOne_standing (s : State) (q : SeqId) : (State.seqStepOne s q).standing = s.standing := by
  unfold State.seqStepOne; dsimp only; (repeat' split) <;> simp [apply_ite State.standing]

@[simp] theorem State.seqSteps_standing (s : State) (q : SeqId) (x2 : Nat) : (State.seqSteps s q x2).standing = s.standing := by
  induction x2 generalizing s with
  | zero => simp [State.seqSteps]
  | succ n ih => unfold State.seqSteps; rw [ih]; simp

@[simp] theorem State.monSeq_standing (s : State) (m : MonUnit) (k : Nat) (run : State → SeqId → State × List MonOut × Nat) (h0 : ∀ (y0 : State) (y1 : SeqId), (run y0 y1).1.standing = y0.standing) : (State.monSeq s m k run).standing = s.standing := by
  simp [State.monSeq, apply_ite Prod.fst, apply_ite Prod.snd, apply_ite State.standing, h0]

@[simp] theorem execMonSeqHalt_standing (m : MonUnit) (k : Nat) (s : State) : (nextOf s (execMonSeqHalt m k s)).standing = s.standing := by
  simp [execMonSeqHalt]

@[simp] theorem execMonSeqStep_standing (m : MonUnit) (k : Nat) (n : Nat) (s : State) : (nextOf s (execMonSeqStep m k n s)).standing = s.standing := by
  simp [execMonSeqStep, apply_ite Prod.fst, apply_ite Prod.snd, apply_ite State.standing]

@[simp] theorem execMonSeqRun_standing (m : MonUnit) (k : Nat) (s : State) : (nextOf s (execMonSeqRun m k s)).standing = s.standing := by
  simp [execMonSeqRun]

@[simp] theorem execMonSeqRegs_standing (m : MonUnit) (k : Nat) (s : State) : (nextOf s (execMonSeqRegs m k s)).standing = s.standing := by
  simp [execMonSeqRegs]

@[simp] theorem State.lineErr_standing (s : State) (code : Nat) : (State.lineErr s code).standing = s.standing := by
  simp [State.lineErr]

@[simp] theorem State.pn2Spin_standing (s : State) (p : Nat) (old : SpinCode) : (State.pn2Spin s p old).standing = s.standing := by
  unfold State.pn2Spin; dsimp only; (repeat' split) <;> simp [apply_ite State.standing]

@[simp] theorem State.pn2Code_standing (s : State) (p : Nat) (u : UnitId) (c : Option SpinCode) : (State.pn2Code s p u c).standing = s.standing := by
  simp [State.pn2Code]

end Sys2Proof.Machine
end

