-- ==== Sys2Proof/Laws/FusesKept.lean ====
section
/-! SUPPORT. What the operations that can write a fuse keep: the queue is the same and the fuses only grow. -/

set_option linter.unusedSimpArgs false
set_option linter.unusedVariables false

open Sys2Proof

namespace Sys2Proof.Machine

/-! ## What changes of the fuses keep -/

/-- The queue is the same and the fuses only grow. -/
structure State.Keeps (s t : State) : Prop where
  pending : t.pending = s.pending
  fuses : s.FusesGrow t

theorem FuseSt.Grows.rfl' (f : FuseSt) : f.Grows f := ⟨id, fun _ => id, fun _ => id, Nat.le_refl _⟩
theorem FuseSt.Grows.trans {f g h : FuseSt} (a : f.Grows g) (b : g.Grows h) : f.Grows h :=
  ⟨fun x => b.mondis (a.mondis x), fun k x => b.mgmtKey k (a.mgmtKey k x), fun k x => b.erKey k (a.erKey k x),
    Nat.le_trans a.minSvn b.minSvn⟩

theorem State.Keeps.refl (s : State) : s.Keeps s := ⟨rfl, fun _ => FuseSt.Grows.rfl' _⟩
theorem State.Keeps.trans {s t v : State} (a : s.Keeps t) (b : t.Keeps v) : s.Keeps v :=
  ⟨b.pending.trans a.pending, fun u => (a.fuses u).trans (b.fuses u)⟩
theorem State.Keeps.of_standing {s t : State} (h : t.standing = s.standing) : s.Keeps t := by
  unfold State.standing at h
  have h1 : t.pending = s.pending := congrArg Prod.fst h
  have h2 : t.fuse = s.fuse := congrArg Prod.snd h
  refine ⟨h1, fun u => ?_⟩
  unfold State.getFuse
  rw [h2]
  exact FuseSt.Grows.rfl' _
theorem State.Keeps.andThen {s t v : State} (a : s.Keeps t) (h : v.standing = t.standing) : s.Keeps v := a.trans (.of_standing h)

theorem State.modFuse_keeps (s : State) (k : Nat) {f : FuseSt → FuseSt} (h : ∀ x : FuseSt, x.Grows (f x)) :
    s.Keeps (s.modFuse k f) := by
  refine ⟨rfl, fun u => ?_⟩
  by_cases e : u.code = k
  · subst e; rw [State.getFuse_modFuse]; exact h _
  · rw [State.getFuse_modFuse_ne _ _ e]; exact FuseSt.Grows.rfl' _

theorem State.modFuseIf_keeps (s : State) (k : Nat) (ok : Bool) {f : FuseSt → FuseSt} (h : ∀ x : FuseSt, x.Grows (f x)) :
    s.Keeps (if ok = true then s.modFuse k f else s) := by
  split
  · exact State.modFuse_keeps _ _ h
  · exact .refl _

theorem State.fuseProgram_keeps (s : State) (u : UnitId) (okA okB : Bool) {f : FuseSt → FuseSt} (h : ∀ x : FuseSt, x.Grows (f x)) :
    s.Keeps (s.fuseProgram u okA okB f) := by
  unfold State.fuseProgram
  refine ((State.modFuseIf_keeps s 0 okA h).trans (State.modFuseIf_keeps _ 1 okB h)).andThen ?_
  dsimp only
  generalize (if okB = true then _ else _ : State) = t
  split <;> simp

theorem State.fuseWrite_keeps (s : State) (q : Requester) (u : UnitId) (e : Option (Nat × Nat)) (okA okB : Bool)
    {f : FuseSt → FuseSt} (h : ∀ x : FuseSt, x.Grows (f x)) : s.Keeps (s.fuseWrite q u e okA okB f) := by
  unfold State.fuseWrite
  split
  · exact .of_standing (by simp)
  · exact .of_standing (by simp)
  · exact .of_standing (by simp)
  · exact (State.fuseProgram_keeps s u okA okB h).andThen (by simp)

theorem State.hold_keeps (s : State) (c : WaitingAccess) {run : State → State} (h : ∀ x : State, x.Keeps (run x)) :
    s.Keeps (s.hold c run) := by
  unfold State.hold
  split
  · exact .of_standing (by simp)
  · exact h s

theorem execMondisBlow_keeps (q : Requester) (u : UnitId) (v : BitVec 8) (okA okB : Bool) (s : State) :
    s.Keeps (nextOf s (execMondisBlow q u v okA okB s)) := by
  unfold execMondisBlow; rw [nextOf_next]
  refine State.hold_keeps s _ fun s => ?_
  dsimp only
  (repeat' split)
  · exact .of_standing (by simp)
  · exact .of_standing (by simp)
  · exact (State.fuseWrite_keeps s q u none okA okB (f := fun f => { f with mondis := true }) fun x =>
      ⟨fun _ => rfl, fun _ => id, fun _ => id, Nat.le_refl _⟩).andThen (by simp)
  · exact State.fuseWrite_keeps s q u none okA okB fun x => ⟨fun _ => rfl, fun _ => id, fun _ => id, Nat.le_refl _⟩

theorem execFwMinSvnWrite_keeps (q : Requester) (u : UnitId) (v : BitVec 32) (okA okB : Bool) (s : State) :
    s.Keeps (nextOf s (execFwMinSvnWrite q u v okA okB s)) := by
  unfold execFwMinSvnWrite; rw [nextOf_next]
  refine State.hold_keeps s _ fun s => ?_
  dsimp only
  split
  · exact .of_standing (by simp)
  · split
    · exact .of_standing (by simp)
    · exact State.fuseWrite_keeps s q u _ okA okB fun x => ⟨id, fun _ => id, fun _ => id, by
        show x.svn ≤ max x.svn v.toNat
        exact Nat.le_max_left _ _⟩

theorem execMgmtKeyWrite_keeps (q : Requester) (u : UnitId) (d : List Byte) (okA okB : Bool) (s : State) :
    s.Keeps (nextOf s (execMgmtKeyWrite q u d okA okB s)) := by
  unfold execMgmtKeyWrite; rw [nextOf_next]
  refine State.hold_keeps s _ fun s => ?_
  dsimp only
  (repeat' split) <;> first
    | (refine State.Keeps.of_standing ?_; simp; done)
    | exact State.fuseWrite_keeps s q u _ okA okB fun x => ⟨id, fun _ => id, fun _ => id, Nat.le_refl _⟩
    | exact State.fuseWrite_keeps s q u _ okA okB fun x => ⟨id, fun k h => by simp [h], fun _ => id, Nat.le_refl _⟩

theorem execErKeyWrite_keeps (q : Requester) (u : UnitId) (d : List Byte) (okA okB : Bool) (s : State) :
    s.Keeps (nextOf s (execErKeyWrite q u d okA okB s)) := by
  unfold execErKeyWrite; rw [nextOf_next]
  refine State.hold_keeps s _ fun s => ?_
  dsimp only
  split
  · exact .of_standing (by simp)
  · exact State.fuseWrite_keeps s q u _ okA okB fun x => ⟨id, fun _ => id, fun k h => by simp [h], Nat.le_refl _⟩

theorem State.cmdSup_keeps (s : State) (q : Requester) (u : UnitId) (c i sub v : Nat) (d : List Byte) :
    ∀ o, s.cmdSup q u c i sub v d = some o → s.Keeps (nextOf s o) := by
  intro o h
  have n : s.Keeps (s.next.2.next.2) := .of_standing (by simp)
  have nn : ∀ o : Host.Outcome State Fault Refusal, (s.next.2.next.2).Keeps (nextOf s.next.2.next.2 o) → s.Keeps (nextOf s o) := by
    intro o k
    cases o with
    | next t => exact n.trans k
    | fault r => exact .refl _
    | refused r => exact .refl _
  unfold State.cmdSup at h
  dsimp only at h
  split at h <;> first | (cases h; done) | (rw [← Option.some.inj h])
  · exact .of_standing (by simp)
  · exact .of_standing (by simp)
  · exact nn _ (execMondisBlow_keeps _ _ _ _ _ _)
  · exact nn _ (execFwMinSvnWrite_keeps _ _ _ _ _ _)
  · exact nn _ (execMgmtKeyWrite_keeps _ _ _ _ _ _)
  · exact nn _ (execErKeyWrite_keeps _ _ _ _ _ _)
  · exact .of_standing (by simp)
  · exact .of_standing (by simp)

theorem State.cmdWrite_keeps (s : State) (q : Requester) (u : UnitId) (c i sub : Nat) (d : List Byte) :
    ∀ o, s.cmdWrite q u c i sub d = some o → s.Keeps (nextOf s o) := by
  intro o h
  unfold State.cmdWrite at h
  dsimp only at h
  (repeat' split at h)
  · rw [← Option.some.inj h]; exact .of_standing (by simp)
  · exact .of_standing (State.cmdBase_standing _ _ _ _ _ _ _ _ h)
  · exact .of_standing (State.cmdPort_standing _ _ _ _ _ _ _ _ _ h)
  · exact .of_standing (State.cmdBuf_standing _ _ _ _ _ _ _ h)
  · exact .of_standing (State.cmdFabric_standing _ _ _ _ _ _ _ _ _ h)
  · exact State.cmdSup_keeps _ _ _ _ _ _ _ _ _ h

theorem State.dictWrite_keeps (s : State) (q : Requester) (u : UnitId) (i sub : Nat) (d : List Byte) : s.Keeps (s.dictWrite q u i sub d) := by
  unfold State.dictWrite
  refine State.hold_keeps s _ fun s => ?_
  dsimp only
  split
  · split
    · exact .of_standing (by simp)
    · split
      · rename_i h; exact State.cmdWrite_keeps _ _ _ _ _ _ _ _ h
      · exact .of_standing (by simp)
  · exact .of_standing (by simp)

theorem nextOf_conclude_keeps {s t : State} (h : s.Keeps t) : s.Keeps (nextOf s (State.conclude t)) := by
  rw [nextOf_conclude]; exact h.andThen (by simp)

theorem State.kdapTake_keeps (s : State) (u : UnitId) (f : KdapFrame) (b : Bool) {g : State → State} (h : ∀ x : State, x.Keeps (g x)) :
    s.Keeps (s.kdapTake u f b g) := by
  unfold State.kdapTake
  (repeat' split)
  · exact .refl _
  · exact .of_standing (by simp)
  · exact (State.Keeps.of_standing (by simp)).trans (h _)

theorem State.kdapAt_keeps (s : State) (u : UnitId) (f : KdapFrame) {g : State → UnitId → State} (h : ∀ (x : State) (v : UnitId), x.Keeps (g x v)) :
    s.Keeps (s.kdapAt u f g) := by
  unfold State.kdapAt
  refine State.kdapTake_keeps s u f _ fun s => ?_
  split
  · exact .of_standing (by simp)
  · split
    · exact .of_standing (by simp)
    · exact h _ _

theorem execRegisterWrite_keeps (q : Requester) (u : UnitId) (i sub : Nat) (d : List Byte) (s : State) : s.Keeps (nextOf s (execRegisterWrite q u i sub d s)) := by
  unfold execRegisterWrite
  exact nextOf_conclude_keeps (State.dictWrite_keeps _ _ _ _ _ _)

theorem State.dictWrite_take_keeps (s : State) (q : Requester) (u : UnitId) (i sub : Nat) (d : List Byte) : s.Keeps (s.dictWrite q u i sub d).takeAnswer.1 :=
  (State.dictWrite_keeps s q u i sub d).andThen (by simp)

theorem execExpeditedWrite_keeps (u : UnitId) (f : KdapFrame) (s : State) : s.Keeps (nextOf s (execExpeditedWrite u f s)) := by
  unfold execExpeditedWrite
  refine nextOf_conclude_keeps (State.hold_keeps _ _ fun s => State.kdapAt_keeps _ _ _ fun s t => ?_)
  refine (State.dictWrite_take_keeps s (.kdap f.src) t f.index f.sub f.body).andThen ?_
  dsimp only
  split <;> simp

theorem execSegment_keeps (u : UnitId) (f : KdapFrame) (s : State) : s.Keeps (nextOf s (execSegment u f s)) := by
  unfold execSegment
  refine nextOf_conclude_keeps ?_
  extract_lets run
  have key : ∀ s : State, s.Keeps (run s) := by
    intro s
    show s.Keeps (s.kdapAt u f _)
    refine State.kdapAt_keeps _ _ _ fun s t => ?_
    split
    · exact .of_standing (by simp)
    · rename_i x hx
      split
      · exact .of_standing (by simp)
      split
      · exact .of_standing (by simp)
      split
      · exact .of_standing (by simp)
      dsimp only
      split
      · split
        · exact .of_standing (by simp)
        · refine State.Keeps.trans (t := (s.modDict u.code (fun d => d.endTransfer f.src f.transId)).kdapSend (f.reply u 0x06 (x.inOrder + 1) [])) (.of_standing (by simp)) ?_
          refine (State.dictWrite_take_keeps _ (.kdap f.src) t x.index x.sub (x.bytes ++ f.body)).andThen ?_
          split <;> simp
      · split <;> exact .of_standing (by simp)
  split
  · exact State.hold_keeps _ _ key
  · exact key s

theorem State.monRun_keeps (s : State) (e : Bool) {g : State → State × List MonOut × Nat} (h : ∀ x : State, x.Keeps (g x).1) :
    s.Keeps (s.monRun e g) := by
  unfold State.monRun
  split
  · exact .refl _
  · dsimp only
    split
    · exact .of_standing (by simp)
    · refine State.Keeps.trans (t := s.monChar.inc (Obj.MON_LINES s.pair.active)) (.of_standing (by simp)) ?_
      refine (h _).andThen ?_
      split <;> simp

theorem State.monRunAt_keeps (s : State) (m : MonUnit) (e : Bool) {g : State → State × List MonOut × Nat} (h : ∀ x : State, x.Keeps (g x).1) :
    s.Keeps (s.monRunAt m e g) := by
  unfold State.monRunAt
  refine State.monRun_keeps _ _ fun s => ?_
  split
  · exact h _
  · exact .refl _

theorem execMonPoke_keeps (m : MonUnit) (i sub : Nat) (d : List Byte) (s : State) : s.Keeps (nextOf s (execMonPoke m i sub d s)) := by
  unfold execMonPoke
  refine nextOf_conclude_keeps (State.hold_keeps _ _ fun s => State.monRunAt_keeps _ _ _ fun s => ?_)
  split
  · exact .refl _
  · exact State.dictWrite_take_keeps _ _ _ _ _ _

theorem execMonMode_keeps (v : Option (BitVec 8)) (s : State) : s.Keeps (nextOf s (execMonMode v s)) := by
  unfold execMonMode
  rw [nextOf_next]
  refine State.hold_keeps _ _ fun s => State.monRun_keeps _ _ fun s => ?_
  split
  · exact .refl _
  · exact State.dictWrite_take_keeps _ _ _ _ _ _

theorem State.dictAtOnce_standing (s : State) (w : Bool) (c : UnitId) (t : BitVec 2) (i sub : Nat) (d : List Byte) :
    (s.dictAtOnce w c t i sub d).standing = s.standing := by
  unfold State.dictAtOnce
  (repeat' split) <;> simp

theorem State.dictServe_keeps (s : State) (a b : Nat) (w : Bool) (c : UnitId) (t : BitVec 2) (i sub : Nat) (d : List Byte) :
    s.Keeps (s.dictServe a b w c t i sub d) := by
  unfold State.dictServe
  split
  · exact .of_standing (by simp)
  · dsimp only
    split
    · rename_i v _ _; exact (State.dictWrite_take_keeps s (.inband c) v i sub d).andThen (by simp)
    · exact .of_standing (by simp)

theorem execDict_keeps (a b : Nat) (p : PktBody) (s : State) : s.Keeps (nextOf s (execDict a b p s)) := by
  unfold execDict
  refine nextOf_conclude_keeps ?_
  split
  · split
    · exact .refl _
    · exact (State.Keeps.of_standing (State.dictAtOnce_standing _ _ _ _ _ _ _)).trans
        (State.hold_keeps _ _ fun s => State.dictServe_keeps _ _ _ _ _ _ _ _ _)
  · exact .of_standing (by simp)
  · exact .refl _

theorem State.begin_keeps (s : State) (t : CmdTag) (n : Nat) {f : State → State} (h : ∀ x : State, x.Keeps (f x)) : s.Keeps (s.begin t n f) := by
  unfold State.begin
  split
  · exact .refl _
  · dsimp only
    have a : s.Keeps (s.fetch t n).1 := .of_standing (by simp)
    split
    · exact a
    · exact a.trans (h _)

theorem State.admin_keeps (s : State) (t : CmdTag) {f : State → State} (h : ∀ x : State, x.Keeps (f x)) : s.Keeps (nextOf s (s.admin t f)) := by
  unfold State.admin
  refine nextOf_conclude_keeps (State.begin_keeps _ _ _ fun s => ?_)
  exact State.Keeps.trans (.of_standing (by simp)) (h _)

theorem WaitingAccess.runDirect_keeps (c : WaitingAccess) (s : State) : ∀ o, c.runDirect s = some o → s.Keeps (nextOf s o) := by
  intro o h
  unfold WaitingAccess.runDirect at h
  split at h <;> first | (cases h; done) | (rw [← Option.some.inj h])
  · exact execRegisterWrite_keeps _ _ _ _ _ _
  · exact .of_standing (by simp)
  · exact .of_standing (by simp)
  · exact .of_standing (by simp)
  · exact .of_standing (by simp)
  · exact execMondisBlow_keeps _ _ _ _ _ _
  · exact execFwMinSvnWrite_keeps _ _ _ _ _ _
  · exact execMgmtKeyWrite_keeps _ _ _ _ _ _
  · exact execErKeyWrite_keeps _ _ _ _ _ _
  · exact execDict_keeps _ _ _ _

theorem WaitingAccess.runFramed_keeps (c : WaitingAccess) (s : State) : ∀ o, c.runFramed s = some o → s.Keeps (nextOf s o) := by
  intro o h
  cases c <;> simp only [WaitingAccess.runFramed, Option.some.injEq, reduceCtorEq] at h <;> subst h
  case expeditedWrite => exact execExpeditedWrite_keeps _ _ _
  case segment => exact execSegment_keeps _ _ _
  case poke => exact execMonPoke_keeps _ _ _ _ _
  case modeLine => exact execMonMode_keeps _ _
  all_goals exact .of_standing (by simp)

theorem State.resume_keeps (s : State) (c : WaitingAccess) : s.Keeps (s.resume c) := by
  unfold State.resume
  split
  · rename_i h; exact WaitingAccess.runDirect_keeps _ _ _ h
  · rename_i h; exact WaitingAccess.runFramed_keeps _ _ _ h
  · exact .refl _

theorem State.foldl_keeps {α : Type} {f : State → α → State} (h : ∀ s x, State.Keeps s (f s x)) (l : List α) (s : State) : s.Keeps (l.foldl f s) := by
  induction l generalizing s with
  | nil => exact .refl _
  | cons x l ih => exact (h s x).trans (ih _)

end Sys2Proof.Machine
end

