-- ==== Sys2Proof/Laws/Media.lean ====
section
/-! SUPPORT. Laws of byte fields: a number laid out in bytes reads back, and a record closed by its CRC passes its CRC check. -/

namespace Sys2Proof.Machine

@[simp] theorem length_leBytes (n v : Nat) : (leBytes n v).length = n := by
  induction n generalizing v with
  | zero => rfl
  | succ n ih => simp [leBytes, ih]

theorem leNat_leBytes (n v : Nat) : leNat (leBytes n v) = v % 256 ^ n := by
  induction n generalizing v with
  | zero => simp [leBytes, leNat, Nat.mod_one]
  | succ n ih =>
    have h : (BitVec.ofNat 8 v).toNat = v % 256 := by simp
    rw [leBytes, leNat, ih, h, Nat.pow_succ, Nat.mul_comm (256 ^ n) 256, Nat.mod_mul]

/-- The check of a record that ends in its own CRC. -/
theorem withCrc_ok (b : List Byte) (n : Nat) (h : b.length = n) :
    (fldU (withCrc b) n 4 == (crc32c ((withCrc b).take n)).toNat) = true := by
  subst h
  have h4 : (crc32c b).toNat % 256 ^ 4 = (crc32c b).toNat := Nat.mod_eq_of_lt (crc32c b).isLt
  have h5 : List.take 4 (leBytes 4 (crc32c b).toNat) = leBytes 4 (crc32c b).toNat := List.take_of_length_le (by simp)
  first
  | (simp [fldU, withCrc, h5, leNat_leBytes, h4]; done)
  | (simp [fldU, withCrc, h5, leNat_leBytes]; exact (crc32c b).isLt)

end Sys2Proof.Machine
end

