-- ==== Sys2Proof/Laws/Memory.lean ====
section
/-! SUPPORT. Laws of the byte memories (the GDDR7 buffer, its error patterns and the plan halves): a read after a write gives the
bytes written, other addresses keep theirs, and every write keeps the canonical form. -/

namespace Sys2Proof.Machine

/-- The byte at an address, 0 where nothing is listed. -/
theorem cellsRead_one (m : List Host.Cell) (a : Nat) : cellsRead m a 1 = [mapGet (fun _ => 0) m a] := rfl

@[simp] theorem length_cellsRead (m : List Host.Cell) (a n : Nat) : (cellsRead m a n).length = n := by
  induction n generalizing a with
  | zero => rfl
  | succ n ih => simp [cellsRead, ih]

/-- A write keeps the canonical form. -/
theorem mapWf_cellsWrite (m : List Host.Cell) (a : Nat) (d : List Byte) (h : mapWf (fun _ => (0 : Byte)) m = true) :
    mapWf (fun _ => (0 : Byte)) (cellsWrite m a d) = true := by
  induction d generalizing m a with
  | nil => exact h
  | cons v t ih => exact ih _ _ (mapWf_mapPut _ _ _ _ h)

/-- A byte below the bytes written is unchanged. -/
theorem mapGet_cellsWrite_below (m : List Host.Cell) {a b : Nat} (d : List Byte) (h : b < a) :
    mapGet (fun _ => (0 : Byte)) (cellsWrite m a d) b = mapGet (fun _ => (0 : Byte)) m b := by
  induction d generalizing m a with
  | nil => rfl
  | cons v t ih => rw [cellsWrite, ih _ (by omega), mapGet_mapPut_ne _ _ _ (by omega)]

/-- A byte above the bytes written is unchanged. -/
theorem mapGet_cellsWrite_above (m : List Host.Cell) {a b : Nat} (d : List Byte) (h : a + d.length ≤ b) :
    mapGet (fun _ => (0 : Byte)) (cellsWrite m a d) b = mapGet (fun _ => (0 : Byte)) m b := by
  induction d generalizing m a with
  | nil => rfl
  | cons v t ih =>
    simp only [List.length_cons] at h
    rw [cellsWrite, ih _ (by omega), mapGet_mapPut_ne _ _ _ (by omega)]

/-- Bytes read from where they were written. -/
theorem cellsRead_cellsWrite (m : List Host.Cell) (a : Nat) (d : List Byte) : cellsRead (cellsWrite m a d) a d.length = d := by
  induction d generalizing m a with
  | nil => rfl
  | cons v t ih =>
    rw [List.length_cons, cellsRead, cellsWrite, ih, mapGet_cellsWrite_below _ _ (Nat.lt_succ_self a), mapGet_mapPut]

/-- Bytes read from a range that a write does not meet. -/
theorem cellsRead_cellsWrite_away (m : List Host.Cell) (a : Nat) (d : List Byte) (b n : Nat) (h : b + n ≤ a ∨ a + d.length ≤ b) :
    cellsRead (cellsWrite m a d) b n = cellsRead m b n := by
  induction n generalizing b with
  | zero => rfl
  | succ n ih =>
    rw [cellsRead, cellsRead, ih (b + 1) (by omega)]
    congr 1
    rcases h with h | h
    · exact mapGet_cellsWrite_below _ _ (by omega)
    · exact mapGet_cellsWrite_above _ _ h

/-- No masks change nothing. -/
theorem applyMasks_nil (d : List Byte) : applyMasks d [] = d := by
  simp only [applyMasks, List.foldl_nil]
  exact List.zipIdx_map_fst 0 d

end Sys2Proof.Machine
end

