-- ==== Sys2Proof/Laws/MonitorLine.lean ====
section
/-! SUPPORT. Every command that a line of the monitor spells answers a next state. -/

namespace Sys2Proof.Machine

/-- A line is no command, or the command it spells answers a next state whatever the state. -/
abbrev LineCall.Answers : LineCall → Prop | .run f => ∀ s, ∃ t, f s = .next t | .err _ => True

theorem objectCall_answers (l : List Byte) (f : Nat → Nat → State → Host.Outcome State Fault Refusal)
    (h : ∀ i n s, ∃ t, f i n s = .next t) : (objectCall l f).Answers := by
  unfold objectCall; split
  · exact h _ _
  · trivial

theorem numberCall_answers (l : List Byte) (f : Nat → State → Host.Outcome State Fault Refusal)
    (h : ∀ n s, ∃ t, f n s = .next t) : (numberCall l f).Answers := by
  unfold numberCall; split
  · exact h _
  · trivial

theorem dumpCall_answers (m : MonUnit) (l : List Byte) (a : List (List Byte)) : (dumpCall m l a).Answers := by
  unfold dumpCall; split <;> first | trivial | exact fun _ => ⟨_, rfl⟩

theorem seqCall_answers (m : MonUnit) (l : List Byte) (a : List (List Byte)) : (seqCall m l a).Answers := by
  unfold seqCall; repeat' split
  all_goals first | trivial | exact fun _ => ⟨_, rfl⟩

theorem jfCall_answers (m : MonUnit) (l : List Byte) (a : List (List Byte)) : (jfCall m l a).Answers := by
  unfold jfCall; repeat' split
  all_goals first | trivial | exact fun _ => ⟨_, rfl⟩

theorem wordCall_answers (m : MonUnit) (c : List Byte) : (wordCall m c).Answers := by
  unfold wordCall; repeat' split
  all_goals first | trivial | exact fun _ => ⟨_, rfl⟩

theorem pairCall_answers (m : MonUnit) (c a : List Byte) : (pairCall m c a).Answers := by
  unfold pairCall; repeat' split
  all_goals first
    | trivial
    | exact fun _ => ⟨_, rfl⟩
    | exact objectCall_answers _ _ fun _ _ _ => ⟨_, rfl⟩
    | exact numberCall_answers _ _ fun _ _ => ⟨_, rfl⟩

theorem pokeValue_answers (i n : Nat) (l : List Byte) (e : LineCall) (h : pokeValue i n l = .error e) : e.Answers := by
  unfold pokeValue at h
  repeat' split at h
  all_goals first | cases h; trivial | cases h

theorem lineCall_answers (m : MonUnit) (l : List Byte) : (lineCall m l).Answers := by
  unfold lineCall; split
  · trivial
  · exact wordCall_answers _ _
  · repeat' split
    all_goals first
      | trivial
      | exact fun _ => ⟨_, rfl⟩
      | exact dumpCall_answers _ _ _
      | exact seqCall_answers _ _ _
      | exact jfCall_answers _ _ _
      | exact pairCall_answers _ _ _
      | exact numberCall_answers _ _ fun _ _ => ⟨_, rfl⟩
      | (rename_i h; exact pokeValue_answers _ _ _ _ h)

theorem execMonLine_answers (w : List Byte) (n : Nat) (s : State) : ∃ t, execMonLine w n s = .next t := by
  unfold execMonLine
  repeat' split
  all_goals try exact ⟨_, rfl⟩
  rename_i m l _ _ f e
  have h := lineCall_answers m l
  rw [e] at h
  exact h s
end Sys2Proof.Machine
end

