-- ==== Sys2Proof/Tests/Slice0.lean ====
section
/-! SUPPORT. Tests: ill-formed commands that the checks of well-formedness refuse, the worked examples of the spec, and for each
statement with hypotheses states and operands that meet them together. Each theorem is about one step at most. -/

set_option Elab.async false
set_option linter.unusedSimpArgs false

open Sys2Proof Sys2Proof.Machine

/-! ## States for the tests -/

/-- A TR1664-S in Frond, both units present, unit A active. -/
def Sys2Proof.Tests.up : State :=
  { State.reset with
    fuse := []
    mode := { cur := .frond, served := true }
    sup := { vaux3 := true, vauxIn := true, vin12 := true }
    pair := { State.reset.pair with
      roleDecided := true
      unitA := { inReset := false, fwRunning := true, gddrTrained := true }
      unitB := { inReset := false, fwRunning := true, gddrTrained := true } } }

/-- Both sequencers of the first actuator running. -/
def Sys2Proof.Tests.seqState : State :=
  (Tests.up.modSeq 0 (fun e => { e with state := .running })).modSeq 1 (fun e => { e with state := .running })

/-- The state with a word at the next address of a sequencer, alone in the image of its kind. -/
def Sys2Proof.Tests.word (s : State) (q : SeqId) (o : SeqOp) (w : MicroWord) : State :=
  s.modStore q (fun m => { m with
    images := [0, 0, 0, 0, if q.xfer then 2 else 1] ++ List.replicate (59 + 5 * (s.getSeq q.key).next.toNat) 0 ++
      leBytes 5 (((((seqOps.idxOf o * 64 + w.a.toNat) * 4096 + w.b.toNat) * 4096 + w.next.toNat) * 16) + w.timing.toNat) })

def Sys2Proof.Tests.seqStacked : State := Tests.seqState.modSeq 0 (fun e => { e with stack := [5] })
def Sys2Proof.Tests.seqMail : State := Tests.seqState.modSeq 0 (fun e => { e with mbox := [7] })
/-- The first sequencer's next word is one of the reserved code 3Fh. -/
def Sys2Proof.Tests.reservedWord : State :=
  Tests.seqState.modStore ⟨.A, 0, 0, false⟩ (fun m => { m with images := [0, 0, 0, 0, 1] ++ List.replicate 59 0 ++ [0, 0, 0, 0, 0xFC] })
def Sys2Proof.Tests.seqFar : State := Tests.seqState.modSeq 0 (fun e => (e.setG 1 5000).setG 2 1)

/-- A zone of 100 tracks whose sectors lie between two wedges, on a clock track of 524288 cycles. -/
def Sys2Proof.Tests.zone : List Byte :=
  leBytes 4 0 ++ leBytes 4 100 ++ leBytes 2 49 ++ [1, 8] ++ leBytes 2 200 ++ leBytes 2 256 ++ leBytes 2 4352 ++ leBytes 2 256 ++
  leBytes 4 230400 ++ leBytes 2 4352 ++ leBytes 2 0

def Sys2Proof.Tests.seqZoned : State :=
  ((Tests.seqState.modChan 0 (fun c => { c with zones := [(0, Tests.zone)] })).wr (Obj.HEADS_PER_ACTUATOR 0) 2).wr
    (Obj.CT_CYCLES_PER_REV 0) 524288

def Sys2Proof.Tests.seqHeld : State :=
  Tests.seqState.modChan 0 (fun c => { c with hold := .held, holdSector := some { psa := ⟨0, 0, 0, 0⟩ } })

def Sys2Proof.Tests.seqBlocked : State :=
  Tests.seqState.modSeq 0 (fun e => { e with state := .waiting, wait := .op .mrecv ⟨1, 2, 3, 0, false⟩ })
def Sys2Proof.Tests.seqDelayed : State := Tests.seqState.modSeq 0 (fun e => { e with state := .waiting, wait := .delay 4 })
def Sys2Proof.Tests.seqTick : State := Tests.seqState.modSeq 1 (fun e => { e with state := .waiting, wait := .cond 0xC })

/-- An empty plan for sweep 1, whole with its CRC, 200 µs before the edge. -/
def Sys2Proof.Tests.planned : State :=
  let h : List Byte := leBytes 8 1 ++ List.replicate 52 0
  (Tests.up.modPort 0 (fun q => { q with nextEdge := 200 })).modPlan 0 (fun l =>
    l.write 1 0 (h ++ leBytes 4 (crc32c h).toNat))
def Sys2Proof.Tests.planDone : State := Tests.planned.modPlan 0 (fun l => { l with committed := true })

def Sys2Proof.Tests.maint : State := { Tests.up with mode := { Tests.up.mode with cur := .maintenance } }
def Sys2Proof.Tests.mcBusy : State := { Tests.maint with mc := { result := 1 } }
def Sys2Proof.Tests.mcVerified : State := { Tests.maint with mc := { verified := true, stage := [1], source := .loaded } }
def Sys2Proof.Tests.mcLoading : State := { Tests.maint with mc := { result := 1, loading := some [1] } }

def Sys2Proof.Tests.sector : Sector := { psa := ⟨0, 0, 0, 0⟩ }
def Sys2Proof.Tests.arm : Arm :=
  { start := 0, endIdx := 0, bits := 36800, frag := 0, frags := 1, mode := .both, psa := ⟨0, 0, 0, 0⟩,
    ticket := some { data := 0, result := 4096, paired := true }, feed := some { payload := 0, tag := [], result := 4096, paired := true } }
def Sys2Proof.Tests.receiving : State := Tests.up.modChan 0 (fun c => { c with rx := some Tests.sector })
def Sys2Proof.Tests.writing : State :=
  Tests.up.modChan 0 (fun c => { c with gate := true, writeCur := some Tests.arm, wrSent := true })
def Sys2Proof.Tests.armed : State :=
  Tests.up.modChan 0 (fun c => { c with readPend := some Tests.arm, writePend := some Tests.arm })
def Sys2Proof.Tests.armedBare : State :=
  Tests.up.modChan 0 (fun c => { c with
    readPend := some { Tests.arm with ticket := none, feed := none }, writePend := some { Tests.arm with ticket := none, feed := none } })
def Sys2Proof.Tests.decoding : State := Tests.up.modChan 0 (fun c => { c with decoding := [Tests.sector] })
def Sys2Proof.Tests.replaying : State := Tests.up.modChan 0 (fun c => { c with replay := some Tests.sector })
def Sys2Proof.Tests.checking : State := Tests.up.modChan 0 (fun c => { c with raw := [Tests.sector] })
def Sys2Proof.Tests.setLoading : State :=
  ((Tests.up.modChan 0 (fun c => { c with
    nextSet := some 0, load := .loading, sets := [(0, withCrc (overlay defaultSetBody 196 [49, 0, 1, 8]))] })).wr
      (Obj.FS_MAX 0) 4800).wr (Obj.CT_CYCLES_PER_REV 0) 524288

def Sys2Proof.Tests.servo (st : ActState) : State := Tests.up.modSrv 0 (fun v => { v with st := st })
def Sys2Proof.Tests.tracking : State := (Tests.servo .follow).modSrv 0 (fun v => { v with outerDone := false })
def Sys2Proof.Tests.following : State := (Tests.servo .follow).modSrv 0 (fun v => { v with sent := { v.sent with valid := false }, innerReady := true })
def Sys2Proof.Tests.parked : State := Tests.servo .parked
def Sys2Proof.Tests.loading : State := Tests.servo .loading
def Sys2Proof.Tests.acquiring : State := Tests.servo .acquire
def Sys2Proof.Tests.seeking : State := Tests.servo .seek
def Sys2Proof.Tests.unloading : State := Tests.servo .unloading
def Sys2Proof.Tests.retracting : State := Tests.servo .pn2Retract
def Sys2Proof.Tests.telemetry : ServoTlm :=
  { iMeas := 0, maSense := 0, bemf := 0, parked := false, shock := false, holding := false, selfRetracted := false, wrLock := true,
    wrsetAck := false, cmdCrcErr := false, head := 0 }
/-- The block of that telemetry, with its CRC. -/
def Sys2Proof.Tests.telemetryWord : BitVec 64 := sealBlock 0x8000
def Sys2Proof.Tests.markerBlock : ControlBlock :=
  { kind := .marker, act := 0, sublane := 3, ratioChange := true, headChange := false, head := 0, sampleIndex := 9 }
def Sys2Proof.Tests.paceLow (s : State) : State := s.modUnit .A (fun x => { x with paceLow := true })
def Sys2Proof.Tests.calibrating : State := Tests.up.modPort 0 (fun q => { q with state := .calibrating })
def Sys2Proof.Tests.calData : CalData :=
  { heads := [], sets := [], zones := [] }

theorem Sys2Proof.Tests.setLoading_ok :
    Tests.setLoading.setOk 0 ((Tests.setLoading.getChan (chanKey 0 0)).set ((Tests.setLoading.getChan (chanKey 0 0)).nextSet.getD 0)) = true := by
  have h : (Tests.setLoading.getChan (chanKey 0 0)).set ((Tests.setLoading.getChan (chanKey 0 0)).nextSet.getD 0) =
      withCrc (overlay defaultSetBody 196 [49, 0, 1, 8]) := by rfl
  rw [h]
  unfold State.setOk
  rw [withCrc_ok _ 252 (by decide +kernel)]
  decide +kernel

theorem Sys2Proof.Tests.bankOk_outer : bankOk true (Tests.maint.bank 0 0 true (1 - (Tests.maint.getSrv (chanKey 0 0)).outerBank)) = true := by
  have h : Tests.maint.bank 0 0 true (1 - (Tests.maint.getSrv (chanKey 0 0)).outerBank) =
    withCrc (List.replicate 352 0 ++ [2, 0, 0xFF, 1] ++ List.replicate 24 0) := by rfl
  rw [h]
  unfold bankOk
  rw [withCrc_ok _ 380 (by decide +kernel)]
  decide +kernel

theorem Sys2Proof.Tests.bankOk_inner : bankOk false (Tests.maint.bank 0 0 false (1 - (Tests.maint.getSrv (chanKey 0 0)).innerBank)) = true := by
  have h : Tests.maint.bank 0 0 false (1 - (Tests.maint.getSrv (chanKey 0 0)).innerBank) =
    withCrc (List.replicate 352 0 ++ [1, 0, 0xFF, 0xFF] ++ List.replicate 24 0) := by rfl
  rw [h]
  unfold bankOk
  rw [withCrc_ok _ 380 (by decide +kernel)]
  decide +kernel


def Sys2Proof.Tests.spin (st : SpdState) : State :=
  (Tests.up.modSpd 0 (fun q => { q with st := st })).wr (Obj.LANES_IN_SERVICE .A 0) 0xFFFF
def Sys2Proof.Tests.motorWord : BitVec 64 := sealBlock 0xC008000000000000
/-- A spindle in LOCKED whose index lies at clock-track cycle 1. -/
def Sys2Proof.Tests.clocked : State :=
  ((Tests.spin .locked).wr (Obj.CT_CYCLES_PER_REV 0) 524288).modSpd 0 (fun q => { q with indexAt := some 1 })
def Sys2Proof.Tests.braking : State :=
  { (Tests.spin .brakeToRest).modSpd 0 (fun q => { q with bemf := 4095 }) with now := 100000 }
def Sys2Proof.Tests.stoppingSpin : State :=
  { ((Tests.spin .stopping).wr (Obj.BEMF_TARGET 0) 100).modSpd 0 (fun q => { q with still := 1 }) with now := 100000 }
def Sys2Proof.Tests.motorTlm : MotorTlm := { zc := some (2, false, 0), clamp := true, iPhase := 0, iBus := 0, vBus := 0, bemf := 0 }
def Sys2Proof.Tests.port (st : PortState) : State :=
  (Tests.up.modPort 0 (fun q => { q with state := st })).wr (Obj.LANES_IN_SERVICE .A 0) 0xFFFF
def Sys2Proof.Tests.ident : HdaIdentity :=
  { serial := [65], stepping := 1, acts := 2, heads := 8, fsMax := 3600, ctCycles := 524288, polePairs := 4, ratedRpm := 5400
    bemfTarget := 1000, ctIndexNominal := 0 }
def Sys2Proof.Tests.portLost : State :=
  { (Tests.port .ctLost).modLine 0 (fun q => { q with ct := .lost }) with now := 3000000 }
def Sys2Proof.Tests.presentReady : State := (Tests.port .ready).modLine (sideKey .A 0) (fun l => { l with prs := { l.prs with level := true } })
def Sys2Proof.Tests.chattering : State :=
  (Tests.port .ready).modLine (sideKey .B 0) (fun l => { l with flt := { l.flt with edges := [0, 0, 0, 0, 0, 0, 0, 0] } })
def Sys2Proof.Tests.retraining (n : Nat) : State := (Tests.spin .locked).modLine (sideKey .A 0) (fun q => { q with retraining := [n] })
def Sys2Proof.Tests.ctLocked : State := (Tests.spin .locked).wr (Obj.CT_CYCLES_PER_REV 0) 524288
def Sys2Proof.Tests.gateBlock : ControlBlock :=
  { kind := .gateOn, act := 1, sublane := 0, ratioChange := false, headChange := false, head := 0, sampleIndex := 77 }
/-- The PN2 of the first port obeys unit A, whose SPIN carries follow. -/
def Sys2Proof.Tests.obeyA : State :=
  { (Tests.port .ready).modPn2 0 (fun q => { q with tokA := true, spinA := some .follow }) with sup := Tests.up.sup }
/-- A gate-on block and two bits on the write lane of the second actuator. -/
def Sys2Proof.Tests.gateSent : State :=
  Tests.obeyA.modChan (chanKey 0 1) (fun c => { c with wrOut := [.gate Tests.gateBlock.word, .bits [true, false]] })
def Sys2Proof.Tests.fiddle : State :=
  { (Tests.up.wr Obj.REQUESTED_MODE 4) with mode := { cur := .fiddlehead, settingsRead := true } }
/-- VAUX3 present, RSTn released, the roles not decided. -/
def Sys2Proof.Tests.deciding : State :=
  { State.reset with
    mode := { cur := .resetHold }
    sup := { vaux3 := true, vauxIn := true, vin12 := true }
    pair := { State.reset.pair with
      unitA := { inReset := false }
      unitB := { inReset := false } } }
def Sys2Proof.Tests.holdUp : State := { Tests.up with mode := { cur := .holdUp }, sup := { Tests.up.sup with holdReady := true } }
def Sys2Proof.Tests.starting : State :=
  { Tests.up with
    mode := { cur := .bringUp }
    pair := { Tests.up.pair with unitA := { Tests.up.pair.unitA with fwRunning := false, selfTest := true } } }
def Sys2Proof.Tests.recovering : State :=
  { Tests.fiddle with
    sup := { Tests.up.sup with straps := { Tests.up.sup.straps with bootSel := true } }
    fw := [(0, { recovery := some [1] })] }
def Sys2Proof.Tests.paired (p : PeerState) (m : MirrorState := .up16) : State :=
  { Tests.up with pair := { Tests.up.pair with peer := p, mirror := m } }
def Sys2Proof.Tests.released : State :=
  { (Tests.paired .ready).modUnit .A (fun x => { x with releasedAt := some 0 }) with mode := { cur := .switchover, switchFrom := .frond } }
def Sys2Proof.Tests.takeover : State :=
  { Tests.paired .released with mode := { cur := .switchover, switchFrom := .frond } }
def Sys2Proof.Tests.bufUp : State := Tests.up.modBuf 0 (fun b => { b with state := .inService })
def Sys2Proof.Tests.bufMaint : State := Tests.maint.modBuf 0 (fun b => { b with state := .inService })
def Sys2Proof.Tests.rawMaint : State := Tests.maint.wrBlob (Obj.RAW_TARGET 0 0) [0, 0, 0, 0, 0, 0, 0, 0, 1, 0, 1, 0]
/-- A channel whose descriptor moves one element of eight bytes in bit-plane mode. -/
def Sys2Proof.Tests.planing : State :=
  (Tests.bufUp.modFab 0 (fun f => { f with powered := 127 })).modDma 0 (fun c => { c with st := .running, desc := overlay (overlay (overlay (List.replicate 64 0) 40 [1, 0, 1, 0, 1, 0]) 46 [3, 1]) 8 [64] })
/-- A channel that fills 64 bytes past the end of the buffer. -/
def Sys2Proof.Tests.filling : State :=
  Tests.bufUp.modDma 0 (fun c => { c with st := .running, desc := overlay (overlay (List.replicate 64 0) 47 [2]) 8 [0, 0, 0, 0, 0, 0, 0xFF] })
/-- Both controllers ready, with their admin queues and one I/O queue pair. -/
def Sys2Proof.Tests.hosted : State :=
  let c : CtrlSt := { linkUp := true, ccEn := true, rdy := true
                      sqs := [{ qid := 0, cq := 0, size := 64 }, { qid := 1, cq := 1, size := 64 }]
                      cqs := [{ qid := 0, size := 64 }, { qid := 1, size := 64 }] }
  { Tests.up with ctrl := [(0, c), (1, c)] }
def Sys2Proof.Tests.adm : CmdTag := ⟨.A, 0, 7⟩
def Sys2Proof.Tests.io : CmdTag := ⟨.A, 1, 7⟩
def Sys2Proof.Tests.hostedNoSq : State :=
  Tests.hosted.modCtrl 0 (fun c => { c with sqs := [{ qid := 0, cq := 0, size := 64 }] })
def Sys2Proof.Tests.hostedFeat : State := Tests.hosted.modCtrl 0 (fun c => { c with features := [(4, 300)] })
/-- A served namespace 0 with one packed value stored under the key 1. -/
def Sys2Proof.Tests.served : State :=
  { Tests.hosted with
    os := { Tests.hosted.os with mode := .readWrite, recovered := true, nsState := [(0, 1)] } }
def Sys2Proof.Tests.storing : State :=
  Tests.served.enterCmd { tag := Tests.io, kind := .store, ns := 0, key := [1], value := [2], held := true }
/-- Thirteen healthy members on READY ports. -/
def Sys2Proof.Tests.wide : State :=
  { Tests.served with
    port := (List.range 13).map (fun i => (i, { state := .ready }))
    spd := (List.range 13).map (fun i => (i, { st := .locked }))
    hda := (List.range 13).map (fun i => (sideKey .A i, { r := { band := .normal } }))
    os := { Tests.served.os with
      members := (List.range 13).map (fun i => (i, { state := .active, port := some i, bands := 200, positions := 1000000 })) } }
def Sys2Proof.Tests.desc : ValueDesc := { key := [1], len := 0, chunks := [], lost := false }
def Sys2Proof.Tests.wideStored : State := { Tests.wide with os := { Tests.wide.os with index := [(0, [Tests.desc])] } }
/-- As `wideStored`, with a value in a chunk. -/
def Sys2Proof.Tests.chunkStored : State :=
  { Tests.wide with os := { Tests.wide.os with index := [(0, [{ Tests.desc with chunks := [5] }])], soruses := [(5, {})] } }
/-- A Store of the key 1 waits in the table. -/
def Sys2Proof.Tests.io2Stored : State :=
  Tests.wide.enterCmd { tag := ⟨.A, 1, 8⟩, kind := .store, ns := 0, key := [1], value := [2] }
/-- A checkpoint is due. -/
def Sys2Proof.Tests.wideDue : State := { Tests.wide with now := 10000000000 }
/-- Bands are short and a closed set holds one live index sorus. -/
def Sys2Proof.Tests.compactable : State :=
  { Tests.wide.wr Obj.FREE_BANDS_LOW 250 with os := { Tests.wide.os with
      soruses := [(1, { sid := some (0, 1), index := true, sealed := true })]
      sets := [{ no := 0, act := 0, bands := [], isOpen := false }] } }
def Sys2Proof.Tests.rooted : State :=
  { Tests.wide with casc := { Tests.wide.casc with role := .root, table := [(1, { used := true, reachable := true })] } }
def Sys2Proof.Tests.packing : State :=
  { Tests.served with os := { Tests.served.os with soruses := [(1, { packing := true, ns := 0 })] } }
def Sys2Proof.Tests.sealed : State :=
  { Tests.served with os := { Tests.served.os with soruses := [(1, { sid := some (0, 1), sealed := true, k := 12, profile := 1 })] } }
/-- As `sealed`, with a read of the chunk under way that has all it needs. -/
def Sys2Proof.Tests.readSealed : State :=
  { Tests.sealed with os := { Tests.sealed.os with reads := [(1, { frags := (List.range 12).map (fun i => { frag := i }) })] } }
def Sys2Proof.Tests.sealedBad : State :=
  { Tests.served with os := { Tests.served.os with soruses := [(1, { sid := some (0, 1), sealed := true, k := 12, profile := 1, missing := 0xFFFF })] } }
def Sys2Proof.Tests.wideWritable : State :=
  Tests.wide
def Sys2Proof.Tests.wideRepair : State :=
  { Tests.wide with os := { Tests.wide.os with soruses := [(1, { sid := some (0, 1), sealed := true, k := 12, profile := 1, missing := 1 })], repair := [1] } }
def Sys2Proof.Tests.root : State :=
  { Tests.hosted with
    casc := { Tests.hosted.casc with
      role := .root, number := some 0, depth := some 0
      table := [(0, { used := true, reachable := true }), (1, { used := true, reachable := true, parent := 0, port := 0, depth := 1 })] } }
def Sys2Proof.Tests.member : State :=
  { Tests.served with casc := { Tests.hosted.casc with role := .member, number := some 5, depth := some 1 } }
def Sys2Proof.Tests.linked (st : GriugState) (n : Nat) : State :=
  Tests.up.modLink .A 1 (fun k => { k with st := st, step := n })
def Sys2Proof.Tests.treeTwo : State :=
  { Tests.root with
    casc := { Tests.root.casc with
      table := Tests.root.casc.table ++ [(2, { used := true, reachable := true, parent := 1, port := 0, depth := 2 })] } }
/-- As `treeTwo`, the root's own first downstream port down for long. -/
def Sys2Proof.Tests.treeDown : State :=
  { Tests.treeTwo with now := 100000000000, casc := { Tests.treeTwo.casc with downHops := [1] } }
def Sys2Proof.Tests.enumSt : EnumSt := { level := [1], depth := 1, start := 0, lastAssign := 0 }
def Sys2Proof.Tests.enumerating : State := { Tests.root with casc := { Tests.root.casc with enumr := some Tests.enumSt } }
def Sys2Proof.Tests.granted : State :=
  { Tests.root with casc := { Tests.root.casc with ledger := [{ number := 0, module := 1, due := 0 }] } }
def Sys2Proof.Tests.fwdStore : HostCmd :=
  { tag := Tests.io, kind := .forwarded, target := some 1, fwdTag := 9, value := [5], need := 1 }
def Sys2Proof.Tests.fwdRead : HostCmd :=
  { tag := ⟨.A, 1, 8⟩, kind := .forwarded, target := some 1, fwdTag := 8, limit := 64 }
def Sys2Proof.Tests.forwarding : State := (Tests.root.enterCmd Tests.fwdStore).enterCmd Tests.fwdRead
def Sys2Proof.Tests.cascStore : HostCmd := { tag := ⟨.A, cascQueue, 4⟩, kind := .waiting, ns := 0, key := [1], need := 1 }
def Sys2Proof.Tests.memberWaits : State :=
  ((Tests.member.modPort 0 (fun q => { q with state := .linked })).modSpd 0 (fun q => { q with st := .atRest })).wr (Obj.RATED_RPM 0) 7200
def Sys2Proof.Tests.linkIdent : LinkIdent := { serial := [1], side := .A, role := .up, rootStrap := false, number := none }
def Sys2Proof.Tests.flash : State := { Tests.up with jf := [(0, { scanned := true }), (1, { scanned := true })] }
def Sys2Proof.Tests.logged : State := Tests.maint.logPlain 5 [1, 2, 3, 4]
def Sys2Proof.Tests.pageDue : State :=
  (Tests.flash.wr (Obj.TIME_BASE_STATE .A) 1).modEr 0 (fun e => { e with due := [(0, 0)], ring := [] })
def Sys2Proof.Tests.recOne : Rec := { ty := 5, body := [1] }
/-- One record retained, numbered 0. -/
def Sys2Proof.Tests.recRead : State :=
  { Tests.maint with sup := Tests.up.sup }.modEr 0 (fun e => { e with next := 1, retained := [(0, Tests.recOne)] })
/-- Maintenance, with the recorder's key blown and a challenge issued to an address. -/
def Sys2Proof.Tests.erKeyed : State :=
  (Tests.maint.modEr 0 (fun e => { e with challenges := [(.kdap 1, List.replicate 16 2, 0)] })).modFuse 0
    (fun f => { f with erKey := some (List.replicate 32 1) })

/-- The access checks of an object that is no number look at the length of the data alone. -/
theorem Sys2Proof.Tests.writeErr_length {s : State} {u : UnitId} {i j : Nat} {q : Requester} {d d' : List Byte}
    (hn : (match objLookup i j with | some (some r) => r.ty.numeric | _ => false) = false) (h : d.length = d'.length) :
    s.writeErr u i j q d = s.writeErr u i j q d' := by
  unfold State.writeErr
  split <;> simp_all

theorem Sys2Proof.Tests.erKeyed_accepts :
    Tests.erKeyed.writeErr .A 0x5210 1 (.kdap 1)
      (erResponse (List.replicate 32 1) (List.replicate 16 2) (Tests.erKeyed.getEr 0).newest) = 0 := by
  rw [Tests.writeErr_length (d' := List.replicate 16 0) (by decide +kernel)]
  · decide +kernel
  · decide +kernel

/-- A frame from the address 5 to one unit. -/
def Sys2Proof.Tests.frame (i j : Nat) (data : List Byte := []) (param : Nat := 0) (seq : Nat := 0) (last : Bool := true)
    (target : BitVec 8 := 0) (broadcast : Bool := false) : KdapFrame :=
  { src := 5, broadcast := broadcast, etherType := Tests.up.rd Obj.KDAP_ETHERTYPE, version := 1, transId := 9, index := i, sub := j
    target := target, param := param, length := data.length, seq := seq, last := last, data := data }
/-- A broadcast read waits for its answer. -/
def Sys2Proof.Tests.discovering : State :=
  { Tests.up.modDict 0 (fun d => { d with found := [(Tests.frame 0x1000 5 (broadcast := true), 0)] }) with now := 1000000000 }
def Sys2Proof.Tests.transferring (x : Transfer) : State := Tests.up.modDict 0 (fun d => { d with transfers := [x] })
def Sys2Proof.Tests.reading : Transfer :=
  { src := 5, transId := 9, index := 0x1000, sub := 5, write := false, total := 2, bytes := [1, 2], sent := 1, tries := 1 }
def Sys2Proof.Tests.readingMore : Transfer :=
  { Tests.reading with total := 1030, bytes := List.replicate 1030 3, sent := 2 }
def Sys2Proof.Tests.writingSeg : Transfer :=
  { src := 5, transId := 9, index := 0x1001, sub := 3, write := true, total := 1, bytes := [] }
def Sys2Proof.Tests.writtenSeg : Transfer := { Tests.writingSeg with inOrder := 1, bytes := [7] }

/-- The parts of an answer taken back, its code evaluated. -/
theorem Sys2Proof.Tests.parts {α β γ : Type} {e : β} (x : α × β × γ) (h : x.2.1 = e) : x = (x.1, e, x.2.2) := by subst h; rfl
/-- Maintenance, the management key provisioned in both units, with a challenge issued to an address. -/
def Sys2Proof.Tests.authKeyed : State :=
  ((Tests.maint.modDict 0 (fun d => { d with challenges := [(.kdap 1, List.replicate 16 2, 0)] })).modFuse 0
    (fun f => { f with mgmtKey := some (List.replicate 32 1) })).modFuse 1 (fun f => { f with mgmtKey := some (List.replicate 32 1) })
def Sys2Proof.Tests.authAlone : State := Tests.maint.modDict 0 (fun d => { d with challenges := [(.kdap 1, List.replicate 16 2, 0)] })
def Sys2Proof.Tests.authLocked : State := Tests.maint.modDict 0 (fun d => { d with locked := [(.kdap 1, 1000000000000)] })
/-- A maintenance session of the address 1 while the standby is ready and VIN12 in window. -/
def Sys2Proof.Tests.fusing : State :=
  ({ Tests.maint with
    sup := { Tests.up.sup with vin12 := true }, pair := { Tests.maint.pair with peer := .ready } } : State).modDict 0
      (fun d => { d with sessions := [(.kdap 1, 1000000000000)] })
def Sys2Proof.Tests.fusingLow : State := { Tests.fusing with sup := { Tests.fusing.sup with vin12 := false } }
def Sys2Proof.Tests.staged : State := { Tests.up with sup := { Tests.up.sup with vin12 := true } }.save Obj.HB_PERIOD 5

theorem Sys2Proof.Tests.authKeyed_accepts :
    Tests.authKeyed.writeErr .A 0x1020 1 (.kdap 1) (authResponse (List.replicate 32 1) (List.replicate 16 2) (.kdap 1)) = 0 := by
  rw [Tests.writeErr_length (d' := List.replicate 16 0) (by decide +kernel)]
  · decide +kernel
  · decide +kernel

/-- The answer of the write that the last segment applies. -/
def Sys2Proof.Tests.lastSegAnswer : State × Nat × List Byte :=
  State.takeAnswer (State.dictWrite ((((Tests.transferring Tests.writingSeg).inc (Obj.KDAP_RX .A)).modDict 0
    (fun d => d.endTransfer 5 9)).kdapSend ((Tests.frame 0x1001 3 [7]).reply .A 0x06 1 [])) (.kdap 5) .A 0x1001 3 [7])
/-- Maintenance, a raw plan executing on the first actuator, its first sequencer running. -/
def Sys2Proof.Tests.seqRaw : State :=
  ((Tests.maint.modPlan 0 (fun l => { l.write 0 14 [1, 0] with empty := false })).modSeq 0 (fun e => { e with state := .running })).modSeq 0
    (fun e => { e with halted := true })
def Sys2Proof.Tests.monLocked : State := Tests.up.wr (Obj.MON_LOCK .A) 1
def Sys2Proof.Tests.monRecords : State := Tests.up.modEr 0 (fun e => { e with next := 1, retained := [(0, Tests.recOne)] })
def Sys2Proof.Tests.flashMaint : State := { Tests.maint with jf := Tests.flash.jf }
/-- The standby has taken the role and holds no powered port. -/
def Sys2Proof.Tests.releasedTaken : State :=
  let k := Tests.released.ctrlDown .A
  ({ k with
    pair := { k.pair with active := .B, peer := .released, settleFrom := none, takeTime := k.now, unlike := k.rowsUnlike }
    mon := { k.mon with traces := [], tail := none, rateSince := none } } : State).recordsAlone

/-! ## Well-formedness: one ill-formed command for each check, and a well-formed one of each constructor that has checks -/

/-- Commands whose operands lie at the bottom of every field. -/
theorem test_wellFormed_0 : (
    [.vaux3Applied ⟨0, false, false, false⟩, .vcoreSetWrite (.kdap 0) .A 0, .planWrite 0 0 0 0 [],
      .requestedModeWrite (.kdap 0) .A 0, .laneTrainingStep .A 0 .plain, .offline (.kdap 0) .A 0, .online (.kdap 0) .A 0,
      .retry (.kdap 0) .A 0, .mcStageWrite (.kdap 0) .A [], .mcVerify (.kdap 0) .A, .mcLoad (.kdap 0) .A,
      .mcPersist (.kdap 0) .A, .mcRevert (.kdap 0) .A, .bankWrite (.kdap 0) .A 0 0 0 [], .bankSwap (.kdap 0) .A 0 0 0,
      .actLoad (.kdap 0) .A 0 0, .actUnload (.kdap 0) .A 0 0, .actRetract (.kdap 0) .A 0 0, .sweepRpmWrite (.kdap 0) .A 0,
      .nsCreate (.kdap 0) .A 0, .nsDelete (.kdap 0) .A 0, .store ⟨.A, 0, 0⟩ 0 [] [] .any none, .retrieve ⟨.A, 0, 0⟩ 0 [] 0,
      .delete ⟨.A, 0, 0⟩ 0 [], .exist ⟨.A, 0, 0⟩ 0 [], .list ⟨.A, 0, 0⟩ 0 [] 0, .flush ⟨.A, 0, 0⟩ 0, .widthWaitExpiry ⟨.A, 0, 0⟩,
      .stagingAck ⟨.A, 0, 0⟩, .deleteIoSubmissionQueue ⟨.A, 0, 0⟩ 0, .createIoSubmissionQueue ⟨.A, 0, 0⟩ 0 0 0 false,
      .getLogPage ⟨.A, 0, 0⟩ 0 0 0 false, .deleteIoCompletionQueue ⟨.A, 0, 0⟩ 0, .createIoCompletionQueue ⟨.A, 0, 0⟩ 0 0 0 false,
      .identify ⟨.A, 0, 0⟩ 0 0, .nvmeAbort ⟨.A, 0, 0⟩ 0 0 false, .setFeatures ⟨.A, 0, 0⟩ 0 0, .getFeatures ⟨.A, 0, 0⟩ 0,
      .asynchronousEventRequest ⟨.A, 0, 0⟩, .firmwareImageDownload ⟨.A, 0, 0⟩ 0 []] : List Instr).all Instr.wf = true := by decide +kernel

/-- Commands whose operands lie at the bottom of every field. -/
theorem test_wellFormed_1 : (
    [.fwCommitStore ⟨.A, 0, 0⟩ 0, .fwCommitStoreActivateReset ⟨.A, 0, 0⟩ 0, .fwCommitActivateReset ⟨.A, 0, 0⟩ 0,
      .fwCommitActivateNow ⟨.A, 0, 0⟩ 0, .dictionaryWrite ⟨.A, 0, 0⟩ 0 0 0 0 [], .dictionaryRead ⟨.A, 0, 0⟩ 0 0 0 0 0 0,
      .invalidCommandOpcode ⟨.A, 0, 0⟩, .commandFetch ⟨.A, 0, 0⟩ 0 [] [], .forwardedCommand ⟨.A, 0, 0⟩ 0 [] [], .ccEnSet .A 1 1,
      .bufferRead .A 0 0 ⟨[], [], none, []⟩, .bufferWrite .A 0 [] ⟨[], [], none, []⟩, .mergeWriteback .A 0,
      .remapRequest (.kdap 0) .A 0, .logClear (.kdap 0) .A 0, .scrubStart (.kdap 0) .A, .scrubStop (.kdap 0) .A,
      .scrubGroup .A ⟨[], [], none, []⟩, .flipModeWrite (.kdap 0) .A 0, .cacheAccess .A 0 0 none ⟨[], [], none, []⟩,
      .wayEnableWrite (.kdap 0) .A 0, .wayCleanDone .A 0, .cacheEnable (.kdap 0) .A, .cacheDisable (.kdap 0) .A,
      .chArm (.kdap 0) .A 0 [], .chStop (.kdap 0) .A 0, .timerWrite (.kdap 0) .A 0 0, .evFire (.kdap 0) .A 0,
      .domainPowerDown (.kdap 0) .A 0, .domainPowerUp (.kdap 0) .A 0, .ringTailWrite (.kdap 0) .A 0 0,
      .ringBaseWrite (.kdap 0) .A 0 0, .fwRecoveryStageWrite (.kdap 0) .A [], .tokenReq 0 0, .tokenGrant 0 0, .tokenReturn 0 0,
      .tokenExpiry 0, .griugTrainingStep .A .up .done, .griugPacketReceive .A .up (.ack 0), .griugHoldExpiry 0 0] : List Instr).all Instr.wf = true := by decide +kernel

/-- Commands whose operands lie at the bottom of every field. -/
theorem test_wellFormed_2 : (
    [.griugDropExpiry 0 0, .enumQuery 0, .enumState 0 .none .none, .enumAssign none 0 0,
      .cmd 0 ⟨.exist, 0, false, [], 0, .any, none⟩, .dataReq 0 0 0 0, .data 0 0 0 [], .cpl 0 0 0 0 false 0 0, .event 0 0 0 0,
      .dict 0 0 (.dictRsp 0 []), .plannedSwitchover (.kdap 0) .A, .rejoinAttempt (.kdap 0) .A, .statusClear (.kdap 0) .A 0 0 0,
      .erRecordRead (.kdap 0) .A, .erChallengeRead (.kdap 0) .A, .erClearResponseWrite (.kdap 0) .A [],
      .programPage .A .firmware 0 (List.replicate 256 0), .registerWrite (.kdap 0) .A 0 0 [],
      .expeditedRead .A ⟨0, false, 0, 0, 0, 0, 0, 0, 0, 0, 0, 0, false, []⟩,
      .expeditedWrite .A ⟨0, false, 0, 0, 0, 0, 0, 0, 0, 0, 0, 0, false, []⟩,
      .segmentedReadInitiate .A ⟨0, false, 0, 0, 0, 0, 0, 0, 0, 0, 0, 0, false, []⟩,
      .segmentedWriteInitiate .A ⟨0, false, 0, 0, 0, 0, 0, 0, 0, 0, 0, 0, false, []⟩,
      .segment .A ⟨0, false, 0, 0, 0, 0, 0, 0, 0, 0, 0, 0, false, []⟩,
      .segmentAcknowledge .A ⟨0, false, 0, 0, 0, 0, 0, 0, 0, 0, 0, 0, false, []⟩,
      .kdapAbort .A ⟨0, false, 0, 0, 0, 0, 0, 0, 0, 0, 0, 0, false, []⟩, .kdapRetransmitTimeout .A 0 0,
      .kdapTransferTimeout .A 0 0, .discoveryAnswer .A ⟨0, false, 0, 0, 0, 0, 0, 0, 0, 0, 0, 0, false, []⟩,
      .heartbeatReceived .A 0 0, .timeSync .A ⟨0, false, 0, 0, 0, 0, 0, 0, 0, 0, 0, 0, false, []⟩ 0,
      .timeFollowUp .A ⟨0, false, 0, 0, 0, 0, 0, 0, 0, 0, 0, 0, false, []⟩, .authChallengeRead (.kdap 0) .A,
      .authResponseWrite (.kdap 0) .A [], .authClose (.kdap 0) .A 0, .authWindowExpiry (.kdap 0) .A,
      .authLockoutExpiry (.kdap 0) .A, .kdapEthertypeWrite (.kdap 0) .A 0, .restoreDefaults (.kdap 0) .A 0,
      .mondisBlow (.kdap 0) .A 0 false false, .fwMinSvnWrite (.kdap 0) .A 0 false false] : List Instr).all Instr.wf = true := by decide +kernel

/-- Commands whose operands lie at the bottom of every field. -/
theorem test_wellFormed_3 : (
    [.mgmtKeyWrite (.kdap 0) .A [] false false, .erKeyWrite (.kdap 0) .A [] false false, .rawCommand (.kdap 0) .A 0 0 0,
      .bufWinDataAccess (.kdap 0) .A none, .monLine [] 0, .monPeek .serving 0 0, .monPoke .serving 0 0 [],
      .monDump .serving 0 0 0 none, .monTrace .serving 0 0, .monJfStatus .serving 0, .monJfRead .serving 0 0 0,
      .monSeqHalt .serving 0, .monSeqStep .serving 0 0, .monSeqRun .serving 0, .monSeqRegs .serving 0, .monBaud 0,
      .authChallengeExpiry (.kdap 0) .A, .erChallengeExpiry (.kdap 0) .A] : List Instr).all Instr.wf = true := by decide +kernel

/-- One operand outside its field, each. -/
theorem test_illFormed_0 : (
    [.vaux3Applied ⟨64, false, false, false⟩, .vcoreSetWrite (.kdap (2 ^ 48)) .A 0, .requestedModeWrite (.kdap (2 ^ 48)) .A 0,
      .laneTrainingStep .A 0 (.identity ⟨[], 0, 0, 1, 0, 0, 0, 0, 0, 0⟩),
      .laneTrainingStep .A 0 (.identity ⟨[], 0, 3, 1, 0, 0, 0, 0, 0, 0⟩),
      .laneTrainingStep .A 0 (.identity ⟨[], 0, 1, 0, 0, 0, 0, 0, 0, 0⟩),
      .laneTrainingStep .A 0 (.identity ⟨[], 0, 1, 17, 0, 0, 0, 0, 0, 0⟩),
      .laneTrainingStep .A 0 (.identity ⟨List.replicate 21 0, 0, 1, 1, 0, 0, 0, 0, 0, 0⟩), .offline (.kdap (2 ^ 48)) .A 0,
      .online (.kdap (2 ^ 48)) .A 0, .retry (.kdap (2 ^ 48)) .A 0, .mcStageWrite (.kdap (2 ^ 48)) .A [],
      .mcVerify (.kdap (2 ^ 48)) .A, .mcLoad (.kdap (2 ^ 48)) .A, .mcPersist (.kdap (2 ^ 48)) .A, .mcRevert (.kdap (2 ^ 48)) .A,
      .bankWrite (.kdap (2 ^ 48)) .A 0 0 0 [], .bankSwap (.kdap (2 ^ 48)) .A 0 0 0, .actLoad (.kdap (2 ^ 48)) .A 0 0,
      .actUnload (.kdap (2 ^ 48)) .A 0 0, .actRetract (.kdap (2 ^ 48)) .A 0 0, .sweepRpmWrite (.kdap (2 ^ 48)) .A 0,
      .nsCreate (.kdap (2 ^ 48)) .A 0, .nsDelete (.kdap (2 ^ 48)) .A 0, .store ⟨.A, 65, 0⟩ 0 [] [] .any none,
      .store ⟨.A, 0, 65536⟩ 0 [] [] .any none, .store ⟨.A, 0, 0⟩ (2 ^ 32) [] [] .any none,
      .store ⟨.A, 0, 0⟩ 0 (List.replicate 17 0) [] .any none, .retrieve ⟨.A, 65, 0⟩ 0 [] 0, .retrieve ⟨.A, 0, 65536⟩ 0 [] 0,
      .retrieve ⟨.A, 0, 0⟩ (2 ^ 32) [] 0, .retrieve ⟨.A, 0, 0⟩ 0 (List.replicate 17 0) 0, .retrieve ⟨.A, 0, 0⟩ 0 [] (2 ^ 32),
      .delete ⟨.A, 65, 0⟩ 0 [], .delete ⟨.A, 0, 65536⟩ 0 [], .delete ⟨.A, 0, 0⟩ (2 ^ 32) [],
      .delete ⟨.A, 0, 0⟩ 0 (List.replicate 17 0), .exist ⟨.A, 65, 0⟩ 0 [], .exist ⟨.A, 0, 65536⟩ 0 [],
      .exist ⟨.A, 0, 0⟩ (2 ^ 32) []] : List Instr).any Instr.wf = false := by decide +kernel

/-- One operand outside its field, each. -/
theorem test_illFormed_1 : (
    [.exist ⟨.A, 0, 0⟩ 0 (List.replicate 17 0), .list ⟨.A, 65, 0⟩ 0 [] 0, .list ⟨.A, 0, 65536⟩ 0 [] 0,
      .list ⟨.A, 0, 0⟩ (2 ^ 32) [] 0, .list ⟨.A, 0, 0⟩ 0 (List.replicate 17 0) 0, .list ⟨.A, 0, 0⟩ 0 [] (2 ^ 32),
      .flush ⟨.A, 65, 0⟩ 0, .flush ⟨.A, 0, 65536⟩ 0, .flush ⟨.A, 0, 0⟩ (2 ^ 32), .widthWaitExpiry ⟨.A, 65, 0⟩,
      .widthWaitExpiry ⟨.A, 0, 65536⟩, .stagingAck ⟨.A, 65, 0⟩, .stagingAck ⟨.A, 0, 65536⟩,
      .deleteIoSubmissionQueue ⟨.A, 65, 0⟩ 0, .deleteIoSubmissionQueue ⟨.A, 0, 65536⟩ 0,
      .deleteIoSubmissionQueue ⟨.A, 0, 0⟩ 65536, .createIoSubmissionQueue ⟨.A, 65, 0⟩ 0 0 0 false,
      .createIoSubmissionQueue ⟨.A, 0, 65536⟩ 0 0 0 false, .createIoSubmissionQueue ⟨.A, 0, 0⟩ 65536 0 0 false,
      .createIoSubmissionQueue ⟨.A, 0, 0⟩ 0 65537 0 false, .createIoSubmissionQueue ⟨.A, 0, 0⟩ 0 0 65536 false,
      .getLogPage ⟨.A, 65, 0⟩ 0 0 0 false, .getLogPage ⟨.A, 0, 65536⟩ 0 0 0 false, .getLogPage ⟨.A, 0, 0⟩ 256 0 0 false,
      .getLogPage ⟨.A, 0, 0⟩ 0 (2 ^ 32) 0 false, .getLogPage ⟨.A, 0, 0⟩ 0 0 (2 ^ 32) false,
      .deleteIoCompletionQueue ⟨.A, 65, 0⟩ 0, .deleteIoCompletionQueue ⟨.A, 0, 65536⟩ 0,
      .deleteIoCompletionQueue ⟨.A, 0, 0⟩ 65536, .createIoCompletionQueue ⟨.A, 65, 0⟩ 0 0 0 false,
      .createIoCompletionQueue ⟨.A, 0, 65536⟩ 0 0 0 false, .createIoCompletionQueue ⟨.A, 0, 0⟩ 65536 0 0 false,
      .createIoCompletionQueue ⟨.A, 0, 0⟩ 0 65537 0 false, .createIoCompletionQueue ⟨.A, 0, 0⟩ 0 0 65536 false,
      .identify ⟨.A, 65, 0⟩ 0 0, .identify ⟨.A, 0, 65536⟩ 0 0, .identify ⟨.A, 0, 0⟩ 256 0, .identify ⟨.A, 0, 0⟩ 0 (2 ^ 32),
      .nvmeAbort ⟨.A, 65, 0⟩ 0 0 false, .nvmeAbort ⟨.A, 0, 65536⟩ 0 0 false] : List Instr).any Instr.wf = false := by decide +kernel

/-- One operand outside its field, each. -/
theorem test_illFormed_2 : (
    [.nvmeAbort ⟨.A, 0, 0⟩ 65536 0 false, .nvmeAbort ⟨.A, 0, 0⟩ 0 65536 false, .setFeatures ⟨.A, 65, 0⟩ 0 0,
      .setFeatures ⟨.A, 0, 65536⟩ 0 0, .setFeatures ⟨.A, 0, 0⟩ 256 0, .getFeatures ⟨.A, 65, 0⟩ 0, .getFeatures ⟨.A, 0, 65536⟩ 0,
      .getFeatures ⟨.A, 0, 0⟩ 256, .asynchronousEventRequest ⟨.A, 65, 0⟩, .asynchronousEventRequest ⟨.A, 0, 65536⟩,
      .firmwareImageDownload ⟨.A, 65, 0⟩ 0 [], .firmwareImageDownload ⟨.A, 0, 65536⟩ 0 [],
      .firmwareImageDownload ⟨.A, 0, 0⟩ (2 ^ 32) [], .fwCommitStore ⟨.A, 65, 0⟩ 0, .fwCommitStore ⟨.A, 0, 65536⟩ 0,
      .fwCommitStoreActivateReset ⟨.A, 65, 0⟩ 0, .fwCommitStoreActivateReset ⟨.A, 0, 65536⟩ 0,
      .fwCommitActivateReset ⟨.A, 65, 0⟩ 0, .fwCommitActivateReset ⟨.A, 0, 65536⟩ 0, .fwCommitActivateNow ⟨.A, 65, 0⟩ 0,
      .fwCommitActivateNow ⟨.A, 0, 65536⟩ 0, .dictionaryWrite ⟨.A, 65, 0⟩ 0 0 0 0 [], .dictionaryWrite ⟨.A, 0, 65536⟩ 0 0 0 0 [],
      .dictionaryWrite ⟨.A, 0, 0⟩ 256 0 0 0 [], .dictionaryWrite ⟨.A, 0, 0⟩ 0 0 65536 0 [],
      .dictionaryWrite ⟨.A, 0, 0⟩ 0 0 0 256 [], .dictionaryRead ⟨.A, 65, 0⟩ 0 0 0 0 0 0,
      .dictionaryRead ⟨.A, 0, 65536⟩ 0 0 0 0 0 0, .dictionaryRead ⟨.A, 0, 0⟩ 256 0 0 0 0 0,
      .dictionaryRead ⟨.A, 0, 0⟩ 0 0 65536 0 0 0, .dictionaryRead ⟨.A, 0, 0⟩ 0 0 0 256 0 0,
      .dictionaryRead ⟨.A, 0, 0⟩ 0 0 0 0 (2 ^ 32) 0, .dictionaryRead ⟨.A, 0, 0⟩ 0 0 0 0 0 (2 ^ 32),
      .invalidCommandOpcode ⟨.A, 65, 0⟩, .invalidCommandOpcode ⟨.A, 0, 65536⟩, .commandFetch ⟨.A, 65, 0⟩ 0 [] [],
      .commandFetch ⟨.A, 0, 65536⟩ 0 [] [], .commandFetch ⟨.A, 0, 0⟩ (2 ^ 32) [] [], .forwardedCommand ⟨.A, 65, 0⟩ 0 [] [],
      .forwardedCommand ⟨.A, 0, 65536⟩ 0 [] []] : List Instr).any Instr.wf = false := by decide +kernel

/-- One operand outside its field, each. -/
theorem test_illFormed_3 : (
    [.forwardedCommand ⟨.A, 0, 0⟩ (2 ^ 32) [] [], .ccEnSet .A 0 1, .ccEnSet .A 4097 1, .ccEnSet .A 1 0, .ccEnSet .A 1 4097,
      .bufferRead .A (2 ^ 36) 0 ⟨[], [], none, []⟩, .bufferRead .A 0 (2 ^ 32) ⟨[], [], none, []⟩,
      .bufferRead .A 0 0 ⟨[(576, 0)], [], none, []⟩, .bufferRead .A 0 0 ⟨[], [(64, [])], none, []⟩,
      .bufferRead .A 0 0 ⟨[], [(0, List.replicate 10 0)], none, []⟩, .bufferRead .A 0 0 ⟨[], [], none, [(64, false)]⟩,
      .bufferWrite .A (2 ^ 36) [] ⟨[], [], none, []⟩, .bufferWrite .A 0 [] ⟨[(576, 0)], [], none, []⟩,
      .bufferWrite .A 0 [] ⟨[], [(64, [])], none, []⟩, .bufferWrite .A 0 [] ⟨[], [(0, List.replicate 10 0)], none, []⟩,
      .bufferWrite .A 0 [] ⟨[], [], none, [(64, false)]⟩, .mergeWriteback .A 11184128, .remapRequest (.kdap (2 ^ 48)) .A 0,
      .logClear (.kdap (2 ^ 48)) .A 0, .scrubStart (.kdap (2 ^ 48)) .A, .scrubStop (.kdap (2 ^ 48)) .A,
      .scrubGroup .A ⟨[(576, 0)], [], none, []⟩, .scrubGroup .A ⟨[], [(64, [])], none, []⟩,
      .scrubGroup .A ⟨[], [(0, List.replicate 10 0)], none, []⟩, .scrubGroup .A ⟨[], [], none, [(64, false)]⟩,
      .flipModeWrite (.kdap (2 ^ 48)) .A 0, .cacheAccess .A (2 ^ 36) 0 none ⟨[], [], none, []⟩,
      .cacheAccess .A 0 (2 ^ 32) none ⟨[], [], none, []⟩, .cacheAccess .A 0 0 none ⟨[(576, 0)], [], none, []⟩,
      .cacheAccess .A 0 0 none ⟨[], [(64, [])], none, []⟩, .cacheAccess .A 0 0 none ⟨[], [(0, List.replicate 10 0)], none, []⟩,
      .cacheAccess .A 0 0 none ⟨[], [], none, [(64, false)]⟩, .wayEnableWrite (.kdap (2 ^ 48)) .A 0, .wayCleanDone .A 16,
      .cacheEnable (.kdap (2 ^ 48)) .A, .cacheDisable (.kdap (2 ^ 48)) .A, .chArm (.kdap (2 ^ 48)) .A 0 [],
      .chStop (.kdap (2 ^ 48)) .A 0, .timerWrite (.kdap (2 ^ 48)) .A 0 0, .evFire (.kdap (2 ^ 48)) .A 0] : List Instr).any Instr.wf = false := by decide +kernel

/-- One operand outside its field, each. -/
theorem test_illFormed_4 : (
    [.domainPowerDown (.kdap (2 ^ 48)) .A 0, .domainPowerUp (.kdap (2 ^ 48)) .A 0, .ringTailWrite (.kdap (2 ^ 48)) .A 0 0,
      .ringBaseWrite (.kdap (2 ^ 48)) .A 0 0, .fwRecoveryStageWrite (.kdap (2 ^ 48)) .A [], .tokenReq 64 0, .tokenReq 0 16,
      .tokenGrant 256 0, .tokenReturn 64 0, .tokenReturn 0 256, .tokenExpiry 256,
      .griugTrainingStep .A .up (.ident ⟨List.replicate 21 0, .A, .up, false, none, none, false, []⟩),
      .griugTrainingStep .A .up (.ident ⟨[], .A, .up, false, some 7, none, false, []⟩),
      .griugTrainingStep .A .up (.ident ⟨[], .A, .up, false, none, some 64, false, []⟩),
      .griugTrainingStep .A .up (.ident ⟨[], .A, .up, false, none, none, false, [(256, 0)]⟩),
      .griugTrainingStep .A .up (.ident ⟨[], .A, .up, false, none, none, false, [(0, 14000001)]⟩),
      .griugPacketReceive .A .up (.packet 0 true ⟨.enumQuery, 256, 0, 0, 0⟩),
      .griugPacketReceive .A .up (.packet 0 true ⟨.enumQuery, 0, 256, 0, 0⟩),
      .griugPacketReceive .A .up (.packet 0 true ⟨.enumQuery, 0, 0, 2 ^ 32, 0⟩),
      .griugPacketReceive .A .up (.packet 0 true ⟨.enumQuery, 0, 0, 0, 2 ^ 32⟩),
      .griugPacketReceive .A .up (.packet 0 true ⟨.enumState (.partner (List.replicate 21 0) []) .none, 0, 0, 0, 0⟩),
      .griugPacketReceive .A .up (.packet 0 true ⟨.enumState .none (.partner [] [(256, 0)]), 0, 0, 0, 0⟩),
      .griugPacketReceive .A .up (.packet 0 true ⟨.enumAssign 2 0 0, 0, 0, 0, 0⟩),
      .griugPacketReceive .A .up (.packet 0 true ⟨.enumAssign 0 64 0, 0, 0, 0, 0⟩),
      .griugPacketReceive .A .up (.packet 0 true ⟨.enumAssign 0 0 7, 0, 0, 0, 0⟩),
      .griugPacketReceive .A .up (.packet 0 true ⟨.cmd ⟨.exist, 16, false, [], 0, .any, none⟩, 0, 0, 0, 0⟩),
      .griugPacketReceive .A .up (.packet 0 true ⟨.dataReq 4097, 0, 0, 0, 0⟩),
      .griugPacketReceive .A .up (.packet 0 true ⟨.cpl 8 0 false 0 0, 0, 0, 0, 0⟩),
      .griugPacketReceive .A .up (.packet 0 true ⟨.cpl 0 256 false 0 0, 0, 0, 0, 0⟩),
      .griugPacketReceive .A .up (.packet 0 true ⟨.cpl 0 0 false 4 0, 0, 0, 0, 0⟩),
      .griugPacketReceive .A .up (.packet 0 true ⟨.cpl 0 0 false 0 (2 ^ 32), 0, 0, 0, 0⟩),
      .griugPacketReceive .A .up (.packet 0 true ⟨.tokenReq 16, 0, 0, 0, 0⟩),
      .griugPacketReceive .A .up (.packet 0 true ⟨.tokenGrant 256 0, 0, 0, 0, 0⟩),
      .griugPacketReceive .A .up (.packet 0 true ⟨.tokenGrant 0 65536, 0, 0, 0, 0⟩),
      .griugPacketReceive .A .up (.packet 0 true ⟨.tokenReturn 256, 0, 0, 0, 0⟩),
      .griugPacketReceive .A .up (.packet 0 true ⟨.event 256 0 0, 0, 0, 0, 0⟩),
      .griugPacketReceive .A .up (.packet 0 true ⟨.event 0 256 0, 0, 0, 0, 0⟩),
      .griugPacketReceive .A .up (.packet 0 true ⟨.event 0 0 256, 0, 0, 0, 0⟩), .griugHoldExpiry 64 0, .griugDropExpiry 64 0] : List Instr).any Instr.wf = false := by decide +kernel

/-- One operand outside its field, each. -/
theorem test_illFormed_5 : (
    [.enumQuery (2 ^ 32), .enumState 64 .none .none, .enumState 0 (.partner (List.replicate 21 0) []) .none,
      .enumState 0 (.partner [] [(256, 0)]) .none, .enumState 0 (.partner [] [(0, 14000001)]) .none,
      .enumState 0 .none (.partner (List.replicate 21 0) []), .enumState 0 .none (.partner [] [(256, 0)]),
      .enumState 0 .none (.partner [] [(0, 14000001)]), .enumAssign none 64 0, .enumAssign none 0 7,
      .cmd (2 ^ 32) ⟨.exist, 0, false, [], 0, .any, none⟩, .cmd 0 ⟨.exist, 16, false, [], 0, .any, none⟩,
      .cmd 0 ⟨.exist, 0, false, List.replicate 17 0, 0, .any, none⟩, .cmd 0 ⟨.exist, 0, false, [], 2 ^ 32, .any, none⟩,
      .dataReq 64 0 0 0, .dataReq 0 (2 ^ 32) 0 0, .dataReq 0 0 (2 ^ 32) 0, .dataReq 0 0 0 (2 ^ 32), .data 64 0 0 [],
      .data 0 (2 ^ 32) 0 [], .data 0 0 (2 ^ 32) [], .cpl 64 0 0 0 false 0 0, .cpl 0 (2 ^ 32) 0 0 false 0 0,
      .cpl 0 0 8 0 false 0 0, .cpl 0 0 0 256 false 0 0, .cpl 0 0 0 0 false 4 0, .cpl 0 0 0 0 false 0 (2 ^ 32), .event 64 0 0 0,
      .event 0 256 0 0, .event 0 0 256 0, .event 0 0 0 256, .dict 256 0 (.dictRsp 0 []), .dict 0 (2 ^ 32) (.dictRsp 0 []),
      .dict 0 0 (.dictReq false .A 0 65536 0 []), .dict 0 0 (.dictReq false .A 0 0 256 []), .dict 0 0 (.dictRsp 256 []),
      .dict 0 0 .enumQuery, .plannedSwitchover (.kdap (2 ^ 48)) .A, .rejoinAttempt (.kdap (2 ^ 48)) .A,
      .statusClear (.kdap (2 ^ 48)) .A 0 0 0] : List Instr).any Instr.wf = false := by decide +kernel

/-- One operand outside its field, each. -/
theorem test_illFormed_6 : (
    [.statusClear (.kdap 0) .A 65536 0 0, .statusClear (.kdap 0) .A 0 256 0, .erRecordRead (.kdap (2 ^ 48)) .A,
      .erChallengeRead (.kdap (2 ^ 48)) .A, .erClearResponseWrite (.kdap (2 ^ 48)) .A [], .programPage .A .firmware 0 [],
      .registerWrite (.kdap (2 ^ 48)) .A 0 0 [], .registerWrite (.kdap 0) .A 65536 0 [], .registerWrite (.kdap 0) .A 0 256 [],
      .expeditedRead .A ⟨2 ^ 48, false, 0, 0, 0, 0, 0, 0, 0, 0, 0, 0, false, []⟩,
      .expeditedRead .A ⟨0, false, 3, 0, 0, 0, 0, 0, 0, 0, 0, 0, false, []⟩,
      .expeditedRead .A ⟨0, false, 0, 65536, 0, 0, 0, 0, 0, 0, 0, 0, false, []⟩,
      .expeditedRead .A ⟨0, false, 0, 0, 256, 0, 0, 0, 0, 0, 0, 0, false, []⟩,
      .expeditedRead .A ⟨0, false, 0, 0, 0, 65536, 0, 0, 0, 0, 0, 0, false, []⟩,
      .expeditedRead .A ⟨0, false, 0, 0, 0, 0, 65536, 0, 0, 0, 0, 0, false, []⟩,
      .expeditedRead .A ⟨0, false, 0, 0, 0, 0, 0, 256, 0, 0, 0, 0, false, []⟩,
      .expeditedRead .A ⟨0, false, 0, 0, 0, 0, 0, 0, 0, 2 ^ 32, 0, 0, false, []⟩,
      .expeditedRead .A ⟨0, false, 0, 0, 0, 0, 0, 0, 0, 0, 65536, 0, false, []⟩,
      .expeditedRead .A ⟨0, false, 0, 0, 0, 0, 0, 0, 0, 0, 0, 256, false, []⟩,
      .expeditedWrite .A ⟨2 ^ 48, false, 0, 0, 0, 0, 0, 0, 0, 0, 0, 0, false, []⟩,
      .segmentedReadInitiate .A ⟨2 ^ 48, false, 0, 0, 0, 0, 0, 0, 0, 0, 0, 0, false, []⟩,
      .segmentedWriteInitiate .A ⟨2 ^ 48, false, 0, 0, 0, 0, 0, 0, 0, 0, 0, 0, false, []⟩,
      .segment .A ⟨2 ^ 48, false, 0, 0, 0, 0, 0, 0, 0, 0, 0, 0, false, []⟩,
      .segmentAcknowledge .A ⟨2 ^ 48, false, 0, 0, 0, 0, 0, 0, 0, 0, 0, 0, false, []⟩,
      .kdapAbort .A ⟨2 ^ 48, false, 0, 0, 0, 0, 0, 0, 0, 0, 0, 0, false, []⟩, .kdapRetransmitTimeout .A (2 ^ 48) 0,
      .kdapRetransmitTimeout .A 0 65536, .kdapTransferTimeout .A (2 ^ 48) 0, .kdapTransferTimeout .A 0 65536,
      .discoveryAnswer .A ⟨2 ^ 48, false, 0, 0, 0, 0, 0, 0, 0, 0, 0, 0, false, []⟩, .heartbeatReceived .A (2 ^ 48) 0,
      .heartbeatReceived .A 0 256, .timeSync .A ⟨2 ^ 48, false, 0, 0, 0, 0, 0, 0, 0, 0, 0, 0, false, []⟩ 0,
      .timeSync .A ⟨0, false, 0, 0, 0, 0, 0, 0, 0, 0, 0, 0, false, []⟩ 1000,
      .timeFollowUp .A ⟨2 ^ 48, false, 0, 0, 0, 0, 0, 0, 0, 0, 0, 0, false, []⟩, .authChallengeRead (.kdap (2 ^ 48)) .A,
      .authResponseWrite (.kdap (2 ^ 48)) .A [], .authClose (.kdap (2 ^ 48)) .A 0, .authWindowExpiry (.kdap (2 ^ 48)) .A,
      .authLockoutExpiry (.kdap (2 ^ 48)) .A] : List Instr).any Instr.wf = false := by decide +kernel

/-- One operand outside its field, each. -/
theorem test_illFormed_7 : (
    [.kdapEthertypeWrite (.kdap (2 ^ 48)) .A 0, .restoreDefaults (.kdap (2 ^ 48)) .A 0,
      .mondisBlow (.kdap (2 ^ 48)) .A 0 false false, .fwMinSvnWrite (.kdap (2 ^ 48)) .A 0 false false,
      .mgmtKeyWrite (.kdap (2 ^ 48)) .A [] false false, .erKeyWrite (.kdap (2 ^ 48)) .A [] false false,
      .rawCommand (.kdap (2 ^ 48)) .A 0 0 0, .bufWinDataAccess (.kdap (2 ^ 48)) .A none,
      .bufWinDataAccess (.kdap 0) .A (some []), .monPeek .serving 65536 0, .monPeek .serving 0 256, .monPoke .serving 65536 0 [],
      .monPoke .serving 0 256 [], .monDump .serving 65536 0 0 none, .monDump .serving 0 256 0 none,
      .monDump .serving 0 0 (2 ^ 32) none, .monTrace .serving 65536 0, .monTrace .serving 0 256, .monJfStatus .serving 65536,
      .monJfRead .serving 65536 0 0, .monSeqHalt .serving 65536, .monSeqStep .serving 65536 0, .monSeqRun .serving 65536,
      .monSeqRegs .serving 65536, .monBaud (2 ^ 32), .authChallengeExpiry (.kdap (2 ^ 48)) .A,
      .erChallengeExpiry (.kdap (2 ^ 48)) .A] : List Instr).any Instr.wf = false := by decide +kernel

/-- More bytes than the field counts. -/
theorem test_tooLong_0 (d : List Byte) (h : 16384 < d.length) :
    Instr.wf (.planWrite 0 0 0 0 d) = false := by
  have hn : decide ((0 : BitVec 14).toNat + d.length ≤ 16384) = false := decide_eq_false (by have h0 : (0 : BitVec 14).toNat = 0 := rfl; omega)
  simp only [Instr.wf, hn, Bool.and_false, Bool.false_and]

/-- More bytes than the field counts. -/
theorem test_tooLong_1 (d : List Byte) (h : 2 ^ 32 - 1 < d.length) :
    Instr.wf (.store ⟨.A, 0, 0⟩ 0 [] d .any none) = false := by
  have hn : decide (d.length < 2 ^ 32) = false := decide_eq_false (by omega)
  simp only [Instr.wf, hn, Bool.and_false, Bool.false_and]

/-- More bytes than the field counts. -/
theorem test_tooLong_2 (d : List Byte) (h : 2 ^ 32 - 1 < d.length) :
    Instr.wf (.firmwareImageDownload ⟨.A, 0, 0⟩ 0 d) = false := by
  have hn : decide (d.length < 2 ^ 32) = false := decide_eq_false (by omega)
  simp only [Instr.wf, hn, Bool.and_false, Bool.false_and]

/-- More bytes than the field counts. -/
theorem test_tooLong_3 (d : List Byte) (h : 2 ^ 32 - 1 < d.length) :
    Instr.wf (.dictionaryWrite ⟨.A, 0, 0⟩ 0 0 0 0 d) = false := by
  have hn : decide (d.length < 2 ^ 32) = false := decide_eq_false (by omega)
  simp only [Instr.wf, hn, Bool.and_false, Bool.false_and]

/-- More bytes than the field counts. -/
theorem test_tooLong_4 (d : List Byte) (h : 2 ^ 32 - 1 < d.length) :
    Instr.wf (.bufferWrite .A 0 d ⟨[], [], none, []⟩) = false := by
  have hn : decide (d.length < 2 ^ 32) = false := decide_eq_false (by omega)
  simp only [Instr.wf, hn, Bool.and_false, Bool.false_and]

/-- More bytes than the field counts. -/
theorem test_tooLong_5 (d : List Byte) (h : 4096 < d.length) :
    Instr.wf (.griugPacketReceive .A .up (.packet 0 true ⟨.data d, 0, 0, 0, 0⟩)) = false := by
  have hn : decide (d.length ≤ 4096) = false := decide_eq_false (by omega)
  simp only [Instr.wf, PktBody.wf, LinkFrame.wf, Packet.wf, hn, Bool.and_false, Bool.false_and]

/-- More bytes than the field counts. -/
theorem test_tooLong_6 (d : List Byte) (h : 4096 < d.length) :
    Instr.wf (.data 0 0 0 d) = false := by
  have hn : decide (d.length ≤ 4096) = false := decide_eq_false (by omega)
  simp only [Instr.wf, hn, Bool.and_false, Bool.false_and]

/-- More bytes than the field counts. -/
theorem test_tooLong_7 (d : List Byte) (h : 2 ^ 32 - 1 < d.length) :
    Instr.wf (.dict 0 0 (.dictReq false .A 0 0 0 d)) = false := by
  have hn : decide (d.length < 2 ^ 32) = false := decide_eq_false (by omega)
  simp only [Instr.wf, PktBody.wf, hn, Bool.and_false, Bool.false_and]

/-- More bytes than the field counts. -/
theorem test_tooLong_8 (d : List Byte) (h : 2 ^ 32 - 1 < d.length) :
    Instr.wf (.dict 0 0 (.dictRsp 0 d)) = false := by
  have hn : decide (d.length < 2 ^ 32) = false := decide_eq_false (by omega)
  simp only [Instr.wf, PktBody.wf, hn, Bool.and_false, Bool.false_and]

/-- More bytes than the field counts. -/
theorem test_tooLong_9 (d : List Byte) (h : 2 ^ 16 - 1 < d.length) :
    Instr.wf (.monLine d 0) = false := by
  have hn : decide (d.length < 2 ^ 16) = false := decide_eq_false (by omega)
  simp only [Instr.wf, hn, Bool.and_false, Bool.false_and]

/-! ## Worked examples of the spec -/

/-- What holds of the next state of an outcome. -/
def Sys2Proof.Tests.after (o : Host.Outcome State Fault Refusal) (f : State → Bool) : Bool :=
  match o with | .next t => f t | _ => false

/-- Head 5, zone 0 of the layout example (04_media_format.md): M 4882, N 128, first sector at bit 4352. -/
def Sys2Proof.Tests.zone0 : Zone :=
  { first := 0, tracks := 5000, m := 4882, n := 128, cal := 8, spt := 1000, lead := 256, trail := 4352, gap := 256, step := 230400
    offset := 4352, delay := 0 }

/-- Layout example: WEDGE_POS(k) = 78112 k. -/
theorem test_wedgePositions : (List.range 512).all (fun k => Tests.zone0.wedge 1048576 k == 78112 * k) = true := by decide +kernel

/-- Layout example: positions 0 to 3 with their fragments. -/
theorem test_sectorLayout :
    (List.range 4).map (fun k => (Tests.zone0.position 1048576 k).map (fun f => (f.pos, f.fin))) =
      [[(4352, 41328)], [(41584, 77520), (82464, 83560)], [(83816, 120792)], [(121048, 155968), (160576, 162688)]] := by
  decide +kernel

/-- Layout example: position 3 carries 34760 code-word bits first and 2040 in its continuation. -/
theorem test_splitTakes : (Tests.zone0.position 1048576 3).map Frag.take = [34760, 2040] := by decide +kernel

/-- Layout example: a band spans 67 tracks, that is 66 data tracks and a guard track. -/
theorem test_bandTracks : Tests.zone0.bandTracks = 66 := by decide +kernel

/-- Servo example (06_servo.md): the minimum GAP_TRAIL of the zone is 3478 bits. -/
theorem test_trailMinimum : Tests.zone0.trailMin 1048576 = 3478 := by decide +kernel

/-- Sequencer example (05_sequencers.md): the fields of the word BA40021050h. -/
theorem test_wordFields :
    0xBA40021050 / 2 ^ 34 = 0x2E ∧ microWord 0xBA40021050 = ⟨0x24, 2, 0x105, 0, false⟩ := by decide +kernel

/-- Sequencer example: the operations of the subroutine's words. -/
theorem test_wordOps :
    [0x4020001010, 0xA000021020, 0x0420001030, 0xBA40021050, 0xB240001050, 0x5820011060, 0x1020261070, 0x5800011090, 0x0000001010,
      0x2400000000].map (fun v => (seqOps[v / 2 ^ 34 % 64]?.map (fun o => o))) =
      [some .ldi, some .pred, some .brz, some .cfrag, some .srd, some .addi, some .brlt, some .addi, some .nop, some .ret] := by
  decide +kernel

/-- Object service example (08_object_service.md): products of the code's field. -/
theorem test_fieldProducts :
    gfMul 0x98 2 = 0x2D ∧ gfMul 0xDD 2 = 0xA7 ∧ gfMul 0x7A 1 ^^^ gfMul 0x98 2 = 0x57 ∧ gfMul 0xBA 1 ^^^ gfMul 0xDD 2 = 0x1D := by
  decide +kernel

/-- Capacity example (08_object_service.md): a value of 10 MiB is 43 chunks of 60 sectors and one of 24. -/
theorem test_chunksOfTenMebibytes :
    chunkPlan (chunkInput 12) 100 10485760 = List.replicate 43 60 ++ [24] := by decide +kernel

/-- Buffer example (10_buffer_memory.md): a burst of 25 bits from bit 7 changes bit 7 of byte 0 and bytes 1 to 3. -/
theorem test_flipBurst :
    ((State.reset.wr (Obj.FLIP_START .A) 7).wr (Obj.FLIP_LEN .A) 25).flipPattern .A 2 =
      [(0, 0x80), (1, 0xFF), (2, 0xFF), (3, 0xFF)] := by decide +kernel

/-- Buffer example: with 26 bits the burst reaches bit 0 of byte 4. -/
theorem test_flipLongerBurst :
    ((State.reset.wr (Obj.FLIP_START .A) 7).wr (Obj.FLIP_LEN .A) 26).flipPattern .A 2 =
      [(0, 0x80), (1, 0xFF), (2, 0xFF), (3, 0xFF), (4, 1)] := by decide +kernel

/-- Buffer example: the four byte errors are located and corrected (R366). -/
theorem test_burstCorrected :
    decodeWord [(0, 0x80), (1, 0xFF), (2, 0xFF), (3, 0xFF)] =
      (.corrected [0, 1, 2, 3], []) := by decide +kernel

/-- Buffer example: address 1A2B3C80h lies in word 2 of group 0D159Eh. -/
theorem test_groupOfAddress : rangeParts 0x1A2B3C80 64 = [(0x0D159E, 128, 64)] := by decide +kernel

/-- Tree example (12_startup_cascade.md): NSID 67 names namespace 2 of module 4. -/
theorem test_nsid : nsidOf 67 = some (4, 2) := by decide +kernel

/-- Tree example: the budget grants 72 tokens at once, and no further one. -/
theorem test_surgeBudget :
    let s : State := { Tests.root with casc := { Tests.root.casc with
      ledger := (List.range 71).map (fun i => { number := i, module := i % 64, due := 0 }) } }
    let t : State := { s with casc := { s.casc with ledger := s.casc.ledger ++ [{ number := 71, module := 7, due := 0 }] } }
    s.mayGrant 7 = true ∧ t.mayGrant 8 = false := by decide +kernel

/-- Power example (14_power_thermal.md): a charge from 20 V to 30 V in 86.4 ms gives 4320 µF and 2214 mJ, and HOLD is ready. -/
theorem test_holdMeasured :
    Tests.after (exec (.holdChargeEnd 86400) { Tests.up with
      now := 86400, sup := { Tests.up.sup with hold := .charging, holdFrom := 19900 } })
      (fun t => t.rd (Obj.HOLD_CAP_UF .A) == 4320 && t.rd (Obj.HOLD_USABLE_MJ .A) == 2214 && t.sup.hold == .ready) = true := by
  decide +kernel

/-- Recorder example (15_faults_events.md): the image of record 41208, five slips of set 355. -/
theorem test_faultRecord :
    ({ ty := 2, cls := 0, fault := true, unit := .A, rep := 5, time := 12345678901
       body := faultBody (Obj.CH_STATUS 6 1) 0 9 9 355 } : Rec).bytes =
      [0x02, 0x00, 0x0C, 0x04, 0x05, 0x00, 0x35, 0x1C, 0xDC, 0xDF, 0x02, 0x00, 0x58, 0x36, 0x00, 0x00, 0x09, 0x00, 0x09, 0x00, 0x63,
        0x01, 0x00, 0x00] := by decide +kernel

/-- Management example (17_dictionary.md): a read of CURRENT_MODE in Frond is answered by service 81h, size 1, with 04h. -/
theorem test_modeOverKdap :
    Tests.after (exec (.expeditedRead .A (Tests.frame 0x1100 0)) Tests.up)
      (fun t => t.kdapTx.head?.map (fun f => (f.service, f.param, f.data)) == some (0x81, 1, [4])) = true := by decide +kernel

/-- Spindle example (07_spindle.md): speed is 10 / (POLE_PAIRS × interval); 4 pole pairs and 5 ms between crossings are 500 rpm. -/
theorem test_crossingSpeed : sixSpeed 4 ((List.range 6).map (fun i => (i, (5 - i) * 320000))) = 500000 := by decide +kernel

/-- Spindle rule R262: six crossings in one order tell the direction. -/
theorem test_crossingOrder :
    sixOrder [(5, 6), (4, 5), (3, 4), (2, 3), (1, 2), (0, 1)] = some true ∧
    sixOrder [(0, 6), (1, 5), (2, 4), (3, 3), (4, 2), (5, 1)] = some false := by decide +kernel

/-- Servo rule R197: the Gray codes of the first tracks. -/
theorem test_grayCodes : [0, 1, 3, 2, 6, 7, 5, 4].map (fun g => grayDecode (BitVec.ofNat 22 g)) = [0, 1, 2, 3, 4, 5, 6, 7] := by
  decide +kernel

/-- The CRC-32C of "123456789" is E3069283h, the check value published with that polynomial. -/
theorem test_crc32c : crc32c [0x31, 0x32, 0x33, 0x34, 0x35, 0x36, 0x37, 0x38, 0x39] = 0xE3069283 := by decide +kernel

/-- Servo example: wedge 510 at the end of a step, e = -31460 of 2^-16 track from row 731406, the RRO value 41 removed. -/
theorem test_wedgeDecode :
    ((Tests.up.wr (Obj.RRO_ENABLE 3 0) 0xFFFF).servoJudge 3 0
      { sam := true, wedge := 510, gray := 0x0EBD89, a1 := -1954, a2 := 225, a3 := 2028, a4 := -151, amp := 2000, rro := 0x029B }
      (-30804) 510).pc = some (731406 * 65536 - 31460) := by decide +kernel

/-- Servo example: the neighbouring Gray code gives the same place. -/
theorem test_wedgeDecodeNeighbour :
    ((Tests.up.wr (Obj.RRO_ENABLE 3 0) 0xFFFF).servoJudge 3 0
      { sam := true, wedge := 510, gray := 0x0EBD8B, a1 := -1954, a2 := 225, a3 := 2028, a4 := -151, amp := 2000, rro := 0x029B }
      (-30804) 510).pc = some (731406 * 65536 - 31460) := by decide +kernel

/-- DMA example (11_dma_compression.md): the element after row 0 goes to sector 1 of column 0, 30001000h. -/
theorem test_rowsToColumns :
    let d : List Byte := leBytes 8 0x20000000 ++ leBytes 8 0x30000000 ++ leBytes 4 0x1000 ++ leBytes 4 0x5000 ++ leBytes 4 0x1000 ++
      leBytes 4 0xFFFCA000 ++ leBytes 4 0 ++ leBytes 4 0 ++ leBytes 2 12 ++ leBytes 2 5 ++ leBytes 2 1 ++ [12, 0] ++ List.replicate 16 0
    let c : DmaSt := { desc := d }
    c.addr 8 20 = 0x30000000 ∧ ({ c with i0 := 11 } : DmaSt).addr 8 20 = 0x30037000 ∧ ({ c with i1 := 1 } : DmaSt).addr 8 20 = 0x30001000 ∧
    ({ c with i0 := 3, i1 := 1 } : DmaSt).addr 0 16 = 0x2000F000 := by decide +kernel

/-- Port example (02_hda_port.md): the ninth raw edge within 64 µs puts FLTn of port 9 into the chatter state, counted once. -/
theorem test_ninthEdgeChatters :
    Tests.after (exec (.rawEdge .A 9 .fltn false) { (Tests.up.modLine (sideKey .A 9) (fun l =>
        { l with flt := { l.flt with edges := [45, 42, 39, 36, 33, 30, 20, 0] } })) with now := 48 })
      (fun t => (t.getLine (sideKey .A 9)).flt.chatter && t.rd (Obj.CHATTER_COUNT .A 9) == 1) = true := by decide +kernel

/-- Port rule R67: with the first edge 64 µs back the window holds eight, and nothing chatters. -/
theorem test_eightEdgesDoNot :
    Tests.after (exec (.rawEdge .A 9 .fltn false) { (Tests.up.modLine (sideKey .A 9) (fun l =>
        { l with flt := { l.flt with edges := [45, 42, 39, 36, 33, 30, 20, 0] } })) with now := 64 })
      (fun t => (t.getLine (sideKey .A 9)).flt.chatter) = false := by decide +kernel

/-- Mode example (01_architecture.md): 07h written to 1101h.00 in Frond starts a Drain of purpose 02h with cause 01h. -/
theorem test_powerDownRequested :
    Tests.after (exec (.requestedModeWrite (.kdap 1) .A 7) (Tests.up.enterCmd { tag := Tests.io, kind := .store, held := true }))
      (fun t => t.mode.cur == .drain && t.mode.purpose.code == 2 && t.mode.cause.code == 1) = true := by decide +kernel

/-- SHA-256 of "abc", the example of FIPS 180-4. -/
theorem test_sha256 :
    (sha256 [0x61, 0x62, 0x63]).take 8 = [0xBA, 0x78, 0x16, 0xBF, 0x8F, 0x01, 0xCF, 0xEA] := by decide +kernel

/-- CRC-8 07h of "123456789" is F4h, the check value published with that polynomial. -/
theorem test_crc8 : crc8 [0x31, 0x32, 0x33, 0x34, 0x35, 0x36, 0x37, 0x38, 0x39] = 0xF4 := by decide +kernel

/-- CRC-64 of ECMA-182 with an all-ones start and inversion: the check value 62EC59E3F1A4F00Ah published for it (CRC-64/WE). -/
theorem test_crc64 : crc64 [0x31, 0x32, 0x33, 0x34, 0x35, 0x36, 0x37, 0x38, 0x39] = 0x62EC59E3F1A4F00A := by decide +kernel

/-! ## The hypotheses of the statements can be met -/

/-- States and operands that meet the hypotheses of SequencerRegisterOperations: ldi; ldis; ldim; ldih; mov; add. -/
theorem witness_SequencerRegisterOperations_1 :
    (∃ (s : State) (u : State) (q : SeqId) (w : MicroWord), (s.SeqReady q .ldi w u) ∧ (w.a.toNat < 32)) ∧
    (∃ (s : State) (u : State) (q : SeqId) (w : MicroWord), (s.SeqReady q .ldis w u) ∧ (w.a.toNat < 32)) ∧
    (∃ (s : State) (u : State) (q : SeqId) (w : MicroWord), (s.SeqReady q .ldim w u) ∧ (w.a.toNat < 32)) ∧
    (∃ (s : State) (u : State) (q : SeqId) (w : MicroWord), (s.SeqReady q .ldih w u) ∧ (w.a.toNat < 32)) ∧
    (∃ (s : State) (u : State) (q : SeqId) (w : MicroWord), (s.SeqReady q .mov w u) ∧ (w.a.toNat < 32)) ∧
    (∃ (s : State) (u : State) (q : SeqId) (w : MicroWord), (s.SeqReady q .add w u) ∧ (w.a.toNat < 32)) :=
  ⟨⟨Tests.word (Tests.seqState) ⟨.A, 0, 0, false⟩ .ldi ⟨1, 2, 3, 0, false⟩, (Tests.word (Tests.seqState) ⟨.A, 0, 0, false⟩ .ldi ⟨1, 2, 3, 0, false⟩).seqFetch ⟨.A, 0, 0, false⟩ false, ⟨.A, 0, 0, false⟩, ⟨1, 2, 3, 0, false⟩, ⟨by decide +kernel, by decide +kernel, by decide, rfl⟩, by decide +kernel⟩,
   ⟨Tests.word (Tests.seqState) ⟨.A, 0, 0, false⟩ .ldis ⟨1, 2, 3, 0, false⟩, (Tests.word (Tests.seqState) ⟨.A, 0, 0, false⟩ .ldis ⟨1, 2, 3, 0, false⟩).seqFetch ⟨.A, 0, 0, false⟩ false, ⟨.A, 0, 0, false⟩, ⟨1, 2, 3, 0, false⟩, ⟨by decide +kernel, by decide +kernel, by decide, rfl⟩, by decide +kernel⟩,
   ⟨Tests.word (Tests.seqState) ⟨.A, 0, 0, false⟩ .ldim ⟨1, 2, 3, 0, false⟩, (Tests.word (Tests.seqState) ⟨.A, 0, 0, false⟩ .ldim ⟨1, 2, 3, 0, false⟩).seqFetch ⟨.A, 0, 0, false⟩ false, ⟨.A, 0, 0, false⟩, ⟨1, 2, 3, 0, false⟩, ⟨by decide +kernel, by decide +kernel, by decide, rfl⟩, by decide +kernel⟩,
   ⟨Tests.word (Tests.seqState) ⟨.A, 0, 0, false⟩ .ldih ⟨1, 2, 3, 0, false⟩, (Tests.word (Tests.seqState) ⟨.A, 0, 0, false⟩ .ldih ⟨1, 2, 3, 0, false⟩).seqFetch ⟨.A, 0, 0, false⟩ false, ⟨.A, 0, 0, false⟩, ⟨1, 2, 3, 0, false⟩, ⟨by decide +kernel, by decide +kernel, by decide, rfl⟩, by decide +kernel⟩,
   ⟨Tests.word (Tests.seqState) ⟨.A, 0, 0, false⟩ .mov ⟨1, 2, 3, 0, false⟩, (Tests.word (Tests.seqState) ⟨.A, 0, 0, false⟩ .mov ⟨1, 2, 3, 0, false⟩).seqFetch ⟨.A, 0, 0, false⟩ false, ⟨.A, 0, 0, false⟩, ⟨1, 2, 3, 0, false⟩, ⟨by decide +kernel, by decide +kernel, by decide, rfl⟩, by decide +kernel⟩,
   ⟨Tests.word (Tests.seqState) ⟨.A, 0, 0, false⟩ .add ⟨1, 2, 3, 0, false⟩, (Tests.word (Tests.seqState) ⟨.A, 0, 0, false⟩ .add ⟨1, 2, 3, 0, false⟩).seqFetch ⟨.A, 0, 0, false⟩ false, ⟨.A, 0, 0, false⟩, ⟨1, 2, 3, 0, false⟩, ⟨by decide +kernel, by decide +kernel, by decide, rfl⟩, by decide +kernel⟩⟩

/-- States and operands that meet the hypotheses of SequencerRegisterOperations: addi; sub; and; andi; or; ori. -/
theorem witness_SequencerRegisterOperations_2 :
    (∃ (s : State) (u : State) (q : SeqId) (w : MicroWord), (s.SeqReady q .addi w u) ∧ (w.a.toNat < 32)) ∧
    (∃ (s : State) (u : State) (q : SeqId) (w : MicroWord), (s.SeqReady q .sub w u) ∧ (w.a.toNat < 32)) ∧
    (∃ (s : State) (u : State) (q : SeqId) (w : MicroWord), (s.SeqReady q .and w u) ∧ (w.a.toNat < 32)) ∧
    (∃ (s : State) (u : State) (q : SeqId) (w : MicroWord), (s.SeqReady q .andi w u) ∧ (w.a.toNat < 32)) ∧
    (∃ (s : State) (u : State) (q : SeqId) (w : MicroWord), (s.SeqReady q .or w u) ∧ (w.a.toNat < 32)) ∧
    (∃ (s : State) (u : State) (q : SeqId) (w : MicroWord), (s.SeqReady q .ori w u) ∧ (w.a.toNat < 32)) :=
  ⟨⟨Tests.word (Tests.seqState) ⟨.A, 0, 0, false⟩ .addi ⟨1, 2, 3, 0, false⟩, (Tests.word (Tests.seqState) ⟨.A, 0, 0, false⟩ .addi ⟨1, 2, 3, 0, false⟩).seqFetch ⟨.A, 0, 0, false⟩ false, ⟨.A, 0, 0, false⟩, ⟨1, 2, 3, 0, false⟩, ⟨by decide +kernel, by decide +kernel, by decide, rfl⟩, by decide +kernel⟩,
   ⟨Tests.word (Tests.seqState) ⟨.A, 0, 0, false⟩ .sub ⟨1, 2, 3, 0, false⟩, (Tests.word (Tests.seqState) ⟨.A, 0, 0, false⟩ .sub ⟨1, 2, 3, 0, false⟩).seqFetch ⟨.A, 0, 0, false⟩ false, ⟨.A, 0, 0, false⟩, ⟨1, 2, 3, 0, false⟩, ⟨by decide +kernel, by decide +kernel, by decide, rfl⟩, by decide +kernel⟩,
   ⟨Tests.word (Tests.seqState) ⟨.A, 0, 0, false⟩ .and ⟨1, 2, 3, 0, false⟩, (Tests.word (Tests.seqState) ⟨.A, 0, 0, false⟩ .and ⟨1, 2, 3, 0, false⟩).seqFetch ⟨.A, 0, 0, false⟩ false, ⟨.A, 0, 0, false⟩, ⟨1, 2, 3, 0, false⟩, ⟨by decide +kernel, by decide +kernel, by decide, rfl⟩, by decide +kernel⟩,
   ⟨Tests.word (Tests.seqState) ⟨.A, 0, 0, false⟩ .andi ⟨1, 2, 3, 0, false⟩, (Tests.word (Tests.seqState) ⟨.A, 0, 0, false⟩ .andi ⟨1, 2, 3, 0, false⟩).seqFetch ⟨.A, 0, 0, false⟩ false, ⟨.A, 0, 0, false⟩, ⟨1, 2, 3, 0, false⟩, ⟨by decide +kernel, by decide +kernel, by decide, rfl⟩, by decide +kernel⟩,
   ⟨Tests.word (Tests.seqState) ⟨.A, 0, 0, false⟩ .or ⟨1, 2, 3, 0, false⟩, (Tests.word (Tests.seqState) ⟨.A, 0, 0, false⟩ .or ⟨1, 2, 3, 0, false⟩).seqFetch ⟨.A, 0, 0, false⟩ false, ⟨.A, 0, 0, false⟩, ⟨1, 2, 3, 0, false⟩, ⟨by decide +kernel, by decide +kernel, by decide, rfl⟩, by decide +kernel⟩,
   ⟨Tests.word (Tests.seqState) ⟨.A, 0, 0, false⟩ .ori ⟨1, 2, 3, 0, false⟩, (Tests.word (Tests.seqState) ⟨.A, 0, 0, false⟩ .ori ⟨1, 2, 3, 0, false⟩).seqFetch ⟨.A, 0, 0, false⟩ false, ⟨.A, 0, 0, false⟩, ⟨1, 2, 3, 0, false⟩, ⟨by decide +kernel, by decide +kernel, by decide, rfl⟩, by decide +kernel⟩⟩

/-- States and operands that meet the hypotheses of SequencerRegisterOperations: xor; shli; shri; muli; ldp; ldh. -/
theorem witness_SequencerRegisterOperations_3 :
    (∃ (s : State) (u : State) (q : SeqId) (w : MicroWord), (s.SeqReady q .xor w u) ∧ (w.a.toNat < 32)) ∧
    (∃ (s : State) (u : State) (q : SeqId) (w : MicroWord), (s.SeqReady q .shli w u) ∧ (w.a.toNat < 32)) ∧
    (∃ (s : State) (u : State) (q : SeqId) (w : MicroWord), (s.SeqReady q .shri w u) ∧ (w.a.toNat < 32)) ∧
    (∃ (s : State) (u : State) (q : SeqId) (w : MicroWord), (s.SeqReady q .muli w u) ∧ (w.a.toNat < 32)) ∧
    (∃ (s : State) (u : State) (q : SeqId) (w : MicroWord), (s.SeqReady q .ldp w u) ∧ (w.a.toNat < 32)) ∧
    (∃ (s : State) (u : State) (q : SeqId) (w : MicroWord), (s.SeqReady q .ldh w u) ∧ (w.a.toNat < 32)) :=
  ⟨⟨Tests.word (Tests.seqState) ⟨.A, 0, 0, false⟩ .xor ⟨1, 2, 3, 0, false⟩, (Tests.word (Tests.seqState) ⟨.A, 0, 0, false⟩ .xor ⟨1, 2, 3, 0, false⟩).seqFetch ⟨.A, 0, 0, false⟩ false, ⟨.A, 0, 0, false⟩, ⟨1, 2, 3, 0, false⟩, ⟨by decide +kernel, by decide +kernel, by decide, rfl⟩, by decide +kernel⟩,
   ⟨Tests.word (Tests.seqState) ⟨.A, 0, 0, false⟩ .shli ⟨1, 2, 3, 0, false⟩, (Tests.word (Tests.seqState) ⟨.A, 0, 0, false⟩ .shli ⟨1, 2, 3, 0, false⟩).seqFetch ⟨.A, 0, 0, false⟩ false, ⟨.A, 0, 0, false⟩, ⟨1, 2, 3, 0, false⟩, ⟨by decide +kernel, by decide +kernel, by decide, rfl⟩, by decide +kernel⟩,
   ⟨Tests.word (Tests.seqState) ⟨.A, 0, 0, false⟩ .shri ⟨1, 2, 3, 0, false⟩, (Tests.word (Tests.seqState) ⟨.A, 0, 0, false⟩ .shri ⟨1, 2, 3, 0, false⟩).seqFetch ⟨.A, 0, 0, false⟩ false, ⟨.A, 0, 0, false⟩, ⟨1, 2, 3, 0, false⟩, ⟨by decide +kernel, by decide +kernel, by decide, rfl⟩, by decide +kernel⟩,
   ⟨Tests.word (Tests.seqState) ⟨.A, 0, 0, false⟩ .muli ⟨1, 2, 3, 0, false⟩, (Tests.word (Tests.seqState) ⟨.A, 0, 0, false⟩ .muli ⟨1, 2, 3, 0, false⟩).seqFetch ⟨.A, 0, 0, false⟩ false, ⟨.A, 0, 0, false⟩, ⟨1, 2, 3, 0, false⟩, ⟨by decide +kernel, by decide +kernel, by decide, rfl⟩, by decide +kernel⟩,
   ⟨Tests.word (Tests.seqState) ⟨.A, 0, 0, false⟩ .ldp ⟨1, 2, 3, 0, false⟩, (Tests.word (Tests.seqState) ⟨.A, 0, 0, false⟩ .ldp ⟨1, 2, 3, 0, false⟩).seqFetch ⟨.A, 0, 0, false⟩ false, ⟨.A, 0, 0, false⟩, ⟨1, 2, 3, 0, false⟩, ⟨by decide +kernel, by decide +kernel, by decide, rfl⟩, by decide +kernel⟩,
   ⟨Tests.word (Tests.seqState) ⟨.A, 0, 0, false⟩ .ldh ⟨1, 2, 3, 0, false⟩, (Tests.word (Tests.seqState) ⟨.A, 0, 0, false⟩ .ldh ⟨1, 2, 3, 0, false⟩).seqFetch ⟨.A, 0, 0, false⟩ false, ⟨.A, 0, 0, false⟩, ⟨1, 2, 3, 0, false⟩, ⟨by decide +kernel, by decide +kernel, by decide, rfl⟩, by decide +kernel⟩⟩

/-- States and operands that meet the hypotheses of SequencerBranchOperations: nop; fence; brz; brneg; breqi; brlt. -/
theorem witness_SequencerBranchOperations_1 :
    (∃ (s : State) (u : State) (q : SeqId) (w : MicroWord), (s.SeqReady q .nop w u)) ∧
    (∃ (s : State) (u : State) (q : SeqId) (w : MicroWord), (s.SeqReady q .fence w u)) ∧
    (∃ (s : State) (u : State) (q : SeqId) (w : MicroWord), (s.SeqReady q .brz w u)) ∧
    (∃ (s : State) (u : State) (q : SeqId) (w : MicroWord), (s.SeqReady q .brneg w u)) ∧
    (∃ (s : State) (u : State) (q : SeqId) (w : MicroWord), (s.SeqReady q .breqi w u)) ∧
    (∃ (s : State) (u : State) (q : SeqId) (w : MicroWord), (s.SeqReady q .brlt w u)) :=
  ⟨⟨Tests.word (Tests.seqState) ⟨.A, 0, 0, false⟩ .nop ⟨1, 2, 3, 0, false⟩, (Tests.word (Tests.seqState) ⟨.A, 0, 0, false⟩ .nop ⟨1, 2, 3, 0, false⟩).seqFetch ⟨.A, 0, 0, false⟩ false, ⟨.A, 0, 0, false⟩, ⟨1, 2, 3, 0, false⟩, ⟨by decide +kernel, by decide +kernel, by decide, rfl⟩⟩,
   ⟨Tests.word (Tests.seqState) ⟨.A, 0, 0, false⟩ .fence ⟨1, 2, 3, 0, false⟩, (Tests.word (Tests.seqState) ⟨.A, 0, 0, false⟩ .fence ⟨1, 2, 3, 0, false⟩).seqFetch ⟨.A, 0, 0, false⟩ false, ⟨.A, 0, 0, false⟩, ⟨1, 2, 3, 0, false⟩, ⟨by decide +kernel, by decide +kernel, by decide, rfl⟩⟩,
   ⟨Tests.word (Tests.seqState) ⟨.A, 0, 0, false⟩ .brz ⟨1, 2, 3, 0, false⟩, (Tests.word (Tests.seqState) ⟨.A, 0, 0, false⟩ .brz ⟨1, 2, 3, 0, false⟩).seqFetch ⟨.A, 0, 0, false⟩ false, ⟨.A, 0, 0, false⟩, ⟨1, 2, 3, 0, false⟩, ⟨by decide +kernel, by decide +kernel, by decide, rfl⟩⟩,
   ⟨Tests.word (Tests.seqState) ⟨.A, 0, 0, false⟩ .brneg ⟨1, 2, 3, 0, false⟩, (Tests.word (Tests.seqState) ⟨.A, 0, 0, false⟩ .brneg ⟨1, 2, 3, 0, false⟩).seqFetch ⟨.A, 0, 0, false⟩ false, ⟨.A, 0, 0, false⟩, ⟨1, 2, 3, 0, false⟩, ⟨by decide +kernel, by decide +kernel, by decide, rfl⟩⟩,
   ⟨Tests.word (Tests.seqState) ⟨.A, 0, 0, false⟩ .breqi ⟨1, 2, 3, 0, false⟩, (Tests.word (Tests.seqState) ⟨.A, 0, 0, false⟩ .breqi ⟨1, 2, 3, 0, false⟩).seqFetch ⟨.A, 0, 0, false⟩ false, ⟨.A, 0, 0, false⟩, ⟨1, 2, 3, 0, false⟩, ⟨by decide +kernel, by decide +kernel, by decide, rfl⟩⟩,
   ⟨Tests.word (Tests.seqState) ⟨.A, 0, 0, false⟩ .brlt ⟨1, 2, 3, 0, false⟩, (Tests.word (Tests.seqState) ⟨.A, 0, 0, false⟩ .brlt ⟨1, 2, 3, 0, false⟩).seqFetch ⟨.A, 0, 0, false⟩ false, ⟨.A, 0, 0, false⟩, ⟨1, 2, 3, 0, false⟩, ⟨by decide +kernel, by decide +kernel, by decide, rfl⟩⟩⟩

/-- States and operands that meet the hypotheses of SequencerBranchOperations: brbit; brflag; djnz; call; ret; switch. -/
theorem witness_SequencerBranchOperations_2 :
    (∃ (s : State) (u : State) (q : SeqId) (w : MicroWord), (s.SeqReady q .brbit w u)) ∧
    (∃ (s : State) (u : State) (q : SeqId) (w : MicroWord), (s.SeqReady q .brflag w u)) ∧
    (∃ (s : State) (u : State) (q : SeqId) (w : MicroWord), (s.SeqReady q .djnz w u) ∧ (w.a.toNat < 32)) ∧
    (∃ (s : State) (u : State) (q : SeqId) (w : MicroWord), (s.SeqReady q .call w u) ∧ ((u.getSeq q.key).stack.length < 8)) ∧
    (∃ (s : State) (u : State) (q : SeqId) (w : MicroWord) (r : BitVec 12) (l : List (BitVec 12)), (s.SeqReady q .ret w u) ∧ ((u.getSeq q.key).stack = r :: l)) ∧
    (∃ (s : State) (u : State) (q : SeqId) (w : MicroWord), (s.SeqReady q .switch w u)) :=
  ⟨⟨Tests.word (Tests.seqState) ⟨.A, 0, 0, false⟩ .brbit ⟨1, 2, 3, 0, false⟩, (Tests.word (Tests.seqState) ⟨.A, 0, 0, false⟩ .brbit ⟨1, 2, 3, 0, false⟩).seqFetch ⟨.A, 0, 0, false⟩ false, ⟨.A, 0, 0, false⟩, ⟨1, 2, 3, 0, false⟩, ⟨by decide +kernel, by decide +kernel, by decide, rfl⟩⟩,
   ⟨Tests.word (Tests.seqState) ⟨.A, 0, 0, false⟩ .brflag ⟨1, 2, 3, 0, false⟩, (Tests.word (Tests.seqState) ⟨.A, 0, 0, false⟩ .brflag ⟨1, 2, 3, 0, false⟩).seqFetch ⟨.A, 0, 0, false⟩ false, ⟨.A, 0, 0, false⟩, ⟨1, 2, 3, 0, false⟩, ⟨by decide +kernel, by decide +kernel, by decide, rfl⟩⟩,
   ⟨Tests.word (Tests.seqState) ⟨.A, 0, 0, false⟩ .djnz ⟨1, 2, 3, 0, false⟩, (Tests.word (Tests.seqState) ⟨.A, 0, 0, false⟩ .djnz ⟨1, 2, 3, 0, false⟩).seqFetch ⟨.A, 0, 0, false⟩ false, ⟨.A, 0, 0, false⟩, ⟨1, 2, 3, 0, false⟩, ⟨by decide +kernel, by decide +kernel, by decide, rfl⟩, by decide +kernel⟩,
   ⟨Tests.word (Tests.seqState) ⟨.A, 0, 0, false⟩ .call ⟨1, 2, 3, 0, false⟩, (Tests.word (Tests.seqState) ⟨.A, 0, 0, false⟩ .call ⟨1, 2, 3, 0, false⟩).seqFetch ⟨.A, 0, 0, false⟩ false, ⟨.A, 0, 0, false⟩, ⟨1, 2, 3, 0, false⟩, ⟨by decide +kernel, by decide +kernel, by decide, rfl⟩, by decide +kernel⟩,
   ⟨Tests.word (Tests.seqStacked) ⟨.A, 0, 0, false⟩ .ret ⟨1, 2, 3, 0, false⟩, (Tests.word (Tests.seqStacked) ⟨.A, 0, 0, false⟩ .ret ⟨1, 2, 3, 0, false⟩).seqFetch ⟨.A, 0, 0, false⟩ false, ⟨.A, 0, 0, false⟩, ⟨1, 2, 3, 0, false⟩, 5, [], ⟨by decide +kernel, by decide +kernel, by decide, rfl⟩, by decide +kernel⟩,
   ⟨Tests.word (Tests.seqState) ⟨.A, 0, 0, false⟩ .switch ⟨1, 2, 3, 0, false⟩, (Tests.word (Tests.seqState) ⟨.A, 0, 0, false⟩ .switch ⟨1, 2, 3, 0, false⟩).seqFetch ⟨.A, 0, 0, false⟩ false, ⟨.A, 0, 0, false⟩, ⟨1, 2, 3, 0, false⟩, ⟨by decide +kernel, by decide +kernel, by decide, rfl⟩⟩⟩

/-- States and operands that meet the hypotheses of SequencerBranchOperations: waitidx; waitidxWaits; trap; endsweep; abort.
-/
theorem witness_SequencerBranchOperations_3 :
    (∃ (s : State) (u : State) (q : SeqId) (w : MicroWord), (s.SeqReady q .waitidx w u) ∧ (((u.getChan q.chan).sidx - u.seqA q w).getLsbD 31 = false)) ∧
    (∃ (s : State) (u : State) (q : SeqId) (w : MicroWord), (s.SeqReady q .waitidx w u) ∧ (((u.getChan q.chan).sidx - u.seqA q w).getLsbD 31 = true)) ∧
    (∃ (s : State) (u : State) (q : SeqId) (w : MicroWord), (s.SeqReady q .trap w u)) ∧
    (∃ (s : State) (u : State) (q : SeqId) (w : MicroWord), (s.SeqReady q .endsweep w u)) ∧
    (∃ (s : State) (u : State) (q : SeqId) (w : MicroWord), (s.SeqReady q .abort w u)) :=
  ⟨⟨Tests.word (Tests.seqState) ⟨.A, 0, 0, false⟩ .waitidx ⟨1, 2, 3, 0, false⟩, (Tests.word (Tests.seqState) ⟨.A, 0, 0, false⟩ .waitidx ⟨1, 2, 3, 0, false⟩).seqFetch ⟨.A, 0, 0, false⟩ false, ⟨.A, 0, 0, false⟩, ⟨1, 2, 3, 0, false⟩, ⟨by decide +kernel, by decide +kernel, by decide, rfl⟩, by decide +kernel⟩,
   ⟨Tests.word (Tests.seqFar) ⟨.A, 0, 0, false⟩ .waitidx ⟨1, 2, 3, 0, false⟩, (Tests.word (Tests.seqFar) ⟨.A, 0, 0, false⟩ .waitidx ⟨1, 2, 3, 0, false⟩).seqFetch ⟨.A, 0, 0, false⟩ false, ⟨.A, 0, 0, false⟩, ⟨1, 2, 3, 0, false⟩, ⟨by decide +kernel, by decide +kernel, by decide, rfl⟩, by decide +kernel⟩,
   ⟨Tests.word (Tests.seqState) ⟨.A, 0, 0, false⟩ .trap ⟨1, 2, 3, 0, false⟩, (Tests.word (Tests.seqState) ⟨.A, 0, 0, false⟩ .trap ⟨1, 2, 3, 0, false⟩).seqFetch ⟨.A, 0, 0, false⟩ false, ⟨.A, 0, 0, false⟩, ⟨1, 2, 3, 0, false⟩, ⟨by decide +kernel, by decide +kernel, by decide, rfl⟩⟩,
   ⟨Tests.word (Tests.seqState) ⟨.A, 0, 0, false⟩ .endsweep ⟨1, 2, 3, 0, false⟩, (Tests.word (Tests.seqState) ⟨.A, 0, 0, false⟩ .endsweep ⟨1, 2, 3, 0, false⟩).seqFetch ⟨.A, 0, 0, false⟩ false, ⟨.A, 0, 0, false⟩, ⟨1, 2, 3, 0, false⟩, ⟨by decide +kernel, by decide +kernel, by decide, rfl⟩⟩,
   ⟨Tests.word (Tests.seqState) ⟨.A, 0, 0, false⟩ .abort ⟨1, 2, 3, 0, false⟩, (Tests.word (Tests.seqState) ⟨.A, 0, 0, false⟩ .abort ⟨1, 2, 3, 0, false⟩).seqFetch ⟨.A, 0, 0, false⟩ false, ⟨.A, 0, 0, false⟩, ⟨1, 2, 3, 0, false⟩, ⟨by decide +kernel, by decide +kernel, by decide, rfl⟩⟩⟩

/-- States and operands that meet the hypotheses of SequencerTransferOperations: nextitem; nextitemMedia; msend; mrecv; ldm;
stm. -/
theorem witness_SequencerTransferOperations_1 :
    (∃ (s : State) (u : State) (q : SeqId) (w : MicroWord), (s.SeqReady q .nextitem w u) ∧ (q.xfer = true)) ∧
    (∃ (s : State) (u : State) (q : SeqId) (w : MicroWord), (s.SeqReady q .nextitem w u) ∧ (q.xfer = false)) ∧
    (∃ (s : State) (u : State) (q : SeqId) (w : MicroWord), (s.SeqReady q .msend w u) ∧ ((u.getSeq q.partner.key).mbox.length < 16)) ∧
    (∃ (s : State) (u : State) (q : SeqId) (w : MicroWord) (x : Word) (l : List Word), (s.SeqReady q .mrecv w u) ∧ (w.a.toNat < 32) ∧ ((u.getSeq q.key).mbox = x :: l)) ∧
    (∃ (s : State) (u : State) (r : State) (q : SeqId) (w : MicroWord) (b : List Byte), (s.SeqReady q .ldm w u) ∧ (q.xfer = true) ∧ (w.a.toNat < 32) ∧ ((u.seqB q w).toNat % 4 = 0) ∧ (u.engRead q.unit (u.seqB q w).toNat 4 = (r, some b))) ∧
    (∃ (s : State) (u : State) (q : SeqId) (w : MicroWord), (s.SeqReady q .stm w u) ∧ (q.xfer = true)) :=
  ⟨⟨Tests.word (Tests.seqState) ⟨.A, 0, 0, true⟩ .nextitem ⟨1, 2, 3, 0, false⟩, (Tests.word (Tests.seqState) ⟨.A, 0, 0, true⟩ .nextitem ⟨1, 2, 3, 0, false⟩).seqFetch ⟨.A, 0, 0, true⟩ false, ⟨.A, 0, 0, true⟩, ⟨1, 2, 3, 0, false⟩, ⟨by decide +kernel, by decide +kernel, by decide, rfl⟩, by decide +kernel⟩,
   ⟨Tests.word (Tests.seqState) ⟨.A, 0, 0, false⟩ .nextitem ⟨1, 2, 3, 0, false⟩, (Tests.word (Tests.seqState) ⟨.A, 0, 0, false⟩ .nextitem ⟨1, 2, 3, 0, false⟩).seqFetch ⟨.A, 0, 0, false⟩ false, ⟨.A, 0, 0, false⟩, ⟨1, 2, 3, 0, false⟩, ⟨by decide +kernel, by decide +kernel, by decide, rfl⟩, by decide +kernel⟩,
   ⟨Tests.word (Tests.seqState) ⟨.A, 0, 0, false⟩ .msend ⟨1, 2, 3, 0, false⟩, (Tests.word (Tests.seqState) ⟨.A, 0, 0, false⟩ .msend ⟨1, 2, 3, 0, false⟩).seqFetch ⟨.A, 0, 0, false⟩ false, ⟨.A, 0, 0, false⟩, ⟨1, 2, 3, 0, false⟩, ⟨by decide +kernel, by decide +kernel, by decide, rfl⟩, by decide +kernel⟩,
   ⟨Tests.word (Tests.seqMail) ⟨.A, 0, 0, false⟩ .mrecv ⟨1, 2, 3, 0, false⟩, (Tests.word (Tests.seqMail) ⟨.A, 0, 0, false⟩ .mrecv ⟨1, 2, 3, 0, false⟩).seqFetch ⟨.A, 0, 0, false⟩ false, ⟨.A, 0, 0, false⟩, ⟨1, 2, 3, 0, false⟩, 7, [], ⟨by decide +kernel, by decide +kernel, by decide, rfl⟩, by decide +kernel, by decide +kernel⟩,
   ⟨Tests.word (Tests.seqState) ⟨.A, 0, 0, true⟩ .ldm ⟨1, 2, 3, 0, false⟩, (Tests.word (Tests.seqState) ⟨.A, 0, 0, true⟩ .ldm ⟨1, 2, 3, 0, false⟩).seqFetch ⟨.A, 0, 0, true⟩ false, (((Tests.word Tests.seqState ⟨.A, 0, 0, true⟩ .ldm ⟨1, 2, 3, 0, false⟩).seqFetch ⟨.A, 0, 0, true⟩ false).engRead .A 0 4).1, ⟨.A, 0, 0, true⟩, ⟨1, 2, 3, 0, false⟩, [0, 0, 0, 0], ⟨by decide +kernel, by decide +kernel, by decide, rfl⟩, by decide +kernel, by decide +kernel, by decide +kernel, by decide +kernel⟩,
   ⟨Tests.word (Tests.seqState) ⟨.A, 0, 0, true⟩ .stm ⟨1, 2, 3, 0, false⟩, (Tests.word (Tests.seqState) ⟨.A, 0, 0, true⟩ .stm ⟨1, 2, 3, 0, false⟩).seqFetch ⟨.A, 0, 0, true⟩ false, ⟨.A, 0, 0, true⟩, ⟨1, 2, 3, 0, false⟩, ⟨by decide +kernel, by decide +kernel, by decide, rfl⟩, by decide +kernel⟩⟩

/-- States and operands that meet the hypotheses of SequencerTransferOperations: post; ticket; wfeed; evsend; evclr. -/
theorem witness_SequencerTransferOperations_2 :
    (∃ (s : State) (u : State) (q : SeqId) (w : MicroWord), (s.SeqReady q .post w u) ∧ (q.xfer = true) ∧ (w.a.toNat ≤ 28) ∧ ((u.getPlan q.chan).ringFull = false)) ∧
    (∃ (s : State) (u : State) (q : SeqId) (w : MicroWord), (s.SeqReady q .ticket w u) ∧ (q.xfer = true) ∧ ((u.getChan q.chan).tickets.length < 8)) ∧
    (∃ (s : State) (u : State) (q : SeqId) (w : MicroWord), (s.SeqReady q .wfeed w u) ∧ (q.xfer = true) ∧ (w.b.toNat % 64 ≤ 27) ∧ ((u.getChan q.chan).feeds.length < 2)) ∧
    (∃ (s : State) (u : State) (q : SeqId) (w : MicroWord), (s.SeqReady q .evsend w u) ∧ (q.xfer = true)) ∧
    (∃ (s : State) (u : State) (q : SeqId) (w : MicroWord), (s.SeqReady q .evclr w u) ∧ (q.xfer = true)) :=
  ⟨⟨Tests.word (Tests.seqState) ⟨.A, 0, 0, true⟩ .post ⟨1, 2, 3, 0, false⟩, (Tests.word (Tests.seqState) ⟨.A, 0, 0, true⟩ .post ⟨1, 2, 3, 0, false⟩).seqFetch ⟨.A, 0, 0, true⟩ false, ⟨.A, 0, 0, true⟩, ⟨1, 2, 3, 0, false⟩, ⟨by decide +kernel, by decide +kernel, by decide, rfl⟩, by decide +kernel, by decide +kernel, by decide +kernel⟩,
   ⟨Tests.word (Tests.seqState) ⟨.A, 0, 0, true⟩ .ticket ⟨1, 2, 3, 0, false⟩, (Tests.word (Tests.seqState) ⟨.A, 0, 0, true⟩ .ticket ⟨1, 2, 3, 0, false⟩).seqFetch ⟨.A, 0, 0, true⟩ false, ⟨.A, 0, 0, true⟩, ⟨1, 2, 3, 0, false⟩, ⟨by decide +kernel, by decide +kernel, by decide, rfl⟩, by decide +kernel, by decide +kernel⟩,
   ⟨Tests.word (Tests.seqState) ⟨.A, 0, 0, true⟩ .wfeed ⟨1, 2, 3, 0, false⟩, (Tests.word (Tests.seqState) ⟨.A, 0, 0, true⟩ .wfeed ⟨1, 2, 3, 0, false⟩).seqFetch ⟨.A, 0, 0, true⟩ false, ⟨.A, 0, 0, true⟩, ⟨1, 2, 3, 0, false⟩, ⟨by decide +kernel, by decide +kernel, by decide, rfl⟩, by decide +kernel, by decide +kernel, by decide +kernel⟩,
   ⟨Tests.word (Tests.seqState) ⟨.A, 0, 0, true⟩ .evsend ⟨1, 2, 3, 0, false⟩, (Tests.word (Tests.seqState) ⟨.A, 0, 0, true⟩ .evsend ⟨1, 2, 3, 0, false⟩).seqFetch ⟨.A, 0, 0, true⟩ false, ⟨.A, 0, 0, true⟩, ⟨1, 2, 3, 0, false⟩, ⟨by decide +kernel, by decide +kernel, by decide, rfl⟩, by decide +kernel⟩,
   ⟨Tests.word (Tests.seqState) ⟨.A, 0, 0, true⟩ .evclr ⟨1, 2, 3, 0, false⟩, (Tests.word (Tests.seqState) ⟨.A, 0, 0, true⟩ .evclr ⟨1, 2, 3, 0, false⟩).seqFetch ⟨.A, 0, 0, true⟩ false, ⟨.A, 0, 0, true⟩, ⟨1, 2, 3, 0, false⟩, ⟨by decide +kernel, by decide +kernel, by decide, rfl⟩, by decide +kernel⟩⟩

/-- States and operands that meet the hypotheses of SequencerMediaOperations: pred; pset; swap; wrset; srd; swr. -/
theorem witness_SequencerMediaOperations_1 :
    (∃ (s : State) (u : State) (q : SeqId) (w : MicroWord) (f : Frag), (s.SeqReady q .pred w u) ∧ (q.xfer = false) ∧ (((zoneOf ((u.getChan q.chan).zone ((u.getChan q.chan).armSet.getD 0))).position (u.rd (Obj.CT_CYCLES_PER_REV q.port))
      (u.seqA q w).toNat)[(u.seqB q w).toNat]? = some f)) ∧
    (∃ (s : State) (u : State) (q : SeqId) (w : MicroWord) (r : Nat), (s.SeqReady q .pset w u) ∧ (q.xfer = false) ∧ ((u.seqA q w).toNat < 512) ∧ (r = 256 * fldU ((u.getChan q.chan).set (u.seqA q w).toNat) 196 2 + fldU ((u.getChan q.chan).set (u.seqA q w).toNat) 198 1)) ∧
    (∃ (s : State) (u : State) (q : SeqId) (w : MicroWord), (s.SeqReady q .swap w u) ∧ (q.xfer = false)) ∧
    (∃ (s : State) (u : State) (q : SeqId) (w : MicroWord), (s.SeqReady q .wrset w u) ∧ (q.xfer = false) ∧ ((u.seqA q w).toNat < 512) ∧ ((u.getChan q.chan).gate = false)) ∧
    (∃ (s : State) (u : State) (q : SeqId) (w : MicroWord), (s.SeqReady q .srd w u) ∧ (q.xfer = false) ∧ (w.b.toNat % 4 ≠ 3) ∧ ((u.getChan q.chan).readPend = none) ∧ (armLateAt (u.getChan q.chan).sidx (u.seqA q w) = false)) ∧
    (∃ (s : State) (u : State) (q : SeqId) (w : MicroWord), (s.SeqReady q .swr w u) ∧ (q.xfer = false) ∧ ((u.getChan q.chan).writePend = none) ∧ (armLateAt (u.getChan q.chan).sidx (u.seqA q w) = false)) :=
  ⟨⟨Tests.word (Tests.seqZoned) ⟨.A, 0, 0, false⟩ .pred ⟨0, 0, 3, 0, false⟩, (Tests.word (Tests.seqZoned) ⟨.A, 0, 0, false⟩ .pred ⟨0, 0, 3, 0, false⟩).seqFetch ⟨.A, 0, 0, false⟩ false, ⟨.A, 0, 0, false⟩, ⟨0, 0, 3, 0, false⟩, ⟨4352, 160, 36800, 41328⟩, ⟨by decide +kernel, by decide +kernel, by decide, rfl⟩, by decide +kernel, by decide +kernel⟩,
   ⟨Tests.word (Tests.seqState) ⟨.A, 0, 0, false⟩ .pset ⟨1, 2, 3, 0, false⟩, (Tests.word (Tests.seqState) ⟨.A, 0, 0, false⟩ .pset ⟨1, 2, 3, 0, false⟩).seqFetch ⟨.A, 0, 0, false⟩ false, ⟨.A, 0, 0, false⟩, ⟨1, 2, 3, 0, false⟩, (256 * fldU defaultSetBody 196 2 + fldU defaultSetBody 198 1 : Nat), ⟨by decide +kernel, by decide +kernel, by decide, rfl⟩, by decide +kernel, by decide +kernel, by decide +kernel⟩,
   ⟨Tests.word (Tests.seqState) ⟨.A, 0, 0, false⟩ .swap ⟨1, 2, 3, 0, false⟩, (Tests.word (Tests.seqState) ⟨.A, 0, 0, false⟩ .swap ⟨1, 2, 3, 0, false⟩).seqFetch ⟨.A, 0, 0, false⟩ false, ⟨.A, 0, 0, false⟩, ⟨1, 2, 3, 0, false⟩, ⟨by decide +kernel, by decide +kernel, by decide, rfl⟩, by decide +kernel⟩,
   ⟨Tests.word (Tests.seqState) ⟨.A, 0, 0, false⟩ .wrset ⟨1, 2, 3, 0, false⟩, (Tests.word (Tests.seqState) ⟨.A, 0, 0, false⟩ .wrset ⟨1, 2, 3, 0, false⟩).seqFetch ⟨.A, 0, 0, false⟩ false, ⟨.A, 0, 0, false⟩, ⟨1, 2, 3, 0, false⟩, ⟨by decide +kernel, by decide +kernel, by decide, rfl⟩, by decide +kernel, by decide +kernel, by decide +kernel⟩,
   ⟨Tests.word (Tests.seqFar) ⟨.A, 0, 0, false⟩ .srd ⟨1, 0, 3, 0, false⟩, (Tests.word (Tests.seqFar) ⟨.A, 0, 0, false⟩ .srd ⟨1, 0, 3, 0, false⟩).seqFetch ⟨.A, 0, 0, false⟩ false, ⟨.A, 0, 0, false⟩, ⟨1, 0, 3, 0, false⟩, ⟨by decide +kernel, by decide +kernel, by decide, rfl⟩, by decide +kernel, by decide +kernel, by decide +kernel, by decide +kernel⟩,
   ⟨Tests.word (Tests.seqFar) ⟨.A, 0, 0, false⟩ .swr ⟨1, 2, 3, 0, false⟩, (Tests.word (Tests.seqFar) ⟨.A, 0, 0, false⟩ .swr ⟨1, 2, 3, 0, false⟩).seqFetch ⟨.A, 0, 0, false⟩ false, ⟨.A, 0, 0, false⟩, ⟨1, 2, 3, 0, false⟩, ⟨by decide +kernel, by decide +kernel, by decide, rfl⟩, by decide +kernel, by decide +kernel, by decide +kernel⟩⟩

/-- States and operands that meet the hypotheses of SequencerMediaOperations: cfrag; cfragWrite; gateoff; seekreq; replay;
armclr. -/
theorem witness_SequencerMediaOperations_2 :
    (∃ (s : State) (u : State) (q : SeqId) (w : MicroWord), (s.SeqReady q .cfrag w u) ∧ (q.xfer = false) ∧ ((u.getSeq q.key).armWrite = false) ∧ (0 < (u.seqB q w).toNat) ∧ ((u.seqB q w).toNat < 3) ∧ ((u.getChan q.chan).readPend = none) ∧ (armLateAt (u.getChan q.chan).sidx (u.seqA q w) = false)) ∧
    (∃ (s : State) (u : State) (q : SeqId) (w : MicroWord), (s.SeqReady q .cfrag w u) ∧ (q.xfer = false) ∧ ((u.getSeq q.key).armWrite = true) ∧ (0 < (u.seqB q w).toNat) ∧ ((u.seqB q w).toNat < 3) ∧ ((u.getChan q.chan).writePend = none) ∧ (armLateAt (u.getChan q.chan).sidx (u.seqA q w) = false)) ∧
    (∃ (s : State) (u : State) (q : SeqId) (w : MicroWord), (s.SeqReady q .gateoff w u) ∧ (q.xfer = false)) ∧
    (∃ (s : State) (u : State) (q : SeqId) (w : MicroWord), (s.SeqReady q .seekreq w u) ∧ (q.xfer = false) ∧ (u.seekOk q.port q.act (u.seqA q w).toNat (w.b.toNat % 16) = true)) ∧
    (∃ (s : State) (u : State) (q : SeqId) (w : MicroWord) (x : Sector), (s.SeqReady q .replay w u) ∧ (q.xfer = false) ∧ (w.b.toNat % 8 ≠ 0) ∧ (w.b.toNat % 8 ≠ 7) ∧ ((u.getChan q.chan).hold = .held) ∧ ((u.getChan q.chan).holdSector = some x) ∧ ((u.getChan q.chan).rx = none) ∧ ((u.getChan q.chan).ladder = none) ∧ (u.mode.cur ≠ .bringUp)) ∧
    (∃ (s : State) (u : State) (q : SeqId) (w : MicroWord), (s.SeqReady q .armclr w u) ∧ (q.xfer = false)) :=
  ⟨⟨Tests.word (Tests.seqFar) ⟨.A, 0, 0, false⟩ .cfrag ⟨1, 2, 3, 0, false⟩, (Tests.word (Tests.seqFar) ⟨.A, 0, 0, false⟩ .cfrag ⟨1, 2, 3, 0, false⟩).seqFetch ⟨.A, 0, 0, false⟩ false, ⟨.A, 0, 0, false⟩, ⟨1, 2, 3, 0, false⟩, ⟨by decide +kernel, by decide +kernel, by decide, rfl⟩, by decide +kernel, by decide +kernel, by decide +kernel, by decide +kernel, by decide +kernel, by decide +kernel⟩,
   ⟨Tests.word (Tests.seqFar.modSeq 0 (fun e => { e with armWrite := true })) ⟨.A, 0, 0, false⟩ .cfrag ⟨1, 2, 3, 0, false⟩, (Tests.word (Tests.seqFar.modSeq 0 (fun e => { e with armWrite := true })) ⟨.A, 0, 0, false⟩ .cfrag ⟨1, 2, 3, 0, false⟩).seqFetch ⟨.A, 0, 0, false⟩ false, ⟨.A, 0, 0, false⟩, ⟨1, 2, 3, 0, false⟩, ⟨by decide +kernel, by decide +kernel, by decide, rfl⟩, by decide +kernel, by decide +kernel, by decide +kernel, by decide +kernel, by decide +kernel, by decide +kernel⟩,
   ⟨Tests.word (Tests.seqState) ⟨.A, 0, 0, false⟩ .gateoff ⟨1, 2, 3, 0, false⟩, (Tests.word (Tests.seqState) ⟨.A, 0, 0, false⟩ .gateoff ⟨1, 2, 3, 0, false⟩).seqFetch ⟨.A, 0, 0, false⟩ false, ⟨.A, 0, 0, false⟩, ⟨1, 2, 3, 0, false⟩, ⟨by decide +kernel, by decide +kernel, by decide, rfl⟩, by decide +kernel⟩,
   ⟨Tests.word (Tests.seqZoned) ⟨.A, 0, 0, false⟩ .seekreq ⟨0, 0, 3, 0, false⟩, (Tests.word (Tests.seqZoned) ⟨.A, 0, 0, false⟩ .seekreq ⟨0, 0, 3, 0, false⟩).seqFetch ⟨.A, 0, 0, false⟩ false, ⟨.A, 0, 0, false⟩, ⟨0, 0, 3, 0, false⟩, ⟨by decide +kernel, by decide +kernel, by decide, rfl⟩, by decide +kernel, by decide +kernel⟩,
   ⟨Tests.word (Tests.seqHeld) ⟨.A, 0, 0, false⟩ .replay ⟨1, 2, 3, 0, false⟩, (Tests.word (Tests.seqHeld) ⟨.A, 0, 0, false⟩ .replay ⟨1, 2, 3, 0, false⟩).seqFetch ⟨.A, 0, 0, false⟩ false, ⟨.A, 0, 0, false⟩, ⟨1, 2, 3, 0, false⟩, Tests.sector, ⟨by decide +kernel, by decide +kernel, by decide, rfl⟩, by decide +kernel, by decide +kernel, by decide +kernel, by decide +kernel, by decide +kernel, by decide +kernel, by decide +kernel, by decide +kernel⟩,
   ⟨Tests.word (Tests.seqState) ⟨.A, 0, 0, false⟩ .armclr ⟨1, 2, 3, 0, false⟩, (Tests.word (Tests.seqState) ⟨.A, 0, 0, false⟩ .armclr ⟨1, 2, 3, 0, false⟩).seqFetch ⟨.A, 0, 0, false⟩ false, ⟨.A, 0, 0, false⟩, ⟨1, 2, 3, 0, false⟩, ⟨by decide +kernel, by decide +kernel, by decide, rfl⟩, by decide +kernel⟩⟩

/-- States and operands that meet the hypotheses of SequencerMediaOperations: ctsnap. -/
theorem witness_SequencerMediaOperations_3 :
    ∃ (s : State) (u : State) (q : SeqId) (w : MicroWord), (s.SeqReady q .ctsnap w u) ∧ (q.xfer = false) ∧ (w.a.toNat < 32) :=
  ⟨Tests.word (Tests.seqState) ⟨.A, 0, 0, false⟩ .ctsnap ⟨1, 2, 3, 0, false⟩, (Tests.word (Tests.seqState) ⟨.A, 0, 0, false⟩ .ctsnap ⟨1, 2, 3, 0, false⟩).seqFetch ⟨.A, 0, 0, false⟩ false, ⟨.A, 0, 0, false⟩, ⟨1, 2, 3, 0, false⟩, ⟨by decide +kernel, by decide +kernel, by decide, rfl⟩, by decide +kernel, by decide +kernel⟩

/-- States and operands that meet the hypotheses of SequencerWaitsAndStops: illegalOp; seqOpUnblocked; seqIndexReached;
delayExpiry; waitConditionMet; seqWatchdog. -/
theorem witness_SequencerWaitsAndStops_1 :
    (∃ (s : State) (u : State) (q : SeqId) (b : Bool), ((s.getSeq q.key).goes = true) ∧ (wordOp (s.nextWord q) = none) ∧ (u = s.seqFetch q b)) ∧
    (∃ (s : State) (q : SeqId) (o : SeqOp) (w : MicroWord), ((s.getSeq q.key).wait = .op o w) ∧ ((s.getSeq q.key).state = .waiting)) ∧
    (∃ (s : State) (q : SeqId) (o : SeqOp) (w : MicroWord), ((s.getSeq q.key).wait = .index o w) ∧ ((s.getSeq q.key).state = .waiting)) ∧
    (∃ (s : State) (q : SeqId) (n : Nat), ((s.getSeq q.key).wait = .delay n)) ∧
    (∃ (s : State) (q : SeqId) (n : Nat), ((s.getSeq q.key).wait = .cond n) ∧ (n = 0xC ∨ s.condHolds q n = true)) ∧
    (∃ (s : State) (q : SeqId) (o : SeqOp) (w : MicroWord), ((s.getSeq q.key).wait = .op o w) ∧ ((s.getSeq q.key).waitAt + s.rd Obj.SEQ_WATCHDOG < s.now)) :=
  ⟨⟨Tests.reservedWord, Tests.reservedWord.seqFetch ⟨.A, 0, 0, false⟩ true, ⟨.A, 0, 0, false⟩, true, by decide +kernel, by decide +kernel, rfl⟩,
   ⟨Tests.seqBlocked, ⟨.A, 0, 0, false⟩, .mrecv, ⟨1, 2, 3, 0, false⟩, by decide +kernel, by decide +kernel⟩,
   ⟨Tests.seqState.modSeq 0 (fun e => { e with state := .waiting, wait := .index .waitidx ⟨1, 2, 3, 0, false⟩ }), ⟨.A, 0, 0, false⟩, .waitidx, ⟨1, 2, 3, 0, false⟩, by decide +kernel, by decide +kernel⟩,
   ⟨Tests.seqDelayed, ⟨.A, 0, 0, false⟩, 4, by decide +kernel⟩,
   ⟨Tests.seqTick, ⟨.A, 0, 0, true⟩, 0xC, by decide +kernel, by decide +kernel⟩,
   ⟨{ Tests.seqBlocked with now := 10000000 }, ⟨.A, 0, 0, false⟩, .mrecv, ⟨1, 2, 3, 0, false⟩, by decide +kernel, by decide +kernel⟩⟩

/-- States and operands that meet the hypotheses of SequencerWaitsAndStops: seqWatchdogCondition; controlStoreReload. -/
theorem witness_SequencerWaitsAndStops_2 :
    (∃ (s : State) (q : SeqId) (n : Nat), ((s.getSeq q.key).wait = .cond n) ∧ (n ≠ 0xC) ∧ ((s.getSeq q.key).waitAt + s.rd Obj.SEQ_WATCHDOG < s.now)) ∧
    (∃ (s : State) (q : SeqId), ((s.getSeq q.key).goes = true)) :=
  ⟨⟨{ Tests.seqTick.modSeq 1 (fun e => { e with wait := .cond 1 }) with now := 10000000 }, ⟨.A, 0, 0, true⟩, 1, by decide +kernel, by decide +kernel, by decide +kernel⟩,
   ⟨Tests.seqState, ⟨.A, 0, 0, false⟩, by decide +kernel⟩⟩

/-- States and operands that meet the hypotheses of PlanHalvesAndCommits: planWrite; planWriteIgnored; planCommit;
planCommitFails; planCommitLate; planCommitUnlock. -/
theorem witness_PlanHalvesAndCommits_1 :
    (∃ (s : State) (p : PortId) (a : ActId) (h : Fin 2), (h.val ≠ (s.getPlan (chanKey p a)).exec) ∧ ((s.getPlan (chanKey p a)).committed = false)) ∧
    (∃ (s : State) (p : PortId) (a : ActId) (h : Fin 2), (h.val = (s.getPlan (chanKey p a)).exec ∨ (s.getPlan (chanKey p a)).committed = true)) ∧
    (∃ (s : State) (p : PortId) (a : ActId) (n : BitVec 64), ((s.getPlan (chanKey p a)).committed = false) ∧ ((s.getPlan (chanKey p a)).discarded = false) ∧ (s.planned p a (s.getPlan (chanKey p a)) = true) ∧ (s.now + 200 ≤ (s.getPort p).nextEdge) ∧ (s.planOk (s.getPlan (chanKey p a)) n.toNat ((s.getPort p).sweepNo + 1) = true)) ∧
    (∃ (s : State) (p : PortId) (a : ActId) (n : BitVec 64), ((s.getPlan (chanKey p a)).committed = false) ∧ ((s.getPlan (chanKey p a)).discarded = false) ∧ (s.planned p a (s.getPlan (chanKey p a)) = true) ∧ (s.now + 200 ≤ (s.getPort p).nextEdge) ∧ (s.planOk (s.getPlan (chanKey p a)) n.toNat ((s.getPort p).sweepNo + 1) = false)) ∧
    (∃ (s : State) (p : PortId) (a : ActId), ((s.getPlan (chanKey p a)).committed = false) ∧ (s.planned p a (s.getPlan (chanKey p a)) = true) ∧ ((s.getPort p).nextEdge < s.now + 200)) ∧
    (∃ (s : State) (p : PortId) (a : ActId), ((s.getPlan (chanKey p a)).committed = true) ∧ (s.now + 200 ≤ (s.getPort p).nextEdge)) :=
  ⟨⟨Tests.up, 0, 0, 1, by decide +kernel, by decide +kernel⟩,
   ⟨Tests.up, 0, 0, 0, by decide +kernel⟩,
   ⟨Tests.planned, 0, 0, 1, by decide +kernel, by decide +kernel, by decide +kernel, by decide +kernel, by decide +kernel⟩,
   ⟨Tests.planned, 0, 0, 2, by decide +kernel, by decide +kernel, by decide +kernel, by decide +kernel, by decide +kernel⟩,
   ⟨Tests.up, 0, 0, by decide +kernel, by decide +kernel, by decide +kernel⟩,
   ⟨Tests.planDone, 0, 0, by decide +kernel, by decide +kernel⟩⟩

/-- States and operands that meet the hypotheses of PlanHalvesAndCommits: planDeadline. -/
theorem witness_PlanHalvesAndCommits_2 :
    ∃ (s : State) (p : PortId) (a : ActId), ((s.getPlan (chanKey p a)).committed = false) :=
  ⟨Tests.up, 0, 0, by decide +kernel⟩

/-- States and operands that meet the hypotheses of MicrocodeLoader: mcStageWrite; mcVerify; mcVerifyComplete; mcLoad;
mcLoadComplete; mcPersist. -/
theorem witness_MicrocodeLoader_1 :
    (∃ (s : State) (q : Requester) (u : UnitId) (d : List Byte), (s.Accepts q u Obj.MC_STAGE d)) ∧
    (∃ (s : State) (q : Requester) (u : UnitId), (s.Accepts q u Obj.MC_COMMAND [1])) ∧
    (∃ (s : State), (s.mc.result = 0x01) ∧ (s.mc.loading = none)) ∧
    (∃ (s : State) (q : Requester) (u : UnitId), (s.Accepts q u Obj.MC_COMMAND [2]) ∧ (s.mc.verified = true) ∧ (s.rawBusy = false)) ∧
    (∃ (s : State) (ok : Bool) (b : List Byte), (s.mc.loading = some b) ∧ (s.peerReady = false ∨ ok = true)) ∧
    (∃ (s : State) (q : Requester) (u : UnitId), (s.Accepts q u Obj.MC_COMMAND [3]) ∧ (s.mc.source ≠ .builtIn)) :=
  ⟨⟨Tests.maint, .firmware, .A, List.replicate 41280 0, by decide +kernel⟩,
   ⟨Tests.maint, .firmware, .A, by decide +kernel⟩,
   ⟨Tests.mcBusy, by decide +kernel, by decide +kernel⟩,
   ⟨Tests.mcVerified, .firmware, .A, by decide +kernel, by decide +kernel, by decide +kernel⟩,
   ⟨Tests.mcLoading, false, [1], by decide +kernel, by decide +kernel⟩,
   ⟨Tests.mcVerified, .firmware, .A, by decide +kernel, by decide +kernel⟩⟩

/-- States and operands that meet the hypotheses of MicrocodeLoader: mcRevert. -/
theorem witness_MicrocodeLoader_2 :
    ∃ (s : State) (q : Requester) (u : UnitId), (s.Accepts q u Obj.MC_COMMAND [4]) :=
  ⟨Tests.maint, .firmware, .A, by decide +kernel⟩

/-- States and operands that meet the hypotheses of DataChannelEvents: sampleOverrun; sampleOverrunNone, writeUnderrunNone;
writeUnderrun; alignmentMarker; markerFixesIndex; armStartRead. -/
theorem witness_DataChannelEvents_1 :
    (∃ (s : State) (p : PortId) (a : ActId) (x : Sector), (s.paceAbove = false) ∧ ((s.getChan (chanKey p a)).rx = some x)) ∧
    (∃ (s : State), (s.paceAbove = true)) ∧
    (∃ (s : State), (s.paceAbove = false)) ∧
    (∃ (s : State) (u : UnitId) (p : PortId) (a : ActId) (n : Fin 4), (s.laneUpOn u p (4 * a + n) = true)) ∧
    (∃ (s : State) (u : UnitId) (p : PortId) (a : ActId) (n : Fin 4) (w : BitVec 64) (b : ControlBlock), (controlBlock w = some b) ∧ (b.kind = .marker) ∧ (b.act = a) ∧ (b.sublane = n) ∧ (u = s.pair.active) ∧ ((s.getChan (chanKey p a)).rx = none)) ∧
    (∃ (s : State) (p : PortId) (a : ActId) (r : Arm), ((s.getChan (chanKey p a)).readPend = some r) ∧ (r.ticket.isSome = true)) :=
  ⟨⟨Tests.paceLow Tests.receiving, 0, 0, Tests.sector, by decide +kernel, by decide +kernel⟩,
   ⟨Tests.receiving, by decide +kernel⟩,
   ⟨Tests.paceLow Tests.writing, by decide +kernel⟩,
   ⟨Tests.spin .locked, .A, 0, 0, 3, by decide +kernel⟩,
   ⟨Tests.up, .A, 0, 0, 3, Tests.markerBlock.word, Tests.markerBlock, by decide +kernel, by decide +kernel, by decide +kernel, by decide +kernel, by decide +kernel, by decide +kernel⟩,
   ⟨Tests.armed, 0, 0, Tests.arm, by decide +kernel, by decide +kernel⟩⟩

/-- States and operands that meet the hypotheses of DataChannelEvents: armStartWrite; armStartLate; armStartLateWrite;
sectorSamplesEnd; sectorSamplesEndCheck; decodeComplete. -/
theorem witness_DataChannelEvents_2 :
    (∃ (s : State) (p : PortId) (a : ActId) (r : Arm), ((s.getChan (chanKey p a)).writePend = some r) ∧ (r.feed.isSome = true)) ∧
    (∃ (s : State) (p : PortId) (a : ActId) (r : Arm), ((s.getChan (chanKey p a)).readPend = some r) ∧ (r.frag = 0) ∧ (r.ticket = none)) ∧
    (∃ (s : State) (p : PortId) (a : ActId) (r : Arm), ((s.getChan (chanKey p a)).writePend = some r) ∧ (r.frag = 0) ∧ (r.feed = none)) ∧
    (∃ (s : State) (p : PortId) (a : ActId) (x : Sector), ((s.getChan (chanKey p a)).rx = some x)) ∧
    (∃ (s : State) (p : PortId) (a : ActId) (x : Sector), ((s.getChan (chanKey p a)).rx = none) ∧ ((s.getChan (chanKey p a)).raw.find? (fun x => !x.sampled && x.abort.isNone) = some x)) ∧
    (∃ (s : State) (p : PortId) (a : ActId) (x : Sector) (l : List Sector), ((s.getChan (chanKey p a)).decoding = x :: l)) :=
  ⟨⟨Tests.armed, 0, 0, Tests.arm, by decide +kernel, by decide +kernel⟩,
   ⟨Tests.armedBare, 0, 0, { Tests.arm with ticket := none, feed := none }, by decide +kernel, by decide +kernel, by decide +kernel⟩,
   ⟨Tests.armedBare, 0, 0, { Tests.arm with ticket := none, feed := none }, by decide +kernel, by decide +kernel, by decide +kernel⟩,
   ⟨Tests.receiving, 0, 0, Tests.sector, by decide +kernel⟩,
   ⟨Tests.checking, 0, 0, Tests.sector, by decide +kernel, by decide +kernel⟩,
   ⟨Tests.decoding, 0, 0, Tests.sector, [], by decide +kernel⟩⟩

/-- States and operands that meet the hypotheses of DataChannelEvents: replayComplete; paramLoadComplete; paramLoadFails;
rawCheckComplete; wrsetTimeout. -/
theorem witness_DataChannelEvents_3 :
    (∃ (s : State) (p : PortId) (a : ActId) (x : Sector), ((s.getChan (chanKey p a)).replay = some x)) ∧
    (∃ (s : State) (p : PortId) (a : ActId), ((s.getChan (chanKey p a)).load = .loading) ∧ (s.setOk p ((s.getChan (chanKey p a)).set ((s.getChan (chanKey p a)).nextSet.getD 0)) = true)) ∧
    (∃ (s : State) (p : PortId) (a : ActId) (b : Bool), ((s.getChan (chanKey p a)).load = .loading) ∧ ((!b && s.setOk p ((s.getChan (chanKey p a)).set ((s.getChan (chanKey p a)).nextSet.getD 0))) = false)) ∧
    (∃ (s : State) (p : PortId) (a : ActId) (x : Sector) (l : List Sector), ((s.getChan (chanKey p a)).raw = x :: l) ∧ (x.checkDue = true)) ∧
    (∃ (s : State) (p : PortId) (a : ActId), ((s.getChan (chanKey p a)).wrSent = true) ∧ ((s.getChan (chanKey p a)).wrAck = false)) :=
  ⟨⟨Tests.replaying, 0, 0, Tests.sector, by decide +kernel⟩,
   ⟨Tests.setLoading, 0, 0, by decide +kernel, Tests.setLoading_ok⟩,
   ⟨Tests.setLoading, 0, 0, true, by decide +kernel, by decide +kernel⟩,
   ⟨Tests.up.modChan 0 (fun c => { c with raw := [{ Tests.sector with sampled := true }] }), 0, 0, { Tests.sector with sampled := true }, [], by decide +kernel, by decide +kernel⟩,
   ⟨Tests.writing, 0, 0, by decide +kernel, by decide +kernel⟩⟩

/-- States and operands that meet the hypotheses of ServoLoopEvents: outerProductComplete, outerProductMismatch; shadowAct;
shadowActAlone; servoTelemetryBlock; servoTelemetryMissing; innerFrameStartOpen. -/
theorem witness_ServoLoopEvents_1 :
    (∃ (s : State) (p : PortId) (a : ActId), ((s.getSrv (chanKey p a)).outerDone = false)) ∧
    (∃ (s : State) (t : State) (k : Nat), (s.shadowRuns = true) ∧ ((t.getSrv k).st ≠ .off)) ∧
    (∃ (s : State), (s.shadowRuns = false)) ∧
    (∃ (s : State) (p : PortId) (a : ActId) (b : Option (BitVec 64)) (t : ServoTlm), (b.bind servoTelemetry = some t) ∧ ((s.getSrv (chanKey p a)).st = .follow) ∧ ((s.getSrv (chanKey p a)).outerDone = true) ∧ (t.shock = false) ∧ (t.cmdCrcErr = false) ∧ (t.holding = false) ∧ (t.wrsetAck = false) ∧ (t.selfRetracted = false) ∧ (t.head.toNat = (s.getSrv (chanKey p a)).tHead)) ∧
    (∃ (s : State) (t : State) (p : PortId) (a : ActId) (b : Option (BitVec 64)), (b.bind servoTelemetry = none) ∧ ((s.getSrv (chanKey p a)).tlmBad + 1 ≠ 2) ∧ (t = (s.clearSafe p a).modSrv (chanKey p a) (fun v => { v with upset := true, tlmBad := (s.getSrv (chanKey p a)).tlmBad + 1 })) ∧ ((t.getSrv (chanKey p a)).st = .follow) ∧ ((t.getSrv (chanKey p a)).outerDone = true)) ∧
    (∃ (s : State) (p : PortId) (a : ActId) (k : Fin 512) (j : Fin 4) (t : State), ((s.getSrv (chanKey p a)).st ≠ .off) ∧ ((s.getSrv (chanKey p a)).st.innerClosed = false) ∧ (t = s.modSrv (chanKey p a) (fun v => { v with
        innerReady := false, frameAt := s.frameIndex p a k j
        win := some (s.servoWindow p a (s.getSrv (chanKey p a)).timeHead ((k.val + 1) % 512)) }))) :=
  ⟨⟨Tests.tracking, 0, 0, by decide +kernel⟩,
   ⟨(Tests.paired .ready), (Tests.tracking), 0, by decide +kernel, by decide +kernel⟩,
   ⟨Tests.up, by decide +kernel⟩,
   ⟨Tests.following, 0, 0, some Tests.telemetryWord, Tests.telemetry, by decide +kernel, by decide +kernel, by decide +kernel, by decide +kernel, by decide +kernel, by decide +kernel, by decide +kernel, by decide +kernel, by decide +kernel⟩,
   ⟨Tests.following, (Tests.following.clearSafe 0 0).modSrv 0 (fun v => { v with upset := true, tlmBad := 1 }), 0, 0, some 1, by decide +kernel, by decide +kernel, by rfl, by decide +kernel, by decide +kernel⟩,
   ⟨Tests.parked, 0, 0, 511, 3, Tests.parked.modSrv 0 (fun v => { v with innerReady := false, frameAt := Tests.parked.frameIndex 0 0 511 3, win := some (Tests.parked.servoWindow 0 0 (Tests.parked.getSrv 0).timeHead 0) }), by decide +kernel, by decide +kernel, rfl⟩⟩

/-- States and operands that meet the hypotheses of ServoLoopEvents: innerFrameStart; loopSafeHoldExpiry. -/
theorem witness_ServoLoopEvents_2 :
    (∃ (s : State) (p : PortId) (a : ActId) (k : Fin 512) (j : Fin 4) (x : Bool) (t : State), ((s.getSrv (chanKey p a)).st.innerClosed = true) ∧ (s.innerLate (s.getSrv (chanKey p a)) x = false) ∧ (t = s.modSrv (chanKey p a) (fun v => { v with
        innerReady := false, frameAt := s.frameIndex p a k j
        win := some (s.servoWindow p a (s.getSrv (chanKey p a)).timeHead ((k.val + 1) % 512)) }))) ∧
    (∃ (s : State) (p : PortId) (a : ActId), ((s.getSrv (chanKey p a)).st.innerClosed = true) ∧ ((s.getSrv (chanKey p a)).sent.valid = false) ∧ (8 ≤ (s.getSrv (chanKey p a)).safeHeld)) :=
  ⟨⟨Tests.following, 0, 0, 511, 3, true, Tests.following.modSrv 0 (fun v => { v with innerReady := false, frameAt := Tests.following.frameIndex 0 0 511 3, win := some (Tests.following.servoWindow 0 0 (Tests.following.getSrv 0).timeHead 0) }), by decide +kernel, by decide +kernel, rfl⟩,
   ⟨Tests.following.modSrv 0 (fun v => { v with safeHeld := 8 }), 0, 0, by decide +kernel, by decide +kernel, by decide +kernel⟩⟩

/-- States and operands that meet the hypotheses of ActuatorCommandsAndTimeouts: bankWrite; bankSwap; actLoad; actUnload;
actRetract; loadTimeout. -/
theorem witness_ActuatorCommandsAndTimeouts_1 :
    (∃ (s : State) (q : Requester) (u : UnitId) (p : PortId) (a : ActId) (b : Fin 4) (d : List Byte), (s.Accepts q u (bankKey p a (decide (b.val < 2)) (b.val % 2)) d) ∧ ((s.getSrv (chanKey p a)).st = .off) ∧ ((s.getSrv (chanKey p a)).swapOuter = none) ∧ ((s.getSrv (chanKey p a)).swapInner = none)) ∧
    (∃ (s : State) (q : Requester) (u : UnitId) (p : PortId) (a : ActId), (s.Accepts q u (Obj.BANK_SWAP p a) [3]) ∧ ((s.getSrv (chanKey p a)).st = .off) ∧ (bankOk true (s.bank p a true (1 - (s.getSrv (chanKey p a)).outerBank)) = true) ∧ (bankOk false (s.bank p a false (1 - (s.getSrv (chanKey p a)).innerBank)) = true)) ∧
    (∃ (s : State) (q : Requester) (u : UnitId) (p : PortId) (a : ActId), (s.Accepts q u (Obj.ACT_COMMAND p a) [1])) ∧
    (∃ (s : State) (q : Requester) (u : UnitId) (p : PortId) (a : ActId), (s.Accepts q u (Obj.ACT_COMMAND p a) [2])) ∧
    (∃ (s : State) (q : Requester) (u : UnitId) (p : PortId) (a : ActId), (s.Accepts q u (Obj.ACT_COMMAND p a) [3])) ∧
    (∃ (s : State) (p : PortId) (a : ActId), ((s.getSrv (chanKey p a)).st = .loading) ∧ (s.srvFor (s.getSrv (chanKey p a)) (1000 * s.rd (Obj.LOAD_TIMEOUT p a)) = true)) :=
  ⟨⟨Tests.maint, .firmware, .A, 0, 0, 3, defaultBank false, by decide +kernel, by decide +kernel, by decide +kernel, by decide +kernel⟩,
   ⟨Tests.maint, .firmware, .A, 0, 0, by decide +kernel, by decide +kernel, Tests.bankOk_outer, Tests.bankOk_inner⟩,
   ⟨Tests.maint, .firmware, .A, 0, 0, by decide +kernel⟩,
   ⟨Tests.maint, .firmware, .A, 0, 0, by decide +kernel⟩,
   ⟨Tests.maint, .firmware, .A, 0, 0, by decide +kernel⟩,
   ⟨{ Tests.loading with now := 100000000 }, 0, 0, by decide +kernel, by decide +kernel⟩⟩

/-- States and operands that meet the hypotheses of ActuatorCommandsAndTimeouts: acqTimeout; seekTimeout; unloadTimeout;
retractTimeout; heaterSettleExpiry; actuatorCalibrated. -/
theorem witness_ActuatorCommandsAndTimeouts_2 :
    (∃ (s : State) (p : PortId) (a : ActId), ((s.getSrv (chanKey p a)).st = .acquire) ∧ (s.srvFor (s.getSrv (chanKey p a)) (1000 * s.rd (Obj.ACQ_TIMEOUT p a)) = true)) ∧
    (∃ (s : State) (p : PortId) (a : ActId), ((s.getSrv (chanKey p a)).st = .seek) ∧ (s.srvFor (s.getSrv (chanKey p a)) (1000 * s.rd (Obj.SEEK_TIMEOUT p a)) = true)) ∧
    (∃ (s : State) (p : PortId) (a : ActId), ((s.getSrv (chanKey p a)).st = .unloading) ∧ (s.srvFor (s.getSrv (chanKey p a)) (300000) = true)) ∧
    (∃ (s : State) (p : PortId) (a : ActId), ((s.getSrv (chanKey p a)).st = .pn2Retract) ∧ (s.srvFor (s.getSrv (chanKey p a)) (1000000) = true)) ∧
    (∃ (s : State) (p : PortId) (a : ActId), ((s.getSrv (chanKey p a)).heaterFrom + s.rd (Obj.HEATER_SETTLE p a) ≤ s.now)) ∧
    (∃ (s : State) (p : PortId), ((s.getPort p).state = .calibrating) ∧ ((s.getPort p).heldCmd = none)) :=
  ⟨⟨{ Tests.acquiring with now := 100000000 }, 0, 0, by decide +kernel, by decide +kernel⟩,
   ⟨{ Tests.seeking with now := 100000000 }, 0, 0, by decide +kernel, by decide +kernel⟩,
   ⟨{ Tests.unloading with now := 100000000 }, 0, 0, by decide +kernel, by decide +kernel⟩,
   ⟨{ Tests.retracting with now := 100000000 }, 0, 0, by decide +kernel, by decide +kernel⟩,
   ⟨{ Tests.up with now := 100000000 }, 0, 0, by decide +kernel⟩,
   ⟨Tests.calibrating, 0, by decide +kernel, by decide +kernel⟩⟩

/-- States and operands that meet the hypotheses of SpindleControl: motorTelemetryBlock; motorTelemetryBlockMissing;
motorTelemetryLoads; zcWindowCloseRamp; zcWindowClose; zcWindowCloseLoss. -/
theorem witness_SpindleControl_1 :
    (∃ (s : State) (p : PortId) (w : Option (BitVec 64)) (b : MotorTlm), (w.bind motorTelemetry = some b) ∧ (s.laneUp p 15 = true) ∧ ((s.getSpd p).st ≠ .idle)) ∧
    (∃ (w : Option (BitVec 64)), (w.bind motorTelemetry = none)) ∧
    (∃ (s : State) (p : PortId) (b : MotorTlm), ((s.getSpd p).st = .locked) ∧ (b.zc = none) ∧ (b.clamp = true) ∧ (b.bemf.toNat * 100 < s.rd (Obj.BEMF_TARGET p)) ∧ (-10 ≤ b.iBus.toInt)) ∧
    (∃ (s : State) (p : PortId), ((s.getSpd p).st = .ramp) ∧ ((s.getSpd p).judged = false) ∧ (s.laneUp p 15 = true) ∧ (s.windowEnd p ≤ (s.getSpd p).frame * 256)) ∧
    (∃ (s : State) (p : PortId), ((s.getSpd p).st = .locked) ∧ ((s.getSpd p).judged = false) ∧ ((s.getSpd p).missRun = 0) ∧ (s.laneUp p 15 = true) ∧ (s.windowEnd p ≤ (s.getSpd p).frame * 256)) ∧
    (∃ (s : State) (p : PortId), ((s.getSpd p).st = .locked) ∧ ((s.getSpd p).judged = false) ∧ (1 ≤ (s.getSpd p).missRun) ∧ (s.laneUp p 15 = true) ∧ (s.windowEnd p ≤ (s.getSpd p).frame * 256)) :=
  ⟨⟨Tests.spin .locked, 0, some Tests.motorWord, Tests.motorTlm, by decide +kernel, by decide +kernel, by decide +kernel⟩,
   ⟨some 1, by decide +kernel⟩,
   ⟨(Tests.spin .locked).wr (Obj.BEMF_TARGET 0) 100, 0, { Tests.motorTlm with zc := none }, by decide +kernel, by decide +kernel, by decide +kernel, by decide +kernel, by decide +kernel⟩,
   ⟨(Tests.spin .ramp).modSpd 0 (fun q => { q with frame := 100000 }), 0, by decide +kernel, by decide +kernel, by decide +kernel, by decide +kernel⟩,
   ⟨(Tests.spin .locked).modSpd 0 (fun q => { q with frame := 100000 }), 0, by decide +kernel, by decide +kernel, by decide +kernel, by decide +kernel, by decide +kernel⟩,
   ⟨(Tests.spin .locked).modSpd 0 (fun q => { q with missRun := 1, frame := 100000 }), 0, by decide +kernel, by decide +kernel, by decide +kernel, by decide +kernel, by decide +kernel⟩⟩

/-- States and operands that meet the hypotheses of SpindleControl: commutationRamp; commutation; dutyUpdateAccel;
dutyUpdate; spindleIndexLocked; spindleIndexLost. -/
theorem witness_SpindleControl_2 :
    (∃ (s : State) (p : PortId) (t : Nat), ((s.getSpd p).st = .ramp) ∧ ((s.getSpd p).commAt = some t) ∧ (t ≤ ((s.getSpd p).frame + 1) * 256)) ∧
    (∃ (s : State) (p : PortId) (t : Nat), ((s.getSpd p).st = .locked) ∧ ((s.getSpd p).commAt = some t) ∧ (t ≤ ((s.getSpd p).frame + 1) * 256)) ∧
    (∃ (s : State) (p : PortId), ((s.getSpd p).st = .accelBemf) ∧ ((s.getSpd p).dutyAt + 64 ≤ (s.getSpd p).frame)) ∧
    (∃ (s : State) (p : PortId), ((s.getSpd p).st = .locked) ∧ ((s.getSpd p).dutyAt + 64 ≤ (s.getSpd p).frame)) ∧
    (∃ (s : State) (p : PortId) (b : CtStamp) (e : CtStamp) (n : Nat) (t : State), (s.indexTime p b e = some n) ∧ ((s.getSpd p).st = .locked) ∧ (t = (s.modSpd p (fun q => { q with idxLag := n - q.zcTime, sinceIdx := 0 })).phaseSet p (s.lateness n)) ∧ (phaseWithin t.rpm (s.lateness n) 50 = true)) ∧
    (∃ (s : State) (p : PortId) (b : CtStamp) (e : CtStamp) (n : Nat) (t : State), (s.indexTime p b e = some n) ∧ ((s.getSpd p).st = .locked) ∧ (t = (s.modSpd p (fun q => { q with idxLag := n - q.zcTime, sinceIdx := 0 })).phaseSet p (s.lateness n)) ∧ (phaseWithin t.rpm (s.lateness n) 50 = false)) :=
  ⟨⟨(Tests.spin .ramp).modSpd 0 (fun q => { q with commAt := some 512, frame := 1 }), 0, 512, by decide +kernel, by decide +kernel, by decide +kernel⟩,
   ⟨(Tests.spin .locked).modSpd 0 (fun q => { q with commAt := some 512, frame := 1 }), 0, 512, by decide +kernel, by decide +kernel, by decide +kernel⟩,
   ⟨(Tests.spin .accelBemf).modSpd 0 (fun q => { q with frame := 64 }), 0, by decide +kernel, by decide +kernel⟩,
   ⟨(Tests.spin .locked).modSpd 0 (fun q => { q with frame := 64 }), 0, by decide +kernel, by decide +kernel⟩,
   ⟨Tests.clocked, 0, { time := 0, cycles := 0 }, { time := 1000, cycles := 1000 }, (1 : Nat), ((Tests.clocked.modSpd 0 (fun q => { q with idxLag := 1 - q.zcTime, sinceIdx := 0 })).phaseSet 0 (Tests.clocked.lateness 1)), by decide +kernel, by decide +kernel, by rfl, by decide +kernel⟩,
   ⟨Tests.clocked, 0, { time := 0, cycles := 0 }, { time := 4000000000, cycles := 1000 }, (4000000 : Nat), ((Tests.clocked.modSpd 0 (fun q => { q with idxLag := 4000000 - q.zcTime, sinceIdx := 0 })).phaseSet 0 (Tests.clocked.lateness 4000000)), by decide +kernel, by decide +kernel, by rfl, by decide +kernel⟩⟩

/-- States and operands that meet the hypotheses of SpindleControl: brakeProbe; brakeProbeStop. -/
theorem witness_SpindleControl_3 :
    (∃ (s : State) (p : PortId) (t : State), ((s.getSpd p).probeAt + 11000 ≤ s.now) ∧ (t = s.modSpd p (fun q => { q with probeAt := q.probeAt + 10000 })) ∧ ((s.getSpd p).st = .brakeToRest) ∧ (s.rd (Obj.BEMF_TARGET p) ≤ (s.getSpd p).bemf * 50)) ∧
    (∃ (s : State) (p : PortId) (t : State), ((s.getSpd p).probeAt + 11000 ≤ s.now) ∧ (t = s.modSpd p (fun q => { q with probeAt := q.probeAt + 10000 })) ∧ ((s.getSpd p).st = .stopping) ∧ ((s.getSpd p).bemf * 100 < s.rd (Obj.BEMF_TARGET p)) ∧ (1 ≤ (s.getSpd p).still)) :=
  ⟨⟨Tests.braking, 0, (Tests.braking.modSpd 0 (fun q => { q with probeAt := q.probeAt + 10000 })), by decide +kernel, by rfl, by decide +kernel, by decide +kernel⟩,
   ⟨Tests.stoppingSpin, 0, (Tests.stoppingSpin.modSpd 0 (fun q => { q with probeAt := q.probeAt + 10000 })), by decide +kernel, by rfl, by decide +kernel, by decide +kernel, by decide +kernel⟩⟩

/-- States and operands that meet the hypotheses of SpindleTimeouts: measureTimeout; standstillTest; coastMaxExpiry;
alignTimeExpiry; rampMaxExpiry; rampMaxExpiryThird. -/
theorem witness_SpindleTimeouts_1 :
    (∃ (s : State) (p : PortId), ((s.getSpd p).st = .measure) ∧ (s.spdFor p (250000) = true)) ∧
    (∃ (s : State) (p : PortId), ((s.getSpd p).st = .coastToRest) ∧ ((s.getSpd p).quietFrom + 200000 ≤ s.now)) ∧
    (∃ (s : State) (p : PortId), ((s.getSpd p).st = .coastToRest) ∧ (s.spdFor p (1000 * s.rd (Obj.COAST_MAX p)) = true)) ∧
    (∃ (s : State) (p : PortId), ((s.getSpd p).st = .align) ∧ (s.spdFor p (1000 * s.rd (Obj.ALIGN_TIME p)) = true)) ∧
    (∃ (s : State) (p : PortId), ((s.getSpd p).st = .ramp) ∧ (s.spdFor p (1000 * s.rd (Obj.RAMP_MAX p)) = true) ∧ ((s.getSpd p).rampFails < 2)) ∧
    (∃ (s : State) (p : PortId), ((s.getSpd p).st = .ramp) ∧ (s.spdFor p (1000 * s.rd (Obj.RAMP_MAX p)) = true) ∧ (2 ≤ (s.getSpd p).rampFails)) :=
  ⟨⟨{ Tests.spin .measure with now := 100000000 }, 0, by decide +kernel, by decide +kernel⟩,
   ⟨{ Tests.spin .coastToRest with now := 100000000 }, 0, by decide +kernel, by decide +kernel⟩,
   ⟨{ Tests.spin .coastToRest with now := 100000000 }, 0, by decide +kernel, by decide +kernel⟩,
   ⟨{ Tests.spin .align with now := 100000000 }, 0, by decide +kernel, by decide +kernel⟩,
   ⟨{ Tests.spin .ramp with now := 100000000 }, 0, by decide +kernel, by decide +kernel, by decide +kernel⟩,
   ⟨{ (Tests.spin .ramp).modSpd 0 (fun q => { q with rampFails := 2 }) with now := 100000000 }, 0, by decide +kernel, by decide +kernel, by decide +kernel⟩⟩

/-- States and operands that meet the hypotheses of SpindleTimeouts: spinupTimeout; recatchAttemptTimeout; recatchTimeout;
sweepRpmWrite. -/
theorem witness_SpindleTimeouts_2 :
    (∃ (s : State) (p : PortId), ((s.getSpd p).granted = true) ∧ ((s.getSpd p).grantTime + 14000000 ≤ s.now)) ∧
    (∃ (s : State) (p : PortId), ((s.getSpd p).st = .recatch) ∧ ((s.getSpd p).restarted = false) ∧ ((s.getSpd p).tryAt + 500000 ≤ s.now)) ∧
    (∃ (s : State) (p : PortId), ((s.getSpd p).st = .recatch) ∧ (s.spdFor p (1500000) = true)) ∧
    (∃ (s : State) (q : Requester) (u : UnitId) (v : BitVec 16), (s.Accepts q u Obj.SWEEP_RPM (leBytes 2 v.toNat))) :=
  ⟨⟨{ (Tests.spin .ramp).modSpd 0 (fun q => { q with granted := true }) with now := 100000000 }, 0, by decide +kernel, by decide +kernel⟩,
   ⟨{ Tests.spin .recatch with now := 100000000 }, 0, by decide +kernel, by decide +kernel, by decide +kernel⟩,
   ⟨{ Tests.spin .recatch with now := 100000000 }, 0, by decide +kernel, by decide +kernel⟩,
   ⟨Tests.maint, .firmware, .A, 5400, by decide +kernel⟩⟩

/-- States and operands that meet the hypotheses of PortLines: fltnAssertedActive; fltnAsserted; fltnReleasedTraining;
fltnReleased; fltnIsolation; fltDuePowering. -/
theorem witness_PortLines_1 :
    (∃ (s : State) (u : UnitId) (p : PortId), (u = s.pair.active) ∧ ((s.getLine (sideKey u p)).flt.chatter = false) ∧ ((s.getLine (sideKey u p)).flt.level = false) ∧ ((s.getPort p).state = .ready)) ∧
    (∃ (s : State) (u : UnitId) (p : PortId), (u ≠ s.pair.active) ∧ ((s.getLine (sideKey u p)).flt.chatter = false) ∧ ((s.getLine (sideKey u p)).flt.level = false)) ∧
    (∃ (s : State) (u : UnitId) (p : PortId), (u = s.pair.active) ∧ ((s.getLine (sideKey u p)).flt.chatter = false) ∧ ((s.getPort p).state = .powering)) ∧
    (∃ (s : State) (u : UnitId) (p : PortId), (u ≠ s.pair.active) ∧ ((s.getLine (sideKey u p)).flt.chatter = false)) ∧
    (∃ (s : State) (p : PortId), ((s.getPort p).state.inPower = true) ∧ (s.fltDue p = true)) ∧
    (∃ (s : State) (p : PortId), ((s.getPort p).state = .powering)) :=
  ⟨⟨Tests.port .ready, .A, 0, by decide +kernel, by decide +kernel, by decide +kernel, by decide +kernel⟩,
   ⟨Tests.port .ready, .B, 0, by decide +kernel, by decide +kernel, by decide +kernel⟩,
   ⟨Tests.port .powering, .A, 0, by decide +kernel, by decide +kernel, by decide +kernel⟩,
   ⟨Tests.port .powering, .B, 0, by decide +kernel, by decide +kernel⟩,
   ⟨{ Tests.port .powering with now := 70000 }, 0, by decide +kernel, by decide +kernel⟩,
   ⟨Tests.port .powering, 0, by decide +kernel⟩⟩

/-- States and operands that meet the hypotheses of PortLines: fltDue; prsnAsserted; presenceConfirmed;
presenceConfirmedOffline; prsnDeasserted; removed. -/
theorem witness_PortLines_2 :
    (∃ (s : State) (p : PortId), ((s.getPort p).state ≠ .powering)) ∧
    (∃ (s : State) (u : UnitId) (p : PortId), ((s.getLine (sideKey u p)).prs.chatter = false) ∧ ((s.getLine (sideKey u p)).prs.level = false)) ∧
    (∃ (s : State) (p : PortId), ((s.getPort p).state = .empty) ∧ ((s.getLine (sideKey s.pair.active p)).prs.level = true) ∧ (s.mode.cur ≠ .unpowered) ∧ (s.rd (Obj.PERSIST_STATE p) = 0)) ∧
    (∃ (s : State) (p : PortId), ((s.getPort p).state = .empty) ∧ ((s.getLine (sideKey s.pair.active p)).prs.level = true) ∧ (s.mode.cur ≠ .unpowered) ∧ (s.rd (Obj.PERSIST_STATE p) = 9)) ∧
    (∃ (s : State) (u : UnitId) (p : PortId) (t : State), (u = s.pair.active) ∧ ((s.getLine (sideKey u p)).prs.chatter = false) ∧ ((s.getLine (sideKey u p)).prs.level = true) ∧ (t = (s.modLine (sideKey u p) (fun l => { l with prs := { l.prs with raw := false } })).modLine (sideKey u p)
         (fun l => { l with prs := { l.prs with level := false, since := s.now } }))) ∧
    (∃ (s : State) (p : PortId) (t : State), ((s.getPort p).state = .ready) ∧ (t = s.forEach [0, 1] (fun s a => s.modChan (chanKey p a) (fun c => { c with sys := [], void := [], headFails := [], degraded := [] })))) :=
  ⟨⟨Tests.port .ready, 0, by decide +kernel⟩,
   ⟨Tests.up, .A, 0, by decide +kernel, by decide +kernel⟩,
   ⟨Tests.up.modLine (sideKey .A 0) (fun l => { l with prs := { l.prs with level := true } }), 0, by decide +kernel, by decide +kernel, by decide +kernel, by decide +kernel⟩,
   ⟨(Tests.up.modLine (sideKey .A 0) (fun l => { l with prs := { l.prs with level := true } })).wr (Obj.PERSIST_STATE 0) 9, 0, by decide +kernel, by decide +kernel, by decide +kernel, by decide +kernel⟩,
   ⟨Tests.presentReady, .A, 0, ((Tests.presentReady.modLine 0 (fun l => { l with prs := { l.prs with raw := false } })).modLine 0 (fun l => { l with prs := { l.prs with level := false, since := 0 } })), by decide +kernel, by decide +kernel, by decide +kernel, by rfl⟩,
   ⟨Tests.presentReady, 0, (Tests.presentReady.forEach [0, 1] (fun s a => s.modChan (chanKey 0 a) (fun c => { c with sys := [], void := [], headFails := [], degraded := [] }))), by decide +kernel, by rfl⟩⟩

/-- States and operands that meet the hypotheses of PortLines: spinMismatch; rawEdge, chatterExit; rawEdgeNinth;
lineDisagree. -/
theorem witness_PortLines_3 :
    (∃ (s : State) (u : UnitId) (p : PortId) (r : Option SpinCode), (u = s.pair.active) ∧ (r ≠ some (s.getLine (sideKey u p)).driven)) ∧
    (∃ (s : State) (u : UnitId) (p : PortId) (i : LineInput), (((s.getLine (sideKey u p)).filt i).chatter = true)) ∧
    (∃ (s : State) (u : UnitId) (p : PortId) (i : LineInput) (b : Bool) (t : State), (((s.getLine (sideKey u p)).filt i).chatter = false) ∧ (9 ≤ ((s.now :: ((s.getLine (sideKey u p)).filt i).edges).filter (fun t => decide (s.now < t + 64))).length) ∧ (t = ((s.modLine (sideKey u p) (fun l => l.modFilt i (fun f => { f with
         raw := b
         edges := ((s.now :: ((s.getLine (sideKey u p)).filt i).edges).filter (fun t => decide (s.now < t + 64))).take 9 }))).modLine (sideKey u p)
         (fun l => l.modFilt i (fun f => { f with chatter := true }))).inc (Obj.CHATTER_COUNT u p))) ∧
    (∃ (s : State) (p : PortId), ((s.unitSt .A).present = true) ∧ ((s.unitSt .B).present = true) ∧ ((s.getLine (sideKey .A p)).flt.level ≠ (s.getLine (sideKey .B p)).flt.level)) :=
  ⟨⟨Tests.port .ready, .A, 0, none, by decide +kernel, by decide +kernel⟩,
   ⟨(Tests.port .ready).modLine (sideKey .A 0) (fun l => { l with flt := { l.flt with chatter := true } }), .A, 0, .fltn, by decide +kernel⟩,
   ⟨Tests.chattering, .B, 0, .fltn, true, (((Tests.chattering.modLine (sideKey .B 0) (fun l => l.modFilt .fltn (fun f => { f with raw := true, edges := List.replicate 9 0 }))).modLine (sideKey .B 0) (fun l => l.modFilt .fltn (fun f => { f with chatter := true }))).inc (Obj.CHATTER_COUNT .B 0)), by decide +kernel, by decide +kernel, by rfl⟩,
   ⟨(Tests.port .ready).modLine (sideKey .A 0) (fun l => { l with flt := { l.flt with level := true } }), 0, by decide +kernel, by decide +kernel, by decide +kernel⟩⟩

/-- States and operands that meet the hypotheses of PortLanesAndClockTrack: trainOne; trainIdentity; trainSkew;
trainSkewWide; trainLocks; trainLast. -/
theorem witness_PortLanesAndClockTrack_1 :
    (∃ (s : State) (u : UnitId) (p : PortId) (t : State), (s.trains u p = true) ∧ ((s.getLine (sideKey u p)).trainStep = 0) ∧ (t = s.modLine (sideKey u p) (fun l => { l with trainStep := 0 + 1, trainAt := s.now }))) ∧
    (∃ (s : State) (u : UnitId) (p : PortId) (t : State), (s.trains u p = true) ∧ ((s.getLine (sideKey u p)).trainStep = 1) ∧ (u = s.pair.active) ∧ (t = s.modLine (sideKey u p) (fun l => { l with trainStep := 1 + 1, trainAt := s.now }))) ∧
    (∃ (s : State) (u : UnitId) (p : PortId) (t : State) (b : Nat), (s.trains u p = true) ∧ ((s.getLine (sideKey u p)).trainStep = 4) ∧ (b ≤ 32) ∧ (t = s.modLine (sideKey u p) (fun l => { l with trainStep := 4 + 1, trainAt := s.now }))) ∧
    (∃ (s : State) (u : UnitId) (p : PortId) (t : State) (b : Nat), (s.trains u p = true) ∧ ((s.getLine (sideKey u p)).trainStep = 4) ∧ (32 < b) ∧ (t = s.modLine (sideKey u p) (fun l => { l with trainStep := 4 + 1, trainAt := s.now }))) ∧
    (∃ (s : State) (u : UnitId) (p : PortId) (t : State), (s.trains u p = true) ∧ ((s.getLine (sideKey u p)).trainStep = 5) ∧ ((List.range (s.rd (Obj.ACTUATOR_COUNT p))).all (fun a => (s.getSrv (chanKey p a)).wrLock) = true) ∧ (t = s.modLine (sideKey u p) (fun l => { l with trainStep := 5 + 1, trainAt := s.now }))) ∧
    (∃ (s : State) (u : UnitId) (p : PortId) (t : State), (s.trains u p = true) ∧ ((s.getLine (sideKey u p)).trainStep = 6) ∧ (t = s.modLine (sideKey u p) (fun l => { l with trainStep := 6 + 1, trainAt := s.now }))) :=
  ⟨⟨(Tests.port .training).modLine 0 (fun l => { l with trainStep := 0 }), .A, 0, (((Tests.port .training).modLine 0 (fun l => { l with trainStep := 0 })).modLine (sideKey .A 0) (fun l => { l with trainStep := 0 + 1, trainAt := 0 })), by decide +kernel, by decide +kernel, by rfl⟩,
   ⟨(Tests.port .training).modLine 0 (fun l => { l with trainStep := 1 }), .A, 0, (((Tests.port .training).modLine 0 (fun l => { l with trainStep := 1 })).modLine (sideKey .A 0) (fun l => { l with trainStep := 1 + 1, trainAt := 0 })), by decide +kernel, by decide +kernel, by decide +kernel, by rfl⟩,
   ⟨(Tests.port .training).modLine 0 (fun l => { l with trainStep := 4 }), .A, 0, (((Tests.port .training).modLine 0 (fun l => { l with trainStep := 4 })).modLine (sideKey .A 0) (fun l => { l with trainStep := 4 + 1, trainAt := 0 })), 32, by decide +kernel, by decide +kernel, by decide +kernel, by rfl⟩,
   ⟨(Tests.port .training).modLine 0 (fun l => { l with trainStep := 4 }), .A, 0, (((Tests.port .training).modLine 0 (fun l => { l with trainStep := 4 })).modLine (sideKey .A 0) (fun l => { l with trainStep := 4 + 1, trainAt := 0 })), 33, by decide +kernel, by decide +kernel, by decide +kernel, by rfl⟩,
   ⟨((Tests.port .training).wr (Obj.ACTUATOR_COUNT 0) 0).modLine 0 (fun l => { l with trainStep := 5 }), .A, 0, ((((Tests.port .training).wr (Obj.ACTUATOR_COUNT 0) 0).modLine 0 (fun l => { l with trainStep := 5 })).modLine (sideKey .A 0) (fun l => { l with trainStep := 5 + 1, trainAt := 0 })), by decide +kernel, by decide +kernel, by decide +kernel, by rfl⟩,
   ⟨(Tests.port .training).modLine 0 (fun l => { l with trainStep := 6 }), .A, 0, (((Tests.port .training).modLine 0 (fun l => { l with trainStep := 6 })).modLine (sideKey .A 0) (fun l => { l with trainStep := 6 + 1, trainAt := 0 })), by decide +kernel, by decide +kernel, by rfl⟩⟩

/-- States and operands that meet the hypotheses of PortLanesAndClockTrack: laneTrainingTimeout; laneTrainingTimeoutSecond;
laneFail; laneRetrainComplete; laneRetrainCompleteMotor; ctWindow. -/
theorem witness_PortLanesAndClockTrack_2 :
    (∃ (s : State) (u : UnitId) (p : PortId), (s.trains u p = true) ∧ ((s.getLine (sideKey u p)).trainAt + trainBound ((s.getLine (sideKey u p)).trainStep + 1) < s.now) ∧ ((s.getLine (sideKey u p)).retried = false)) ∧
    (∃ (s : State) (u : UnitId) (p : PortId), (s.trains u p = true) ∧ ((s.getLine (sideKey u p)).trainAt + trainBound ((s.getLine (sideKey u p)).trainStep + 1) < s.now) ∧ ((s.getLine (sideKey u p)).retried = true) ∧ (u = s.pair.active)) ∧
    (∃ (s : State) (u : UnitId) (p : PortId) (l : Fin 16), (s.laneUpOn u p l = true)) ∧
    (∃ (s : State) (u : UnitId) (p : PortId) (l : Fin 16), ((s.getLine (sideKey u p)).retraining.contains l.val = true) ∧ (l.val ≠ 15 ∨ u ≠ s.pair.active)) ∧
    (∃ (s : State) (u : UnitId) (p : PortId) (t : State), ((s.getLine (sideKey u p)).retraining.contains 15 = true) ∧ (u = s.pair.active) ∧ (t = (((s.modLine (sideKey u p) (fun q => { q with retraining := q.retraining.filter (· != 15) })).setBit (Obj.LANES_IN_SERVICE u p) 15 true).incSave
      (Obj.RETRAIN_COUNT p)).tokenTry p)) ∧
    (∃ (s : State) (u : UnitId) (p : PortId), (u ≠ s.pair.active) ∧ ((s.getPort p).state.inPower = true) ∧ (s.rd (Obj.LANES_IN_SERVICE u p) ≠ 0)) :=
  ⟨⟨{ Tests.port .training with now := 8001 }, .A, 0, by decide +kernel, by decide +kernel, by decide +kernel⟩,
   ⟨{ (Tests.port .training).modLine 0 (fun l => { l with retried := true }) with now := 8001 }, .A, 0, by decide +kernel, by decide +kernel, by decide +kernel, by decide +kernel⟩,
   ⟨Tests.port .ready, .A, 0, 3, by decide +kernel⟩,
   ⟨Tests.retraining 3, .A, 0, 3, by decide +kernel, .inl (by decide)⟩,
   ⟨Tests.retraining 15, .A, 0, ((((Tests.retraining 15).modLine 0 (fun q => { q with retraining := q.retraining.filter (· != 15) })).setBit (Obj.LANES_IN_SERVICE .A 0) 15 true).incSave (Obj.RETRAIN_COUNT 0)).tokenTry 0, by decide +kernel, by decide +kernel, by rfl⟩,
   ⟨(Tests.port .ready).wr (Obj.LANES_IN_SERVICE .B 0) 0xFFFF, .B, 0, by decide +kernel, by decide +kernel, by decide +kernel⟩⟩

/-- States and operands that meet the hypotheses of PortLanesAndClockTrack: ctWindowTolerance; ctWindowLoss; ctTimeout;
clockTrackFrame; telemetryFrame. -/
theorem witness_PortLanesAndClockTrack_3 :
    (∃ (s : State) (u : UnitId) (p : PortId) (n : BitVec 16) (l : LineSt), (l = (s.getLine (sideKey u p))) ∧ (l.ct ≠ .lost) ∧ (ctWithin n.toNat (s.ctExpect p) (s.rd (Obj.CT_CYCLES_PER_REV p)) = true)) ∧
    (∃ (s : State) (u : UnitId) (p : PortId) (n : BitVec 16) (l : LineSt), (l = (s.getLine (sideKey u p))) ∧ (l.ct ≠ .lost) ∧ (1 ≤ l.ctBad) ∧ (ctWithin n.toNat (s.ctExpect p) (s.rd (Obj.CT_CYCLES_PER_REV p)) = false)) ∧
    (∃ (s : State) (p : PortId), ((s.getLine (sideKey s.pair.active p)).ct = .lost) ∧ ((s.getLine (sideKey s.pair.active p)).ctSince + 3000000 ≤ s.now) ∧ ((s.getPort p).state.inPower = true)) ∧
    (∃ (s : State) (u : UnitId) (p : PortId), (u = s.pair.active) ∧ (s.laneUpOn u p 14 = true)) ∧
    (∃ (s : State) (u : UnitId) (p : PortId), (s.motorUp u p = true) ∧ (u = s.pair.active) ∧ ((s.getPort p).codeRead = false)) :=
  ⟨⟨Tests.ctLocked, .A, 0, 4026, {}, by decide +kernel, by decide +kernel, by decide +kernel⟩,
   ⟨Tests.ctLocked.modLine 0 (fun l => { l with ctBad := 1 }), .A, 0, 2000, { ctBad := 1 }, by decide +kernel, by decide +kernel, by decide +kernel, by decide +kernel⟩,
   ⟨Tests.portLost, 0, by decide +kernel, by decide +kernel, by decide +kernel⟩,
   ⟨Tests.port .ready, .A, 0, by decide +kernel, by decide +kernel⟩,
   ⟨(Tests.port .ready).modPort 0 (fun q => { q with codeRead := false }), .A, 0, by decide +kernel, by decide +kernel, by decide +kernel⟩⟩

/-- States and operands that meet the hypotheses of PortCommands: offline; offlinePresent; online; onlineHeld; retry. -/
theorem witness_PortCommands :
    (∃ (s : State) (q : Requester) (u : UnitId) (p : PortId), (s.Accepts q u (Obj.PORT_COMMAND p) [1]) ∧ ((s.getPort p).state = .ready)) ∧
    (∃ (s : State) (q : Requester) (u : UnitId) (p : PortId), (s.Accepts q u (Obj.PORT_COMMAND p) [1]) ∧ ((s.getPort p).state = .present)) ∧
    (∃ (s : State) (q : Requester) (u : UnitId) (p : PortId), (s.Accepts q u (Obj.PORT_COMMAND p) [2]) ∧ ((s.getPort p).state = .offline)) ∧
    (∃ (s : State) (q : Requester) (u : UnitId) (p : PortId), (s.Accepts q u (Obj.PORT_COMMAND p) [2]) ∧ ((s.getPort p).state = .training)) ∧
    (∃ (s : State) (q : Requester) (u : UnitId) (p : PortId), (s.Accepts q u (Obj.PORT_COMMAND p) [3]) ∧ ((s.getPort p).state = .failed)) :=
  ⟨⟨{ Tests.port .ready with mode := Tests.maint.mode }, .firmware, .A, 0, by decide +kernel, by decide +kernel⟩,
   ⟨{ Tests.port .present with mode := Tests.maint.mode }, .firmware, .A, 0, by decide +kernel, by decide +kernel⟩,
   ⟨{ Tests.port .offline with mode := Tests.maint.mode }, .firmware, .A, 0, by decide +kernel, by decide +kernel⟩,
   ⟨{ Tests.port .training with mode := Tests.maint.mode }, .firmware, .A, 0, by decide +kernel, by decide +kernel⟩,
   ⟨{ Tests.port .failed with mode := Tests.maint.mode }, .firmware, .A, 0, by decide +kernel, by decide +kernel⟩⟩

/-- States and operands that meet the hypotheses of Pn2Obedience: pn2SpinDecode, pn2SpinInvalid; pn2SpinDecodeSame;
pn2TokenAccept; pn2WriteGateOn; pn2CommandSlot; pn2CommandSlotBad. -/
theorem witness_Pn2Obedience_1 :
    (∃ (s : State) (p : PortId), ((s.getPn2 p).obey = .side .A) ∧ ((s.getPn2 p).spinA = some .follow)) ∧
    (∃ (s : State) (p : PortId) (u : UnitId) (c : SpinCode), (((s.modPn2 p (fun q => match u with | .A => { q with spinA := some c } | .B => { q with spinB := some c })).getPn2 p).action = (s.getPn2 p).action)) ∧
    (∃ (s : State) (p : PortId), ((s.getPn2 p).tokA ≠ (s.getLine (sideKey .A p)).token)) ∧
    (∃ (s : State) (p : PortId) (a : ActId) (u : UnitId) (w : BitVec 64) (l : List Bool) (r : List WriteItem) (b : ControlBlock), ((s.getPn2 p).obey = .side u) ∧ (u = s.pair.active) ∧ (s.laneUpOn u p (8 + a) = true) ∧ (((s.getPn2 p).act a).holding = false) ∧ (((s.getPn2 p).act a).retracted = false) ∧ ((s.getChan (chanKey p a)).wrOut = .gate w :: .bits l :: r) ∧ (controlBlock w = some b)) ∧
    (∃ (s : State) (p : PortId) (a : ActId) (u : UnitId) (e : List (BitVec 64)) (l : List (BitVec 64)) (w : BitVec 64) (b : LoopCmd), ((s.getPn2 p).obey = .side u) ∧ (s.laneUpOn u p (12 + a) = true) ∧ ((s.slotWords p a).zipIdx.map (fun x => x.1 ^^^ e.getD x.2 0) = w :: l) ∧ (loopBlock w = some b)) ∧
    (∃ (s : State) (p : PortId) (a : ActId) (u : UnitId) (e : List (BitVec 64)) (l : List (BitVec 64)) (w : BitVec 64), ((s.getPn2 p).obey = .side u) ∧ (s.laneUpOn u p (12 + a) = true) ∧ ((s.slotWords p a).zipIdx.map (fun x => x.1 ^^^ e.getD x.2 0) = w :: l) ∧ (loopBlock w = none)) :=
  ⟨⟨Tests.obeyA, 0, by decide +kernel, by decide +kernel⟩,
   ⟨Tests.obeyA, 0, .B, .shortBrake, by decide +kernel⟩,
   ⟨Tests.obeyA, 0, by decide +kernel⟩,
   ⟨Tests.gateSent, 0, 1, .A, Tests.gateBlock.word, [true, false], [], Tests.gateBlock, by decide +kernel, by decide +kernel, by decide +kernel, by decide +kernel, by decide +kernel, by decide +kernel, by decide +kernel⟩,
   ⟨Tests.obeyA, 0, 0, .A, [], (Tests.obeyA.slotWords 0 0).tail, ((Tests.obeyA.slotWords 0 0).headD 0), (Tests.obeyA.getSrv 0).sent, by decide +kernel, by decide +kernel, by decide +kernel, by decide +kernel⟩,
   ⟨Tests.obeyA, 0, 0, .A, [1], (Tests.obeyA.slotWords 0 0).tail, ((Tests.obeyA.slotWords 0 0).headD 0 ^^^ 1), by decide +kernel, by decide +kernel, by decide +kernel, by decide +kernel⟩⟩

/-- States and operands that meet the hypotheses of Pn2Obedience: pn2ServoWindow; pn2MotorBlockApply;
pn2MotorBlockApplyThird. -/
theorem witness_Pn2Obedience_2 :
    (∃ (s : State) (p : PortId) (u : UnitId), ((s.getPn2 p).obey = .side u)) ∧
    (∃ (s : State) (p : PortId) (u : UnitId) (e : BitVec 64) (m : MotorCmd), ((s.getPn2 p).obey = .side u) ∧ ((s.getPn2 p).action = .follow) ∧ (s.laneUpOn u p 15 = true) ∧ (motorBlock ((s.getSpd p).sent.word ^^^ e) = some m)) ∧
    (∃ (s : State) (p : PortId), ((s.getPn2 p).action = .follow) ∧ ((s.getPn2 p).noBlock = 2)) :=
  ⟨⟨Tests.obeyA, 0, .A, by decide +kernel⟩,
   ⟨Tests.obeyA, 0, .A, 0, (Tests.obeyA.getSpd 0).sent, by decide +kernel, by decide +kernel, by decide +kernel, by decide +kernel⟩,
   ⟨Tests.obeyA.modPn2 0 (fun q => { q with noBlock := 2 }), 0, by decide +kernel, by decide +kernel⟩⟩

/-- States and operands that meet the hypotheses of SweepsAndModeRequests: sweepEdgeLead; sweepEdgeFollower;
requestedModeWrite; requestedModeWriteBringUp; drainComplete; drainCompleteMaintenance. -/
theorem witness_SweepsAndModeRequests_1 :
    (∃ (s : State) (p : PortId), ((s.getPort p).state.sweeps = true) ∧ (s.leads p = true)) ∧
    (∃ (s : State) (p : PortId), ((s.getPort p).state.sweeps = true) ∧ (s.leads p = false)) ∧
    (∃ (s : State) (q : Requester) (u : UnitId) (v : BitVec 8), (s.Accepts q u Obj.REQUESTED_MODE [v]) ∧ (v = 0x02 ∨ v = 0x04 ∨ v = 0x07 ∨ v = 0x0A) ∧ ((s.save Obj.REQUESTED_MODE v.toNat).mayBringUp = false)) ∧
    (∃ (s : State) (q : Requester) (u : UnitId) (v : BitVec 8), (s.Accepts q u Obj.REQUESTED_MODE [v]) ∧ (v = 0x02 ∨ v = 0x04 ∨ v = 0x07 ∨ v = 0x0A) ∧ ((s.save Obj.REQUESTED_MODE v.toNat).mayBringUp = true)) ∧
    (∃ (s : State), (s.mode.cur = .drain) ∧ (s.cmds.all HostCmd.idleInDrain = true) ∧ (s.mode.purpose = .powerDown)) ∧
    (∃ (s : State), (s.mode.cur = .drain) ∧ (s.cmds.all HostCmd.idleInDrain = true) ∧ (s.mode.purpose = .maintenance)) :=
  ⟨⟨Tests.port .ready, 0, by decide +kernel, by decide +kernel⟩,
   ⟨((Tests.port .ready).modPort 1 (fun q => { q with state := .ready })).modSpd 0 (fun q => { q with st := .locked }), 1, by decide +kernel, by decide +kernel⟩,
   ⟨Tests.maint, .firmware, .A, 0x0A, by decide +kernel, by decide +kernel, by decide +kernel⟩,
   ⟨Tests.fiddle, .firmware, .A, 0x04, by decide +kernel, by decide +kernel, by decide +kernel⟩,
   ⟨{ Tests.up with mode := { cur := .drain, purpose := .powerDown } }, by decide +kernel, by decide +kernel, by decide +kernel⟩,
   ⟨{ Tests.up with mode := { cur := .drain, purpose := .maintenance } }, by decide +kernel, by decide +kernel, by decide +kernel⟩⟩

/-- States and operands that meet the hypotheses of SweepsAndModeRequests: quiescentToFiddlehead. -/
theorem witness_SweepsAndModeRequests_2 :
    ∃ (s : State), (s.mode.cur = .quiescent) ∧ (s.requested = 2) ∧ ((List.range 16).all (fun p => (s.getPort p).state.rests) = true) :=
  ⟨{ (Tests.up.wr Obj.REQUESTED_MODE 2) with mode := { cur := .quiescent } }, by decide +kernel, by decide +kernel, by decide +kernel⟩

/-- States and operands that meet the hypotheses of SuppliesAndTemperatures: vin12Good; stateRowScanComplete; vin12Lost;
vin12LostLow; holdupSequenceComplete; holdExhausted. -/
theorem witness_SuppliesAndTemperatures_1 :
    (∃ (s : State), (s.sup.vin12 = false) ∧ (s.sup.vaux3 = true) ∧ (s.mode.cur ≠ .holdUp)) ∧
    (∃ (s : State) (u : UnitId), (s.sup.vin12 = true) ∧ (s.sup.vaux3 = true) ∧ (s.mode.cur ≠ .holdUp) ∧ ((s.getJf u.code).scanned = false)) ∧
    (∃ (s : State), (s.sup.vin12 = true) ∧ (holdsUp s.mode.cur = true) ∧ (s.sup.holdSpent = false)) ∧
    (∃ (s : State), (s.sup.vin12 = true) ∧ (s.mode.cur = .fiddlehead) ∧ (s.rd Obj.RECOVERY_CHECK ≠ 7)) ∧
    (∃ (s : State) (us : List UnitId) (a : Nat) (b : Nat), (s.mode.cur = .holdUp) ∧ (s.sup.holdReady = true) ∧ (us = [UnitId.A, UnitId.B].filter (fun u => !(s.unitSt u).inReset)) ∧ (a = (if us.contains .A then s.stagedPages .A else 0)) ∧ (b = (if us.contains .B then s.stagedPages .B else 0))) ∧
    (∃ (s : State), (s.mode.cur = .holdUp)) :=
  ⟨⟨{ Tests.fiddle with sup := { vaux3 := true } }, by decide +kernel, by decide +kernel, by decide +kernel⟩,
   ⟨Tests.fiddle, .B, by decide +kernel, by decide +kernel, by decide +kernel, by decide +kernel⟩,
   ⟨{ Tests.up with sup := { Tests.up.sup with holdSpent := false, hold := .ready } }, by decide +kernel, by decide +kernel, by decide +kernel⟩,
   ⟨Tests.fiddle, by decide +kernel, by decide +kernel, by decide +kernel⟩,
   ⟨Tests.holdUp, [UnitId.A, UnitId.B].filter (fun u => !(Tests.holdUp.unitSt u).inReset), (if ([UnitId.A, UnitId.B].filter (fun u => !(Tests.holdUp.unitSt u).inReset)).contains .A then Tests.holdUp.stagedPages .A else 0), (if ([UnitId.A, UnitId.B].filter (fun u => !(Tests.holdUp.unitSt u).inReset)).contains .B then Tests.holdUp.stagedPages .B else 0), by decide, by decide, rfl, rfl, rfl⟩,
   ⟨Tests.holdUp, by decide +kernel⟩⟩

/-- States and operands that meet the hypotheses of SuppliesAndTemperatures: holdChargeStart; holdChargeEnd; vcoreFault,
paceWindow; vcoreSetWrite; paceTripExpiry; sensorReadRing, sensorReadHda. -/
theorem witness_SuppliesAndTemperatures_2 :
    (∃ (s : State), (s.sup.vin12 = true) ∧ (coresRun s.mode.cur = true) ∧ (s.sup.hold = .empty) ∧ (s.sup.coresFrom + 2000 ≤ s.now)) ∧
    (∃ (s : State) (t : Nat), (s.sup.hold = .charging) ∧ (s.sup.holdFrom < 20000) ∧ (s.sup.holdSince + t ≤ s.now)) ∧
    (∃ (s : State) (u : UnitId), (s.coresOn u = true)) ∧
    (∃ (s : State) (q : Requester) (u : UnitId) (v : BitVec 16), (s.Accepts q u (Obj.VCORE_SET u) (leBytes 2 v.toNat)) ∧ (v.toNat % 10 = 0) ∧ (s.mode.cur = .maintenance)) ∧
    (∃ (s : State) (u : UnitId), ((s.unitSt u).paceLow = true) ∧ (s.coresOn u = true) ∧ ((s.unitSt u).lowFrom + s.rd Obj.PACE_TRIP ≤ s.now)) ∧
    (∃ (s : State), (s.mode.cur = .frond)) :=
  ⟨⟨{ Tests.up with now := 100000000 }, by decide +kernel, by decide +kernel, by decide +kernel, by decide +kernel⟩,
   ⟨{ Tests.up with now := 100000000, sup := { Tests.up.sup with hold := .charging } }, 100000, by decide +kernel, by decide +kernel, by decide +kernel⟩,
   ⟨Tests.up, .A, by decide +kernel⟩,
   ⟨Tests.maint, .firmware, .A, 720, by decide +kernel, by decide +kernel, by decide +kernel⟩,
   ⟨{ (Tests.up.modUnit .A (fun x => { x with paceLow := true })) with now := 100000000 }, .A, by decide +kernel, by decide +kernel, by decide +kernel⟩,
   ⟨Tests.up, by decide +kernel⟩⟩

/-- States and operands that meet the hypotheses of SuppliesAndTemperatures: gddr7TemperatureRead; thermalTrip; penGrant. -/
theorem witness_SuppliesAndTemperatures_3 :
    (∃ (s : State) (u : UnitId), ((s.getBuf u.code).state ≠ .untrained)) ∧
    (∃ (s : State) (u : UnitId) (f : Nat), ((s.unitSt u).hotFrom = some f) ∧ (s.tripHot u = true) ∧ (f + 1000 ≤ s.now) ∧ (s.mode.latchDue = false)) ∧
    (∃ (s : State) (t : State) (p : Nat), (s.sup.vin12 = true) ∧ ((s.unitSt s.pair.active).fwRunning = true) ∧ ((List.range 16).find? (fun p => s.portWaits p) = some p) ∧ (s.penFree p = true) ∧ (t = s.portTo p .powering .stepComplete)) :=
  ⟨⟨Tests.up.modBuf 0 (fun b => { b with state := .inService }), .A, by decide +kernel⟩,
   ⟨{ ((Tests.up.modSensor 24 (fun r => { r with value := some 1301, broken := false })).modUnit .A (fun x => { x with hotFrom := some 0 })) with now := 100000000 }, .A, 0, by decide +kernel, by decide +kernel, by decide +kernel, by decide +kernel⟩,
   ⟨Tests.port .present, (Tests.port .present).portTo 0 .powering .stepComplete, 0, by decide +kernel, by decide +kernel, by decide +kernel, by decide +kernel, rfl⟩⟩

/-- States and operands that meet the hypotheses of StartAndRoleDecision: vaux3Applied; vaux3AppliedFirst; vaux3OutOfWindow;
rstnAsserted; selfTestComplete; claimTimer. -/
theorem witness_StartAndRoleDecision_1 :
    (∃ (s : State), (s.sup.vauxIn = false) ∧ (s.sup.vaux3 = true)) ∧
    (∃ (s : State), (s.sup.vauxIn = false) ∧ (s.sup.vaux3 = false)) ∧
    (∃ (s : State), (s.mode.cur = .fiddlehead)) ∧
    (∃ (s : State), (s.mode.cur = .frond)) ∧
    (∃ (s : State) (u : UnitId), ((s.unitSt u).inReset = false) ∧ (s.deciding = true)) ∧
    (∃ (s : State), (s.deciding = true) ∧ (s.pair.claimClosed = false) ∧ (s.pair.startAt + 12000 ≤ s.now)) :=
  ⟨⟨{ State.reset with sup := { vaux3 := true } }, by decide +kernel, by decide +kernel⟩,
   ⟨State.reset, by decide +kernel, by decide +kernel⟩,
   ⟨Tests.fiddle, by decide +kernel⟩,
   ⟨Tests.up, by decide +kernel⟩,
   ⟨Tests.deciding, .A, by decide +kernel, by decide +kernel⟩,
   ⟨{ Tests.deciding with now := 100000000, pair := { Tests.deciding.pair with claimClosed := false } }, by decide +kernel, by decide +kernel, by decide +kernel⟩⟩

/-- States and operands that meet the hypotheses of StartAndRoleDecision: roleDecision; firmwareVerifyComplete;
gddr7TrainingComplete; gddr7TrainingStandby; fwRecoveryStageWrite; recoveryCheckComplete. -/
theorem witness_StartAndRoleDecision_2 :
    (∃ (s : State) (w : UnitId), (s.deciding = true) ∧ (s.pair.claimClosed = true) ∧ (s.pair.startAt + 15000 ≤ s.now) ∧ (s.winner = (w, false)) ∧ ((s.unitSt w.other).present = true) ∧ ((s.unitSt w.other).selfTest = true) ∧ (s.mode.graveLatch = false)) ∧
    (∃ (s : State) (u : UnitId), (s.mayLoad u = true) ∧ ((s.unitSt u).selfTest = true)) ∧
    (∃ (s : State) (u : UnitId), ((s.getBuf u.code).state = .training) ∧ (((s.gddrTrained u true).cacheEnable u).pair.active = u)) ∧
    (∃ (s : State) (u : UnitId), ((s.getBuf u.code).state = .training) ∧ (((s.gddrTrained u true).cacheEnable u).pair.active ≠ u)) ∧
    (∃ (s : State) (q : Requester) (u : UnitId) (d : List Byte), (s.Accepts q u Obj.FW_RECOVERY_STAGE d) ∧ (s.sup.straps.bootSel = true) ∧ (s.sup.vin12 = true) ∧ ((s.getFw s.pair.active.code).recovery = none)) ∧
    (∃ (s : State) (d : List Byte), ((s.getFw s.pair.active.code).recovery = some d) ∧ (s.mode.cur = .fiddlehead) ∧ (s.sup.vin12 = true) ∧ ((s.modFw s.pair.active.code (fun f => { f with recovery := none })).fwCheck s.pair.active d ≠ 1)) :=
  ⟨⟨((({ Tests.deciding with now := 100000000, pair := { Tests.deciding.pair with claimClosed := true } } : State).modUnit .A (fun x => { x with selfTest := true, claim := true })).modUnit .B (fun x => { x with selfTest := true })), .A, by decide +kernel, by decide +kernel, by decide +kernel, by decide +kernel, by decide +kernel, by decide +kernel, by decide +kernel⟩,
   ⟨Tests.starting, .A, by decide +kernel, by decide +kernel⟩,
   ⟨Tests.up.modBuf 0 (fun b => { b with state := .training }), .A, by decide +kernel, by decide +kernel⟩,
   ⟨Tests.up.modBuf 1 (fun b => { b with state := .training }), .B, by decide +kernel, by decide +kernel⟩,
   ⟨{ Tests.recovering with fw := [] }, .firmware, .A, [1, 2], by decide +kernel, by decide +kernel, by decide +kernel, by decide +kernel⟩,
   ⟨Tests.recovering, [1], by decide +kernel, by decide +kernel, by decide +kernel, by decide +kernel⟩⟩

/-- States and operands that meet the hypotheses of StartAndRoleDecision: bootselChange. -/
theorem witness_StartAndRoleDecision_3 :
    ∃ (s : State), (s.sup.vaux3 = true) :=
  ⟨Tests.up, by decide +kernel⟩

/-- States and operands that meet the hypotheses of SelfDiagnosisAndRelease: checkTrip; checkTripHeld; standbyCheckTrip;
islandTripActive; islandTrip; release. -/
theorem witness_SelfDiagnosisAndRelease_1 :
    (∃ (s : State) (c : ReleaseCause), (s.pair.roleDecided = true) ∧ ((s.unitSt s.pair.active).inReset = false) ∧ (s.checkTripped s.pair.active c = true) ∧ (c.degrading = false ∨ s.peerReady = true)) ∧
    (∃ (s : State) (c : ReleaseCause), (s.pair.roleDecided = true) ∧ ((s.unitSt s.pair.active).inReset = false) ∧ (s.checkTripped s.pair.active c = true) ∧ (c.degrading = true) ∧ (s.peerReady = false) ∧ (s.pair.heldCheck = none)) ∧
    (∃ (s : State) (c : ReleaseCause), (s.standbyRuns = true) ∧ (s.checkTripped s.pair.active.other c = true)) ∧
    (∃ (s : State) (u : UnitId) (n : Nat), (s.pair.roleDecided = true) ∧ ((s.unitSt u).inReset = false) ∧ (s.rd Obj.ISLAND_TIMEOUT ≤ n) ∧ (u = s.pair.active)) ∧
    (∃ (s : State) (u : UnitId) (n : Nat), (s.standbyRuns = true) ∧ (s.rd Obj.ISLAND_TIMEOUT ≤ n) ∧ (u = s.pair.active.other)) ∧
    (∃ (s : State) (k : State) (t : State) (r : State) (ps : List Nat) (b : Bool), (s.mode.cur = .switchover) ∧ ((s.unitSt s.pair.active).releasedAt.isNone = false) ∧ (s.peerReady = true) ∧ (k = (if (s.unitSt s.pair.active).plannedRelease then s else s.ctrlDown s.pair.active)) ∧ (t = ({ k with pair := { k.pair with active := s.pair.active.other, peer := .released, settleFrom := none, takeTime := k.now, unlike := k.rowsUnlike }, mon := { k.mon with traces := [], tail := none, rateSince := none } } : State).recordsAlone) ∧ (ps = (List.range 16).filter (fun p => (t.getPort p).state.inPower)) ∧ (ps.foldl (fun (x : State × Bool) p => match x with | (s, b) => match s.shadowPort p with | (s, x) => (s, b || x)) (t, false) = (r, b))) :=
  ⟨⟨Tests.up, .exception, by decide +kernel, by decide +kernel, by decide +kernel, by decide +kernel⟩,
   ⟨Tests.up.modUnit .A (fun x => { x with diag := [(.engineChecks, 0), (.engineChecks, 0)] }), .engineChecks, by decide +kernel, by decide +kernel, by decide +kernel, by decide +kernel, by decide +kernel, by decide +kernel⟩,
   ⟨Tests.paired .ready, .exception, by decide +kernel, by decide +kernel⟩,
   ⟨Tests.up, .A, 100000000, by decide +kernel, by decide +kernel, by decide +kernel, by decide +kernel⟩,
   ⟨Tests.paired .ready, .B, 100000000, by decide +kernel, by decide +kernel, by decide +kernel⟩,
   ⟨Tests.released, Tests.released.ctrlDown .A, Tests.releasedTaken, Tests.releasedTaken, [], false, by decide +kernel, by decide +kernel, by decide +kernel, rfl, rfl, by decide +kernel, rfl⟩⟩

/-- States and operands that meet the hypotheses of SelfDiagnosisAndRelease: takeoverComplete; standbyReady;
rejoinSettleExpiry. -/
theorem witness_SelfDiagnosisAndRelease_2 :
    (∃ (s : State) (t : State), (s.mode.cur = .switchover) ∧ (s.takeover = t) ∧ (t.mode.cur ≠ .switchover)) ∧
    (∃ (s : State) (t : State), (s.pair.peer = .stateCopy) ∧ (s.mirrorUp = true) ∧ ((s.unitSt s.pair.active.other).inReset = false) ∧ ((s.getJf s.pair.active.other.code).exhausted = false) ∧ (s.shadowsValid = true) ∧ (s.lanesTrained = true) ∧ (s.sameVersion = true) ∧ ((s.unitSt s.pair.active.other).releasedAt = none) ∧ (t = s.modUnit s.pair.active.other (fun x => { x with releasedAt := none, plannedRelease := false, tripped := false, resent := false }))) ∧
    (∃ (s : State) (t : Nat), (s.pair.settleFrom = some t) ∧ (t + 1000000 * s.rd Obj.REJOIN_SETTLE ≤ s.now)) :=
  ⟨⟨Tests.takeover, Tests.takeover.takeover, by decide +kernel, rfl, by decide +kernel⟩,
   ⟨Tests.paired .stateCopy, ((Tests.paired .stateCopy).modUnit .B (fun x => { x with releasedAt := none, plannedRelease := false, tripped := false, resent := false })), by decide +kernel, by decide +kernel, by decide +kernel, by decide +kernel, by decide +kernel, by decide +kernel, by decide +kernel, by decide +kernel, rfl⟩,
   ⟨{ Tests.up with now := 10000000000, pair := { Tests.up.pair with settleFrom := some 0 } }, 0, by decide +kernel, by decide +kernel⟩⟩

/-- States and operands that meet the hypotheses of RejoinActivationAndMirror: rejoinResetRelease;
rejoinResetReleaseRefused; rejoinAttempt; plannedSwitchover; plannedSwitchoverMaintenance; warmRestart. -/
theorem witness_RejoinActivationAndMirror_1 :
    (∃ (s : State) (u : UnitId) (t : Nat), ((s.unitSt u).releasedAt = some t) ∧ (t + 10000 ≤ s.now) ∧ ((s.unitSt u).plannedRelease = false) ∧ ((s.unitSt u).inReset = true) ∧ (s.pair.peer = .released) ∧ (s.releases24h u ≤ s.rd Obj.REJOIN_LIMIT) ∧ (s.rd Obj.AUTO_REJOIN = 1)) ∧
    (∃ (s : State) (u : UnitId) (t : Nat), ((s.unitSt u).releasedAt = some t) ∧ (t + 10000 ≤ s.now) ∧ ((s.unitSt u).plannedRelease = false) ∧ ((s.unitSt u).inReset = true) ∧ (s.pair.peer = .released) ∧ (s.rd Obj.REJOIN_LIMIT < s.releases24h u)) ∧
    (∃ (s : State) (q : Requester) (u : UnitId), (s.Accepts q u Obj.PAIR_COMMAND [2]) ∧ (s.pair.peer = .refused) ∧ ((s.unitSt s.pair.active.other).inReset = true)) ∧
    (∃ (s : State) (q : Requester) (u : UnitId), (s.Accepts q u Obj.PAIR_COMMAND [1]) ∧ (s.mode.cur = .frond) ∧ (s.peerReady = true)) ∧
    (∃ (s : State) (q : Requester) (u : UnitId), (s.Accepts q u Obj.PAIR_COMMAND [1]) ∧ (s.mode.cur = .maintenance) ∧ (s.peerReady = true)) ∧
    (∃ (s : State) (u : UnitId), (u ≠ s.pair.active) ∧ ((s.unitSt u).inReset = false) ∧ (s.pair.roleDecided = true)) :=
  ⟨⟨{ ((Tests.paired .released).modUnit .B (fun x => { x with releasedAt := some 0, inReset := true })) with now := 100000000 }, .B, 0, by decide +kernel, by decide +kernel, by decide +kernel, by decide +kernel, by decide +kernel, by decide +kernel, by decide +kernel⟩,
   ⟨{ (((Tests.paired .released).modUnit .B (fun x => { x with releasedAt := some 0, inReset := true, releases := [0, 0, 0, 0, 0, 0, 0, 0, 0, 0] })).wr Obj.REJOIN_LIMIT 3) with now := 100000000 }, .B, 0, by decide +kernel, by decide +kernel, by decide +kernel, by decide +kernel, by decide +kernel, by decide +kernel⟩,
   ⟨{ (Tests.paired .refused).modUnit .B (fun x => { x with inReset := true }) with mode := Tests.maint.mode }, .firmware, .A, by decide +kernel, by decide +kernel, by decide +kernel⟩,
   ⟨Tests.paired .ready, .firmware, .A, by decide +kernel, by decide +kernel, by decide +kernel⟩,
   ⟨{ Tests.paired .ready with mode := Tests.maint.mode }, .firmware, .A, by decide +kernel, by decide +kernel, by decide +kernel⟩,
   ⟨Tests.paired .ready, .B, by decide +kernel, by decide +kernel, by decide +kernel⟩⟩

/-- States and operands that meet the hypotheses of RejoinActivationAndMirror: activationStepAdvance;
activationStepAdvanceRestart; mirrorMessage; mirrorLinkDownHalf; mirrorLinkDown; mirrorRetrainFails. -/
theorem witness_RejoinActivationAndMirror_2 :
    (∃ (s : State), (s.pair.step = .sendImage) ∧ (s.fwCheck s.pair.actHome.other (s.slotImage s.pair.actHome s.pair.actSlot) ≠ 1)) ∧
    (∃ (s : State), (s.pair.step = .peerRestart) ∧ (s.peerReady = true) ∧ (s.mode.cur = .frond)) ∧
    (∃ (s : State), (s.mirrorUp = true) ∧ (s.pair.peer = .ready)) ∧
    (∃ (s : State), (s.pair.mirror = .up16) ∧ (s.mirrorUp = true)) ∧
    (∃ (s : State), (s.mirrorUp = true) ∧ (s.pair.peer = .ready) ∧ (s.mode.cur = .frond)) ∧
    (∃ (s : State), (s.mirrorUp = false) ∧ (s.mode.cur = .frond) ∧ (s.pair.mirror = .training) ∧ (s.bit Obj.PAIR_STATUS Flag.PAIR_MIRROR_DOWN.bit = false)) :=
  ⟨⟨{ (Tests.paired .ready).modFw 0 (fun f => { f with slots := [(2, [1])] }) with pair := { (Tests.paired .ready).pair with step := .sendImage, actSlot := 2 } }, by decide +kernel, by decide +kernel⟩,
   ⟨{ Tests.up with pair := { (Tests.paired .ready).pair with step := .peerRestart, actSlot := 2 } }, by decide +kernel, by decide +kernel, by decide +kernel⟩,
   ⟨Tests.paired .ready, by decide +kernel, by decide +kernel⟩,
   ⟨Tests.paired .ready, by decide +kernel, by decide +kernel⟩,
   ⟨Tests.paired .ready, by decide +kernel, by decide +kernel, by decide +kernel⟩,
   ⟨Tests.paired .absent .training, by decide +kernel, by decide +kernel, by decide +kernel, by decide +kernel⟩⟩

/-- States and operands that meet the hypotheses of RejoinActivationAndMirror: mirrorRetrain. -/
theorem witness_RejoinActivationAndMirror_3 :
    ∃ (s : State) (t : State), (s.mirrorUp = false) ∧ (s.mode.cur = .frond) ∧ (s.pair.mirror = .down) ∧ (s.pair.mirrorAt + 100000 ≤ s.now) ∧ (t = s.inc Obj.MIRROR_RETRAINS) ∧ ((t.unitSt .A).inReset = false) ∧ ((t.unitSt .B).inReset = false) :=
  ⟨{ Tests.paired .absent .down with now := 100000000 }, ({ Tests.paired .absent .down with now := 100000000 } : State).inc Obj.MIRROR_RETRAINS, by decide +kernel, by decide +kernel, by decide +kernel, by decide +kernel, rfl, by decide +kernel, by decide +kernel⟩

/-- States and operands that meet the hypotheses of BufferAccessesAndScrubbing: mergeWriteback; linkTransferFailWrite,
linkTransferFail, bufferRead, bufferWrite; linkTransferRetried; selfRefreshIdle; remapRequest; logClear. -/
theorem witness_BufferAccessesAndScrubbing_1 :
    (∃ (s : State) (t : State) (u : UnitId) (g : Nat) (e : MergeEntry), ((s.getBuf u.code).state.holds = false) ∧ ((s.getBuf u.code).merge.find? (fun e => e.group == g) = some e) ∧ (s.rd (Obj.MERGE_HOLD u) ≤ 1000 * (s.now - e.since)) ∧ (t = s.wake u)) ∧
    (∃ (s : State) (u : UnitId), ((s.getBuf u.code).state.holds = false)) ∧
    (∃ (s : State) (u : UnitId) (n : Fin 4), ((s.getBuf u.code).state.holds = false) ∧ (n.val < 3)) ∧
    (∃ (s : State) (u : UnitId), (s.mode.cur = .quiescent) ∧ ((s.getBuf u.code).lastUse + s.rd (Obj.SR_IDLE u) ≤ s.now) ∧ ((s.getBuf u.code).state = .inService) ∧ ((s.getBuf u.code).held.isEmpty = true)) ∧
    (∃ (s : State) (q : Requester) (u : UnitId) (g : BitVec 32), (s.mode.cur ≠ .switchover) ∧ (s.writeErr u 0x4002 1 q (leBytes 4 g.toNat) = 0)) ∧
    (∃ (s : State) (q : Requester) (u : UnitId), (s.Accepts q u (Obj.LOG_CLEAR u) [1])) :=
  ⟨⟨{ Tests.bufUp.modBuf 0 (fun b => { b with merge := [{ group := 5, bytes := List.replicate 512 7, written := [0] }] }) with now := 100000000 }, ({ Tests.bufUp.modBuf 0 (fun b => { b with merge := [{ group := 5, bytes := List.replicate 512 7, written := [0] }] }) with now := 100000000 } : State).wake .A, .A, 5, { group := 5, bytes := List.replicate 512 7, written := [0] }, by decide +kernel, by decide +kernel, by decide +kernel, rfl⟩,
   ⟨Tests.bufUp, .A, by decide +kernel⟩,
   ⟨Tests.bufUp, .A, 0, by decide +kernel, by decide +kernel⟩,
   ⟨{ Tests.bufUp with now := 10000000000, mode := { cur := .quiescent } }, .A, by decide +kernel, by decide +kernel, by decide +kernel, by decide +kernel⟩,
   ⟨Tests.bufMaint, .firmware, .A, 7, by decide +kernel, by decide +kernel⟩,
   ⟨Tests.bufMaint, .firmware, .A, by decide +kernel⟩⟩

/-- States and operands that meet the hypotheses of BufferAccessesAndScrubbing: scrubStart; scrubStop; scrubGroupSkips;
scrubGroup; scrubIntervalExpiry; flipModeWrite. -/
theorem witness_BufferAccessesAndScrubbing_2 :
    (∃ (s : State) (q : Requester) (u : UnitId), (s.Accepts q u (Obj.SCRUB_COMMAND u) [1]) ∧ ((s.getBuf u.code).scrub.result ≠ 1)) ∧
    (∃ (s : State) (q : Requester) (u : UnitId), (s.Accepts q u (Obj.SCRUB_COMMAND u) [2]) ∧ ((s.getBuf u.code).scrub.result = 1)) ∧
    (∃ (s : State) (u : UnitId), ((s.getBuf u.code).scrub.result = 1) ∧ ((s.getBuf u.code).state.holds = false) ∧ (512 * (s.getBuf u.code).scrub.done ≤ s.rd (Obj.SCRUB_RATE u) * (s.now - (s.getBuf u.code).scrub.startTime)) ∧ ((s.getBuf u.code).merge.any (fun x => x.group == (s.getBuf u.code).scrub.next) = true) ∧ ((s.getBuf u.code).scrub.next < (s.getBuf u.code).scrub.last) ∧ ((s.getBuf u.code).scrub.stopAsked = false)) ∧
    (∃ (s : State) (u : UnitId), ((s.getBuf u.code).scrub.result = 1) ∧ ((s.getBuf u.code).state.holds = false) ∧ (512 * (s.getBuf u.code).scrub.done ≤ s.rd (Obj.SCRUB_RATE u) * (s.now - (s.getBuf u.code).scrub.startTime))) ∧
    (∃ (s : State) (u : UnitId), (s.rd (Obj.SCRUB_INTERVAL u) ≠ 0) ∧ ((s.getBuf u.code).scrubAt + 3600000000 * s.rd (Obj.SCRUB_INTERVAL u) ≤ s.now) ∧ (s.mode.cur = .frond) ∧ ((s.getBuf u.code).scrub.result ≠ 1)) ∧
    (∃ (s : State) (q : Requester) (u : UnitId) (v : BitVec 8), (s.Accepts q u (Obj.FLIP_MODE u) [v]) ∧ (s.flipFieldsOk u v.toNat = true)) :=
  ⟨⟨Tests.bufMaint, .firmware, .A, by decide +kernel, by decide +kernel⟩,
   ⟨Tests.bufMaint.modBuf 0 (fun b => { b with scrub := { b.scrub with result := 1 } }), .firmware, .A, by decide +kernel, by decide +kernel⟩,
   ⟨Tests.bufUp.modBuf 0 (fun b => { b with scrub := { b.scrub with result := 1, next := 5, last := 9 }, merge := [{ group := 5, bytes := [], written := [] }] }), .A, by decide +kernel, by decide +kernel, by decide +kernel, by decide +kernel, by decide +kernel, by decide +kernel⟩,
   ⟨Tests.bufUp.modBuf 0 (fun b => { b with scrub := { b.scrub with result := 1, next := 5, last := 9 } }), .A, by decide +kernel, by decide +kernel, by decide +kernel⟩,
   ⟨{ Tests.bufUp.wr (Obj.SCRUB_INTERVAL .A) 5 with now := 100000000000 }, .A, by decide +kernel, by decide +kernel, by decide +kernel, by decide +kernel⟩,
   ⟨Tests.bufMaint, .firmware, .A, 0, by decide +kernel, by decide +kernel⟩⟩

/-- States and operands that meet the hypotheses of BufferAccessesAndScrubbing: bufferReadHeld; bufferOutOfRange;
gddr7RetrainComplete. -/
theorem witness_BufferAccessesAndScrubbing_3 :
    (∃ (s : State) (u : UnitId), ((s.getBuf u.code).state.holds = true)) ∧
    (∃ (s : State) (u : UnitId) (a : Nat) (d : List Byte), ((s.getBuf u.code).state.holds = false) ∧ (bufLimit < a + d.length)) ∧
    (∃ (s : State) (u : UnitId), ((s.getBuf u.code).state = .retraining)) :=
  ⟨⟨Tests.up, .A, by decide +kernel⟩,
   ⟨Tests.bufUp, .A, bufLimit - 1, [1, 2], by decide +kernel, by decide +kernel⟩,
   ⟨Tests.up.modBuf 0 (fun b => { b with state := .retraining }), .A, by decide +kernel⟩⟩

/-- States and operands that meet the hypotheses of CacheAndRawWindows: cacheAccess; cacheWritebackComplete;
cacheWritebackCompleteAgain; wayEnableWrite; wayCleanDone; cacheEnable. -/
theorem witness_CacheAndRawWindows_1 :
    (∃ (d : Option (List Byte)), (d = none)) ∧
    (∃ (s : State) (u : UnitId), ((s.getCache u.code).evict = [])) ∧
    (∃ (s : State) (u : UnitId) (e : EvictEntry) (r : List EvictEntry), ((s.getBuf u.code).state.holds = false) ∧ ((s.getCache u.code).evict = e :: r) ∧ (e.again = true)) ∧
    (∃ (s : State) (q : Requester) (u : UnitId) (v : BitVec 16), (s.Accepts q u (Obj.WAY_ENABLE u) (leBytes 2 v.toNat)) ∧ (v ≠ 0)) ∧
    (∃ (s : State) (u : UnitId) (w : Nat), (w < 16) ∧ (s.bit (Obj.WAY_CLEANING u) w = true) ∧ ((s.getCache u.code).firstDirty w = none)) ∧
    (∃ (s : State) (q : Requester) (u : UnitId), (s.Accepts q u (Obj.CACHE_CONTROL u) [1]) ∧ ((s.getCache u.code).state = .disabled)) :=
  ⟨⟨none, by decide +kernel⟩,
   ⟨Tests.bufUp, .A, by decide +kernel⟩,
   ⟨Tests.bufUp.modCache 0 (fun c => { c with evict := [{ group := 1, bytes := List.replicate 512 3, again := true, wanted := false }] }), .A, { group := 1, bytes := List.replicate 512 3, again := true, wanted := false }, [], by decide +kernel, by decide +kernel, by decide +kernel⟩,
   ⟨Tests.bufMaint, .firmware, .A, 1, by decide +kernel, by decide +kernel⟩,
   ⟨Tests.bufUp.setBit (Obj.WAY_CLEANING .A) 3 true, .A, 3, by decide +kernel, by decide +kernel, by decide +kernel⟩,
   ⟨Tests.bufMaint, .firmware, .A, by decide +kernel, by decide +kernel⟩⟩

/-- States and operands that meet the hypotheses of CacheAndRawWindows: cacheDisable; cacheDisableComplete; rawCommand;
rawOperationComplete; bufWinDataAccess; bufWinDataAccessWrite. -/
theorem witness_CacheAndRawWindows_2 :
    (∃ (s : State) (q : Requester) (u : UnitId), (s.Accepts q u (Obj.CACHE_CONTROL u) [2]) ∧ ((s.getCache u.code).state = .enabled)) ∧
    (∃ (s : State) (u : UnitId), ((s.getCache u.code).state = .disablePending) ∧ ((s.getCache u.code).evict = []) ∧ ((s.getCache u.code).lines = [])) ∧
    (∃ (s : State) (q : Requester) (u : UnitId) (p : PortId) (a : ActId) (v : BitVec 8), (s.mode.cur ≠ .switchover) ∧ (s.writeErr u (keyIndex (Obj.RAW_COMMAND p a)) 1 q (leBytes 1 v.toNat) = 0) ∧ ((s.getRaw (chanKey p a)).op = none) ∧ ((s.rawTargetOf p a).inRange = true) ∧ ((s.rawTargetOf p a).op = 1)) ∧
    (∃ (s : State) (p : PortId) (a : ActId) (op : Nat) (l : List Nat), ((s.getRaw (chanKey p a)).op = some op) ∧ ((s.getRaw (chanKey p a)).results (s.rawTargetOf p a).count = some l)) ∧
    (∃ (s : State) (q : Requester) (u : UnitId), (s.mode.cur ≠ .switchover) ∧ (s.readErr 0x9000 1 q = 0) ∧ (s.rd (Obj.BUF_WIN_ADDR u) + 65536 ≤ bufLimit) ∧ (s.bufReady u = true)) ∧
    (∃ (s : State) (q : Requester) (u : UnitId) (d : List Byte), (s.Accepts q u (Obj.BUF_WIN_DATA u) d) ∧ (s.rd (Obj.BUF_WIN_ADDR u) + 65536 ≤ bufLimit) ∧ (s.bufReady u = true)) :=
  ⟨⟨Tests.bufMaint.modCache 0 (fun c => { c with state := .enabled }), .firmware, .A, by decide +kernel, by decide +kernel⟩,
   ⟨Tests.bufUp.modCache 0 (fun c => { c with state := .disablePending }), .A, by decide +kernel, by decide +kernel, by decide +kernel⟩,
   ⟨Tests.rawMaint, .firmware, .A, 0, 0, 1, by decide +kernel, by decide +kernel, by decide +kernel, by decide +kernel, by decide +kernel⟩,
   ⟨Tests.rawMaint.modRaw 0 (fun r => { r with op := some 1, words := [(0, 3)] }), 0, 0, 1, [3], by decide +kernel, by decide +kernel⟩,
   ⟨Tests.bufMaint, .firmware, .A, by decide +kernel, by decide +kernel, by decide +kernel, by decide +kernel⟩,
   ⟨Tests.bufMaint, .firmware, .A, List.replicate 65536 0, by decide +kernel, by decide +kernel, by decide +kernel⟩⟩

/-- States and operands that meet the hypotheses of EventFabricAndDma: evPulse; evPulseCoder; evFire; timerTick;
timerTickOff; timerWrite. -/
theorem witness_EventFabricAndDma_1 :
    (∃ (s : State) (u : UnitId) (e : Nat), ((s.fabric.find? (fun x => x.1 = u)) = some (u, e))) ∧
    (∃ (s : State) (u : UnitId) (i : Fin 4), ((mapGet (fun _ => ({} : CoderSt)) (s.getFab u.code).coder i.val).cols ≠ 0)) ∧
    (∃ (s : State) (q : Requester) (u : UnitId) (v : BitVec 8), (s.Accepts q u (Obj.EV_FIRE u) [v])) ∧
    (∃ (s : State) (u : UnitId) (t : Fin 8), ((s.unitSt u).fwRunning = true) ∧ (s.rd (Obj.TIMER_PERIOD u t) ≠ 0) ∧ ((s.rd (Obj.TIMER_SWEEP u)).testBit t = false) ∧ (mapGet (fun _ => 0) (s.getFab u.code).timers t + s.rd (Obj.TIMER_PERIOD u t) ≤ s.now)) ∧
    (∃ (s : State) (u : UnitId) (t : Fin 8), ((s.unitSt u).fwRunning = true) ∧ (s.rd (Obj.TIMER_PERIOD u t) = 0 ∨ (s.rd (Obj.TIMER_SWEEP u)).testBit t = true)) ∧
    (∃ (s : State) (q : Requester) (u : UnitId) (i : Fin 9) (v : Word), (s.Accepts q u (Obj.TIMER_PERIOD u i) (leBytes 4 v.toNat)) ∧ (i.val < 8)) :=
  ⟨⟨{ Tests.up with fabric := [(.A, 5)] }, .A, 5, by decide +kernel⟩,
   ⟨Tests.up.modFab 0 (fun f => { f with powered := 127, coder := mapPut (fun _ => ({} : CoderSt)) [] 2 { profile := 0, cols := 2 } }), .A, 2, by decide +kernel⟩,
   ⟨Tests.maint, .firmware, .A, 0x70, by decide +kernel⟩,
   ⟨{ Tests.up.wr (Obj.TIMER_PERIOD .A 7) 9 with now := 100 }, .A, 7, by decide +kernel, by decide +kernel, by decide +kernel, by decide +kernel⟩,
   ⟨Tests.up, .A, 7, by decide +kernel, by decide +kernel⟩,
   ⟨Tests.maint, .firmware, .A, 3, 5, by decide +kernel, by decide +kernel⟩⟩

/-- States and operands that meet the hypotheses of EventFabricAndDma: chArm; chStop; chStopWaiting; dmaBurstResponse;
dmaBurstNotServed; dmaBurstFills. -/
theorem witness_EventFabricAndDma_2 :
    (∃ (s : State) (t : State) (q : Requester) (u : UnitId) (n : Fin 32) (l : List (Fin 4 × CoderSetup)), (t = s.modFab u.code (fun f => { f with coder := l.foldl (fun m e => mapPut (fun _ => ({} : CoderSt)) m e.1 { profile := e.2.profile.toNat, cols := e.2.cols.toNat, addrs := e.2.addrs.map BitVec.toNat }) f.coder })) ∧ (t.Accepts q u (Obj.CH_CTRL u n) [1]) ∧ ((t.getDma (dmaKey u n)).st = .idle)) ∧
    (∃ (s : State) (q : Requester) (u : UnitId) (n : Fin 32), (s.Accepts q u (Obj.CH_CTRL u n) [2]) ∧ ((s.getDma (dmaKey u n)).st = .running)) ∧
    (∃ (s : State) (q : Requester) (u : UnitId) (n : Fin 32), (s.Accepts q u (Obj.CH_CTRL u n) [2]) ∧ ((s.getDma (dmaKey u n)).st = .waitCredit)) ∧
    (∃ (s : State) (u : UnitId) (n : Fin 32), ((s.getDma (dmaKey u n)).st = .running) ∧ (s.dmaServed u n = true)) ∧
    (∃ (s : State) (u : UnitId) (n : Fin 32), ((s.getDma (dmaKey u n)).st = .running) ∧ (s.dmaServed u n = false)) ∧
    (∃ (s : State) (t : State) (u : UnitId) (n : Fin 32) (c : DmaSt) (d : List Byte), ((s.getDma (dmaKey u n)).st = .running) ∧ (s.dmaServed u n = true) ∧ (t = s.modFab u.code (fun f => { f with turns := mapPut (fun _ => 31) f.turns (s.rd (Obj.PRIORITY u n)) n.val })) ∧ (t.getDma (dmaKey u n) = c) ∧ (c.fld 47 1 = 2) ∧ (c.fld 15 1 = 0) ∧ (d = (List.range c.burst.2.2).map (fun i => c.desc.getD ((c.off + i) % 8) 0)) ∧ ((t.engWrite u c.burst.2.1 d).2 = false)) :=
  ⟨⟨Tests.bufMaint, Tests.bufMaint.modFab 0 (fun f => f), .firmware, .A, 31, [], rfl, by decide +kernel, by decide +kernel⟩,
   ⟨Tests.bufMaint.modDma 31 (fun c => { c with st := .running }), .firmware, .A, 31, by decide +kernel, by decide +kernel⟩,
   ⟨Tests.bufMaint.modDma 31 (fun c => { c with st := .waitCredit }), .firmware, .A, 31, by decide +kernel, by decide +kernel⟩,
   ⟨Tests.bufUp.modDma 0 (fun c => { c with st := .running }), .A, 0, by decide +kernel, by decide +kernel⟩,
   ⟨(Tests.bufUp.modDma 0 (fun c => { c with st := .running })).modDma 1 (fun c => { c with st := .running }), .A, 1, by decide +kernel, by decide +kernel⟩,
   ⟨Tests.filling, Tests.filling.modFab 0 (fun f => { f with turns := mapPut (fun _ => 31) f.turns (Tests.filling.rd (Obj.PRIORITY .A 0)) 0 }), .A, 0, Tests.filling.getDma 0, (List.range (Tests.filling.getDma 0).burst.2.2).map (fun i => (Tests.filling.getDma 0).desc.getD (((Tests.filling.getDma 0).off + i) % 8) 0), by decide +kernel, by decide +kernel, rfl, by decide +kernel, by decide +kernel, by decide +kernel, rfl, by decide +kernel⟩⟩

/-- States and operands that meet the hypotheses of EventFabricAndDma: ringTailWrite; ringBaseWrite; engineJobComplete;
domainPowerDown; domainPowerDownComplete; domainPowerUp. -/
theorem witness_EventFabricAndDma_3 :
    (∃ (s : State) (q : Requester) (u : UnitId) (e : Fin 16) (v : BitVec 8), (s.Accepts q u (Obj.RING_TAIL u e) [v])) ∧
    (∃ (s : State) (q : Requester) (u : UnitId) (e : Fin 16) (v : BitVec 64), (s.Accepts q u (Obj.RING_BASE u e) (leBytes 8 v.toNat)) ∧ (s.rd (Obj.RING_HEAD u e) = s.rd (Obj.RING_TAIL u e)) ∧ (v.toNat % 4096 = 0)) ∧
    (∃ (s : State) (u : UnitId) (e : Fin 16), (s.engBusy u e = true)) ∧
    (∃ (s : State) (q : Requester) (u : UnitId) (d : Fin 7), (s.Accepts q u (Obj.DOMAIN_REQUEST u) [BitVec.ofNat 8 d]) ∧ ((s.getFab u.code).going.contains d.val = false) ∧ ((s.getFab u.code).powered.testBit d = true)) ∧
    (∃ (s : State) (u : UnitId) (d : Fin 7), ((s.getFab u.code).going.contains d.val = true)) ∧
    (∃ (s : State) (q : Requester) (u : UnitId) (d : Fin 7), (s.Accepts q u (Obj.DOMAIN_REQUEST u) [BitVec.ofNat 8 (128 + d)]) ∧ ((s.getFab u.code).going.contains d.val = false)) :=
  ⟨⟨Tests.maint, .firmware, .A, 15, 1, by decide +kernel⟩,
   ⟨Tests.maint, .firmware, .A, 15, 0x3000, by decide +kernel, by decide +kernel, by decide +kernel⟩,
   ⟨(Tests.bufUp.wr (Obj.RING_TAIL .A 0) 1).modFab 0 (fun f => { f with powered := 127 }), .A, 0, by decide +kernel⟩,
   ⟨Tests.bufMaint.modFab 0 (fun f => { f with powered := 127 }), .firmware, .A, 3, by decide +kernel, by decide +kernel, by decide +kernel⟩,
   ⟨Tests.bufUp.modFab 0 (fun f => { f with powered := 127, going := [3] }), .A, 3, by decide +kernel⟩,
   ⟨Tests.bufMaint, .firmware, .A, 3, by decide +kernel, by decide +kernel⟩⟩

/-- States and operands that meet the hypotheses of EventFabricAndDma: domainPowerUpHeld. -/
theorem witness_EventFabricAndDma_4 :
    ∃ (s : State) (q : Requester) (u : UnitId) (d : Fin 7), (s.Accepts q u (Obj.DOMAIN_REQUEST u) [BitVec.ofNat 8 (128 + d)]) ∧ ((s.getFab u.code).going.contains d.val = true) :=
  ⟨Tests.bufMaint.modFab 0 (fun f => { f with going := [3] }), .firmware, .A, 3, by decide +kernel, by decide +kernel⟩

/-- States and operands that meet the hypotheses of AdminQueuesAndFeatures: commandFetch; commandFetchEnters;
forwardedCommand; invalidCommandOpcode; createIoCompletionQueue; createIoSubmissionQueue. -/
theorem witness_AdminQueuesAndFeatures_1 :
    (∃ (s : State) (t : CmdTag), (t.ctrl = s.pair.active)) ∧
    (∃ (s : State) (t : CmdTag) (l : List (Nat × Nat)) (m : List (Nat × Nat)), (t.ctrl = s.pair.active) ∧ (s.cmds.any (fun c => c.tag == t) = false) ∧ ((s.getCtrl t.ctrl.code).rdy = true) ∧ (fetches s.mode.cur = true) ∧ ((s.getCtrl t.ctrl.code).sqs.any (fun q => q.qid == t.sq) = true) ∧ (s.cmds.length < 16384) ∧ (s.bufferFull 0 = false) ∧ (s.admits t ((t.sq, 0) :: l.filter (fun e => e.1 != t.sq)) m = true)) ∧
    (∃ (s : State) (t : CmdTag), (t.ctrl ≠ s.pair.active)) ∧
    (∃ (s : State) (t : CmdTag), (s.Begins t 0)) ∧
    (∃ (s : State) (r : State) (t : CmdTag) (i : Nat) (z : Nat) (v : Nat), (s.Begins t 0) ∧ (r = (s.fetch t 0).1.modCmd t (fun c => { c with kind := .admin })) ∧ (1 ≤ i) ∧ (i ≤ 64) ∧ ((r.getCtrl t.ctrl.code).cqs.any (fun q => q.qid == i) = false) ∧ (2 ≤ z) ∧ (z ≤ 1024) ∧ (v ≤ 64)) ∧
    (∃ (s : State) (r : State) (t : CmdTag) (i : Nat) (z : Nat) (q : Nat), (s.Begins t 0) ∧ (r = (s.fetch t 0).1.modCmd t (fun c => { c with kind := .admin })) ∧ (1 ≤ i) ∧ (i ≤ 64) ∧ ((r.getCtrl t.ctrl.code).sqs.any (fun x => x.qid == i) = false) ∧ (2 ≤ z) ∧ (z ≤ 1024) ∧ (1 ≤ q) ∧ ((r.getCtrl t.ctrl.code).cqs.any (fun x => x.qid == q) = true)) :=
  ⟨⟨Tests.hosted, Tests.io, by decide +kernel⟩,
   ⟨Tests.hosted, Tests.io, [], [], by decide +kernel, by decide +kernel, by decide +kernel, by decide +kernel, by decide +kernel, by decide +kernel, by decide +kernel, by decide +kernel⟩,
   ⟨Tests.hosted, ⟨.B, 1, 7⟩, by decide +kernel⟩,
   ⟨Tests.hosted, Tests.io, by decide +kernel⟩,
   ⟨Tests.hosted, (Tests.hosted.fetch Tests.adm 0).1.modCmd Tests.adm (fun c => { c with kind := .admin }), Tests.adm, 64, 1024, 64, by decide +kernel, rfl, by decide +kernel, by decide +kernel, by decide +kernel, by decide +kernel, by decide +kernel, by decide +kernel⟩,
   ⟨Tests.hosted, (Tests.hosted.fetch Tests.adm 0).1.modCmd Tests.adm (fun c => { c with kind := .admin }), Tests.adm, 64, 2, 1, by decide +kernel, rfl, by decide +kernel, by decide +kernel, by decide +kernel, by decide +kernel, by decide +kernel, by decide +kernel, by decide +kernel⟩⟩

/-- States and operands that meet the hypotheses of AdminQueuesAndFeatures: deleteIoSubmissionQueue;
deleteIoCompletionQueue; getLogPage; identify; nvmeAbort; setFeatures. -/
theorem witness_AdminQueuesAndFeatures_2 :
    (∃ (s : State) (r : State) (t : CmdTag) (i : Nat), (s.Begins t 0) ∧ (r = (s.fetch t 0).1.modCmd t (fun c => { c with kind := .admin })) ∧ (1 ≤ i) ∧ ((r.getCtrl t.ctrl.code).sqs.any (fun x => x.qid == i) = true)) ∧
    (∃ (s : State) (r : State) (t : CmdTag) (i : Nat), (s.Begins t 0) ∧ (r = (s.fetch t 0).1.modCmd t (fun c => { c with kind := .admin })) ∧ (1 ≤ i) ∧ ((r.getCtrl t.ctrl.code).cqs.any (fun x => x.qid == i) = true) ∧ ((r.getCtrl t.ctrl.code).sqs.any (fun x => x.cq == i) = false)) ∧
    (∃ (s : State) (r : State) (t : CmdTag) (b : List Byte) (w : State), (s.Begins t 0) ∧ (r = (s.fetch t 0).1.modCmd t (fun c => { c with kind := .admin })) ∧ (r.freeBytes 512 = (b, w))) ∧
    (∃ (s : State) (r : State) (t : CmdTag) (b : List Byte) (w : State) (v : State) (x : Nat), (s.Begins t 0) ∧ (r = (s.fetch t 0).1.modCmd t (fun c => { c with kind := .admin })) ∧ (r.freeBytes 16 = (b, w)) ∧ (w.next = (x, v))) ∧
    (∃ (s : State) (r : State) (t : CmdTag) (q : Nat) (i : Nat), (s.Begins t 0) ∧ (r = (s.fetch t 0).1.modCmd t (fun c => { c with kind := .admin })) ∧ ((r.getCtrl t.ctrl.code).sqs.any (fun x => x.qid == q) = true) ∧ (r.cmds.any (fun c => c.tag == ⟨t.ctrl, q, i⟩) = false)) ∧
    (∃ (s : State) (r : State) (t : CmdTag), (s.Begins t 0) ∧ (r = (s.fetch t 0).1.modCmd t (fun c => { c with kind := .admin }))) :=
  ⟨⟨Tests.hosted, (Tests.hosted.fetch Tests.adm 0).1.modCmd Tests.adm (fun c => { c with kind := .admin }), Tests.adm, 1, by decide +kernel, rfl, by decide +kernel, by decide +kernel⟩,
   ⟨Tests.hostedNoSq, (Tests.hostedNoSq.fetch Tests.adm 0).1.modCmd Tests.adm (fun c => { c with kind := .admin }), Tests.adm, 1, by decide +kernel, rfl, by decide +kernel, by decide +kernel, by decide +kernel⟩,
   ⟨Tests.hosted, (Tests.hosted.fetch Tests.adm 0).1.modCmd Tests.adm (fun c => { c with kind := .admin }), Tests.adm, (((Tests.hosted.fetch Tests.adm 0).1.modCmd Tests.adm (fun c => { c with kind := .admin })).freeBytes 512).1, (((Tests.hosted.fetch Tests.adm 0).1.modCmd Tests.adm (fun c => { c with kind := .admin })).freeBytes 512).2, by decide +kernel, rfl, (Prod.eta _).symm⟩,
   ⟨Tests.hosted, (Tests.hosted.fetch Tests.adm 0).1.modCmd Tests.adm (fun c => { c with kind := .admin }), Tests.adm, (((Tests.hosted.fetch Tests.adm 0).1.modCmd Tests.adm (fun c => { c with kind := .admin })).freeBytes 16).1, (((Tests.hosted.fetch Tests.adm 0).1.modCmd Tests.adm (fun c => { c with kind := .admin })).freeBytes 16).2, (((Tests.hosted.fetch Tests.adm 0).1.modCmd Tests.adm (fun c => { c with kind := .admin })).freeBytes 16).2.next.2, (((Tests.hosted.fetch Tests.adm 0).1.modCmd Tests.adm (fun c => { c with kind := .admin })).freeBytes 16).2.next.1, by decide +kernel, rfl, rfl, rfl⟩,
   ⟨Tests.hosted, (Tests.hosted.fetch Tests.adm 0).1.modCmd Tests.adm (fun c => { c with kind := .admin }), Tests.adm, 1, 9, by decide +kernel, rfl, by decide +kernel, by decide +kernel⟩,
   ⟨Tests.hosted, (Tests.hosted.fetch Tests.adm 0).1.modCmd Tests.adm (fun c => { c with kind := .admin }), Tests.adm, by decide +kernel, rfl⟩⟩

/-- States and operands that meet the hypotheses of AdminQueuesAndFeatures: getFeatures; asynchronousEventRequest;
firmwareImageDownload. -/
theorem witness_AdminQueuesAndFeatures_3 :
    (∃ (s : State) (r : State) (t : CmdTag) (x : Nat × Nat), (s.Begins t 0) ∧ (r = (s.fetch t 0).1.modCmd t (fun c => { c with kind := .admin })) ∧ ((r.getCtrl t.ctrl.code).features.find? (fun e => e.1 == 4) = some x)) ∧
    (∃ (s : State) (r : State) (t : CmdTag), (s.Begins t 0) ∧ (r = (s.fetch t 0).1.modCmd t (fun c => { c with kind := .admin })) ∧ ((r.getCtrl t.ctrl.code).aers.length < 8) ∧ ((r.getCtrl t.ctrl.code).events = [])) ∧
    (∃ (s : State) (r : State) (t : CmdTag) (o : Nat) (d : List Byte), (s.Begins t 0) ∧ (r = (s.fetch t 0).1.modCmd t (fun c => { c with kind := .admin })) ∧ (o % 4096 = 0) ∧ (d.length % 4096 = 0)) :=
  ⟨⟨Tests.hostedFeat, (Tests.hostedFeat.fetch Tests.adm 0).1.modCmd Tests.adm (fun c => { c with kind := .admin }), Tests.adm, (4, 300), by decide +kernel, rfl, by decide +kernel⟩,
   ⟨Tests.hosted, (Tests.hosted.fetch Tests.adm 0).1.modCmd Tests.adm (fun c => { c with kind := .admin }), Tests.adm, by decide +kernel, rfl, by decide +kernel, by decide +kernel⟩,
   ⟨Tests.hosted, (Tests.hosted.fetch Tests.adm 0).1.modCmd Tests.adm (fun c => { c with kind := .admin }), Tests.adm, 4096, List.replicate 4096 0, by decide +kernel, rfl, by decide +kernel, by decide +kernel⟩⟩

/-- States and operands that meet the hypotheses of CommitsAndControllerResets: fwCommitStore, fwCommitStoreActivateReset,
fwCommitActivateReset, fwCommitActivateNow; fwCommitHeld; ccEnSet; controllerReset, perstnAsserted. -/
theorem witness_CommitsAndControllerResets :
    (∃ (s : State) (r : State) (t : CmdTag), (s.Begins t 0) ∧ (r = (s.fetch t 0).1.modCmd t (fun c => { c with kind := .admin })) ∧ (r.pair.step = .idle) ∧ (activates r.mode.cur = true)) ∧
    (∃ (s : State) (r : State) (t : CmdTag), (s.Begins t 0) ∧ (r = (s.fetch t 0).1.modCmd t (fun c => { c with kind := .admin })) ∧ (r.pair.step = .idle) ∧ (activates r.mode.cur = false)) ∧
    (∃ (s : State) (u : UnitId) (a : Nat) (b : Nat), ((s.getCtrl u.code).linkUp = true) ∧ ((s.getCtrl u.code).ccEn = false) ∧ (2 ≤ a) ∧ (a ≤ 256) ∧ (2 ≤ b) ∧ (b ≤ 256)) ∧
    (∃ (s : State) (u : UnitId), ((s.getCtrl u.code).linkUp = true)) :=
  ⟨⟨Tests.hosted, (Tests.hosted.fetch Tests.adm 0).1.modCmd Tests.adm (fun c => { c with kind := .admin }), Tests.adm, by decide +kernel, rfl, by decide +kernel, by decide +kernel⟩,
   ⟨{ Tests.hosted with mode := { cur := .quiescent } }, ({ Tests.hosted with mode := { cur := .quiescent } } : State).fetch Tests.adm 0 |>.1.modCmd Tests.adm (fun c => { c with kind := .admin }), Tests.adm, by decide +kernel, rfl, by decide +kernel, by decide +kernel⟩,
   ⟨Tests.up.modCtrl 0 (fun c => { c with linkUp := true }), .A, 2, 256, by decide +kernel, by decide +kernel, by decide +kernel, by decide +kernel, by decide +kernel, by decide +kernel⟩,
   ⟨Tests.hosted, .A, by decide +kernel⟩⟩

/-- States and operands that meet the hypotheses of KeyValueCommands: store; storeExists; retrieveEmpty; retrieve;
retrievePending; delete. -/
theorem witness_KeyValueCommands_1 :
    (∃ (s : State) (r : State) (t : CmdTag) (i : Nat) (n : Nat) (k : List Byte) (v : List Byte) (o : StoreOpt) (d : HostCmd), (s.BeginsIo t v.length) ∧ (r = (s.fetch t v.length).1) ∧ (r.casc.role ≠ .isolated) ∧ (nsidOf i = some (0, n)) ∧ (r.storeRefusal n k v.length o = none) ∧ (r.cmds.find? (fun c => c.tag == t) = some d)) ∧
    (∃ (s : State) (r : State) (t : CmdTag) (i : Nat) (n : Nat) (k : List Byte) (v : List Byte) (o : StoreOpt), (s.BeginsIo t v.length) ∧ (r = (s.fetch t v.length).1) ∧ (r.casc.role ≠ .isolated) ∧ (nsidOf i = some (0, n)) ∧ (r.storeRefusal n k v.length o = some .keyExists)) ∧
    (∃ (s : State) (r : State) (t : CmdTag) (i : Nat) (n : Nat) (k : List Byte) (d : ValueDesc), (s.BeginsIo t 0) ∧ (r = (s.fetch t 0).1) ∧ (r.casc.role ≠ .isolated) ∧ (nsidOf i = some (0, n)) ∧ (r.kvRefusal n (some k) false false = none) ∧ (r.observe n k = .stored d) ∧ (d.lost = false) ∧ (r.mode.cur = .frond) ∧ (d.chunks = [])) ∧
    (∃ (s : State) (r : State) (t : CmdTag) (i : Nat) (n : Nat) (k : List Byte) (d : ValueDesc), (s.BeginsIo t 0) ∧ (r = (s.fetch t 0).1) ∧ (r.casc.role ≠ .isolated) ∧ (nsidOf i = some (0, n)) ∧ (r.kvRefusal n (some k) false false = none) ∧ (r.observe n k = .stored d) ∧ (d.lost = false) ∧ (r.mode.cur = .frond) ∧ (d.chunks.isEmpty = false)) ∧
    (∃ (s : State) (r : State) (t : CmdTag) (i : Nat) (n : Nat) (k : List Byte) (c : HostCmd), (s.BeginsIo t 0) ∧ (r = (s.fetch t 0).1) ∧ (r.casc.role ≠ .isolated) ∧ (nsidOf i = some (0, n)) ∧ (r.kvRefusal n (some k) false false = none) ∧ (r.observe n k = .pendingStore c)) ∧
    (∃ (s : State) (r : State) (t : CmdTag) (i : Nat) (n : Nat) (k : List Byte), (s.BeginsIo t 0) ∧ (r = (s.fetch t 0).1) ∧ (r.casc.role ≠ .isolated) ∧ (nsidOf i = some (0, n)) ∧ (r.kvRefusal n (some k) true true = none) ∧ (r.present n k = true)) :=
  ⟨⟨Tests.wide, (Tests.wide.fetch Tests.io 1).1, Tests.io, 1, 0, [1], [2], .any, { tag := Tests.io, forwarded := false }, by decide +kernel, rfl, by decide +kernel, by decide +kernel, by decide +kernel, by decide +kernel⟩,
   ⟨Tests.wideStored, (Tests.wideStored.fetch Tests.io 1).1, Tests.io, 1, 0, [1], [2], .mustNotExist, by decide +kernel, rfl, by decide +kernel, by decide +kernel, by decide +kernel⟩,
   ⟨Tests.wideStored, (Tests.wideStored.fetch Tests.io 0).1, Tests.io, 1, 0, [1], Tests.desc, by decide +kernel, rfl, by decide +kernel, by decide +kernel, by decide +kernel, rfl, by decide +kernel, by decide +kernel, by decide +kernel⟩,
   ⟨Tests.chunkStored, (Tests.chunkStored.fetch Tests.io 0).1, Tests.io, 1, 0, [1], { Tests.desc with chunks := [5] }, by decide +kernel, rfl, by decide +kernel, by decide +kernel, by decide +kernel, rfl, by decide +kernel, by decide +kernel, by decide +kernel⟩,
   ⟨Tests.io2Stored, (Tests.io2Stored.fetch Tests.io 0).1, Tests.io, 1, 0, [1], { tag := ⟨.A, 1, 8⟩, kind := .store, ns := 0, key := [1], value := [2] }, by decide +kernel, rfl, by decide +kernel, by decide +kernel, by decide +kernel, rfl⟩,
   ⟨Tests.wideStored, (Tests.wideStored.fetch Tests.io 0).1, Tests.io, 1, 0, [1], by decide +kernel, rfl, by decide +kernel, by decide +kernel, by decide +kernel, by decide +kernel⟩⟩

/-- States and operands that meet the hypotheses of KeyValueCommands: deleteMissing; exist; list; flush; flushAll;
kvForwarded. -/
theorem witness_KeyValueCommands_2 :
    (∃ (s : State) (r : State) (t : CmdTag) (i : Nat) (n : Nat) (k : List Byte), (s.BeginsIo t 0) ∧ (r = (s.fetch t 0).1) ∧ (r.casc.role ≠ .isolated) ∧ (nsidOf i = some (0, n)) ∧ (r.kvRefusal n (some k) true true = none) ∧ (r.present n k = false)) ∧
    (∃ (s : State) (r : State) (t : CmdTag) (i : Nat) (n : Nat) (k : List Byte), (s.BeginsIo t 0) ∧ (r = (s.fetch t 0).1) ∧ (r.casc.role ≠ .isolated) ∧ (nsidOf i = some (0, n)) ∧ (r.kvRefusal n (some k) false false = none) ∧ (r.present n k = true)) ∧
    (∃ (s : State) (r : State) (t : CmdTag) (i : Nat) (n : Nat) (k : List Byte), (s.BeginsIo t 0) ∧ (r = (s.fetch t 0).1) ∧ (r.casc.role ≠ .isolated) ∧ (nsidOf i = some (0, n)) ∧ (r.kvRefusal n (some k) false false = none)) ∧
    (∃ (s : State) (r : State) (t : CmdTag) (i : Nat) (n : Nat), (s.BeginsIo t 0) ∧ (r = (s.fetch t 0).1) ∧ (r.casc.role ≠ .isolated) ∧ (nsidOf i = some (0, n)) ∧ (r.kvRefusal n none false false = none)) ∧
    (∃ (s : State) (r : State) (t : CmdTag), (s.BeginsIo t 0) ∧ (r = (s.fetch t 0).1) ∧ (r.casc.role ≠ .isolated) ∧ (r.flushMods = [])) ∧
    (∃ (s : State) (r : State) (t : CmdTag) (i : Nat) (m : Nat) (n : Nat), (s.BeginsIo t 0) ∧ (r = (s.fetch t 0).1) ∧ (nsidOf i = some (m + 1, n)) ∧ (r.casc.role = .root) ∧ ((mapGet (fun _ => ({} : TreeModule)) r.casc.table (m + 1)).used = true) ∧ (r.casc.dropped.contains (m + 1) = false) ∧ ((mapGet (fun _ => ({} : TreeModule)) r.casc.table (m + 1)).reachable = true)) :=
  ⟨⟨Tests.wide, (Tests.wide.fetch Tests.io 0).1, Tests.io, 1, 0, [9], by decide +kernel, rfl, by decide +kernel, by decide +kernel, by decide +kernel, by decide +kernel⟩,
   ⟨Tests.wideStored, (Tests.wideStored.fetch Tests.io 0).1, Tests.io, 1, 0, [1], by decide +kernel, rfl, by decide +kernel, by decide +kernel, by decide +kernel, by decide +kernel⟩,
   ⟨Tests.wide, (Tests.wide.fetch Tests.io 0).1, Tests.io, 1, 0, [0], by decide +kernel, rfl, by decide +kernel, by decide +kernel, by decide +kernel⟩,
   ⟨Tests.wide, (Tests.wide.fetch Tests.io 0).1, Tests.io, 1, 0, by decide +kernel, rfl, by decide +kernel, by decide +kernel, by decide +kernel⟩,
   ⟨Tests.wide, (Tests.wide.fetch Tests.io 0).1, Tests.io, by decide +kernel, rfl, by decide +kernel, by decide +kernel⟩,
   ⟨Tests.rooted, (Tests.rooted.fetch Tests.io 0).1, Tests.io, 17, 0, 0, by decide +kernel, rfl, by decide +kernel, by decide +kernel, by decide +kernel, by decide +kernel, by decide +kernel⟩⟩

/-- States and operands that meet the hypotheses of NamespacesSorusesAndRebuild: nsCreate; nsDelete; nsDeletionComplete;
packWaitExpiry; lateLimitExpiry; widthWaitExpiry. -/
theorem witness_NamespacesSorusesAndRebuild_1 :
    (∃ (s : State) (q : Requester) (u : UnitId) (n : Fin 16), (s.Accepts q u (Obj.NS_COMMAND n) [1]) ∧ (s.os.nsStateOf n = 0)) ∧
    (∃ (s : State) (q : Requester) (u : UnitId) (n : Fin 16), (s.Accepts q u (Obj.NS_COMMAND n) [2]) ∧ (s.os.nsStateOf n = 1)) ∧
    (∃ (s : State) (n : Fin 16), (s.os.nsStateOf n = 2) ∧ (s.cmds.any (fun c => (c.kind == .store || c.kind == .delete) && c.ns == n.val) = false)) ∧
    (∃ (s : State) (n : Fin 16) (k : Nat), (s.os.openPack n = some k) ∧ ((s.sorus k).since + (s.sorus k).packWait ≤ s.now)) ∧
    (∃ (s : State) (a : Nat) (b : Nat) (n : Nat), (s.os.byId a b = some n) ∧ ((s.sorus n).sealed = true) ∧ ((s.sorus n).sealedAt + s.rd Obj.LATE_LIMIT ≤ s.rd Obj.SWEEP_COUNT)) ∧
    (∃ (s : State) (t : CmdTag), (s.cmds.any (fun c => c.tag == t && c.kind == .store && c.held && decide (c.heldAt + 1000 * s.rd Obj.WIDTH_WAIT ≤ s.now)) = true) ∧ (s.width < 13)) :=
  ⟨⟨Tests.maint, .firmware, .A, 15, by decide +kernel, by decide +kernel⟩,
   ⟨{ Tests.served with mode := Tests.maint.mode }, .firmware, .A, 0, by decide +kernel, by decide +kernel⟩,
   ⟨{ Tests.up with os := { Tests.up.os with nsState := [(0, 2)] } }, 0, by decide +kernel, by decide +kernel⟩,
   ⟨Tests.packing, 0, 1, by decide +kernel, by decide +kernel⟩,
   ⟨Tests.sealed.wr Obj.SWEEP_COUNT 10000, 0, 1, 1, by decide +kernel, by decide +kernel, by decide +kernel⟩,
   ⟨{ Tests.storing with now := 10000000000 }, Tests.io, by decide +kernel, by decide +kernel⟩⟩

/-- States and operands that meet the hypotheses of NamespacesSorusesAndRebuild: stagingAck; sorusDecodeCompleteLost;
sorusDecodeComplete; rebuildStep; rebuildStepReads; checkpoint. -/
theorem witness_NamespacesSorusesAndRebuild_2 :
    (∃ (s : State) (t : CmdTag), (s.cmds.any (fun c => c.tag == t && c.ackDue) = true)) ∧
    (∃ (s : State) (a : Nat) (b : Nat) (n : Nat), (s.os.byId a b = some n) ∧ (decodable (s.sorus n).profile (s.sorus n).k (s.sorus n).missing = false)) ∧
    (∃ (s : State) (a : Nat) (b : Nat) (n : Nat) (x : SorusSt), (s.os.byId a b = some n) ∧ (s.sorus n = x) ∧ (x.lost = false) ∧ (decodable x.profile x.k x.missing = true) ∧ (s.os.reads.any (fun e => e.1 == n && x.decodes (e.2.there x.f)) = true)) ∧
    (∃ (s : State), (s.backgroundRuns = true) ∧ (s.nextRepair = none)) ∧
    (∃ (s : State) (n : Nat), (s.backgroundRuns = true) ∧ (s.nextRepair = some n) ∧ ((s.sorus n).missing ≠ 0)) ∧
    (∃ (s : State) (m : Nat) (o : Option Nat) (x : State) (y : State), (s.checkpointDue = true) ∧ (s.mode.cur = .frond) ∧ (13 ≤ s.width) ∧ (s.os.mode = .readWrite) ∧ (o = (s.os.soruses.find? (fun e => e.2.index && !e.2.dead && !s.os.moving e.1)).map Prod.fst) ∧ (s.next.2.newSorus { index := true, profile := 1, slack := 1, n := 1 + (Config.indexSectors s.next.1).val, replaces := o } = (m, x)) ∧ (y = (x.queueSorus m).inc Obj.CHECKPOINT_SEQ)) :=
  ⟨⟨Tests.served.enterCmd { tag := Tests.io, kind := .store, ackDue := true }, Tests.io, by decide +kernel⟩,
   ⟨Tests.sealedBad, 0, 1, 1, by decide +kernel, by decide +kernel⟩,
   ⟨Tests.readSealed, 0, 1, 1, Tests.readSealed.sorus 1, by decide +kernel, by decide +kernel, by decide +kernel, by decide +kernel, by decide +kernel⟩,
   ⟨Tests.wide, by decide +kernel, by decide +kernel⟩,
   ⟨Tests.wideRepair, 1, by decide +kernel, by decide +kernel, by decide +kernel⟩,
   ⟨Tests.wideDue, 1, none, (Tests.wideDue.next.2.newSorus { index := true, profile := 1, slack := 1, n := 1 + (Config.indexSectors Tests.wideDue.next.1).val, replaces := none }).2, ((Tests.wideDue.next.2.newSorus { index := true, profile := 1, slack := 1, n := 1 + (Config.indexSectors Tests.wideDue.next.1).val, replaces := none }).2.queueSorus 1).inc Obj.CHECKPOINT_SEQ, by decide +kernel, by decide +kernel, by decide +kernel, by decide +kernel, by decide +kernel, rfl, rfl⟩⟩

/-- States and operands that meet the hypotheses of NamespacesSorusesAndRebuild: compactionStep; compactionStepEnough;
memberRecognition; memberRecognitionOwn; indexRecoveryComplete; indexRecoveryCompleteFails. -/
theorem witness_NamespacesSorusesAndRebuild_3 :
    (∃ (s : State) (v : State) (b : BandSet) (e : Nat × SorusSt), (s.compactMark = v) ∧ (v.os.compacting = true) ∧ (v.backgroundRuns = true) ∧ (v.repairFirst = false) ∧ (v.nextSetToCompact = some b) ∧ ((v.os.inSet b.no).find? (fun e => v.holds e.1 e.2 && e.2.sealed && !e.2.lost && !v.os.moving e.1) = some e)) ∧
    (∃ (s : State) (v : State), (s.compactMark = v) ∧ (v.os.compacting = false)) ∧
    (∃ (s : State) (p : PortId), ((s.getPort p).state = .ready) ∧ (s.os.slotOf p = none)) ∧
    (∃ (s : State) (p : PortId) (n : Fin 32), ((s.getPort p).state = .ready) ∧ (s.os.slotOf p = none) ∧ ((mapGet (fun _ => ({} : Member)) s.os.members n).state = .lost)) ∧
    (∃ (s : State), (s.os.mode = .recovering) ∧ (s.mode.cur = .bringUp)) ∧
    (∃ (s : State), (s.os.mode = .recovering)) :=
  ⟨⟨Tests.compactable, Tests.compactable.compactMark, { no := 0, act := 0, bands := [], isOpen := false }, (1, Tests.compactable.sorus 1), rfl, by decide +kernel, by decide +kernel, by decide +kernel, by decide +kernel, by decide +kernel⟩,
   ⟨Tests.wide, Tests.wide.compactMark, rfl, by decide +kernel⟩,
   ⟨Tests.port .ready, 0, by decide +kernel, by decide +kernel⟩,
   ⟨{ Tests.port .ready with os := { Tests.up.os with members := [(4, { state := .lost })] } }, 0, 4, by decide +kernel, by decide +kernel, by decide +kernel⟩,
   ⟨{ Tests.up with mode := { cur := .bringUp }, os := { Tests.up.os with mode := .recovering } }, by decide +kernel, by decide +kernel⟩,
   ⟨{ Tests.up with mode := { cur := .bringUp }, os := { Tests.up.os with mode := .recovering } }, by decide +kernel⟩⟩

/-- States and operands that meet the hypotheses of TreeAndGriugLinks: griugHoldExpiry; griugHoldExpiryOwn; griugDropExpiry;
hostPortTrained; isolationTimeout; enumLevelWait. -/
theorem witness_TreeAndGriugLinks_1 :
    (∃ (s : State) (m : Nat) (p : Fin 2) (ms : List Nat), (s.casc.role = .root) ∧ (m ≠ 0) ∧ (ms = (s.casc.below m p).filter (fun k => (mapGet (fun _ => ({} : TreeModule)) s.casc.table k).reachable)) ∧ (ms.isEmpty = false)) ∧
    (∃ (s : State) (p : Fin 2) (ms : List Nat), (s.casc.role = .root) ∧ (s.casc.downHops.contains (p.val + 1) = true) ∧ (mapGet (fun _ => 0) s.casc.downAt (p.val + 1) + 1000 * s.rd Obj.GRIUG_HOLD ≤ s.now) ∧ (ms = (s.casc.below 0 p).filter (fun k => (mapGet (fun _ => ({} : TreeModule)) s.casc.table k).reachable)) ∧ (ms.isEmpty = false)) ∧
    (∃ (s : State) (m : Nat) (p : Fin 2) (ms : List Nat), (s.casc.role = .root) ∧ (ms = (s.casc.below m p).filter (fun k => !(mapGet (fun _ => ({} : TreeModule)) s.casc.table k).reachable && !s.casc.dropped.contains k && decide ((mapGet (fun _ => ({} : TreeModule)) s.casc.table k).lostAt + 1000 * s.rd Obj.GRIUG_DROP ≤ s.now))) ∧ (ms.isEmpty = false)) ∧
    (∃ (s : State) (u : UnitId), ((s.getCtrl u.code).linkUp = false) ∧ (s.sup.vin12 = true) ∧ (linksTrain s.mode.cur = true) ∧ ((s.unitSt u).inReset = false)) ∧
    (∃ (s : State), (s.sup.straps.root = false) ∧ (s.upstream = false) ∧ (s.casc.role = .undecided) ∧ (linksTrain s.mode.cur = true) ∧ (s.rd Obj.T_FIDDLEHEAD + 100000 ≤ s.now)) ∧
    (∃ (s : State) (e : EnumSt), (s.casc.enumr = some e) ∧ (s.casc.role = .root) ∧ (s.levelWaited e = true)) :=
  ⟨⟨Tests.treeTwo, 1, 0, (Tests.treeTwo.casc.below 1 0).filter (fun k => (mapGet (fun _ => ({} : TreeModule)) Tests.treeTwo.casc.table k).reachable), by decide +kernel, by decide +kernel, rfl, by decide +kernel⟩,
   ⟨Tests.treeDown, 0, (Tests.treeDown.casc.below 0 0).filter (fun k => (mapGet (fun _ => ({} : TreeModule)) Tests.treeDown.casc.table k).reachable), by decide +kernel, by decide +kernel, by decide +kernel, rfl, by decide +kernel⟩,
   ⟨{ Tests.treeTwo.modTable 2 (fun e => { e with reachable := false }) with now := 100000000000 }, 1, 0, [2], by decide +kernel, by decide +kernel, by decide +kernel⟩,
   ⟨Tests.up, .A, by decide +kernel, by decide +kernel, by decide +kernel, by decide +kernel⟩,
   ⟨{ Tests.up with now := 10000000 }, by decide +kernel, by decide +kernel, by decide +kernel, by decide +kernel, by decide +kernel⟩,
   ⟨{ Tests.enumerating with now := 100000000 }, Tests.enumSt, by decide +kernel, by decide +kernel, by decide +kernel⟩⟩

/-- States and operands that meet the hypotheses of TreeAndGriugLinks: enumState; enumStateLater; enumQuery; enumAssign,
enumAssignPartner; griugTrainingStepIdent; griugTrainingStepFails. -/
theorem witness_TreeAndGriugLinks_2 :
    (∃ (s : State) (m : Nat) (e : EnumSt), (s.casc.role = .root) ∧ ((mapGet (fun _ => ({} : TreeModule)) s.casc.table m).used = true) ∧ (s.casc.enumr = some e) ∧ (e.level.contains m = true)) ∧
    (∃ (s : State) (m : Nat), (s.casc.role = .root) ∧ ((mapGet (fun _ => ({} : TreeModule)) s.casc.table m).used = true) ∧ (s.casc.enumr = none)) ∧
    (∃ (s : State), (s.casc.role = .member)) ∧
    (∃ (s : State) (n : Nat), (s.casc.role = .member) ∧ (n < 64)) ∧
    (∃ (s : State) (u : UnitId) (l : GriugPort), (s.sup.vin12 = true) ∧ (linksTrain s.mode.cur = true) ∧ ((s.unitSt u).inReset = false) ∧ ((s.link u l.hop).st.isUp = false) ∧ ((s.link u l.hop).st ≠ .miswired) ∧ ((s.link u l.hop).step = 3)) ∧
    (∃ (s : State) (u : UnitId) (l : GriugPort), (s.sup.vin12 = true) ∧ (linksTrain s.mode.cur = true) ∧ ((s.unitSt u).inReset = false) ∧ ((s.link u l.hop).st.isUp = false) ∧ ((s.link u l.hop).st ≠ .miswired)) :=
  ⟨⟨Tests.enumerating, 1, Tests.enumSt, by decide +kernel, by decide +kernel, by decide +kernel, by decide +kernel⟩,
   ⟨Tests.root, 1, by decide +kernel, by decide +kernel, by decide +kernel⟩,
   ⟨Tests.member, by decide +kernel⟩,
   ⟨Tests.member, 63, by decide +kernel, by decide +kernel⟩,
   ⟨Tests.linked .training 3, .A, .down0, by decide +kernel, by decide +kernel, by decide +kernel, by decide +kernel, by decide +kernel, by decide +kernel⟩,
   ⟨Tests.linked .training 1, .A, .down0, by decide +kernel, by decide +kernel, by decide +kernel, by decide +kernel, by decide +kernel⟩⟩

/-- States and operands that meet the hypotheses of TreeAndGriugLinks: griugPacketReceive, griugPacketReceiveBad;
griugReplayTimeout. -/
theorem witness_TreeAndGriugLinks_3 :
    (∃ (s : State) (u : UnitId) (l : GriugPort), ((s.link u l.hop).st.isUp = true)) ∧
    (∃ (s : State) (u : UnitId) (l : GriugPort), ((s.link u l.hop).st.isUp = true) ∧ ((s.link u l.hop).sentAt + 10 ≤ s.now)) :=
  ⟨⟨Tests.linked .up4 6, .A, .down0, by decide +kernel⟩,
   ⟨{ Tests.linked .up4 6 with now := 100 }, .A, .down0, by decide +kernel, by decide +kernel⟩⟩

/-- States and operands that meet the hypotheses of TokensAndForwardedCommands: tokenReq, event; tokenGrantReturned;
tokenGrant; tokenReturn; tokenExpiry; ledgerRebuildHoldoffExpiry. -/
theorem witness_TokensAndForwardedCommands_1 :
    (∃ (s : State) (m : Nat), (s.casc.role = .root) ∧ ((mapGet (fun _ => ({} : TreeModule)) s.casc.table m).used = true)) ∧
    (∃ (s : State) (n : Nat), (s.grantHere n = true) ∧ (s.firstWaiting = none) ∧ (s.casc.role = .member)) ∧
    (∃ (s : State) (n : Nat) (p : Nat), (s.grantHere n = true) ∧ (s.firstWaiting = some p)) ∧
    (∃ (s : State) (m : Nat) (n : Nat), (s.casc.role = .root) ∧ (s.casc.ledger.any (fun g => g.module == m && g.number == n) = true)) ∧
    (∃ (s : State) (n : Nat), (s.casc.role = .root) ∧ (s.casc.ledger.any (fun g => g.number == n && decide (g.due ≤ s.now)) = true)) ∧
    (∃ (s : State), (s.casc.holdoff = true) ∧ (s.casc.holdFrom + 14000000 ≤ s.now)) :=
  ⟨⟨Tests.root, 1, by decide +kernel, by decide +kernel⟩,
   ⟨Tests.member, 3, by decide +kernel, by decide +kernel, by decide +kernel⟩,
   ⟨Tests.memberWaits, 3, 0, by decide +kernel, by decide +kernel⟩,
   ⟨Tests.granted, 1, 0, by decide +kernel, by decide +kernel⟩,
   ⟨{ Tests.granted with now := 100000000 }, 0, by decide +kernel, by decide +kernel⟩,
   ⟨{ Tests.up with now := 100000000, casc := { Tests.up.casc with holdoff := true } }, by decide +kernel, by decide +kernel⟩⟩

/-- States and operands that meet the hypotheses of TokensAndForwardedCommands: rootlessWaitExpiry; cmd; dataReq; dataRoot;
data; cpl. -/
theorem witness_TokensAndForwardedCommands_2 :
    (∃ (s : State), (s.mode.cur = .bringUp) ∧ (s.casc.number = none) ∧ (s.rd Obj.T_BRINGUP + 1000 * s.rd Obj.ROOTLESS_WAIT ≤ s.now)) ∧
    (∃ (s : State) (n : Nat) (c : KvSub), (s.casc.role = .member) ∧ (s.casc.number.isNone = false) ∧ (c.ns < 16) ∧ (s.cascCmd n = none) ∧ (s.cmds.length < 16384) ∧ (s.postsHeld = false) ∧ (s.cmds = [])) ∧
    (∃ (s : State) (m : Nat) (n : Nat) (c : HostCmd), (s.forwarded m n = some c) ∧ (c.need ≠ 0)) ∧
    (∃ (s : State) (m : Nat) (n : Nat) (c : HostCmd), (s.casc.role = .root) ∧ (s.forwarded m n = some c) ∧ (c.need = 0)) ∧
    (∃ (s : State) (n : Nat) (d : List Byte) (c : HostCmd), (s.casc.role = .member) ∧ (s.cascCmd n = some c) ∧ (c.need = d.length) ∧ (d.isEmpty = false)) ∧
    (∃ (s : State) (m : Nat) (n : Nat) (c : HostCmd), (s.forwarded m n = some c)) :=
  ⟨⟨{ Tests.up with now := 10000000000, mode := { cur := .bringUp } }, by decide +kernel, by decide +kernel, by decide +kernel⟩,
   ⟨Tests.member, 4, { op := .exist, ns := 0, key := [1] }, by decide +kernel, by decide +kernel, by decide +kernel, by decide +kernel, by decide +kernel, by decide +kernel, by decide +kernel⟩,
   ⟨Tests.forwarding, 1, 9, Tests.fwdStore, by decide +kernel, by decide +kernel⟩,
   ⟨Tests.forwarding, 1, 8, Tests.fwdRead, by decide +kernel, by decide +kernel, by decide +kernel⟩,
   ⟨Tests.member.enterCmd Tests.cascStore, 4, [1], Tests.cascStore, by decide +kernel, by decide +kernel, by decide +kernel, by decide +kernel⟩,
   ⟨Tests.forwarding, 1, 8, Tests.fwdRead, by decide +kernel⟩⟩

/-- States and operands that meet the hypotheses of JournalFlashCommands: readPageBlank; programPage; jfProgramComplete;
eraseBlock; jfEraseComplete, jfEraseCompleteFails; eraseSuspend. -/
theorem witness_JournalFlashCommands_1 :
    (∃ (s : State) (u : UnitId) (i : JfIface) (x : BitVec 32), (s.jfRefuse u i 1 x true = none) ∧ ((s.getJf u.code).busy = false) ∧ ((s.getJf u.code).phys (jfBlock x) ≠ 0xFFFF) ∧ ((s.getJf u.code).erase = none) ∧ ((s.getJf u.code).incomplete.contains ((s.getJf u.code).phys (jfBlock x)) = false) ∧ ((s.getJf u.code).page ((s.getJf u.code).phys (jfBlock x)) (jfPageNo x) = .blank)) ∧
    (∃ (s : State) (u : UnitId) (i : JfIface) (x : BitVec 32), (s.jfRefuse u i 2 x true = none) ∧ ((s.getJf u.code).phys (jfBlock x) ≠ 0xFFFF) ∧ ((s.getJf u.code).busy = false) ∧ ((s.getJf u.code).erase = none) ∧ ((s.getJf u.code).incomplete.contains ((s.getJf u.code).phys (jfBlock x)) = false) ∧ ((s.getJf u.code).blocked.contains ((s.getJf u.code).phys (jfBlock x)) = false) ∧ ((s.getJf u.code).page ((s.getJf u.code).phys (jfBlock x)) (jfPageNo x) = .blank)) ∧
    (∃ (s : State) (u : UnitId) (n : Nat) (g : JfProg), ((s.getJf u.code).prog = some g) ∧ (n ≤ 2) ∧ (g.iface ≠ .firmware)) ∧
    (∃ (s : State) (u : UnitId) (i : JfIface) (x : BitVec 32), (s.jfRefuse u i 3 x false = none) ∧ ((s.getJf u.code).phys (jfBlock x) ≠ 0xFFFF) ∧ ((s.getJf u.code).busy = false) ∧ ((s.getJf u.code).suspended = false) ∧ ((s.getJf u.code).live (jfBlock x) = false)) ∧
    (∃ (s : State) (u : UnitId) (e : JfErase), ((s.getJf u.code).erase = some e) ∧ (e.suspended = false)) ∧
    (∃ (s : State) (u : UnitId) (i : JfIface) (x : BitVec 32) (e : JfErase), (s.jfRefuse u i 4 x false = none) ∧ ((s.getJf u.code).erase = some e) ∧ (e.suspended = false) ∧ (e.iface = i) ∧ (e.since + 500 ≤ s.now)) :=
  ⟨⟨Tests.flash, .A, .firmware, 0x02A40000, by decide +kernel, by decide +kernel, by decide +kernel, by decide +kernel, by decide +kernel, by decide +kernel⟩,
   ⟨Tests.flash, .A, .firmware, 0x02A40000, by decide +kernel, by decide +kernel, by decide +kernel, by decide +kernel, by decide +kernel, by decide +kernel, by decide +kernel⟩,
   ⟨Tests.flash.modJf 0 (fun j => { j with prog := some { phys := 700, page := 3, bytes := List.replicate 256 7, iface := .management } }), .A, 2, { phys := 700, page := 3, bytes := List.replicate 256 7, iface := .management }, by decide +kernel, by decide +kernel, by decide +kernel⟩,
   ⟨Tests.flash, .A, .firmware, 0x02A40000, by decide +kernel, by decide +kernel, by decide +kernel, by decide +kernel, by decide +kernel⟩,
   ⟨Tests.flash.modJf 0 (fun j => { j with erase := some { logical := 676, phys := 700, iface := .firmware } }), .A, { logical := 676, phys := 700, iface := .firmware }, by decide +kernel, by decide +kernel⟩,
   ⟨{ Tests.flash.modJf 0 (fun j => { j with erase := some { logical := 676, phys := 700, iface := .firmware } }) with now := 1000 }, .A, .firmware, 0x02A40000, { logical := 676, phys := 700, iface := .firmware }, by decide +kernel, by decide +kernel, by decide +kernel, by decide +kernel, by decide +kernel⟩⟩

/-- States and operands that meet the hypotheses of JournalFlashCommands: eraseResume; readStatus; blankCheck; readStateRow;
retireBlock; moveMap. -/
theorem witness_JournalFlashCommands_2 :
    (∃ (s : State) (u : UnitId) (i : JfIface) (x : BitVec 32) (e : JfErase), (s.jfRefuse u i 5 x false = none) ∧ ((s.getJf u.code).erase = some e) ∧ (e.suspended = true) ∧ ((s.getJf u.code).prog = none) ∧ (e.iface = i)) ∧
    (∃ (s : State) (u : UnitId) (i : JfIface) (x : BitVec 32), (s.jfRefuse u i 6 x true = none)) ∧
    (∃ (s : State) (u : UnitId) (i : JfIface) (x : BitVec 32), (s.jfRefuse u i 7 x true = none) ∧ ((s.getJf u.code).busy = false) ∧ ((s.getJf u.code).phys (jfBlock x) ≠ 0xFFFF) ∧ ((s.getJf u.code).incomplete.contains ((s.getJf u.code).phys (jfBlock x)) = false) ∧ ((s.getJf u.code).erase = none)) ∧
    (∃ (s : State) (u : UnitId) (i : JfIface) (x : BitVec 32), (s.jfRefuse u i 8 x false = none) ∧ ((s.getJf u.code).phys (jfBlock x) ≠ 0xFFFF)) ∧
    (∃ (s : State) (u : UnitId) (i : JfIface) (x : BitVec 32), (s.jfRefuse u i 9 x true = none) ∧ ((s.getJf u.code).busy = false) ∧ ((s.getJf u.code).erase = none) ∧ ((s.getJf u.code).phys (jfBlock x) ≠ 0xFFFF)) ∧
    (∃ (s : State) (u : UnitId) (i : JfIface) (x : BitVec 32) (d : BitVec 16), (s.jfRefuse u i 10 x true = none) ∧ (i = .management) ∧ ((s.getJf u.code).busy = false) ∧ ((s.getJf u.code).erase = none) ∧ ((s.getJf u.code).phys (jfBlock x) = 0xFFFF) ∧ ((s.getJf u.code).phys d.toNat ≠ 0xFFFF) ∧ (d.toNat ≤ 3999) ∧ (inJournal d.toNat = false)) :=
  ⟨⟨Tests.flash.modJf 0 (fun j => { j with erase := some { logical := 676, phys := 700, iface := .firmware, suspended := true } }), .A, .firmware, 0x02A40000, { logical := 676, phys := 700, iface := .firmware, suspended := true }, by decide +kernel, by decide +kernel, by decide +kernel, by decide +kernel, by decide +kernel⟩,
   ⟨Tests.flash, .A, .firmware, 0x02A40000, by decide +kernel⟩,
   ⟨Tests.flash, .A, .firmware, 0x02A40000, by decide +kernel, by decide +kernel, by decide +kernel, by decide +kernel, by decide +kernel⟩,
   ⟨Tests.flash, .A, .firmware, 0x02A40000, by decide +kernel, by decide +kernel⟩,
   ⟨Tests.flash, .A, .firmware, 0x02A40000, by decide +kernel, by decide +kernel, by decide +kernel, by decide +kernel⟩,
   ⟨({ Tests.flash.modJf 0 (fun j => j.setMap 676 0xFFFF) with mode := Tests.maint.mode } : State), .A, .management, 0x02A40000, 600, by decide +kernel, by decide +kernel, by decide +kernel, by decide +kernel, by decide +kernel, by decide +kernel, by decide +kernel, by decide +kernel⟩⟩

/-- States and operands that meet the hypotheses of EventRecorder: statusClear; statusClearBits; emergency;
eventPageProgramRefused; eventPageProgram; erRecordRead. -/
theorem witness_EventRecorder_1 :
    (∃ (s : State) (q : Requester) (u : UnitId) (i : Nat) (j : Nat) (v : BitVec 16) (x : Site), (siteAt u i j = some x) ∧ (s.mode.cur ≠ .switchover) ∧ (s.writeErr u i j q (leBytes 2 v.toNat) = 0)) ∧
    (∃ (s : State) (q : Requester) (u : UnitId) (i : Nat) (j : Nat) (v : BitVec 16) (x : Site), (siteAt u i j = some x) ∧ (s.mode.cur ≠ .switchover) ∧ (s.writeErr u i j q (leBytes 2 v.toNat) = 0) ∧ (s.clearable x v.toNat ≠ 0)) ∧
    (∃ (s : State) (m : Emcy) (r : List Emcy), (s.plcaActive s.reporter = false) ∧ (s.emcy = m :: r)) ∧
    (∃ (s : State) (u : UnitId) (e : ErSt) (j : JfSt), ((s.getEr u.code) = e) ∧ ((s.getJf u.code) = j) ∧ (s.canProgram u = true) ∧ (j.busy = false) ∧ (e.due.isEmpty = false) ∧ (e.wraps = false) ∧ ((decide (e.wp % 256 = 0) && j.stale (548 + e.wp / 256)) = false) ∧ (j.page (j.phys (548 + e.wp / 256)) (e.wp % 256) ≠ .blank)) ∧
    (∃ (s : State) (u : UnitId) (e : ErSt) (j : JfSt) (n : Nat) (p : Nat), ((s.getEr u.code) = e) ∧ ((s.getJf u.code) = j) ∧ (s.canProgram u = true) ∧ (j.busy = false) ∧ (e.due.isEmpty = false) ∧ (e.wraps = false) ∧ ((decide (e.wp % 256 = 0) && j.stale (548 + e.wp / 256)) = false) ∧ (p = j.phys (548 + e.wp / 256)) ∧ (p ≠ 0xFFFF) ∧ (j.erase = none) ∧ (j.incomplete.contains p = false) ∧ (j.blocked.contains p = false) ∧ (j.page p (e.wp % 256) = .blank) ∧ (n ≤ 2)) ∧
    (∃ (s : State) (q : Requester) (u : UnitId) (r : Rec) (b : Bool), (s.mode.cur ≠ .switchover) ∧ (s.readErr 0x5200 5 q = 0) ∧ (s.rd (Obj.ER_READ_SEQ u) < (s.getEr u.code).next) ∧ ((s.getEr u.code).oldest ≤ s.rd (Obj.ER_READ_SEQ u)) ∧ ((s.getEr u.code).find (s.rd (Obj.ER_READ_SEQ u)) = some (r, b)) ∧ (b = true ∨ s.sup.vin12 = true)) :=
  ⟨⟨Tests.maint, .firmware, .A, 0x5000, 0, 1, .pwr .A, by decide +kernel, by decide +kernel, by decide +kernel⟩,
   ⟨Tests.maint.raise (.pwr .A) [.PWR_VCORE_FAULT], .firmware, .A, 0x5000, 0, 0xFFFF, .pwr .A, by decide +kernel, by decide +kernel, by decide +kernel, by decide +kernel⟩,
   ⟨{ Tests.up with emcy := [{ index := 0, sub := 0, ty := 7, cls := 0, body := [] }] }, { index := 0, sub := 0, ty := 7, cls := 0, body := [] }, [], by decide +kernel, by decide +kernel⟩,
   ⟨(Tests.pageDue.modEr 0 (fun e => { e with wp := 5 })).modJf 0 (fun j => j.setPage (j.phys 548) 5 .undefined), .A, (Tests.pageDue.modEr 0 (fun e => { e with wp := 5 })).getEr 0, (Tests.pageDue.modJf 0 (fun j => j.setPage (j.phys 548) 5 .undefined)).getJf 0, by decide +kernel, by decide +kernel, by decide +kernel, by decide +kernel, by decide +kernel, by decide +kernel, by decide +kernel, by decide +kernel⟩,
   ⟨Tests.pageDue, .A, Tests.pageDue.getEr 0, Tests.pageDue.getJf 0, 0, (Tests.pageDue.getJf 0).phys 548, by decide +kernel, by decide +kernel, by decide +kernel, by decide +kernel, by decide +kernel, by decide +kernel, by decide +kernel, by decide +kernel, by decide +kernel, by decide +kernel, by decide +kernel, by decide +kernel, by decide +kernel, by decide +kernel⟩,
   ⟨Tests.recRead, .firmware, .A, Tests.recOne, true, by decide +kernel, by decide +kernel, by decide +kernel, by decide +kernel, by decide +kernel, by decide +kernel⟩⟩

/-- States and operands that meet the hypotheses of EventRecorder: erChallengeRead; erClearResponseWrite; erClearAccepted.
-/
theorem witness_EventRecorder_2 :
    (∃ (s : State) (q : Requester) (u : UnitId), (s.mode.cur ≠ .switchover) ∧ (s.readErr 0x5210 0 q = 0) ∧ ((((s.getEr u.code).forget q).challenges.filter (fun c => decide (s.now ≤ c.2.2 + 60000000))).length < 8)) ∧
    (∃ (s : State) (q : Requester) (u : UnitId) (d : List Byte), (s.mode.cur ≠ .switchover) ∧ (s.writeErr u 0x5210 1 q d = 0)) ∧
    (∃ (s : State) (q : Requester) (u : UnitId) (d : List Byte) (k : List Byte) (c : List Byte), (s.mode.cur = .maintenance) ∧ (s.writeErr u 0x5210 1 q d = 0) ∧ ((s.getFuse u.code).erKey = some k) ∧ ((s.getEr u.code).challengeOf q s.now = some c) ∧ (d = erResponse k c (s.getEr u.code).newest)) :=
  ⟨⟨Tests.maint, .kdap 1, .A, by decide +kernel, by decide +kernel, by decide +kernel⟩,
   ⟨Tests.maint, .kdap 1, .A, List.replicate 16 0, by decide +kernel, by decide +kernel⟩,
   ⟨Tests.erKeyed, .kdap 1, .A, erResponse (List.replicate 32 1) (List.replicate 16 2) (Tests.erKeyed.getEr 0).newest, List.replicate 32 1, List.replicate 16 2, by decide +kernel, Tests.erKeyed_accepts, by decide +kernel, by decide +kernel, rfl⟩⟩

/-- States and operands that meet the hypotheses of ManagementTransfers: expeditedRead; expeditedReadAborted;
unreachableTarget; malformedFrame; fullFifo; broadcastReadKept. -/
theorem witness_ManagementTransfers_1 :
    (∃ (s : State) (u : UnitId) (t : UnitId) (f : KdapFrame) (r : State) (d : List Byte), (s.mode.cur ≠ .switchover) ∧ (s.Hears f false) ∧ (f.target.toNat < 4) ∧ ((s.inc (Obj.KDAP_RX u)).kdapTarget u f = some t) ∧ (((s.inc (Obj.KDAP_RX u)).dictRead (.kdap f.src) t f.index f.sub).takeAnswer = (r, 0, d)) ∧ (d.length ≤ 1024)) ∧
    (∃ (s : State) (u : UnitId) (t : UnitId) (f : KdapFrame) (r : State) (e : Nat) (d : List Byte), (s.mode.cur ≠ .switchover) ∧ (s.Hears f false) ∧ (f.target.toNat < 4) ∧ ((s.inc (Obj.KDAP_RX u)).kdapTarget u f = some t) ∧ (((s.inc (Obj.KDAP_RX u)).dictRead (.kdap f.src) t f.index f.sub).takeAnswer = (r, e, d)) ∧ (e ≠ 0)) ∧
    (∃ (s : State) (u : UnitId) (f : KdapFrame), (s.mode.cur ≠ .switchover) ∧ (s.Hears f false) ∧ (f.target.toNat < 4) ∧ ((s.inc (Obj.KDAP_RX u)).kdapTarget u f = none)) ∧
    (∃ (s : State) (f : KdapFrame), (s.mode.cur ≠ .switchover) ∧ (s.kdapUp = true) ∧ (f.etherType = s.rd Obj.KDAP_ETHERTYPE) ∧ (f.broadcast = false) ∧ (f.formed = false)) ∧
    (∃ (s : State) (f : KdapFrame), (s.mode.cur ≠ .switchover) ∧ (s.kdapUp = true) ∧ (f.etherType = s.rd Obj.KDAP_ETHERTYPE) ∧ (f.broadcast = false) ∧ (2 ≤ f.queued)) ∧
    (∃ (s : State) (f : KdapFrame), (f.broadcast = true) ∧ (s.Hears f f.discovers)) :=
  ⟨⟨Tests.up, .A, .A, Tests.frame 0x1001 3, ((((Tests.up).inc (Obj.KDAP_RX (.A))).dictRead (.kdap (Tests.frame 0x1001 3).src) (.A) (Tests.frame 0x1001 3).index (Tests.frame 0x1001 3).sub).takeAnswer).1, ((((Tests.up).inc (Obj.KDAP_RX (.A))).dictRead (.kdap (Tests.frame 0x1001 3).src) (.A) (Tests.frame 0x1001 3).index (Tests.frame 0x1001 3).sub).takeAnswer).2.2, by decide +kernel, by decide +kernel, by decide +kernel, by decide +kernel, Tests.parts _ (by decide +kernel), by decide +kernel⟩,
   ⟨Tests.up, .A, .A, Tests.frame 0x0FFF 5, ((((Tests.up).inc (Obj.KDAP_RX (.A))).dictRead (.kdap (Tests.frame 0x0FFF 5).src) (.A) (Tests.frame 0x0FFF 5).index (Tests.frame 0x0FFF 5).sub).takeAnswer).1, 1, ((((Tests.up).inc (Obj.KDAP_RX (.A))).dictRead (.kdap (Tests.frame 0x0FFF 5).src) (.A) (Tests.frame 0x0FFF 5).index (Tests.frame 0x0FFF 5).sub).takeAnswer).2.2, by decide +kernel, by decide +kernel, by decide +kernel, by decide +kernel, Tests.parts _ (by decide +kernel), by decide +kernel⟩,
   ⟨Tests.up, .A, Tests.frame 0x1000 5 (target := 2), by decide +kernel, by decide +kernel, by decide +kernel, by decide +kernel⟩,
   ⟨Tests.up, { Tests.frame 0x1000 5 with version := 2 }, by decide +kernel, by decide +kernel, by decide +kernel, by decide +kernel, by decide +kernel⟩,
   ⟨Tests.up, { Tests.frame 0x1000 5 with queued := 2 }, by decide +kernel, by decide +kernel, by decide +kernel, by decide +kernel, by decide +kernel⟩,
   ⟨Tests.up, Tests.frame 0x1000 5 (broadcast := true), by decide +kernel, by decide +kernel⟩⟩

/-- States and operands that meet the hypotheses of ManagementTransfers: expeditedWrite; segmentedReadInitiate;
noRoomForATransfer; segmentedWriteInitiate; segmentInOrder; segmentOutOfOrder. -/
theorem witness_ManagementTransfers_2 :
    (∃ (s : State) (u : UnitId) (t : UnitId) (f : KdapFrame) (r : State) (d : List Byte), (s.mode.cur ≠ .switchover) ∧ (s.Hears f false) ∧ (f.target.toNat < 4) ∧ ((s.inc (Obj.KDAP_RX u)).kdapTarget u f = some t) ∧ (((s.inc (Obj.KDAP_RX u)).dictWrite (.kdap f.src) t f.index f.sub f.body).takeAnswer = (r, 0, d))) ∧
    (∃ (s : State) (u : UnitId) (t : UnitId) (f : KdapFrame) (r : State) (d : List Byte) (part : List Byte), (s.mode.cur ≠ .switchover) ∧ (s.Hears f false) ∧ (f.target.toNat < 4) ∧ ((s.inc (Obj.KDAP_RX u)).kdapTarget u f = some t) ∧ (((s.inc (Obj.KDAP_RX u)).getDict u.code).room f.index f.sub = true) ∧ (((s.inc (Obj.KDAP_RX u)).dictRead (.kdap f.src) t f.index f.sub).takeAnswer = (r, 0, d)) ∧ (readPart f.index f.sub f.param (if leNat f.body = 0 then d.length else leNat f.body) d = (0, part)) ∧ (part.isEmpty = false)) ∧
    (∃ (s : State) (u : UnitId) (t : UnitId) (f : KdapFrame), (s.mode.cur ≠ .switchover) ∧ (s.Hears f false) ∧ (f.target.toNat < 4) ∧ ((s.inc (Obj.KDAP_RX u)).kdapTarget u f = some t) ∧ (((s.inc (Obj.KDAP_RX u)).getDict u.code).room f.index f.sub = false)) ∧
    (∃ (s : State) (u : UnitId) (t : UnitId) (f : KdapFrame), (s.mode.cur ≠ .switchover) ∧ (s.Hears f false) ∧ (f.target.toNat < 4) ∧ ((s.inc (Obj.KDAP_RX u)).kdapTarget u f = some t) ∧ (((s.inc (Obj.KDAP_RX u)).getDict u.code).room f.index f.sub = true)) ∧
    (∃ (s : State) (u : UnitId) (t : UnitId) (f : KdapFrame) (x : Transfer), (f.last = false) ∧ (s.Hears f false) ∧ (f.target.toNat < 4) ∧ ((s.inc (Obj.KDAP_RX u)).kdapTarget u f = some t) ∧ ((((s.inc (Obj.KDAP_RX u)).getDict u.code).transfer f.src f.transId) = some x) ∧ (x.write = true) ∧ (f.seq = x.inOrder % 256) ∧ (f.param = 1024 * x.inOrder) ∧ (f.length = 1024)) ∧
    (∃ (s : State) (u : UnitId) (t : UnitId) (f : KdapFrame) (x : Transfer), (f.last = false) ∧ (s.Hears f false) ∧ (f.target.toNat < 4) ∧ ((s.inc (Obj.KDAP_RX u)).kdapTarget u f = some t) ∧ ((((s.inc (Obj.KDAP_RX u)).getDict u.code).transfer f.src f.transId) = some x) ∧ (x.write = true) ∧ (f.param ≠ 1024 * x.inOrder)) :=
  ⟨⟨Tests.up, .A, .A, Tests.frame 0x1001 3 [7], ((((Tests.up).inc (Obj.KDAP_RX (.A))).dictWrite (.kdap (Tests.frame 0x1001 3 [7]).src) (.A) (Tests.frame 0x1001 3 [7]).index (Tests.frame 0x1001 3 [7]).sub (Tests.frame 0x1001 3 [7]).body).takeAnswer).1, ((((Tests.up).inc (Obj.KDAP_RX (.A))).dictWrite (.kdap (Tests.frame 0x1001 3 [7]).src) (.A) (Tests.frame 0x1001 3 [7]).index (Tests.frame 0x1001 3 [7]).sub (Tests.frame 0x1001 3 [7]).body).takeAnswer).2.2, by decide +kernel, by decide +kernel, by decide +kernel, by decide +kernel, Tests.parts _ (by decide +kernel)⟩,
   ⟨Tests.up, .A, .A, Tests.frame 0x1001 3, ((((Tests.up).inc (Obj.KDAP_RX (.A))).dictRead (.kdap (Tests.frame 0x1001 3).src) (.A) (Tests.frame 0x1001 3).index (Tests.frame 0x1001 3).sub).takeAnswer).1, ((((Tests.up).inc (Obj.KDAP_RX (.A))).dictRead (.kdap (Tests.frame 0x1001 3).src) (.A) (Tests.frame 0x1001 3).index (Tests.frame 0x1001 3).sub).takeAnswer).2.2, ((Tests.up.inc (Obj.KDAP_RX .A)).dictRead (.kdap 5) .A 0x1001 3).takeAnswer.2.2, by decide +kernel, by decide +kernel, by decide +kernel, by decide +kernel, by decide +kernel, Tests.parts _ (by decide +kernel), by decide +kernel, by decide +kernel⟩,
   ⟨Tests.transferring Tests.reading, .A, .A, Tests.frame 0x1000 5, by decide +kernel, by decide +kernel, by decide +kernel, by decide +kernel, by decide +kernel⟩,
   ⟨Tests.up, .A, .A, Tests.frame 0x1001 3 (param := 1), by decide +kernel, by decide +kernel, by decide +kernel, by decide +kernel, by decide +kernel⟩,
   ⟨Tests.transferring Tests.writingSeg, .A, .A, Tests.frame 0x1001 3 (List.replicate 1024 1) (last := false), Tests.writingSeg, by decide +kernel, by decide +kernel, by decide +kernel, by decide +kernel, by decide +kernel, by decide +kernel, by decide +kernel, by decide +kernel, by decide +kernel⟩,
   ⟨Tests.transferring Tests.writingSeg, .A, .A, Tests.frame 0x1001 3 (List.replicate 1024 1) (last := false) (param := 1024), Tests.writingSeg, by decide +kernel, by decide +kernel, by decide +kernel, by decide +kernel, by decide +kernel, by decide +kernel, by decide +kernel⟩⟩

/-- States and operands that meet the hypotheses of ManagementTransfers: lastSegment; segmentWithoutTransfer;
segmentAcknowledge; lastAcknowledge; kdapAbort; kdapRetransmitTimeout. -/
theorem witness_ManagementTransfers_3 :
    (∃ (s : State) (u : UnitId) (t : UnitId) (f : KdapFrame) (x : Transfer) (y : Transfer) (r : State) (d : List Byte), (f.last = true) ∧ (s.mode.cur ≠ .switchover) ∧ (s.Hears f false) ∧ (f.target.toNat < 4) ∧ ((s.inc (Obj.KDAP_RX u)).kdapTarget u f = some t) ∧ ((((s.inc (Obj.KDAP_RX u)).getDict u.code).transfer f.src f.transId) = some x) ∧ (x.write = true) ∧ (f.seq = x.inOrder % 256) ∧ (f.param = 1024 * x.inOrder) ∧ (f.length ≠ 0) ∧ (y = { x with inOrder := x.inOrder + 1, bytes := x.bytes ++ f.body, frameAt := (s.inc (Obj.KDAP_RX u)).now }) ∧ (y.bytes.length = y.total) ∧ ((State.dictWrite ((State.modDict (s.inc (Obj.KDAP_RX u)) u.code (fun d => d.endTransfer f.src f.transId)).kdapSend (f.reply u 0x06 y.inOrder []))
        (.kdap f.src) t x.index x.sub y.bytes).takeAnswer = (r, 0, d))) ∧
    (∃ (s : State) (u : UnitId) (t : UnitId) (f : KdapFrame), (f.last = false) ∧ (s.Hears f false) ∧ (f.target.toNat < 4) ∧ ((s.inc (Obj.KDAP_RX u)).kdapTarget u f = some t) ∧ ((((s.inc (Obj.KDAP_RX u)).getDict u.code).transfer f.src f.transId) = none)) ∧
    (∃ (s : State) (u : UnitId) (t : UnitId) (f : KdapFrame) (x : Transfer), (s.Hears f false) ∧ (f.target.toNat < 4) ∧ ((s.inc (Obj.KDAP_RX u)).kdapTarget u f = some t) ∧ ((((s.inc (Obj.KDAP_RX u)).getDict u.code).transfer f.src f.transId) = some x) ∧ (x.write = false) ∧ (x.inOrder ≤ f.param) ∧ (f.param ≤ x.sent) ∧ (f.param < x.segments)) ∧
    (∃ (s : State) (u : UnitId) (t : UnitId) (f : KdapFrame) (x : Transfer), (s.Hears f false) ∧ (f.target.toNat < 4) ∧ ((s.inc (Obj.KDAP_RX u)).kdapTarget u f = some t) ∧ ((((s.inc (Obj.KDAP_RX u)).getDict u.code).transfer f.src f.transId) = some x) ∧ (x.write = false) ∧ (x.inOrder ≤ f.param) ∧ (f.param ≤ x.sent) ∧ (x.segments ≤ f.param)) ∧
    (∃ (s : State) (f : KdapFrame), (s.Hears f false)) ∧
    (∃ (s : State) (u : UnitId) (n : Nat) (m : Nat) (x : Transfer), ((s.getDict u.code).transfer n m = some x) ∧ (x.write = false) ∧ (x.waitFrom + 50000 ≤ s.now) ∧ (x.tries < 3)) :=
  ⟨⟨Tests.transferring Tests.writingSeg, .A, .A, Tests.frame 0x1001 3 [7], Tests.writingSeg, Tests.writtenSeg, Tests.lastSegAnswer.1, Tests.lastSegAnswer.2.2, by decide +kernel, by decide +kernel, by decide +kernel, by decide +kernel, by decide +kernel, by decide +kernel, by decide +kernel, by decide +kernel, by decide +kernel, by decide +kernel, by decide +kernel, by decide +kernel, Tests.parts Tests.lastSegAnswer (by decide +kernel)⟩,
   ⟨Tests.up, .A, .A, Tests.frame 0x1001 3 (last := false), by decide +kernel, by decide +kernel, by decide +kernel, by decide +kernel, by decide +kernel⟩,
   ⟨Tests.transferring Tests.readingMore, .A, .A, Tests.frame 0 0 (param := 1), Tests.readingMore, by decide +kernel, by decide +kernel, by decide +kernel, by decide +kernel, by decide +kernel, by decide +kernel, by decide +kernel, by decide +kernel⟩,
   ⟨Tests.transferring Tests.reading, .A, .A, Tests.frame 0 0 (param := 1), Tests.reading, by decide +kernel, by decide +kernel, by decide +kernel, by decide +kernel, by decide +kernel, by decide +kernel, by decide +kernel, by decide +kernel⟩,
   ⟨Tests.up, Tests.frame 0x1001 3, by decide +kernel⟩,
   ⟨{ Tests.transferring Tests.reading with now := 1000000 }, .A, 5, 9, Tests.reading, by decide +kernel, by decide +kernel, by decide +kernel, by decide +kernel⟩⟩

/-- States and operands that meet the hypotheses of ManagementTransfers: thirdRetransmit; kdapTransferTimeout. -/
theorem witness_ManagementTransfers_4 :
    (∃ (s : State) (u : UnitId) (n : Nat) (m : Nat) (x : Transfer), ((s.getDict u.code).transfer n m = some x) ∧ (x.write = false) ∧ (x.waitFrom + 50000 ≤ s.now) ∧ (3 ≤ x.tries)) ∧
    (∃ (s : State) (u : UnitId) (n : Nat) (m : Nat) (x : Transfer), ((s.getDict u.code).transfer n m = some x) ∧ (x.frameAt + 500000 ≤ s.now)) :=
  ⟨⟨{ Tests.transferring { Tests.reading with tries := 3 } with now := 1000000 }, .A, 5, 9, { Tests.reading with tries := 3 }, by decide +kernel, by decide +kernel, by decide +kernel, by decide +kernel⟩,
   ⟨{ Tests.transferring Tests.reading with now := 1000000 }, .A, 5, 9, Tests.reading, by decide +kernel, by decide +kernel⟩⟩

/-- States and operands that meet the hypotheses of DiscoveryHeartbeatsAndTime: discoveryAnswer; otherBroadcast;
noBroadcastWaits; heartbeat; heartbeatOff; nodeConflict. -/
theorem witness_DiscoveryHeartbeatsAndTime_1 :
    (∃ (s : State) (u : UnitId) (f : KdapFrame) (t : State) (r : State) (d : List Byte), (s.mode.cur ≠ .switchover) ∧ (s.kdapUp = true) ∧ ((s.getDict u.code).found.any (fun e => e.1 == f && decide (e.2 + 1000 * s.nodeId u ≤ s.now)) = true) ∧ (t = s.modDict u.code (fun d => { d with found := d.found.filter (fun e => e.1 != f) })) ∧ ((t.dictRead (.kdap f.src) u f.index f.sub).takeAnswer = (r, 0, d))) ∧
    (∃ (f : KdapFrame), (f.broadcast = true) ∧ (f.discovers = false)) ∧
    (∃ (s : State) (u : UnitId), ((s.getDict u.code).found = [])) ∧
    (∃ (s : State) (u : UnitId), (s.kdapUp = true) ∧ (s.rd Obj.HB_PERIOD ≠ 0) ∧ ((s.getDict u.code).beatAt + 1000 * s.rd Obj.HB_PERIOD ≤ s.now)) ∧
    (∃ (s : State), (s.rd Obj.HB_PERIOD = 0)) ∧
    (∃ (s : State) (u : UnitId) (n : Nat) (m : Nat), (s.kdapUp = true) ∧ (m = s.nodeId u) ∧ (n ≠ macOf u)) :=
  ⟨⟨Tests.discovering, .A, Tests.frame 0x1000 5 (broadcast := true), Tests.discovering.modDict 0 (fun d => { d with found := [] }), (((Tests.discovering.modDict 0 (fun d => { d with found := [] })).dictRead (.kdap (Tests.frame 0x1000 5 (broadcast := true)).src) (.A) (Tests.frame 0x1000 5 (broadcast := true)).index (Tests.frame 0x1000 5 (broadcast := true)).sub).takeAnswer).1, (((Tests.discovering.modDict 0 (fun d => { d with found := [] })).dictRead (.kdap (Tests.frame 0x1000 5 (broadcast := true)).src) (.A) (Tests.frame 0x1000 5 (broadcast := true)).index (Tests.frame 0x1000 5 (broadcast := true)).sub).takeAnswer).2.2, by decide +kernel, by decide +kernel, by decide +kernel, by decide +kernel, Tests.parts _ (by decide +kernel)⟩,
   ⟨Tests.frame 0x1001 5 (broadcast := true), by decide +kernel, by decide +kernel⟩,
   ⟨Tests.up, .A, by decide +kernel⟩,
   ⟨{ Tests.up.wr Obj.HB_PERIOD 100 with now := 1000000 }, .A, by decide +kernel, by decide +kernel, by decide +kernel⟩,
   ⟨Tests.up.wr Obj.HB_PERIOD 0, by decide +kernel⟩,
   ⟨Tests.up, .A, macOf .A + 1, 1, by decide +kernel, by decide +kernel, by omega⟩⟩

/-- States and operands that meet the hypotheses of DiscoveryHeartbeatsAndTime: timeSync; timeFollowUp; unmatchedFollowUp;
kdapEthertypeWrite; reservedEthertype. -/
theorem witness_DiscoveryHeartbeatsAndTime_2 :
    (∃ (s : State) (u : UnitId) (f : KdapFrame), (s.Hears f true) ∧ ((s.inc (Obj.KDAP_RX u)).masterOk f.src = true)) ∧
    (∃ (s : State) (u : UnitId) (f : KdapFrame) (n : Nat), (s.Hears f true) ∧ (((s.inc (Obj.KDAP_RX u)).getDict u.code).sync = some (f.src, f.transId, n))) ∧
    (∃ (s : State) (u : UnitId) (f : KdapFrame), (s.Hears f true) ∧ (((s.inc (Obj.KDAP_RX u)).getDict u.code).sync = none)) ∧
    (∃ (s : State) (q : Requester) (u : UnitId) (v : BitVec 16), (s.Accepts q u Obj.KDAP_ETHERTYPE (leBytes 2 v.toNat)) ∧ (reservedEtherType v.toNat = false)) ∧
    (∃ (s : State) (q : Requester) (u : UnitId) (v : BitVec 16), (s.Accepts q u Obj.KDAP_ETHERTYPE (leBytes 2 v.toNat)) ∧ (reservedEtherType v.toNat = true)) :=
  ⟨⟨Tests.up, .A, Tests.frame 0x1001 3, by decide +kernel, by decide +kernel⟩,
   ⟨Tests.up.modDict 0 (fun d => { d with sync := some (5, 9, 3) }), .A, Tests.frame 0x1001 3, 3, by decide +kernel, by decide +kernel⟩,
   ⟨Tests.up, .A, Tests.frame 0x1001 3, by decide +kernel, by decide +kernel⟩,
   ⟨Tests.maint, .firmware, .A, 0x88B6, by decide +kernel, by decide +kernel⟩,
   ⟨Tests.maint, .firmware, .A, 0x0800, by decide +kernel, by decide +kernel⟩⟩

/-- States and operands that meet the hypotheses of DictionaryWritesAndReads: refusedWrite; unallocatedWrite;
missingSubindexWrite; numberWrite; brokenOwnRule; writeThatIsACommand. -/
theorem witness_DictionaryWritesAndReads_1 :
    (∃ (s : State) (q : Requester) (u : UnitId) (i : Nat) (j : Nat) (d : List Byte) (r : ObjRow) (e : Nat), (s.mode.cur ≠ .switchover) ∧ (objLookup i j = some (some r)) ∧ (s.writeErr u i j q d = e) ∧ (e ≠ 0) ∧ (ownRefusal r.idx j e = false)) ∧
    (∃ (s : State) (i : Nat) (j : Nat), (s.mode.cur ≠ .switchover) ∧ (objLookup i j = none)) ∧
    (∃ (s : State) (i : Nat) (j : Nat), (s.mode.cur ≠ .switchover) ∧ (objLookup i j = some none)) ∧
    (∃ (s : State) (q : Requester) (u : UnitId) (i : Nat) (j : Nat) (d : List Byte) (r : ObjRow), (s.mode.cur ≠ .switchover) ∧ (objLookup i j = some (some r)) ∧ (s.writeErr u i j q d = 0) ∧ (s.cmdWrite q u r.idx i j d = none) ∧ (r.ty.numeric = true) ∧ ((if r.idx / 4096 = 3 then State.rulePort (leNat d) r.idx j d else s.ruleUnit u (leNat d) r.idx i j d) = 0)) ∧
    (∃ (s : State) (q : Requester) (u : UnitId) (i : Nat) (j : Nat) (d : List Byte) (r : ObjRow) (e : Nat), (s.mode.cur ≠ .switchover) ∧ (objLookup i j = some (some r)) ∧ (s.writeErr u i j q d = 0) ∧ (s.cmdWrite q u r.idx i j d = none) ∧ ((if r.idx / 4096 = 3 then State.rulePort (leNat d) r.idx j d else s.ruleUnit u (leNat d) r.idx i j d) = e) ∧ (e ≠ 0)) ∧
    (∃ (s : State) (q : Requester) (u : UnitId) (i : Nat) (j : Nat) (d : List Byte) (r : ObjRow) (o : Host.Outcome State Fault Refusal), (s.mode.cur ≠ .switchover) ∧ (objLookup i j = some (some r)) ∧ (s.writeErr u i j q d = 0) ∧ (s.cmdWrite q u r.idx i j d = some o)) :=
  ⟨⟨Tests.maint, .kdap 1, .A, 0x1001, 3, [7, 8, 9], ((objLookup 0x1001 3).getD none).getD (((objLookup 0x1001 2).getD none).get (by decide +kernel)), 8, by decide +kernel, by decide +kernel, by decide +kernel, by decide +kernel, by decide +kernel⟩,
   ⟨Tests.maint, 0x0FFF, 3, by decide +kernel, by decide +kernel⟩,
   ⟨Tests.maint, 0x1001, 200, by decide +kernel, by decide +kernel⟩,
   ⟨Tests.maint, .kdap 1, .A, 0x1001, 3, [7], ((objLookup 0x1001 3).getD none).getD (((objLookup 0x1001 2).getD none).get (by decide +kernel)), by decide +kernel, by decide +kernel, by decide +kernel, Option.isNone_iff_eq_none.mp (by decide +kernel), by decide +kernel, by decide +kernel⟩,
   ⟨Tests.maint, .kdap 1, .A, 0x9000, 0, leBytes 8 33, ((objLookup 0x9000 0).getD none).getD (((objLookup 0x1001 2).getD none).get (by decide +kernel)), 7, by decide +kernel, by decide +kernel, by decide +kernel, Option.isNone_iff_eq_none.mp (by decide +kernel), by decide +kernel, by decide +kernel⟩,
   ⟨Tests.maint, .kdap 1, .A, 0x1020, 4, [1], ((objLookup 0x1020 4).getD none).getD (((objLookup 0x1001 2).getD none).get (by decide +kernel)), (Tests.maint.cmdWrite (.kdap 1) .A (((objLookup 0x1020 4).getD none).getD (((objLookup 0x1001 2).getD none).get (by decide +kernel))).idx 0x1020 4 [1]).get (by decide +kernel), by decide +kernel, by decide +kernel, by decide +kernel, (Option.some_get _).symm⟩⟩

/-- States and operands that meet the hypotheses of DictionaryWritesAndReads: heldInSwitchover; restoreDefaults;
dictionaryWrite; dictionaryRead; dictionaryUnreachable; dictionaryForwarded. -/
theorem witness_DictionaryWritesAndReads_2 :
    (∃ (s : State) (i : Nat) (j : Nat), (s.mode.cur = .switchover) ∧ (i ≠ 0x1101 ∨ j ≠ 0)) ∧
    (∃ (s : State) (q : Requester) (u : UnitId), (s.Accepts q u Obj.RESTORE_DEFAULTS [0x5A])) ∧
    (∃ (s : State) (r : State) (t : CmdTag) (m : Nat) (y : BitVec 2) (u : UnitId) (i : Nat) (j : Nat) (d : List Byte) (x : State) (e : Nat) (z : List Byte), (s.Begins t 0) ∧ (r = (s.fetch t 0).1.modCmd t (fun c => { c with kind := .admin })) ∧ (r.ownModule m = true) ∧ (r.targetUnit t.ctrl y = some u) ∧ ((r.dictWrite (.inband t.ctrl) u i j d).takeAnswer = (x, e, z))) ∧
    (∃ (s : State) (r : State) (t : CmdTag) (m : Nat) (y : BitVec 2) (u : UnitId) (i : Nat) (j : Nat) (x : State) (d : List Byte), (s.Begins t 0) ∧ (r = (s.fetch t 0).1.modCmd t (fun c => { c with kind := .admin })) ∧ (r.ownModule m = true) ∧ (r.targetUnit t.ctrl y = some u) ∧ ((r.dictRead (.inband t.ctrl) u i j).takeAnswer = (x, 0, d))) ∧
    (∃ (s : State) (r : State) (t : CmdTag) (m : Nat), (s.Begins t 0) ∧ (r = (s.fetch t 0).1.modCmd t (fun c => { c with kind := .admin })) ∧ (r.ownModule m = false) ∧ (r.moduleUp m = false)) ∧
    (∃ (s : State) (r : State) (t : CmdTag) (m : Nat), (s.Begins t 0) ∧ (r = (s.fetch t 0).1.modCmd t (fun c => { c with kind := .admin })) ∧ (r.ownModule m = false) ∧ (r.moduleUp m = true)) :=
  ⟨⟨Tests.released, 0x1001, 3, by decide +kernel, by decide +kernel⟩,
   ⟨Tests.fusing, .kdap 1, .A, by decide +kernel⟩,
   ⟨Tests.hosted, (Tests.hosted.fetch Tests.adm 0).1.modCmd Tests.adm (fun c => { c with kind := .admin }), Tests.adm, 0xFF, 0, .A, 0x1001, 3, [7], ((((Tests.hosted.fetch Tests.adm 0).1.modCmd Tests.adm (fun c => { c with kind := .admin })).dictWrite (.inband (Tests.adm).ctrl) (.A) (0x1001) (3) ([7])).takeAnswer).1, 0, ((((Tests.hosted.fetch Tests.adm 0).1.modCmd Tests.adm (fun c => { c with kind := .admin })).dictWrite (.inband (Tests.adm).ctrl) (.A) (0x1001) (3) ([7])).takeAnswer).2.2, by decide +kernel, rfl, by decide +kernel, by decide +kernel, Tests.parts _ (by decide +kernel)⟩,
   ⟨Tests.hosted, (Tests.hosted.fetch Tests.adm 0).1.modCmd Tests.adm (fun c => { c with kind := .admin }), Tests.adm, 0xFF, 0, .A, 0x1001, 3, ((((Tests.hosted.fetch Tests.adm 0).1.modCmd Tests.adm (fun c => { c with kind := .admin })).dictRead (.inband (Tests.adm).ctrl) (.A) (0x1001) (3)).takeAnswer).1, ((((Tests.hosted.fetch Tests.adm 0).1.modCmd Tests.adm (fun c => { c with kind := .admin })).dictRead (.inband (Tests.adm).ctrl) (.A) (0x1001) (3)).takeAnswer).2.2, by decide +kernel, rfl, by decide +kernel, by decide +kernel, Tests.parts _ (by decide +kernel)⟩,
   ⟨Tests.hosted, (Tests.hosted.fetch Tests.adm 0).1.modCmd Tests.adm (fun c => { c with kind := .admin }), Tests.adm, 9, by decide +kernel, rfl, by decide +kernel, by decide +kernel⟩,
   ⟨Tests.root, (Tests.root.fetch Tests.adm 0).1.modCmd Tests.adm (fun c => { c with kind := .admin }), Tests.adm, 1, by decide +kernel, rfl, by decide +kernel, by decide +kernel⟩⟩

/-- States and operands that meet the hypotheses of DictionaryWritesAndReads: dictRequest; dictResponse. -/
theorem witness_DictionaryWritesAndReads_3 :
    (∃ (s : State) (b : Bool) (v : UnitId) (u : UnitId) (y : BitVec 2) (i : Nat) (j : Nat) (d : List Byte) (r : State) (e : Nat) (z : List Byte), (s.casc.number.isSome = true) ∧ (s.mode.cur ≠ .switchover) ∧ (s.targetUnit ((s.hopUnit 0).getD s.pair.active) y = some u) ∧ ((if b then s.dictWrite (.inband v) u i j d else s.dictRead (.inband v) u i j).takeAnswer = (r, e, z))) ∧
    (∃ (s : State) (m : Nat) (k : Nat) (e : Nat) (c : HostCmd), (s.dictForwarded m k = some c) ∧ (e = 0) ∧ (c.action = 2)) :=
  ⟨⟨Tests.member, true, .A, .A, 3, 0x1001, 3, [7], ((if (true) then (Tests.member).dictWrite (.inband (.A)) (.A) (0x1001) (3) ([7]) else (Tests.member).dictRead (.inband (.A)) (.A) (0x1001) (3)).takeAnswer).1, 0, ((if (true) then (Tests.member).dictWrite (.inband (.A)) (.A) (0x1001) (3) ([7]) else (Tests.member).dictRead (.inband (.A)) (.A) (0x1001) (3)).takeAnswer).2.2, by decide +kernel, by decide +kernel, by decide +kernel, Tests.parts _ (by decide +kernel)⟩,
   ⟨Tests.root.enterCmd { Tests.fwdStore with action := 2 }, 1, 9, 0, { Tests.fwdStore with action := 2 }, by decide +kernel, by decide +kernel, by decide +kernel⟩⟩

/-- States and operands that meet the hypotheses of SettingsSessionsAndFuses: settingsSave; timestampSave;
authChallengeRead; lockedOut; authResponseWrite; wrongResponse. -/
theorem witness_SettingsSessionsAndFuses_1 :
    (∃ (s : State) (u : UnitId) (k : Nat), (s.sup.vin12 = true) ∧ (s.mode.served = true) ∧ ((s.unitSt u).inReset = false) ∧ (k ∈ (s.getSet u.code).staged)) ∧
    (∃ (s : State) (u : UnitId), ((s.getSet u.code).savedTime.all (fun t => decide (t + 10000000 ≤ s.now)) = true) ∧ (s.sup.vin12 = true) ∧ (s.rd (Obj.TIME_BASE_STATE u) = 1)) ∧
    (∃ (s : State) (q : Requester) (u : UnitId), (s.mode.cur ≠ .switchover) ∧ (s.readErr 0x1020 0 q = 0) ∧ ((s.getDict u.code).lockedOut q s.now = false)) ∧
    (∃ (s : State) (q : Requester) (u : UnitId), (s.mode.cur ≠ .switchover) ∧ (s.readErr 0x1020 0 q = 0) ∧ ((s.getDict u.code).lockedOut q s.now = true)) ∧
    (∃ (s : State) (q : Requester) (u : UnitId) (d : List Byte) (k : List Byte) (c : List Byte), (s.mode.cur ≠ .switchover) ∧ (s.writeErr u 0x1020 1 q d = 0) ∧ ((s.getDict u.code).challengeOf q s.now = some c) ∧ ((s.getFuse u.code).mgmtKey = some k) ∧ (d = authResponse k c q) ∧ (((s.getDict u.code).sessions.filter (fun e => e.1 != q && decide (s.now < e.2))).length < 8)) ∧
    (∃ (s : State) (q : Requester) (u : UnitId) (d : List Byte) (k : List Byte) (c : List Byte), (s.mode.cur ≠ .switchover) ∧ (s.writeErr u 0x1020 1 q d = 0) ∧ ((s.getDict u.code).challengeOf q s.now = some c) ∧ ((s.getFuse u.code).mgmtKey = some k) ∧ (d ≠ authResponse k c q)) :=
  ⟨⟨Tests.staged, .A, Obj.HB_PERIOD, by decide +kernel, by decide +kernel, by decide +kernel, by decide +kernel⟩,
   ⟨Tests.staged.wr (Obj.TIME_BASE_STATE .A) 1, .A, by decide +kernel, by decide +kernel, by decide +kernel⟩,
   ⟨Tests.maint, .kdap 1, .A, by decide +kernel, by decide +kernel, by decide +kernel⟩,
   ⟨Tests.authLocked, .kdap 1, .A, by decide +kernel, by decide +kernel, by decide +kernel⟩,
   ⟨Tests.authKeyed, .kdap 1, .A, authResponse (List.replicate 32 1) (List.replicate 16 2) (.kdap 1), List.replicate 32 1, List.replicate 16 2, by decide +kernel, Tests.authKeyed_accepts, by decide +kernel, by decide +kernel, rfl, by decide +kernel⟩,
   ⟨Tests.authKeyed, .kdap 1, .A, List.replicate 16 0, List.replicate 32 1, List.replicate 16 2, by decide +kernel, by decide +kernel, by decide +kernel, by decide +kernel, by decide +kernel⟩⟩

/-- States and operands that meet the hypotheses of SettingsSessionsAndFuses: noChallenge; authClose; authChallengeExpiry;
challengeStillGood; mondisBlow; fuseWithoutSupply. -/
theorem witness_SettingsSessionsAndFuses_2 :
    (∃ (s : State) (q : Requester) (u : UnitId) (d : List Byte), (s.mode.cur ≠ .switchover) ∧ (s.writeErr u 0x1020 1 q d = 0) ∧ ((s.getDict u.code).challengeOf q s.now = none)) ∧
    (∃ (s : State) (q : Requester) (u : UnitId) (v : BitVec 8), (s.Accepts q u (Obj.AUTH_CLOSE u) (leBytes 1 v.toNat))) ∧
    (∃ (s : State) (q : Requester) (u : UnitId), ((s.getDict u.code).challengeOf q s.now = none)) ∧
    (∃ (s : State) (q : Requester) (u : UnitId) (c : List Byte), ((s.getDict u.code).challengeOf q s.now = some c)) ∧
    (∃ (s : State) (q : Requester) (u : UnitId), (s.mode.cur ≠ .switchover) ∧ (s.writeErr u 0x5F00 1 q [0xA5] = 0) ∧ (s.fuseRefusal = none)) ∧
    (∃ (s : State) (q : Requester) (u : UnitId), (s.mode.cur ≠ .switchover) ∧ (s.writeErr u 0x5F00 1 q [0xA5] = 0) ∧ (s.sup.vin12 = false) ∧ ((s.getFuse 0).mondis = false) ∧ ((s.getFuse 1).mondis = false)) :=
  ⟨⟨Tests.maint, .kdap 1, .A, List.replicate 16 0, by decide +kernel, by decide +kernel, by decide +kernel⟩,
   ⟨Tests.fusing, .kdap 1, .A, 1, by decide +kernel⟩,
   ⟨{ Tests.authKeyed with now := 100000000 }, .kdap 1, .A, by decide +kernel⟩,
   ⟨Tests.authKeyed, .kdap 1, .A, List.replicate 16 2, by decide +kernel⟩,
   ⟨Tests.fusing, .kdap 1, .A, by decide +kernel, by decide +kernel, by decide +kernel⟩,
   ⟨Tests.fusingLow, .kdap 1, .A, by decide +kernel, by decide +kernel, by decide +kernel, by decide +kernel, by decide +kernel⟩⟩

/-- States and operands that meet the hypotheses of SettingsSessionsAndFuses: fwMinSvnWrite; sameMinSvn; mgmtKeyWrite;
erKeyWrite; provisionedErKey. -/
theorem witness_SettingsSessionsAndFuses_3 :
    (∃ (s : State) (q : Requester) (u : UnitId) (v : BitVec 32), (s.mode.cur ≠ .switchover) ∧ (s.writeErr u 0x5F00 3 q (leBytes 4 v.toNat) = 0) ∧ (s.fuseRefusal = none) ∧ (s.minSvn u < v.toNat) ∧ (v.toNat ≤ s.rd (Obj.FW_SVN u))) ∧
    (∃ (s : State) (q : Requester) (u : UnitId) (v : BitVec 32), (s.mode.cur ≠ .switchover) ∧ (s.writeErr u 0x5F00 3 q (leBytes 4 v.toNat) = 0) ∧ (v.toNat = s.minSvn u)) ∧
    (∃ (s : State) (q : Requester) (u : UnitId) (d : List Byte) (r : ObjRow), (s.mode.cur = .maintenance) ∧ ((s.getFuse u.code).mgmtKey = none) ∧ (objLookup 0x5F00 4 = some (some r)) ∧ (s.modeErr 0x5F00 4 r q true = 0) ∧ (d.length = 32) ∧ (s.fuseRefusal = none)) ∧
    (∃ (s : State) (q : Requester) (u : UnitId) (d : List Byte), (s.mode.cur ≠ .switchover) ∧ (s.writeErr u 0x5F00 5 q d = 0) ∧ ((s.getFuse u.code).erKey = none) ∧ (s.fuseRefusal = none)) ∧
    (∃ (s : State) (q : Requester) (u : UnitId) (d : List Byte) (k : List Byte), (s.mode.cur ≠ .switchover) ∧ (s.writeErr u 0x5F00 5 q d = 0) ∧ ((s.getFuse u.code).erKey = some k) ∧ (s.fuseRefusal = none)) :=
  ⟨⟨(Tests.fusing.modFuse 0 (fun f => { f with minSvn := some 2 })).wr (Obj.FW_SVN .A) 5, .kdap 1, .A, 3, by decide +kernel, by decide +kernel, by decide +kernel, by decide +kernel, by decide +kernel⟩,
   ⟨(Tests.fusing.modFuse 0 (fun f => { f with minSvn := some 2 })).wr (Obj.FW_SVN .A) 5, .kdap 1, .A, 2, by decide +kernel, by decide +kernel, by decide +kernel⟩,
   ⟨Tests.fusing, .kdap 1, .A, List.replicate 32 1, ((objLookup 0x5F00 4).getD none).getD (((objLookup 0x1001 2).getD none).get (by decide +kernel)), by decide +kernel, by decide +kernel, by decide +kernel, by decide +kernel, by decide +kernel, by decide +kernel⟩,
   ⟨Tests.fusing, .kdap 1, .A, List.replicate 32 1, by decide +kernel, by decide +kernel, by decide +kernel, by decide +kernel⟩,
   ⟨Tests.fusing.modFuse 0 (fun f => { f with erKey := some [] }), .kdap 1, .A, List.replicate 32 1, [], by decide +kernel, by decide +kernel, by decide +kernel, by decide +kernel⟩⟩

/-- States and operands that meet the hypotheses of MonitorLines: monLineTooLong; emptyLine; faultyLine; lineOfACommand;
linesAsText; monLineDropped. -/
theorem witness_MonitorLines_1 :
    (∃ (s : State) (w : List Byte), (s.monUp = true) ∧ (200 < w.length)) ∧
    (∃ (s : State) (w : List Byte), (s.monUp = true) ∧ (w.length ≤ 200) ∧ ((lineWords w).isEmpty = true)) ∧
    (∃ (s : State) (w : List Byte) (c : Nat), (s.monUp = true) ∧ (w.length ≤ 200) ∧ ((lineWords w).isEmpty = false) ∧ (lineCall (linePrefix w).1 (linePrefix w).2 = .err c)) ∧
    (∃ (s : State) (w : List Byte) (f : State → Host.Outcome State Fault Refusal), (s.monUp = true) ∧ (w.length ≤ 200) ∧ ((lineWords w).isEmpty = false) ∧ (lineCall (linePrefix w).1 (linePrefix w).2 = .run f)) ∧
    (∃ (s : State), (s.monUp = true)) ∧
    (∃ (s : State) (n : Nat), (s.monUp = true) ∧ (n ≠ 0)) :=
  ⟨⟨Tests.up, List.replicate 201 0x41, by decide +kernel, by decide +kernel⟩,
   ⟨Tests.up, [0x20], by decide +kernel, by decide +kernel, by decide +kernel⟩,
   ⟨Tests.up, ascii "baud fast", 0x0F, by decide +kernel, by decide +kernel, by decide +kernel, rfl⟩,
   ⟨Tests.up, ascii "@b seq step 3 2", exec (.monSeqStep (.unit .B) 3 2), by decide +kernel, by decide +kernel, by decide +kernel, rfl⟩,
   ⟨Tests.up, by decide +kernel⟩,
   ⟨Tests.up, 2, by decide +kernel, by decide +kernel⟩⟩

/-- States and operands that meet the hypotheses of MonitorLines: monitorDisabled; unitOutOfReach; lockedLine; monHelp;
monId; monPeek. -/
theorem witness_MonitorLines_2 :
    (∃ (s : State), (s.monUp = false)) ∧
    (∃ (s : State) (m : MonUnit), (s.RunsLine s.lineIn true) ∧ (s.lineIn.monReach m = false)) ∧
    (∃ (s : State), (s.monUp = true) ∧ (s.rd (Obj.MON_LOCK s.pair.active) = 1) ∧ (s.session s.pair.active .monitor = false)) ∧
    (∃ (s : State), (s.RunsLine s.lineIn true)) ∧
    (∃ (s : State) (m : MonUnit), (s.RunsLine s.lineIn true) ∧ (s.lineIn.monReach m = true)) ∧
    (∃ (s : State) (m : MonUnit) (i : Nat) (j : Nat) (r : State) (d : List Byte), (s.mode.cur ≠ .switchover) ∧ (s.RunsLine r (decide (0x1000 ≤ i ∧ i ≤ 0x10FF))) ∧ ((s.lineIn.dictRead .monitor (s.lineIn.monUnit m) i j).takeAnswer = (r, 0, d)) ∧ (s.lineIn.monReach m = true)) :=
  ⟨⟨Tests.up.modFuse 1 (fun f => { f with mondis := true }), by decide +kernel⟩,
   ⟨({ Tests.up with pair := { Tests.up.pair with peer := .absent } } : State), .unit .B, by decide +kernel, by decide +kernel⟩,
   ⟨Tests.monLocked, by decide +kernel, by decide +kernel, by decide +kernel⟩,
   ⟨Tests.up, by decide +kernel⟩,
   ⟨Tests.up, .serving, by decide +kernel, by decide +kernel⟩,
   ⟨Tests.up, .serving, 0x1001, 3, (((Tests.up).lineIn.dictRead .monitor ((Tests.up).lineIn.monUnit (.serving)) (0x1001) (3)).takeAnswer).1, (((Tests.up).lineIn.dictRead .monitor ((Tests.up).lineIn.monUnit (.serving)) (0x1001) (3)).takeAnswer).2.2, by decide +kernel, by decide +kernel, Tests.parts _ (by decide +kernel), by decide +kernel⟩⟩

/-- States and operands that meet the hypotheses of MonitorLines: monPeekFails; monPoke; monDump; monMode; monModeSet;
monEv. -/
theorem witness_MonitorLines_3 :
    (∃ (s : State) (m : MonUnit) (i : Nat) (j : Nat) (e : Nat) (r : State) (d : List Byte), (s.mode.cur ≠ .switchover) ∧ (s.RunsLine r (decide (0x1000 ≤ i ∧ i ≤ 0x10FF))) ∧ ((s.lineIn.dictRead .monitor (s.lineIn.monUnit m) i j).takeAnswer = (r, e, d)) ∧ (e ≠ 0) ∧ (s.lineIn.monReach m = true)) ∧
    (∃ (s : State) (m : MonUnit) (i : Nat) (j : Nat) (e : Nat) (d : List Byte) (z : List Byte) (r : State), (s.mode.cur ≠ .switchover) ∧ (s.RunsLine r false) ∧ (d.length ≤ 64) ∧ ((s.lineIn.dictWrite .monitor (s.lineIn.monUnit m) i j d).takeAnswer = (r, e, z)) ∧ (s.lineIn.monReach m = true)) ∧
    (∃ (s : State) (m : MonUnit) (i : Nat) (j : Nat) (o : Nat) (l : Option Nat) (part : List Byte) (r : State) (d : List Byte), (s.mode.cur ≠ .switchover) ∧ (s.RunsLine r false) ∧ ((s.lineIn.dictRead .monitor (s.lineIn.monUnit m) i j).takeAnswer = (r, 0, d)) ∧ (part = (match l with | some n => (d.drop o).take n | none => d.drop o)) ∧ (part.length ≤ 65536) ∧ (s.lineIn.monReach m = true)) ∧
    (∃ (s : State), (s.mode.cur ≠ .switchover) ∧ (s.RunsLine s.lineIn false)) ∧
    (∃ (s : State) (c : BitVec 8) (e : Nat) (r : State) (d : List Byte), (s.mode.cur ≠ .switchover) ∧ (s.RunsLine r false) ∧ ((s.lineIn.dictWrite .monitor s.lineIn.pair.active 0x1101 0 [c]).takeAnswer = (r, e, d))) ∧
    (∃ (s : State) (m : MonUnit) (n : Nat), (s.RunsLine s.lineIn false) ∧ (n ≠ 0) ∧ (s.lineIn.monReach m = true)) :=
  ⟨⟨Tests.up, .serving, 0x0FFF, 3, 1, (((Tests.up).lineIn.dictRead .monitor ((Tests.up).lineIn.monUnit (.serving)) (0x0FFF) (3)).takeAnswer).1, (((Tests.up).lineIn.dictRead .monitor ((Tests.up).lineIn.monUnit (.serving)) (0x0FFF) (3)).takeAnswer).2.2, by decide +kernel, by decide +kernel, Tests.parts _ (by decide +kernel), by decide +kernel, by decide +kernel⟩,
   ⟨Tests.up, .serving, 0x1001, 3, 0, [7], (Tests.up.lineIn.dictWrite .monitor (Tests.up.lineIn.monUnit .serving) 0x1001 3 [7]).takeAnswer.2.2, (Tests.up.lineIn.dictWrite .monitor (Tests.up.lineIn.monUnit .serving) 0x1001 3 [7]).takeAnswer.1, by decide +kernel, by decide +kernel, by decide +kernel, Tests.parts _ (by decide +kernel), by decide +kernel⟩,
   ⟨Tests.up, .serving, 0x1001, 3, 0, none, (Tests.up.lineIn.dictRead .monitor .A 0x1001 3).takeAnswer.2.2, (((Tests.up).lineIn.dictRead .monitor ((Tests.up).lineIn.monUnit (.serving)) (0x1001) (3)).takeAnswer).1, (((Tests.up).lineIn.dictRead .monitor ((Tests.up).lineIn.monUnit (.serving)) (0x1001) (3)).takeAnswer).2.2, by decide +kernel, by decide +kernel, Tests.parts _ (by decide +kernel), by decide +kernel, by decide +kernel, by decide +kernel⟩,
   ⟨Tests.up, by decide +kernel, by decide +kernel⟩,
   ⟨Tests.up, (2 : Byte), 0, (((Tests.up).lineIn.dictWrite .monitor (Tests.up).lineIn.pair.active 0x1101 0 [((2 : Byte))]).takeAnswer).1, (((Tests.up).lineIn.dictWrite .monitor (Tests.up).lineIn.pair.active 0x1101 0 [((2 : Byte))]).takeAnswer).2.2, by decide +kernel, by decide +kernel, Tests.parts _ (by decide +kernel)⟩,
   ⟨Tests.monRecords, .serving, 1, by decide +kernel, by decide +kernel, by decide +kernel⟩⟩

/-- States and operands that meet the hypotheses of MonitorLines: monEvFrom; monEvTail; monTrace; monTraceOff; monJfStatus;
monJfRead. -/
theorem witness_MonitorLines_4 :
    (∃ (s : State) (m : MonUnit) (n : Nat), (s.RunsLine s.lineIn false) ∧ (n < (s.lineIn.getEr (s.lineIn.monUnit m).code).next) ∧ (s.lineIn.monReach m = true)) ∧
    (∃ (s : State) (m : MonUnit), (s.RunsLine ({ s.lineIn with mon := { s.lineIn.mon with tail := some (s.lineIn.monUnit m) } } : State) false) ∧ (s.lineIn.monReach m = true)) ∧
    (∃ (s : State) (m : MonUnit) (i : Nat) (j : Nat) (x : Site), (s.RunsLine ({ s.lineIn with mon := { s.lineIn.mon with traces := x.key :: s.lineIn.mon.traces } } : State) false) ∧ (siteAt (s.lineIn.monUnit m) i j = some x) ∧ (s.lineIn.mon.traces.contains x.key = false) ∧ (s.lineIn.mon.traces.length < 8) ∧ (s.lineIn.monReach m = true)) ∧
    (∃ (s : State), (s.RunsLine ({ s.lineIn with mon := { s.lineIn.mon with traces := [] } } : State) false)) ∧
    (∃ (s : State) (m : MonUnit) (k : Nat) (u : UnitId) (r : State), (s.mode.cur ≠ .switchover) ∧ (s.RunsLine r false) ∧ (u = s.lineIn.monUnit m) ∧ (s.lineIn.writeErr u 0x4201 0 .monitor [1] = 0) ∧ (r = s.lineIn.jfRun u .management 6 (jfAddress k 0) true (fun s => (s, swDone, []))) ∧ (s.lineIn.monReach m = true)) ∧
    (∃ (s : State) (m : MonUnit) (k : Nat) (n : Nat) (e : Nat) (u : UnitId) (r : State), (s.mode.cur ≠ .switchover) ∧ (s.RunsLine r false) ∧ (u = s.lineIn.monUnit m) ∧ (s.lineIn.writeErr u 0x4201 0 .monitor [1] = 0) ∧ (n ≤ 255) ∧ (r = s.lineIn.readPage u .management (jfAddress k n) e) ∧ (s.lineIn.monReach m = true)) :=
  ⟨⟨Tests.monRecords, .serving, 0, by decide +kernel, by decide +kernel, by decide +kernel⟩,
   ⟨Tests.up, .serving, by decide +kernel, by decide +kernel⟩,
   ⟨Tests.up, .serving, 0x5000, 0, .pwr .A, by decide +kernel, by decide +kernel, by decide +kernel, by decide +kernel, by decide +kernel⟩,
   ⟨Tests.up, by decide +kernel⟩,
   ⟨Tests.flashMaint, .serving, 0, .A, Tests.flashMaint.lineIn.jfRun .A .management 6 (jfAddress 0 0) true (fun s => (s, swDone, [])), by decide +kernel, by decide +kernel, by decide +kernel, by decide +kernel, rfl, by decide +kernel⟩,
   ⟨Tests.flashMaint, .serving, 0, 3, 0, .A, Tests.flashMaint.lineIn.readPage .A .management (jfAddress 0 3) 0, by decide +kernel, by decide +kernel, by decide +kernel, by decide +kernel, by decide +kernel, rfl, by decide +kernel⟩⟩

/-- States and operands that meet the hypotheses of MonitorLines: monJfCounters; monAuth; monAuthResponse; monBaud;
unlistedRate; baudRevert. -/
theorem witness_MonitorLines_5 :
    (∃ (s : State) (m : MonUnit), (s.mode.cur ≠ .switchover) ∧ (s.RunsLine s.lineIn false) ∧ (s.lineIn.readErr 0x4200 2 .monitor = 0) ∧ (s.lineIn.monReach m = true)) ∧
    (∃ (s : State) (m : MonUnit) (r : State) (d : List Byte), (s.mode.cur ≠ .switchover) ∧ (s.RunsLine r true) ∧ ((s.lineIn.authChallenge .monitor (s.lineIn.monUnit m)).takeAnswer = (r, 0, d)) ∧ (s.lineIn.monReach m = true)) ∧
    (∃ (s : State) (m : MonUnit) (k : List Byte) (e : Nat) (r : State) (d : List Byte), (s.mode.cur ≠ .switchover) ∧ (s.RunsLine r true) ∧ ((s.lineIn.authRespond .monitor (s.lineIn.monUnit m) k).takeAnswer = (r, e, d)) ∧ (s.lineIn.monReach m = true)) ∧
    (∃ (s : State) (n : Nat), (s.RunsLine ({ s.lineIn.wr (Obj.MON_BAUD s.lineIn.pair.active) n with mon := { s.lineIn.mon with rateSince := some s.lineIn.now } } : State) false) ∧ (monRates.contains n = true)) ∧
    (∃ (s : State) (n : Nat), (s.RunsLine s.lineIn false) ∧ (monRates.contains n = false)) ∧
    (∃ (s : State) (t : Nat), (s.mon.rateSince = some t) ∧ (t + 10000000 ≤ s.now)) :=
  ⟨⟨Tests.up, .serving, by decide +kernel, by decide +kernel, by decide +kernel, by decide +kernel⟩,
   ⟨Tests.up, .serving, (((Tests.up).lineIn.authChallenge .monitor ((Tests.up).lineIn.monUnit (.serving))).takeAnswer).1, (((Tests.up).lineIn.authChallenge .monitor ((Tests.up).lineIn.monUnit (.serving))).takeAnswer).2.2, by decide +kernel, by decide +kernel, Tests.parts _ (by decide +kernel), by decide +kernel⟩,
   ⟨Tests.up, .serving, List.replicate 16 0, 9, (((Tests.up).lineIn.authRespond .monitor ((Tests.up).lineIn.monUnit (.serving)) (List.replicate 16 0)).takeAnswer).1, (((Tests.up).lineIn.authRespond .monitor ((Tests.up).lineIn.monUnit (.serving)) (List.replicate 16 0)).takeAnswer).2.2, by decide +kernel, by decide +kernel, Tests.parts _ (by decide +kernel), by decide +kernel⟩,
   ⟨Tests.up, 921600, by decide +kernel, by decide +kernel⟩,
   ⟨Tests.up, 9600, by decide +kernel, by decide +kernel⟩,
   ⟨{ Tests.up with mon := { rateSince := some 0 }, now := 100000000 }, 0, by decide +kernel, by decide +kernel⟩⟩

/-- States and operands that meet the hypotheses of MonitorLines: rateProved. -/
theorem witness_MonitorLines_6 :
    ∃ (s : State), (s.mon.rateSince = none) :=
  ⟨Tests.up, by decide +kernel⟩

/-- States and operands that meet the hypotheses of MonitorOfSequencers: monSeqHalt; monSeqRun; monSeqStep;
monSeqStepRunning; monSeqRegs; sequencerOutsideMaintenance. -/
theorem witness_MonitorOfSequencers_1 :
    (∃ (s : State) (m : MonUnit) (k : Nat), (s.RunsLine (s.lineIn.modSeq (seqIdOf (s.lineIn.monUnit m) k).key (fun e => { e with halted := true })) false) ∧ (k < 64) ∧ (s.lineIn.mode.cur = .maintenance) ∧ (s.lineIn.rawPlan (seqIdOf (s.lineIn.monUnit m) k) = true) ∧ (s.lineIn.monReach m = true)) ∧
    (∃ (s : State) (m : MonUnit) (k : Nat), (s.RunsLine (s.lineIn.modSeq (seqIdOf (s.lineIn.monUnit m) k).key (fun e => { e with halted := false })) false) ∧ (k < 64) ∧ (s.lineIn.mode.cur = .maintenance) ∧ (s.lineIn.rawPlan (seqIdOf (s.lineIn.monUnit m) k) = true) ∧ (s.lineIn.monReach m = true)) ∧
    (∃ (s : State) (m : MonUnit) (k : Nat) (n : Nat), (s.RunsLine (s.lineIn.seqSteps (seqIdOf (s.lineIn.monUnit m) k) n) false) ∧ (k < 64) ∧ (s.lineIn.mode.cur = .maintenance) ∧ (s.lineIn.rawPlan (seqIdOf (s.lineIn.monUnit m) k) = true) ∧ ((s.lineIn.getSeq (seqIdOf (s.lineIn.monUnit m) k).key).halted = true) ∧ (s.lineIn.monReach m = true)) ∧
    (∃ (s : State) (m : MonUnit) (k : Nat), (s.RunsLine s.lineIn false) ∧ (k < 64) ∧ (s.lineIn.mode.cur = .maintenance) ∧ (s.lineIn.rawPlan (seqIdOf (s.lineIn.monUnit m) k) = true) ∧ ((s.lineIn.getSeq (seqIdOf (s.lineIn.monUnit m) k).key).halted = false) ∧ (s.lineIn.monReach m = true)) ∧
    (∃ (s : State) (m : MonUnit) (k : Nat), (s.RunsLine s.lineIn false) ∧ (k < 64) ∧ (s.lineIn.mode.cur = .maintenance) ∧ (s.lineIn.rawPlan (seqIdOf (s.lineIn.monUnit m) k) = true) ∧ (s.lineIn.monReach m = true)) ∧
    (∃ (s : State) (m : MonUnit) (k : Nat), (s.RunsLine s.lineIn false) ∧ (k < 64) ∧ (s.lineIn.mode.cur ≠ .maintenance) ∧ (s.lineIn.monReach m = true)) :=
  ⟨⟨Tests.seqRaw, .serving, 0, by decide +kernel, by decide +kernel, by decide +kernel, by decide +kernel, by decide +kernel⟩,
   ⟨Tests.seqRaw, .serving, 0, by decide +kernel, by decide +kernel, by decide +kernel, by decide +kernel, by decide +kernel⟩,
   ⟨Tests.seqRaw, .serving, 0, 1, by decide +kernel, by decide +kernel, by decide +kernel, by decide +kernel, by decide +kernel, by decide +kernel⟩,
   ⟨Tests.seqRaw.modSeq 0 (fun e => { e with halted := false }), .serving, 0, by decide +kernel, by decide +kernel, by decide +kernel, by decide +kernel, by decide +kernel, by decide +kernel⟩,
   ⟨Tests.seqRaw, .serving, 0, by decide +kernel, by decide +kernel, by decide +kernel, by decide +kernel, by decide +kernel⟩,
   ⟨Tests.up, .serving, 0, by decide +kernel, by decide +kernel, by decide +kernel, by decide +kernel⟩⟩

/-- States and operands that meet the hypotheses of MonitorOfSequencers: noRawPlan. -/
theorem witness_MonitorOfSequencers_2 :
    ∃ (s : State) (m : MonUnit) (k : Nat), (s.RunsLine s.lineIn false) ∧ (k < 64) ∧ (s.lineIn.mode.cur = .maintenance) ∧ (s.lineIn.rawPlan (seqIdOf (s.lineIn.monUnit m) k) = false) ∧ (s.lineIn.monReach m = true) :=
  ⟨Tests.maint, .serving, 0, by decide +kernel, by decide +kernel, by decide +kernel, by decide +kernel, by decide +kernel⟩

/-- States and operands that meet the hypotheses of StepRunsFrontCommand: front. -/
theorem witness_StepRunsFrontCommand :
    ∃ (c : Instr) (rest : List Instr) (s : State), s.pending = c :: rest :=
  ⟨.claimTimer, [.roleDecision], { Tests.up with pending := [.claimTimer, .roleDecision] }, rfl⟩

/-- States and operands that meet the hypotheses of IdleStepPassesTime: idle; held; powered; unpowered. -/
theorem witness_IdleStepPassesTime :
    (∃ s : State, s.pending = [] ∧ (s.accHeld.isEmpty = true ∨ s.mode.cur = .switchover)) ∧
    (∃ s : State, s.pending = [] ∧ s.accHeld.isEmpty = false ∧ s.mode.cur ≠ .switchover) ∧
    (∃ s : State, s.pending = [] ∧ s.accHeld.isEmpty = true ∧ s.rd (Obj.WAY_CLEANING .A) = 0 ∧ s.rd (Obj.WAY_CLEANING .B) = 0 ∧ (s.getJf UnitId.A.code).erase = none ∧ (s.getJf UnitId.B.code).erase = none ∧ s.sup.vaux3 = true) ∧
    (∃ s : State, s.pending = [] ∧ s.accHeld.isEmpty = true ∧ s.rd (Obj.WAY_CLEANING .A) = 0 ∧ s.rd (Obj.WAY_CLEANING .B) = 0 ∧ (s.getJf UnitId.A.code).erase = none ∧ (s.getJf UnitId.B.code).erase = none ∧ s.sup.vaux3 = false) :=
  ⟨⟨Tests.up, by decide +kernel, .inl (by decide +kernel)⟩,
   ⟨{ Tests.up with accHeld := [.authChallenge .firmware .A] }, by decide +kernel, by decide +kernel, by decide +kernel⟩,
   ⟨Tests.up, by decide +kernel, by decide +kernel, by decide +kernel, by decide +kernel, by decide +kernel, by decide +kernel, by decide +kernel⟩,
   ⟨State.reset, by decide +kernel, by decide +kernel, by decide +kernel, by decide +kernel, by decide +kernel, by decide +kernel, by decide +kernel⟩⟩

/-- States and operands that meet the hypotheses of QueueKeptByCommands: exec; step. -/
theorem witness_QueueKeptByCommands :
    (∃ (c : Instr) (s t : State), exec c s = .next t) ∧
    (∃ s t : State, s.steps t) :=
  ⟨⟨.roleDecision, Tests.up, _, rfl⟩,
   ⟨Tests.up, _, rfl⟩⟩

/-- States and operands that meet the hypotheses of FusesOnlyGrow: exec; step; reaches. -/
theorem witness_FusesOnlyGrow :
    (∃ (c : Instr) (s t : State), exec c s = .next t) ∧
    (∃ s t : State, s.steps t) ∧
    (∃ s t : State, s.Reaches t) :=
  ⟨⟨.roleDecision, Tests.up, _, rfl⟩,
   ⟨Tests.up, _, rfl⟩,
   ⟨Tests.up, Tests.up, .refl _⟩⟩

/-- States and operands that meet the hypotheses of QueueStaysWellFormed: kept. -/
theorem witness_QueueStaysWellFormed :
    ∃ s t : State, s.QueueWf ∧ s.steps t :=
  ⟨Tests.up, _, by unfold State.QueueWf; rfl, rfl⟩

/-- States and operands that meet the hypotheses of SequencerWordRules: idle; otherKind; mediaOnTransfer; reservedTiming;
carriedOut; reservedRegister. -/
theorem witness_SequencerWordRules_1 :
    (∃ (s : State) (q : SeqId) (o : SeqOp) (w : MicroWord), (s.getSeq q.key).goes = false ∨ s.fetches q o w = false) ∧
    (∃ (s : State) (q : SeqId) (o : SeqOp) (w : MicroWord), (s.getSeq q.key).goes = true ∧ s.fetches q o w = true ∧ q.xfer = false ∧ o.xferOnly = true) ∧
    (∃ (s : State) (q : SeqId) (o : SeqOp) (w : MicroWord), (s.getSeq q.key).goes = true ∧ s.fetches q o w = true ∧ q.xfer = true ∧ o.mediaOnly = true) ∧
    (∃ (s : State) (q : SeqId) (o : SeqOp) (w : MicroWord), (s.getSeq q.key).goes = true ∧ s.fetches q o w = true ∧ q.xfer = true ∧ 0xD ≤ w.timing.toNat) ∧
    (∃ (s t : State) (q : SeqId) (o : SeqOp) (w : MicroWord), (s.getSeq q.key).goes = true ∧ s.fetches q o w = true ∧ (q.xfer = true → o.mediaOnly = false) ∧ (q.xfer = false → o.xferOnly = false) ∧ (q.xfer = true → w.timing.toNat < 0xD) ∧ t = s.seqFetch q w.corrected) ∧
    (∃ w : MicroWord, 32 ≤ w.a.toNat ∧ w.a ≠ 0x21) :=
  ⟨⟨Tests.up, ⟨.A, 0, 0, false⟩, .nop, ⟨1, 2, 3, 0, false⟩, .inl (by decide +kernel)⟩,
   ⟨Tests.word Tests.seqState ⟨.A, 0, 0, false⟩ .ldm ⟨1, 2, 3, 0, false⟩, ⟨.A, 0, 0, false⟩, .ldm, ⟨1, 2, 3, 0, false⟩, by decide +kernel, by decide +kernel, rfl, rfl⟩,
   ⟨Tests.word Tests.seqState ⟨.A, 0, 0, true⟩ .srd ⟨1, 2, 3, 0, false⟩, ⟨.A, 0, 0, true⟩, .srd, ⟨1, 2, 3, 0, false⟩, by decide +kernel, by decide +kernel, rfl, rfl⟩,
   ⟨Tests.word Tests.seqState ⟨.A, 0, 0, true⟩ .nop ⟨1, 2, 3, 0xD, false⟩, ⟨.A, 0, 0, true⟩, .nop, ⟨1, 2, 3, 0xD, false⟩, by decide +kernel, by decide +kernel, rfl, by decide⟩,
   ⟨Tests.word Tests.seqState ⟨.A, 0, 0, false⟩ .ldi ⟨1, 2, 3, 0, true⟩, _, ⟨.A, 0, 0, false⟩, .ldi, ⟨1, 2, 3, 0, true⟩, by decide +kernel, by decide +kernel, by decide, by decide, by decide, rfl⟩,
   ⟨⟨0x20, 2, 3, 0, false⟩, by decide, by decide⟩⟩

/-- States and operands that meet the hypotheses of SequencerWordRules: planPtr. -/
theorem witness_SequencerWordRules_2 :
    ∃ w : MicroWord, w.a = 0x21 :=
  ⟨⟨0x21, 2, 3, 0, false⟩, rfl⟩

/-- States and operands that meet the hypotheses of MonitorIgnoredOnceBlown: blown. -/
theorem witness_MonitorIgnoredOnceBlown :
    ∃ s : State, s.monDisabled = true ∧ s.mode.cur ≠ .switchover :=
  ⟨{ Tests.up with fuse := [(1, { mondis := true })] }, by decide +kernel, by decide +kernel⟩

/-- States and operands that meet the hypotheses of AccessChecksInOrder: absent; noSub; unserved; holdUp; readOnly;
writeOnly. -/
theorem witness_AccessChecksInOrder_1 :
    (∃ i j : Nat, objLookup i j = none) ∧
    (∃ i j : Nat, objLookup i j = some none) ∧
    (∃ (s : State) (i j : Nat) (r : ObjRow), objLookup i j = some (some r) ∧ s.served i j r = false) ∧
    (∃ (s : State) (i j : Nat) (r : ObjRow), objLookup i j = some (some r) ∧ s.mode.cur = .holdUp ∧ (r.idx ≠ 0x5210 ∨ j ≠ 1)) ∧
    (∃ (s : State) (i j : Nat) (r : ObjRow), objLookup i j = some (some r) ∧ s.served i j r = true ∧ s.mode.cur ≠ .holdUp ∧ r.acc = .ro) ∧
    (∃ (s : State) (i j : Nat) (r : ObjRow), objLookup i j = some (some r) ∧ s.served i j r = true ∧ r.acc = .wo) :=
  ⟨⟨0x0FFF, 0, by decide +kernel⟩,
   ⟨0x1001, 200, by decide +kernel⟩,
   ⟨State.reset, 0x1001, 3, ((objLookup 0x1001 3).getD none).getD (((objLookup 0x1001 2).getD none).get (by decide +kernel)), by decide +kernel, by decide +kernel⟩,
   ⟨{ Tests.up with mode := { Tests.up.mode with cur := .holdUp } }, 0x1001, 3, ((objLookup 0x1001 3).getD none).getD (((objLookup 0x1001 2).getD none).get (by decide +kernel)), by decide +kernel, rfl, .inr (by decide)⟩,
   ⟨Tests.maint, 0x1100, 0, ((objLookup 0x1100 0).getD none).getD (((objLookup 0x1001 2).getD none).get (by decide +kernel)), by decide +kernel, by decide +kernel, by decide +kernel, by decide +kernel⟩,
   ⟨Tests.maint, 0x1020, 4, ((objLookup 0x1020 4).getD none).getD (((objLookup 0x1001 2).getD none).get (by decide +kernel)), by decide +kernel, by decide +kernel, by decide +kernel⟩⟩

/-- States and operands that meet the hypotheses of AccessChecksInOrder: quiet; noSession; length; accepted. -/
theorem witness_AccessChecksInOrder_2 :
    (∃ (s : State) (i j : Nat) (r : ObjRow) (q : Requester), objLookup i j = some (some r) ∧ s.served i j r = true ∧ s.mode.cur ≠ .holdUp ∧ r.acc = .rwq ∧ q ≠ .firmware ∧ modeQuiet s.mode.cur = false) ∧
    (∃ (s : State) (u : UnitId) (i j : Nat) (r : ObjRow) (q : Requester), objLookup i j = some (some r) ∧ s.modeErr i j r q true = 0 ∧ r.acc = .rwa ∧ s.session u q = false) ∧
    (∃ (s : State) (u : UnitId) (i j : Nat) (r : ObjRow) (q : Requester) (d : List Byte), objLookup i j = some (some r) ∧ s.modeErr i j r q true = 0 ∧ (r.acc = .rwa → s.session u q = true) ∧ r.ty.lengthOk d.length = false) ∧
    (∃ (i j : Nat) (r : ObjRow), objLookup i j = some (some r)) :=
  ⟨⟨Tests.up, 0x4410, 2, ((objLookup 0x4410 2).getD none).getD (((objLookup 0x1001 2).getD none).get (by decide +kernel)), .monitor, by decide +kernel, by decide +kernel, by decide +kernel, by decide +kernel, by decide, by decide +kernel⟩,
   ⟨Tests.maint, .A, 0x5F00, 1, ((objLookup 0x5F00 1).getD none).getD (((objLookup 0x1001 2).getD none).get (by decide +kernel)), .monitor, by decide +kernel, by decide +kernel, by decide +kernel, by decide +kernel⟩,
   ⟨Tests.maint, .A, 0x1001, 3, ((objLookup 0x1001 3).getD none).getD (((objLookup 0x1001 2).getD none).get (by decide +kernel)), .monitor, [7, 8, 9], by decide +kernel, by decide +kernel, by decide +kernel, by decide +kernel⟩,
   ⟨0x1001, 3, ((objLookup 0x1001 3).getD none).getD (((objLookup 0x1001 2).getD none).get (by decide +kernel)), by decide +kernel⟩⟩

/-- States and operands that meet the hypotheses of SwitchoverHoldsAccesses: switchover; modeRequest. -/
theorem witness_SwitchoverHoldsAccesses :
    (∃ (s : State) (i j : Nat) (f : KdapFrame), s.mode.cur = .switchover ∧ (i ≠ 0x1101 ∨ j ≠ 0) ∧ f.broadcast = false ∧ (f.index ≠ 0x1101 ∨ f.sub ≠ 0)) ∧
    (∃ (s : State) (q : Requester) (u : UnitId) (v : BitVec 8), s.mode.cur = .switchover ∧ [0x02, 0x04, 0x07, 0x0A].contains v.toNat = true ∧ s.writeErr u 0x1101 0 q [v] = 0) :=
  ⟨⟨Tests.released, 0x1101, 1, Tests.frame 0x1001 3, by decide +kernel, by decide, by decide, by decide⟩,
   ⟨Tests.released, .kdap 1, .A, 7, by decide +kernel, by decide, by decide +kernel⟩⟩

/-- States and operands that meet the hypotheses of BufferWordReadsBack: word; other; elsewhere. -/
theorem witness_BufferWordReadsBack :
    (∃ (w : Nat) (d : List Byte), w < 8 ∧ d.length = 64) ∧
    (∃ v w : Nat, w < 8 ∧ v < 8 ∧ v ≠ w) ∧
    (∃ (b : BufSt) (g h : Nat), b.loc h ≠ b.loc g) :=
  ⟨⟨7, List.replicate 64 0xA5, by decide, by decide⟩,
   ⟨0, 7, by decide, by decide, by decide⟩,
   ⟨{}, 0, 1, by decide⟩⟩

/-- States and operands that meet the hypotheses of BitPlaneTransposesElements: element; burst. -/
theorem witness_BitPlaneTransposesElements :
    (∃ d : List Byte, d.length = 8) ∧
    (∃ (s t r w v : State) (u : UnitId) (n : Fin 32) (c : DmaSt) (d : List Byte), (s.getDma (dmaKey u n)).st = .running ∧ s.dmaServed u n = true ∧
    t = s.modFab u.code (fun f => { f with turns := mapPut (fun _ => 31) f.turns (s.rd (Obj.PRIORITY u n)) n.val }) ∧
    t.getDma (dmaKey u n) = c ∧ c.fld 47 1 = 1 ∧ c.tap = false ∧ t.engRead u c.burst.1 c.burst.2.2 = (r, some d) ∧
    r.dmaPut u (c.fld 15 1) c.burst.2.1 (bitPlane d) = (w, true) ∧
    v = w.wr (Obj.DMA_BYTES_MOVED u) (min (2 ^ 64 - 1) (w.rd (Obj.DMA_BYTES_MOVED u) + c.burst.2.2)) ∧ v.dmaEnds u n = [] ∧ c.esize ≤ c.off + c.burst.2.2) :=
  ⟨⟨[1, 2, 4, 8, 16, 32, 64, 128], by decide⟩,
   ⟨Tests.planing, (Tests.planing.modFab 0 (fun f => { f with turns := mapPut (fun _ => 31) f.turns (Tests.planing.rd (Obj.PRIORITY .A 0)) 0 })), ((Tests.planing.modFab 0 (fun f => { f with turns := mapPut (fun _ => 31) f.turns (Tests.planing.rd (Obj.PRIORITY .A 0)) 0 })).engRead .A 0 8).1,
    (((Tests.planing.modFab 0 (fun f => { f with turns := mapPut (fun _ => 31) f.turns (Tests.planing.rd (Obj.PRIORITY .A 0)) 0 })).engRead .A 0 8).1.dmaPut .A 0 64 (bitPlane [0, 0, 0, 0, 0, 0, 0, 0])).1, (((((Tests.planing.modFab 0 (fun f => { f with turns := mapPut (fun _ => 31) f.turns (Tests.planing.rd (Obj.PRIORITY .A 0)) 0 })).engRead .A 0 8).1.dmaPut .A 0 64 (bitPlane [0, 0, 0, 0, 0, 0, 0, 0])).1).wr (Obj.DMA_BYTES_MOVED .A) (min (2 ^ 64 - 1) (((((Tests.planing.modFab 0 (fun f => { f with turns := mapPut (fun _ => 31) f.turns (Tests.planing.rd (Obj.PRIORITY .A 0)) 0 })).engRead .A 0 8).1.dmaPut .A 0 64 (bitPlane [0, 0, 0, 0, 0, 0, 0, 0])).1).rd (Obj.DMA_BYTES_MOVED .A) + 8))), .A, 0, Tests.planing.getDma 0, [0, 0, 0, 0, 0, 0, 0, 0],
    by decide +kernel, by decide +kernel, rfl, rfl, by decide +kernel, by decide +kernel, by decide +kernel, by decide +kernel, rfl, by decide +kernel, by decide +kernel⟩⟩

/-- States and operands that meet the hypotheses of ReturnStackAndMailboxBounds: callFull; callPushes; retEmpty; retTakes;
msendFull; msendAppends. -/
theorem witness_ReturnStackAndMailboxBounds :
    (∃ (s : State) (u : State) (q : SeqId) (w : MicroWord), (s.SeqReady q .call w u) ∧ (8 ≤ (u.getSeq q.key).stack.length)) ∧
    (∃ (s : State) (u : State) (q : SeqId) (w : MicroWord), (s.SeqReady q .call w u) ∧ ((u.getSeq q.key).stack.length < 8)) ∧
    (∃ (s : State) (u : State) (q : SeqId) (w : MicroWord), (s.SeqReady q .ret w u) ∧ ((u.getSeq q.key).stack = [])) ∧
    (∃ (s : State) (u : State) (q : SeqId) (w : MicroWord) (r : BitVec 12) (l : List (BitVec 12)), (s.SeqReady q .ret w u) ∧ ((u.getSeq q.key).stack = r :: l)) ∧
    (∃ (s : State) (u : State) (q : SeqId) (w : MicroWord), (s.SeqReady q .msend w u) ∧ (16 ≤ (u.getSeq q.partner.key).mbox.length)) ∧
    (∃ (s : State) (u : State) (q : SeqId) (w : MicroWord), (s.SeqReady q .msend w u) ∧ ((u.getSeq q.partner.key).mbox.length < 16)) :=
  ⟨⟨Tests.word (Tests.seqState.modSeq 0 (fun e => { e with stack := List.replicate 8 5 })) ⟨.A, 0, 0, false⟩ .call ⟨1, 2, 3, 0, false⟩, (Tests.word (Tests.seqState.modSeq 0 (fun e => { e with stack := List.replicate 8 5 })) ⟨.A, 0, 0, false⟩ .call ⟨1, 2, 3, 0, false⟩).seqFetch ⟨.A, 0, 0, false⟩ false, ⟨.A, 0, 0, false⟩, ⟨1, 2, 3, 0, false⟩, ⟨by decide +kernel, by decide +kernel, by decide, rfl⟩, by decide +kernel⟩,
   ⟨Tests.word (Tests.seqState.modSeq 0 (fun e => { e with stack := List.replicate 7 5 })) ⟨.A, 0, 0, false⟩ .call ⟨1, 2, 3, 0, false⟩, (Tests.word (Tests.seqState.modSeq 0 (fun e => { e with stack := List.replicate 7 5 })) ⟨.A, 0, 0, false⟩ .call ⟨1, 2, 3, 0, false⟩).seqFetch ⟨.A, 0, 0, false⟩ false, ⟨.A, 0, 0, false⟩, ⟨1, 2, 3, 0, false⟩, ⟨by decide +kernel, by decide +kernel, by decide, rfl⟩, by decide +kernel⟩,
   ⟨Tests.word (Tests.seqState) ⟨.A, 0, 0, false⟩ .ret ⟨1, 2, 3, 0, false⟩, (Tests.word (Tests.seqState) ⟨.A, 0, 0, false⟩ .ret ⟨1, 2, 3, 0, false⟩).seqFetch ⟨.A, 0, 0, false⟩ false, ⟨.A, 0, 0, false⟩, ⟨1, 2, 3, 0, false⟩, ⟨by decide +kernel, by decide +kernel, by decide, rfl⟩, by decide +kernel⟩,
   ⟨Tests.word (Tests.seqStacked) ⟨.A, 0, 0, false⟩ .ret ⟨1, 2, 3, 0, false⟩, (Tests.word (Tests.seqStacked) ⟨.A, 0, 0, false⟩ .ret ⟨1, 2, 3, 0, false⟩).seqFetch ⟨.A, 0, 0, false⟩ false, ⟨.A, 0, 0, false⟩, ⟨1, 2, 3, 0, false⟩, 5, [], ⟨by decide +kernel, by decide +kernel, by decide, rfl⟩, by decide +kernel⟩,
   ⟨Tests.word (Tests.seqState.modSeq 1 (fun e => { e with mbox := List.replicate 16 5 })) ⟨.A, 0, 0, false⟩ .msend ⟨1, 2, 3, 0, false⟩, (Tests.word (Tests.seqState.modSeq 1 (fun e => { e with mbox := List.replicate 16 5 })) ⟨.A, 0, 0, false⟩ .msend ⟨1, 2, 3, 0, false⟩).seqFetch ⟨.A, 0, 0, false⟩ false, ⟨.A, 0, 0, false⟩, ⟨1, 2, 3, 0, false⟩, ⟨by decide +kernel, by decide +kernel, by decide, rfl⟩, by decide +kernel⟩,
   ⟨Tests.word (Tests.seqState.modSeq 1 (fun e => { e with mbox := List.replicate 15 5 })) ⟨.A, 0, 0, false⟩ .msend ⟨1, 2, 3, 0, false⟩, (Tests.word (Tests.seqState.modSeq 1 (fun e => { e with mbox := List.replicate 15 5 })) ⟨.A, 0, 0, false⟩ .msend ⟨1, 2, 3, 0, false⟩).seqFetch ⟨.A, 0, 0, false⟩ false, ⟨.A, 0, 0, false⟩, ⟨1, 2, 3, 0, false⟩, ⟨by decide +kernel, by decide +kernel, by decide, rfl⟩, by decide +kernel⟩⟩

/-- States and operands that meet the hypotheses of ExpeditedExchangesInOneFrame: read; readLarger; readRefused; write;
writeRefused. -/
theorem witness_ExpeditedExchangesInOneFrame :
    (∃ (s : State) (u : UnitId) (t : UnitId) (f : KdapFrame) (r : State) (d : List Byte), (s.mode.cur ≠ .switchover) ∧ (s.Hears f false) ∧ (f.target.toNat < 4) ∧ ((s.inc (Obj.KDAP_RX u)).kdapTarget u f = some t) ∧ (((s.inc (Obj.KDAP_RX u)).dictRead (.kdap f.src) t f.index f.sub).takeAnswer = (r, 0, d)) ∧ (d.length ≤ 1024)) ∧
    (∃ (s : State) (u : UnitId) (t : UnitId) (f : KdapFrame) (r : State) (d : List Byte), (s.mode.cur ≠ .switchover) ∧ (s.Hears f false) ∧ (f.target.toNat < 4) ∧ ((s.inc (Obj.KDAP_RX u)).kdapTarget u f = some t) ∧ (((s.inc (Obj.KDAP_RX u)).dictRead (.kdap f.src) t f.index f.sub).takeAnswer = (r, 0, d)) ∧ (1024 < d.length)) ∧
    (∃ (s : State) (u : UnitId) (t : UnitId) (f : KdapFrame) (r : State) (e : Nat) (d : List Byte), (s.mode.cur ≠ .switchover) ∧ (s.Hears f false) ∧ (f.target.toNat < 4) ∧ ((s.inc (Obj.KDAP_RX u)).kdapTarget u f = some t) ∧ (((s.inc (Obj.KDAP_RX u)).dictRead (.kdap f.src) t f.index f.sub).takeAnswer = (r, e, d)) ∧ (e ≠ 0)) ∧
    (∃ (s : State) (u : UnitId) (t : UnitId) (f : KdapFrame) (r : State) (d : List Byte), (s.mode.cur ≠ .switchover) ∧ (s.Hears f false) ∧ (f.target.toNat < 4) ∧ ((s.inc (Obj.KDAP_RX u)).kdapTarget u f = some t) ∧ (((s.inc (Obj.KDAP_RX u)).dictWrite (.kdap f.src) t f.index f.sub f.body).takeAnswer = (r, 0, d))) ∧
    (∃ (s : State) (u : UnitId) (t : UnitId) (f : KdapFrame) (r : State) (e : Nat) (d : List Byte), (s.mode.cur ≠ .switchover) ∧ (s.Hears f false) ∧ (f.target.toNat < 4) ∧ ((s.inc (Obj.KDAP_RX u)).kdapTarget u f = some t) ∧ (((s.inc (Obj.KDAP_RX u)).dictWrite (.kdap f.src) t f.index f.sub f.body).takeAnswer = (r, e, d)) ∧ (e ≠ 0)) :=
  ⟨⟨Tests.up, .A, .A, Tests.frame 0x1001 3, ((Tests.up.inc (Obj.KDAP_RX .A)).dictRead (.kdap 5) .A 0x1001 3).takeAnswer.1, ((Tests.up.inc (Obj.KDAP_RX .A)).dictRead (.kdap 5) .A 0x1001 3).takeAnswer.2.2, by decide +kernel, by decide +kernel, by decide +kernel, by decide +kernel, Tests.parts ((Tests.up.inc (Obj.KDAP_RX .A)).dictRead (.kdap 5) .A 0x1001 3).takeAnswer (by decide +kernel), by decide +kernel⟩,
   ⟨Tests.up, .A, .A, Tests.frame 0x3057 1, ((Tests.up.inc (Obj.KDAP_RX .A)).dictRead (.kdap 5) .A 0x3057 1).takeAnswer.1, ((Tests.up.inc (Obj.KDAP_RX .A)).dictRead (.kdap 5) .A 0x3057 1).takeAnswer.2.2, by decide +kernel, by decide +kernel, by decide +kernel, by decide +kernel, Tests.parts ((Tests.up.inc (Obj.KDAP_RX .A)).dictRead (.kdap 5) .A 0x3057 1).takeAnswer (by decide +kernel), by decide +kernel⟩,
   ⟨Tests.up, .A, .A, Tests.frame 0x0FFF 5, ((Tests.up.inc (Obj.KDAP_RX .A)).dictRead (.kdap 5) .A 0x0FFF 5).takeAnswer.1, 1, ((Tests.up.inc (Obj.KDAP_RX .A)).dictRead (.kdap 5) .A 0x0FFF 5).takeAnswer.2.2, by decide +kernel, by decide +kernel, by decide +kernel, by decide +kernel, Tests.parts ((Tests.up.inc (Obj.KDAP_RX .A)).dictRead (.kdap 5) .A 0x0FFF 5).takeAnswer (by decide +kernel), by decide +kernel⟩,
   ⟨Tests.up, .A, .A, Tests.frame 0x1001 3 [7], ((Tests.up.inc (Obj.KDAP_RX .A)).dictWrite (.kdap 5) .A 0x1001 3 [7]).takeAnswer.1, ((Tests.up.inc (Obj.KDAP_RX .A)).dictWrite (.kdap 5) .A 0x1001 3 [7]).takeAnswer.2.2, by decide +kernel, by decide +kernel, by decide +kernel, by decide +kernel, Tests.parts ((Tests.up.inc (Obj.KDAP_RX .A)).dictWrite (.kdap 5) .A 0x1001 3 [7]).takeAnswer (by decide +kernel)⟩,
   ⟨Tests.up, .A, .A, Tests.frame 0x0FFF 5 [7], ((Tests.up.inc (Obj.KDAP_RX .A)).dictWrite (.kdap 5) .A 0x0FFF 5 [7]).takeAnswer.1, 1, ((Tests.up.inc (Obj.KDAP_RX .A)).dictWrite (.kdap 5) .A 0x0FFF 5 [7]).takeAnswer.2.2, by decide +kernel, by decide +kernel, by decide +kernel, by decide +kernel, Tests.parts ((Tests.up.inc (Obj.KDAP_RX .A)).dictWrite (.kdap 5) .A 0x0FFF 5 [7]).takeAnswer (by decide +kernel), by decide +kernel⟩⟩

/-- States and operands that meet the hypotheses of KeysListedInOrder: prefix; bytes; index; listed. -/
theorem witness_KeysListedInOrder :
    (∃ b : List Byte, b ≠ []) ∧
    (∃ x y : Byte, x.toNat < y.toNat) ∧
    (∃ l : List ValueDesc, (l.map ValueDesc.key).Pairwise (fun a b => keyLe a b = true ∧ a ≠ b)) ∧
    (∃ (s : State) (n : Nat) (key : List Byte), s.kvRefusal n (some key) false false = none ∧ ((s.os.values n).map ValueDesc.key).Pairwise (fun a b => keyLe a b = true ∧ a ≠ b)) :=
  ⟨⟨[1], by decide⟩,
   ⟨0x7F, 0x80, by decide⟩,
   ⟨[⟨[1], 4, false, false, [], 0⟩, ⟨[1, 0], 4, false, false, [], 0⟩], by decide⟩,
   ⟨Tests.wideStored, 0, [1], by decide +kernel, by decide +kernel⟩⟩

/-- States and operands that meet the hypotheses of GrayCodeOfTracks: bit. -/
theorem witness_GrayCodeOfTracks :
    ∃ i : Nat, i < 21 :=
  ⟨20, by decide⟩
end

section
/-! What the commands leave standing: all but the writes of fuses keep the queue and the fuses, and those keep the queue and only grow
the fuses. Laws/Standing.lean and its companions say so of the shared operations; here of every command and of a step. -/

open Sys2Proof Sys2Proof.Machine

namespace Sys2Proof.Machine

/-! ### Recorder and emergencies -/

@[simp] theorem execEmergency_standing (s : State) : (nextOf s (execEmergency s)).standing = s.standing := by
  unfold execEmergency
  rw [nextOf_next]
  exact foldl_standing (fun s _ => s.sendEmergency_standing) _ _

/-! ### Data channel -/

@[simp] theorem execArmStart_standing (p : PortId) (a : ActId) (write : Bool) (s : State) :
    (nextOf s (execArmStart p a write s)).standing = s.standing := by
  simp only [execArmStart, nextOf_after, State.grave_standing]
  (repeat' split) <;> simp

@[simp] theorem execSectorSamplesEnd_standing (p : PortId) (a : ActId) (d : SectorSamples) (s : State) :
    (nextOf s (execSectorSamplesEnd p a d s)).standing = s.standing := by
  simp only [execSectorSamplesEnd, nextOf_after, State.grave_standing]
  (repeat' split) <;> simp

@[simp] theorem execDecodeComplete_standing (p : PortId) (a : ActId) (s : State) :
    (nextOf s (execDecodeComplete p a s)).standing = s.standing := by
  simp only [execDecodeComplete, nextOf_after, State.grave_standing]
  split <;> simp

@[simp] theorem execReplayComplete_standing (p : PortId) (a : ActId) (s : State) :
    (nextOf s (execReplayComplete p a s)).standing = s.standing := by
  simp only [execReplayComplete, nextOf_after, State.grave_standing]
  split <;> simp

@[simp] theorem execRawCheckComplete_standing (p : PortId) (a : ActId) (s : State) :
    (nextOf s (execRawCheckComplete p a s)).standing = s.standing := by
  simp only [execRawCheckComplete, nextOf_conclude, State.settle_standing]
  (repeat' split) <;> simp

/-! ### Object service -/

@[simp] theorem execPackWaitExpiry_standing (n : Fin 16) (s : State) :
    (nextOf s (execPackWaitExpiry n s)).standing = s.standing := by
  simp only [execPackWaitExpiry, nextOf_next]
  (repeat' split) <;> simp

@[simp] theorem execLateLimitExpiry_standing (set : Nat) (seq : Nat) (s : State) :
    (nextOf s (execLateLimitExpiry set seq s)).standing = s.standing := by
  simp only [execLateLimitExpiry, nextOf_conclude, State.settle_standing]
  split <;> simp

@[simp] theorem execSorusDecodeComplete_standing (set seq : Nat) (s : State) :
    (nextOf s (execSorusDecodeComplete set seq s)).standing = s.standing := by
  unfold execSorusDecodeComplete
  rw [nextOf_conclude, State.settle_standing]
  dsimp only
  (repeat' split) <;> simp only [State.chunkLost_standing, State.coderDone_standing]
  refine State.forEach_standing _ _ _ fun s f => ?_
  split <;> simp

/-! ### Cascade -/

@[simp] theorem execEnumLevelWait_standing (s : State) : (nextOf s (execEnumLevelWait s)).standing = s.standing := by
  simp only [execEnumLevelWait, nextOf_conclude, State.settle_standing]
  (repeat' split) <;> simp

@[simp] theorem execEnumState_standing (m : Nat) (p0 p1 : PartnerSeen) (s : State) :
    (nextOf s (execEnumState m p0 p1 s)).standing = s.standing := by
  simp only [execEnumState, nextOf_conclude, State.settle_standing]
  (repeat' split) <;> simp

@[simp] theorem execEnumAssign_standing (port : Option (Fin 2)) (number depth : Nat) (s : State) :
    (nextOf s (execEnumAssign port number depth s)).standing = s.standing := by
  simp only [execEnumAssign, nextOf_conclude, State.settle_standing]
  (repeat' split) <;> simp

@[simp] theorem execGriugTrainingStep_standing (u : UnitId) (l : GriugPort) (r : GriugStep) (s : State) :
    (nextOf s (execGriugTrainingStep u l r s)).standing = s.standing := by
  simp only [execGriugTrainingStep, nextOf_conclude, State.settle_standing]
  (repeat' split) <;> simp

@[simp] theorem execGriugPacketReceive_standing (u : UnitId) (l : GriugPort) (f : LinkFrame) (s : State) :
    (nextOf s (execGriugPacketReceive u l f s)).standing = s.standing := by
  simp only [execGriugPacketReceive, nextOf_conclude, State.settle_standing]
  (repeat' split) <;> simp

@[simp] theorem execTokenGrant_standing (number surge : Nat) (s : State) :
    (nextOf s (execTokenGrant number surge s)).standing = s.standing := by
  simp only [execTokenGrant, nextOf_conclude, State.settle_standing]
  (repeat' split) <;> simp

@[simp] theorem execCmd_standing (tag : Nat) (c : KvSub) (s : State) :
    (nextOf s (execCmd tag c s)).standing = s.standing := by
  simp only [execCmd, nextOf_conclude, State.settle_standing]
  (repeat' split) <;> simp

@[simp] theorem execDataReq_standing (m tag off len : Nat) (s : State) :
    (nextOf s (execDataReq m tag off len s)).standing = s.standing := by
  simp only [execDataReq, nextOf_conclude, State.settle_standing]
  (repeat' split) <;> simp

@[simp] theorem execData_standing (m tag off : Nat) (data : List Byte) (s : State) :
    (nextOf s (execData m tag off data s)).standing = s.standing := by
  simp only [execData, nextOf_conclude, State.settle_standing]
  (repeat' split) <;> simp

@[simp] theorem execCpl_standing (m tag sct sc : Nat) (dnr : Bool) (crd dw0 : Nat) (s : State) :
    (nextOf s (execCpl m tag sct sc dnr crd dw0 s)).standing = s.standing := by
  unfold execCpl
  rw [nextOf_conclude, State.settle_standing]
  split
  · exact State.completeWith_standing ..
  · split
    · exact (State.settleCmds_standing _).trans (State.modCmd_standing ..)
    · rfl

/-! ### Host commands -/

@[simp] theorem execIdentify_standing (t : CmdTag) (cns nsid : Nat) (s : State) :
    (nextOf s (execIdentify t cns nsid s)).standing = s.standing := by
  unfold execIdentify
  refine State.admin_standing _ _ _ fun s => ?_
  dsimp only
  split <;> simp only [apply_ite State.standing, State.complete_standing, State.next_standing, State.freeBytes_standing, ite_self]

@[simp] theorem execGetFeatures_standing (t : CmdTag) (fid : Nat) (s : State) :
    (nextOf s (execGetFeatures t fid s)).standing = s.standing := by
  unfold execGetFeatures
  refine State.admin_standing _ _ _ fun s => ?_
  dsimp only
  (repeat' split) <;> simp_all

/-! ### DMA -/

@[simp] theorem execEvPulse_standing (u : UnitId) (coder : Option (Fin 4)) (s : State) :
    (nextOf s (execEvPulse u coder s)).standing = s.standing := by
  simp only [execEvPulse, nextOf_after, State.grave_standing]
  (repeat' split) <;> simp

@[simp] theorem execDmaBurstResponse_standing (u : UnitId) (n : Fin 32) (e : Option BurstErr) (s : State) :
    (nextOf s (execDmaBurstResponse u n e s)).standing = s.standing := by
  simp only [execDmaBurstResponse, nextOf_after, State.grave_standing]
  (repeat' split) <;> simp

/-! ### Ports -/

@[simp] theorem execLaneTrainingStep_standing (u : UnitId) (p : PortId) (r : TrainReport) (s : State) :
    (nextOf s (execLaneTrainingStep u p r s)).standing = s.standing := by
  simp only [execLaneTrainingStep, nextOf_conclude, State.settle_standing]
  (repeat' split) <;> simp

@[simp] theorem execClockTrackFrame_standing (u : UnitId) (p : PortId) (cycles idx0 idx1 : Word) (phase : BitVec 16) (lock : Bool) (s : State) :
    (nextOf s (execClockTrackFrame u p cycles idx0 idx1 phase lock s)).standing = s.standing := by
  simp only [execClockTrackFrame, nextOf_conclude, State.settle_standing]
  (repeat' split) <;> simp

/-! ### Sequencers -/

@[simp] theorem execSeqOpUnblocked_standing (q : SeqId) (s : State) :
    (nextOf s (execSeqOpUnblocked q s)).standing = s.standing := by
  simp only [execSeqOpUnblocked, nextOf_after, State.grave_standing]
  (repeat' split) <;> simp

@[simp] theorem execDelayExpiry_standing (q : SeqId) (s : State) :
    (nextOf s (execDelayExpiry q s)).standing = s.standing := by
  simp only [execDelayExpiry, nextOf_after, State.grave_standing]
  split <;> simp

@[simp] theorem execWaitConditionMet_standing (q : SeqId) (s : State) :
    (nextOf s (execWaitConditionMet q s)).standing = s.standing := by
  simp only [execWaitConditionMet, nextOf_after, State.grave_standing]
  (repeat' split) <;> simp

@[simp] theorem execSeqWatchdog_standing (q : SeqId) (s : State) :
    (nextOf s (execSeqWatchdog q s)).standing = s.standing := by
  simp only [execSeqWatchdog, nextOf_after, State.grave_standing]
  (repeat' split) <;> simp

@[simp] theorem execMcLoadComplete_standing (peerOk : Bool) (s : State) :
    (nextOf s (execMcLoadComplete peerOk s)).standing = s.standing := by
  simp only [execMcLoadComplete, nextOf_after, State.grave_standing]
  (repeat' split) <;> simp

/-! ### Modes -/

@[simp] theorem execDrainComplete_standing (s : State) : (nextOf s (execDrainComplete s)).standing = s.standing := by
  simp only [execDrainComplete, nextOf_conclude, State.settle_standing]
  (repeat' split) <;> simp

/-! ### Unit pair -/

@[simp] theorem execRejoinSettleExpiry_standing (s : State) :
    (nextOf s (execRejoinSettleExpiry s)).standing = s.standing := by
  simp only [execRejoinSettleExpiry, nextOf_next]
  (repeat' split) <;> simp

@[simp] theorem execMirrorRetrain_standing (up : Option Bool) (s : State) :
    (nextOf s (execMirrorRetrain up s)).standing = s.standing := by
  simp only [execMirrorRetrain, nextOf_conclude, State.settle_standing]
  (repeat' split) <;> simp

/-! ### Power and temperatures -/

@[simp] theorem execHoldChargeEnd_standing (t : Nat) (s : State) :
    (nextOf s (execHoldChargeEnd t s)).standing = s.standing := by
  simp only [execHoldChargeEnd, nextOf_conclude, State.settle_standing]
  (repeat' split) <;> simp

@[simp] theorem execSensorRead_standing (u : UnitId) (n : Sensor) (r : SensorRaw) (s : State) :
    (nextOf s (execSensorRead u n r s)).standing = s.standing := by
  simp only [execSensorRead, nextOf_conclude, State.settle_standing]
  (repeat' split) <;> simp

@[simp] theorem execThermalTrip_standing (u : UnitId) (s : State) :
    (nextOf s (execThermalTrip u s)).standing = s.standing := by
  simp only [execThermalTrip, nextOf_conclude, State.settle_standing]
  (repeat' split) <;> simp

@[simp] theorem execPenGrant_standing (s : State) : (nextOf s (execPenGrant s)).standing = s.standing := by
  simp only [execPenGrant, nextOf_conclude, State.settle_standing]
  (repeat' split) <;> simp

/-! ### Raw windows -/

@[simp] theorem execRawOperationComplete_standing (p : PortId) (a : ActId) (s : State) :
    (nextOf s (execRawOperationComplete p a s)).standing = s.standing := by
  simp only [execRawOperationComplete, nextOf_conclude, State.settle_standing]
  (repeat' split) <;> simp

/-! ### Start -/

@[simp] theorem execVaux3OutOfWindow_standing (lost : Bool) (s : State) :
    (nextOf s (execVaux3OutOfWindow lost s)).standing = s.standing := by
  simp only [execVaux3OutOfWindow, nextOf_conclude, State.settle_standing]
  (repeat' split) <;> simp

@[simp] theorem execRstnAsserted_standing (s : State) : (nextOf s (execRstnAsserted s)).standing = s.standing := by
  simp only [execRstnAsserted, nextOf_conclude, State.settle_standing]
  split <;> simp

@[simp] theorem execFirmwareVerifyComplete_standing (u : UnitId) (bad1 bad2 : Bool) (s : State) :
    (nextOf s (execFirmwareVerifyComplete u bad1 bad2 s)).standing = s.standing := by
  simp only [execFirmwareVerifyComplete, nextOf_conclude, State.settle_standing]
  (repeat' split) <;> simp

@[simp] theorem execRecoveryCheckComplete_standing (s : State) :
    (nextOf s (execRecoveryCheckComplete s)).standing = s.standing := by
  simp only [execRecoveryCheckComplete, nextOf_conclude, State.settle_standing]
  (repeat' split) <;> simp

/-! ### Management network -/

@[simp] theorem execSegmentAcknowledge_standing (u : UnitId) (f : KdapFrame) (s : State) :
    (nextOf s (execSegmentAcknowledge u f s)).standing = s.standing := by
  unfold execSegmentAcknowledge
  rw [nextOf_next]
  refine State.kdapAt_standing _ _ _ _ fun s _ => ?_
  (repeat' split) <;> simp

@[simp] theorem execKdapRetransmitTimeout_standing (u : UnitId) (src : Nat) (transId : Nat) (s : State) :
    (nextOf s (execKdapRetransmitTimeout u src transId s)).standing = s.standing := by
  simp only [execKdapRetransmitTimeout, nextOf_next]
  (repeat' split) <;> simp

@[simp] theorem execKdapTransferTimeout_standing (u : UnitId) (src : Nat) (transId : Nat) (s : State) :
    (nextOf s (execKdapTransferTimeout u src transId s)).standing = s.standing := by
  simp only [execKdapTransferTimeout, nextOf_next]
  (repeat' split) <;> simp

@[simp] theorem execTimeFollowUp_standing (u : UnitId) (f : KdapFrame) (s : State) :
    (nextOf s (execTimeFollowUp u f s)).standing = s.standing := by
  unfold execTimeFollowUp
  rw [nextOf_next]
  refine State.kdapTake_standing _ _ _ _ _ fun s => ?_
  (repeat' split) <;> simp

/-! ### Dictionary commands of the host -/

@[simp] theorem execDictionaryRead_standing (t : CmdTag) (m : Nat) (target : BitVec 2) (index sub off len : Nat) (s : State) :
    (nextOf s (execDictionaryRead t m target index sub off len s)).standing = s.standing := by
  unfold execDictionaryRead
  refine State.admin_standing _ _ _ fun s => ?_
  dsimp only
  (repeat' split) <;> simp

/-! ### PN2 chips -/

@[simp] theorem execPn2WriteGateOn_standing (p : PortId) (a : ActId) (u : UnitId) (s : State) :
    (nextOf s (execPn2WriteGateOn p a u s)).standing = s.standing := by
  simp only [execPn2WriteGateOn, nextOf_next]
  (repeat' split) <;> simp

@[simp] theorem execPn2MotorBlockApply_standing (p : PortId) (got : Option UnitId) (err : BitVec 64) (s : State) :
    (nextOf s (execPn2MotorBlockApply p got err s)).standing = s.standing := by
  simp only [execPn2MotorBlockApply, nextOf_next]
  (repeat' split) <;> simp

/-! ### Accesses that can carry a write of a fuse -/

theorem State.resumeAll_keeps (s : State) : s.Keeps s.resumeAll :=
  State.Keeps.trans (t := { s with accHeld := [] }) (.of_standing rfl) (State.foldl_keeps State.resume_keeps _ _)

theorem execTakeoverComplete_keeps (s : State) : s.Keeps (nextOf s (execTakeoverComplete s)) := by
  unfold execTakeoverComplete
  refine nextOf_conclude_keeps ?_
  dsimp only
  split
  · exact State.Keeps.trans (.of_standing (by simp)) (State.resumeAll_keeps _)
  · exact .of_standing (by simp)

theorem execDictionaryWrite_keeps (t : CmdTag) (m : Nat) (target : BitVec 2) (index sub : Nat) (data : List Byte) (s : State) :
    s.Keeps (nextOf s (execDictionaryWrite t m target index sub data s)) := by
  unfold execDictionaryWrite
  refine State.admin_keeps _ _ fun s => ?_
  split
  · exact .of_standing (by simp)
  · split
    · exact .of_standing (by simp)
    · next u _ => exact (State.dictWrite_take_keeps s (.inband t.ctrl) u index sub data).andThen (by simp)

/-! ### Lines of the monitor -/

/-- A line is no command, or the command it spells keeps the queue and only grows the fuses. -/
def LineCall.Keeps : LineCall → Prop
  | .run f => ∀ s : State, s.Keeps (nextOf s (f s))
  | .err _ => True

@[simp] theorem LineCall.keeps_run (f : State → Host.Outcome State Fault Refusal) :
    (LineCall.run f).Keeps ↔ ∀ s : State, s.Keeps (nextOf s (f s)) := Iff.rfl
@[simp] theorem LineCall.keeps_malformed : LineCall.malformed.Keeps := trivial
@[simp] theorem LineCall.keeps_range : LineCall.range.Keeps := trivial

@[simp] theorem objectCall_keeps (l : List Byte) (f : Nat → Nat → State → Host.Outcome State Fault Refusal)
    (h : ∀ i n (s : State), s.Keeps (nextOf s (f i n s))) : (objectCall l f).Keeps := by
  unfold objectCall
  split <;> simp [h]

@[simp] theorem numberCall_keeps (l : List Byte) (f : Nat → State → Host.Outcome State Fault Refusal)
    (h : ∀ n (s : State), s.Keeps (nextOf s (f n s))) : (numberCall l f).Keeps := by
  unfold numberCall
  split <;> simp [h]

@[simp] theorem dumpCall_keeps (m : MonUnit) (l : List Byte) (a : List (List Byte)) : (dumpCall m l a).Keeps := by
  unfold dumpCall
  split <;> simp [State.Keeps.of_standing]

@[simp] theorem seqCall_keeps (m : MonUnit) (l : List Byte) (a : List (List Byte)) : (seqCall m l a).Keeps := by
  unfold seqCall
  (repeat' split) <;> simp [State.Keeps.of_standing]

/-- The bit errors of a page read are drawn before the line runs. -/
theorem jfRead_keeps (m : MonUnit) (b p : Nat) (s : State) :
    s.Keeps (nextOf s (execMonJfRead m b p (Config.pageErrors s.next.1) s.next.2)) :=
  .of_standing ((execMonJfRead_standing m b p _ s.next.2).trans s.next_standing)

@[simp] theorem jfCall_keeps (m : MonUnit) (l : List Byte) (a : List (List Byte)) : (jfCall m l a).Keeps := by
  unfold jfCall
  (repeat' split) <;> simp [State.Keeps.of_standing, jfRead_keeps]

@[simp] theorem wordCall_keeps (m : MonUnit) (c : List Byte) : (wordCall m c).Keeps := by
  unfold wordCall
  (repeat' split) <;> simp [State.Keeps.of_standing, execMonMode_keeps]

@[simp] theorem pairCall_keeps (m : MonUnit) (c a : List Byte) : (pairCall m c a).Keeps := by
  unfold pairCall
  (repeat' split) <;> simp [State.Keeps.of_standing, execMonMode_keeps]

theorem pokeValue_keeps {i n : Nat} {l : List Byte} {e : LineCall} (h : pokeValue i n l = .error e) : e.Keeps := by
  unfold pokeValue at h
  (repeat' split at h) <;> cases h <;> simp

theorem lineCall_keeps (m : MonUnit) (l : List Byte) : (lineCall m l).Keeps := by
  unfold lineCall
  split
  · simp
  · simp
  · split
    · split
      · split
        · simp [execMonPoke_keeps]
        · next h => exact pokeValue_keeps h
      · simp
    · (repeat' split) <;> simp [State.Keeps.of_standing]

theorem execMonLine_keeps (text : List Byte) (dropped : Nat) (s : State) : s.Keeps (nextOf s (execMonLine text dropped s)) := by
  unfold execMonLine
  split
  · simp [State.Keeps.of_standing]
  split
  · simp [State.Keeps.of_standing]
  split
  · simp [State.Keeps.of_standing]
  split
  · simp [State.Keeps.of_standing]
  · have k := lineCall_keeps (linePrefix text).1 (linePrefix text).2
    dsimp only
    split
    · simp [State.Keeps.of_standing]
    · next f h =>
      rw [h] at k
      exact k s

/-! ### Every command -/

theorem after_seqRun_standing (s : State) (q : SeqId) (o : SeqOp) (w : MicroWord) :
    (nextOf s (State.after (s.seqRun q o w))).standing = s.standing := by
  rw [nextOf_after, State.grave_standing, State.seqRun_standing]

/-- A write of a fuse, or an access that can carry one, grows the fuses. Every other command is composed of shared operations, and each
of these leaves the queue and the fuses standing: the run of a word for the 56 operations of the sequencers; for the rest, a lemma above
where the command branches, and else its definition. -/
theorem exec_keeps (c : Instr) (s : State) : s.Keeps (nextOf s (exec c s)) := by
  cases c
  case mondisBlow => exact execMondisBlow_keeps ..
  case fwMinSvnWrite => exact execFwMinSvnWrite_keeps ..
  case mgmtKeyWrite => exact execMgmtKeyWrite_keeps ..
  case erKeyWrite => exact execErKeyWrite_keeps ..
  case registerWrite => exact execRegisterWrite_keeps ..
  case expeditedWrite => exact execExpeditedWrite_keeps ..
  case segment => exact execSegment_keeps ..
  case monPoke => exact execMonPoke_keeps ..
  case monMode => exact execMonMode_keeps ..
  case monLine => exact execMonLine_keeps ..
  case dict => exact execDict_keeps ..
  case dictionaryWrite => exact execDictionaryWrite_keeps ..
  case takeoverComplete => exact execTakeoverComplete_keeps ..
  case nop | brz | brneg | breqi | brlt | brbit | brflag | djnz | call | ret | switch | endsweep | abort | fence |
      waitidx | trap | ldi | ldis | ldim | ldih | mov | add | addi | sub | and | andi | or | ori | xor | shli | shri |
      muli | ldp | nextitem | ldh | ldm | stm | post | msend | mrecv | pred | pset | swap | wrset | srd | swr | cfrag |
      gateoff | seekreq | replay | armclr | ctsnap | ticket | wfeed | evsend | evclr =>
    exact .of_standing (after_seqRun_standing ..)
  all_goals
    refine .of_standing ?_
    dsimp only [exec]
    simp [apply_ite State.standing,
      -- Recorder
      execEventPageProgram, execErChallengeExpiry,
      -- Buffer
      execMergeWriteback, execLinkTransferFail, execSelfRefreshIdle, execScrubGroup, execScrubIntervalExpiry,
      -- Cache
      execWayCleanDone, execCacheDisableComplete,
      -- Settings
      execAuthWindowExpiry, execAuthLockoutExpiry, execAuthChallengeExpiry, execSettingsSave, execTimestampSave,
      -- Channel
      execSampleOverrun, execWriteUnderrun, execAlignmentMarker, execParamLoadComplete, execWrsetTimeout,
      -- ObjectService
      execStore, execRetrieve, execDelete, execExist, execList, execFlush, execNsDeletionComplete, execWidthWaitExpiry,
      execStagingAck, execRebuildStep, execCheckpoint, execCompactionStep, execMemberRecognition, execIndexRecoveryComplete,
      -- Cascade
      execGriugHoldExpiry, execGriugDropExpiry, execHostPortTrained, execIsolationTimeout, execEnumQuery, execGriugLinkDown,
      execGriugReplayTimeout, execTokenReq, execTokenReturn, execTokenExpiry, execLedgerRebuildHoldoffExpiry,
      execRootlessWaitExpiry, execEvent,
      -- Host
      execCommandFetch, execForwardedCommand, execInvalidCommandOpcode, execCreateIoCompletionQueue,
      execCreateIoSubmissionQueue, execDeleteIoSubmissionQueue, execDeleteIoCompletionQueue, execGetLogPage, execNvmeAbort,
      execSetFeatures, execAsynchronousEventRequest, execFirmwareImageDownload, execFwCommitStore,
      execFwCommitStoreActivateReset, execFwCommitActivateReset, execFwCommitActivateNow, execCcEnSet, execControllerReset,
      execPerstnAsserted,
      -- Flash
      execJfProgramComplete, execJfEraseComplete,
      -- Dma
      execTimerTick, execEngineJobComplete, execDomainPowerDownComplete,
      -- Spindle
      execMotorTelemetryBlock, execMeasureTimeout, execZcWindowClose, execCommutation, execDutyUpdate, execSpindleIndex,
      execBrakeProbe, execStandstillTest, execCoastMaxExpiry, execAlignTimeExpiry, execRampMaxExpiry, execSpinupTimeout,
      execRecatchAttemptTimeout, execRecatchTimeout, execSweepReferenceEdge,
      -- Port
      execFltnAsserted, execFltnReleased, execFltnIsolation, execPrsnAsserted, execPresenceConfirmed, execPrsnDeasserted,
      execSpinMismatch, execRawEdge, execChatterExit, execLineDisagree, execLaneTrainingTimeout, execLaneFail,
      execLaneRetrainComplete, execCtWindow, execCtTimeout, execTelemetryFrame,
      -- Plan
      execPlanWrite, execPlanCommit, execPlanCommitUnlock, execPlanDeadline,
      -- Sequencer
      execIllegalOp, execReplicaCalibration, execControlStoreReload, execMcVerifyComplete,
      -- Servo
      execServoDecodeComplete, execOuterProductComplete, execServoTelemetryBlock, execInnerFrameStart,
      execLoopSafeHoldExpiry, execLoadTimeout, execAcqTimeout, execSeekTimeout, execUnloadTimeout, execRetractTimeout,
      execHeaterSettleExpiry,
      -- Mode
      execSweepEdge, execQuiescentToFiddlehead, execActuatorCalibrated,
      -- Pair
      execCheckTrip, execStandbyCheckTrip, execIslandTrip, execRelease, execStandbyReady, execRejoinResetRelease,
      execWarmRestart, execActivationStepAdvance, execMirrorMessage, execMirrorLinkDown,
      -- Power
      execVin12Good, execStateRowScanComplete, execVin12Lost, execHoldupSequenceComplete, execHoldExhausted,
      execHoldChargeStart, execVcoreFault, execPaceWindow, execPaceTripExpiry, execGddr7TemperatureRead,
      -- Memory
      execBufferRead, execBufferWrite, execCacheAccess, execCacheWritebackComplete, execGddr7RetrainComplete,
      -- Start
      execVaux3Applied, execRstnReleased, execSelfTestComplete, execClaimTimer, execRoleDecision, execGddr7TrainingComplete,
      execBootselChange,
      -- Kdap
      execKdapAbort, execHeartbeat, execHeartbeatReceived, execTimeSync, execTimeHoldExpiry, execPlcaBeacon,
      -- Monitor
      execBaudRevert,
      -- Pn2
      execPn2SpinDecode, execPn2SpinInvalid, execPn2TokenAccept, execPn2WriteGateOff, execPn2CommandSlot, execPn2ServoWindow]

/-! ### A step and a run -/

theorem State.idle_keeps {s t : State} (h : s.Keeps t) : s.Keeps (nextOf s t.idle) := by
  unfold State.idle
  rw [nextOf_next]
  refine h.andThen ?_
  split <;> simp

theorem State.rest_keeps (s : State) : s.Keeps (nextOf s s.rest) := by
  unfold State.rest
  split
  · exact State.idle_keeps (.of_standing (by simp))
  · exact nextOf_conclude_keeps (State.resumeAll_keeps s)

theorem State.Keeps.of_next {s t : State} {o : Host.Outcome State Fault Refusal} (k : s.Keeps (nextOf s o)) (h : o = .next t) :
    s.Keeps t := by
  rwa [h, nextOf_next] at k

/-- Taking the command from the queue touches no fuse. -/
theorem step_fusesGrow {s t : State} (h : s.steps t) : s.FusesGrow t := by
  unfold State.steps step at h
  split at h
  · exact ((State.rest_keeps s).of_next h).fuses
  · next c rest _ => exact ((exec_keeps c { s with pending := rest }).of_next h).fuses

theorem State.Reaches.fusesGrow {s t : State} (h : s.Reaches t) : s.FusesGrow t := by
  induction h with
  | refl s => exact fun _ => FuseSt.Grows.rfl' _
  | step h _ ih => exact fun u => (step_fusesGrow h u).trans (ih u)

end Sys2Proof.Machine

/-- Settles O44: no command but the four fuse writes, and the accesses that carry one, touches a fuse array, and each of these only
grows it; a step runs one command or lets time pass, and growth is transitive along a run. -/
theorem fusesOnlyGrow : Obligations.FusesOnlyGrow := by
  unfold Obligations.FusesOnlyGrow
  exact ⟨fun c s _ h => ((exec_keeps c s).of_next h).fuses, fun _ _ => step_fusesGrow, fun _ _ => State.Reaches.fusesGrow⟩
end

section
/-! What a blown MONDIS fuse does to the monitor: no line runs (R591). -/

open Sys2Proof Sys2Proof.Machine

namespace Sys2Proof.Machine

theorem next_congr {s t : State} (h : t = s) : (.next t : Host.Outcome State Fault Refusal) = .next s := congrArg _ h

theorem monUp_of_monDisabled {s : State} (h : s.monDisabled = true) : s.monUp = false := by
  simp [State.monUp, h]

theorem monRun_of_monDisabled {s : State} (h : s.monDisabled = true) (exempt : Bool) (body : State → State × List MonOut × Nat) :
    s.monRun exempt body = s := by
  simp [State.monRun, monUp_of_monDisabled h]

theorem monRunAt_of_monDisabled {s : State} (h : s.monDisabled = true) (m : MonUnit) (exempt : Bool)
    (body : State → State × List MonOut × Nat) : s.monRunAt m exempt body = s :=
  monRun_of_monDisabled h _ _

theorem monSeq_of_monDisabled {s : State} (h : s.monDisabled = true) (m : MonUnit) (k : Nat)
    (run : State → SeqId → State × List MonOut × Nat) : s.monSeq m k run = s :=
  monRunAt_of_monDisabled h _ _ _

/-- A line of an access, which a Switchover would hold, run now and ignored. -/
theorem hold_monRunAt_of_monDisabled {s : State} (h : s.monDisabled = true) (hm : s.mode.cur ≠ .switchover) (c : WaitingAccess)
    (m : MonUnit) (exempt : Bool) (body : State → State × List MonOut × Nat) :
    s.hold c (fun s => s.monRunAt m exempt body) = s :=
  (hold_now c _ hm).trans (monRunAt_of_monDisabled h _ _ _)

theorem execMonLine_of_monDisabled {s : State} (h : s.monDisabled = true) (text : List Byte) (dropped : Nat) :
    execMonLine text dropped s = .next s := by
  simp [execMonLine, monUp_of_monDisabled h]

end Sys2Proof.Machine

/-- Settles O47: a line runs only while the monitor is up, and a blown MONDIS keeps it down; a line that is an access is not held
outside Switchover. -/
theorem monitorIgnoredOnceBlown : Obligations.MonitorIgnoredOnceBlown := by
  unfold Obligations.MonitorIgnoredOnceBlown
  exact ⟨
    fun _ d n h _ => execMonLine_of_monDisabled h d n,
    fun _ h _ => next_congr (monRun_of_monDisabled h _ _),
    fun _ m h _ => next_congr (monRunAt_of_monDisabled h m _ _),
    fun _ m _ _ h hm => next_congr (hold_monRunAt_of_monDisabled h hm _ m _ _),
    fun _ m _ _ _ h hm => next_congr (congrArg State.settle (hold_monRunAt_of_monDisabled h hm _ m _ _)),
    fun _ m _ _ _ _ h hm => next_congr (hold_monRunAt_of_monDisabled h hm _ m _ _),
    fun _ _ h hm => next_congr ((hold_now _ _ hm).trans (monRun_of_monDisabled h _ _)),
    fun _ m _ h _ => next_congr (monRunAt_of_monDisabled h m _ _),
    fun _ m _ h _ => next_congr (monRunAt_of_monDisabled h m _ _),
    fun _ m h _ => next_congr (monRunAt_of_monDisabled h m _ _),
    fun _ m _ _ h _ => next_congr (monRunAt_of_monDisabled h m _ _),
    fun _ h _ => next_congr (monRun_of_monDisabled h _ _),
    fun _ m _ h hm => next_congr (hold_monRunAt_of_monDisabled h hm _ m _ _),
    fun _ m _ _ _ h hm => next_congr (hold_monRunAt_of_monDisabled h hm _ m _ _),
    fun _ m h hm => next_congr (hold_monRunAt_of_monDisabled h hm _ m _ _),
    fun _ m k h _ => next_congr (monSeq_of_monDisabled h m k _),
    fun _ m k _ h _ => next_congr (congrArg State.grave (monSeq_of_monDisabled h m k _)),
    fun _ m k h _ => next_congr (monSeq_of_monDisabled h m k _),
    fun _ m k h _ => next_congr (monSeq_of_monDisabled h m k _),
    fun _ m h hm => next_congr (hold_monRunAt_of_monDisabled h hm _ m _ _),
    fun _ m _ h hm => next_congr (hold_monRunAt_of_monDisabled h hm _ m _ _),
    fun _ _ h _ => next_congr (monRun_of_monDisabled h _ _)⟩
end

section
/-! The state after reset, the codes of the modes, and the commands of the sweep plans (R28, R30, R179-R181). -/

open Sys2Proof Sys2Proof.Machine

namespace Sys2Proof.Machine

/-! ### Reset and modes -/

/-- A byte memory that lists nothing reads 0 everywhere (log entry 11). -/
theorem cellsRead_nil (a n : Nat) : cellsRead [] a n = List.replicate n 0 := by
  induction n generalizing a with
  | zero => rfl
  | succ n ih => rw [cellsRead, ih, List.replicate_succ]; rfl

theorem reset_buffer_reads_zero (u : UnitId) (a n : Nat) :
    cellsRead (State.reset.getBuf u.code).data a n = List.replicate n 0 :=
  cellsRead_nil a n

theorem liveBytes_currentMode (s : State) (u : UnitId) : s.liveBytes u 0x1100 0 = [BitVec.ofNat 8 s.mode.cur.code] := rfl

theorem liveBytes_previousMode (s : State) (u : UnitId) : s.liveBytes u 0x1100 1 = [BitVec.ofNat 8 s.mode.prev.code] := rfl

/-! ### Sweep plans -/

section Plan

variable {s : State} {p : PortId} {a : ActId}

theorem execPlanWrite_building {h : Fin 2} (off : BitVec 14) (d : List Byte) (hx : h.val ≠ (s.getPlan (chanKey p a)).exec)
    (hc : (s.getPlan (chanKey p a)).committed = false) :
    execPlanWrite p a h off d s =
      .next (s.putPlan (chanKey p a) ((s.getPlan (chanKey p a)).write h off.toNat (d.take (16384 - off.toNat)))).grave := by
  simp only [execPlanWrite, State.after, hx, hc, decide_false, Bool.or_false, Bool.false_eq_true, if_false]

theorem execPlanWrite_ignored {h : Fin 2} (off : BitVec 14) (d : List Byte)
    (hx : h.val = (s.getPlan (chanKey p a)).exec ∨ (s.getPlan (chanKey p a)).committed = true) :
    execPlanWrite p a h off d s = .next (s.planReject p a).grave := by
  have hi : (decide (h.val = (s.getPlan (chanKey p a)).exec) || (s.getPlan (chanKey p a)).committed) = true := by simpa using hx
  simp only [execPlanWrite, State.after, hi, if_true]

/-- A commit that firmware may write, before the deadline: its checks decide (R181). -/
theorem execPlanCommit_before (n : BitVec 64) (hc : (s.getPlan (chanKey p a)).committed = false)
    (hd : (s.getPlan (chanKey p a)).discarded = false) (hp : s.planned p a (s.getPlan (chanKey p a)) = true)
    (ht : s.now + 200 ≤ (s.getPort p).nextEdge) :
    execPlanCommit p a n s = .next (
      if s.planOk (s.getPlan (chanKey p a)) n.toNat ((s.getPort p).sweepNo + 1) then
        s.putPlan (chanKey p a) { s.getPlan (chanKey p a) with committed := true, nextBand := min 3 (s.hdaBand p).code }
      else ((s.putPlan (chanKey p a) { s.getPlan (chanKey p a) with discarded := true }).planReject p a).raise
        (.seq (4 * p + 2 * a)) [.SEQ_PLAN_REJECT]).grave := by
  simp [execPlanCommit, State.after, hc, hd, hp, Nat.not_lt.mpr ht]

theorem execPlanCommit_late (n : BitVec 64) (hc : (s.getPlan (chanKey p a)).committed = false)
    (hp : s.planned p a (s.getPlan (chanKey p a)) = true) (ht : (s.getPort p).nextEdge < s.now + 200) :
    execPlanCommit p a n s =
      .next (s.putPlan (chanKey p a) { s.getPlan (chanKey p a) with discarded := true }).grave := by
  simp [execPlanCommit, State.after, hc, hp, ht]

theorem execPlanCommitUnlock_before (hc : (s.getPlan (chanKey p a)).committed = true)
    (ht : s.now + 200 ≤ (s.getPort p).nextEdge) :
    execPlanCommitUnlock p a s =
      .next (s.putPlan (chanKey p a) { s.getPlan (chanKey p a) with committed := false }).grave := by
  simp [execPlanCommitUnlock, State.after, hc, ht]

theorem execPlanDeadline_uncommitted (hc : (s.getPlan (chanKey p a)).committed = false) :
    execPlanDeadline p a s = .next (s.putPlan (chanKey p a) { s.getPlan (chanKey p a) with discarded := true }).grave := by
  simp [execPlanDeadline, State.after, State.modPlan, hc]

end Plan

end Sys2Proof.Machine

/-- Settles O41: every field of the reset state has the default that its declaration names, and its buffers list no byte. -/
theorem resetIsUnpowered : Obligations.ResetIsUnpowered := by
  unfold Obligations.ResetIsUnpowered
  exact ⟨rfl, rfl, rfl, rfl, rfl, rfl, rfl, rfl, rfl, fun _ => rfl, reset_buffer_reads_zero⟩

/-- Settles O54: the two objects show the codes of the modes that the state holds, and a change of mode logs them as a record of
type 1. -/
theorem modesHaveTheirCodes : Obligations.ModesHaveTheirCodes := by
  unfold Obligations.ModesHaveTheirCodes
  exact ⟨rfl, rfl, rfl, rfl, rfl, rfl, rfl, rfl, rfl, rfl, rfl, rfl, liveBytes_currentMode, liveBytes_previousMode,
    fun _ _ _ => rfl⟩

/-- Settles O6: a write by the half and the commit it meets, a commit by its deadline and then by its checks. -/
theorem planHalvesAndCommits : Obligations.PlanHalvesAndCommits := by
  unfold Obligations.PlanHalvesAndCommits
  exact ⟨
    fun _ _ _ _ off d hx hc => execPlanWrite_building off d hx hc,
    fun _ _ _ _ off d hx => execPlanWrite_ignored off d hx,
    fun _ _ _ n hc hd hp ht hok => (execPlanCommit_before n hc hd hp ht).trans (by rw [if_pos hok]),
    fun _ _ _ n hc hd hp ht hok => (execPlanCommit_before n hc hd hp ht).trans (by rw [if_neg (by simp [hok])]),
    fun _ _ _ n hc hp ht => execPlanCommit_late n hc hp ht,
    fun _ _ _ hc ht => execPlanCommitUnlock_before hc ht,
    fun _ _ _ hc => execPlanDeadline_uncommitted hc⟩
end

section
/-! The events of a data channel (R15-R17, R44, R84, R101, R105, R112, R140, R143, R166, R167). -/

open Sys2Proof Sys2Proof.Machine

namespace Sys2Proof.Machine

variable {s : State} {p : PortId} {a : ActId}

/-! ### Overruns, underruns and markers -/

/-- With no slack an overrun or underrun takes effect (R15). -/
theorem execSampleOverrun_noSlack (h : s.paceAbove = false) :
    execSampleOverrun p a s = .next (s.rxEnd p a 0x05 [.CH_SAMPLE_OVERRUN]).grave := by
  simp [execSampleOverrun, State.after, h]

theorem execSampleOverrun_slack (h : s.paceAbove = true) : execSampleOverrun p a s = .next s.grave := by
  simp [execSampleOverrun, State.after, h]

/-- The sector being received, if any, ends. -/
theorem State.rxEnd_of_rx {x : Sector} (code : Nat) (flags : List Flag) (h : (s.getChan (chanKey p a)).rx = some x) :
    s.rxEnd p a code flags =
      (s.modChan (chanKey p a) (fun c => { c with rx := none, readCur := none }.trySwap)).sectorEnd p a x (verdictOf code) flags := by
  simp only [State.rxEnd, h]

theorem execWriteUnderrun_noSlack (h : s.paceAbove = false) :
    execWriteUnderrun p a s = .next (s.cutGate p a .WR_WRITE_UNDERRUN).grave := by
  simp [execWriteUnderrun, State.after, h]

theorem execWriteUnderrun_slack (h : s.paceAbove = true) : execWriteUnderrun p a s = .next s.grave := by
  simp [execWriteUnderrun, State.after, h]

/-- Which lanes are in service does not depend on what the PN2 holds. -/
@[simp] theorem State.laneUpOn_modPn2 (u : UnitId) (k lane : Nat) (f : Pn2St → Pn2St) :
    (s.modPn2 k f).laneUpOn u p lane = s.laneUpOn u p lane := rfl

theorem execAlignmentMarker_laneUp {u : UnitId} {n : Fin 4} (i : Word) (h : s.laneUpOn u p (4 * a + n) = true) :
    execAlignmentMarker u p a n i s =
      .next ((s.modPn2 p (fun q => q.modAct a (fun x => { x with
        ratioDue := x.ratioDue.filter (· != subLaneKey u n), headDue := x.headDue.filter (· != subLaneKey u n) }))).markerIn u p a n
        (((s.getPn2 p).act a).marker u a n i).word).grave := by
  simp only [execAlignmentMarker, State.after, State.laneUpOn_modPn2, h, if_true]

/-- A marker of the sub-lane that it comes on, on the active unit, with no sector being received (R44, R45, R84, R85). -/
theorem State.markerIn_idle {u : UnitId} {n : Fin 4} {w : BitVec 64} {b : ControlBlock} (hw : controlBlock w = some b)
    (hk : b.kind = .marker) (ha : b.act = a) (hl : b.sublane = n) (hu : u = s.pair.active)
    (hr : (s.getChan (chanKey p a)).rx = none) :
    s.markerIn u p a n w =
      (s.modChan (chanKey p a) (fun c => { c with
        laneNext := mapPut (fun _ => 0) c.laneNext (subLaneKey u n) b.sampleIndex.toNat })).modChan (chanKey p a) (fun c => { c with
          laneHead := some b.head, ratioWait := c.ratioWait && !b.ratioChange, nextWait := c.nextWait && !b.ratioChange }) := by
  have hp : ∀ f, (s.modChan (chanKey p a) f).pair = s.pair := fun _ => rfl
  simp only [State.markerIn, hw, hk, ha, hl, ne_eq, not_true_eq_false, or_self, if_false, hp, hu, State.getChan_modChan, hr]

/-! ### Arms -/

/-- An arm with its ticket starts at its index (R167). -/
theorem execArmStart_read {r : Arm} (hp : (s.getChan (chanKey p a)).readPend = some r) (ht : r.ticket.isSome = true) :
    execArmStart p a false s = .next (s.readStart p a r).grave := by
  have hn : r.ticket.isNone = false := by simpa using ht
  simp [execArmStart, State.after, hp, hn]

/-- An arm with its feed starts at its index (R167). -/
theorem execArmStart_write {r : Arm} (hp : (s.getChan (chanKey p a)).writePend = some r) (hf : r.feed.isSome = true) :
    execArmStart p a true s = .next (s.writeStart p a r).grave := by
  have hn : r.feed.isNone = false := by simpa using hf
  simp [execArmStart, State.after, hp, hn]

/-- A sector's first arm without a ticket is late (R166). -/
theorem execArmStart_read_late {r : Arm} (hp : (s.getChan (chanKey p a)).readPend = some r) (hg : r.frag = 0)
    (ht : r.ticket = none) :
    execArmStart p a false s =
      .next ((s.modChan (chanKey p a) (fun c => { c with readPend := none })).armLate p a r false).grave := by
  simp [execArmStart, State.after, hp, hg, ht]

/-- A sector's first arm without a feed is late (R166). -/
theorem execArmStart_write_late {r : Arm} (hp : (s.getChan (chanKey p a)).writePend = some r) (hg : r.frag = 0)
    (hf : r.feed = none) :
    execArmStart p a true s =
      .next ((s.modChan (chanKey p a) (fun c => { c with writePend := none })).armLate p a r true).grave := by
  simp [execArmStart, State.after, hp, hg, hf]

/-! ### Samples, code words, replays and checks -/

theorem execSectorSamplesEnd_rx {x : Sector} (d : SectorSamples) (h : (s.getChan (chanKey p a)).rx = some x) :
    execSectorSamplesEnd p a d s = .next (s.samplesEnd p a x d).grave := by
  simp only [execSectorSamplesEnd, State.after, h]

theorem execSectorSamplesEnd_raw {x : Sector} (d : SectorSamples) (h : (s.getChan (chanKey p a)).rx = none)
    (hx : (s.getChan (chanKey p a)).raw.find? (fun x => !x.sampled && x.abort.isNone) = some x) :
    execSectorSamplesEnd p a d s = .next (s.rawSamples p a x d).grave := by
  simp only [execSectorSamplesEnd, State.after, h, hx]

theorem execDecodeComplete_oldest {x : Sector} {l : List Sector} (h : (s.getChan (chanKey p a)).decoding = x :: l) :
    execDecodeComplete p a s =
      .next ((s.modChan (chanKey p a) (fun c => { c with decoding := l })).sectorEnd p a x (s.decode p a x)).grave := by
  simp only [execDecodeComplete, State.after, h]

theorem execReplayComplete_running {x : Sector} (h : (s.getChan (chanKey p a)).replay = some x) :
    execReplayComplete p a s =
      (let r := (s.modChan (chanKey p a) (fun c => { c with replay := none })).replayRun p a x
       .next (r.1.replayEnd p a r.2.1 r.2.2.1 r.2.2.2).grave) := by
  simp only [execReplayComplete, State.after, h]

theorem execRawCheckComplete_due {x : Sector} {l : List Sector} (h : (s.getChan (chanKey p a)).raw = x :: l)
    (hx : x.checkDue = true) :
    execRawCheckComplete p a s = .next ((s.modChan (chanKey p a) (fun c => { c with raw := l })).rawFinal p a x).settle := by
  simp only [execRawCheckComplete, State.conclude, h, hx, if_true]

/-! ### Parameter sets and write entries -/

/-- A set that is in time and passes its checks is ready (R105). -/
theorem execParamLoadComplete_passes (hl : (s.getChan (chanKey p a)).load = .loading)
    (ho : s.setOk p ((s.getChan (chanKey p a)).set ((s.getChan (chanKey p a)).nextSet.getD 0)) = true) :
    execParamLoadComplete p a false s =
      .next (s.modChan (chanKey p a) (fun c => { c with
        load := .ready, nextBytes := (s.getChan (chanKey p a)).set ((s.getChan (chanKey p a)).nextSet.getD 0)
        nextBad := false, psetReady := true, psetErr := false }.trySwap)).grave := by
  simp [execParamLoadComplete, State.after, hl, ho]

/-- A set that is late or fails a check is a parameter error (R105). -/
theorem execParamLoadComplete_fails {b : Bool} (hl : (s.getChan (chanKey p a)).load = .loading)
    (ho : (!b && s.setOk p ((s.getChan (chanKey p a)).set ((s.getChan (chanKey p a)).nextSet.getD 0))) = false) :
    execParamLoadComplete p a b s =
      .next ((s.modChan (chanKey p a) (fun c => { c with
        load := .failed, nextBytes := (s.getChan (chanKey p a)).set ((s.getChan (chanKey p a)).nextSet.getD 0)
        nextBad := true, psetReady := false, psetErr := true }.trySwap)).raise (.ch p a) [.CH_PARAM_ERR]).grave := by
  simp [execParamLoadComplete, State.after, hl, ho]

theorem execWrsetTimeout_unacknowledged (hs : (s.getChan (chanKey p a)).wrSent = true)
    (ha : (s.getChan (chanKey p a)).wrAck = false) :
    execWrsetTimeout p a s =
      .next ((s.modChan (chanKey p a) (fun c => { c with wrFail := true })).raise (.wr p a) [.WR_TABLE_ERR]).grave := by
  simp [execWrsetTimeout, State.after, hs, ha]

end Sys2Proof.Machine

/-- Settles O8: each event by the part of the channel that it meets: what is being received, pending, decoded, replayed, checked or
loaded. -/
theorem dataChannelEvents : Obligations.DataChannelEvents := by
  unfold Obligations.DataChannelEvents
  exact ⟨
    fun _ _ _ _ h hx => (execSampleOverrun_noSlack h).trans (by rw [State.rxEnd_of_rx _ _ hx]),
    fun _ _ _ h => execSampleOverrun_slack h,
    fun _ _ _ h => execWriteUnderrun_noSlack h,
    fun _ _ _ h => execWriteUnderrun_slack h,
    fun _ _ _ _ _ i h => execAlignmentMarker_laneUp i h,
    fun _ _ _ _ _ _ _ hw hk ha hl hu hr => State.markerIn_idle hw hk ha hl hu hr,
    fun _ _ _ _ hp ht => execArmStart_read hp ht,
    fun _ _ _ _ hp hf => execArmStart_write hp hf,
    fun _ _ _ _ hp hg ht => execArmStart_read_late hp hg ht,
    fun _ _ _ _ hp hg hf => execArmStart_write_late hp hg hf,
    fun _ _ _ _ d h => execSectorSamplesEnd_rx d h,
    fun _ _ _ _ d h hx => execSectorSamplesEnd_raw d h hx,
    fun _ _ _ _ _ h => execDecodeComplete_oldest h,
    fun _ _ _ _ h => execReplayComplete_running h,
    fun _ _ _ hl ho => execParamLoadComplete_passes hl ho,
    fun _ _ _ _ hl ho => execParamLoadComplete_fails hl ho,
    fun _ _ _ _ _ h hx => execRawCheckComplete_due h hx,
    fun _ _ _ hs ha => execWrsetTimeout_unacknowledged hs ha⟩
end

section
/-! Sweep edges, the mode request and the ways out of Drain and Quiescent (R22-R27, R30, R31, R616, R618). -/

open Sys2Proof Sys2Proof.Machine

namespace Sys2Proof.Machine

/-- The part of a sweep edge that concerns the port alone (R22-R27). -/
abbrev State.portEdge (s : State) (p : PortId) : State :=
  let t := (((((s.fltEnd p).mediaFree p).ctRestore p).lanesStart p).planGate p).drainPort p
  ((((t.sweepCount p).indexAdopt p).shadowStep p).edgeAct p 0).edgeAct p 1

/-- The port counted among those that have had an edge since the mode was entered, and the end of a drain (R23). -/
abbrev State.sweptEnd (s : State) (p : PortId) : State :=
  ({ s with mode := { s.mode with swept := s.mode.swept ||| 2 ^ p.val } } : State).drainTry

/-- The edge of the leading port is also the module's (R22). -/
theorem execSweepEdge_sweeps {s : State} {p : PortId} (h : (s.getPort p).state.sweeps = true) :
    execSweepEdge p s =
      .next (((if s.leads p then (s.portEdge p).edgeMode.edgePlan else s.portEdge p).sweptEnd p).settle) := by
  simp only [execSweepEdge, State.conclude, h, Bool.not_true, Bool.false_eq_true, if_false]

/-- An accepted mode request is stored, and begins Bring-up where it may (R31, R37, R616). -/
theorem execRequestedModeWrite_accepted {s : State} {q : Requester} {u : UnitId} {v : BitVec 8}
    (h : s.Accepts q u Obj.REQUESTED_MODE [v]) (hv : v = 0x02 ∨ v = 0x04 ∨ v = 0x07 ∨ v = 0x0A) :
    execRequestedModeWrite q u v s =
      .next ((if (s.save Obj.REQUESTED_MODE v.toNat).mayBringUp then
          (s.save Obj.REQUESTED_MODE v.toNat).enter .bringUp .modeRequest
        else s.save Obj.REQUESTED_MODE v.toNat).answer q 0).settle := by
  have hok : (decide (v = 0x02) || decide (v = 0x04) || decide (v = 0x07) || decide (v = 0x0A)) = true := by
    simpa [or_assoc] using hv
  simp only [execRequestedModeWrite, State.conclude, hok, if_true]
  rw [tryKey_accepted _ h]

/-- Drain before a power-down ends in Quiescent (R618). -/
theorem execDrainComplete_powerDown {s : State} (h : s.mode.cur = .drain) (hi : s.cmds.all HostCmd.idleInDrain = true)
    (hp : s.mode.purpose = .powerDown) :
    execDrainComplete s =
      .next (({ s with mode := { s.mode with purpose := .none } } : State).enter .quiescent .modeRequest).settle := by
  simp only [execDrainComplete, State.conclude, h, hi, hp, ne_eq, not_true_eq_false, decide_false, Bool.not_true, Bool.or_self,
    Bool.false_eq_true, if_false]

/-- Drain before maintenance ends in Maintenance (R618). -/
theorem execDrainComplete_maintenance {s : State} (h : s.mode.cur = .drain) (hi : s.cmds.all HostCmd.idleInDrain = true)
    (hp : s.mode.purpose = .maintenance) :
    execDrainComplete s =
      .next (({ s with mode := { s.mode with purpose := .none } } : State).enter .maintenance .modeRequest).settle := by
  simp only [execDrainComplete, State.conclude, h, hi, hp, ne_eq, not_true_eq_false, decide_false, Bool.not_true, Bool.or_self,
    Bool.false_eq_true, if_false]

theorem execQuiescentToFiddlehead_atRest {s : State} (h : s.mode.cur = .quiescent) (hr : s.requested = 2)
    (hp : (List.range 16).all (fun p => (s.getPort p).state.rests) = true) :
    execQuiescentToFiddlehead s = .next (s.enter .fiddlehead .modeRequest).settle := by
  simp only [execQuiescentToFiddlehead, State.conclude, h, hr, hp, decide_true, Bool.and_self, if_true]

end Sys2Proof.Machine

/-- Settles O17: an edge by whether its port leads, a request by whether Bring-up may begin, and Drain by its purpose. -/
theorem sweepsAndModeRequests : Obligations.SweepsAndModeRequests := by
  unfold Obligations.SweepsAndModeRequests
  exact ⟨
    fun _ _ h hl => (execSweepEdge_sweeps h).trans (by rw [if_pos hl]),
    fun _ _ h hl => (execSweepEdge_sweeps h).trans (by rw [if_neg (by simp [hl])]),
    fun _ _ _ _ h hv hb => (execRequestedModeWrite_accepted h hv).trans (by rw [if_neg (by simp [hb])]),
    fun _ _ _ _ h hv hb => (execRequestedModeWrite_accepted h hv).trans (by rw [if_pos hb]),
    fun _ h hi hp => execDrainComplete_powerDown h hi hp,
    fun _ h hi hp => execDrainComplete_maintenance h hi hp,
    fun _ h hr hp => execQuiescentToFiddlehead_atRest h hr hp⟩
end

section
/-! Firmware Commit, CC.EN, controller resets and PERSTn (R37, R338, R349, R350, R352, R598, R621). -/

open Sys2Proof Sys2Proof.Machine

namespace Sys2Proof.Machine

/-- A commit runs at once in a mode in which one that activates may act (R37). -/
theorem State.commitStart_runs {s : State} (t : CmdTag) (slot action : Nat) (hi : s.pair.step = .idle)
    (ha : activates s.mode.cur = true) : s.commitStart t slot action = s.commitRun t slot action := by
  simp [State.commitStart, hi, ha]

/-- A commit that activates waits in every other mode (R37). -/
theorem State.commitStart_waits {s : State} (t : CmdTag) (slot : Nat) {action : Nat} (hi : s.pair.step = .idle)
    (ha : activates s.mode.cur = false) (hn : action ≠ 0) :
    s.commitStart t slot action = s.modCmd t (fun c => { c with kind := .commit, slot := slot, action := action }) := by
  simp [State.commitStart, hi, ha, hn]

/-- A Firmware Commit that begins runs, whichever of its four actions it names. -/
theorem admin_commitStart_runs {s r : State} {t : CmdTag} (slot action : Nat) (h : s.Begins t 0)
    (e : r = (s.fetch t 0).1.modCmd t (fun c => { c with kind := .admin })) (hi : r.pair.step = .idle)
    (ha : activates r.mode.cur = true) :
    s.admin t (fun s => s.commitStart t slot action) = .next (r.commitRun t slot action).settle := by
  rw [admin_now _ h e, State.commitStart_runs t slot action hi ha]

theorem execFwCommitActivateNow_waits {s r : State} {t : CmdTag} (slot : Fin 8) (h : s.Begins t 0)
    (e : r = (s.fetch t 0).1.modCmd t (fun c => { c with kind := .admin })) (hi : r.pair.step = .idle)
    (ha : activates r.mode.cur = false) :
    execFwCommitActivateNow t slot s =
      .next (r.modCmd t (fun c => { c with kind := .commit, slot := slot, action := 3 })).settle := by
  rw [execFwCommitActivateNow, admin_now _ h e, State.commitStart_waits t slot hi ha (by decide)]

/-- CC.EN makes admin queues of 2 to 256 entries (R338). -/
theorem execCcEnSet_enables {s : State} {u : UnitId} {asq acq : Nat} (hl : (s.getCtrl u.code).linkUp = true)
    (he : (s.getCtrl u.code).ccEn = false) (ha : 2 ≤ asq) (ha' : asq ≤ 256) (hb : 2 ≤ acq) (hb' : acq ≤ 256) :
    execCcEnSet u asq acq s =
      .next ((s.modCtrl u.code (fun c =>
        { c with ccEn := true, sqs := [{ qid := 0, cq := 0, size := asq }], cqs := [{ qid := 0, size := acq }] })).readyTry u).settle := by
  simp [execCcEnSet, State.conclude, hl, he, Nat.not_lt.mpr ha, Nat.not_lt.mpr ha', Nat.not_lt.mpr hb, Nat.not_lt.mpr hb']

theorem execControllerReset_linked {s : State} {u : UnitId} (h : (s.getCtrl u.code).linkUp = true) :
    execControllerReset u s = .next (s.ctrlReset u).settle := by
  simp only [execControllerReset, State.conclude, h, if_true]

theorem execPerstnAsserted_linked {s : State} {u : UnitId} (h : (s.getCtrl u.code).linkUp = true) :
    execPerstnAsserted u s = .next ((s.ctrlReset u).modCtrl u.code (fun c => { c with linkUp := false })).settle := by
  simp only [execPerstnAsserted, State.conclude, h, if_true]

end Sys2Proof.Machine

/-- Settles O26: the four commits are one operation with four actions, which runs or waits by the mode; PERSTn is a controller reset
that takes the link down. -/
theorem commitsAndControllerResets : Obligations.CommitsAndControllerResets := by
  unfold Obligations.CommitsAndControllerResets
  exact ⟨
    fun _ _ _ i h e hi ha => admin_commitStart_runs i 0 h e hi ha,
    fun _ _ _ i h e hi ha => admin_commitStart_runs i 1 h e hi ha,
    fun _ _ _ i h e hi ha => admin_commitStart_runs i 2 h e hi ha,
    fun _ _ _ i h e hi ha => admin_commitStart_runs i 3 h e hi ha,
    fun _ _ _ i h e hi ha => execFwCommitActivateNow_waits i h e hi ha,
    fun _ _ _ _ hl he ha ha' hb hb' => execCcEnSet_enables hl he ha ha' hb hb',
    fun _ _ h => execControllerReset_linked h,
    fun _ _ h => execPerstnAsserted_linked h⟩
end

section
/-! The key-value commands of a namespace of the module, and the forwarding of a command on another module's (R281, R285, R308, R340,
R346, R348, R459, R460). -/

open Sys2Proof Sys2Proof.Machine

namespace Sys2Proof.Machine

/-! ### The namespace that an NSID names -/

/-- An NSID of the module itself: its own service runs the command (R341). -/
theorem State.onNsid_own {s : State} (t : CmdTag) {i n : Nat} (c : KvSub) (v : List Byte) (own : Nat → State → State)
    (hr : s.casc.role ≠ .isolated) (hn : nsidOf i = some (0, n)) : s.onNsid t i c v own = own n s := by
  simp only [State.onNsid, hr, if_false, hn]

/-- An NSID of a reachable module of the tree: the root forwards the command (R459). -/
theorem State.onNsid_forward {s : State} (t : CmdTag) {i m n : Nat} (c : KvSub) (v : List Byte) (own : Nat → State → State)
    (hn : nsidOf i = some (m + 1, n)) (hr : s.casc.role = .root)
    (hu : (mapGet (fun _ => ({} : TreeModule)) s.casc.table (m + 1)).used = true) (hd : s.casc.dropped.contains (m + 1) = false)
    (hc : (mapGet (fun _ => ({} : TreeModule)) s.casc.table (m + 1)).reachable = true) :
    s.onNsid t i c v own = s.forwardKv t (m + 1) { c with ns := n } v := by
  have hd' : m + 1 ∉ s.casc.dropped := by simpa using hd
  simp [State.onNsid, hr, hn, hu, hd', hc]

/-- A key-value command that begins on a namespace of the module (R341, R346). -/
theorem conclude_beginIo_own {s r : State} {t : CmdTag} {len i n : Nat} (c : KvSub) (v : List Byte) (own : Nat → State → State)
    (h : s.BeginsIo t len) (e : r = (s.fetch t len).1) (hr : r.casc.role ≠ .isolated) (hn : nsidOf i = some (0, n)) :
    State.conclude (s.beginIo t len (fun s => s.onNsid t i c v own)) = .next (own n r).settle := by
  rw [beginIo_now _ h, ← e, State.onNsid_own t c v own hr hn, State.conclude]

/-! ### What the commands do once they hold their slot -/

section Run

variable {s : State} (t : CmdTag) {n : Nat} {k : List Byte}

/-- A Store that nothing refuses takes its value, and its chunks are formed unless it is held for width (R281, R308, R319). -/
theorem State.runStore_enters {v : List Byte} {o : StoreOpt} (m : CompressMode) {d : HostCmd}
    (h : s.storeRefusal n k v.length o = none) (hd : s.cmds.find? (fun c => c.tag == t) = some d) :
    s.runStore t n k v o m =
      (let d : HostCmd := { d with kind := .store, ns := n, key := k, value := v, hint := m, held := true, heldAt := s.now }
       let x : State := { s with cmds := s.cmds.map (fun (c : HostCmd) => if c.tag == t then d else c) }
       if x.width < 13 && x.mode.cur != .bringUp then x else (x.formChunks d).settleCmds) := by
  simp only [State.runStore, h, hd, Option.getD_some]

theorem State.runStore_keyExists {v : List Byte} {o : StoreOpt} (m : CompressMode)
    (h : s.storeRefusal n k v.length o = some .keyExists) : s.runStore t n k v o m = s.complete t .keyExists := by
  simp [State.runStore, h]

/-- What an empty stored value completes with (R340). -/
theorem State.runRetrieve_empty {d : ValueDesc} (l : Nat) (h : s.kvRefusal n (some k) false false = none)
    (ho : s.observe n k = .stored d) (hl : d.lost = false) (hm : s.mode.cur = .frond) (hc : d.chunks = []) :
    s.runRetrieve t n k l = s.complete t .success d.len [] := by
  simp [State.runRetrieve, h, ho, hl, hm, hc]

/-- The chunks of a stored value are read (R285). -/
theorem State.runRetrieve_reads {d : ValueDesc} (l : Nat) (h : s.kvRefusal n (some k) false false = none)
    (ho : s.observe n k = .stored d) (hl : d.lost = false) (hm : s.mode.cur = .frond) (hc : d.chunks.isEmpty = false) :
    s.runRetrieve t n k l =
      (s.modCmd t (fun c => { c with kind := .retrieve, ns := n, key := k, limit := l, desc := some d, waits := d.chunks })).forEach
        d.chunks (fun s n => s.readWant n id) := by
  simp [State.runRetrieve, h, ho, hl, hm, hc]

/-- The value of a Store still in the table is returned from it (R346, R347). -/
theorem State.runRetrieve_pending {c : HostCmd} (l : Nat) (h : s.kvRefusal n (some k) false false = none)
    (ho : s.observe n k = .pendingStore c) :
    s.runRetrieve t n k l =
      (s.modCmd c.tag (fun c => { c with observed := true })).complete t .success c.value.length (c.value.take l) := by
  simp only [State.runRetrieve, h, ho]

/-- A Delete that nothing refuses, by whether its key is present (R308). -/
theorem State.runDelete_served (h : s.kvRefusal n (some k) true true = none) :
    s.runDelete t n k =
      if s.present n k then (s.modCmd t (fun c => { c with kind := .delete, ns := n, key := k })).settleCmds
      else s.complete t .keyNotFound := by
  simp only [State.runDelete, h]

theorem State.runExist_served (h : s.kvRefusal n (some k) false false = none) :
    s.runExist t n k = s.complete t (if s.present n k then .success else .keyNotFound) := by
  simp only [State.runExist, h]

theorem State.runList_served (l : Nat) (h : s.kvRefusal n (some k) false false = none) :
    s.runList t n k l =
      (let ks := keysFit (l - 4) ((s.keysOf n).filter (fun x => keyLe k x))
       s.complete t .success 0 ((leBytes 4 ks.length ++ ks.flatMap listEntry).take l)) := by
  simp only [State.runList, h]

theorem State.runFlush_one (h : s.kvRefusal n none false false = none) :
    s.runFlush t n false [] =
      ((s.sealPack n).modCmd t (fun c => { c with kind := .flush, ns := n, all := false, waits := [] })).settleCmds := by
  simp [State.runFlush, h]

end Run

/-! ### The commands -/

/-- A Flush of every namespace with no other module to reach (R460). -/
theorem execFlush_all {s r : State} {t : CmdTag} (h : s.BeginsIo t 0) (e : r = (s.fetch t 0).1) (hr : r.casc.role ≠ .isolated)
    (hm : r.flushMods = []) :
    execFlush t 0xFFFFFFFF s =
      .next ((r.modCmd t (fun c => { c with fwdTag := r.casc.nextTag })).runFlush t 0 true []).settle := by
  rw [execFlush, beginIo_now _ h, ← e]
  simp [State.conclude, hr, hm, State.forEach]

/-- A Flush of one namespace of the module (R348). -/
theorem execFlush_one {s r : State} {t : CmdTag} {i n : Nat} (h : s.BeginsIo t 0) (e : r = (s.fetch t 0).1)
    (hr : r.casc.role ≠ .isolated) (hn : nsidOf i = some (0, n)) :
    execFlush t i s = .next (r.runFlush t n false []).settle := by
  have hi : i ≠ 0xFFFFFFFF := by rintro rfl; simp [nsidOf] at hn
  rw [execFlush, beginIo_now _ h, ← e, if_neg hi, State.onNsid_own t _ _ _ hr hn, State.conclude]

theorem execExist_forward {s r : State} {t : CmdTag} {i m n : Nat} (k : List Byte) (h : s.BeginsIo t 0) (e : r = (s.fetch t 0).1)
    (hn : nsidOf i = some (m + 1, n)) (hr : r.casc.role = .root)
    (hu : (mapGet (fun _ => ({} : TreeModule)) r.casc.table (m + 1)).used = true) (hd : r.casc.dropped.contains (m + 1) = false)
    (hc : (mapGet (fun _ => ({} : TreeModule)) r.casc.table (m + 1)).reachable = true) :
    execExist t i k s = .next (r.forwardKv t (m + 1) { op := .exist, ns := n, key := k } []).settle := by
  rw [execExist, beginIo_now _ h, ← e, State.onNsid_forward t _ _ _ hn hr hu hd hc, State.conclude]

end Sys2Proof.Machine

/-- Settles O27: a command that begins on a namespace of the module is what its service does with it, by the refusals and by what the
command observes; a Flush of every namespace and a command of another module go their own way. -/
theorem keyValueCommands : Obligations.KeyValueCommands := by
  unfold Obligations.KeyValueCommands
  exact ⟨
    fun _ _ t _ _ _ _ _ m _ h e hr hn hs hd =>
      (conclude_beginIo_own _ _ _ h e hr hn).trans (by rw [State.runStore_enters t _ hs hd]),
    fun _ _ t _ _ _ _ _ m h e hr hn hs => (conclude_beginIo_own _ _ _ h e hr hn).trans (by rw [State.runStore_keyExists t _ hs]),
    fun _ _ t _ _ _ l _ h e hr hn hk ho hl hm hc =>
      (conclude_beginIo_own _ _ _ h e hr hn).trans (by rw [State.runRetrieve_empty t l hk ho hl hm hc]),
    fun _ _ t _ _ _ l _ h e hr hn hk ho hl hm hc =>
      (conclude_beginIo_own _ _ _ h e hr hn).trans (by rw [State.runRetrieve_reads t l hk ho hl hm hc]),
    fun _ _ t _ _ _ l _ h e hr hn hk ho =>
      (conclude_beginIo_own _ _ _ h e hr hn).trans (by rw [State.runRetrieve_pending t l hk ho]),
    fun _ _ t _ _ _ h e hr hn hk hp =>
      (conclude_beginIo_own _ _ _ h e hr hn).trans (by rw [State.runDelete_served t hk, if_pos hp]),
    fun _ _ t _ _ _ h e hr hn hk hp =>
      (conclude_beginIo_own _ _ _ h e hr hn).trans (by rw [State.runDelete_served t hk, if_neg (by simp [hp])]),
    fun _ _ t _ _ _ h e hr hn hk hp =>
      (conclude_beginIo_own _ _ _ h e hr hn).trans (by rw [State.runExist_served t hk, if_pos hp]),
    fun _ _ t _ _ _ l h e hr hn hk => (conclude_beginIo_own _ _ _ h e hr hn).trans (by rw [State.runList_served t l hk]),
    fun _ _ t _ _ h e hr hn hk => (execFlush_one h e hr hn).trans (by rw [State.runFlush_one t hk]),
    fun _ _ _ h e hr hm => execFlush_all h e hr hm,
    fun _ _ _ _ _ _ k h e hn hr hu hd hc => execExist_forward k h e hn hr hu hd hc⟩
end

section
/-! Supplies, Hold-up, the HOLD capacitor, the pace monitor, temperatures and PEN (R30, R427, R490-R514). -/

open Sys2Proof Sys2Proof.Machine

namespace Sys2Proof.Machine

/-! ### VIN12 -/

/-- VIN12 in window starts the PHY rail: the rows of both dies are to be scanned again (R490). -/
theorem execVin12Good_rises {s : State} (h : s.sup.vin12 = false) (hm : s.mode.cur ≠ .holdUp) :
    execVin12Good s =
      .next ({ s with
        sup := { s.sup with vin12 := true }, mode := { s.mode with settingsRead := false }
        jf := s.jf.map (fun e => (e.1, { e.2 with scanned := false })) } : State).settle := by
  simp only [execVin12Good, State.conclude, h, hm, Bool.false_eq_true, if_false]

theorem execStateRowScanComplete_powered {s : State} {u : UnitId} (b : List (Nat × Bool × Bool)) (hv : s.sup.vin12 = true)
    (hx : s.sup.vaux3 = true) (hm : s.mode.cur ≠ .holdUp) (hs : (s.getJf u.code).scanned = false) :
    execStateRowScanComplete u b s = .next (s.jfScan u b).settle := by
  simp [execStateRowScanComplete, State.conclude, hv, hx, hm, hs]

/-- The loss of VIN12 from a running mode begins Hold-up, which ends where it stands on a spent capacitor (R30, R502). -/
theorem execVin12Lost_running {s : State} (h : s.sup.vin12 = true) (hm : holdsUp s.mode.cur = true) :
    execVin12Lost s =
      (let t := ({ s with sup := { s.sup with vin12 := false }, mode := { s.mode with settingsRead := false } } : State).holdupBegin
       .next (if t.sup.holdSpent then t.holdEnds.settle else t.settle)) := by
  simp only [execVin12Lost, State.conclude, h, hm, Bool.not_true, Bool.false_eq_true, if_false, if_true, apply_ite State.settle]

/-- The loss of VIN12 in Fiddlehead stops what runs from it (R505). -/
theorem execVin12Lost_fiddlehead {s : State} (h : s.sup.vin12 = true) (hm : s.mode.cur = .fiddlehead) :
    execVin12Lost s =
      (let t := ({ s with sup := { s.sup with vin12 := false }, mode := { s.mode with settingsRead := false } } : State)
       let t := (((t.jfPowerLoss .A).jfPowerLoss .B).ctrlDown .A).ctrlDown .B
       let t := if t.rd Obj.RECOVERY_CHECK = 7 then t.wr Obj.RECOVERY_CHECK 0 else t
       .next ({ t with fw := t.fw.map (fun e => (e.1, { e.2 with recovery := none })) } : State).linksOff.unpoweredTry.settle) := by
  have hu : holdsUp .fiddlehead = false := rfl
  simp only [execVin12Lost, State.conclude, h, hm, hu, Bool.not_true, Bool.false_eq_true, reduceCtorEq, if_false]

/-! ### Hold-up and HOLD -/

/-- The records of completed commands, the settings, the count, the record of the Hold-up and the recorder's pages, in this order;
then the mode that the supplies allow (R502, R505). -/
theorem execHoldupSequenceComplete_ready {s : State} {us : List UnitId} {a b : Nat} (h : s.mode.cur = .holdUp)
    (hr : s.sup.holdReady = true) (hus : us = [UnitId.A, UnitId.B].filter (fun u => !(s.unitSt u).inReset))
    (ha : a = (if us.contains .A then s.stagedPages .A else 0)) (hb : b = (if us.contains .B then s.stagedPages .B else 0)) :
    execHoldupSequenceComplete s =
      (let t := ((s.forEach us (fun s u => s.journalCommit u)).commitSettings .A).commitSettings .B
       let len := min (t.now - t.mode.entryTime) 0xFFFFFFFF
       let t := t.forEach [UnitId.A, UnitId.B] (fun s u => (s.inc (Obj.HOLDUPS u)).wr (Obj.LAST_HOLDUP_US u) len)
       let body := leBytes 2 (min a 0xFFFF) ++ leBytes 2 (min b 0xFFFF) ++ leBytes 4 len
       let t := (t.logPlain 7 body).emergency { index := 0, sub := 0, ty := 7, cls := 0, body := body }
       let t := (t.commitPages .A).commitPages .B
       let t := ((t.jfPowerLoss .A).jfPowerLoss .B).forEach [UnitId.A, UnitId.B] (fun s u =>
         if s.sup.vin12 then s.stage (Obj.HOLDUPS u) else s)
       let t := { t with sup := { t.sup with hold := .empty } }
       .next (if t.sup.vin12 then
           (if (t.firmwareStopped.enter .bringUp .holdUpDone).sup.vauxIn then t.firmwareStopped.enter .bringUp .holdUpDone
            else (t.firmwareStopped.enter .bringUp .holdUpDone).enter .resetHold .supply)
         else if t.sup.vauxIn then t.enter .fiddlehead .holdUpDone
         else t.enter .unpowered .supply).settle) := by
  subst ha hb hus
  simp only [execHoldupSequenceComplete, State.conclude, h, hr, ne_eq, not_true_eq_false, if_false, if_true]

theorem execHoldExhausted_holdUp {s : State} (h : s.mode.cur = .holdUp) : execHoldExhausted s = .next s.holdEnds.settle := by
  simp [execHoldExhausted, State.conclude, h]

/-- The charge begins after soft-start (R494, R497). -/
theorem execHoldChargeStart_empty {s : State} (mv : Nat) (hv : s.sup.vin12 = true) (hm : coresRun s.mode.cur = true)
    (hh : s.sup.hold = .empty) (ht : s.sup.coresFrom + 2000 ≤ s.now) :
    execHoldChargeStart mv s =
      .next (({ s with sup := { s.sup with
        hold := .charging, holdFrom := mv, holdSince := s.now, holdSpent := false } } : State).holdWaits).settle := by
  simp [execHoldChargeStart, State.conclude, hv, hm, hh, Nat.not_lt.mpr ht]

/-- From below 20.0 V the span of the measurement is 10.0 V (R497). -/
theorem holdSpan_of_lt {v : Nat} (h : v < 20000) : holdSpan v = some 10000 := by
  rw [holdSpan, if_pos h]

theorem execHoldChargeEnd_measured {s : State} {t : Nat} (hh : s.sup.hold = .charging) (hf : s.sup.holdFrom < 20000)
    (ht : s.sup.holdSince + t ≤ s.now) :
    execHoldChargeEnd t s =
      (let uf := min (openDiv ((t : Int) * 500) 10000).toNat 0xFFFF
       .next ((((s.save (Obj.HOLD_CAP_UF .A) uf).save (Obj.HOLD_CAP_UF .B) uf).holdUsable uf).holdJudge
         (decide (1800 * 2000 * 10000 ≤ t * 500 * 1025))).settleCmds.settle) := by
  simp [execHoldChargeEnd, State.conclude, hh, Nat.not_lt.mpr ht, holdSpan_of_lt hf]

/-! ### VCORE and the pace monitor -/

theorem execVcoreFault_coresOn {s : State} {u : UnitId} (h : s.coresOn u = true) :
    execVcoreFault u s = .next ((s.raise (.pwr u) [.PWR_VCORE_FAULT]).checkWaits u .pace).settle := by
  simp only [execVcoreFault, State.conclude, h, if_true]

/-- A multiple of 10 mV is taken in Maintenance (R492). -/
theorem execVcoreSetWrite_accepted {s : State} {q : Requester} {u : UnitId} {v : BitVec 16}
    (h : s.Accepts q u (Obj.VCORE_SET u) (leBytes 2 v.toNat)) (hv : v.toNat % 10 = 0) (hm : s.mode.cur = .maintenance) :
    execVcoreSetWrite q u v s = .next ((s.save (Obj.VCORE_SET u) v.toNat).answer q 0) := by
  have he : (if v.toNat % 10 ≠ 0 then 0x07 else if v.toNat ≠ 720 && s.mode.cur ≠ .maintenance then 0x09 else 0) = 0 := by
    simp [hv, hm]
  rw [execVcoreSetWrite, he, tryKey_accepted _ h]

theorem execPaceWindow_coresOn {s : State} {u : UnitId} (l : List (Option Nat)) (h : s.coresOn u = true) :
    execPaceWindow u l s = .next (s.paceWindow u l).settle := by
  simp only [execPaceWindow, State.conclude, h, if_true]

theorem execPaceTripExpiry_low {s : State} {u : UnitId} (hl : (s.unitSt u).paceLow = true) (hc : s.coresOn u = true)
    (ht : (s.unitSt u).lowFrom + s.rd Obj.PACE_TRIP ≤ s.now) : execPaceTripExpiry u s = .next (s.checkWaits u .pace) := by
  simp [execPaceTripExpiry, hl, hc, ht]

/-! ### Temperatures and PEN -/

/-- Outside Unpowered and Reset hold a ring's reading sets the bands of its unit (R509-R511). -/
theorem execSensorRead_ring {s : State} {u : UnitId} (i : Fin 24) (r : SensorRaw) (hu : s.mode.cur ≠ .unpowered)
    (hr : s.mode.cur ≠ .resetHold) :
    execSensorRead u (.ring i) r s = .next (s.bandsAfter (s.readRing u i r) u).settle := by
  simp [execSensorRead, State.conclude, hu, hr]

theorem execSensorRead_hda {s : State} {u : UnitId} (p : PortId) (r : SensorRaw) (hu : s.mode.cur ≠ .unpowered)
    (hr : s.mode.cur ≠ .resetHold) : execSensorRead u (.hda p) r s = .next (s.readHda u p r).settle := by
  simp [execSensorRead, State.conclude, hu, hr]

theorem execGddr7TemperatureRead_values {s : State} {u : UnitId} (a b : Int) (h : (s.getBuf u.code).state ≠ .untrained) :
    execGddr7TemperatureRead u (some a) (some b) s =
      (let t := (s.readPair u 27 u 28 (.value a)).readPair u 28 u 27 (.value b)
       .next (if (s.bandsAfter t u).bufBand u ≠ s.bufBand u then (s.bandsAfter t u).raise (.buf u) [.BUF_BAND_CHANGE]
         else s.bandsAfter t u).settle) := by
  simp only [execGddr7TemperatureRead, State.conclude, h, if_false]

/-- Above 130 °C for 1 ms: the bit, and where it sets no latch the check of its unit (R514, R525). -/
theorem execThermalTrip_hot {s : State} {u : UnitId} {f : Nat} (hf : (s.unitSt u).hotFrom = some f) (hh : s.tripHot u = true)
    (ht : f + 1000 ≤ s.now) :
    execThermalTrip u s =
      .next (if (s.raise (.pwr u) [.PWR_THERMAL_TRIP]).mode.latchDue then (s.raise (.pwr u) [.PWR_THERMAL_TRIP]).settle
        else ((s.raise (.pwr u) [.PWR_THERMAL_TRIP]).checkWaits u .thermal).settle) := by
  rw [← apply_ite State.settle]
  simp [execThermalTrip, State.conclude, hf, hh, Nat.not_lt.mpr ht]

/-- The lowest port that waits is powered (R74, R501). -/
theorem execPenGrant_waits {s t : State} {p : Nat} (hv : s.sup.vin12 = true) (hw : (s.unitSt s.pair.active).fwRunning = true)
    (hp : (List.range 16).find? (fun p => s.portWaits p) = some p) (hf : s.penFree p = true)
    (ht : t = s.portTo p .powering .stepComplete) :
    execPenGrant s = .next ((({ t with sup := { t.sup with penAt := some (p, t.now) } } : State)).penDrive p true).settle := by
  subst ht
  simp only [execPenGrant, State.conclude, hv, hw, hp, hf, Bool.not_true, Bool.or_self, Bool.false_eq_true, if_false]

end Sys2Proof.Machine

/-- Settles O18: each event by the supplies, the mode and the record that it meets; Frond is neither Unpowered nor Reset hold, and the
latch that a trip meets makes no difference to what it answers. -/
theorem suppliesAndTemperatures : Obligations.SuppliesAndTemperatures := by
  unfold Obligations.SuppliesAndTemperatures
  exact ⟨
    fun _ h _ hm => execVin12Good_rises h hm,
    fun _ _ b hv hx hm hs => execStateRowScanComplete_powered b hv hx hm hs,
    fun _ h hm _ => execVin12Lost_running h hm,
    fun _ h hm _ => execVin12Lost_fiddlehead h hm,
    fun _ _ _ _ h hr hus ha hb => execHoldupSequenceComplete_ready h hr hus ha hb,
    fun _ h => execHoldExhausted_holdUp h,
    fun _ mv hv hm hh ht => execHoldChargeStart_empty mv hv hm hh ht,
    fun _ _ hh hf ht => execHoldChargeEnd_measured hh hf ht,
    fun _ _ h => execVcoreFault_coresOn h,
    fun _ _ _ _ h hv hm => execVcoreSetWrite_accepted h hv hm,
    fun _ _ l h => execPaceWindow_coresOn l h,
    fun _ _ hl hc ht => execPaceTripExpiry_low hl hc ht,
    fun _ _ i r hm => execSensorRead_ring i r (by simp [hm]) (by simp [hm]),
    fun _ _ p r hm => execSensorRead_hda p r (by simp [hm]) (by simp [hm]),
    fun _ _ a b h => execGddr7TemperatureRead_values a b h,
    fun _ _ _ hf hh ht _ => execThermalTrip_hot hf hh ht,
    fun _ _ _ hv hw hp hf ht => execPenGrant_waits hv hw hp hf ht⟩
end

section
/-! The staged start: VAUX3, RSTn, self-tests, the role decision, firmware, GDDR7 and recovery images (R30, R361, R426-R433, R467,
R468, R597, R604). -/

open Sys2Proof Sys2Proof.Machine

namespace Sys2Proof.Machine

/-! ### VAUX3 and RSTn -/

/-- VAUX3 in window again without a removal: the state goes on (R30, R426). -/
theorem execVaux3Applied_kept {s : State} (r : Straps) (hi : s.sup.vauxIn = false) (hv : s.sup.vaux3 = true) :
    execVaux3Applied r s =
      (let t := { s with sup := { s.sup with vaux3 := true, vauxIn := true, straps := r } }
       let t := (t.wr Obj.T_VAUX3_GOOD t.now).wr Obj.UNITPREF_STRAP (if r.unitPref then 1 else 0)
       let t := if t.mode.cur = .unpowered then t.setMode .resetHold .powerApplied else t
       .next (t.forEach (List.range 16) (fun s p => s.spinDrive p (s.spinFor p))).startBegin.settle) := by
  simp only [execVaux3Applied, State.conclude, hi, hv, Bool.not_true, Bool.false_eq_true, if_false]

/-- VAUX3 in window after a removal: what runs from it starts afresh (R426, R566). -/
theorem execVaux3Applied_removed {s : State} (r : Straps) (hi : s.sup.vauxIn = false) (hv : s.sup.vaux3 = false) :
    execVaux3Applied r s =
      (let t : State := { s.kept with mode := { cur := s.mode.cur, prev := s.mode.prev, cause := s.mode.cause } }
       let t := { t with sup := { t.sup with vaux3 := true, vauxIn := true, straps := r } }
       let t := (t.wr Obj.T_VAUX3_GOOD t.now).wr Obj.UNITPREF_STRAP (if r.unitPref then 1 else 0)
       let t := if t.mode.cur = .unpowered then t.setMode .resetHold .powerApplied else t
       .next (t.forEach (List.range 16) (fun s p => s.spinDrive p (s.spinFor p))).startBegin.settle) := by
  simp only [execVaux3Applied, State.conclude, hi, hv, Bool.not_false, Bool.false_eq_true, if_false, if_true]

theorem execVaux3OutOfWindow_fiddlehead {s : State} (lost : Bool) (h : s.mode.cur = .fiddlehead) :
    execVaux3OutOfWindow lost s =
      .next (({ s with sup := { s.sup with vauxIn := false, vaux3 := s.sup.vaux3 && !lost } } : State).enter
        .resetHold .supply).unpoweredTry.settle := by
  simp only [execVaux3OutOfWindow, State.conclude, h]

theorem execRstnAsserted_frond {s : State} (h : s.mode.cur = .frond) :
    execRstnAsserted s = .next (({ s with sup := { s.sup with rstLow := true } } : State).enter .resetHold .rstn).settle := by
  simp only [execRstnAsserted, State.conclude, h]

/-! ### Self-tests, claims and the role decision -/

/-- The preferred unit claims with a self-test passed within 10 ms (R467). -/
theorem execSelfTestComplete_deciding {s : State} {u : UnitId} (ok : Bool) (hr : (s.unitSt u).inReset = false)
    (hd : s.deciding = true) :
    execSelfTestComplete u ok s =
      .next (s.modUnit u (fun x => { x with
        selfTest := ok, claim := x.claim || (ok && u == s.preferred && decide (s.now ≤ s.pair.startAt + 10000)) })).settle := by
  simp only [execSelfTestComplete, State.conclude, hr, hd, Bool.false_eq_true, if_false, if_true]

/-- The other unit claims at 12 ms where the preferred one has not (R467). -/
theorem execClaimTimer_due {s : State} (hd : s.deciding = true) (hc : s.pair.claimClosed = false)
    (ht : s.pair.startAt + 12000 ≤ s.now) :
    execClaimTimer s =
      (let t := s.modUnit s.preferred.other (fun x => { x with
         claim := x.selfTest && !x.inReset && !(s.unitSt s.preferred).claim })
       .next ({ t with pair := { t.pair with claimClosed := true } } : State).settle) := by
  simp only [execClaimTimer, State.conclude, hd, hc, Nat.not_lt.mpr ht, decide_false, Bool.not_true, Bool.or_self,
    Bool.false_eq_true, if_false]

/-- A unit that has claimed wins; the other one, present and passed, is to be its standby (R467, R468). -/
theorem execRoleDecision_claimed {s : State} {w : UnitId} (hd : s.deciding = true) (hc : s.pair.claimClosed = true)
    (ht : s.pair.startAt + 15000 ≤ s.now) (hw : s.winner = (w, false)) (hp : (s.unitSt w.other).present = true)
    (ho : (s.unitSt w.other).selfTest = true) (hg : s.mode.graveLatch = false) :
    execRoleDecision s =
      (let t := { s with pair := { s.pair with roleDecided := true, active := w, peer := .selfTest } }
       let t := t.enter .fiddlehead (if s.mode.freshPower then .powerApplied else .resetReleased)
       let t := if w ≠ t.preferred then t.raise .pair [.PAIR_ROLE_YIELDED] else t
       .next (if t.sup.exhaustedDue then ({ t with sup := { t.sup with exhaustedDue := false } } : State).pwrBoth .PWR_HOLD_EXHAUSTED
         else t).settle) := by
  simp only [execRoleDecision, State.conclude, hd, hc, Nat.not_lt.mpr ht, hw, hp, ho, hg, decide_false, Bool.not_true, Bool.or_self,
    Bool.false_and, Bool.false_eq_true, if_false]

/-! ### Firmware and GDDR7 -/

/-- What the boot ROM found is logged; the unit's firmware is loaded, or the unit has failed (R428, R432). -/
theorem execFirmwareVerifyComplete_mayLoad {s : State} {u : UnitId} (x y : Bool) (hl : s.mayLoad u = true)
    (ht : (s.unitSt u).selfTest = true) :
    execFirmwareVerifyComplete u x y s =
      (let t := (s.fwTry u x y).1
       let body := leBytes 1 (t.rd Obj.BOOT_RESULT) ++ leBytes 1 (t.rd (Obj.SLOT_CHECK u 0)) ++ leBytes 1 (t.rd (Obj.SLOT_CHECK u 1)) ++
         leBytes 4 (match (s.fwTry u x y).2 with | some n => fwVersion (t.slotImage u n) | none => 0)
       let t := t.log { ty := 0x000A, unit := u, body := body }
       .next (match (s.fwTry u x y).2 with | some n => t.firmwareLoaded u n | none => t.unitFailed u).settle) := by
  simp only [execFirmwareVerifyComplete, State.conclude, hl, ht, Bool.not_true, Bool.and_false, Bool.or_self, Bool.false_eq_true,
    if_false, if_true] <;> rfl

/-- Training that succeeds; on the active unit it lets commands be served (R361, R428). -/
theorem execGddr7TrainingComplete_ok {s t : State} {u : UnitId} (h : (s.getBuf u.code).state = .training)
    (ht : t = (s.gddrTrained u true).cacheEnable u) :
    execGddr7TrainingComplete u true s =
      .next (if u = t.pair.active then (t.wr Obj.T_GDDR7_TRAINED t.now).readyBoth else t).peerTry.settle := by
  subst ht
  simp only [execGddr7TrainingComplete, State.conclude, h, ne_eq, not_true_eq_false, if_false, if_true]

/-! ### Recovery images -/

/-- An image staged under BOOTSEL while VIN12 is in window and none is under check (R433). -/
theorem execFwRecoveryStageWrite_accepted {s : State} {q : Requester} {u : UnitId} {d : List Byte}
    (h : s.Accepts q u Obj.FW_RECOVERY_STAGE d) (hb : s.sup.straps.bootSel = true) (hv : s.sup.vin12 = true)
    (hr : (s.getFw s.pair.active.code).recovery = none) :
    execFwRecoveryStageWrite q u d s =
      .next (((s.modFw s.pair.active.code (fun f => { f with recovery := some d })).wr Obj.RECOVERY_CHECK 7).answer q 0) := by
  simp only [execFwRecoveryStageWrite, hb, hv, hr, Bool.not_true, Option.isSome_none, Bool.false_eq_true, if_false]
  rw [tryKey_accepted _ h]

/-- An image that fails its check is rejected with the check's code (R433). -/
theorem execRecoveryCheckComplete_rejects {s : State} {d : List Byte} (hr : (s.getFw s.pair.active.code).recovery = some d)
    (hm : s.mode.cur = .fiddlehead) (hv : s.sup.vin12 = true)
    (hc : (s.modFw s.pair.active.code (fun f => { f with recovery := none })).fwCheck s.pair.active d ≠ 1) :
    execRecoveryCheckComplete s =
      (let t := s.modFw s.pair.active.code (fun f => { f with recovery := none })
       .next ((t.wr Obj.RECOVERY_CHECK (t.fwCheck s.pair.active d)).wr Obj.BOOT_RESULT 3).settle) := by
  simp [execRecoveryCheckComplete, State.conclude, hr, hm, hv, hc]

theorem execBootselChange_vaux3 {s : State} (b : Bool) (h : s.sup.vaux3 = true) :
    execBootselChange b s =
      .next ({ s with sup := { s.sup with straps := { s.sup.straps with bootSel := b } } } : State).settle := by
  simp only [execBootselChange, State.conclude, h, Bool.not_true, Bool.false_eq_true, if_false]

end Sys2Proof.Machine

/-- Settles O19: each step of a start by the supplies and the roles that it meets; training ends in one way, with the times and the
readiness of the module where the unit is the active one. -/
theorem startAndRoleDecision : Obligations.StartAndRoleDecision := by
  unfold Obligations.StartAndRoleDecision
  exact ⟨
    fun _ r hi hv => execVaux3Applied_kept r hi hv,
    fun _ r hi hv => execVaux3Applied_removed r hi hv,
    fun _ h => execVaux3OutOfWindow_fiddlehead true h,
    fun _ h => execRstnAsserted_frond h,
    fun _ => rfl,
    fun _ _ ok hr hd => execSelfTestComplete_deciding ok hr hd,
    fun _ hd hc ht => execClaimTimer_due hd hc ht,
    fun _ _ hd hc ht hw hp ho hg => execRoleDecision_claimed hd hc ht hw hp ho hg,
    fun _ _ x y hl ht => execFirmwareVerifyComplete_mayLoad x y hl ht,
    fun _ _ h ha => (execGddr7TrainingComplete_ok h rfl).trans (by rw [if_pos ha.symm]),
    fun _ _ h ha => (execGddr7TrainingComplete_ok h rfl).trans (by rw [if_neg (Ne.symm ha)]),
    fun _ _ _ _ h hb hv hr => execFwRecoveryStageWrite_accepted h hb hv hr,
    fun _ _ hr hm hv hc => execRecoveryCheckComplete_rejects hr hm hv hc,
    fun _ b h => execBootselChange_vaux3 b h⟩
end

section
/-! The low-speed lines of a port: FLTn, presence, the SPIN read-back, chatter and disagreement (R51, R60, R66-R76). -/

open Sys2Proof Sys2Proof.Machine

namespace Sys2Proof.Machine

variable {s t : State} {u : UnitId} {p : PortId}

/-! ### A filtered input that changes its level (R66, R72) -/

/-- The state of a port does not depend on its lines. -/
@[simp] theorem State.getPort_modLine (s : State) (k j : Nat) (f : LineSt → LineSt) : (s.modLine k f).getPort j = s.getPort j := rfl

/-- FLTn takes another level: the active unit acts on it (R68, R72). -/
theorem State.inputTo_fltn {b : Bool} (h : (s.getLine (sideKey u p)).flt.level ≠ b) :
    s.inputTo u p .fltn b =
      (let t := s.modLine (sideKey u p) (fun l => { l with flt := { l.flt with level := b, since := s.now } })
       if u ≠ s.pair.active then t else if b then t.fltOn p else t.fltOff p) := by
  simp only [State.inputTo, if_neg h, State.modLine_pair]

/-- PRSn asserted only starts the count of its presence (R74). -/
theorem State.inputTo_prsn_asserted (h : (s.getLine (sideKey u p)).prs.level = false) :
    s.inputTo u p .prsn true = s.modLine (sideKey u p) (fun l => { l with prs := { l.prs with level := true, since := s.now } }) := by
  simp [State.inputTo, h]

/-- PRSn deasserted on the active unit is the removal of the HDA (R72, R74). -/
theorem State.inputTo_prsn_deasserted (ha : u = s.pair.active) (h : (s.getLine (sideKey u p)).prs.level = true) :
    s.inputTo u p .prsn false =
      (s.modLine (sideKey u p) (fun l => { l with prs := { l.prs with level := false, since := s.now } })).removed p := by
  simp [State.inputTo, h, ← ha]

/-- From TRAINING on an asserted FLTn cuts the gates and stops media planning (R68). -/
theorem State.fltOn_ready (h : (s.getPort p).state = .ready) :
    s.fltOn p = (s.cutPort p).modPort p (fun q => { q with fltStop := true, codeRead := false }) := by
  simp [State.fltOn, h, PortState.inPower]

/-- A released FLTn starts the training of a POWERING port (R51, R69). -/
theorem State.fltOff_powering (h : (s.getPort p).state = .powering) : s.fltOff p = s.portTo p .training .stepComplete := by
  simp only [State.fltOff, h, if_true]

theorem State.isolate_inPower (h : (s.getPort p).state.inPower = true) :
    s.isolate p = (s.raise (.lines p) [.PORT_FLT_ISOLATED]).portFail p .fltIsolation := by
  simp only [State.isolate, h, if_true]

/-! ### FLTn (R68, R69) -/

theorem execFltnAsserted_rises (hc : (s.getLine (sideKey u p)).flt.chatter = false)
    (hl : (s.getLine (sideKey u p)).flt.level = false)
    (ht : t = (s.modLine (sideKey u p) (fun l => { l with flt := { l.flt with raw := true } })).modLine (sideKey u p)
      (fun l => { l with flt := { l.flt with level := true, since := s.now } })) :
    execFltnAsserted u p s = .next (if u ≠ s.pair.active then t else t.fltOn p).settle := by
  have h : ((s.modLine (sideKey u p) (fun l => { l with flt := { l.flt with raw := true } })).getLine (sideKey u p)).flt.level ≠ true := by
    simp [hl]
  simp only [execFltnAsserted, State.conclude, hc, Bool.false_eq_true, if_false, State.inputTo_fltn h, State.modLine_pair,
    State.modLine_now, if_true, ht]

theorem execFltnAsserted_ready (ha : u = s.pair.active) (hc : (s.getLine (sideKey u p)).flt.chatter = false)
    (hl : (s.getLine (sideKey u p)).flt.level = false) (hr : (s.getPort p).state = .ready)
    (ht : t = (s.modLine (sideKey u p) (fun l => { l with flt := { l.flt with raw := true } })).modLine (sideKey u p)
      (fun l => { l with flt := { l.flt with level := true, since := s.now } })) :
    execFltnAsserted u p s =
      .next ((t.cutPort p).modPort p (fun q => { q with fltStop := true, codeRead := false })).settle := by
  have hr' : (t.getPort p).state = .ready := by rw [ht]; exact hr
  rw [execFltnAsserted_rises hc hl ht, if_neg (not_not_intro ha), State.fltOn_ready hr']

/-- FLTn counts as asserted before its release (R69). -/
theorem execFltnReleased_falls (hc : (s.getLine (sideKey u p)).flt.chatter = false)
    (ht : t = (s.modLine (sideKey u p) (fun l => { l with flt := { l.flt with raw := false, level := true } })).modLine (sideKey u p)
      (fun l => { l with flt := { l.flt with level := false, since := s.now } })) :
    execFltnReleased u p s = .next (if u ≠ s.pair.active then t else t.fltOff p).settle := by
  have h : ((s.modLine (sideKey u p) (fun l => { l with flt := { l.flt with raw := false, level := true } })).getLine
      (sideKey u p)).flt.level ≠ false := by
    simp
  simp only [execFltnReleased, State.conclude, hc, Bool.false_eq_true, if_false, State.inputTo_fltn h, State.modLine_pair,
    State.modLine_now, ht]

theorem execFltnReleased_powering (ha : u = s.pair.active) (hc : (s.getLine (sideKey u p)).flt.chatter = false)
    (hp : (s.getPort p).state = .powering)
    (ht : t = (s.modLine (sideKey u p) (fun l => { l with flt := { l.flt with raw := false, level := true } })).modLine (sideKey u p)
      (fun l => { l with flt := { l.flt with level := false, since := s.now } })) :
    execFltnReleased u p s = .next (t.portTo p .training .stepComplete).settle := by
  have hp' : (t.getPort p).state = .powering := by rw [ht]; exact hp
  rw [execFltnReleased_falls hc ht, if_neg (not_not_intro ha), State.fltOff_powering hp']

theorem execFltnIsolation_due (hp : (s.getPort p).state.inPower = true) (hd : s.fltDue p = true) :
    execFltnIsolation p s = .next ((s.raise (.lines p) [.PORT_FLT_ISOLATED]).portFail p .fltIsolation).settle := by
  simp only [execFltnIsolation, State.conclude, hd, if_true, State.isolate_inPower hp]

theorem State.fltDue_powering (h : (s.getPort p).state = .powering) :
    s.fltDue p = decide ((s.getPort p).entryTime + 70000 ≤ s.now) := by
  simp only [State.fltDue, h, if_true]

theorem State.fltDue_of_ne_powering (h : (s.getPort p).state ≠ .powering) :
    s.fltDue p = ((s.getLine (sideKey s.pair.active p)).flt.level &&
      decide ((s.getLine (sideKey s.pair.active p)).flt.since + 50000 ≤ s.now)) := by
  simp only [State.fltDue, h, if_false]

/-! ### Presence and removal (R74, R76) -/

theorem execPrsnAsserted_rises (hc : (s.getLine (sideKey u p)).prs.chatter = false)
    (hl : (s.getLine (sideKey u p)).prs.level = false) :
    execPrsnAsserted u p s =
      .next (((s.modLine (sideKey u p) (fun l => { l with prs := { l.prs with raw := true } })).modLine (sideKey u p)
        (fun l => { l with prs := { l.prs with level := true, since := s.now } })).settle) := by
  have h : ((s.modLine (sideKey u p) (fun l => { l with prs := { l.prs with raw := true } })).getLine (sideKey u p)).prs.level = false := by
    rw [State.getLine_modLine, hl]
  simp only [execPrsnAsserted, State.conclude, hc, Bool.false_eq_true, if_false, State.inputTo_prsn_asserted h, State.modLine_now]

theorem execPrsnDeasserted_falls (ha : u = s.pair.active) (hc : (s.getLine (sideKey u p)).prs.chatter = false)
    (hl : (s.getLine (sideKey u p)).prs.level = true) :
    execPrsnDeasserted u p s =
      .next (((s.modLine (sideKey u p) (fun l => { l with prs := { l.prs with raw := false } })).modLine (sideKey u p)
        (fun l => { l with prs := { l.prs with level := false, since := s.now } })).removed p).settle := by
  have h : ((s.modLine (sideKey u p) (fun l => { l with prs := { l.prs with raw := false } })).getLine (sideKey u p)).prs.level = true := by
    rw [State.getLine_modLine, hl]
  have ha' : u = (s.modLine (sideKey u p) (fun l => { l with prs := { l.prs with raw := false } })).pair.active := ha
  simp only [execPrsnDeasserted, State.conclude, hc, Bool.false_eq_true, if_false, State.inputTo_prsn_deasserted ha' h, State.modLine_now]

/-- Presence of an EMPTY port: PRESENT, and then the state that PERSIST_STATE holds (R76). -/
theorem execPresenceConfirmed_empty (he : (s.getPort p).state = .empty)
    (hl : (s.getLine (sideKey s.pair.active p)).prs.level = true) (hm : s.mode.cur ≠ .unpowered)
    (ht : t = (s.portTo p .present .presence).modPort p (fun q => { q with confirmed := true })) :
    execPresenceConfirmed p s =
      .next (if s.rd (Obj.PERSIST_STATE p) = 0x09 then t.portTo p .offline .powerApplied
        else if s.rd (Obj.PERSIST_STATE p) = 0x0A then t.portTo p .failed .powerApplied
        else t).settle := by
  simp [execPresenceConfirmed, State.conclude, he, hl, hm, ht]

/-- What the removed HDA's channels held is forgotten; the state of the port is not theirs (R74, R520). -/
theorem State.removed_ready (h : (s.getPort p).state = .ready) :
    s.removed p =
      ((((s.forEach [0, 1] (fun s a => s.modChan (chanKey p a) (fun c =>
        { c with sys := [], void := [], headFails := [], degraded := [] }))).cutPort p).raise (.lines p)
          [.PORT_HDA_REMOVED]).portTo p .empty .removed) := by
  have hp : ((s.forEach [0, 1] (fun s a => s.modChan (chanKey p a) (fun c =>
      { c with sys := [], void := [], headFails := [], degraded := [] }))).getPort p).state = .ready := h
  simp only [State.removed, hp]

/-! ### The SPIN read-back, chatter and disagreement (R60, R67, R72) -/

theorem execSpinMismatch_differs {r : Option SpinCode} (ha : u = s.pair.active)
    (hr : r ≠ some (s.getLine (sideKey u p)).driven) :
    execSpinMismatch u p r s =
      .next (((s.modLine (sideKey u p) (fun l => { l with readback := r })).raise (.lines p) [.PORT_SPIN_MISMATCH]).portFail p
        .spinMismatch).settle := by
  simp [execSpinMismatch, State.conclude, ← ha, hr]

theorem execRawEdge_chattering {i : LineInput} (b : Bool) (hc : ((s.getLine (sideKey u p)).filt i).chatter = true) :
    execRawEdge u p i b s =
      .next (s.modLine (sideKey u p) (fun l => l.modFilt i (fun f => { f with
        raw := b
        edges := ((s.now :: ((s.getLine (sideKey u p)).filt i).edges).filter (fun t => decide (s.now < t + 64))).take 9 }))).settle := by
  simp only [execRawEdge, State.conclude, hc, Bool.true_or, if_true]

/-- The ninth edge in 64 µs: the input chatters and counts as asserted (R67). -/
theorem execRawEdge_ninth {i : LineInput} (b : Bool) (hc : ((s.getLine (sideKey u p)).filt i).chatter = false)
    (hn : 9 ≤ ((s.now :: ((s.getLine (sideKey u p)).filt i).edges).filter (fun t => decide (s.now < t + 64))).length)
    (ht : t = ((s.modLine (sideKey u p) (fun l => l.modFilt i (fun f => { f with
      raw := b
      edges := ((s.now :: ((s.getLine (sideKey u p)).filt i).edges).filter (fun t => decide (s.now < t + 64))).take 9 }))).modLine (sideKey u p)
      (fun l => l.modFilt i (fun f => { f with chatter := true }))).inc (Obj.CHATTER_COUNT u p)) :
    execRawEdge u p i b s =
      .next ((if u = s.pair.active then t.raise (.lines p) [.PORT_CHATTER] else t).inputTo u p i true).settle := by
  have hg : ¬ (((s.getLine (sideKey u p)).filt i).chatter || decide (((s.now :: ((s.getLine (sideKey u p)).filt i).edges).filter
      (fun t => decide (s.now < t + 64))).length < 9)) = true := by
    rw [hc, decide_eq_false (Nat.not_lt.mpr hn)]
    decide
  subst ht
  exact congrArg State.conclude (if_neg hg)

/-- The raw level counts again (R67). -/
theorem execChatterExit_chattering {i : LineInput} (hc : ((s.getLine (sideKey u p)).filt i).chatter = true) :
    execChatterExit u p i s =
      .next ((s.modLine (sideKey u p) (fun l => l.modFilt i (fun f => { f with chatter := false }))).inputTo u p i
        ((s.getLine (sideKey u p)).filt i).raw).settle := by
  simp only [execChatterExit, State.conclude, hc, Bool.not_true, Bool.false_eq_true, if_false]

theorem execLineDisagree_fltn (hA : (s.unitSt .A).present = true) (hB : (s.unitSt .B).present = true)
    (h : (s.getLine (sideKey .A p)).flt.level ≠ (s.getLine (sideKey .B p)).flt.level) :
    execLineDisagree p s = .next (s.raise (.lines p) [.PORT_LINE_DISAGREE]).settle := by
  simp [execLineDisagree, State.conclude, hA, hB, h]

end Sys2Proof.Machine

/-- Settles O13: each line by the input's filter and the unit that sees it; only what the active unit sees reaches the port.
The chatter window without its oldest instant and presence confirmed in every mode with power are the model's choices (log entries 109
and 223). -/
theorem portLines : Obligations.PortLines := by
  unfold Obligations.PortLines
  exact ⟨
    fun _ _ _ ha hc hl hr => execFltnAsserted_ready ha hc hl hr rfl,
    fun _ _ _ ha hc hl => (execFltnAsserted_rises hc hl rfl).trans (by rw [if_pos ha]),
    fun _ _ _ ha hc hp => execFltnReleased_powering ha hc hp rfl,
    fun _ _ _ ha hc => (execFltnReleased_falls hc rfl).trans (by rw [if_pos ha]),
    fun _ _ hp hd => execFltnIsolation_due hp hd,
    fun _ _ h => State.fltDue_powering h,
    fun _ _ h => State.fltDue_of_ne_powering h,
    fun _ _ _ hc hl => execPrsnAsserted_rises hc hl,
    fun _ _ he hl hm hn => (execPresenceConfirmed_empty he hl hm rfl).trans (by simp [hn]),
    fun _ _ he hl hm hn => (execPresenceConfirmed_empty he hl hm rfl).trans (by rw [if_pos hn]),
    fun _ _ _ _ ha hc hl ht => (execPrsnDeasserted_falls ha hc hl).trans (by rw [ht]),
    fun _ _ _ h ht => (State.removed_ready h).trans (by rw [ht]),
    fun _ _ _ _ ha hr => execSpinMismatch_differs ha hr,
    fun _ _ _ _ b hc => execRawEdge_chattering b hc,
    fun _ _ _ _ b _ hc hn ht => execRawEdge_ninth b hc hn ht,
    fun _ _ _ _ hc => execChatterExit_chattering hc,
    fun _ _ hA hB h => execLineDisagree_fltn hA hB h⟩
end

section
/-! The commands of a port: OFFLINE, ONLINE and RETRY (R74, R75, R617). -/

open Sys2Proof Sys2Proof.Machine

namespace Sys2Proof.Machine

variable {s t : State} {q : Requester} {u : UnitId} {p : PortId}

/-- PORT_COMMAND is subindex 01h of its port. -/
theorem keySub_portCommand (p : PortId) : keySub (Obj.PORT_COMMAND p) = 1 := by
  unfold keySub Obj.PORT_COMMAND
  omega

/-- A write that passes the checks of R561 and not the object's own rule is refused with that rule's code. -/
theorem tryKey_refused {k own : Nat} {d : List Byte} (f : State → State) (h : s.Accepts q u k d) (ho : own ≠ 0) :
    s.tryKey q u k d own f = s.answer q own := by
  obtain ⟨hm, he⟩ := h
  simp only [State.tryKey, State.tryWrite, hold_now _ _ hm, he, ne_eq, not_true_eq_false, if_false, ho, not_false_eq_true, if_true]

/-- A command with a row from the port's state is acted on at once (R74). -/
theorem State.portWrite_row {v : Nat} (h : s.Accepts q u (Obj.PORT_COMMAND p) [BitVec.ofNat 8 v])
    (hm : (s.getPort p).state.moving = false) (hr : s.portCommand p v = some t) : s.portWrite q u p v = t.answer q 0 := by
  simp only [State.portWrite, hm, hr, Bool.not_false, Option.isNone_some, Bool.and_false, Bool.false_eq_true, if_false]
  rw [tryKey_accepted _ h]
  simp only [hr]

/-- A command of a port in a transition is stored (R75). -/
theorem State.portWrite_moving {v : Nat} (h : s.Accepts q u (Obj.PORT_COMMAND p) [BitVec.ofNat 8 v])
    (hm : (s.getPort p).state.moving = true) :
    s.portWrite q u p v = (s.modPort p (fun r => { r with heldCmd := some v })).answer q 0 := by
  simp only [State.portWrite, hm, Bool.not_true, Bool.false_and, Bool.false_eq_true, if_false, if_true]
  rw [tryKey_accepted _ h]

/-- OFFLINE from any state but PRESENT is a command as the others are. -/
theorem execOffline_of_ne_present (hm : s.mode.cur ≠ .switchover) (hp : (s.getPort p).state ≠ .present) :
    execOffline q u p s = .next (s.portWrite q u p 1).settle := by
  simp only [execOffline, State.conclude, hold_now _ _ hm, hp, decide_false, Bool.false_eq_true, if_false]

/-- OFFLINE from PRESENT ends an ONLINE request and is refused (R617). -/
theorem execOffline_present (h : s.Accepts q u (Obj.PORT_COMMAND p) [1]) (hp : (s.getPort p).state = .present) :
    execOffline q u p s = .next ((s.answer q 0x09).modPort p (fun r => { r with online := false })).settle := by
  have he := h.2
  rw [keySub_portCommand] at he
  simp only [execOffline, State.conclude, hold_now _ _ h.1, hp, decide_true, if_true, he]
  rw [tryKey_refused _ h (by decide)]

theorem execOffline_ready (h : s.Accepts q u (Obj.PORT_COMMAND p) [1]) (hp : (s.getPort p).state = .ready) :
    execOffline q u p s = .next ((s.portMove p .spinningDown .portCommand).answer q 0).settle := by
  have hr : s.portCommand p 1 = some (s.portMove p .spinningDown .portCommand) := by simp only [State.portCommand, hp]
  rw [execOffline_of_ne_present h.1 (by simp [hp]), State.portWrite_row h (by simp [hp, PortState.moving]) hr]

theorem execOnline_offline (h : s.Accepts q u (Obj.PORT_COMMAND p) [2]) (hp : (s.getPort p).state = .offline) :
    execOnline q u p s =
      .next (((s.portMove p .present .portCommand).modPort p (fun q => { q with online := true })).answer q 0).settle := by
  have hr : s.portCommand p 2 = some ((s.portMove p .present .portCommand).modPort p (fun q => { q with online := true })) := by
    simp only [State.portCommand, hp]
  rw [execOnline, State.conclude, State.portWrite_row h (by simp [hp, PortState.moving]) hr]

theorem execOnline_training (h : s.Accepts q u (Obj.PORT_COMMAND p) [2]) (hp : (s.getPort p).state = .training) :
    execOnline q u p s = .next ((s.modPort p (fun r => { r with heldCmd := some 2 })).answer q 0).settle := by
  rw [execOnline, State.conclude, State.portWrite_moving h (by simp [hp, PortState.moving])]

theorem execRetry_failed (h : s.Accepts q u (Obj.PORT_COMMAND p) [3]) (hp : (s.getPort p).state = .failed) :
    execRetry q u p s = .next ((s.portMove p .present .portCommand).answer q 0).settle := by
  have hr : s.portCommand p 3 = some (s.portMove p .present .portCommand) := by simp only [State.portCommand, hp]
  rw [execRetry, State.conclude, State.portWrite_row h (by simp [hp, PortState.moving]) hr]

end Sys2Proof.Machine

/-- Settles O15: a command is acted on by the row of the port's state, or stored during a transition; OFFLINE from PRESENT is the one
that is refused and still has an effect. -/
theorem portCommands : Obligations.PortCommands := by
  unfold Obligations.PortCommands
  exact ⟨
    fun _ _ _ _ h hp => execOffline_ready h hp,
    fun _ _ _ _ h hp => execOffline_present h hp,
    fun _ _ _ _ h hp => execOnline_offline h hp,
    fun _ _ _ _ h hp => execOnline_training h hp,
    fun _ _ _ _ h hp => execRetry_failed h hp⟩
end

section
/-! The lanes of a port and its clock track: training, failures and retraining, windows, frames and telemetry headers (R42, R48-R54,
R65, R68, R70-R72, R131). -/

open Sys2Proof Sys2Proof.Machine

namespace Sys2Proof.Machine

variable {s t : State} {u : UnitId} {p : PortId}

/-! ### Training (R51-R53) -/

/-- A side that has completed step `n` of its training: the next one begins now. -/
def State.stepDone (s : State) (u : UnitId) (p n : Nat) : State :=
  s.modLine (sideKey u p) (fun l => { l with trainStep := n, trainAt := s.now })

@[simp] theorem State.stepDone_pair (s : State) (u : UnitId) (p n : Nat) : (s.stepDone u p n).pair = s.pair := rfl

/-- Step 1, the motor lane: it may be the PN2's first lane reference, and TOKEN may rise (R50, R65). -/
theorem execLaneTrainingStep_motorLane (h : s.trains u p = true) (hn : (s.getLine (sideKey u p)).trainStep = 0)
    (ht : t = s.stepDone u p 1) :
    execLaneTrainingStep u p .plain s =
      .next (if u = s.pair.active then (t.modPn2 p (fun q => { q with firstLane := some (q.firstLane.getD u) })).tokenTry p
        else t.modPn2 p (fun q => { q with firstLane := some (q.firstLane.getD u) })).settle := by
  simp [execLaneTrainingStep, State.conclude, State.stepDone, h, hn, ht]

/-- Step 2, the identity of the HDA, taken on the side of the active unit (R42). -/
theorem execLaneTrainingStep_identity (i : HdaIdentity) (h : s.trains u p = true)
    (hn : (s.getLine (sideKey u p)).trainStep = 1) (ha : u = s.pair.active) (ht : t = s.stepDone u p 2) :
    execLaneTrainingStep u p (.identity i) s = .next (t.takeIdentity p i).settle := by
  simp [execLaneTrainingStep, State.conclude, State.stepDone, h, hn, ht, ← ha]

/-- Step 5, the skew: at most 32 blocks (R52). -/
theorem execLaneTrainingStep_skew {b : Nat} (h : s.trains u p = true) (hn : (s.getLine (sideKey u p)).trainStep = 4)
    (ht : t = s.stepDone u p 5) :
    execLaneTrainingStep u p (.skew b) s =
      .next (if 32 < b then t.trainFail u p else if u = s.pair.active then t.wr (Obj.DESKEW_MAX p) b else t).settle := by
  simp [execLaneTrainingStep, State.conclude, State.stepDone, h, hn, ht]

/-- Step 6 waits for the write lock of every actuator (R51). -/
theorem execLaneTrainingStep_writeLock (h : s.trains u p = true) (hn : (s.getLine (sideKey u p)).trainStep = 5)
    (hw : (List.range (s.rd (Obj.ACTUATOR_COUNT p))).all (fun a => (s.getSrv (chanKey p a)).wrLock) = true)
    (ht : t = s.stepDone u p 6) : execLaneTrainingStep u p .plain s = .next t.settle := by
  simp only [execLaneTrainingStep, State.conclude, State.stepDone, h, hn, ht, hw, Bool.not_true, Bool.false_eq_true, if_false, if_true]

/-- Step 7 puts the side's lanes in service; that of the active unit links the port (R51, R74). -/
theorem execLaneTrainingStep_last (h : s.trains u p = true) (hn : (s.getLine (sideKey u p)).trainStep = 6)
    (ht : t = s.stepDone u p 7) :
    execLaneTrainingStep u p .plain s = .next (if u = s.pair.active then t.trained p else t.lanesIn u p).settle := by
  simp [execLaneTrainingStep, State.conclude, State.stepDone, h, hn, ht]

/-- A training that fails for the first time starts over, TOKEN low (R53). -/
theorem State.trainFail_first (h : (s.getLine (sideKey u p)).retried = false) :
    s.trainFail u p =
      (s.modLine (sideKey u p) (fun l => { l with retried := true, trainStep := 0, trainAt := s.now })).tokenLow u p := by
  simp only [State.trainFail, h, Bool.false_eq_true, if_false]

/-- The second failure on the side of the active unit fails the port (R53). -/
theorem State.trainFail_again (h : (s.getLine (sideKey u p)).retried = true) (ha : u = s.pair.active) :
    s.trainFail u p = (s.raise (.lines p) [.PORT_LANE_FAILED]).portFail p .laneFailure := by
  simp only [State.trainFail, h, if_true, if_pos ha]

theorem execLaneTrainingTimeout_overrun (h : s.trains u p = true)
    (ho : (s.getLine (sideKey u p)).trainAt + trainBound ((s.getLine (sideKey u p)).trainStep + 1) < s.now) :
    execLaneTrainingTimeout u p s = .next (s.trainFail u p).settle := by
  simp only [execLaneTrainingTimeout, State.conclude, h, ho, decide_true, Bool.and_self, if_true]

/-! ### Lanes in service (R54) -/

theorem execLaneFail_up {l : Fin 16} (b : Bool) (e : BitVec 32) (h : s.laneUpOn u p l = true) :
    execLaneFail u p l b e s =
      .next (if b || decide ((s.countErrs u p l e.toNat).rd (Obj.LANE_ERR_LIMIT p) <
          ((s.countErrs u p l e.toNat).getLine (sideKey u p)).errs l)
        then (s.countErrs u p l e.toNat).laneFail u p l else s.countErrs u p l e.toNat).settle := by
  simp only [execLaneFail, State.conclude, h, Bool.not_true, Bool.false_eq_true, if_false]

/-- The saving of a persistent value does not touch what the units share. -/
@[simp] theorem State.stage_pair (s : State) (k : Nat) : (s.stage k).pair = s.pair := by
  unfold State.stage
  cases keyUnit k <;> rfl

@[simp] theorem State.incSave_pair (s : State) (k : Nat) : (s.incSave k).pair = s.pair := by
  unfold State.incSave
  split
  · split
    · rw [State.stage_pair, State.inc_pair]
    · exact s.inc_pair k
  · exact s.inc_pair k

@[simp] theorem State.setBit_pair (s : State) (k i : Nat) (b : Bool) : (s.setBit k i b).pair = s.pair := by
  cases b <;> rfl

/-- A retrained lane is in service again and counted (R54). -/
def State.laneBack (s : State) (u : UnitId) (p n : Nat) : State :=
  ((s.modLine (sideKey u p) (fun q => { q with retraining := q.retraining.filter (· != n) })).setBit
    (Obj.LANES_IN_SERVICE u p) n true).incSave (Obj.RETRAIN_COUNT p)

@[simp] theorem State.laneBack_pair (s : State) (u : UnitId) (p n : Nat) : (s.laneBack u p n).pair = s.pair := by
  simp [State.laneBack]

/-- Without the active unit's motor lane nothing more follows from a lane that is back. -/
theorem execLaneRetrainComplete_other {l : Fin 16} (h : (s.getLine (sideKey u p)).retraining.contains l.val = true)
    (hl : l.val ≠ 15 ∨ u ≠ s.pair.active) : execLaneRetrainComplete u p l s = .next (s.laneBack u p l).settle := by
  have ho : (decide (l.val ≠ 15) || decide (u ≠ (s.laneBack u p l).pair.active)) = true := by simpa using hl
  unfold execLaneRetrainComplete
  rw [h]
  exact congrArg State.conclude (if_pos ho)

/-- With the active unit's motor lane TOKEN may rise, and a driven spindle is caught again (R65, R269). -/
theorem execLaneRetrainComplete_motorLane (h : (s.getLine (sideKey u p)).retraining.contains 15 = true)
    (ha : u = s.pair.active) (ht : t = (s.laneBack u p 15).tokenTry p) :
    execLaneRetrainComplete u p 15 s =
      .next (if (t.getSpd p).st.driven || (t.getSpd p).st = .recatch then t.recatchEnter p else t).settle := by
  have ha' : u = (s.laneBack u p 15).pair.active := by rw [State.laneBack_pair]; exact ha
  have ho : ¬ (decide ((15 : Fin 16).val ≠ 15) || decide (u ≠ (s.laneBack u p 15).pair.active)) = true := fun h =>
    ((Bool.or_eq_true _ _).mp h).elim (fun h => of_decide_eq_true h rfl) (fun h => of_decide_eq_true h ha')
  subst ht
  unfold execLaneRetrainComplete
  rw [show (s.getLine (sideKey u p)).retraining.contains (15 : Fin 16).val = true from h]
  exact congrArg State.conclude (if_neg ho)

/-! ### The clock track (R49, R70-R72, R131) -/

/-- The standby's count is the speed of its shadow (R72, R273). -/
theorem execCtWindow_standby (n : BitVec 16) (hu : u ≠ s.pair.active) (hp : (s.getPort p).state.inPower = true)
    (hl : s.rd (Obj.LANES_IN_SERVICE u p) ≠ 0) :
    execCtWindow u p n false s =
      (let t := s.modLine (sideKey u p) (fun l => l.ctCount s.now n.toNat (s.rd (Obj.CT_CYCLES_PER_REV p)) false
         ((s.getSpd p).st.onTrack || (s.getSpd p).st == .bemfHold) (ctWithin n.toNat (s.ctExpect p) (s.rd (Obj.CT_CYCLES_PER_REV p))))
       .next (t.putSpdShadow p { t.getSpdShadow p with ctSpeed := ctSpeedOf n.toNat (s.rd (Obj.CT_CYCLES_PER_REV p)) }).settle) := by
  simp [execCtWindow, State.conclude, hp, hl, hu]

variable {l : LineSt}

theorem LineSt.ctCount_within (now n c : Nat) (h : l.ct ≠ .lost) :
    l.ctCount now n c false true true = { l with ctBad := 0, ct := .inTolerance } := by
  simp [LineSt.ctCount, h]

/-- The second window in a row out of tolerance loses the track (R70). -/
theorem LineSt.ctCount_outside (now n c : Nat) (h : l.ct ≠ .lost) (hb : 1 ≤ l.ctBad) :
    l.ctCount now n c false true false = l.ctLose now := by
  have h2 : 2 ≤ l.ctBad + 1 := by omega
  simp [LineSt.ctCount, h, h2]

theorem execCtTimeout_lost (hl : (s.getLine (sideKey s.pair.active p)).ct = .lost)
    (ht : (s.getLine (sideKey s.pair.active p)).ctSince + 3000000 ≤ s.now) (hp : (s.getPort p).state.inPower = true) :
    execCtTimeout p s = .next ((s.raise (.lines p) [.PORT_CT_FAILED]).portFail p .ctNotRestored).settle := by
  simp [execCtTimeout, State.conclude, hl, ht, hp]

theorem execClockTrackFrame_active (c i j : Word) (f : BitVec 16) (b : Bool) (ha : u = s.pair.active)
    (hl : s.laneUpOn u p 14 = true) :
    execClockTrackFrame u p c i j f b s =
      .next (((s.modLine (sideKey u p) (fun l => { l with synPhase := f.toNat, synLock := b })).modChan (chanKey p 0)
        (fun d => { d with ctCycles := c.toNat, ctIndex := i, sidx := i })).modChan (chanKey p 1)
        (fun d => { d with ctCycles := c.toNat, ctIndex := j, sidx := j })).settle := by
  simp only [execClockTrackFrame, State.conclude, hl, Bool.not_true, Bool.false_eq_true, if_false, State.modLine_pair, ← ha, ne_eq,
    not_true_eq_false]

/-- A header on the active unit's side: OBEY, and the fault code that is due to be read (R65, R68). -/
theorem execTelemetryFrame_reads (o : Obey) (f : BitVec 16) (n : BitVec 8) (hm : s.motorUp u p = true) (ha : u = s.pair.active)
    (hc : (s.getPort p).codeRead = false) :
    execTelemetryFrame u p o f n s =
      .next (((s.modLine (sideKey u p) (fun l => { l with
        obey := o, obeyRun := if decide (o = .none) || decide (o = .side u) then l.obeyRun + 1 else 0
        faultCode := f.toNat, frame := n.toNat })).readCode p f.toNat).claim p).settle := by
  simp only [execTelemetryFrame, State.conclude, hm, Bool.not_true, Bool.false_eq_true, if_false, State.modLine_pair, ← ha, ne_eq,
    not_true_eq_false, State.getPort_modLine, hc]

end Sys2Proof.Machine

/-- Settles O14: each step of a training by the step that its side has reached, and its two failures; a lane by its side; a window by
what the side has counted before it. -/
theorem portLanesAndClockTrack : Obligations.PortLanesAndClockTrack := by
  unfold Obligations.PortLanesAndClockTrack
  exact ⟨
    fun _ _ _ _ h hn ht => execLaneTrainingStep_motorLane h hn ht,
    fun _ _ _ _ i h hn ha ht => execLaneTrainingStep_identity i h hn ha ht,
    fun _ _ _ _ _ h hn hb ht => (execLaneTrainingStep_skew h hn ht).trans (by rw [if_neg (Nat.not_lt.mpr hb)]),
    fun _ _ _ _ _ h hn hb ht => (execLaneTrainingStep_skew h hn ht).trans (by rw [if_pos hb]),
    fun _ _ _ _ h hn hw ht => execLaneTrainingStep_writeLock h hn hw ht,
    fun _ _ _ _ h hn ht => execLaneTrainingStep_last h hn ht,
    fun _ _ _ h ho hr => (execLaneTrainingTimeout_overrun h ho).trans (by rw [State.trainFail_first hr]),
    fun _ _ _ h ho hr ha => (execLaneTrainingTimeout_overrun h ho).trans (by rw [State.trainFail_again hr ha]),
    fun _ _ _ _ b e h => execLaneFail_up b e h,
    fun _ _ _ _ h hl => execLaneRetrainComplete_other h hl,
    fun _ _ _ _ h ha ht => execLaneRetrainComplete_motorLane h ha ht,
    fun _ _ _ n hu hp hl => execCtWindow_standby n hu hp hl,
    fun _ _ _ _ _ _ h hw => by rw [hw, LineSt.ctCount_within _ _ _ h],
    fun _ _ _ _ _ _ h hb hw => by rw [hw, LineSt.ctCount_outside _ _ _ h hb],
    fun _ _ hl ht hp => execCtTimeout_lost hl ht hp,
    fun _ _ _ c i j f b ha hl => execClockTrackFrame_active c i j f b ha hl,
    fun _ _ _ o f n hm ha hc => execTelemetryFrame_reads o f n hm ha hc⟩
end

section
/-! The PN2 of a port: SPIN, TOKEN, write current, command slots, the servo window and motor blocks (R46, R47, R58, R59, R64, R234,
R238, R239, R251). -/

open Sys2Proof Sys2Proof.Machine

namespace Sys2Proof.Machine

variable {s : State} {p : PortId} {a : ActId} {u : UnitId}

/-! ### SPIN and TOKEN (R46, R58, R59, R64) -/

/-- The code acted on is that of the obeyed side, retract-then-brake for a waveform of no row (R58). -/
theorem Pn2St.action_sideA {q : Pn2St} (h : q.obey = .side .A) : q.action = q.spinA.getD .retractBrake := by
  simp only [Pn2St.action, h]

/-- PARKED is the actuator's, not the PN2's. -/
@[simp] theorem State.parked_modPn2 (s : State) (k p a : Nat) (f : Pn2St → Pn2St) : (s.modPn2 k f).parked p a = s.parked p a := rfl

/-- Nothing follows from a code that leaves the code acted on (R58). -/
theorem State.pn2Spin_same {old : SpinCode} (h : (s.getPn2 p).action = old) : s.pn2Spin p old = s := by
  simp only [State.pn2Spin, h, if_true]

/-- A change to retract-then-brake brakes the windings and retracts both actuators (R58, R239). -/
theorem State.pn2Spin_retractBrake {old : SpinCode} (h : (s.getPn2 p).action = .retractBrake) (ho : old ≠ .retractBrake) :
    s.pn2Spin p old = s.modPn2 p (fun q => { q with
      bridge := .shortBrake, duty := 0
      act0 := q.act0.retract (s.parked p 0), act1 := q.act1.retract (s.parked p 1) }) := by
  simp only [State.pn2Spin, h, if_neg (Ne.symm ho)]

/-- What the obeyed side carries in place of follow, when it means retract-then-brake (R58). -/
theorem State.pn2Code_retractBrake {c : Option SpinCode} (ho : (s.getPn2 p).obey = .side .A)
    (hf : (s.getPn2 p).spinA = some .follow) (hc : c.getD .retractBrake = .retractBrake) :
    s.pn2Code p .A c =
      (s.modPn2 p (fun q => { q with spinA := c })).modPn2 p (fun q => { q with
        bridge := .shortBrake, duty := 0
        act0 := q.act0.retract (s.parked p 0), act1 := q.act1.retract (s.parked p 1) }) := by
  have hold : (s.getPn2 p).action = .follow := by simp [Pn2St.action_sideA ho, hf]
  have hnew : ((s.modPn2 p (fun q => { q with spinA := c })).getPn2 p).action = .retractBrake := by
    rw [State.getPn2_modPn2]
    exact (Pn2St.action_sideA (q := { s.getPn2 p with spinA := c }) ho).trans hc
  simp only [State.pn2Code, hold]
  rw [State.pn2Spin_retractBrake hnew (by decide), State.parked_modPn2, State.parked_modPn2]

/-- A change of side A's TOKEN line turns write current off (R46, R64). -/
theorem execPn2TokenAccept_changed (h : (s.getPn2 p).tokA ≠ (s.getLine (sideKey .A p)).token) :
    execPn2TokenAccept p .A s =
      .next ((s.modPn2 p (fun q => { q with
        tokA := (s.getLine (sideKey .A p)).token, act0 := { q.act0 with gate := false }, act1 := { q.act1 with gate := false } })).pn2Spin p
          (s.getPn2 p).action) := by
  simp [execPn2TokenAccept, h]

/-! ### Write current (R46, R132, R138, R238) -/

theorem execPn2WriteGateOn_starts {w : BitVec 64} {l : List Bool} {r : List WriteItem} {b : ControlBlock}
    (ho : (s.getPn2 p).obey = .side u) (hu : u = s.pair.active) (hl : s.laneUpOn u p (8 + a) = true)
    (hh : ((s.getPn2 p).act a).holding = false) (hr : ((s.getPn2 p).act a).retracted = false)
    (hw : (s.getChan (chanKey p a)).wrOut = .gate w :: .bits l :: r) (hb : controlBlock w = some b) :
    execPn2WriteGateOn p a u s =
      .next (s.modPn2 p (fun q => q.modAct a (fun x => { x with gate := true, gateAt := b.sampleIndex, flux := fluxOf x.precomp l }))) := by
  have hg : ¬ ((s.getPn2 p).obey ≠ .side u ∨ u ≠ s.pair.active ∨ !s.laneUpOn u p (8 + a) ∨ ((s.getPn2 p).act a).holding ∨
      ((s.getPn2 p).act a).retracted) := by
    simp [ho, hl, hh, hr, ← hu]
  simp only [execPn2WriteGateOn, if_neg hg, hw, hb]

/-! ### Command slots and the servo window (R47, R234, R238, R239) -/

/-- A slot of the obeyed side, by the check of its loop command block; the good register blocks after it are taken either way (R234,
R238). -/
theorem execPn2CommandSlot_obeyed {e l : List (BitVec 64)} {w : BitVec 64} (ho : (s.getPn2 p).obey = .side u)
    (hl : s.laneUpOn u p (12 + a) = true) (hw : (s.slotWords p a).zipIdx.map (fun x => x.1 ^^^ e.getD x.2 0) = w :: l) :
    execPn2CommandSlot p a (some u) e s =
      .next (s.modPn2 p (fun q => q.modAct a (fun x =>
        (match loopBlock w with
          | some b => (x.selects b.head).apply b (s.parked p a)
          | none => x.miss (s.parked p a)).registers (l.filterMap registerBlock)))) := by
  cases hb : loopBlock w <;> simp only [execPn2CommandSlot, ho, hl, hw, hb, decide_true, Bool.and_self]

/-- The window commanded by the obeyed side opens (R47). -/
theorem execPn2ServoWindow_obeyed (w : Word) (ho : (s.getPn2 p).obey = .side u) :
    execPn2ServoWindow p a w s =
      .next (s.modPn2 p (fun r => r.modAct a (fun x => if x.winLen = 0 then x else { x with opened := some x.winStart }))) := by
  simp only [execPn2ServoWindow, ho]

/-! ### Motor blocks (R251) -/

theorem execPn2MotorBlockApply_obeyed {e : BitVec 64} {m : MotorCmd} (ho : (s.getPn2 p).obey = .side u)
    (hf : (s.getPn2 p).action = .follow) (hl : s.laneUpOn u p 15 = true) (hm : motorBlock ((s.getSpd p).sent.word ^^^ e) = some m) :
    execPn2MotorBlockApply p (some u) e s =
      .next (s.modPn2 p (fun q => { q with bridge := m.bridge, duty := m.duty, noBlock := 0 })) := by
  simp only [execPn2MotorBlockApply, ho, hf, hl, hm, ne_eq, not_true_eq_false, if_false, decide_true, Bool.and_self]

/-- A slot without a block is counted, and the third coasts (R251). -/
theorem execPn2MotorBlockApply_none (e : BitVec 64) (hf : (s.getPn2 p).action = .follow) :
    execPn2MotorBlockApply p none e s =
      .next (s.modPn2 p (fun q => if 2 < q.noBlock + 1 then { q with bridge := .coast, duty := 0, noBlock := q.noBlock + 1 }
        else { q with noBlock := q.noBlock + 1 })) := by
  simp only [execPn2MotorBlockApply, hf, ne_eq, not_true_eq_false, if_false]

end Sys2Proof.Machine

/-- Settles O16: each line by the side that the PN2 obeys and the code it acts on; what ends write current or misses a slot needs no
side. -/
theorem pn2Obedience : Obligations.Pn2Obedience := by
  unfold Obligations.Pn2Obedience
  exact ⟨
    fun _ _ ho hf => next_congr (State.pn2Code_retractBrake ho hf rfl),
    fun _ _ _ _ h => next_congr (State.pn2Spin_same h),
    fun _ _ ho hf => next_congr (State.pn2Code_retractBrake ho hf rfl),
    fun _ _ h => execPn2TokenAccept_changed h,
    fun _ _ _ _ _ _ _ _ ho hu hl hh hr hw hb => execPn2WriteGateOn_starts ho hu hl hh hr hw hb,
    fun _ _ _ => rfl,
    fun _ _ _ => rfl,
    fun _ _ _ _ _ _ _ _ ho hl hw hb => (execPn2CommandSlot_obeyed ho hl hw).trans (by rw [hb]),
    fun _ _ _ _ _ _ _ ho hl hw hb => (execPn2CommandSlot_obeyed ho hl hw).trans (by rw [hb]),
    fun _ _ _ _ => rfl,
    fun _ _ _ _ w ho => execPn2ServoWindow_obeyed w ho,
    fun _ _ _ _ _ ho hf hl hm => execPn2MotorBlockApply_obeyed ho hf hl hm,
    fun _ _ e hf _ => execPn2MotorBlockApply_none e hf⟩
end

section
/-! A unit let out of reset, PAIR_COMMAND, warm restarts, the steps of an activation and the mirror link (R63, R467-R472, R480-R486). -/

open Sys2Proof Sys2Proof.Machine

namespace Sys2Proof.Machine

variable {s t : State} {q : Requester} {u : UnitId}

/-! ### Rejoining (R480, R482) -/

/-- A unit released 10 ms ago, but not by plan, is let back unless it was released too often or AUTO_REJOIN is 0 (R480, R482). -/
theorem execRejoinResetRelease_due {n : Nat} (hr : (s.unitSt u).releasedAt = some n) (ht : n + 10000 ≤ s.now)
    (hp : (s.unitSt u).plannedRelease = false) (hi : (s.unitSt u).inReset = true) (hs : s.pair.peer ≠ .refused) :
    execRejoinResetRelease u s =
      .next (if s.rd Obj.REJOIN_LIMIT < s.releases24h u then s.rejoinRefused u
        else if s.rd Obj.AUTO_REJOIN = 0 then s else s.rejoinStart u).settle := by
  simp [execRejoinResetRelease, State.conclude, hr, Nat.not_lt.mpr ht, hp, hi, hs]

/-! ### PAIR_COMMAND (R467, R482, R486) -/

/-- One attempt of a refused unit that is held in reset (R482). -/
theorem execRejoinAttempt_refused (h : s.Accepts q u Obj.PAIR_COMMAND [2]) (hp : s.pair.peer = .refused)
    (hi : (s.unitSt s.pair.active.other).inReset = true) :
    execRejoinAttempt q u s = .next ((s.rejoinStart s.pair.active.other).answer q 0).settle := by
  rw [execRejoinAttempt, State.conclude, tryKey_accepted _ h]
  simp only [hp, hi, if_true]

/-- A planned switchover with the standby ready, in a mode that allows one (R486). -/
theorem execPlannedSwitchover_ready (h : s.Accepts q u Obj.PAIR_COMMAND [1])
    (hm : (s.mode.cur == .frond || s.mode.cur == .frondDegraded || s.mode.cur == .maintenance) = true) (hp : s.peerReady = true) :
    execPlannedSwitchover q u s =
      .next ((if s.mode.cur = .maintenance then { s with pair := { s.pair with maintSwitch := true } }
        else s.switchDrain true).answer q 0).settle := by
  simp only [execPlannedSwitchover, State.conclude, hm, hp, Bool.not_true, Bool.false_eq_true, if_false]
  rw [tryKey_accepted _ h]

/-! ### Warm restarts and the steps of an activation (R483-R485) -/

/-- A change of a unit's record leaves the role of holding TOKEN where it is. -/
theorem State.modUnit_active (s : State) (u : UnitId) (f : UnitSt → UnitSt) : (s.modUnit u f).pair.active = s.pair.active := by
  cases u <;> rfl

theorem execWarmRestart_standby (hu : u ≠ s.pair.active) (hi : (s.unitSt u).inReset = false) (hd : s.pair.roleDecided = true) :
    execWarmRestart u s =
      (let t := (s.modUnit u (fun x => { x with fwRunning := false })).modFw u.code (fun f => { f with running := none })
       .next ({ t with pair := { t.pair with peer := .selfTest } } : State).settle) := by
  simp [execWarmRestart, State.conclude, State.warmRestart, State.modUnit_active, hu, hi, hd]

theorem execActivationStepAdvance_badImage (h : s.pair.step = .sendImage)
    (hc : s.fwCheck s.pair.actHome.other (s.slotImage s.pair.actHome s.pair.actSlot) ≠ 1) :
    execActivationStepAdvance s = .next s.activationFailed.settle := by
  simp only [execActivationStepAdvance, State.conclude, State.activationAdvance, h, if_pos hc]

theorem execActivationStepAdvance_peerReady (h : s.pair.step = .peerRestart) (hp : s.peerReady = true) (hm : s.mode.cur = .frond) :
    execActivationStepAdvance s =
      .next (({ s with pair := { s.pair with step := .drain1 } } : State).switchDrain false).settle := by
  simp [execActivationStepAdvance, State.conclude, State.activationAdvance, h, hp, hm]

/-! ### The mirror link (R63, R470-R472) -/

theorem execMirrorMessage_ready (n m : Nat) (hu : s.mirrorUp = true) (hp : s.pair.peer = .ready) :
    execMirrorMessage n m s =
      .next ((s.followLines.wr Obj.MIRROR_LAG_MAX (max (s.rd Obj.MIRROR_LAG_MAX) (min n 0xFFFFFFFF))).wr Obj.MIRROR_REPLAYS
        (min (s.rd Obj.MIRROR_REPLAYS + m) 0xFFFFFFFF)) := by
  simp [execMirrorMessage, hu, hp]

/-- A link of 16 lanes goes on with half of them (R470). -/
theorem execMirrorLinkDown_half (h : s.pair.mirror = .up16) (hu : s.mirrorUp = true) :
    execMirrorLinkDown true s = .next ({ s with pair := { s.pair with mirror := .up8 } } : State).settle := by
  simp [execMirrorLinkDown, State.conclude, hu, h]

/-- Outside a take-over a ready standby is absent without the link (R470). -/
theorem execMirrorLinkDown_whole (hu : s.mirrorUp = true) (hp : s.pair.peer = .ready) (hm : s.mode.cur ≠ .switchover) :
    execMirrorLinkDown false s =
      .next (({ s with pair := { s.pair with mirror := .down, mirrorAt := s.now, settleFrom := none, peer := .absent } } : State).raise .pair
        [.PAIR_MIRROR_DOWN]).settle := by
  simp [execMirrorLinkDown, State.conclude, hu, hp, hm]

/-- The first training after a start is not counted, and reports the link once it fails (R470). -/
theorem execMirrorRetrain_firstFails (hu : s.mirrorUp = false) (hm : s.mode.cur = .frond) (ht : s.pair.mirror = .training)
    (hb : s.bit Obj.PAIR_STATUS Flag.PAIR_MIRROR_DOWN.bit = false) :
    execMirrorRetrain none s =
      .next (({ s with pair := { s.pair with mirrorAt := s.now, mirror := .down } } : State).raise .pair [.PAIR_MIRROR_DOWN]).settle := by
  have hd : ({ s with pair := { s.pair with mirrorAt := s.now, mirror := .down } } : State).bit Obj.PAIR_STATUS
      Flag.PAIR_MIRROR_DOWN.bit = false := hb
  simp [execMirrorRetrain, State.conclude, hu, hm, ht, hd]

/-- The time of the last training is no part of a unit's record. -/
theorem State.unitSt_mirrorAt (s : State) (n : Nat) (u : UnitId) :
    ({ s with pair := { s.pair with mirrorAt := n } } : State).unitSt u = s.unitSt u := by
  cases u <;> rfl

/-- 100 ms after the link has gone down, with both units out of reset, it trains again, which is counted (R470). -/
theorem execMirrorRetrain_again (b : Bool) (hu : s.mirrorUp = false) (hm : s.mode.cur = .frond) (hd : s.pair.mirror = .down)
    (hw : s.pair.mirrorAt + 100000 ≤ s.now) (ht : t = s.inc Obj.MIRROR_RETRAINS) (hA : (t.unitSt .A).inReset = false)
    (hB : (t.unitSt .B).inReset = false) :
    execMirrorRetrain (some b) s =
      .next ((({ t with pair := { t.pair with mirrorAt := t.now, mirror := if b then .up16 else .up8 } } : State).lower .pair
        .PAIR_MIRROR_DOWN).peerTry).settle := by
  subst ht
  simp [execMirrorRetrain, State.conclude, hu, hm, hd, Nat.not_lt.mpr hw, State.unitSt_mirrorAt, hA, hB]

end Sys2Proof.Machine

/-- Settles O21: a unit by how it was released, PAIR_COMMAND by the mode and the standby, an activation by its step, and the link by
what it was before. PEER_STATE after a warm restart and without the link, and MIRROR_REPLAYS raised by an operand, are the model's choices
(log entries 151 and 161). -/
theorem rejoinActivationAndMirror : Obligations.RejoinActivationAndMirror := by
  unfold Obligations.RejoinActivationAndMirror
  exact ⟨
    fun _ _ _ hr ht hp hi hs hn ha => (execRejoinResetRelease_due hr ht hp hi (by simp [hs])).trans (by
      rw [if_neg (Nat.not_lt.mpr hn), if_neg (by simp [ha])]),
    fun _ _ _ hr ht hp hi hs hn => (execRejoinResetRelease_due hr ht hp hi (by simp [hs])).trans (by rw [if_pos hn]),
    fun _ _ _ h hp hi => execRejoinAttempt_refused h hp hi,
    fun _ _ _ h hm hp => (execPlannedSwitchover_ready h (by simp [hm]) hp).trans (by rw [if_neg (by simp [hm])]),
    fun _ _ _ h hm hp => (execPlannedSwitchover_ready h (by simp [hm]) hp).trans (by rw [if_pos hm]),
    fun _ _ hu hi hd => execWarmRestart_standby hu hi hd,
    fun _ h hc => execActivationStepAdvance_badImage h hc,
    fun _ h hp hm => execActivationStepAdvance_peerReady h hp hm,
    fun _ n m hu hp => execMirrorMessage_ready n m hu hp,
    fun _ h hu => execMirrorLinkDown_half h hu,
    fun _ hu hp hm => execMirrorLinkDown_whole hu hp (by simp [hm]),
    fun _ hu hm ht hb => execMirrorRetrain_firstFails hu hm ht hb,
    fun _ _ b hu hm hd hw ht hA hB => execMirrorRetrain_again b hu hm hd hw ht hA hB⟩
end

section
/-! The media operations of a sequencer: prediction, parameter sets, write settings, arms, seeks and replays (R160, R166). -/

open Sys2Proof Sys2Proof.Machine

namespace Sys2Proof.Machine

variable {s u t : State} {q : SeqId} {w : MicroWord}

/-! ### A word whose operation completes -/

/-- A fetched word of an operation that the sequencer has, and that completes: its timing follows, then the word at `n` (R159). -/
theorem after_seqRun_done {o : SeqOp} {n : BitVec 12} (h : s.SeqReady q o w u)
    (hk : (q.xfer && o.mediaOnly || !q.xfer && o.xferOnly) = false) (hop : u.op q o w = .done t n) :
    State.after (s.seqRun q o w) = .next (t.seqTiming q w n).grave := by
  rw [State.after, seqRun_ready o h hk, hop, State.seqAfter]

theorem SeqOp.xferOnly_of_mediaOnly {o : SeqOp} (h : o.mediaOnly = true) : o.xferOnly = false := by
  revert h; cases o <;> decide

/-- An operation of the media sequencers that goes on to the word at NEXT. -/
theorem after_seqRun_media {o : SeqOp} (ho : o.mediaOnly = true) (h : s.SeqReady q o w u) (hx : q.xfer = false)
    (hop : u.op q o w = .go t w) : State.after (s.seqRun q o w) = .next (t.seqTiming q w w.next).grave :=
  after_seqRun_done h (by simp [hx, SeqOp.xferOnly_of_mediaOnly ho]) hop

theorem State.seqSet_greg (v : Word) (ha : w.a.toNat < 32) :
    s.seqSet q w v = .go (s.modSeq q.key (fun e => e.setG w.a.toNat v)) w := if_pos ha

/-! ### Sets, write settings and seeks (R85, R105, R139, R140, R218) -/

theorem State.opPset_loads (hn : (s.seqA q w).toNat < 512) :
    s.opPset q w = .go (s.modChan q.chan (fun c =>
      let ratio := 256 * fldU (c.set (s.seqA q w).toNat) 196 2 + fldU (c.set (s.seqA q w).toNat) 198 1
      { c with
        nextSet := some (s.seqA q w).toNat, load := .loading, nextBad := false, psetReady := false, psetErr := false
        ratioSent := ratio, nextWait := c.ratioSent != ratio || c.nextWait })) w :=
  if_neg (Nat.not_le.mpr hn)

theorem State.opWrset_sends (hn : (s.seqA q w).toNat < 512) (hg : (s.getChan q.chan).gate = false) :
    s.opWrset q w = .go (s.modChan q.chan (fun c => { c with
      wrSent := true, wrAck := false, wrFail := false, wrSet := some (s.seqA q w).toNat
      wrEntry := c.precompOf (s.seqA q w).toNat
      wrPreset := c.presetOf ((s.seqA q w).toNat / 32 * 4 + (s.getPlan q.chan).band) })) w := by
  simp [State.opWrset, Nat.not_le.mpr hn, hg]

theorem State.opSeekreq_posts (h : s.seekOk q.port q.act (s.seqA q w).toNat (w.b.toNat % 16) = true) :
    s.opSeekreq q w = .go (s.modSrv q.chan (fun v =>
      { v with posted := some ((s.seqA q w).toNat, w.b.toNat % 16, 0), onTrack := false })) w := by
  simp [State.opSeekreq, h]

/-! ### Prediction (R131) -/

/-- The fragments of a position in the zone of the set that the arms use. -/
def State.predicted (s : State) (q : SeqId) (pos : Nat) : List Frag :=
  (zoneOf ((s.getChan q.chan).zone ((s.getChan q.chan).armSet.getD 0))).position (s.rd (Obj.CT_CYCLES_PER_REV q.port)) pos

/-- The sample index of a bit of the armed head's track. -/
def State.predictedIndex (s : State) (q : SeqId) (bit : Nat) : Word :=
  s.bitIndex q.port q.act ((s.getChan q.chan).armSet.getD 0 / 32) bit
    (zoneOf ((s.getChan q.chan).zone ((s.getChan q.chan).armSet.getD 0)))

theorem State.opPred_found {f : Frag} (hf : (s.predicted q (s.seqA q w).toNat)[(s.seqB q w).toNat]? = some f) :
    s.opPred q w = .go (s.modSeq q.key (fun e => { e with
      pStart := s.predictedIndex q f.pos, pBits := BitVec.ofNat 32 f.take, pEnd := s.predictedIndex q f.fin
      pFrags := BitVec.ofNat 32 (s.predicted q (s.seqA q w).toNat).length, pPos := (s.seqA q w).toNat })) w := by
  simp only [State.predicted] at hf
  simp only [State.opPred, hf, State.predicted, State.predictedIndex]

/-! ### Arms (R166) -/

/-- The PSA that SRD and SWR form: the track is the servo's target track (log entry 62). -/
def State.armSector (s : State) (q : SeqId) : Psa :=
  ⟨q.act, (s.getChan q.chan).armSet.getD 0 / 32, (s.getSrv q.chan).track, (s.getSeq q.key).pPos⟩

/-- The arm of a sector's fragment `n` that starts at G[A], with what PRED left in the registers. -/
def State.fragArm (s : State) (q : SeqId) (w : MicroWord) (n : Nat) (mode : ReaderMode) (psa : Psa) (t : Option Ticket)
    (f : Option Feed) : Arm where
  start := s.seqA q w
  endIdx := (s.getSeq q.key).pEnd
  bits := (s.getSeq q.key).pBits.toNat
  frag := n
  frags := (s.getSeq q.key).pFrags.toNat
  mode := mode
  psa := psa
  item := (s.getSeq q.key).itemNo
  ticket := t
  feed := f

/-- The reader mode that SRD's B names. -/
def MicroWord.readers (w : MicroWord) : ReaderMode :=
  if w.b.toNat % 4 = 1 then .aOnly else if w.b.toNat % 4 = 2 then .bOnly else .both

theorem State.opSrd_places (hb : w.b.toNat % 4 ≠ 3) (hr : (s.getChan q.chan).readPend = none)
    (hl : armLateAt (s.getChan q.chan).sidx (s.seqA q w) = false) :
    s.opSrd q w = .go (((s.modSeq q.key (fun e => { e with armPsa := s.armSector q, armWrite := false })).modChan q.chan
      (fun c => { c with tickets := pairTicket c.tickets })).modChan q.chan (fun c => { c with
        readPend := some (s.fragArm q w 0 w.readers (s.armSector q)
          ((firstTicket (s.getChan q.chan).tickets).map (fun t => { t with paired := true })) none)
        late := false })) w := by
  simp only [State.opSrd, hb, hr, hl, if_false, Option.isSome_none, Bool.false_eq_true]
  rfl

theorem State.opSwr_places (hw : (s.getChan q.chan).writePend = none)
    (hl : armLateAt (s.getChan q.chan).sidx (s.seqA q w) = false) :
    s.opSwr q w = .go (((s.modSeq q.key (fun e => { e with armPsa := s.armSector q, armWrite := true })).modChan q.chan
      (fun c => { c with feeds := pairFeed c.feeds })).modChan q.chan (fun c => { c with
        writePend := some (s.fragArm q w 0 .bOnly (s.armSector q) none
          ((firstFeed (s.getChan q.chan).feeds).map (fun t => { t with paired := true })))
        late := false })) w := by
  simp only [State.opSwr, hw, hl, if_false, Option.isSome_none, Bool.false_eq_true]
  rfl

/-- A continuation fragment of a read goes on with the reader mode, ticket and feed of the sector being read. -/
theorem State.opCfrag_placesRead (ha : (s.getSeq q.key).armWrite = false) (h0 : 0 < (s.seqB q w).toNat)
    (h3 : (s.seqB q w).toNat < 3) (hr : (s.getChan q.chan).readPend = none)
    (hl : armLateAt (s.getChan q.chan).sidx (s.seqA q w) = false) :
    s.opCfrag q w = .go (s.modChan q.chan (fun c => { c with
      readPend := some (s.fragArm q w (s.seqB q w).toNat (((s.getChan q.chan).readCur.map Arm.mode).getD .both)
        (s.getSeq q.key).armPsa ((s.getChan q.chan).readCur.bind Arm.ticket) ((s.getChan q.chan).readCur.bind Arm.feed))
      late := false })) w := by
  simp [State.opCfrag, State.fragArm, ha, hr, hl, Nat.ne_of_gt h0, Nat.not_le.mpr h3]

theorem State.opCfrag_placesWrite (ha : (s.getSeq q.key).armWrite = true) (h0 : 0 < (s.seqB q w).toNat)
    (h3 : (s.seqB q w).toNat < 3) (hw : (s.getChan q.chan).writePend = none)
    (hl : armLateAt (s.getChan q.chan).sidx (s.seqA q w) = false) :
    s.opCfrag q w = .go (s.modChan q.chan (fun c => { c with
      writePend := some (s.fragArm q w (s.seqB q w).toNat .bOnly (s.getSeq q.key).armPsa
        ((s.getChan q.chan).writeCur.bind Arm.ticket) ((s.getChan q.chan).writeCur.bind Arm.feed))
      late := false })) w := by
  simp [State.opCfrag, State.fragArm, ha, hw, hl, Nat.ne_of_gt h0, Nat.not_le.mpr h3]

/-! ### Replays of the hold buffer (R112, R114) -/

/-- The reader mode of a replay's step without a ladder: reader B alone at step 3. -/
def replayReaders (n : Nat) : ReaderMode := if n = 3 then .bOnly else .both

/-- A held sector as REPLAY runs it at step `n` without a ladder; step 4 takes the alternative target. -/
def replayed (x : Sector) (n : Nat) (t : Option Ticket) : Sector :=
  { psa := x.psa, setNo := x.setNo, spans := x.spans, samples := x.samples, step := n, held := true, mode := replayReaders n, alt := n == 4,
    ticket := t }

theorem State.opReplay_replays {x : Sector} (h0 : w.b.toNat % 8 ≠ 0) (h7 : w.b.toNat % 8 ≠ 7)
    (hh : (s.getChan q.chan).hold = .held) (hs : (s.getChan q.chan).holdSector = some x) (hr : (s.getChan q.chan).rx = none)
    (hl : (s.getChan q.chan).ladder = none) (hm : s.mode.cur ≠ .bringUp) :
    s.opReplay q w = .go (((s.modChan q.chan (fun c => { c with tickets := pairTicket c.tickets })).wr (Obj.READER_MODE q.port q.act)
      (replayReaders (w.b.toNat % 8)).code).modChan q.chan (fun c => { c with
        replay := some (replayed x (w.b.toNat % 8)
          ((firstTicket (s.getChan q.chan).tickets).map (fun t => { t with paired := true }))) })) w := by
  by_cases h3 : w.b.toNat % 8 = 3 <;>
    simp [State.opReplay, replayed, replayReaders, h0, h7, hh, hs, hr, hl, hm, h3]

end Sys2Proof.Machine

/-- Settles O4: each operation by the branch that its hypotheses choose; an operation that completes is followed by the word's timing.
That SRD and SWR form the PSA with the servo's target track is the model's choice (log entry 62). -/
theorem sequencerMediaOperations : Obligations.SequencerMediaOperations := by
  unfold Obligations.SequencerMediaOperations
  exact ⟨
    fun _ _ _ _ _ h hx hf => after_seqRun_media rfl h hx (State.opPred_found hf),
    fun _ _ _ _ _ h hx hn hr => after_seqRun_media rfl h hx (hr ▸ State.opPset_loads hn),
    fun _ _ _ _ h hx => after_seqRun_media rfl h hx rfl,
    fun _ _ _ _ h hx hn hg => after_seqRun_media rfl h hx (State.opWrset_sends hn hg),
    fun _ _ _ _ h hx hb hr hl => after_seqRun_media rfl h hx (State.opSrd_places hb hr hl),
    fun _ _ _ _ h hx hw hl => after_seqRun_media rfl h hx (State.opSwr_places hw hl),
    fun _ _ _ _ h hx ha h0 h3 hr hl => after_seqRun_media rfl h hx (State.opCfrag_placesRead ha h0 h3 hr hl),
    fun _ _ _ _ h hx ha h0 h3 hw hl => after_seqRun_media rfl h hx (State.opCfrag_placesWrite ha h0 h3 hw hl),
    fun _ _ _ _ h hx => after_seqRun_media rfl h hx rfl,
    fun _ _ _ _ h hx hk => after_seqRun_media rfl h hx (State.opSeekreq_posts hk),
    fun _ _ _ _ _ h hx h0 h7 hh hs hr hl hm => after_seqRun_media rfl h hx (State.opReplay_replays h0 h7 hh hs hr hl hm),
    fun _ _ _ _ h hx => after_seqRun_media rfl h hx rfl,
    fun _ _ _ _ h hx ha => after_seqRun_media rfl h hx (State.seqSet_greg _ ha)⟩
end

section
/-! The words of a sequencer: how each is fetched, the operations on registers, the branches, the return stack, the mailboxes, and the
operations of the plan and of the transfer sequencers (R156-R163, R168, R169, R174, R183). -/

open Sys2Proof Sys2Proof.Machine

namespace Sys2Proof.Machine

variable {s u t : State} {q : SeqId} {w : MicroWord} {o : SeqOp}

/-! ### Which words are taken (R156, R159, R161) -/

theorem State.seqRun_idle (h : (s.getSeq q.key).goes = false ∨ s.fetches q o w = false) : s.seqRun q o w = s := by
  rcases h with h | h <;> simp [State.seqRun, h]

/-- A word of the other kind, or one whose TIMING names no wait condition (R161, R168). -/
theorem State.seqRun_illegal (hg : (s.getSeq q.key).goes = true) (hf : s.fetches q o w = true)
    (h : (q.xfer = true ∧ o.mediaOnly = true) ∨ (q.xfer = false ∧ o.xferOnly = true) ∨ (q.xfer = true ∧ 0xD ≤ w.timing.toNat)) :
    s.seqRun q o w = (s.seqFetch q w.corrected).seqStop q .SEQ_ILLEGAL_OP := by
  have hk : (q.xfer && o.mediaOnly || !q.xfer && o.xferOnly || q.xfer && decide (0xD ≤ w.timing.toNat)) = true := by
    rcases h with ⟨hx, ho⟩ | ⟨hx, ho⟩ | ⟨hx, ho⟩ <;> simp [hx, ho]
  simp [State.seqRun, State.seqWord, hg, hf, hk]

theorem SeqOp.runsOn_of_kind (hm : q.xfer = true → o.mediaOnly = false) (hx : q.xfer = false → o.xferOnly = false) :
    (q.xfer && o.mediaOnly || !q.xfer && o.xferOnly) = false := by
  cases h : q.xfer
  · simp [hx h]
  · simp [hm h]

/-- An operation of R160 that both kinds of sequencer have. -/
theorem SeqOp.runsOn_of_bothKinds (ho : (o.mediaOnly || o.xferOnly) = false) : (q.xfer && o.mediaOnly || !q.xfer && o.xferOnly) = false := by
  obtain ⟨hm, hx⟩ := Bool.or_eq_false_iff.mp ho
  exact SeqOp.runsOn_of_kind (fun _ => hm) (fun _ => hx)

/-- A fetched word does what its operation comes to (R159). -/
theorem after_seqRun_ready {r : OpRes} (hk : (q.xfer && o.mediaOnly || !q.xfer && o.xferOnly) = false) (h : s.SeqReady q o w u)
    (hop : u.op q o w = r) : State.after (s.seqRun q o w) = .next (u.seqAfter q o w r).grave := by
  rw [State.after, seqRun_ready o h hk, hop]

/-- A fetched word of an operation that both kinds have. -/
theorem after_seqRun_both {r : OpRes} (ho : (o.mediaOnly || o.xferOnly) = false) (h : s.SeqReady q o w u) (hop : u.op q o w = r) :
    State.after (s.seqRun q o w) = .next (u.seqAfter q o w r).grave :=
  after_seqRun_ready (SeqOp.runsOn_of_bothKinds ho) h hop

/-- An operation that both kinds have and that stops the sequencer with a bit of SEQ_STATUS. -/
theorem after_seqRun_stop {f : Flag} (ho : (o.mediaOnly || o.xferOnly) = false) (h : s.SeqReady q o w u)
    (hop : u.op q o w = .stop t f) : State.after (s.seqRun q o w) = .next (t.seqStop q f).grave := by
  rw [after_seqRun_both ho h hop, State.seqAfter]

/-- A fetched word of an operation that a transfer sequencer has. -/
theorem after_seqRun_xfer {r : OpRes} (ho : o.mediaOnly = false) (h : s.SeqReady q o w u) (hx : q.xfer = true)
    (hop : u.op q o w = r) : State.after (s.seqRun q o w) = .next (u.seqAfter q o w r).grave :=
  after_seqRun_ready (SeqOp.runsOn_of_kind (fun _ => ho) (fun hf => absurd (hx.symm.trans hf) (by decide))) h hop

/-! ### Registers (R157, R161) -/

theorem State.seqSet_readOnly (v : Word) (h : 32 ≤ w.a.toNat) (hp : w.a ≠ 0x21) : s.seqSet q w v = .stop s .SEQ_ILLEGAL_OP := by
  rw [State.seqSet, if_neg (Nat.not_lt.mpr h), if_neg hp]

theorem State.seqSet_planPtr (v : Word) (h : w.a = 0x21) :
    s.seqSet q w v = .done (s.modSeq q.key (fun e => { e with planPtr := v })) w.next := by
  rw [State.seqSet, if_neg (by simp [h]), if_pos h, OpRes.go]

/-- An operation whose only effect is a value written to G[A]. -/
theorem after_seqRun_register {v : Word} (ho : (o.mediaOnly || o.xferOnly) = false) (h : s.SeqReady q o w u) (ha : w.a.toNat < 32)
    (hop : u.op q o w = u.seqSet q w v) :
    State.after (s.seqRun q o w) = .next ((u.modSeq q.key (fun e => e.setG w.a.toNat v)).seqTiming q w w.next).grave :=
  after_seqRun_both ho h (hop.trans (State.seqSet_greg v ha))

/-! ### Branches, calls and waits (R158, R160, R163) -/

/-- The address after a branch by a proposition that its condition decides. -/
theorem OpRes.branch_eq {c : Bool} {P : Prop} [Decidable P] (h : c = true ↔ P) :
    OpRes.branch s w c = .done s (if P then w.next + 1 else w.next) := by
  simp only [OpRes.branch, h]

/-- An operation that goes on at NEXT + 1 where its condition holds. -/
theorem after_seqRun_branch {c : Bool} {P : Prop} [Decidable P] (ho : (o.mediaOnly || o.xferOnly) = false) (h : s.SeqReady q o w u)
    (hc : c = true ↔ P) (hop : u.op q o w = .branch t w c) :
    State.after (s.seqRun q o w) = .next (t.seqTiming q w (if P then w.next + 1 else w.next)).grave :=
  after_seqRun_both ho h (hop.trans (OpRes.branch_eq hc))

theorem State.op_djnz (ha : w.a.toNat < 32) :
    s.op q .djnz w = .branch (s.modSeq q.key (fun e => e.setG w.a.toNat (s.seqA q w - 1))) w (s.seqA q w - 1 != 0) := by
  simp only [State.op, State.seqSet_greg _ ha, OpRes.go]

theorem State.op_call_full (h : 8 ≤ (s.getSeq q.key).stack.length) : s.op q .call w = .stop s .SEQ_STACK_ERR := if_pos h

theorem State.op_call_pushes (h : (s.getSeq q.key).stack.length < 8) :
    s.op q .call w = .done (s.modSeq q.key (fun e => { e with stack := w.next :: e.stack })) w.b := if_neg (Nat.not_le.mpr h)

theorem State.op_ret_empty (h : (s.getSeq q.key).stack = []) : s.op q .ret w = .stop s .SEQ_STACK_ERR := by
  simp only [State.op, h]

theorem State.op_ret_takes {r : BitVec 12} {l : List (BitVec 12)} (h : (s.getSeq q.key).stack = r :: l) :
    s.op q .ret w = .done (s.modSeq q.key (fun e => { e with stack := l })) r := by
  simp only [State.op, h]
  rfl

theorem State.op_waitidx_reached (h : ((s.getChan q.chan).sidx - s.seqA q w).getLsbD 31 = false) : s.op q .waitidx w = .go s w :=
  if_neg (ne_true_of_eq_false h)

theorem State.op_waitidx_ahead (h : ((s.getChan q.chan).sidx - s.seqA q w).getLsbD 31 = true) : s.op q .waitidx w = .index :=
  if_pos h

/-! ### The plan and the mailboxes (R160, R163, R179) -/

theorem State.op_nextitem_xfer (hx : q.xfer = true) :
    s.op q .nextitem w = .branch (s.modSeq q.key (fun e => { e with planPtr := e.planPtr + 64, itemNo := e.itemNo + 1 })) w
      ((s.getSeq q.key).itemNo + 1 == (s.getPlan q.chan).field 8 2) := by
  simp only [State.op, hx, if_true]
  rfl

/-- On a media sequencer the counts of the item start again (R179). -/
theorem State.op_nextitem_media (hx : q.xfer = false) :
    s.op q .nextitem w = .branch ((s.modSeq q.key (fun e => { e with planPtr := e.planPtr + 64, itemNo := e.itemNo + 1 })).modPlan q.chan
        (fun l => { l with done := 0, failed := 0 })) w
      ((s.getSeq q.key).itemNo + 1 == ((s.modPlan q.chan (fun l => { l with done := 0, failed := 0 })).getPlan q.chan).field 8 2) := by
  simp only [State.op, hx, Bool.false_eq_true, if_false, State.getPlan_modPlan]
  rfl

theorem State.op_msend_full (h : 16 ≤ (s.getSeq q.partner.key).mbox.length) : s.op q .msend w = .blocked := if_pos h

theorem State.op_msend_room (h : (s.getSeq q.partner.key).mbox.length < 16) :
    s.op q .msend w = .go (s.modSeq q.partner.key (fun e => { e with mbox := e.mbox ++ [s.seqA q w] })) w :=
  if_neg (Nat.not_le.mpr h)

theorem State.op_mrecv_takes {x : Word} {l : List Word} (ha : w.a.toNat < 32) (h : (s.getSeq q.key).mbox = x :: l) :
    s.op q .mrecv w = .go ((s.modSeq q.key (fun e => { e with mbox := l })).modSeq q.key (fun e => e.setG w.a.toNat x)) w := by
  simp only [State.op, h]
  exact State.seqSet_greg x ha

/-! ### Transfer operations (R160, R169, R183) -/

theorem State.opLdm_loads {r : State} {b : List Byte} (ha : w.a.toNat < 32) (h4 : (s.seqB q w).toNat % 4 = 0)
    (hr : s.engRead q.unit (s.seqB q w).toNat 4 = (r, some b)) :
    s.opLdm q w = .go (r.modSeq q.key (fun e => e.setG w.a.toNat (BitVec.ofNat 32 (leNat b)))) w := by
  simp only [State.opLdm, h4, hr, ne_eq, not_true_eq_false, if_false]
  exact State.seqSet_greg _ ha

theorem State.opPost_room (ha : w.a.toNat ≤ 28) (hf : (s.getPlan q.chan).ringFull = false) :
    s.opPost q w = .go (s.postEntry q.unit q.chan
      ((List.range 4).flatMap (fun i => leBytes 4 (s.seqReg q (w.a.toNat + i)).toNat))) w := by
  rw [State.opPost, if_neg (Nat.not_lt.mpr ha), if_neg (by simp [hf])]

theorem State.opTicket_room (h : (s.getChan q.chan).tickets.length < 8) :
    s.opTicket q w = .go (s.modChan q.chan (fun c => c.addTicket (s.seqA q w).toNat (s.seqB q w).toNat)) w :=
  if_neg (Nat.not_le.mpr h)

theorem State.opWfeed_room (hb : w.b.toNat % 64 ≤ 27) (h : (s.getChan q.chan).feeds.length < 2) :
    s.opWfeed q w = .go (s.modChan q.chan (fun c => c.addFeed (s.seqA q w).toNat
      ((List.range 4).flatMap (fun i => leBytes 4 (s.seqReg q (w.b.toNat % 64 + i)).toNat))
      (s.seqReg q (w.b.toNat % 64 + 4)).toNat)) w := by
  simp only [State.opWfeed, if_neg (Nat.not_lt.mpr hb), if_neg (Nat.not_le.mpr h)]

end Sys2Proof.Machine

/-- Settles O46: each of the 56 commands runs the one operation of fetched words, which takes a word by the sequencer's state, its
control store, the kind of the operation and TIMING. -/
theorem sequencerWordRules : Obligations.SequencerWordRules := by
  unfold Obligations.SequencerWordRules
  iterate 56 refine ⟨fun _ _ _ => rfl, ?_⟩
  exact ⟨
    fun _ _ _ _ h => State.seqRun_idle h,
    fun _ _ _ _ hg hf h => State.seqRun_illegal hg hf h,
    fun _ _ _ o _ hg hf hm hx ht e => seqRun_ready o ⟨hg, hf, ht, e⟩ (SeqOp.runsOn_of_kind hm hx),
    fun _ _ => rfl,
    fun _ _ => rfl,
    fun _ _ _ v h hp => State.seqSet_readOnly v h hp,
    fun _ _ _ v h => State.seqSet_planPtr v h⟩

/-- Settles O1: each operation is a write of its value to G[A]. -/
theorem sequencerRegisterOperations : Obligations.SequencerRegisterOperations := by
  unfold Obligations.SequencerRegisterOperations
  iterate 17 refine ⟨fun _ _ _ _ h ha => after_seqRun_register rfl h ha rfl, ?_⟩
  exact fun _ _ _ _ h ha => after_seqRun_register rfl h ha rfl

/-- Settles O2: each operation by what it comes to: a branch by its condition, a jump, a wait or a stop. That FENCE goes on at once is
the model's choice (log entry 59). -/
theorem sequencerBranchOperations : Obligations.SequencerBranchOperations := by
  unfold Obligations.SequencerBranchOperations
  exact ⟨
    fun _ _ _ _ h => after_seqRun_both rfl h rfl,
    fun _ _ _ _ h => after_seqRun_both rfl h rfl,
    fun _ _ _ _ h => after_seqRun_branch rfl h beq_iff_eq rfl,
    fun _ _ _ _ h => after_seqRun_branch rfl h Iff.rfl rfl,
    fun _ _ _ _ h => after_seqRun_branch rfl h beq_iff_eq rfl,
    fun _ _ _ _ h => after_seqRun_branch rfl h Iff.rfl rfl,
    fun _ _ _ _ h => after_seqRun_branch rfl h Iff.rfl rfl,
    fun _ _ _ _ h => after_seqRun_branch rfl h Iff.rfl rfl,
    fun _ _ _ _ h ha => after_seqRun_branch rfl h bne_iff_ne (State.op_djnz ha),
    fun _ _ _ _ h hn => after_seqRun_both rfl h (State.op_call_pushes hn),
    fun _ _ _ _ _ _ h hn => after_seqRun_both rfl h (State.op_ret_takes hn),
    fun _ _ _ _ h => after_seqRun_both rfl h rfl,
    fun _ _ _ _ h hi => after_seqRun_both rfl h (State.op_waitidx_reached hi),
    fun _ _ _ _ h hi => after_seqRun_both rfl h (State.op_waitidx_ahead hi),
    fun _ _ _ _ h => after_seqRun_both rfl h rfl,
    fun _ _ _ _ h => after_seqRun_both rfl h rfl,
    fun _ _ _ _ h => after_seqRun_stop rfl h rfl⟩

/-- Settles O3: each operation by the room, the word or the register that its hypotheses give. -/
theorem sequencerTransferOperations : Obligations.SequencerTransferOperations := by
  unfold Obligations.SequencerTransferOperations
  exact ⟨
    fun _ _ _ _ h hx => after_seqRun_branch rfl h beq_iff_eq (State.op_nextitem_xfer hx),
    fun _ _ _ _ h hx => after_seqRun_branch rfl h beq_iff_eq (State.op_nextitem_media hx),
    fun _ _ _ _ h hn => after_seqRun_both rfl h (State.op_msend_room hn),
    fun _ _ _ _ _ _ h ha hm => after_seqRun_both rfl h (State.op_mrecv_takes ha hm),
    fun _ _ _ _ _ _ h hx ha h4 hr => after_seqRun_xfer rfl h hx (State.opLdm_loads ha h4 hr),
    fun _ _ _ _ h hx => after_seqRun_xfer rfl h hx rfl,
    fun _ _ _ _ h hx ha hf => after_seqRun_xfer rfl h hx (State.opPost_room ha hf),
    fun _ _ _ _ h hx hn => after_seqRun_xfer rfl h hx (State.opTicket_room hn),
    fun _ _ _ _ h hx hb hn => after_seqRun_xfer rfl h hx (State.opWfeed_room hb hn),
    fun _ _ _ _ h hx => after_seqRun_xfer rfl h hx rfl,
    fun _ _ _ _ h hx => after_seqRun_xfer rfl h hx rfl⟩

/-- Settles O52: each operation by how much the stack or the mailbox holds. -/
theorem returnStackAndMailboxBounds : Obligations.ReturnStackAndMailboxBounds := by
  unfold Obligations.ReturnStackAndMailboxBounds
  exact ⟨
    fun _ _ _ _ h hn => after_seqRun_stop rfl h (State.op_call_full hn),
    fun _ _ _ _ h hn => after_seqRun_both rfl h (State.op_call_pushes hn),
    fun _ _ _ _ h hn => after_seqRun_stop rfl h (State.op_ret_empty hn),
    fun _ _ _ _ _ _ h hn => after_seqRun_both rfl h (State.op_ret_takes hn),
    fun _ _ _ _ h hn => after_seqRun_both rfl h (State.op_msend_full hn),
    fun _ _ _ _ h hn => after_seqRun_both rfl h (State.op_msend_room hn)⟩
end

section
/-! Waits, stops and control stores of a sequencer, the microcode loader, and the monitor's commands for sequencers (R159, R161, R164,
R165, R168, R174-R178, R188, R586). -/

open Sys2Proof Sys2Proof.Machine

namespace Sys2Proof.Machine

variable {s : State} {q : SeqId} {o : SeqOp} {w : MicroWord} {n : Nat}

/-! ### Waits and stops (R159, R161, R164, R168, R174, R188) -/

theorem execIllegalOp_reserved (b : Bool) (hg : (s.getSeq q.key).goes = true) (hn : wordOp (s.nextWord q) = none) :
    execIllegalOp q b s = .next ((s.seqFetch q b).seqStop q .SEQ_ILLEGAL_OP).grave := by
  simp [execIllegalOp, State.after, hg, hn]

/-- An operation that an engine or an index kept back is tried again (R159). -/
theorem execSeqOpUnblocked_retries (hw : (s.getSeq q.key).wait = .op o w ∨ (s.getSeq q.key).wait = .index o w)
    (hs : (s.getSeq q.key).state = .waiting) : execSeqOpUnblocked q s = .next (s.seqAfter q o w (s.op q o w)).grave := by
  rcases hw with hw | hw <;> simp only [execSeqOpUnblocked, State.after, hw, hs, if_true]

theorem execDelayExpiry_delay (hw : (s.getSeq q.key).wait = .delay n) :
    execDelayExpiry q s = .next (s.modSeq q.key (fun e => { e with state := .running, wait := .none })).grave := by
  simp only [execDelayExpiry, State.after, hw]

theorem execWaitConditionMet_holds (hw : (s.getSeq q.key).wait = .cond n) (hc : n = 0xC ∨ s.condHolds q n = true) :
    execWaitConditionMet q s =
      .next ((s.modSeq q.key (fun e => { e with state := .running, wait := .none })).condTake q n).grave := by
  simp [execWaitConditionMet, State.after, hw, hc]

theorem execSeqWatchdog_op (hw : (s.getSeq q.key).wait = .op o w) (ht : (s.getSeq q.key).waitAt + s.rd Obj.SEQ_WATCHDOG < s.now) :
    execSeqWatchdog q s = .next (s.seqStop q .SEQ_WATCHDOG).grave := by
  simp only [execSeqWatchdog, State.after, hw, if_neg (Nat.not_le.mpr ht)]

/-- Condition Ch is the sweep's own tick, which the watchdog leaves alone (R188). -/
theorem execSeqWatchdog_cond (hw : (s.getSeq q.key).wait = .cond n) (hn : n ≠ 0xC)
    (ht : (s.getSeq q.key).waitAt + s.rd Obj.SEQ_WATCHDOG < s.now) :
    execSeqWatchdog q s = .next (s.seqStop q .SEQ_WATCHDOG).grave := by
  simp only [execSeqWatchdog, State.after, hw, if_neg (Nat.not_le.mpr ht), if_neg hn]

/-- Every sequencer of a port cluster that is not stopped waits for the edge, with the empty plan executing (R174). -/
theorem execControlStoreReload_goes (hg : (s.getSeq q.key).goes = true) :
    execControlStoreReload q s =
      .next ((((s.seqFetch q false).seqStop q .SEQ_CS_UNCORRECTABLE).modStore q
        (fun _ => { images := ((s.seqFetch q false).seqStop q .SEQ_CS_UNCORRECTABLE).mc.images })).forEach [(0 : ActId), 1] (fun s a =>
          (s.modPlan (chanKey q.port a) (fun l => { l with empty := true })).forEach [false, true] (fun s t =>
            s.modSeq (SeqId.key ⟨q.unit, q.port, a, t⟩) (fun e =>
              if e.state = .stopped then e else { e with state := .waitEdge, wait := .none })))).grave := by
  rw [execControlStoreReload, if_pos hg, State.after]

/-! ### The microcode loader (R176-R178) -/

theorem after_mcWrite_accepted {r : Requester} {u : UnitId} {k : Nat} {d : List Byte} (f : State → State) (h : s.Accepts r u k d) :
    State.after (s.mcWrite r u k d f) = .next ((f s).answer r 0).grave := by
  rw [mcWrite_accepted f h, State.after]

theorem execMcVerifyComplete_checking (hr : s.mc.result = 0x01) (hl : s.mc.loading = none) :
    execMcVerifyComplete s =
      .next ({ s with mc := { s.mc with result := s.mcCheck s.mc.stage, verified := s.mcCheck s.mc.stage == 0x02 } } : State).grave := by
  simp [execMcVerifyComplete, State.after, hr, hl]

theorem execMcLoad_verified {r : Requester} {u : UnitId} (h : s.Accepts r u Obj.MC_COMMAND [2]) (hv : s.mc.verified = true)
    (hb : s.rawBusy = false) :
    execMcLoad r u s =
      .next (({ s with mc := { s.mc with result := 0x01, loading := some s.mc.stage, revert := false } } : State).answer r 0).grave := by
  rw [execMcLoad, after_mcWrite_accepted _ h]
  simp only [hv, hb, Bool.not_true, Bool.false_eq_true, if_false]

theorem execMcLoadComplete_inService {ok : Bool} {b : List Byte} (hl : s.mc.loading = some b) (hp : s.peerReady = false ∨ ok = true) :
    execMcLoadComplete ok s =
      (let t := s.mcService b (if s.mc.revert then .builtIn else .loaded)
       .next ({ t with mc := { t.mc with loading := none, result := 0x03 } } : State).grave) := by
  have hn : (s.peerReady && !ok) = false := by rcases hp with hp | hp <;> simp [hp]
  simp only [execMcLoadComplete, State.after, hl, hn, Bool.false_eq_true, if_false]

theorem execMcPersist_loaded {r : Requester} {u : UnitId} (h : s.Accepts r u Obj.MC_COMMAND [3]) (hs : s.mc.source ≠ .builtIn) :
    execMcPersist r u s =
      .next (({ s with mc := { s.mc with stored := some s.mc.images, source := .stored, result := 0x0A } } : State).answer r 0).grave := by
  rw [execMcPersist, after_mcWrite_accepted _ h, if_neg hs]

/-! ### The monitor's commands for sequencers (R586) -/

section Monitor

variable {m : MonUnit} {k : Nat} {run : State → SeqId → State × List MonOut × Nat}

/-- A line that the executing plan allows in Maintenance runs its body on the sequencer that it names. -/
theorem monSeq_runs {r : State} {out : List MonOut} {e : Nat} (h : s.RunsLine r false) (hk : k < 64)
    (hm : s.lineIn.mode.cur = .maintenance) (hp : s.lineIn.rawPlan (seqIdOf (s.lineIn.monUnit m) k) = true)
    (hr : s.lineIn.monReach m = true) (hrun : run s.lineIn (seqIdOf (s.lineIn.monUnit m) k) = (r, out, e)) :
    s.monSeq m k run = (r.monPrint out).monEnd e :=
  monRunAt_runs h hr (by simp [Nat.not_le.mpr hk, hm, hp, hrun])

theorem monSeq_notMaintenance (h : s.RunsLine s.lineIn false) (hk : k < 64) (hm : s.lineIn.mode.cur ≠ .maintenance)
    (hr : s.lineIn.monReach m = true) : s.monSeq m k run = (s.lineIn.monPrint []).monEnd 0x05 :=
  monRunAt_runs h hr (by simp [Nat.not_le.mpr hk, hm])

theorem monSeq_noRawPlan (h : s.RunsLine s.lineIn false) (hk : k < 64) (hm : s.lineIn.mode.cur = .maintenance)
    (hp : s.lineIn.rawPlan (seqIdOf (s.lineIn.monUnit m) k) = false) (hr : s.lineIn.monReach m = true) :
    s.monSeq m k run = (s.lineIn.monPrint []).monEnd 0x09 :=
  monRunAt_runs h hr (by simp [Nat.not_le.mpr hk, hm, hp])

end Monitor

end Sys2Proof.Machine

/-- Settles O5: each event by what the sequencer waits for; a calibration needs no state. -/
theorem sequencerWaitsAndStops : Obligations.SequencerWaitsAndStops := by
  unfold Obligations.SequencerWaitsAndStops
  exact ⟨
    fun _ _ _ b hg hn e => e ▸ execIllegalOp_reserved b hg hn,
    fun _ _ _ _ hw hs => execSeqOpUnblocked_retries (.inl hw) hs,
    fun _ _ _ _ hw hs => execSeqOpUnblocked_retries (.inr hw) hs,
    fun _ _ _ hw => execDelayExpiry_delay hw,
    fun _ _ _ hw hc => execWaitConditionMet_holds hw hc,
    fun _ _ _ _ hw ht => execSeqWatchdog_op hw ht,
    fun _ _ _ hw hn ht => execSeqWatchdog_cond hw hn ht,
    fun _ _ _ _ _ => rfl,
    fun _ _ hg => execControlStoreReload_goes hg⟩

/-- Settles O7: each write passes its checks and has its effect; what ends a check or a load, by the loader's own state. -/
theorem microcodeLoader : Obligations.MicrocodeLoader := by
  unfold Obligations.MicrocodeLoader
  exact ⟨
    fun _ _ _ _ h => after_mcWrite_accepted _ h,
    fun _ _ _ h => after_mcWrite_accepted _ h,
    fun _ hr hl => execMcVerifyComplete_checking hr hl,
    fun _ _ _ h hv hb => execMcLoad_verified h hv hb,
    fun _ _ _ hl hp => execMcLoadComplete_inService hl hp,
    fun _ _ _ h hs => execMcPersist_loaded h hs,
    fun _ _ _ h => after_mcWrite_accepted _ h⟩

/-- Settles O38: every line by the mode and the plan, and a step by whether its sequencer is halted. ERR 09h for a step of one that is not
halted is the model's choice (log entry 70). -/
theorem monitorOfSequencers : Obligations.MonitorOfSequencers := by
  unfold Obligations.MonitorOfSequencers
  exact ⟨
    fun _ _ _ h hk hm hp hr => next_congr (monSeq_runs h hk hm hp hr rfl),
    fun _ _ _ h hk hm hp hr => next_congr (monSeq_runs h hk hm hp hr rfl),
    fun _ _ _ _ h hk hm hp hh hr => next_congr (congrArg State.grave (monSeq_runs h hk hm hp hr (if_pos hh))),
    fun _ _ _ _ h hk hm hp hh hr => next_congr (congrArg State.grave (monSeq_runs h hk hm hp hr (if_neg (by simp [hh])))),
    fun _ _ _ h hk hm hp hr => next_congr (monSeq_runs h hk hm hp hr rfl),
    fun _ _ _ h hk hm hr => next_congr (monSeq_notMaintenance h hk hm hr),
    fun _ _ _ h hk hm hp hr => next_congr (monSeq_noRawPlan h hk hm hp hr)⟩
end

section
/-! Pulses and timers, DMA channels, compression rings and power domains (R393-R412, R421). -/

open Sys2Proof Sys2Proof.Machine

namespace Sys2Proof.Machine

variable {s t : State} {q : Requester} {u : UnitId}

/-- A write accepted by a command whose effect can latch a Grave bit. -/
theorem after_tryKey_accepted {k : Nat} {d : List Byte} (f : State → State) (h : s.Accepts q u k d) :
    State.after (s.tryKey q u k d 0 f) = .next ((f s).answer q 0).grave := by
  rw [tryKey_accepted f h, State.after]

/-! ### Pulses and timers (R394, R395) -/

theorem execEvPulse_unit {e : Nat} (h : s.fabric.find? (fun x => x.1 = u) = some (u, e)) :
    execEvPulse u none s = .next (({ s with fabric := s.fabric.erase (u, e) } : State).deliver u e).grave := by
  simp only [execEvPulse, State.after, h]

theorem execEvPulse_coder {i : Fin 4} (h : (mapGet (fun _ => ({} : CoderSt)) (s.getFab u.code).coder i.val).cols ≠ 0) :
    execEvPulse u (some i) s = .next ((s.coderEnd u i).deliver u (0x64 + i)).grave := by
  simp only [execEvPulse, State.after, if_neg h]

theorem execTimerTick_due {n : Fin 8} (hf : (s.unitSt u).fwRunning = true) (hp : s.rd (Obj.TIMER_PERIOD u n) ≠ 0)
    (hs : (s.rd (Obj.TIMER_SWEEP u)).testBit n = false)
    (hd : mapGet (fun _ => 0) (s.getFab u.code).timers n + s.rd (Obj.TIMER_PERIOD u n) ≤ s.now) :
    execTimerTick u n s =
      .next ((s.modFab u.code (fun f => { f with timers := mapPut (fun _ => 0) f.timers n s.now })).pulse u (0x68 + n)) := by
  simp [execTimerTick, hf, hp, hs, hd]

/-- A timer that is off, or that the sweep reference drives, has no tick of its own. -/
theorem execTimerTick_off {n : Fin 8} (hf : (s.unitSt u).fwRunning = true)
    (h : s.rd (Obj.TIMER_PERIOD u n) = 0 ∨ (s.rd (Obj.TIMER_SWEEP u)).testBit n = true) : execTimerTick u n s = .next s := by
  rcases h with h | h <;> simp [execTimerTick, hf, h]

theorem execTimerWrite_period {i : Fin 9} {v : Word} (h : s.Accepts q u (Obj.TIMER_PERIOD u i) (leBytes 4 v.toNat)) (hi : i.val < 8) :
    execTimerWrite q u i v s =
      .next (((s.wr (Obj.TIMER_PERIOD u i) (leNat (leBytes 4 v.toNat))).modFab u.code (fun f => { f with
        timers := mapPut (fun _ => 0) f.timers i.val s.now })).answer q 0) := by
  simp only [execTimerWrite, if_pos hi, tryKey_accepted _ h, List.foldl_cons, List.foldl_nil]

/-! ### DMA channels (R401-R407) -/

theorem execChArm_idle {n : Fin 32} {l : List (Fin 4 × CoderSetup)}
    (ht : t = s.modFab u.code (fun f => { f with coder := l.foldl (fun m e => mapPut (fun _ => ({} : CoderSt)) m e.1
      { profile := e.2.profile.toNat, cols := e.2.cols.toNat, addrs := e.2.addrs.map BitVec.toNat }) f.coder }))
    (h : t.Accepts q u (Obj.CH_CTRL u n) [1]) (hi : (t.getDma (dmaKey u n)).st = .idle) :
    execChArm q u n l s =
      .next (((t.modDma (dmaKey u n) (fun c => { c with credits := 0 })).dmaLoad u n (t.rd (Obj.DESC_ADDR u n)) true).answer q 0).grave := by
  simp only [execChArm, ← ht, hi, if_true, after_tryKey_accepted _ h]

theorem execChStop_running {n : Fin 32} (h : s.Accepts q u (Obj.CH_CTRL u n) [2]) (hr : (s.getDma (dmaKey u n)).st = .running) :
    execChStop q u n s = .next ((s.modDma (dmaKey u n) (fun c => { c with st := .stopping })).answer q 0).grave := by
  simp only [execChStop, after_tryKey_accepted _ h, hr]

theorem execChStop_waiting {n : Fin 32} (h : s.Accepts q u (Obj.CH_CTRL u n) [2]) (hw : (s.getDma (dmaKey u n)).st = .waitCredit) :
    execChStop q u n s = .next ((s.dmaFail u n [.DMA_STOPPED]).answer q 0).grave := by
  simp only [execChStop, after_tryKey_accepted _ h, hw]

/-- The state in which a channel's burst is carried out: it was the last of its class to be served (R403). -/
def State.dmaTurn (s : State) (u : UnitId) (n : Nat) : State :=
  s.modFab u.code (fun f => { f with turns := mapPut (fun _ => 31) f.turns (s.rd (Obj.PRIORITY u n)) n })

theorem execDmaBurstResponse_served {n : Fin 32} (e : Option BurstErr) (hr : (s.getDma (dmaKey u n)).st = .running)
    (hs : s.dmaServed u n = true) : execDmaBurstResponse u n e s = .next ((s.dmaTurn u n).dmaBurst u n e).grave := by
  simp only [execDmaBurstResponse, State.after, hr, hs, Bool.not_true, Bool.false_eq_true, if_false, State.dmaTurn]

theorem execDmaBurstResponse_notServed {n : Fin 32} (e : Option BurstErr) (hr : (s.getDma (dmaKey u n)).st = .running)
    (hs : s.dmaServed u n = false) : execDmaBurstResponse u n e s = .next s.grave := by
  simp only [execDmaBurstResponse, State.after, hr, hs, Bool.not_false, if_true]

/-- The bytes that a fill writes in one burst: the pattern, from where the element stands in it (R399). -/
def DmaSt.fillBytes (c : DmaSt) : List Byte := (List.range c.burst.2.2).map (fun i => c.desc.getD ((c.off + i) % 8) 0)

/-- A fill of the unit's own buffer whose write is refused fails with the address of the refusal, and with LAST_BEAT_ERR where that lies
in the last beat of the last burst of all (R406, R407). -/
theorem State.dmaBurst_fillRefused {n : Nat} {c : DmaSt} (hc : t.getDma (dmaKey u n) = c) (hf : c.fld 47 1 = 2) (h0 : c.fld 15 1 = 0)
    (hw : (t.engWrite u c.burst.2.1 c.fillBytes).2 = false) :
    t.dmaBurst u n none =
      (let last := c.remain == 0 && c.off + c.burst.2.2 == c.esize && c.fld 56 8 == 0
       let r := (t.engWrite u c.burst.2.1 c.fillBytes).1
       let at_ := (r.getBuf u.code).errAt
       r.dmaBad u n at_ true (last && decide (c.burst.2.1 + c.burst.2.2 ≤ at_ + 64))) := by
  have hfill : c.fill = true := by simp [DmaSt.fill, hf]
  simp only [DmaSt.fillBytes] at hw ⊢
  simp only [State.dmaBurst, State.dmaPut, hc, hfill, hf, h0, hw, if_true, Nat.reduceEqDiff, if_false, Bool.not_false]
  rfl

/-! ### Rings, jobs and power domains (R408-R412, R421) -/

theorem execRingBaseWrite_empty {e : Fin 16} {v : BitVec 64} (h : s.Accepts q u (Obj.RING_BASE u e) (leBytes 8 v.toNat))
    (hr : s.rd (Obj.RING_HEAD u e) = s.rd (Obj.RING_TAIL u e)) (hv : v.toNat % 4096 = 0) :
    execRingBaseWrite q u e v s = .next ((s.wr (Obj.RING_BASE u e) v.toNat).answer q 0) := by
  simp [execRingBaseWrite, hr, hv, tryKey_accepted _ h]

theorem execEngineJobComplete_busy {e : Fin 16} (f : Bool) (b : Option Bool) (h : s.engBusy u e = true) :
    execEngineJobComplete u e f b s = .next (s.jobRun u e f b false).grave := by
  rw [execEngineJobComplete, if_pos h, State.after]

/-- A power-down of a domain that is up and not going down: its idle channels stop, then its jobs in progress end (R409). -/
theorem execDomainPowerDown_up {d : Fin 7} (h : s.Accepts q u (Obj.DOMAIN_REQUEST u) [BitVec.ofNat 8 d])
    (hg : (s.getFab u.code).going.contains d.val = false) (hp : (s.getFab u.code).powered.testBit d = true) :
    execDomainPowerDown q u d s =
      (let t := s.putFab u.code { s.getFab u.code with result := 1, going := (s.getFab u.code).going ++ [d.val] }
       .next (((t.domainStop u d false).forEach ((engOf d).filter (fun e => s.engBusy u e)) (fun s e => s.jobRun u e false none true)).answer
         q 0).grave) := by
  simp only [execDomainPowerDown, after_tryKey_accepted _ h, hg, hp, Bool.not_true, Bool.false_eq_true, if_false]

theorem execDomainPowerDownComplete_going {d : Fin 7} (hg : (s.getFab u.code).going.contains d.val = true) :
    execDomainPowerDownComplete u d s =
      (let t := s.domainStop u d true
       let r := t.modFab u.code (fun f =>
         { f with
           coder := if d.val = 2 then [] else f.coder
           going := f.going.filter (· != d.val), upHeld := f.upHeld.filter (· != d.val), result := 2
           powered := if f.powered.testBit d then f.powered - 2 ^ d.val else f.powered })
       .next (if (t.getFab u.code).upHeld.contains d.val then r.domainUp u d else r).grave) := by
  simp only [execDomainPowerDownComplete, State.after, hg, Bool.not_true, Bool.false_eq_true, if_false]

theorem execDomainPowerUp_now {d : Fin 7} (h : s.Accepts q u (Obj.DOMAIN_REQUEST u) [BitVec.ofNat 8 (128 + d)])
    (hg : (s.getFab u.code).going.contains d.val = false) :
    execDomainPowerUp q u d s = .next ((s.domainUp u d).answer q 0) := by
  simp only [execDomainPowerUp, tryKey_accepted _ h, hg, Bool.false_eq_true, if_false]

theorem execDomainPowerUp_held {d : Fin 7} (h : s.Accepts q u (Obj.DOMAIN_REQUEST u) [BitVec.ofNat 8 (128 + d)])
    (hg : (s.getFab u.code).going.contains d.val = true) :
    execDomainPowerUp q u d s =
      .next ((s.modFab u.code (fun f => if f.upHeld.contains d.val then f else { f with upHeld := f.upHeld ++ [d.val] })).answer q 0) := by
  simp only [execDomainPowerUp, tryKey_accepted _ h, hg, if_true]

end Sys2Proof.Machine

/-- Settles O24: a write by the object that it names, a burst by whose turn it is and whether its write is refused, a domain by whether
it is up or going down. The coder set-up as an operand of CH_ARM, its loss with domain 2, and one burst in flight in the order of its class
are the model's choices (log entries 176, 244 and 173). -/
theorem eventFabricAndDma : Obligations.EventFabricAndDma := by
  unfold Obligations.EventFabricAndDma
  exact ⟨
    fun _ _ _ h => execEvPulse_unit h,
    fun _ _ _ h => execEvPulse_coder h,
    fun _ _ _ _ h => next_congr (tryKey_accepted _ h),
    fun _ _ _ hf hp hs hd => execTimerTick_due hf hp hs hd,
    fun _ _ _ hf h => execTimerTick_off hf h,
    fun _ _ _ _ _ h hi => execTimerWrite_period h hi,
    fun _ _ _ _ _ _ ht h hi => execChArm_idle ht h hi,
    fun _ _ _ _ h hr => execChStop_running h hr,
    fun _ _ _ _ h hw => execChStop_waiting h hw,
    fun _ _ _ e hr hs => execDmaBurstResponse_served e hr hs,
    fun _ _ _ e hr hs => execDmaBurstResponse_notServed e hr hs,
    fun _ _ _ _ _ _ hr hs ht hc hf h0 hd hw => by
      subst ht hd
      exact (execDmaBurstResponse_served none hr hs).trans (next_congr (congrArg State.grave (State.dmaBurst_fillRefused hc hf h0 hw))),
    fun _ _ _ _ _ h => next_congr (tryKey_accepted _ h),
    fun _ _ _ _ _ h hr hv => execRingBaseWrite_empty h hr hv,
    fun _ _ _ f b h => execEngineJobComplete_busy f b h,
    fun _ _ _ _ h hg hp => execDomainPowerDown_up h hg hp,
    fun _ _ _ hg => execDomainPowerDownComplete_going hg,
    fun _ _ _ _ h hg => execDomainPowerUp_now h hg,
    fun _ _ _ _ h hg => execDomainPowerUp_held h hg⟩
end

section
/-! The servo: the Gray code of a wedge, loop products, telemetry and inner frames, with what the standby's shadow computes beside the
active unit, and the banks, commands and timeouts of an actuator (R195-R216, R224, R226, R231, R241-R244, R524, R620). -/

open Sys2Proof Sys2Proof.Machine

namespace Sys2Proof.Machine

/-! ### The Gray code of a track number (R197) -/

/-- The bit at i of a decoded code of n bits: the exclusive or of its bits from i up. -/
def xorFrom (f : Nat → Bool) (n i : Nat) : Bool := (List.range n).foldl (fun x j => if i ≤ j then xor x (f j) else x) false

theorem xorFrom_succ (f : Nat → Bool) (n i : Nat) :
    xorFrom f (n + 1) i = if i ≤ n then xor (xorFrom f n i) (f n) else xorFrom f n i := by
  simp only [xorFrom, List.range_succ, List.foldl_append, List.foldl_cons, List.foldl_nil]

/-- There are no bits above the top. -/
theorem xorFrom_of_le (f : Nat → Bool) {n i : Nat} (h : n ≤ i) : xorFrom f n i = false := by
  induction n with
  | zero => rfl
  | succ n ih => rw [xorFrom_succ, if_neg (by omega), ih (by omega)]

theorem xorFrom_eq_xor_next (f : Nat → Bool) {n i : Nat} (h : i < n) : xorFrom f n i = xor (xorFrom f n (i + 1)) (f i) := by
  induction n with
  | zero => omega
  | succ n ih =>
    rw [xorFrom_succ, xorFrom_succ, if_pos (by omega)]
    rcases Nat.lt_succ_iff_lt_or_eq.mp h with hi | rfl
    · rw [if_pos (by omega), ih hi, Bool.xor_right_comm]
    · rw [if_neg (by omega), xorFrom_of_le f (Nat.le_refl i), xorFrom_of_le f (Nat.le_succ i)]

/-- The number whose bits below n are those that pass a test. -/
def bitsWhere (q : Nat → Bool) (n : Nat) : Nat := ((List.range n).filter q).foldl (fun m i => m + 2 ^ i) 0

theorem bitsWhere_succ (q : Nat → Bool) (n : Nat) : bitsWhere q (n + 1) = bitsWhere q n + if q n then 2 ^ n else 0 := by
  cases h : q n <;> simp [bitsWhere, List.range_succ, List.filter_append, h]

theorem bitsWhere_lt (q : Nat → Bool) (n : Nat) : bitsWhere q n < 2 ^ n := by
  induction n with
  | zero => exact Nat.two_pow_pos 0
  | succ n ih => rw [bitsWhere_succ, Nat.pow_succ]; split <;> omega

theorem testBit_bitsWhere (q : Nat → Bool) {n i : Nat} (h : i < n) : (bitsWhere q n).testBit i = q i := by
  induction n with
  | zero => omega
  | succ n ih =>
    rw [bitsWhere_succ]
    rcases Nat.lt_succ_iff_lt_or_eq.mp h with hi | rfl
    · split
      · rw [Nat.add_comm, Nat.testBit_two_pow_add_gt hi, ih hi]
      · exact ih hi
    · cases hq : q i
      · exact Nat.testBit_lt_two_pow (bitsWhere_lt q i)
      · simp [Nat.add_comm, Nat.testBit_two_pow_add_eq, Nat.testBit_lt_two_pow (bitsWhere_lt q i)]

theorem grayDecode_eq_bitsWhere (g : BitVec 22) : grayDecode g = bitsWhere (xorFrom g.getLsbD 22) 22 := rfl

theorem grayDecode_lt (g : BitVec 22) : grayDecode g < 2 ^ 22 := bitsWhere_lt _ 22

theorem testBit_grayDecode (g : BitVec 22) (i : Nat) : (grayDecode g).testBit i = xorFrom g.getLsbD 22 i := by
  rcases Nat.lt_or_ge i 22 with h | h
  · exact testBit_bitsWhere _ h
  · rw [xorFrom_of_le _ h]
    exact Nat.testBit_lt_two_pow (Nat.lt_of_lt_of_le (grayDecode_lt g) (Nat.pow_le_pow_right (by decide) h))

/-- Each decoded bit is the next higher one, flipped by the code's own. -/
theorem testBit_grayDecode_eq_xor_next (g : BitVec 22) {i : Nat} (h : i < 22) :
    (grayDecode g).testBit i = xor ((grayDecode g).testBit (i + 1)) (g.getLsbD i) := by
  rw [testBit_grayDecode, testBit_grayDecode, xorFrom_eq_xor_next _ h]

theorem testBit_grayDecode_top (g : BitVec 22) : (grayDecode g).testBit 21 = g.getLsbD 21 := by
  rw [testBit_grayDecode_eq_xor_next g (by decide), Nat.testBit_lt_two_pow (grayDecode_lt g), Bool.false_xor]

variable {s t : State} {p : PortId} {a : ActId}

/-! ### The standby's shadow (R243) -/

theorem State.getShadow_shadowAct {k : Nat} (g : State → State) (hr : s.shadowRuns = true) (ho : (t.getSrv k).st ≠ .off) :
    (s.shadowAct t k g).getShadow k = (g s.asStandby).getSrv k := by
  simp [State.shadowAct, hr, ho]

theorem State.getSrv_shadowAct (k j : Nat) (g : State → State) : (s.shadowAct t k g).getSrv j = t.getSrv j := by
  unfold State.shadowAct
  split <;> rfl

theorem State.shadowAct_alone (k : Nat) (g : State → State) (hr : s.shadowRuns = false) : s.shadowAct t k g = t := by
  simp [State.shadowAct, hr]

/-- An event is known by what the active unit's own computation makes of it. -/
theorem conclude_shadowAct_congr {r : State} (k : Nat) (g : State → State) (h : r = t) :
    State.conclude (s.shadowAct r k g) = .next (s.shadowAct t k g).settle := by
  rw [h, State.conclude]

/-- The same where the standby's own comparison may differ (R210, R620). -/
theorem conclude_shadowDiag_congr {r : State} (k : Nat) (g : State → State) (b : Bool) (h : r = t) :
    State.conclude ((s.shadowAct r k g).shadowDiag b) = .next ((s.shadowAct t k g).shadowDiag b).settle := by
  rw [h, State.conclude]

/-! ### Loop products (R207, R210) -/

theorem State.outerProduct_agrees (hd : (s.getSrv (chanKey p a)).outerDone = false) :
    s.outerProduct p a false =
      (let v := s.getSrv (chanKey p a)
       let b := s.bank p a true v.outerBank
       let r := bankProduct b v.outer [v.outerIn, v.aff, v.dr]
       let row := fun i => if i = 0xFF then 0 else r.1.getD i 0
       let t := s.modSrv (chanKey p a) (fun v => { v with
         outerDone := true, outer := r.1, iSet := row (fldU b 353 1), maSet := row (fldU b 354 1), pred := row (fldU b 355 1) })
       (t.saturated p a r.2).safeStep p a) := by
  simp only [State.outerProduct, hd, Bool.false_eq_true, if_false]

theorem State.outerProduct_mismatch (hd : (s.getSrv (chanKey p a)).outerDone = false) :
    s.outerProduct p a true =
      (let t := (s.modSrv (chanKey p a) (fun v => { v with outerDone := true, upset := true })).clearSafe p a
       ((t.incSave (Obj.MISMATCHES p a)).raise (.srv p a) [.SRV_LOOP_MISMATCH]).diag t.pair.active .servoMismatch) := by
  simp only [State.outerProduct, hd, Bool.false_eq_true, if_false, if_true]

/-! ### Telemetry (R203, R204, R235-R237) -/

/-- A block that reports no fault and the head commanded leaves its measurements. -/
theorem State.servoRead_good {b : Option (BitVec 64)} {m : ServoTlm} (hb : b.bind servoTelemetry = some m)
    (hf : (s.getSrv (chanKey p a)).st = .follow) (hs : m.shock = false) (hc : m.cmdCrcErr = false) (hh : m.holding = false)
    (hw : m.wrsetAck = false) (hr : m.selfRetracted = false) (hd : m.head.toNat = (s.getSrv (chanKey p a)).tHead) :
    s.servoRead p a b = s.modSrv (chanKey p a) (fun v => { v with
      tlmBad := 0, iMeas := m.iMeas.toInt, maMeas := m.maSense.toInt, bemf := m.bemf.toInt, isParked := m.parked, wrLock := m.wrLock
      headSeen := m.head.toNat, upset := v.upset }) := by
  simp [State.servoRead, State.parkedStep, hb, hs, hc, hh, hw, hr, hd, hf]

/-- A missing block clears WRITE_SAFE; the second in a row would fail the lane. -/
theorem State.servoRead_missing {b : Option (BitVec 64)} (hb : b.bind servoTelemetry = none)
    (hn : (s.getSrv (chanKey p a)).tlmBad + 1 ≠ 2) :
    s.servoRead p a b = (s.clearSafe p a).modSrv (chanKey p a) (fun v => { v with
      upset := true, tlmBad := (s.getSrv (chanKey p a)).tlmBad + 1 }) := by
  simp only [State.servoRead, hb, if_neg hn]

/-- In FOLLOW, with its outer product done, the inner product starts on the set-points. -/
theorem State.servoBlock_follow {b : Option (BitVec 64)} (hr : s.servoRead p a b = t) (hf : (t.getSrv (chanKey p a)).st = .follow)
    (hd : (t.getSrv (chanKey p a)).outerDone = true) :
    s.servoBlock p a b = t.modSrv (chanKey p a) (fun v => { v with inI := v.iSet, inMa := v.maSet, innerReady := true }) := by
  simp only [State.servoBlock, hr, hf, hd, Bool.not_true, Bool.and_false, Bool.false_eq_true, if_false]

/-! ### Inner frames (R193, R203, R204, R208-R210) -/

/-- An open loop commands zero. -/
theorem State.innerFrame_open {k j : Nat} (l m : Bool) (ho : (s.getSrv (chanKey p a)).st ≠ .off)
    (hi : (s.getSrv (chanKey p a)).st.innerClosed = false)
    (ht : t = s.modSrv (chanKey p a) (fun v => { v with
      innerReady := false, frameAt := s.frameIndex p a k j
      win := some (s.servoWindow p a (s.getSrv (chanKey p a)).timeHead ((k + 1) % 512)) })) :
    s.innerFrame p a k j l m = t.modSrv (chanKey p a) (fun w => { w with
      sent := { vcm := 0, ma := 0, heatRd := w.heatRd, heatWr := w.heatWr, head := w.head
                hold := t.holdField (t.getSrv (chanKey p a)), valid := false }
      retractAsked := false }) := by
  subst ht
  simp [State.innerFrame, ho, hi]

theorem ActState.ne_off_of_innerClosed {x : ActState} (h : x.innerClosed = true) : x ≠ .off := by
  rintro rfl
  exact absurd h (by decide)

/-- A product in time whose paths agree is sent. -/
theorem State.innerFrame_sends {k j : Nat} {l : Bool} (hi : (s.getSrv (chanKey p a)).st.innerClosed = true)
    (hl : s.innerLate (s.getSrv (chanKey p a)) l = false)
    (ht : t = s.modSrv (chanKey p a) (fun v => { v with
      innerReady := false, frameAt := s.frameIndex p a k j
      win := some (s.servoWindow p a (s.getSrv (chanKey p a)).timeHead ((k + 1) % 512)) })) :
    s.innerFrame p a k j l false =
      (let v := t.getSrv (chanKey p a)
       let b := t.bank p a false v.innerBank
       let meas := fun x : Int => roundDiv (x * 65536) 32767
       let r := bankProduct b v.inner [v.inI - meas v.iMeas, v.inMa - meas v.maMeas, v.inMa]
       let row := fun i => if i = 0xFF then 0 else r.1.getD i 0
       let c := cmdCode (row (fldU b 353 1))
       let m := cmdCode (row (fldU b 354 1))
       (t.modSrv (chanKey p a) (fun w => { w with
         inner := r.1, safeHeld := 0
         sent := { vcm := c.1, ma := m.1, heatRd := w.heatRd, heatWr := w.heatWr, head := w.head, hold := t.holdField v, valid := true }
         })).saturated p a (r.2 + c.2 + m.2)) := by
  have ho := ActState.ne_off_of_innerClosed hi
  subst ht
  simp only [State.innerFrame, hl, if_neg ho, State.getSrv_modSrv, hi, Bool.not_true, Bool.false_eq_true, if_false]

/-- Eight repeated blocks retract the heads (R524). -/
theorem State.safeHoldEnd_retracts (hi : (s.getSrv (chanKey p a)).st.innerClosed = true)
    (hv : (s.getSrv (chanKey p a)).sent.valid = false) (h8 : 8 ≤ (s.getSrv (chanKey p a)).safeHeld) :
    s.safeHoldEnd p a = s.srvRetract p a := by
  simp only [State.safeHoldEnd, hi, hv, h8, Bool.not_false, decide_true, Bool.and_self, if_true]

/-! ### Banks and commands (R212, R213, R216, R244) -/

variable {q : Requester} {u : UnitId}

theorem conclude_tryKey_accepted {k : Nat} {d : List Byte} (f : State → State) (h : s.Accepts q u k d) :
    State.conclude (s.tryKey q u k d 0 f) = .next ((f s).answer q 0).settle := by
  rw [tryKey_accepted f h, State.conclude]

/-- No bank is in use while the actuator is OFF. -/
theorem execBankWrite_off {b : Fin 4} {d : List Byte} (h : s.Accepts q u (bankKey p a (decide (b.val < 2)) (b.val % 2)) d)
    (ho : (s.getSrv (chanKey p a)).st = .off) (hx : (s.getSrv (chanKey p a)).swapOuter = none)
    (hi : (s.getSrv (chanKey p a)).swapInner = none) :
    execBankWrite q u p a b d s =
      .next (((s.wrBlob (bankKey p a (decide (b.val < 2)) (b.val % 2)) d).stage
        (bankKey p a (decide (b.val < 2)) (b.val % 2))).answer q 0).settle := by
  simp only [execBankWrite, ho, hx, hi, ActState.outerClosed, ActState.innerClosed, ite_self, Option.isSome_none,
    Bool.and_false, Bool.or_self, Bool.false_eq_true, if_false, conclude_tryKey_accepted _ h]

/-- Both loops are OPEN while the actuator is OFF, and banks that pass their checks change places. -/
theorem execBankSwap_off (h : s.Accepts q u (Obj.BANK_SWAP p a) [3]) (ho : (s.getSrv (chanKey p a)).st = .off)
    (hx : bankOk true (s.bank p a true (1 - (s.getSrv (chanKey p a)).outerBank)) = true)
    (hi : bankOk false (s.bank p a false (1 - (s.getSrv (chanKey p a)).innerBank)) = true) :
    execBankSwap q u p a 3 s =
      .next ((s.modSrv (chanKey p a) (fun w => { w with
        outerBank := 1 - w.outerBank, innerBank := 1 - w.innerBank })).answer q 0).settle := by
  obtain ⟨hm, he⟩ := h
  replace he : s.writeErr u (keyIndex (Obj.BANK_SWAP p a)) (keySub (Obj.BANK_SWAP p a)) q [3#8] = 0 := he
  simp [execBankSwap, State.conclude, hold_now _ _ hm, he, hx, hi, ho, ActState.outerClosed, ActState.innerClosed]

/-! ### Timeouts (R216, R224, R231) -/

theorem State.loadOverrun_due (hs : (s.getSrv (chanKey p a)).st = .loading)
    (ht : s.srvFor (s.getSrv (chanKey p a)) (1000 * s.rd (Obj.LOAD_TIMEOUT p a)) = true) :
    s.loadOverrun p a = (s.modSrv (chanKey p a) (fun v => { v with loadFails := v.loadFails + 1 })).srvTo p a .unloading := by
  simp only [State.loadOverrun, hs, ht, decide_true, Bool.and_self, if_true]

theorem State.acquireOverrun_due (hs : (s.getSrv (chanKey p a)).st = .acquire)
    (ht : s.srvFor (s.getSrv (chanKey p a)) (1000 * s.rd (Obj.ACQ_TIMEOUT p a)) = true) :
    s.acquireOverrun p a = s.srvRetract p a := by
  simp only [State.acquireOverrun, hs, ht, decide_true, Bool.and_self, if_true]

theorem State.seekOverrun_due (hs : (s.getSrv (chanKey p a)).st = .seek)
    (ht : s.srvFor (s.getSrv (chanKey p a)) (1000 * s.rd (Obj.SEEK_TIMEOUT p a)) = true) :
    s.seekOverrun p a = ((s.incSave (Obj.SEEK_TIMEOUTS p a)).raise (.srv p a) [.SRV_SEEK_TIMEOUT]).srvTo p a .acquire := by
  simp only [State.seekOverrun, hs, ht, decide_true, Bool.true_or, Bool.and_self, if_true]

theorem State.unloadOverrun_due (hs : (s.getSrv (chanKey p a)).st = .unloading)
    (ht : s.srvFor (s.getSrv (chanKey p a)) 300000 = true) :
    s.unloadOverrun p a = s.srvRetract p a (s.getSrv (chanKey p a)).stopOrdered := by
  simp only [State.unloadOverrun, hs, ht, decide_true, Bool.and_self, if_true]

theorem State.retractOverrun_due (hs : (s.getSrv (chanKey p a)).st = .pn2Retract)
    (ht : s.srvFor (s.getSrv (chanKey p a)) 1000000 = true) : s.retractOverrun p a = s.srvFault p a := by
  simp only [State.retractOverrun, hs, ht, decide_true, Bool.and_self, if_true]

theorem State.heaterEnd_due (ht : (s.getSrv (chanKey p a)).heaterFrom + s.rd (Obj.HEATER_SETTLE p a) ≤ s.now) :
    s.heaterEnd p a = s.modSrv (chanKey p a) (fun v => { v with heaterWait := false }) := if_pos ht

end Sys2Proof.Machine

/-- Settles O56: a decoded bit is the parity of the code's bits from it up, which differs from that of the next by the bit itself. -/
theorem grayCodeOfTracks : Obligations.GrayCodeOfTracks := by
  unfold Obligations.GrayCodeOfTracks
  exact ⟨testBit_grayDecode_top, fun g _ h => testBit_grayDecode_eq_xor_next g (Nat.lt_succ_of_lt h), grayDecode_lt⟩

/-- Settles O9: each event by what the active unit's own computation makes of it, and the shadow by the standby's run of the same. The
old head's timing of the first decode after a head switch is the model's choice (log entry 120). -/
theorem servoLoopEvents : Obligations.ServoLoopEvents := by
  unfold Obligations.ServoLoopEvents
  exact ⟨
    fun _ _ _ _ _ => conclude_shadowAct_congr _ _ rfl,
    fun _ _ _ _ hd => conclude_shadowDiag_congr _ _ _ (State.outerProduct_agrees hd),
    fun _ _ _ _ hd => conclude_shadowDiag_congr _ _ _ (State.outerProduct_mismatch hd),
    fun _ _ k g hr ho => ⟨State.getShadow_shadowAct g hr ho, State.getSrv_shadowAct k k g⟩,
    fun _ _ k g hr => State.shadowAct_alone k g hr,
    fun _ _ _ _ _ _ hb hf ho hs hc hh hw hr hd =>
      conclude_shadowAct_congr _ _ (State.servoBlock_follow (State.servoRead_good hb hf hs hc hh hw hr hd)
        (by rw [State.getSrv_modSrv]; exact hf) (by rw [State.getSrv_modSrv]; exact ho)),
    fun _ _ _ _ _ _ hb hn ht hf ho =>
      conclude_shadowAct_congr _ _ (State.servoBlock_follow ((State.servoRead_missing hb hn).trans ht.symm) hf ho),
    fun _ _ _ _ _ _ _ _ ho hi ht => conclude_shadowDiag_congr _ _ _ (State.innerFrame_open _ _ ho hi ht),
    fun _ _ _ _ _ _ _ _ hi hl ht => conclude_shadowDiag_congr _ _ _ (State.innerFrame_sends hi hl ht),
    fun _ _ _ hi hv h8 => conclude_shadowAct_congr _ _ (State.safeHoldEnd_retracts hi hv h8)⟩

/-- Settles O10: banks and commands by the checks of their writes, a timeout by the state that it runs in and the time spent there. -/
theorem actuatorCommandsAndTimeouts : Obligations.ActuatorCommandsAndTimeouts := by
  unfold Obligations.ActuatorCommandsAndTimeouts
  exact ⟨
    fun _ _ _ _ _ _ _ h ho hx hi => execBankWrite_off h ho hx hi,
    fun _ _ _ _ _ h ho hx hi => execBankSwap_off h ho hx hi,
    fun _ _ _ _ _ h => conclude_tryKey_accepted _ h,
    fun _ _ _ _ _ h => conclude_tryKey_accepted _ h,
    fun _ _ _ _ _ h => conclude_tryKey_accepted _ h,
    fun _ _ _ hs ht => conclude_shadowAct_congr _ _ (State.loadOverrun_due hs ht),
    fun _ _ _ hs ht => conclude_shadowAct_congr _ _ (State.acquireOverrun_due hs ht),
    fun _ _ _ hs ht => conclude_shadowAct_congr _ _ (State.seekOverrun_due hs ht),
    fun _ _ _ hs ht => conclude_shadowAct_congr _ _ (State.unloadOverrun_due hs ht),
    fun _ _ _ hs ht => conclude_shadowAct_congr _ _ (State.retractOverrun_due hs ht),
    fun _ _ _ ht => conclude_shadowAct_congr _ _ (State.heaterEnd_due ht),
    fun _ _ _ _ _ _ => rfl⟩
end

section
/-! The spindles: what a timeout of a start, a stop or a re-catch makes of a drive, and what a telemetry block makes of it and of the
standby's shadow beside it (R250, R257, R259, R260, R263, R269, R271, R273). -/

open Sys2Proof Sys2Proof.Machine

namespace Sys2Proof.Machine

variable {s : State} {p : PortId}

/-! ### Timeouts (R259, R260, R263, R269) -/

/-- A timeout whose condition is met does what it is for. -/
theorem State.conclude_if_due {c : Bool} {t : State} (h : c = true) : (if c then t else s).conclude = .next t.settle := by
  rw [if_pos h, State.conclude]

/-- The same for one that runs in a single drive state, for a time there. -/
theorem State.conclude_if_in {x : SpdState} {b : Bool} {t : State} (hs : (s.getSpd p).st = x) (hb : b = true) :
    (if (s.getSpd p).st = x && b then t else s).conclude = .next t.settle :=
  State.conclude_if_due (by rw [hb, Bool.and_true]; exact decide_eq_true hs)

theorem State.rampFail_align (hs : (s.getSpd p).st = .ramp) (ht : s.spdFor p (1000 * s.rd (Obj.RAMP_MAX p)) = true)
    (hn : (s.getSpd p).rampFails < 2) :
    s.rampFail p = (s.spdTo p .align).modSpd p (fun q => { q with
      rampFails := q.rampFails + 1, bridge := .drive 0, phase := 0, duty := s.rd (Obj.ALIGN_DUTY p), commAt := none }) := by
  have h3 : ¬ 3 ≤ (s.getSpd p).rampFails + 1 := by omega
  simp [State.rampFail, hs, ht, h3]

theorem State.rampFail_third (hs : (s.getSpd p).st = .ramp) (ht : s.spdFor p (1000 * s.rd (Obj.RAMP_MAX p)) = true)
    (hn : 2 ≤ (s.getSpd p).rampFails) : s.rampFail p = s.startFail p .rotorLost := by
  have h3 : 3 ≤ (s.getSpd p).rampFails + 1 := by omega
  simp [State.rampFail, hs, ht, h3]

/-! ### Telemetry and the shadow (R250, R257, R263, R273) -/

@[simp] theorem State.getSpdShadow_modSpd (s : State) (k : Nat) (f : SpdSt → SpdSt) :
    (s.modSpd k f).getSpdShadow k = f (s.getSpdShadow k) := mapGet_mapPut _ _ _ _

@[simp] theorem State.rd_modSpd (s : State) (k j : Nat) (f : SpdSt → SpdSt) : (s.modSpd k f).rd j = s.rd j := rfl

/-- The readings that a telemetry block loads. -/
def MotorTlm.load (b : MotorTlm) (q : SpdSt) : SpdSt :=
  { q with iPhase := b.iPhase.toInt, iBus := b.iBus.toInt, vBus := b.vBus.toNat, bemf := b.bemf.toNat }

theorem State.quietStep_quiet {b : MotorTlm} (hz : b.zc = none) (hb : b.bemf.toNat * 100 < s.rd (Obj.BEMF_TARGET p)) :
    s.quietStep p b = s := by
  have h : ¬ s.rd (Obj.BEMF_TARGET p) ≤ 100 * b.bemf.toNat := by omega
  simp [State.quietStep, hz, h]

theorem State.regenStep_forward {i : Int} (hi : -10 ≤ i) : s.regenStep p i = s.modSpd p (fun q => { q with regen := 0 }) := by
  have h : ¬ i < -10 := by omega
  simp [State.regenStep, h]

theorem State.getSpd_brakeFrame_locked (hs : (s.getSpd p).st = .locked) : (s.brakeFrame p).getSpd p = s.getSpd p := by
  simp [State.brakeFrame, hs]

/-- Without a crossing and with CLAMP 1 a block has no part in a window. -/
theorem State.motorTlm_noCrossing {b : MotorTlm} (q : SpdSt) (hz : b.zc = none) (hc : b.clamp = true) :
    s.motorTlm p q b =
      (let r := (((s.modSpd p b.load).quietStep p b).brakeFrame p).regenStep p b.iBus.toInt
       if (r.getSpd p).st = .trackForward then r.trackSpin p else r) := by
  simp only [State.motorTlm, hz, hc, Bool.not_true, Bool.false_eq_true, if_false]
  rfl

/-- In LOCKED, at a low back-EMF and without current back to the supply, such a block leaves, besides the readings and the count of R257,
what a frame does to a spindle that brakes: nothing to this one, but not nothing to a shadow in another state. -/
theorem State.motorTlm_quiet {b : MotorTlm} (hs : (s.getSpd p).st = .locked) (hz : b.zc = none) (hc : b.clamp = true)
    (hb : b.bemf.toNat * 100 < s.rd (Obj.BEMF_TARGET p)) (hi : -10 ≤ b.iBus.toInt) :
    s.motorTlm p (s.getSpd p) b = ((s.modSpd p b.load).brakeFrame p).modSpd p (fun q => { q with regen := 0 }) := by
  have hq : (s.modSpd p b.load).quietStep p b = s.modSpd p b.load := State.quietStep_quiet hz hb
  have hl : ((s.modSpd p b.load).getSpd p).st = .locked := by rw [State.getSpd_modSpd]; exact hs
  rw [State.motorTlm_noCrossing _ hz hc, hq, State.regenStep_forward hi]
  exact if_neg (by rw [State.getSpd_modSpd, State.getSpd_brakeFrame_locked hl, hl]; decide)

/-- A shadow that stops coasts once a probe is due (R263, R271). -/
theorem State.bridge_brakeFrame_shadow (hs : (s.getSpdShadow p).st = .stopping) (ht : (s.getSpdShadow p).probeAt + 10000 ≤ s.now) :
    ((s.brakeFrame p).getSpdShadow p).bridge = .coast := by
  simp [State.brakeFrame, hs, ht]

/-- So a quiet block takes a shadow that stops off its brake, and does more than load the readings. -/
theorem State.motorTlm_quiet_ne {b : MotorTlm} (hs : (s.getSpd p).st = .locked) (hz : b.zc = none) (hc : b.clamp = true)
    (hb : b.bemf.toNat * 100 < s.rd (Obj.BEMF_TARGET p)) (hi : -10 ≤ b.iBus.toInt) (hw : (s.getSpdShadow p).st = .stopping)
    (ht : (s.getSpdShadow p).probeAt + 10000 ≤ s.now) (hn : (s.getSpdShadow p).bridge ≠ .coast) :
    s.motorTlm p (s.getSpd p) b ≠ (s.modSpd p b.load).modSpd p (fun q => { q with regen := 0 }) := by
  intro he
  have hcoast : (((s.modSpd p b.load).brakeFrame p).getSpdShadow p).bridge = .coast :=
    State.bridge_brakeFrame_shadow (by rw [State.getSpdShadow_modSpd]; exact hw) (by rw [State.getSpdShadow_modSpd]; exact ht)
  have hkept := congrArg (fun t : State => (t.getSpdShadow p).bridge) ((State.motorTlm_quiet hs hz hc hb hi).symm.trans he)
  simp only [State.getSpdShadow_modSpd, hcoast] at hkept
  exact hn hkept.symm

/-- A spindle in LOCKED whose shadow stops, in short-brake, with a probe due. -/
def shadowStops : State :=
  { ((State.reset.wr (Obj.BEMF_TARGET 0) 100).putSpd 0 { st := .locked }).putSpdShadow 0 { st := .stopping, bridge := .shortBrake } with
    now := 10000 }

/-- A block that reports no crossing, no current and no back-EMF. -/
def silentBlock : MotorTlm := { zc := none, clamp := true, iPhase := 0, iBus := 0, vBus := 0, bemf := 0 }

end Sys2Proof.Machine

/-- Refutes O11, by its clause on the readings of a quiet block (R250): the state is LOCKED, and the shadow, which stops with a probe due,
goes from short-brake to coast where the clause has it as it was. -/
theorem not_spindleControl : ¬ Obligations.SpindleControl := by
  unfold Obligations.SpindleControl
  rintro ⟨-, -, hload, -⟩
  have hs : (shadowStops.getSpd 0).st = .locked := rfl
  have hb : silentBlock.bemf.toNat * 100 < shadowStops.rd (Obj.BEMF_TARGET 0) := by decide
  have hi : -10 ≤ silentBlock.iBus.toInt := by decide
  have hw : (shadowStops.getSpdShadow 0).st = .stopping := rfl
  have ht : (shadowStops.getSpdShadow 0).probeAt + 10000 ≤ shadowStops.now := by decide
  have hn : (shadowStops.getSpdShadow 0).bridge ≠ .coast := by decide
  exact State.motorTlm_quiet_ne (p := 0) hs rfl rfl hb hi hw ht hn (hload shadowStops 0 silentBlock hs rfl rfl hb hi)

/-- Settles O12: a timeout by the state that it runs in and the time spent there (log entries 1 and 3), a ramp by how many of its grant
have failed, the sweep edge by its own computation. -/
theorem spindleTimeouts : Obligations.SpindleTimeouts := by
  unfold Obligations.SpindleTimeouts
  exact ⟨
    fun _ _ hs ht => State.conclude_if_in hs ht,
    fun _ _ hs ht => State.conclude_if_in hs (decide_eq_true ht),
    fun _ _ hs ht => State.conclude_if_in hs ht,
    fun _ _ hs ht => State.conclude_if_in hs ht,
    fun _ _ hs ht hn => next_congr (congrArg State.settle (State.rampFail_align hs ht hn)),
    fun _ _ hs ht hn => next_congr (congrArg State.settle (State.rampFail_third hs ht hn)),
    fun _ _ hg ht => State.conclude_if_due (by rw [hg, decide_eq_true ht]; rfl),
    fun _ _ hs hr ht => State.conclude_if_due (by rw [hs, hr, decide_eq_true ht]; rfl),
    fun _ _ hs ht => State.conclude_if_in hs ht,
    fun _ _ _ _ h => next_congr (tryKey_accepted _ h),
    fun _ => rfl⟩
end

section
/-! The order of keys (R282): the lexicographic order of byte strings; what a descriptor put in place, a key put in place and the cut
to what fits keep of it (R340). -/

open Sys2Proof Sys2Proof.Machine

namespace Sys2Proof.Machine

/-! ### The order -/

/-- The bytes of a key as numbers: keys compare as these lists do. -/
def keyNats (k : List Byte) : List Nat := k.map BitVec.toNat

theorem keyNats_inj {a b : List Byte} : keyNats a = keyNats b ↔ a = b := List.map_inj_right fun _ _ => BitVec.eq_of_toNat_eq

theorem keyLe_cons_eq_false (x y : Byte) (a b : List Byte) :
    keyLe (x :: a) (y :: b) = false ↔ y.toNat < x.toNat ∨ y.toNat = x.toNat ∧ keyLe a b = false := by
  simp only [keyLe, BitVec.ult, Bool.or_eq_false_iff, Bool.and_eq_false_imp, decide_eq_false_iff_not, beq_iff_eq,
    ← BitVec.toNat_inj]
  constructor
  · rintro ⟨hle, heq⟩
    exact (Nat.lt_or_eq_of_le (Nat.not_lt.mp hle)).imp_right fun h => ⟨h, heq h.symm⟩
  · rintro (h | ⟨h, hk⟩)
    · exact ⟨Nat.lt_asymm h, fun he => absurd he (Nat.ne_of_gt h)⟩
    · exact ⟨Nat.not_lt.mpr (Nat.le_of_eq h), fun _ => hk⟩

/-- The order of R282 is the library's order of lists. -/
theorem keyLe_eq_false_iff (a b : List Byte) : keyLe a b = false ↔ keyNats b < keyNats a := by
  induction a generalizing b with
  | nil => simp [keyLe, keyNats]
  | cons x a ih =>
    cases b with
    | nil => simp [keyLe, keyNats]
    | cons y b =>
      rw [keyLe_cons_eq_false, ih]
      exact List.cons_lt_cons_iff.symm

/-- `keyLe` between different keys, the order of an index, is the strict one. -/
theorem keyLe_and_ne_iff (a b : List Byte) : keyLe a b = true ∧ a ≠ b ↔ keyNats a < keyNats b := by
  rw [← Bool.not_eq_false, keyLe_eq_false_iff]
  constructor
  · rintro ⟨hle, hne⟩
    exact Classical.byContradiction fun hge => hne (keyNats_inj.mp (List.le_antisymm hle hge))
  · intro h
    exact ⟨List.lt_asymm h, fun he => List.lt_irrefl _ (he ▸ h)⟩

/-- Only what follows a common beginning counts. -/
theorem keyLe_append_left (a b c : List Byte) : keyLe (a ++ b) (a ++ c) = keyLe b c := by
  induction a with
  | nil => rfl
  | cons x a ih => simp [keyLe, BitVec.ult, ih]

/-- A key is not after what it is a beginning of (R282). -/
theorem keyLe_append_right (a b : List Byte) : keyLe a (a ++ b) = true ∧ (b ≠ [] → keyLe (a ++ b) a = false) := by
  have h : keyLe a (a ++ b) = keyLe [] b ∧ keyLe (a ++ b) a = keyLe b [] := by
    constructor
    · simpa using keyLe_append_left a [] b
    · simpa using keyLe_append_left a b []
  rw [h.1, h.2]
  cases b with
  | nil => exact ⟨rfl, fun hb => absurd rfl hb⟩
  | cons x b => exact ⟨rfl, fun _ => rfl⟩

/-- The first byte that differs decides (R282). -/
theorem keyLe_of_byte_lt (a b c : List Byte) {x y : Byte} (h : x.toNat < y.toNat) :
    keyLe (a ++ x :: b) (a ++ y :: c) = true ∧ keyLe (a ++ y :: c) (a ++ x :: b) = false := by
  have hlt : keyNats (x :: b) < keyNats (y :: c) := List.cons_lt_cons_iff.mpr (.inl h)
  rw [keyLe_append_left, keyLe_append_left]
  exact ⟨((keyLe_and_ne_iff _ _).mpr hlt).1, (keyLe_eq_false_iff _ _).mpr hlt⟩

/-! ### Rising lists of keys -/

/-- A list of keys in ascending order without repeats. -/
def Rising (l : List (List Byte)) : Prop := l.Pairwise (fun a b => keyLe a b = true ∧ a ≠ b)

theorem rising_iff {l : List (List Byte)} : Rising l ↔ l.Pairwise (fun a b => keyNats a < keyNats b) := by
  rw [Rising]; simp only [keyLe_and_ne_iff]

theorem Rising.sublist {l m : List (List Byte)} (h : Rising m) (s : l.Sublist m) : Rising l := List.Pairwise.sublist s h

theorem rising_cons {k : List Byte} {l : List (List Byte)} : Rising (k :: l) ↔ (∀ a ∈ l, keyNats k < keyNats a) ∧ Rising l := by
  rw [rising_iff, rising_iff, List.pairwise_cons]

/-- Two rising lists with a key between them. -/
theorem Rising.append_cons {l m : List (List Byte)} {k : List Byte} (hl : Rising l) (hm : Rising m)
    (hk : ∀ a ∈ l, keyNats a < keyNats k) (hm' : ∀ b ∈ m, keyNats k < keyNats b) : Rising (l ++ k :: m) := by
  rw [rising_iff] at *
  refine List.pairwise_append.mpr ⟨hl, List.pairwise_cons.mpr ⟨hm', hm⟩, fun a ha b hb => ?_⟩
  rcases List.mem_cons.mp hb with rfl | hb
  · exact hk a ha
  · exact List.lt_trans (hk a ha) (hm' b hb)

/-- A descriptor put into an index in ascending order leaves it so (R282). -/
theorem rising_putValue {l : List ValueDesc} (v : ValueDesc) (h : Rising (l.map ValueDesc.key)) :
    Rising ((putValue l v).map ValueDesc.key) := by
  have others (p : ValueDesc → Bool) : Rising (((l.filter (fun w => w.key != v.key)).filter p).map ValueDesc.key) :=
    h.sublist ((List.filter_sublist.trans List.filter_sublist).map _)
  simp only [putValue, List.append_assoc, List.singleton_append, List.map_append, List.map_cons]
  refine (others _).append_cons (others _) ?before ?after
  case before =>
    simp only [List.mem_map, List.mem_filter, bne_iff_ne]
    rintro _ ⟨w, ⟨⟨-, hne⟩, hle⟩, rfl⟩
    exact (keyLe_and_ne_iff _ _).mp ⟨hle, hne⟩
  case after =>
    simp only [List.mem_map, List.mem_filter, Bool.not_eq_true']
    rintro _ ⟨w, ⟨-, hle⟩, rfl⟩
    exact (keyLe_eq_false_iff _ _).mp hle

theorem mem_insertKey {k a : List Byte} {l : List (List Byte)} (h : a ∈ insertKey k l) : a = k ∨ a ∈ l := by
  induction l with
  | nil => simpa [insertKey] using h
  | cons b l ih =>
    rw [insertKey] at h
    split at h
    · exact .inr h
    · split at h
      · exact List.mem_cons.mp h
      · rcases List.mem_cons.mp h with rfl | h
        · exact .inr List.mem_cons_self
        · exact (ih h).imp_right (List.mem_cons_of_mem _)

theorem Rising.insertKey {l : List (List Byte)} (k : List Byte) (h : Rising l) : Rising (insertKey k l) := by
  induction l with
  | nil => exact List.pairwise_singleton _ _
  | cons b l ih =>
    obtain ⟨hb, hl⟩ := rising_cons.mp h
    rw [Machine.insertKey]
    by_cases he : k = b
    · rw [if_pos (beq_iff_eq.mpr he)]
      exact h
    rw [if_neg (mt beq_iff_eq.mp he)]
    cases hle : keyLe k b with
    | true =>
      have hk : keyNats k < keyNats b := (keyLe_and_ne_iff _ _).mp ⟨hle, he⟩
      rw [if_pos rfl]
      refine rising_cons.mpr ⟨fun a ha => ?_, h⟩
      rcases List.mem_cons.mp ha with rfl | ha
      · exact hk
      · exact List.lt_trans hk (hb a ha)
    | false =>
      have hk : keyNats b < keyNats k := (keyLe_eq_false_iff _ _).mp hle
      rw [if_neg Bool.false_ne_true]
      refine rising_cons.mpr ⟨fun a ha => ?_, ih hl⟩
      rcases mem_insertKey ha with rfl | ha
      · exact hk
      · exact hb a ha

/-- The keys that a command observes rise when the index does: those of the table are put in their places (R282, R346). -/
theorem State.rising_keysOf {s : State} {n : Nat} (h : Rising ((s.os.values n).map ValueDesc.key)) : Rising (s.keysOf n) := by
  have merged (table : List (List Byte)) {l : List (List Byte)} (hl : Rising l) :
      Rising (table.foldl (fun l k => Machine.insertKey k l) l) := by
    induction table generalizing l with
    | nil => exact hl
    | cons k table ih => exact ih (hl.insertKey k)
  exact (merged _ h).sublist List.filter_sublist

/-- What fits of a list of keys keeps its order. -/
theorem keysFit_sublist (room : Nat) (l : List (List Byte)) : (keysFit room l).Sublist l := by
  induction l generalizing room with
  | nil => exact List.Sublist.refl _
  | cons k l ih =>
    rw [keysFit]
    split
    · exact (ih _).cons_cons k
    · exact List.nil_sublist _

/-- The keys that List returns: those observed from a given one on, as many as fit (R340). -/
def State.listed (s : State) (n len : Nat) (key : List Byte) : List (List Byte) :=
  keysFit (len - 4) ((s.keysOf n).filter (fun k => keyLe key k))

theorem State.rising_listed {s : State} {n : Nat} (len : Nat) (key : List Byte) (h : Rising ((s.os.values n).map ValueDesc.key)) :
    Rising (s.listed n len key) :=
  (State.rising_keysOf h).sublist ((keysFit_sublist _ _).trans List.filter_sublist)

theorem State.mem_listed {s : State} {n len : Nat} {key k : List Byte} (h : k ∈ s.listed n len key) :
    k ∈ s.keysOf n ∧ keyLe key k = true := List.mem_filter.mp ((keysFit_sublist _ _).subset h)

end Sys2Proof.Machine

/-- Settles O55: the order is that of byte strings, an index keeps it when a descriptor is put in its place, and List returns,
in order, keys that the command observes from its key on, in a format that is the model's choice (log entry 94). -/
theorem keysListedInOrder : Obligations.KeysListedInOrder := by
  unfold Obligations.KeysListedInOrder
  exact ⟨
    keyLe_append_right,
    fun a b c _ _ h => keyLe_of_byte_lt a b c h,
    fun _ v h => rising_putValue v h,
    fun _ _ h => State.rising_keysOf h,
    fun s t n len key hk h =>
      ⟨s.listed n len key, State.rising_listed len key h, fun _ => State.mem_listed, State.runList_served t len hk⟩⟩
end

section
/-! The upkeep of the object service: namespaces, waits, the coder, rebuild, checkpoints, compaction, members and index recovery (R279,
R289, R307, R309, R310, R313, R316, R318, R319, R321-R323, R325-R327, R435). -/

open Sys2Proof Sys2Proof.Machine

namespace Sys2Proof.Machine

variable {s : State}

/-! ### Namespaces (R279) -/

theorem execNsCreate_unused {q : Requester} {u : UnitId} {n : Fin 16} (h : s.Accepts q u (Obj.NS_COMMAND n) [1])
    (hn : s.os.nsStateOf n = 0) : execNsCreate q u n s = .next ((s.nsTo n 1).answer q 0) := by
  rw [execNsCreate, if_pos hn, tryKey_accepted _ h]

theorem execNsDelete_active {q : Requester} {u : UnitId} {n : Fin 16} (h : s.Accepts q u (Obj.NS_COMMAND n) [2])
    (hn : s.os.nsStateOf n = 1) : execNsDelete q u n s = .next ((s.nsDelete n).answer q 0) := by
  rw [execNsDelete, if_pos hn, tryKey_accepted _ h]

theorem execNsDeletionComplete_idle {n : Fin 16} (hn : s.os.nsStateOf n = 2)
    (hc : s.cmds.any (fun c => (c.kind == .store || c.kind == .delete) && c.ns == n.val) = false) :
    execNsDeletionComplete n s = .next ((s.dropNamespace n).nsTo n 0) := by
  simp only [execNsDeletionComplete, hn, hc, ne_eq, not_true_eq_false, decide_false, Bool.or_false, Bool.false_eq_true, if_false]

/-! ### Waits (R289, R313, R319, R307) -/

theorem State.sealPack_open {n k : Nat} (h : s.os.openPack n = some k) : s.sealPack n = s.closeChunk k (s.sorus k).hint := by
  simp only [State.sealPack, h]

theorem execPackWaitExpiry_due {n : Fin 16} {k : Nat} (h : s.os.openPack n = some k)
    (ht : (s.sorus k).since + (s.sorus k).packWait ≤ s.now) :
    execPackWaitExpiry n s = .next (s.closeChunk k (s.sorus k).hint) := by
  simp only [execPackWaitExpiry, h, if_pos ht, State.sealPack_open h]

/-- The fragments of a sealed sorus that have no check yet are missing, and their checks are dropped (R313). -/
theorem State.lateLimit_due {n : Nat} (hs : (s.sorus n).sealed = true)
    (ht : (s.sorus n).sealedAt + s.rd Obj.LATE_LIMIT ≤ s.rd Obj.SWEEP_COUNT) :
    s.lateLimit n =
      (let x := s.sorus n
       let late := (x.frags.map Prod.fst).filter (fun f => !x.checked.testBit f && !x.missing.testBit f)
       let t := { s with chan := s.chan.map (fun (e : Nat × ChanSt) =>
         (e.1, { e.2 with checks := e.2.checks.filter (fun (c : FragCheck) => c.sorus != n) })) }
       (t.forEach late (fun s f => s.fragMissing n f)).releaseChunk n) := by
  have h : (!(s.sorus n).sealed || decide (s.rd Obj.SWEEP_COUNT < (s.sorus n).sealedAt + s.rd Obj.LATE_LIMIT)) = false := by
    simp [hs, ht]
  simp only [State.lateLimit, h, Bool.false_eq_true, if_false]

theorem execLateLimitExpiry_known {a b n : Nat} (h : s.os.byId a b = some n) :
    execLateLimitExpiry a b s = .next (s.lateLimit n).settle := by
  simp only [execLateLimitExpiry, h, State.conclude]

theorem execWidthWaitExpiry_due {t : CmdTag} (hc : s.cmds.any (fun c =>
      c.tag == t && c.kind == .store && c.held && decide (c.heldAt + 1000 * s.rd Obj.WIDTH_WAIT ≤ s.now)) = true)
    (hw : s.width < 13) : execWidthWaitExpiry t s = .next ((s.complete t .notReady).settleCmds.settle) := by
  simp only [execWidthWaitExpiry, hc, decide_eq_true hw, Bool.and_self, if_true, State.conclude]

theorem execStagingAck_due {t : CmdTag} (hc : s.cmds.any (fun c => c.tag == t && c.ackDue) = true) :
    execStagingAck t s = .next ((s.modCmd t (fun c => { c with ackDue := false })).settleCmds.settle) :=
  State.conclude_if_due hc

/-! ### The coder (R297, R318) -/

theorem execSorusDecodeComplete_lost {a b n : Nat} (h : s.os.byId a b = some n)
    (hd : decodable (s.sorus n).profile (s.sorus n).k (s.sorus n).missing = false) :
    execSorusDecodeComplete a b s = .next (s.chunkLost n).settle := by
  simp only [execSorusDecodeComplete, h, hd, Bool.not_false, Bool.or_true, if_true, State.conclude]

theorem execSorusDecodeComplete_rebuilt {a b n : Nat} (h : s.os.byId a b = some n) (hl : (s.sorus n).lost = false)
    (hd : decodable (s.sorus n).profile (s.sorus n).k (s.sorus n).missing = true)
    (hr : s.os.reads.any (fun e => e.1 == n && (s.sorus n).decodes (e.2.there (s.sorus n).f)) = true) :
    execSorusDecodeComplete a b s =
      .next (((s.forEach (s.sorus n).frags (fun t f =>
        match (mapGet (fun _ => ({} : Member)) t.os.members f.2.slot).port with
        | none => t
        | some p => t.ladderRebuilt p f.2.act (fun y => t.fragHas p f.2 (s.sorus n).f y))).coderDone n).settle) := by
  rw [execSorusDecodeComplete, h]
  exact congrArg State.conclude ((if_neg (by simp [hl, hd])).trans (if_neg (by simp only [hr]; decide)))

/-! ### Rebuild and compaction (R316, R325-R327, R329) -/

theorem State.rebuildStep_runs (h : s.backgroundRuns = true) : s.rebuildStep = s.repairBegin.blockedStep := if_pos h

theorem State.repairBegin_none (h : s.nextRepair = none) : s.repairBegin = s := by simp only [State.repairBegin, h]

/-- Missing fragments are rebuilt before compaction, also while bands are short (R327). -/
theorem State.repairBegin_missing {n : Nat} (h : s.nextRepair = some n) (hm : (s.sorus n).missing ≠ 0) :
    s.repairBegin = s.readWant n (fun r => { r with copy := true }) := by
  simp only [State.repairBegin, h, hm, decide_false, Bool.false_and, Bool.false_eq_true, if_false]

theorem State.compactMove_moves {b : BandSet} {e : Nat × SorusSt} (hc : s.os.compacting = true) (hr : s.backgroundRuns = true)
    (hf : s.repairFirst = false) (hb : s.nextSetToCompact = some b)
    (he : (s.os.inSet b.no).find? (fun e => s.holds e.1 e.2 && e.2.sealed && !e.2.lost && !s.os.moving e.1) = some e) :
    s.compactMove = s.moveSorus e.1 := by
  simp only [State.compactMove, hc, hr, hf, hb, he, Bool.not_true, Bool.or_self, Bool.false_eq_true, if_false]

theorem State.compactMove_enough (hc : s.os.compacting = false) : s.compactMove = s := by simp [State.compactMove, hc]

/-! ### Checkpoints (R309) -/

/-- The root that a checkpoint writes: to the journal, and to the system records of every writable member (R309). -/
def State.writeRoot (s : State) : State :=
  (({ s with os := { s.os with
    checkAt := s.now, rootOlder := s.os.journal
    members := s.os.members.map (fun (e : Nat × Member) =>
      (e.1, if s.memberWritable e.2 then { e.2 with root := s.rd Obj.CHECKPOINT_SEQ } else e.2)) } } : State).stage1
    { kind := .root, size := recordBytes [] [], need := s.journalUnits }).settleCmds

/-- The index sorus of a checkpoint, which replaces the last one; its sectors are a free value (R309, log entry 90). -/
def State.indexSorus (s : State) : Nat × State :=
  s.next.2.newSorus { index := true, profile := 1, slack := 1, n := 1 + (Config.indexSectors s.next.1).val
                      replaces := (s.os.soruses.find? (fun e => e.2.index && !e.2.dead && !s.os.moving e.1)).map Prod.fst }

theorem State.checkpoint_runs (hd : s.checkpointDue = true) (hm : s.mode.cur = .frond) (hw : 13 ≤ s.width)
    (ho : s.os.mode = .readWrite) :
    s.checkpoint = ((s.indexSorus.2.queueSorus s.indexSorus.1).inc Obj.CHECKPOINT_SEQ).writeRoot :=
  if_neg (by simp [hd, hm, hw, ho])

/-! ### Members (R321-R323) -/

theorem State.recognise_none {p : PortId} (hp : (s.getPort p).state = .ready) (hs : s.os.slotOf p = none) :
    s.recognise p .none = s.newMember p := by
  simp [State.recognise, hp, hs]

/-- A member whose slot is lost is back in it (R322). -/
theorem State.recognise_own_lost {p : PortId} {n : Fin 32} (hp : (s.getPort p).state = .ready) (hs : s.os.slotOf p = none)
    (hm : (mapGet (fun _ => ({} : Member)) s.os.members n).state = .lost) : s.recognise p (.own n) = s.memberBack n p := by
  simp [State.recognise, hp, hs, hm]

/-! ### Index recovery (R310, R435) -/

theorem execIndexRecoveryComplete_reduced (ho : s.os.mode = .recovering) (hm : s.mode.cur = .bringUp) :
    execIndexRecoveryComplete true s =
      .next ((({ s with os := { s.os with mode := .reduced, recovered := true } } : State).wr Obj.REDUCED_SERVICE 1).wr
        Obj.T_REDUCED s.now).settle := by
  simp only [execIndexRecoveryComplete, ho, hm, ne_eq, not_true_eq_false, if_false, if_true, State.conclude]

theorem execIndexRecoveryComplete_unavailable (ho : s.os.mode = .recovering) :
    execIndexRecoveryComplete false s =
      .next (((({ s with os := { s.os with mode := .indexUnavailable, recovered := true } } : State).raise .os
        [.OS_INDEX_UNAVAILABLE]).deferredError 0x03 0).settle) := by
  simp only [execIndexRecoveryComplete, ho, ne_eq, not_true_eq_false, if_false, Bool.false_eq_true, State.conclude]

end Sys2Proof.Machine

/-- Settles O28: each command by the checks that its hypotheses meet; compaction takes the first sorus of a set that it may move, an
order that is the model's choice (log entry 93). -/
theorem namespacesSorusesAndRebuild : Obligations.NamespacesSorusesAndRebuild := by
  unfold Obligations.NamespacesSorusesAndRebuild
  exact ⟨
    fun _ _ _ _ h hn => execNsCreate_unused h hn,
    fun _ _ _ _ h hn => execNsDelete_active h hn,
    fun _ _ hn hc => execNsDeletionComplete_idle hn hc,
    fun _ _ _ h ht => execPackWaitExpiry_due h ht,
    fun _ _ _ _ h hs ht => (execLateLimitExpiry_known h).trans (next_congr (congrArg State.settle (State.lateLimit_due hs ht))),
    fun _ _ hc hw => execWidthWaitExpiry_due hc hw,
    fun _ _ hc => execStagingAck_due hc,
    fun _ _ _ _ h hd => execSorusDecodeComplete_lost h hd,
    fun _ _ _ _ _ h hx hl hd hr => by subst hx; exact execSorusDecodeComplete_rebuilt h hl hd hr,
    fun _ hr hn => next_congr (congrArg State.settle (by rw [State.rebuildStep_runs hr, State.repairBegin_none hn])),
    fun _ _ hr hn hm => next_congr (congrArg State.settle (by rw [State.rebuildStep_runs hr, State.repairBegin_missing hn hm])),
    fun s _ _ _ _ hd hm hw ho hf hx hy => by
      subst hf hy
      have hi : s.indexSorus = _ := hx
      exact next_congr (by rw [State.checkpoint_runs hd hm hw ho, hi]; rfl),
    fun _ => rfl,
    fun _ _ _ _ hv hc hr hf hb he =>
      next_congr (congrArg State.settle (by subst hv; exact State.compactMove_moves hc hr hf hb he)),
    fun _ _ hv hc => next_congr (congrArg State.settle (by subst hv; exact State.compactMove_enough hc)),
    fun _ _ hp hs => next_congr (congrArg (fun t => t.osRefresh.settle) (State.recognise_none hp hs)),
    fun _ _ _ hp hs hm => next_congr (congrArg (fun t => t.osRefresh.settle) (State.recognise_own_lost hp hs hm)),
    fun _ ho hm => execIndexRecoveryComplete_reduced ho hm,
    fun _ ho => execIndexRecoveryComplete_unavailable ho⟩
end

section
/-! The entry of commands to the command table and the admin commands of a controller: queues, log pages, Identify, Abort, features, event
requests and image pieces (R334, R335, R339, R342-R345, R350, R352, R354, R355). -/

open Sys2Proof Sys2Proof.Machine

namespace Sys2Proof.Machine

/-! ### Entry to the command table (R334, R342-R344) -/

/-- A controller of the unit in service reaches the command table without the mirror link (R334). -/
theorem State.reachesTable_active {s : State} {u : UnitId} (h : u = s.pair.active) : s.reachesTable u = true := by
  simp [State.reachesTable, h]

/-- A command that carries no value and that arbitration admits takes a slot: none of the five checks of `fetch` keeps it in its queue. -/
theorem State.fetch_enters {s : State} {t : CmdTag} {ready other : List (Nat × Nat)}
    (hn : s.cmds.any (fun c => c.tag == t) = false) (hr : (s.getCtrl t.ctrl.code).rdy = true) (hf : Machine.fetches s.mode.cur = true)
    (ht : s.reachesTable t.ctrl = true) (hq : (s.getCtrl t.ctrl.code).sqs.any (fun q => q.qid == t.sq) = true)
    (hs : s.cmds.length < 16384) (hb : s.bufferFull 0 = false)
    (ha : s.admits t ((t.sq, 0) :: ready.filter (fun e => e.1 != t.sq)) other = true) :
    (s.fetch t 0 ready other).1 =
      (let r := (s.inc (Obj.COMMANDS_ENTERED t.ctrl.code)).modCtrl t.ctrl.code (fun c =>
         c.fetched t.sq (s.eligible t.ctrl ((t.sq, 0) :: ready.filter (fun e => e.1 != t.sq))))
       let r := ({ r with lastCtrl := t.ctrl } : State).enterCmd { tag := t, forwarded := t.ctrl != s.pair.active }
       r.wr Obj.CMD_SLOTS_PEAK (max (r.rd Obj.CMD_SLOTS_PEAK) r.cmds.length)) := by
  unfold State.fetch
  rw [if_neg (by simp [hn]), if_neg (by simp [hr, hf, ht, hq]), if_neg (by omega), if_neg (by simp [hb]), if_neg (by simp [ha])]
  rfl

theorem execCommandFetch_active {s : State} {t : CmdTag} (len : Nat) (ready other : List (Nat × Nat)) (h : t.ctrl = s.pair.active) :
    execCommandFetch t len ready other s = .next (s.fetch t len ready other).1 := by
  rw [execCommandFetch, if_pos h]

theorem execForwardedCommand_standby {s : State} {t : CmdTag} (len : Nat) (ready other : List (Nat × Nat)) (h : t.ctrl ≠ s.pair.active) :
    execForwardedCommand t len ready other s = .next (s.fetch t len ready other).1 := by
  rw [execForwardedCommand, if_neg h]

theorem execInvalidCommandOpcode_begins {s : State} {t : CmdTag} (h : s.Begins t 0) :
    execInvalidCommandOpcode t s = .next ((s.fetch t 0).1.complete t .invalidOpcode).settle := by
  rw [execInvalidCommandOpcode, begin_now _ h, State.conclude]

/-! ### Admin commands that begin: `r` is the state in which the command holds its slot -/

section Admin
variable {s r : State} {t : CmdTag}

/-! #### Queues (R337, R339, R350) -/

theorem execCreateIoCompletionQueue_creates {qid size vector : Nat} (h : s.Begins t 0)
    (e : r = (s.fetch t 0).1.modCmd t (fun c => { c with kind := .admin })) (h1 : 1 ≤ qid) (h64 : qid ≤ 64)
    (hn : (r.getCtrl t.ctrl.code).cqs.any (fun q => q.qid == qid) = false) (h2 : 2 ≤ size) (hs : size ≤ 1024) (hv : vector ≤ 64) :
    execCreateIoCompletionQueue t qid size vector true s =
      .next ((r.modCtrl t.ctrl.code (fun c => { c with cqs := c.cqs ++ [{ qid := qid, size := size, vector := vector }] })).complete t
        .success).settle := by
  have hid : ¬(qid = 0 || 64 < qid || (r.getCtrl t.ctrl.code).cqs.any (fun q => q.qid == qid)) = true := by
    simp only [hn, Bool.or_false, Bool.or_eq_true, decide_eq_true_eq]; omega
  have hsz : ¬(size < 2 || 1024 < size) = true := by
    simp only [Bool.or_eq_true, decide_eq_true_eq]; omega
  rw [execCreateIoCompletionQueue, admin_now _ h e]
  simp only [if_neg hid, if_neg hsz, if_neg (Nat.not_lt.mpr hv), Bool.not_true, Bool.false_eq_true, if_false]

theorem execCreateIoSubmissionQueue_creates {qid size cq : Nat} (h : s.Begins t 0)
    (e : r = (s.fetch t 0).1.modCmd t (fun c => { c with kind := .admin })) (h1 : 1 ≤ qid) (h64 : qid ≤ 64)
    (hn : (r.getCtrl t.ctrl.code).sqs.any (fun q => q.qid == qid) = false) (h2 : 2 ≤ size) (hs : size ≤ 1024) (hc : 1 ≤ cq)
    (hq : (r.getCtrl t.ctrl.code).cqs.any (fun q => q.qid == cq) = true) :
    execCreateIoSubmissionQueue t qid size cq true s =
      .next ((r.modCtrl t.ctrl.code (fun c => { c with sqs := c.sqs ++ [{ qid := qid, cq := cq, size := size }] })).complete t
        .success).settle := by
  have hcq : ¬(cq = 0 || !(r.getCtrl t.ctrl.code).cqs.any (fun q => q.qid == cq)) = true := by
    simp only [hq, Bool.not_true, Bool.or_false, decide_eq_true_eq]; omega
  have hid : ¬(qid = 0 || 64 < qid || (r.getCtrl t.ctrl.code).sqs.any (fun q => q.qid == qid)) = true := by
    simp only [hn, Bool.or_false, Bool.or_eq_true, decide_eq_true_eq]; omega
  have hsz : ¬(size < 2 || 1024 < size) = true := by
    simp only [Bool.or_eq_true, decide_eq_true_eq]; omega
  rw [execCreateIoSubmissionQueue, admin_now _ h e]
  simp only [if_neg hcq, if_neg hid, if_neg hsz, Bool.not_true, Bool.false_eq_true, if_false]

/-- The queue's commands complete before the deletion does (R350). -/
theorem execDeleteIoSubmissionQueue_deletes {qid : Nat} (h : s.Begins t 0)
    (e : r = (s.fetch t 0).1.modCmd t (fun c => { c with kind := .admin })) (h1 : 1 ≤ qid)
    (hq : (r.getCtrl t.ctrl.code).sqs.any (fun q => q.qid == qid) = true) :
    execDeleteIoSubmissionQueue t qid s =
      .next ((((r.forEach (r.cmds.filter (fun (c : HostCmd) => c.tag.ctrl == t.ctrl && c.tag.sq == qid)) (fun s c =>
        (s.abandonCmd c).complete c.tag .queueDeletion)).modCtrl t.ctrl.code (fun c =>
          { c with sqs := c.sqs.filter (fun (q : SubQueue) => q.qid != qid) })).settleCmds).complete t .success).settle := by
  rw [execDeleteIoSubmissionQueue, admin_now _ h e, if_neg (by simp [hq]; omega)]

theorem execDeleteIoCompletionQueue_deletes {qid : Nat} (h : s.Begins t 0)
    (e : r = (s.fetch t 0).1.modCmd t (fun c => { c with kind := .admin })) (h1 : 1 ≤ qid)
    (hq : (r.getCtrl t.ctrl.code).cqs.any (fun q => q.qid == qid) = true)
    (hn : (r.getCtrl t.ctrl.code).sqs.any (fun q => q.cq == qid) = false) :
    execDeleteIoCompletionQueue t qid s =
      .next ((r.modCtrl t.ctrl.code (fun c => { c with cqs := c.cqs.filter (fun (q : CplQueue) => q.qid != qid) })).complete t
        .success).settle := by
  rw [execDeleteIoCompletionQueue, admin_now _ h e, if_neg (by simp [hq]; omega), if_neg (by simp [hn])]

/-! #### Log pages and Identify (R333, R337, R355) -/

theorem execGetLogPage_deferred {w : State} {base : List Byte} (off len : Nat) (h : s.Begins t 0)
    (e : r = (s.fetch t 0).1.modCmd t (fun c => { c with kind := .admin })) (hb : r.freeBytes 512 = (base, w)) :
    execGetLogPage t 0xC0 off len true s = .next (w.complete t .success 0 ((w.deferredPage.drop off).take len)).settle := by
  rw [execGetLogPage, admin_now _ h e, if_neg (by decide), if_pos rfl]
  simp only [hb, State.logPage]

theorem execIdentify_controller {w v : State} {base : List Byte} {x : Nat} (nsid : Nat) (h : s.Begins t 0)
    (e : r = (s.fetch t 0).1.modCmd t (fun c => { c with kind := .admin })) (hb : r.freeBytes 16 = (base, w)) (hx : w.next = (x, v)) :
    execIdentify t 1 nsid s = .next (v.complete t .success 0 (v.identifyController t.ctrl)).settle := by
  rw [execIdentify, admin_now _ h e]
  simp only [hb, hx]

/-! #### Abort (R345) -/

/-- An aborted command that waits in its queue leaves it and completes before the Abort does (R345). -/
theorem execNvmeAbort_waiting {sqid cid : Nat} (h : s.Begins t 0)
    (e : r = (s.fetch t 0).1.modCmd t (fun c => { c with kind := .admin }))
    (hq : (r.getCtrl t.ctrl.code).sqs.any (fun q => q.qid == sqid) = true)
    (hn : r.cmds.any (fun c => c.tag == ⟨t.ctrl, sqid, cid⟩) = false) :
    execNvmeAbort t sqid cid true s =
      .next ((((r.modCtrl t.ctrl.code (fun c => c.takeEntry sqid)).complete ⟨t.ctrl, sqid, cid⟩ .abortRequested).complete t .success
        0).settle) := by
  rw [execNvmeAbort, admin_now _ h e]
  simp only [hq, hn, Bool.not_false, Bool.and_true, if_true]

/-! #### Features (R339) -/

/-- A temperature threshold takes the place of the one set before. -/
theorem execSetFeatures_threshold (v : BitVec 32) (h : s.Begins t 0)
    (e : r = (s.fetch t 0).1.modCmd t (fun c => { c with kind := .admin })) :
    execSetFeatures t 4 v s =
      .next ((r.modCtrl t.ctrl.code (fun c => { c with features := mapIns (mapDel c.features 4) 4 v.toNat })).complete t
        .success).settle := by
  rw [execSetFeatures, admin_now _ h e, if_neg (by simp [featureKnown]), if_neg (by decide)]

theorem execGetFeatures_threshold {x : Nat × Nat} (h : s.Begins t 0)
    (e : r = (s.fetch t 0).1.modCmd t (fun c => { c with kind := .admin }))
    (hx : (r.getCtrl t.ctrl.code).features.find? (fun f => f.1 == 4) = some x) :
    execGetFeatures t 4 s = .next (r.complete t .success x.2).settle := by
  rw [execGetFeatures, admin_now _ h e, if_neg (by decide), if_neg (by decide), hx]

/-! #### Event requests and image pieces (R352, R354) -/

/-- A request that finds fewer than eight outstanding joins them, or takes the event that has waited longest (R354). -/
theorem execAsynchronousEventRequest_outstanding (h : s.Begins t 0)
    (e : r = (s.fetch t 0).1.modCmd t (fun c => { c with kind := .admin })) (h8 : (r.getCtrl t.ctrl.code).aers.length < 8) :
    execAsynchronousEventRequest t s =
      .next ((((r.modCmd t (fun c => { c with kind := .aer })).modCtrl t.ctrl.code (fun c =>
        (match c.events with
         | [] => { c with aers := c.aers ++ [t.cid] }
         | a :: rest => ({ c with aers := c.aers ++ [t.cid], events := rest } : CtrlSt).event t.ctrl a))).aerSlots).settle) :=
  (admin_now _ h e).trans (next_congr (congrArg State.settle (if_neg (Nat.not_le.mpr h8))))

theorem execFirmwareImageDownload_keeps {off : Nat} {data : List Byte} (h : s.Begins t 0)
    (e : r = (s.fetch t 0).1.modCmd t (fun c => { c with kind := .admin })) (ho : off % 4096 = 0) (hd : data.length % 4096 = 0) :
    execFirmwareImageDownload t off data s =
      .next ((r.modCtrl t.ctrl.code (fun c => { c with download := (off, data) :: c.download })).complete t .success).settle := by
  rw [execFirmwareImageDownload, admin_now _ h e, if_neg (by simp [ho, hd])]

end Admin

end Sys2Proof.Machine

/-- Settles O25: a command enters the table past the checks of the fetch; each admin command that begins runs on the state in which it holds
its slot (`admin_now`), past the refusals that its hypotheses rule out. -/
theorem adminQueuesAndFeatures : Obligations.AdminQueuesAndFeatures := by
  unfold Obligations.AdminQueuesAndFeatures
  exact ⟨
    fun _ _ n l m h => execCommandFetch_active n l m h,
    fun _ _ l m h hn hr hf hq hs hb ha =>
      (execCommandFetch_active 0 l m h).trans
        (next_congr (State.fetch_enters hn hr hf (State.reachesTable_active h) hq hs hb ha)),
    fun _ _ n l m h => execForwardedCommand_standby n l m h,
    fun _ _ h => execInvalidCommandOpcode_begins h,
    fun _ _ _ _ _ _ h e h1 h64 hn h2 hs hv => execCreateIoCompletionQueue_creates h e h1 h64 hn h2 hs hv,
    fun _ _ _ _ _ _ h e h1 h64 hn h2 hs hc hq => execCreateIoSubmissionQueue_creates h e h1 h64 hn h2 hs hc hq,
    fun _ _ _ _ h e h1 hq => execDeleteIoSubmissionQueue_deletes h e h1 hq,
    fun _ _ _ _ h e h1 hq hn => execDeleteIoCompletionQueue_deletes h e h1 hq hn,
    fun _ _ _ o n _ _ h e hb => execGetLogPage_deferred o n h e hb,
    fun _ _ _ n _ _ _ _ h e hb hx => execIdentify_controller n h e hb hx,
    fun _ _ _ _ _ h e hq hn => execNvmeAbort_waiting h e hq hn,
    fun _ _ _ v h e => execSetFeatures_threshold v h e,
    fun _ _ _ _ h e hx => execGetFeatures_threshold h e hx,
    fun _ _ _ h e h8 _ => execAsynchronousEventRequest_outstanding h e h8,
    fun _ _ _ _ _ h e ho hd => execFirmwareImageDownload_keeps h e ho hd⟩
end

section
/-! The words of the buffer memory: what the devices hold of each, what the decoder makes of that without noise, and what a word put on
them leaves of it and of the others (R365-R368, R371). -/

open Sys2Proof Sys2Proof.Machine

namespace Sys2Proof.Machine

variable {b : BufSt} {g h w v : Nat} {d : List Byte} {p : Bool}

/-! ### What the devices hold of a word, and what the decoder makes of it -/

/-- The error pattern that the devices hold for a word of a group. -/
def BufSt.errWord (b : BufSt) (g w : Nat) : List Byte := cellsRead b.err (576 * b.loc g + 72 * w) 72

/-- The data bytes that the devices hold for a word of a group. -/
def BufSt.dataWord (b : BufSt) (g w : Nat) : List Byte := cellsRead b.data (512 * b.loc g + 64 * w) 64

/-- The decoder on the error pattern and the data of a word (R366-R368). -/
def wordRead (err data : List Byte) : WordKind × List Byte :=
  ((decodeWord (patternOf err)).1, applyMasks data (decodeWord (patternOf err)).2)

/-- Without noise a group is read word by word from what the devices hold. -/
theorem BufSt.decode_noiseless (b : BufSt) (g : Nat) :
    b.decode g [] = (List.range 8).map (fun w => wordRead (b.errWord g w) (b.dataWord g w)) := by
  simp only [BufSt.decode, List.filter_nil, List.map_nil, applyMasks_nil]
  rfl

theorem BufSt.getElem?_decode_noiseless (b : BufSt) (g : Nat) (hw : w < 8) :
    (b.decode g [])[w]? = some (wordRead (b.errWord g w) (b.dataWord g w)) := by
  simp [BufSt.decode_noiseless, hw]

/-- The error pattern of a word put fresh, or poisoned (R368). -/
def putPattern (poison : Bool) : List Byte := List.replicate 64 0 ++ (if poison then poisonMask else List.replicate 8 0)

@[simp] theorem length_putPattern (poison : Bool) : (putPattern poison).length = 72 := by cases poison <;> rfl

theorem patternOf_putPattern_false : patternOf (putPattern false) = [] := by decide

theorem patternOf_putPattern_true : patternOf (putPattern true) = poisonPattern := by decide

/-- Fresh check bytes leave nothing to correct. -/
theorem wordRead_fresh (d : List Byte) : wordRead (putPattern false) d = (.clean, d) := by
  rw [wordRead, patternOf_putPattern_false]
  exact congrArg (Prod.mk _) (applyMasks_nil d)

/-- The poison mask changes more bytes than the code corrects, so it is told by its syndrome (R368). -/
theorem wordRead_poisoned (d : List Byte) : (wordRead (putPattern true) d).1 = .poisoned := by
  have hne : poisonPattern.isEmpty = false := rfl
  have hlen : ¬ poisonPattern.length ≤ 4 := by decide
  rw [wordRead, patternOf_putPattern_true, decodeWord, hne, if_neg Bool.false_ne_true, if_neg hlen]
  simp only [if_true]

/-! ### A word put on the devices -/

/-- Where a group lies is no matter of what its words hold. -/
@[simp] theorem BufSt.loc_putWord (b : BufSt) (g w : Nat) (d : List Byte) (p : Bool) (h : Nat) : (b.putWord g w d p).loc h = b.loc h := rfl

theorem BufSt.err_putWord (b : BufSt) (g w : Nat) (d : List Byte) (p : Bool) :
    (b.putWord g w d p).err = cellsWrite b.err (576 * b.loc g + 72 * w) (putPattern p) := by
  rw [BufSt.putWord, putPattern]

theorem BufSt.data_putWord (b : BufSt) (g w : Nat) (d : List Byte) (p : Bool) :
    (b.putWord g w d p).data = cellsWrite b.data (512 * b.loc g + 64 * w) d := by
  rw [BufSt.putWord]

theorem cellsRead_cellsWrite_of_length (m : List Host.Cell) (a : Nat) {n : Nat} (hd : d.length = n) :
    cellsRead (cellsWrite m a d) a n = d := hd ▸ cellsRead_cellsWrite m a d

theorem BufSt.errWord_putWord (b : BufSt) (g w : Nat) (d : List Byte) (p : Bool) : (b.putWord g w d p).errWord g w = putPattern p := by
  rw [BufSt.errWord, BufSt.err_putWord, BufSt.loc_putWord, cellsRead_cellsWrite_of_length _ _ (length_putPattern p)]

theorem BufSt.dataWord_putWord (b : BufSt) (g w : Nat) (p : Bool) (hd : d.length = 64) : (b.putWord g w d p).dataWord g w = d := by
  rw [BufSt.dataWord, BufSt.data_putWord, BufSt.loc_putWord, cellsRead_cellsWrite_of_length _ _ hd]

/-- A word put on the devices leaves every other word on them alone. -/
theorem BufSt.errWord_putWord_away (hw : w < 8) (hv : v < 8) (hne : b.loc h ≠ b.loc g ∨ v ≠ w) :
    (b.putWord g w d p).errWord h v = b.errWord h v := by
  rw [BufSt.errWord, BufSt.err_putWord, BufSt.loc_putWord]
  exact cellsRead_cellsWrite_away _ _ _ _ _ (by rw [length_putPattern]; omega)

theorem BufSt.dataWord_putWord_away (hd : d.length = 64) (hw : w < 8) (hv : v < 8) (hne : b.loc h ≠ b.loc g ∨ v ≠ w) :
    (b.putWord g w d p).dataWord h v = b.dataWord h v := by
  rw [BufSt.dataWord, BufSt.data_putWord, BufSt.loc_putWord]
  exact cellsRead_cellsWrite_away _ _ _ _ _ (by omega)

theorem BufSt.getElem?_decode_putWord_away (hd : d.length = 64) (hw : w < 8) (hv : v < 8) (hne : b.loc h ≠ b.loc g ∨ v ≠ w) :
    ((b.putWord g w d p).decode h [])[v]? = (b.decode h [])[v]? := by
  rw [BufSt.getElem?_decode_noiseless _ _ hv, BufSt.getElem?_decode_noiseless _ _ hv, BufSt.errWord_putWord_away hw hv hne,
    BufSt.dataWord_putWord_away hd hw hv hne]

/-- A group that lies elsewhere reads as before. -/
theorem BufSt.decode_putWord_elsewhere (hd : d.length = 64) (hw : w < 8) (hne : b.loc h ≠ b.loc g) :
    (b.putWord g w d p).decode h [] = b.decode h [] := by
  simp only [BufSt.decode_noiseless]
  refine List.map_congr_left fun v hv => ?_
  have hv : v < 8 := List.mem_range.mp hv
  rw [BufSt.errWord_putWord_away hw hv (.inl hne), BufSt.dataWord_putWord_away hd hw hv (.inl hne)]

end Sys2Proof.Machine

/-- Settles O50: a word is read from the error pattern and the data that the devices hold for it; a word put on them replaces both, and
no other word, of this group or of one that lies elsewhere, shares a byte with them. -/
theorem bufferWordReadsBack : Obligations.BufferWordReadsBack := by
  unfold Obligations.BufferWordReadsBack
  refine ⟨fun b g w d hw hd => ?_, fun b g w d hw _ => ?_, fun b g w v d p hw hv hne hd => ?_, fun b g h w d p hw hne hd => ?_⟩
  · rw [BufSt.getElem?_decode_noiseless _ _ hw, BufSt.errWord_putWord, BufSt.dataWord_putWord _ _ _ _ hd, wordRead_fresh]
  · rw [BufSt.getElem?_decode_noiseless _ _ hw, BufSt.errWord_putWord, Option.map_some, wordRead_poisoned]
  · exact BufSt.getElem?_decode_putWord_away hd hw hv (.inr hne)
  · exact BufSt.decode_putWord_elsewhere hd hw hne
end

section
/-! The buffer memory: accesses, the merge buffer, failed transfers, self-refresh, remapping, the error log, the scrubber and FLIP_MODE
(R361-R364, R367-R381). -/

open Sys2Proof Sys2Proof.Machine

namespace Sys2Proof.Machine

variable {s t : State} {q : Requester} {u : UnitId} {e : MemErrs}

/-! ### Accesses by address (R359, R361, R362, R367) -/

/-- An access arrives while the interface trains or retrains: it is held. -/
theorem State.bufCommand_held {a n : Nat} {d : Option (List Byte)} (h : (s.getBuf u.code).state.holds = true) :
    s.bufCommand u a n d e =
      s.putBuf u.code { s.getBuf u.code with resp := .none, held := (s.getBuf u.code).held ++
        [{ write := d.isSome, addr := a, len := n, bytes := d.getD [] }] } := by
  rw [State.bufCommand, if_pos h]

theorem State.bufCommand_now {a n : Nat} {d : Option (List Byte)} (h : (s.getBuf u.code).state.holds = false) :
    s.bufCommand u a n d e = (s.access u a n d e).1.modBuf u.code (fun b => { b with resp := (s.access u a n d e).2 }) := by
  rw [State.bufCommand, if_neg (by simp [h])]

theorem State.access_beyond {a n : Nat} {d : Option (List Byte)} (h : bufLimit < a + n) :
    s.access u a n d e = (s.raise (.buf u) [.BUF_ADDR_ERR], .error) := if_pos (.inl h)

theorem execBufferWrite_beyond {a : Nat} {d : List Byte} (h : (s.getBuf u.code).state.holds = false) (hb : bufLimit < a + d.length) :
    execBufferWrite u a d e s =
      .next ((s.raise (.buf u) [.BUF_ADDR_ERR]).modBuf u.code (fun b => { b with resp := .error })).grave := by
  rw [execBufferWrite, State.bufCommand_now h, State.access_beyond hb]

theorem execGddr7RetrainComplete_retraining (h : (s.getBuf u.code).state = .retraining) :
    execGddr7RetrainComplete u s = .next ((s.modBuf u.code (fun b => { b with state := .inService })).replayHeld u).grave :=
  next_congr (if_pos h)

/-! ### The merge buffer (R375) -/

/-- What the words of a merge entry go out as: poisoned where bad at the fill and not wholly covered since (R376). -/
def MergeEntry.outWords (e : MergeEntry) : List (Nat × List Byte × Bool) :=
  (wordsOf e.bytes).map (fun x => (x.1, x.2, e.bad.contains x.1 && !((List.range 64).all (fun i => e.written.contains (64 * x.1 + i)))))

theorem State.mergeWriteback_entry {g : Nat} {m : MergeEntry} (h : (s.getBuf u.code).merge.find? (fun x => x.group == g) = some m) :
    s.mergeWriteback u g =
      ((s.putBuf u.code { s.getBuf u.code with merge := (s.getBuf u.code).merge.filter (fun x => x.group ≠ g) }).writeWords u g
        m.outWords).inc (Obj.MERGE_WRITEBACKS u) := by
  simp only [State.mergeWriteback, h, MergeEntry.outWords]

/-- Waking the devices leaves the merge buffer alone. -/
theorem State.wake_merge (s : State) (u : UnitId) : ((s.wake u).getBuf u.code).merge = (s.getBuf u.code).merge := by
  rw [State.wake, State.getBuf_modBuf]

/-- An entry that MERGE_HOLD has passed for is written back by an awake buffer. -/
theorem execMergeWriteback_due {g : Nat} {m : MergeEntry} (h : (s.getBuf u.code).state.holds = false)
    (hm : (s.getBuf u.code).merge.find? (fun x => x.group == g) = some m)
    (ht : s.rd (Obj.MERGE_HOLD u) ≤ 1000 * (s.now - m.since)) :
    execMergeWriteback u g s = .next ((s.wake u).mergeWriteback u g) := by
  have hg : (m.group == g) = true := List.find?_some (p := fun x : MergeEntry => x.group == g) hm
  have hany : (s.getBuf u.code).merge.any
      (fun x => x.group == g && decide (s.rd (Obj.MERGE_HOLD u) ≤ 1000 * (s.now - x.since))) = true :=
    List.any_eq_true.mpr ⟨m, List.mem_of_find?_eq_some hm, by simp only [hg, ht, decide_true, Bool.and_self]⟩
  exact next_congr (if_pos (by rw [h, hany]; rfl))

/-! ### Failed transfers and self-refresh (R362, R364) -/

theorem execLinkTransferFail_repeats {n : Fin 4} (w : Bool) (h : (s.getBuf u.code).state.holds = false) (hn : n.val < 3) :
    execLinkTransferFail u w n s = .next (s.add (Obj.LINK_RETRIES u) (n.val + 1)) := by
  simp only [execLinkTransferFail, h, Bool.false_eq_true, if_false, if_pos hn, Nat.min_eq_left (Nat.succ_le_of_lt hn)]

/-- The third repeat fails too: the interface retrains. -/
theorem execLinkTransferFail_retrains (w : Bool) (h : (s.getBuf u.code).state.holds = false) :
    execLinkTransferFail u w 3 s =
      .next ((((s.add (Obj.LINK_RETRIES u) 3).inc (Obj.RETRAINS u)).modBuf u.code (fun b => { b with state := .retraining })).raise (.buf u)
        (if w then [.BUF_LINK_FAIL, .BUF_RETRAINED] else [.BUF_RETRAINED])) := by
  rw [execLinkTransferFail, if_neg (by simp [h]), if_neg (by decide)]
  rfl

theorem execSelfRefreshIdle_idle (hm : s.mode.cur = .quiescent) (ht : (s.getBuf u.code).lastUse + s.rd (Obj.SR_IDLE u) ≤ s.now)
    (hs : (s.getBuf u.code).state = .inService) (hh : (s.getBuf u.code).held.isEmpty = true) :
    execSelfRefreshIdle u s = .next ((s.mergeFlush u).modBuf u.code (fun b => { b with state := .selfRefresh })) :=
  next_congr ((if_pos ⟨hm, ht⟩).trans (if_pos ⟨hs, hh⟩))

/-! ### Remapping and the error log (R370, R372) -/

theorem execRemapRequest_accepted {g : BitVec 32} (hm : s.mode.cur ≠ .switchover)
    (he : s.writeErr u 0x4002 1 q (leBytes 4 g.toNat) = 0) :
    execRemapRequest q u g s =
      .next ((s.remap u g.toNat).1.answer q (if (s.remap u g.toNat).2 = 4 then 0x07 else if (s.remap u g.toNat).2 = 3 then 0x09 else 0)) :=
  next_congr ((hold_now _ _ hm).trans (if_neg (by simp [he])))

/-! ### The scrubber (R377, R379) -/

theorem execScrubStart_accepted (h : s.Accepts q u (Obj.SCRUB_COMMAND u) [1]) (hr : (s.getBuf u.code).scrub.result ≠ 1) :
    execScrubStart q u s = .next ((s.scrubStart u (s.rd (Obj.SCRUB_FIRST u)) (s.rd (Obj.SCRUB_LAST u)) false).answer q 0) := by
  rw [execScrubStart, if_neg hr, tryKey_accepted _ h]

theorem execScrubStop_running (h : s.Accepts q u (Obj.SCRUB_COMMAND u) [2]) (hr : (s.getBuf u.code).scrub.result = 1) :
    execScrubStop q u s =
      .next ((s.modBuf u.code (fun b => { b with scrub := { b.scrub with stopAsked := true } })).answer q 0) := by
  rw [execScrubStop, tryKey_accepted _ h, if_pos hr]

/-- A running pass skips a group that the merge buffer holds, and goes on to the next (R377). -/
theorem State.scrubGroup_skips {l : List (Nat × Byte)} (hr : (s.getBuf u.code).scrub.result = 1)
    (hh : (s.getBuf u.code).state.holds = false)
    (ht : 512 * (s.getBuf u.code).scrub.done ≤ s.rd (Obj.SCRUB_RATE u) * (s.now - (s.getBuf u.code).scrub.startTime))
    (hg : (s.getBuf u.code).merge.any (fun x => x.group == (s.getBuf u.code).scrub.next) = true)
    (hl : (s.getBuf u.code).scrub.next < (s.getBuf u.code).scrub.last) (hs : (s.getBuf u.code).scrub.stopAsked = false) :
    s.scrubGroup u l =
      (s.modBuf u.code (fun b => { b with scrub := { b.scrub with skipped := b.scrub.skipped + 1 } })).modBuf u.code
        (fun b => { b with scrub := { b.scrub with next := (s.getBuf u.code).scrub.next + 1 } }) := by
  simp only [State.scrubGroup, hr, hh, hg, hs, State.getBuf_modBuf, ne_eq, not_true_eq_false, decide_false, Bool.or_false, Bool.false_or,
    decide_eq_true_eq, if_true, if_neg (Nat.not_lt.mpr ht), if_neg (Nat.not_le.mpr hl), Bool.false_eq_true, if_false]

theorem execScrubIntervalExpiry_due (hi : s.rd (Obj.SCRUB_INTERVAL u) ≠ 0)
    (ht : (s.getBuf u.code).scrubAt + 3600000000 * s.rd (Obj.SCRUB_INTERVAL u) ≤ s.now) (hm : s.mode.cur = .frond)
    (hr : (s.getBuf u.code).scrub.result ≠ 1) :
    execScrubIntervalExpiry u s =
      .next ((s.modBuf u.code (fun b => { b with scrubAt := s.now })).scrubStart u 0 (bufGroups - 1) true) :=
  next_congr (if_pos ⟨hi, ht, .inl hm, hr⟩)

/-! ### FLIP_MODE (R380, R381) -/

theorem execFlipModeWrite_valid {v : BitVec 8} (h : s.Accepts q u (Obj.FLIP_MODE u) [v]) (hv : s.flipFieldsOk u v.toNat = true) :
    execFlipModeWrite q u v s = .next ((s.wr (Obj.FLIP_MODE u) v.toNat).answer q 0) := by
  rw [execFlipModeWrite, if_pos hv, tryKey_accepted _ h]

end Sys2Proof.Machine

/-- Settles O22: an access by the state of the interface, a merge entry by the time since its last write, a transfer by how often it has
failed, and the writes by the checks of their objects. -/
theorem bufferAccessesAndScrubbing : Obligations.BufferAccessesAndScrubbing := by
  unfold Obligations.BufferAccessesAndScrubbing
  exact ⟨
    fun _ _ _ _ _ h hm ht hw => by
      subst hw
      exact (execMergeWriteback_due h hm ht).trans (next_congr (State.mergeWriteback_entry (by rw [State.wake_merge, hm]))),
    fun _ _ h => execLinkTransferFail_retrains true h,
    fun _ _ h => execLinkTransferFail_retrains false h,
    fun _ _ w _ h hn => execLinkTransferFail_repeats w h hn,
    fun _ _ hm ht hs hh => execSelfRefreshIdle_idle hm ht hs hh,
    fun _ _ _ _ hm he => execRemapRequest_accepted hm he,
    fun _ _ _ h => next_congr (tryKey_accepted _ h),
    fun _ _ _ h hr => execScrubStart_accepted h hr,
    fun _ _ _ h hr => execScrubStop_running h hr,
    fun _ _ _ hr hh ht hg hl hs => next_congr (State.scrubGroup_skips hr hh ht hg hl hs),
    fun _ _ _ _ _ _ => rfl,
    fun _ _ hi ht hm hr => execScrubIntervalExpiry_due hi ht hm hr,
    fun _ _ _ _ h hv => execFlipModeWrite_valid h hv,
    fun _ _ _ _ _ h => next_congr (congrArg State.grave (State.bufCommand_held h)),
    fun _ _ _ _ _ h => next_congr (congrArg State.grave (State.bufCommand_now h)),
    fun _ _ _ _ _ h => next_congr (congrArg State.grave (State.bufCommand_now h)),
    fun _ _ _ _ _ h hb => execBufferWrite_beyond h hb,
    fun _ _ h => execGddr7RetrainComplete_retraining h⟩
end

section
/-! The metadata cache with its ways, the raw windows of the ports and the buffer window (R382-R388, R592). -/

open Sys2Proof Sys2Proof.Machine

namespace Sys2Proof.Machine

variable {s : State} {q : Requester} {u : UnitId} {p : PortId} {a : ActId}

/-! ### Write-backs (R384, R388) -/

theorem State.writebackDone_nothing (h : (s.getCache u.code).evict = []) : s.writebackDone u = s := by
  simp only [State.writebackDone, h, ite_self]

/-- An entry written to since its write-back began is queued again, and its repeat counted. -/
theorem State.writebackDone_again {e : EvictEntry} {r : List EvictEntry} (hh : (s.getBuf u.code).state.holds = false)
    (he : (s.getCache u.code).evict = e :: r) (ha : e.again = true) :
    s.writebackDone u =
      (((s.wake u).writeGroup u e.group e.bytes).modCache u.code (fun c => { c with evict := r ++ [{ e with again := false }] })).inc
        (Obj.WRITEBACKS u) := by
  simp only [State.writebackDone, hh, he, ha, Bool.false_eq_true, if_false, if_true]

/-! ### Ways (R386) -/

theorem execWayEnableWrite_accepted {v : BitVec 16} (h : s.Accepts q u (Obj.WAY_ENABLE u) (leBytes 2 v.toNat)) (hv : v ≠ 0) :
    execWayEnableWrite q u v s = .next ((s.wayEnable u v.toNat).answer q 0) := by
  rw [execWayEnableWrite, if_neg hv, tryKey_accepted _ h]

theorem execWayCleanDone_clean {w : Nat} (hw : w < 16) (hc : s.bit (Obj.WAY_CLEANING u) w = true)
    (hd : (s.getCache u.code).firstDirty w = none) :
    execWayCleanDone u w s = .next ((s.wayDown u w).raise (.cache u) [.CACHE_WAY_CLEAN_DONE]) :=
  next_congr (if_pos ⟨hw, hc, hd⟩)

/-! ### The cache enabled and disabled (R387) -/

theorem State.cacheEnable_disabled (h : (s.getCache u.code).state = .disabled) :
    s.cacheEnable u =
      (s.modCache u.code (fun c => { c with state := .enabled, lines := [], evict := [] })).wr (Obj.WAY_POWERED u)
        (s.rd (Obj.WAY_ENABLE u)) := by
  rw [State.cacheEnable, h]

theorem State.cacheDisable_enabled (h : (s.getCache u.code).state = .enabled) :
    s.cacheDisable u =
      (s.modCache u.code (fun c => { c with state := .disablePending })).wr (Obj.WAY_CLEANING u) (s.rd (Obj.WAY_POWERED u)) :=
  if_pos h

/-- A cache without lines has no dirty one. -/
theorem CacheSt.firstDirty_noLines {c : CacheSt} (h : c.lines = []) (w : Nat) : c.firstDirty w = none := by
  simp only [CacheSt.firstDirty, CacheSt.setsOf, h, List.filter_nil, List.map_nil, List.find?_nil]

theorem State.cacheDisabled_empty (h : (s.getCache u.code).state = .disablePending) (he : (s.getCache u.code).evict = [])
    (hl : (s.getCache u.code).lines = []) :
    s.cacheDisabled u =
      ((s.forEach (List.range 16) (fun s w => s.wayDown u w)).modCache u.code (fun c => { c with state := .disabled })).raise (.cache u)
        [.CACHE_CACHE_DISABLED] := by
  have clean : (List.range 16).any (fun w => ((s.getCache u.code).firstDirty w).isSome) = false := by
    simp [CacheSt.firstDirty_noLines hl]
  rw [State.cacheDisabled]
  exact if_neg (by simp [h, he, clean])

/-! ### Raw operations (R592) -/

/-- A read whose target is in range begins. -/
theorem execRawCommand_read {v : BitVec 8} (hm : s.mode.cur ≠ .switchover)
    (he : s.writeErr u (keyIndex (Obj.RAW_COMMAND p a)) 1 q (leBytes 1 v.toNat) = 0) (hi : (s.getRaw (chanKey p a)).op = none)
    (hr : (s.rawTargetOf p a).inRange = true) (ho : (s.rawTargetOf p a).op = 1) :
    execRawCommand q u p a v s = .next ((s.modRaw (chanKey p a) (fun _ => { op := some 1 })).answer q 0) := by
  refine next_congr ((hold_now _ _ hm).trans ?_)
  simp [he, hi, hr, ho]

/-- Every sector of the target has its result: the words are kept, and of a read what it has read. -/
theorem execRawOperationComplete_done {op : Nat} {l : List Nat} (ho : (s.getRaw (chanKey p a)).op = some op)
    (hl : (s.getRaw (chanKey p a)).results (s.rawTargetOf p a).count = some l) :
    execRawOperationComplete p a s =
      (let t := (s.modRaw (chanKey p a) (fun _ => { st := 2 })).wrBlob (Obj.RAW_RESULT p a) (l.flatMap (leBytes 8))
       .next (if op = 1 then t.wrBlob (Obj.RAW_DATA p a) ((s.getRaw (chanKey p a)).data (s.rawTargetOf p a).count) else t).settle) := by
  simp only [execRawOperationComplete, State.conclude, ho, hl]

/-! ### The buffer window (R592) -/

/-- A read of the window answered with its bytes, or with 09h where it has met an error (log entry 33). -/
def State.winAnswer (q : Requester) (r : State × Option (List Byte)) : State :=
  match r.2 with | some b => r.1.answer q 0 b | none => r.1.answer q 0x09

theorem State.winRead_now (hm : s.mode.cur ≠ .switchover) (he : s.readErr 0x9000 1 q = 0)
    (hb : s.rd (Obj.BUF_WIN_ADDR u) + 65536 ≤ bufLimit) (hr : s.bufReady u = true) :
    s.winRead q u = State.winAnswer q (s.engRead u (s.rd (Obj.BUF_WIN_ADDR u)) 65536) := by
  rw [State.winRead, hold_now _ _ hm]
  simp only [he, hr, if_neg (Nat.not_lt.mpr hb), ne_eq, not_true_eq_false, Bool.not_true, Bool.false_eq_true, if_false]
  generalize s.engRead u (s.rd (Obj.BUF_WIN_ADDR u)) 65536 = r
  rfl

theorem execBufWinDataAccess_read (hm : s.mode.cur ≠ .switchover) (he : s.readErr 0x9000 1 q = 0)
    (hb : s.rd (Obj.BUF_WIN_ADDR u) + 65536 ≤ bufLimit) (hr : s.bufReady u = true) :
    execBufWinDataAccess q u none s = .next (State.winAnswer q (s.engRead u (s.rd (Obj.BUF_WIN_ADDR u)) 65536)).grave :=
  next_congr (congrArg State.grave (State.winRead_now hm he hb hr))

theorem State.winWrite_accepted {d : List Byte} (h : s.Accepts q u (Obj.BUF_WIN_DATA u) d)
    (hb : s.rd (Obj.BUF_WIN_ADDR u) + 65536 ≤ bufLimit) (hr : s.bufReady u = true) :
    s.winWrite q u d = (s.engWrite u (s.rd (Obj.BUF_WIN_ADDR u)) d).1.answer q 0 := by
  simp only [State.winWrite, hr, if_neg (Nat.not_lt.mpr hb), Bool.not_true, Bool.false_eq_true, if_false, tryKey_accepted _ h]

end Sys2Proof.Machine

/-- Settles O23: each access passes the checks that its hypotheses meet and has its effect. A read of the buffer window that meets an
error is answered 09h, which is the model's choice (log entry 33). -/
theorem cacheAndRawWindows : Obligations.CacheAndRawWindows := by
  unfold Obligations.CacheAndRawWindows
  exact ⟨
    fun _ _ _ _ _ _ h => by subst h; rfl,
    fun _ _ _ _ _ _ => rfl,
    fun _ _ h => next_congr (congrArg State.grave (State.writebackDone_nothing h)),
    fun _ _ _ _ hh he ha => next_congr (congrArg State.grave (State.writebackDone_again hh he ha)),
    fun _ _ _ _ h hv => execWayEnableWrite_accepted h hv,
    fun _ _ _ hw hc hd => execWayCleanDone_clean hw hc hd,
    fun _ _ _ h hd => next_congr ((tryKey_accepted _ h).trans (by rw [State.cacheEnable_disabled hd])),
    fun _ _ _ h he => next_congr ((tryKey_accepted _ h).trans (by rw [State.cacheDisable_enabled he])),
    fun _ _ h he hl => next_congr (State.cacheDisabled_empty h he hl),
    fun _ _ _ _ _ _ hm he hi hr ho => execRawCommand_read hm he hi hr ho,
    fun _ _ _ _ _ ho hl => execRawOperationComplete_done ho hl,
    fun s _ u hm he hb hr => by
      refine (execBufWinDataAccess_read hm he hb hr).trans ?_
      -- the answer is the same whatever the read of 65536 bytes gives, so no defeq check need run it
      generalize s.engRead u (s.rd (Obj.BUF_WIN_ADDR u)) 65536 = r
      rfl,
    fun _ _ _ _ h hb hr => next_congr (congrArg State.grave (State.winWrite_accepted h hb hr))⟩
end

section
/-! The transposition of a DMA channel's bit-plane mode, and the burst that writes a transposed element (R397, R399). -/

open Sys2Proof Sys2Proof.Machine

namespace Sys2Proof.Machine

/-! ### The transposition (R399) -/

/-- A sum of the powers of two that pass a test has their bits: none is carried. -/
theorem sum_two_pow_eq_bitsWhere (q : Nat → Bool) (n : Nat) :
    ((List.range n).map (fun i => if q i then 2 ^ i else 0)).sum = bitsWhere q n := by
  induction n with
  | zero => rfl
  | succ n ih =>
    rw [List.range_succ, List.map_append, List.sum_append, ih, List.map_cons, List.map_nil, List.sum_singleton, bitsWhere_succ]

@[simp] theorem length_bitPlane (d : List Byte) : (bitPlane d).length = 8 := by
  rw [bitPlane, List.length_map, List.length_range]

theorem getD_bitPlane (d : List Byte) {j : Nat} (hj : j < 8) :
    (bitPlane d).getD j 0 = BitVec.ofNat 8 (bitsWhere (fun i => (d.getD i 0).getLsbD j) 8) := by
  rw [bitPlane, List.getD_eq_getElem?_getD, List.getElem?_map, List.getElem?_range hj, Option.map_some, Option.getD_some,
    sum_two_pow_eq_bitsWhere]

theorem getLsbD_getD_bitPlane (d : List Byte) {i j : Nat} (hi : i < 8) (hj : j < 8) :
    ((bitPlane d).getD j 0).getLsbD i = (d.getD i 0).getLsbD j := by
  rw [getD_bitPlane d hj, BitVec.getLsbD_ofNat, testBit_bitsWhere _ hi, decide_eq_true hi, Bool.true_and]

/-- Rows and columns change places twice. -/
theorem bitPlane_bitPlane {d : List Byte} (hd : d.length = 8) : bitPlane (bitPlane d) = d := by
  refine List.ext_getElem ((length_bitPlane _).trans hd.symm) fun j hj hj' => BitVec.eq_of_getLsbD_eq fun i hi => ?_
  have hj8 : j < 8 := hd ▸ hj'
  have twice : ((bitPlane (bitPlane d)).getD j 0).getLsbD i = (d.getD j 0).getLsbD i := by
    rw [getLsbD_getD_bitPlane _ hi hj8, getLsbD_getD_bitPlane _ hj8 hi]
  rwa [List.getD_eq_getElem?_getD, List.getD_eq_getElem?_getD, List.getElem?_eq_getElem hj, List.getElem?_eq_getElem hj',
    Option.getD_some, Option.getD_some] at twice

/-! ### A burst in bit-plane mode (R397, R399) -/

variable {t r w v : State} {u : UnitId}

/-- In bit-plane mode a burst that is read and written, that nothing taps or ends, and that reaches the end of its element moves that
element transposed, counts its bytes and goes on to the next. -/
theorem State.dmaBurst_transposes {n : Nat} {c : DmaSt} {d : List Byte} (hc : t.getDma (dmaKey u n) = c) (hm : c.fld 47 1 = 1)
    (htap : c.tap = false) (hr : t.engRead u c.burst.1 c.burst.2.2 = (r, some d))
    (hw : r.dmaPut u (c.fld 15 1) c.burst.2.1 (bitPlane d) = (w, true))
    (hv : v = w.wr (Obj.DMA_BYTES_MOVED u) (min (2 ^ 64 - 1) (w.rd (Obj.DMA_BYTES_MOVED u) + c.burst.2.2)))
    (he : v.dmaEnds u n = []) (hl : c.esize ≤ c.off + c.burst.2.2) :
    t.dmaBurst u n none = v.dmaNext u n := by
  have hfill : c.fill = false := by rw [DmaSt.fill, hm]; rfl
  simp only [State.dmaBurst, hc, hfill, hm, htap, hr, hw, ← hv, he, if_true, Bool.false_eq_true, if_false, Bool.not_true,
    List.isEmpty_nil, if_neg (Nat.not_lt.mpr hl)]

end Sys2Proof.Machine

/-- Settles O51: the transposition by its bits, and the burst that writes it by the read and the write that its hypotheses give. -/
theorem bitPlaneTransposesElements : Obligations.BitPlaneTransposesElements := by
  unfold Obligations.BitPlaneTransposesElements
  exact ⟨
    fun d _ _ hi hj => getLsbD_getD_bitPlane d hi hj,
    fun d => length_bitPlane d,
    fun _ hd => bitPlane_bitPlane hd,
    fun s t r w v u n c d hs hserved ht hc hm htap hr hw hv he hl => by
      subst ht
      exact (execDmaBurstResponse_served none hs hserved).trans
        (next_congr (congrArg State.grave (State.dmaBurst_transposes hc hm htap hr hw hv he hl)))⟩
end

section
/-! What every command and every step has in common: it answers a next state, and touches no command that waits (R564, log entries 2 and 7);
and what a step is, by the queue (log entries 1, 7 and 66). -/

open Sys2Proof Sys2Proof.Machine

namespace Sys2Proof.Machine

/-! ### Every command answers -/

/-- A meaning is a next state, whatever the command does to it; a line of the monitor is the meaning of the command it spells. -/
theorem exec_answers (c : Instr) (s : State) : ∃ t, exec c s = .next t := by
  cases c
  case monLine text dropped => exact execMonLine_answers text dropped s
  all_goals exact ⟨_, rfl⟩

theorem State.rest_answers (s : State) : ∃ t, s.rest = .next t := by
  unfold State.rest
  split <;> exact ⟨_, rfl⟩

theorem step_front {c : Instr} {rest : List Instr} {s : State} (h : s.pending = c :: rest) : step s = exec c { s with pending := rest } := by
  simp only [step, h]

theorem step_empty {s : State} (h : s.pending = []) : step s = s.rest := by
  simp only [step, h]

theorem step_answers (s : State) : ∃ t, step s = .next t := by
  cases h : s.pending with
  | nil => exact step_empty h ▸ s.rest_answers
  | cons c rest => exact step_front h ▸ exec_answers c _

/-! ### No command touches the queue -/

theorem exec_pending {c : Instr} {s t : State} (h : exec c s = .next t) : t.pending = s.pending :=
  ((exec_keeps c s).of_next h).pending

theorem step_pending {s t : State} (h : s.steps t) : t.pending = s.pending.tail := by
  cases hq : s.pending with
  | nil => exact ((State.rest_keeps s).of_next ((step_empty hq).symm.trans h)).pending.trans hq
  | cons c rest => exact exec_pending ((step_front hq).symm.trans h)

/-! ### The passing of time (R566) -/

section Idle
variable {s : State} {u : UnitId}

theorem State.rest_idle (h : s.accHeld.isEmpty = true ∨ s.mode.cur = .switchover) :
    s.rest = ((((s.cleanTick .A).cleanTick .B).suspendTick .A).suspendTick .B).idle :=
  if_pos (by simpa using h)

theorem State.rest_resumes (h : s.accHeld.isEmpty = false) (hm : s.mode.cur ≠ .switchover) : s.rest = s.resumeAll.conclude :=
  if_neg (by simp [h, hm])

theorem State.cleanTick_noWay (h : s.rd (Obj.WAY_CLEANING u) = 0) : s.cleanTick u = s :=
  if_pos (by simp [h])

theorem State.suspendTick_noErase (h : (s.getJf u.code).erase = none) : s.suspendTick u = s := by
  simp only [State.suspendTick, h]

/-- With no way being cleaned and no erase under way, only the count is left. -/
theorem State.rest_quiet (h : s.accHeld.isEmpty = true ∨ s.mode.cur = .switchover) (hA : s.rd (Obj.WAY_CLEANING .A) = 0)
    (hB : s.rd (Obj.WAY_CLEANING .B) = 0) (jA : (s.getJf UnitId.A.code).erase = none) (jB : (s.getJf UnitId.B.code).erase = none) :
    s.rest = s.idle := by
  rw [State.rest_idle h, State.cleanTick_noWay hA, State.cleanTick_noWay hB, State.suspendTick_noErase jA, State.suspendTick_noErase jB]

theorem State.idle_powered (h : s.sup.vaux3 = true) : s.idle = .next { s.coresRead with now := s.now + 1 } :=
  next_congr (if_pos h)

theorem State.idle_unpowered (h : s.sup.vaux3 = false) : s.idle = .next s :=
  next_congr (if_neg (by simp [h]))

end Idle

end Sys2Proof.Machine

/-- Settles O43: `exec_keeps` says so of every command, and a step is the command at the front run with the rest of the queue waiting. That
commands wait in a queue is the model's own (log entry 7). -/
theorem queueKeptByCommands : Obligations.QueueKeptByCommands := by
  unfold Obligations.QueueKeptByCommands
  exact ⟨fun _ _ _ => exec_pending, fun _ _ => step_pending⟩

/-- Settles O42: every meaning is a next state, and so is a step without a command. That none stops the model is its choice (log entry
2). -/
theorem everyStepAnswers : Obligations.EveryStepAnswers := by
  unfold Obligations.EveryStepAnswers
  exact ⟨exec_answers, step_answers⟩

/-- Settles O39, by the definition of a step on a queue that is not empty. -/
theorem stepRunsFrontCommand : Obligations.StepRunsFrontCommand := by
  unfold Obligations.StepRunsFrontCommand
  exact fun _ _ _ => step_front

/-- Settles O40: with nothing held, or in Switchover, the ticks of cleaning and suspension and then the count, and else the accesses held. -/
theorem idleStepPassesTime : Obligations.IdleStepPassesTime := by
  unfold Obligations.IdleStepPassesTime
  exact ⟨
    fun _ hq h => (step_empty hq).trans (State.rest_idle h),
    fun _ hq h hm => (step_empty hq).trans (State.rest_resumes h hm),
    fun _ hq h hA hB jA jB hv => ((step_empty hq).trans (State.rest_quiet h hA hB jA jB)).trans (State.idle_powered hv),
    fun _ hq h hA hB jA jB hv => ((step_empty hq).trans (State.rest_quiet h hA hB jA jB)).trans (State.idle_unpowered hv)⟩
end

section
/-! The checks of a dictionary access (R561, R564): which of them an access meets first, and what it means to pass them all. -/

open Sys2Proof Sys2Proof.Machine

namespace Sys2Proof.Machine

variable {s : State} {u : UnitId} {i j : Nat} {q : Requester} {d : List Byte} {r : ObjRow}

/-! ### An object that does not exist, and one that does -/

theorem State.writeErr_noIndex (h : objLookup i j = none) : s.writeErr u i j q d = 0x01 := by
  simp only [State.writeErr, h]

theorem State.readErr_noIndex (h : objLookup i j = none) : s.readErr i j q = 0x01 := by
  simp only [State.readErr, h]

theorem State.writeErr_noSubindex (h : objLookup i j = some none) : s.writeErr u i j q d = 0x02 := by
  simp only [State.writeErr, h]

theorem State.readErr_noSubindex (h : objLookup i j = some none) : s.readErr i j q = 0x02 := by
  simp only [State.readErr, h]

/-- Steps 5 to 7 of R561 and the hold of R564, behind steps 1 to 4. -/
theorem State.writeErr_object (h : objLookup i j = some (some r)) : s.writeErr u i j q d =
    if s.modeErr i j r q true ≠ 0 then s.modeErr i j r q true
    else if r.acc == .rwa && !s.session u q then 0x06
    else if !r.ty.lengthOk d.length then 0x08
    else if r.ty.numeric && !r.inRange (leNat d) then 0x07
    else if s.writeHeld u i j r q then 0x0A
    else 0 := by
  simp only [State.writeErr, h]

theorem State.readErr_object (h : objLookup i j = some (some r)) : s.readErr i j q = s.modeErr i j r q false := by
  simp only [State.readErr, h]

theorem State.writeErr_mode {e : Nat} (h : objLookup i j = some (some r)) (hm : s.modeErr i j r q true = e) (he : e ≠ 0) :
    s.writeErr u i j q d = e := by
  rw [State.writeErr_object h, hm, if_pos he]

/-! ### Steps 1 to 4 -/

theorem State.modeErr_unserved (w : Bool) (h : s.served i j r = false) : s.modeErr i j r q w = 0x0E :=
  if_pos (by simp [h])

theorem State.modeErr_holdUp (h : s.mode.cur = .holdUp) (hx : r.idx ≠ 0x5210 ∨ j ≠ 1) : s.modeErr i j r q true = 0x0E := by
  have hx' : (r.idx == 0x5210 && j == 1) = false := by simpa [imp_iff_not_or] using hx
  exact if_pos (by rw [h, hx']; simp)

/-- A served object outside Hold-up is met by its access code first. -/
theorem State.modeErr_readOnly (hs : s.served i j r = true) (hm : s.mode.cur ≠ .holdUp) (ha : r.acc = .ro) :
    s.modeErr i j r q true = 0x03 := by
  simp [State.modeErr, hs, hm, ha]

theorem State.modeErr_writeOnly (hs : s.served i j r = true) (ha : r.acc = .wo) : s.modeErr i j r q false = 0x04 := by
  simp [State.modeErr, hs, ha]

theorem State.modeErr_notQuiet (hs : s.served i j r = true) (hm : s.mode.cur ≠ .holdUp) (ha : r.acc = .rwq) (hq : q ≠ .firmware)
    (hn : modeQuiet s.mode.cur = false) : s.modeErr i j r q true = 0x05 := by
  simp [State.modeErr, hs, hm, ha, hq, hn]

/-! ### Steps 5 to 7, and the hold of R564 -/

theorem State.writeErr_noSession (h : objLookup i j = some (some r)) (hm : s.modeErr i j r q true = 0) (ha : r.acc = .rwa)
    (hs : s.session u q = false) : s.writeErr u i j q d = 0x06 := by
  simp [State.writeErr_object h, hm, ha, hs]

theorem State.writeErr_length (h : objLookup i j = some (some r)) (hm : s.modeErr i j r q true = 0)
    (hs : r.acc = .rwa → s.session u q = true) (hl : r.ty.lengthOk d.length = false) : s.writeErr u i j q d = 0x08 := by
  have ha : (r.acc == .rwa && !s.session u q) = false := by simpa using hs
  simp [State.writeErr_object h, hm, ha, hl]

/-- The error is 0 only behind the last check. -/
theorem State.writeErr_eq_zero_iff (h : objLookup i j = some (some r)) : s.writeErr u i j q d = 0 ↔
    s.modeErr i j r q true = 0 ∧ (r.acc = .rwa → s.session u q = true) ∧ r.ty.lengthOk d.length = true ∧
      (r.ty.numeric = true → r.inRange (leNat d) = true) ∧ s.writeHeld u i j r q = false := by
  rw [State.writeErr_object h]
  (repeat' split) <;> simp_all

end Sys2Proof.Machine

/-- Settles O48: the checks stand in one chain, and each clause names the first that fails. That the check of R564 comes last is the model's
reading. -/
theorem accessChecksInOrder : Obligations.AccessChecksInOrder := by
  unfold Obligations.AccessChecksInOrder
  exact ⟨
    fun _ _ _ _ _ _ h => ⟨State.writeErr_noIndex h, State.readErr_noIndex h⟩,
    fun _ _ _ _ _ _ h => ⟨State.writeErr_noSubindex h, State.readErr_noSubindex h⟩,
    fun _ _ _ _ _ _ _ h hs => ⟨State.writeErr_mode h (State.modeErr_unserved true hs) (by decide),
      (State.readErr_object h).trans (State.modeErr_unserved false hs)⟩,
    fun _ _ _ _ _ _ _ h hm hx => State.writeErr_mode h (State.modeErr_holdUp hm hx) (by decide),
    fun _ _ _ _ _ _ _ h hs hm ha => State.writeErr_mode h (State.modeErr_readOnly hs hm ha) (by decide),
    fun _ _ _ _ _ _ _ h hs ha => (State.readErr_object h).trans (State.modeErr_writeOnly hs ha),
    fun _ _ _ _ _ _ _ h hs hm ha hq hn => State.writeErr_mode h (State.modeErr_notQuiet hs hm ha hq hn) (by decide),
    fun _ _ _ _ _ _ _ h hm ha hs => State.writeErr_noSession h hm ha hs,
    fun _ _ _ _ _ _ _ h hm hs hl => State.writeErr_length h hm hs hl,
    fun _ _ _ _ _ _ _ h => State.writeErr_eq_zero_iff h⟩
end

section
/-! Griug links, the role of the module, enumeration and the loss of a subtree (R446-R458, R462). -/

open Sys2Proof Sys2Proof.Machine

namespace Sys2Proof.Machine

variable {s : State} {u : UnitId} {l : GriugPort}

/-! ### The loss of a subtree (R458, R462) -/

/-- The modules that the root has lost: unreachable from now on. -/
theorem execGriugHoldExpiry_lost {m : Nat} {p : Fin 2} {ms : List Nat} (hr : s.casc.role = .root)
    (hm : (m = 0 && !(s.casc.downHops.contains (p.val + 1) &&
      decide (mapGet (fun _ => 0) s.casc.downAt (p.val + 1) + 1000 * s.rd Obj.GRIUG_HOLD ≤ s.now))) = false)
    (hk : ms = (s.casc.below m p).filter (fun k => (mapGet (fun _ => ({} : TreeModule)) s.casc.table k).reachable))
    (hn : ms.isEmpty = false) :
    execGriugHoldExpiry m p s =
      (let t := s.forEach ms (fun s k => s.modTable k (fun e => { e with reachable := false, lostAt := s.now }))
       .next ((t.transportError ms).raise .casc [.CASC_SUBTREE_LOST]).settle) := by
  subst hk
  simp only [execGriugHoldExpiry, State.conclude, hr, hm, hn, ne_eq, not_true_eq_false, decide_false, Bool.or_false, Bool.false_eq_true,
    if_false]

theorem execGriugDropExpiry_drops {m : Nat} {p : Fin 2} {ms : List Nat} (hr : s.casc.role = .root)
    (hk : ms = (s.casc.below m p).filter (fun k => !(mapGet (fun _ => ({} : TreeModule)) s.casc.table k).reachable &&
      !s.casc.dropped.contains k &&
      decide ((mapGet (fun _ => ({} : TreeModule)) s.casc.table k).lostAt + 1000 * s.rd Obj.GRIUG_DROP ≤ s.now)))
    (hn : ms.isEmpty = false) :
    execGriugDropExpiry m p s =
      .next (({ s with casc := { s.casc with dropped := s.casc.dropped ++ ms } } : State).nsNotice).settle := by
  subst hk
  simp only [execGriugDropExpiry, State.conclude, hr, hn, ne_eq, not_true_eq_false, decide_false, Bool.or_false, Bool.false_eq_true, if_false]

/-! ### The role of the module (R454) -/

theorem execHostPortTrained_up (hl : (s.getCtrl u.code).linkUp = false) (hv : s.sup.vin12 = true) (hm : linksTrain s.mode.cur = true)
    (hr : (s.unitSt u).inReset = false) :
    execHostPortTrained u true s = .next ((s.modCtrl u.code (fun c => { c with linkUp := true })).rootTry.settle) := by
  simp [execHostPortTrained, State.conclude, hl, hv, hm, hr]

theorem execIsolationTimeout_isolated (hs : s.sup.straps.root = false) (hu : s.upstream = false) (hr : s.casc.role = .undecided)
    (hm : linksTrain s.mode.cur = true) (ht : s.rd Obj.T_FIDDLEHEAD + 100000 ≤ s.now) :
    execIsolationTimeout s = .next (({ s with casc := { s.casc with role := .isolated } } : State).settle) := by
  simp [execIsolationTimeout, State.conclude, hs, hu, hr, hm, Nat.not_lt.mpr ht]

/-! ### Enumeration (R455-R457) -/

theorem execEnumLevelWait_waited {e : EnumSt} (he : s.casc.enumr = some e) (hr : s.casc.role = .root) (hw : s.levelWaited e = true) :
    execEnumLevelWait s = .next ((State.lateServe 64 (s.levelDone e)).settle) := by
  simp [execEnumLevelWait, State.conclude, he, hr, hw]

section Answer
variable {m : Nat} {a b : PartnerSeen} (hr : s.casc.role = .root)
  (hm : (mapGet (fun _ => ({} : TreeModule)) s.casc.table m).used = true)
include hr hm

theorem execEnumState_inLevel {e : EnumSt} (he : s.casc.enumr = some e) (hl : e.level.contains m = true) :
    execEnumState m a b s =
      .next (({ s with casc := { s.casc with enumr := some { e with seen := mapIns (mapDel e.seen m) m (a, b) } } } : State).settle) := by
  simp only [execEnumState, State.conclude, hr, hm, he, hl, ne_eq, not_true_eq_false, decide_false, Bool.not_true, Bool.or_false,
    Bool.false_eq_true, if_false, if_true]

theorem execEnumState_late (he : s.casc.enumr = none) : execEnumState m a b s = .next ((s.lateSeen m a b).settle) := by
  simp only [execEnumState, State.conclude, hr, hm, he, ne_eq, not_true_eq_false, decide_false, Bool.not_true, Bool.or_false,
    Bool.false_eq_true, if_false]

end Answer

theorem execEnumQuery_member (n : Nat) (hr : s.casc.role = .member) :
    execEnumQuery n s = .next ((s.send (.enumState (s.partnerAt 0) (s.partnerAt 1)) 0xFF n).settle) := by
  simp only [execEnumQuery, State.conclude, hr, ne_eq, not_true_eq_false, if_false]

theorem execEnumAssign_own {n : Nat} (d : Nat) (hr : s.casc.role = .member) (hn : n < 64) :
    execEnumAssign none n d s =
      .next ((({ s with casc := { s.casc with number := some n, depth := some d, rootless := false } } : State).tokenAskAll).settle) := by
  simp [execEnumAssign, State.conclude, hr, Nat.not_le.mpr hn]

theorem execEnumAssign_passed (p : Fin 2) {n : Nat} (d : Nat) (hr : s.casc.role = .member) (hn : n < 64) :
    execEnumAssign (some p) n d s =
      (let t := { s with casc := { s.casc with routes := mapPut (fun _ => 0xFF) s.casc.routes n (p.val + 1) } }
       .next ((t.sendHop (p + 1) { body := .enumAssign p n d, dest := 0xFE, src := t.casc.src }).settle)) := by
  simp [execEnumAssign, State.conclude, hr, Nat.not_le.mpr hn]

/-! ### Training of a link (R446-R448) -/

section Training
variable (hv : s.sup.vin12 = true) (hm : linksTrain s.mode.cur = true) (hr : (s.unitSt u).inReset = false)
  (hd : (s.link u l.hop).st.isUp = false) (hw : (s.link u l.hop).st ≠ .miswired)
include hv hm hr hd hw

/-- Step 4 of a training brings the identity of the partner. -/
theorem execGriugTrainingStep_ident (i : LinkIdent) (h3 : (s.link u l.hop).step = 3) :
    execGriugTrainingStep u l (.ident i) s =
      .next ((s.modLink u l.hop (fun k => { k with st := .training, step := k.step + 1, ident := some i, two := k.two || i.two })).settle) := by
  simp [execGriugTrainingStep, State.conclude, hv, hm, hr, hd, hw, h3]

theorem execGriugTrainingStep_failed :
    execGriugTrainingStep u l .failed s =
      .next ((s.modLink u l.hop (fun k => { k with st := .failed, step := 0, two := false })).settle) := by
  simp [execGriugTrainingStep, State.conclude, hv, hm, hr, hd, hw]

end Training

/-! ### The link layer (R449, R452) -/

section Link
variable (hu : (s.link u l.hop).st.isUp = true)
include hu

theorem execGriugPacketReceive_inOrder (p : Packet) :
    execGriugPacketReceive u l (.packet (s.link u l.hop).rxSeq true p) s =
      .next (((s.modLink u l.hop (fun k => { k with rxSeq := k.rxSeq + 1, answer := some (.ack (s.link u l.hop).rxSeq) })).forward p).settle) := by
  simp [execGriugPacketReceive, State.conclude, hu]

theorem execGriugPacketReceive_bad (n : BitVec 12) (p : Packet) :
    execGriugPacketReceive u l (.packet n false p) s =
      .next ((s.modLink u l.hop (fun k => { k with answer := some (.nak k.rxSeq) })).settle) := by
  simp [execGriugPacketReceive, State.conclude, hu]

theorem execGriugReplayTimeout_due (ht : (s.link u l.hop).sentAt + 10 ≤ s.now) :
    execGriugReplayTimeout u l s = .next ((s.linkReplay u l.hop).settle) := by
  simp [execGriugReplayTimeout, State.conclude, hu, ht]

end Link

end Sys2Proof.Machine

/-- Settles O29: a subtree and the enumeration by the role of the module, a link by its state and the step of its training, a packet by its
number. When a command comes, and the bits on the wire, are the sender's (log entries 3 and 184). -/
theorem treeAndGriugLinks : Obligations.TreeAndGriugLinks := by
  unfold Obligations.TreeAndGriugLinks
  exact ⟨
    fun _ _ _ _ hr hm hk hn => execGriugHoldExpiry_lost hr (by simp [hm]) hk hn,
    fun _ _ _ hr hd ht hk hn => execGriugHoldExpiry_lost hr (by rw [hd, decide_eq_true ht]; rfl) hk hn,
    fun _ _ _ _ hr hk hn => execGriugDropExpiry_drops hr hk hn,
    fun _ _ hl hv hm hr => execHostPortTrained_up hl hv hm hr,
    fun _ _ => rfl,
    fun _ hs hu hr hm ht => execIsolationTimeout_isolated hs hu hr hm ht,
    fun _ _ he hr hw => execEnumLevelWait_waited he hr hw,
    fun _ _ _ _ _ hr hm he hl => execEnumState_inLevel hr hm he hl,
    fun _ _ _ _ hr hm he => execEnumState_late hr hm he,
    fun _ n hr => execEnumQuery_member n hr,
    fun _ _ d hr hn => execEnumAssign_own d hr hn,
    fun _ p _ d hr hn => execEnumAssign_passed p d hr hn,
    fun _ _ _ i hv hm hr hd hw h3 => execGriugTrainingStep_ident hv hm hr hd hw i h3,
    fun _ _ _ hv hm hr hd hw => execGriugTrainingStep_failed hv hm hr hd hw,
    fun _ _ _ => rfl,
    fun _ _ _ p hu => execGriugPacketReceive_inOrder hu p,
    fun _ _ _ n p hu => execGriugPacketReceive_bad hu n p,
    fun _ _ _ hu ht => execGriugReplayTimeout_due hu ht⟩
end

section
/-! Spin-up tokens, and the commands, data, completions and events that cross the tree (R440-R445, R459, R460). -/

open Sys2Proof Sys2Proof.Machine

namespace Sys2Proof.Machine

variable {s : State} {m n : Nat}

/-! ### Tokens (R440-R445) -/

theorem execTokenReq_numbered (p : Nat) (hr : s.casc.role = .root) (hu : (mapGet (fun _ => ({} : TreeModule)) s.casc.table m).used = true) :
    execTokenReq m p s = .next ((s.request m p).settle) := by
  simp [execTokenReq, State.conclude, hr, hu]

theorem execTokenGrant_returned (w : Nat) (hg : s.grantHere n = true) (hf : s.firstWaiting = none) (hr : s.casc.role = .member) :
    execTokenGrant n w s = .next (((s.inc Obj.GRANTS).send (.tokenReturn n) 0xFF).settle) := by
  have hr' : (s.inc Obj.GRANTS).casc.role ≠ .root := by rw [show (s.inc Obj.GRANTS).casc = s.casc from rfl, hr]; decide
  simp [execTokenGrant, State.conclude, hg, hf, hr']

theorem execTokenGrant_port {p : Nat} (w : Nat) (hg : s.grantHere n = true) (hf : s.firstWaiting = some p) :
    execTokenGrant n w s = .next ((s.grantPort p n w false).settle) := by
  simp [execTokenGrant, State.conclude, hg, hf]

theorem execTokenReturn_held (hr : s.casc.role = .root) (hg : s.casc.ledger.any (fun g => g.module == m && g.number == n) = true) :
    execTokenReturn m n s = .next ((s.ledgerFree n).settle) := by
  rw [execTokenReturn, if_pos (by simp only [hr, hg, decide_true, Bool.and_self]), State.conclude]

theorem execTokenExpiry_due (hr : s.casc.role = .root)
    (hg : s.casc.ledger.any (fun g => g.number == n && decide (g.due ≤ s.now)) = true) :
    execTokenExpiry n s = .next ((s.ledgerFree n).settle) := by
  rw [execTokenExpiry, if_pos (by simp only [hr, hg, decide_true, Bool.and_self]), State.conclude]

theorem execLedgerRebuildHoldoffExpiry_due (hh : s.casc.holdoff = true) (ht : s.casc.holdFrom + 14000000 ≤ s.now) :
    execLedgerRebuildHoldoffExpiry s = .next ((({ s with casc := { s.casc with holdoff := false } } : State).serve).settle) := by
  simp [execLedgerRebuildHoldoffExpiry, State.conclude, hh, ht]

theorem execRootlessWaitExpiry_due (hm : s.mode.cur = .bringUp) (hn : s.casc.number = none)
    (ht : s.rd Obj.T_BRINGUP + 1000 * s.rd Obj.ROOTLESS_WAIT ≤ s.now) :
    execRootlessWaitExpiry s = .next (({ s with casc := { s.casc with rootless := true } } : State).settle) := by
  simp [execRootlessWaitExpiry, State.conclude, hm, hn, ht]

/-! ### Commands, their data and their completions (R459, R460) -/

theorem execCmd_enters {c : KvSub} (hr : s.casc.role = .member) (hn : s.casc.number.isNone = false) (hc : c.ns < 16)
    (hf : s.cascCmd n = none) (hl : s.cmds.length < 16384) :
    execCmd n c s =
      (let t := s.enterCmd { tag := ⟨s.pair.active, cascQueue, n⟩ }
       let t := t.wr Obj.CMD_SLOTS_PEAK (max (t.rd Obj.CMD_SLOTS_PEAK) t.cmds.length)
       .next ((if t.postsHeld || t.cascBehind c then t else t.cascRun ⟨s.pair.active, cascQueue, n⟩ c).settle)) := by
  simp only [execCmd, State.conclude, hr, hn, hf, ne_eq, not_true_eq_false, decide_false, decide_eq_false (Nat.not_le.mpr hc), Bool.or_false,
    Bool.false_eq_true, if_false, if_neg (Nat.not_le.mpr hl)]

theorem execDataReq_needed {c : HostCmd} (o k : Nat) (hc : s.forwarded m n = some c) (h0 : c.need ≠ 0) :
    execDataReq m n o k s = .next ((s.send (.data (((c.value.drop o).take k).take 4096)) m n o).settle) := by
  simp only [execDataReq, State.conclude, hc, if_neg h0]

/-- At the root the data of a read gathers for the host. -/
theorem execData_root {c : HostCmd} (d : List Byte) (hr : s.casc.role = .root) (hc : s.forwarded m n = some c) (h0 : c.need = 0) :
    execData m n c.value.length d s = .next ((s.modCmd c.tag (fun c => { c with value := c.value ++ d })).settle) := by
  simp [execData, State.conclude, hr, hc, h0]

/-- At a module the last data of a Store lets it run. -/
theorem execData_last {c : HostCmd} {d : List Byte} (hr : s.casc.role = .member) (hc : s.cascCmd n = some c) (hd : c.need = d.length)
    (he : d.isEmpty = false) :
    execData m n c.value.length d s =
      .next (((s.modCmd c.tag (fun h => { h with value := h.value ++ d, need := h.need - d.length })).runStore c.tag c.ns c.key (c.value ++ d)
        c.opt c.hint).settle) := by
  have h0 : d.length ≠ 0 := by simpa using he
  simp [execData, State.conclude, hr, hc, hd, he, h0]

theorem execCpl_forwarded {c : HostCmd} (a b d w : Nat) (r : Bool) (hc : s.forwarded m n = some c) :
    execCpl m n a b r d w s =
      .next ((s.completeWith c.tag a b r d w (if c.need = 0 then c.value.take c.limit else [])).settle) := by
  simp only [execCpl, State.conclude, hc]

theorem execEvent_numbered (a b d : Nat) (hr : s.casc.role = .root) (hu : (mapGet (fun _ => ({} : TreeModule)) s.casc.table m).used = true) :
    execEvent m a b d s = .next ((s.aenAll (aenMask a b) { ty := a, info := b, log := d }).settle) := by
  simp [execEvent, State.conclude, hr, hu]

end Sys2Proof.Machine

/-- Settles O30: a token by the ledger at the root and by the ports that wait at a module, a command by the role of the module that takes
its packet and by the command that the packet's tag names. -/
theorem tokensAndForwardedCommands : Obligations.TokensAndForwardedCommands := by
  unfold Obligations.TokensAndForwardedCommands
  exact ⟨
    fun _ _ p hr hu => execTokenReq_numbered p hr hu,
    fun _ _ w hg hf hr => execTokenGrant_returned w hg hf hr,
    fun _ _ w _ hg hf => execTokenGrant_port w hg hf,
    fun _ _ _ hr hg => execTokenReturn_held hr hg,
    fun _ _ hr hg => execTokenExpiry_due hr hg,
    fun _ hh ht => execLedgerRebuildHoldoffExpiry_due hh ht,
    fun _ hm hn ht => execRootlessWaitExpiry_due hm hn ht,
    fun _ _ _ hr hn hc hf hl _ _ => execCmd_enters hr hn hc hf hl,
    fun _ _ _ o k _ hc h0 => execDataReq_needed o k hc h0,
    fun _ _ _ d _ hr hc h0 => execData_root d hr hc h0,
    fun _ _ _ _ _ hr hc hd he => execData_last hr hc hd he,
    fun _ _ _ a b d w r _ hc => execCpl_forwarded a b d w r hc,
    fun _ _ a b d hr hu => execEvent_numbered a b d hr hu⟩
end

section
/-! Tripped checks, the release of TOKEN, the unit that takes the role, and the standby that becomes ready (R469, R473-R479, R620). -/

open Sys2Proof Sys2Proof.Machine

namespace Sys2Proof.Machine

variable {s : State} {c : ReleaseCause}

/-! ### Tripped checks (R473-R475, R620) -/

section Active
variable (hd : s.pair.roleDecided = true) (hr : (s.unitSt s.pair.active).inReset = false) (ht : s.checkTripped s.pair.active c = true)
include hd hr ht

/-- A check of the active unit that may release TOKEN: a fatal one, or any with the standby ready (R475). -/
theorem State.checkTrip_releases (h : c.degrading = false ∨ s.peerReady = true) :
    s.checkTrip c = s.releaseToken (some c) .tokenReleased false := by
  have hc : (!c.degrading || s.peerReady) = true := by simpa using h
  simp only [State.checkTrip, hd, hr, ht, hc, Bool.not_true, Bool.or_false, Bool.false_eq_true, if_false, if_true]

/-- A degrading check without a ready standby is held (R475). -/
theorem State.checkTrip_held (hc : c.degrading = true) (hp : s.peerReady = false) (hh : s.pair.heldCheck = none) :
    s.checkTrip c =
      (({ s with pair := { s.pair with heldCheck := some c } } : State).save Obj.LAST_RELEASE_CAUSE c.code).raise .pair [.PAIR_HELD_RELEASE] := by
  simp only [State.checkTrip, hd, hr, ht, hc, hp, hh, Bool.not_true, Bool.or_false, Bool.false_eq_true, if_false, Option.isSome_none]

end Active

theorem execStandbyCheckTrip_trips (hr : s.standbyRuns = true) (ht : s.checkTripped s.pair.active.other c = true) :
    execStandbyCheckTrip c s = .next ((s.standbyTrip c).settle) := by
  simp only [execStandbyCheckTrip, State.conclude, hr, ht, Bool.and_self, if_true]

theorem execIslandTrip_active {n : Nat} (hd : s.pair.roleDecided = true) (hr : (s.unitSt s.pair.active).inReset = false)
    (hn : s.rd Obj.ISLAND_TIMEOUT ≤ n) :
    execIslandTrip s.pair.active n s = .next ((s.releaseToken (some .island) .tokenReleased false).settle) := by
  simp [execIslandTrip, State.conclude, hd, hr, Nat.not_lt.mpr hn]

theorem UnitId.other_ne (u : UnitId) : u.other ≠ u := by cases u <;> decide

/-- A standby that runs has its role decided and is out of reset. -/
theorem State.standbyRuns_iff : s.standbyRuns = true ↔
    s.pair.roleDecided = true ∧ (s.unitSt s.pair.active.other).inReset = false ∧ (s.pair.peer = .ready ∨ s.pair.peer = .stateCopy) := by
  simp [State.standbyRuns, and_assoc]

theorem execIslandTrip_standby {n : Nat} (hr : s.standbyRuns = true) (hn : s.rd Obj.ISLAND_TIMEOUT ≤ n) :
    execIslandTrip s.pair.active.other n s = .next ((s.standbyTrip .island).settle) := by
  obtain ⟨hd, hi, _⟩ := State.standbyRuns_iff.mp hr
  simp [execIslandTrip, State.conclude, hd, hi, hr, Nat.not_lt.mpr hn, UnitId.other_ne]

/-! ### The take-over (R477-R479) -/

/-- One port taken from its shadows, and whether a shadow was not valid so far (R477). -/
def State.shadowFold : State × Bool → Nat → State × Bool := fun (s, b) p => let (s, x) := s.shadowPort p; (s, b || x)

/-- The new active unit `u` once it has taken its shadows: `bad` where one was not valid, and the ports `ps` to be claimed. -/
def State.roleTaken (r : State) (u : UnitId) (ps : List Nat) (bad : Bool) : State :=
  let t := r.forEach (ps.filter (fun p => (r.getLine (sideKey u p)).ct = .lost)) (fun s p => s.ctLoss p)
  let t := t.forEach (List.range 16) (fun s p =>
    (((s.penDrive p ((s.getPort p).state.inPower)).spinDrive p (s.spinFor p)).modPort p (fun q => { q with mediaHeld := true })))
  let t := { t with pair := { t.pair with toClaim := ps } }
  (if bad then t.raise .pair [.PAIR_SHADOW_INVALID] else t).claimedAll

/-- A released unit loses its host port unless it was released by plan; then the standby holds TOKEN, and takes its shadows. -/
theorem State.takeRole_takes {k t r : State} {ps : List Nat} {bad : Bool} (hm : s.mode.cur = .switchover)
    (hr : (s.unitSt s.pair.active).releasedAt.isNone = false) (hp : s.peerReady = true)
    (hk : k = (if (s.unitSt s.pair.active).plannedRelease then s else s.ctrlDown s.pair.active))
    (ht : t = ({ k with
      pair := { k.pair with active := s.pair.active.other, peer := .released, settleFrom := none, takeTime := k.now, unlike := k.rowsUnlike }
      mon := { k.mon with traces := [], tail := none, rateSince := none } } : State).recordsAlone)
    (hps : ps = (List.range 16).filter (fun p => (t.getPort p).state.inPower)) (hf : ps.foldl State.shadowFold (t, false) = (r, bad)) :
    s.takeRole = r.roleTaken s.pair.active.other ps bad := by
  have hg : ¬(decide (s.mode.cur ≠ .switchover) || (s.unitSt s.pair.active).releasedAt.isNone || !s.peerReady) = true := by
    simp [hm, hr, hp]
  unfold State.takeRole
  refine (if_neg hg).trans ?_
  extract_lets k' pair mon taken t' ps'
  obtain rfl : k = k' := hk
  obtain rfl : t = t' := ht
  obtain rfl : ps = ps' := hps
  have hf' : List.foldl (fun (s, b) p => let (s, x) := State.shadowPort s p; (s, b || x)) (t', false) ps' = (r, bad) := hf
  rw [hf']
  rfl

theorem execTakeoverComplete_ends {t : State} (hm : s.mode.cur = .switchover) (ht : s.takeover = t) (hn : t.mode.cur ≠ .switchover) :
    execTakeoverComplete s = .next (t.plannedBack.peerTry.resumeAll.settle) := by
  simp [execTakeoverComplete, State.conclude, ht, hm, hn]

/-! ### The standby becomes ready (R469, R475, R478) -/

/-- A unit `t` that joins at the end of the state copy, and the check that was held for want of a ready standby (R475). -/
def State.joined (t : State) (v : UnitId) : State :=
  let t := (({ t with pair := { t.pair with peer := .ready, settleFrom := some t.now } } : State).recorderJoin.followLines).mcCopy v
  match t.pair.heldCheck with
  | none => t
  | some c => if t.checkTripped t.pair.active c then t.releaseToken (some c) .tokenReleased false
    else { t with pair := { t.pair with heldCheck := none } }

theorem State.standbyReady_joins (o : Bool) (hp : s.pair.peer = .stateCopy) (hu : s.mirrorUp = true)
    (hr : (s.unitSt s.pair.active.other).inReset = false) (hj : (s.getJf s.pair.active.other.code).exhausted = false)
    (hs : s.shadowsValid = true) (hl : s.lanesTrained = true) (hv : s.sameVersion = true)
    (hn : (s.unitSt s.pair.active.other).releasedAt = none) :
    s.standbyReady o = (s.modUnit s.pair.active.other
      (fun x => { x with releasedAt := none, plannedRelease := false, tripped := false, resent := false })).joined s.pair.active.other := by
  have hg : ¬(decide (s.pair.peer ≠ .stateCopy) || !s.mirrorUp || (s.unitSt s.pair.active.other).inReset ||
      (s.getJf s.pair.active.other.code).exhausted || !s.shadowsValid || !s.lanesTrained) = true := by
    simp [hp, hu, hr, hj, hs, hl]
  refine (if_neg hg).trans ?_
  rw [if_neg (by simp [hv]), if_neg (by simp [hv]), hn]
  rfl

theorem execRejoinSettleExpiry_due {t : Nat} (hf : s.pair.settleFrom = some t) (ht : t + 1000000 * s.rd Obj.REJOIN_SETTLE ≤ s.now) :
    execRejoinSettleExpiry s = .next { s with pair := { s.pair with settleFrom := none } } := by
  simp only [execRejoinSettleExpiry, hf, if_pos ht]

end Sys2Proof.Machine

/-- Settles O20: a tripped check by its class and by the unit it trips on, the release and the take-over by the state of both units. That a
release ends the monitor's traces and drives SPIN and PEN again, that a held check is dropped once a standby is ready, and that STANDBY_READY
stands for the end of the state copy are the model's choices (log entries 262, 150, 159 and 156). -/
theorem selfDiagnosisAndRelease : Obligations.SelfDiagnosisAndRelease := by
  unfold Obligations.SelfDiagnosisAndRelease
  exact ⟨
    fun _ _ hd hr ht h => next_congr (congrArg State.settle (State.checkTrip_releases hd hr ht h)),
    fun _ _ hd hr ht hc hp hh => next_congr (congrArg State.settle (State.checkTrip_held hd hr ht hc hp hh)),
    fun _ _ hr ht => execStandbyCheckTrip_trips hr ht,
    fun _ _ _ hd hr hn hu => by subst hu; exact execIslandTrip_active hd hr hn,
    fun _ _ _ hr hn hu => by subst hu; exact execIslandTrip_standby hr hn,
    fun _ _ _ _ _ _ hm hr hp hk ht hps hf => next_congr (congrArg State.settle (State.takeRole_takes hm hr hp hk ht hps hf)),
    fun _ _ hm ht hn => execTakeoverComplete_ends hm ht hn,
    fun _ _ o hp hu hr hj hs hl hv hn ht => by
      subst ht; exact next_congr (congrArg State.settle (State.standbyReady_joins o hp hu hr hj hs hl hv hn)),
    fun _ _ hf ht => execRejoinSettleExpiry_due hf ht⟩
end

section
/-! Status clears, emergency messages, and the recorder: its pages, its records and the authorised clear (R526, R533-R537, R578). -/

open Sys2Proof Sys2Proof.Machine

namespace Sys2Proof.Machine

variable {s : State} {q : Requester} {u : UnitId}

/-! ### Status clears and emergencies (R526, R578) -/

theorem execStatusClear_accepted {i j : Nat} {v : BitVec 16} {x : Site} (hx : siteAt u i j = some x) (hm : s.mode.cur ≠ .switchover)
    (he : s.writeErr u i j q (leBytes 2 v.toNat) = 0) :
    execStatusClear q u i j v s = .next ((s.clearStatus q x v.toNat).answer q 0) := by
  simp only [execStatusClear, hx, tryWrite_accepted _ hm he]

/-- A write that clears at least one bit is recorded. -/
theorem State.clearStatus_records {x : Site} {n : Nat} (h : s.clearable x n ≠ 0) :
    s.clearStatus q x n =
      (let t := s.wr x.key (s.rd x.key - s.clearable x n)
       t.log { ty := 3, unit := x.unit.getD t.reporter,
               body := leBytes 2 (keyIndex x.key) ++ leBytes 1 (keySub x.key) ++ leBytes 2 (s.clearable x n) ++ leBytes 1 (ifaceCode q) }) :=
  if_neg h

/-- Without PLCA a transmit opportunity carries one message. -/
theorem execEmergency_one (h : s.plcaActive s.reporter = false) : execEmergency s = .next s.sendEmergency := by
  have hb : s.burst = 1 := if_neg (by simp [h])
  rw [execEmergency, hb]
  rfl

theorem State.sendEmergency_oldest {m : Emcy} {r : List Emcy} (h : s.emcy = m :: r) :
    s.sendEmergency =
      (let f : KdapOut := { unit := s.reporter, dest := s.rd Obj.EMCY_DEST_MAC, service := 0x10, index := m.index, sub := m.sub,
                            param := m.ty + 0x10000 * m.cls, data := m.body }
       (({ s with emcy := r, kdapTx := f :: s.kdapTx } : State).inc Obj.EMCY_SEQ).inc (Obj.KDAP_TX s.reporter)) := by
  simp only [State.sendEmergency, h]

/-! ### Pages (R533) -/

section Page
variable {e : ErSt} {j : JfSt} (he : s.getEr u.code = e) (hj : s.getJf u.code = j) (hc : s.canProgram u = true) (hb : j.busy = false)
  (hd : e.due.isEmpty = false) (hw : e.wraps = false) (hs : (decide (e.wp % 256 = 0) && j.stale (548 + e.wp / 256)) = false)
include he hj hc hb hd hw hs

/-- A page that is due where the write point's block needs no erase: the checks of R547 decide. -/
theorem State.erProgram_due (n : Nat) :
    s.erProgram u false n =
      (let p := j.phys (548 + e.wp / 256)
       let held := match j.erase with | some x => decide (x.phys = p) | none => false
       if p = 0xFFFF || held || j.incomplete.contains p || j.blocked.contains p || j.page p (e.wp % 256) ≠ .blank then
         (s.putEr u.code e).raise (.er u) [.ER_WRITE_FAIL]
       else if 2 < n then
         ((((s.putJf u.code { j.setPage p (e.wp % 256) .undefined with blocked := p :: j.blocked }).putEr u.code
           { e with wp := (e.wp / 256 + 1) * 256 % 32768 }).inc (Obj.PROG_FAILS u)).raise (.jf u) [.JF_PROG_FAIL])
       else
         (let b := e.programPage.2.flatMap (fun x => x.2.bytes)
          (s.putJf u.code (j.setPage p (e.wp % 256) (.data (b ++ List.replicate (256 - b.length) 0xFF)))).putEr u.code e.programPage.1)) := by
  subst he hj
  simp only [State.erProgram, hc, hb, hd, hw, hs, Bool.false_and, Bool.not_true, Bool.or_self, Bool.false_eq_true, if_false]
    <;> rfl

theorem State.erProgram_notBlank (n : Nat) (hp : j.page (j.phys (548 + e.wp / 256)) (e.wp % 256) ≠ .blank) :
    s.erProgram u false n = (s.putEr u.code e).raise (.er u) [.ER_WRITE_FAIL] :=
  (State.erProgram_due he hj hc hb hd hw hs n).trans (if_pos (by simp [hp]))

theorem State.erProgram_programs {n p : Nat} (hp : p = j.phys (548 + e.wp / 256)) (hf : p ≠ 0xFFFF) (hx : j.erase = none)
    (hi : j.incomplete.contains p = false) (hk : j.blocked.contains p = false) (hg : j.page p (e.wp % 256) = .blank) (hn : n ≤ 2) :
    s.erProgram u false n =
      (let b := e.programPage.2.flatMap (fun x => x.2.bytes)
       (s.putJf u.code (j.setPage p (e.wp % 256) (.data (b ++ List.replicate (256 - b.length) 0xFF)))).putEr u.code e.programPage.1) := by
  subst hp
  rw [State.erProgram_due he hj hc hb hd hw hs n]
  simp only [hf, hx, hi, hk, hg, ne_eq, not_true_eq_false, decide_false, Bool.or_self, Bool.false_eq_true, if_false, if_neg (Nat.not_lt.mpr hn)]

end Page

/-! ### Records read (R534) -/

theorem execErRecordRead_found {r : Rec} {b : Bool} (hm : s.mode.cur ≠ .switchover) (he : s.readErr 0x5200 5 q = 0)
    (hn : s.rd (Obj.ER_READ_SEQ u) < (s.getEr u.code).next) (ho : (s.getEr u.code).oldest ≤ s.rd (Obj.ER_READ_SEQ u))
    (hf : (s.getEr u.code).find (s.rd (Obj.ER_READ_SEQ u)) = some (r, b)) (hb : b = true ∨ s.sup.vin12 = true) :
    execErRecordRead q u s =
      .next (((s.wr (Obj.ER_READ_SEQ u) (s.rd (Obj.ER_READ_SEQ u) + 1)).modEr u.code (fun e => { e with readResult := 0 })).answer q 0 r.bytes) := by
  have hb' : (!b && !s.sup.vin12) = false := by rcases hb with hb | hb <;> simp [hb]
  rw [execErRecordRead, State.erRead, hold_now _ _ hm]
  simp only [he, ne_eq, not_true_eq_false, if_false, if_neg (Nat.not_le.mpr hn), if_neg (Nat.not_lt.mpr ho), hf, hb', Bool.false_eq_true]

/-! ### The authorised clear (R536, R537) -/

theorem execErChallengeRead_drawn (hm : s.mode.cur ≠ .switchover) (he : s.readErr 0x5210 0 q = 0)
    (h8 : (((s.getEr u.code).forget q).challenges.filter (fun c => decide (s.now ≤ c.2.2 + 60000000))).length < 8) :
    execErChallengeRead q u s =
      .next (((s.random16.2.modEr u.code (fun e =>
        { e.forget q with challenges := (q, s.random16.1, s.random16.2.now) :: (e.forget q).challenges })).answer q 0 s.random16.1)) := by
  rw [execErChallengeRead, State.erChallenge, hold_now _ _ hm]
  simp only [he, ne_eq, not_true_eq_false, if_false, if_neg (Nat.not_le.mpr h8)]

theorem execErClearResponseWrite_accepted {d : List Byte} (hm : s.mode.cur ≠ .switchover) (he : s.writeErr u 0x5210 1 q d = 0) :
    execErClearResponseWrite q u d s = .next ((s.erClear q u d).answer q 0) :=
  next_congr (tryWrite_accepted _ hm he)

/-- The right response erases the ring and is recorded. -/
theorem State.erClear_right {k c : List Byte} (hm : s.mode.cur ≠ .holdUp) (hk : (s.getFuse u.code).erKey = some k)
    (hc : (s.getEr u.code).challengeOf q s.now = some c) :
    s.erClear q u (erResponse k c (s.getEr u.code).newest) =
      (let e := s.getEr u.code
       let t := s.erErase.modEr u.code (fun e => { e.forget q with clearResult := 1 })
       let b := leBytes 8 e.oldest ++ leBytes 8 e.newest ++ leBytes 1 (ifaceCode q) ++ c
       let t := ((t.log { ty := 8, unit := u, body := b }).raise (.er u) [.ER_CLEARED]).incSave (Obj.ER_CLEARS u)
       t.emergency { index := 0, sub := 0, ty := 8, cls := 0, body := b }) := by
  simp only [State.erClear, if_neg hm, hk, hc, if_true]

end Sys2Proof.Machine

/-- Settles O32: a clear by the bits it may clear, a page by the write point and the checks of R547, the accesses of the recorder past their
checks. Random bytes are free values (log entry 8), and a block of the ring is erased where the write point enters it (log entry 257). -/
theorem eventRecorder : Obligations.EventRecorder := by
  unfold Obligations.EventRecorder
  exact ⟨
    fun _ _ _ _ _ _ _ hx hm he => execStatusClear_accepted hx hm he,
    fun _ q _ _ _ _ _ hx hm he hc =>
      (execStatusClear_accepted hx hm he).trans (next_congr (congrArg (fun t => t.answer q 0) (State.clearStatus_records hc))),
    fun _ _ _ h he => (execEmergency_one h).trans (next_congr (State.sendEmergency_oldest he)),
    fun _ _ _ _ n he hj hc hb hd hw hs hp => next_congr (State.erProgram_notBlank he hj hc hb hd hw hs n hp),
    fun _ _ _ _ _ _ he hj hc hb hd hw hs hp hf hx hi hk hg hn =>
      next_congr (State.erProgram_programs he hj hc hb hd hw hs hp hf hx hi hk hg hn),
    fun _ _ _ _ _ hm he hn ho hf hb => execErRecordRead_found hm he hn ho hf hb,
    fun _ _ _ hm he h8 => execErChallengeRead_drawn hm he h8,
    fun _ _ _ _ hm he => execErClearResponseWrite_accepted hm he,
    fun _ q _ _ _ _ hm he hk hc hd => by
      subst hd
      exact (execErClearResponseWrite_accepted (by simp [hm]) he).trans
        (next_congr (congrArg (fun t => t.answer q 0) (State.erClear_right (by simp [hm]) hk hc))),
    fun _ _ _ => rfl⟩
end

section
/-! The commands of the journal flash behind their checks (R542-R550, R553, R554). -/

open Sys2Proof Sys2Proof.Machine

namespace Sys2Proof.Machine

variable {s : State} {u : UnitId} {i : JfIface} {x : BitVec 32}

/-! ### Commands that pass the checks of address, interface and power -/

theorem jfRun_passes {op : Nat} {paged : Bool} {body : State → State × Nat × List Byte} {t : State} {bits : Nat} {data : List Byte}
    (h : s.jfRefuse u i op x paged = none) (hb : body s = (t, bits, data)) :
    s.jfRun u i op x paged body = t.jfAnswer u i ((t.getJf u.code).word op (some (jfBlock x)) bits) data := by
  simp only [State.jfRun, h, hb]

section Block
variable (hb : (s.getJf u.code).busy = false) (hp : (s.getJf u.code).phys (jfBlock x) ≠ 0xFFFF)
include hb hp

/-- A blank page reads FFh (R546). -/
theorem State.readPage_blank (n : Nat) (h : s.jfRefuse u i 1 x true = none) (he : (s.getJf u.code).erase = none)
    (hi : (s.getJf u.code).incomplete.contains ((s.getJf u.code).phys (jfBlock x)) = false)
    (hg : (s.getJf u.code).page ((s.getJf u.code).phys (jfBlock x)) (jfPageNo x) = .blank) :
    s.readPage u i x n =
      s.jfAnswer u i ((s.getJf u.code).word 1 (some (jfBlock x)) (swDataValid ||| swDone)) (List.replicate 256 0xFF) :=
  jfRun_passes h (by
    simp only [hb, hp, he, hi, hg, decide_false, Bool.or_self, Bool.false_eq_true, if_false])

/-- A program starts on a blank page of a block that may be programmed (R547). -/
theorem State.programPage_starts (d : List Byte) (h : s.jfRefuse u i 2 x true = none) (he : (s.getJf u.code).erase = none)
    (hi : (s.getJf u.code).incomplete.contains ((s.getJf u.code).phys (jfBlock x)) = false)
    (hk : (s.getJf u.code).blocked.contains ((s.getJf u.code).phys (jfBlock x)) = false)
    (hg : (s.getJf u.code).page ((s.getJf u.code).phys (jfBlock x)) (jfPageNo x) = .blank) :
    s.programPage u i x d =
      (let t := s.modJf u.code (fun j => { j with
        prog := some ⟨(s.getJf u.code).phys (jfBlock x), jfPageNo x, (d ++ List.replicate 256 0xFF).take 256, i⟩ })
       t.jfAnswer u i ((t.getJf u.code).word 2 (some (jfBlock x)) 0) []) :=
  jfRun_passes h (by
    simp only [hb, hp, he, hi, hk, hg, ne_eq, not_true_eq_false, Bool.or_self, Bool.false_eq_true, if_false])

/-- An erase first writes the row ERASING with its count raised (R548). -/
theorem State.eraseBlock_starts (h : s.jfRefuse u i 3 x false = none) (hs : (s.getJf u.code).suspended = false)
    (hl : (s.getJf u.code).live (jfBlock x) = false) :
    s.eraseBlock u i x =
      (let t := (let n := min (((s.getJf u.code).row ((s.getJf u.code).phys (jfBlock x))).count + 1) 0xFFFFFFFF
         let r := s.putJf u.code { (s.getJf u.code).writeRow ((s.getJf u.code).phys (jfBlock x)) 0xA5 n (jfBlock x) with
           erase := some { logical := jfBlock x, phys := (s.getJf u.code).phys (jfBlock x), iface := i, since := s.now } }
         let r := if r.rd (Obj.ERASE_COUNT_MAX u) < n then r.wr (Obj.ERASE_COUNT_MAX u) n else r
         if n = 100000000 then r.raise (.jf u) [.JF_WEAR_LIMIT] else r)
       t.jfAnswer u i ((t.getJf u.code).word 3 (some (jfBlock x)) 0) []) :=
  jfRun_passes h (by
    simp only [hb, hp, hs, hl, Bool.or_self, Bool.and_false, Bool.false_eq_true, if_false])

/-- Whether a page is blank, of a block whose erase has completed (R543). -/
theorem State.blankCheck_tells (h : s.jfRefuse u i 7 x true = none) (he : (s.getJf u.code).erase = none)
    (hi : (s.getJf u.code).incomplete.contains ((s.getJf u.code).phys (jfBlock x)) = false) :
    s.blankCheck u i x =
      s.jfAnswer u i ((s.getJf u.code).word 7 (some (jfBlock x))
        ((if (s.getJf u.code).page ((s.getJf u.code).phys (jfBlock x)) (jfPageNo x) = .blank then 0 else swNotBlank) ||| swDone)) [] :=
  jfRun_passes h (by
    by_cases hg : (s.getJf u.code).page ((s.getJf u.code).phys (jfBlock x)) (jfPageNo x) = .blank
    · simp only [hb, hp, hg, Bool.false_eq_true, if_false, if_true, Nat.zero_or]
    · simp only [hb, hp, hg, hi, he, Bool.or_self, Bool.false_eq_true, if_false])

theorem State.retireBlock_retires (h : s.jfRefuse u i 9 x true = none) (he : (s.getJf u.code).erase = none) :
    s.retireBlock u i x =
      (let t := s.jfRetire u (jfBlock x)
       t.jfAnswer u i ((t.getJf u.code).word 9 (some (jfBlock x)) (swRetired ||| swDone)) []) :=
  jfRun_passes h (by simp only [hb, hp, he, Bool.or_self, Bool.false_eq_true, if_false])

end Block

theorem State.readStateRow_mapped (h : s.jfRefuse u i 8 x false = none) (hp : (s.getJf u.code).phys (jfBlock x) ≠ 0xFFFF) :
    s.readStateRow u i x =
      s.jfAnswer u i ((s.getJf u.code).word 8 (some (jfBlock x)) swDone)
        ((s.getJf u.code).row ((s.getJf u.code).phys (jfBlock x))).bytes :=
  jfRun_passes h (by simp only [hp, if_false])

/-- The management interface gives an unmapped number the source's block, from outside the index journal (R554). -/
theorem State.moveMap_moves {d : BitVec 16} (h : s.jfRefuse u .management 10 x true = none) (hb : (s.getJf u.code).busy = false)
    (he : (s.getJf u.code).erase = none) (hp : (s.getJf u.code).phys (jfBlock x) = 0xFFFF) (hs : (s.getJf u.code).phys d.toNat ≠ 0xFFFF)
    (hd : d.toNat ≤ 3999) (hj : inJournal d.toNat = false) :
    s.moveMap u .management x d =
      (let p := (s.getJf u.code).phys d.toNat
       let t := (s.putJf u.code ((((s.getJf u.code).writeRow p ((s.getJf u.code).row p).state ((s.getJf u.code).row p).count
         (jfBlock x)).setMap (jfBlock x) p).setMap d.toNat 0xFFFF)).slotRestore u (jfBlock x)
       t.jfAnswer u .management ((t.getJf u.code).word 10 (some (jfBlock x)) swDone) []) :=
  jfRun_passes h (by
    simp only [hb, he, hp, hs, hj, decide_eq_false (Nat.not_lt.mpr hd), ne_eq, not_true_eq_false, decide_false, Bool.or_self,
      Bool.false_and, Bool.false_eq_true, if_false, reduceCtorEq])

/-! ### The end of a program (R547) -/

/-- A program that is not the firmware's ends with its bytes; the index journal has no part in it. -/
theorem State.journalProgrammed_verified {n : Nat} {g : JfProg} (hg : (s.getJf u.code).prog = some g) (hn : n ≤ 2) (hi : g.iface ≠ .firmware) :
    s.journalProgrammed u n =
      (let t := s.putJf u.code { (s.getJf u.code).setPage g.phys g.page (.data g.bytes) with prog := none }
       t.jfAnswer u g.iface ((t.getJf u.code).word 2 (some ((s.getJf u.code).row g.phys).logical) swDone)) := by
  simp only [State.journalProgrammed, State.programComplete, hg, hn, hi, decide_false, Bool.false_and, Bool.false_eq_true, if_false, if_true]

/-! ### Erases under way (R548-R550) -/

theorem State.inc_getJf (s : State) (k c : Nat) : (s.inc k).getJf c = s.getJf c := rfl

section Erase
variable {e : JfErase} (he : (s.getJf u.code).erase = some e)
include he

theorem State.eraseComplete_verified (hs : e.suspended = false) :
    s.eraseComplete u true =
      (let j := ((s.getJf u.code).writeRow e.phys 0x5A ((s.getJf u.code).row e.phys).count e.logical).blankBlock e.phys
       let t := s.putJf u.code { j with
         erase := none, incomplete := (s.getJf u.code).incomplete.filter (· ≠ e.phys), blocked := (s.getJf u.code).blocked.filter (· ≠ e.phys) }
       let t := t.wr (Obj.INCOMPLETE_BLOCKS u) (t.getJf u.code).incomplete.length
       t.jfAnswer u e.iface ((t.getJf u.code).word 3 (some e.logical) swDone)) := by
  simp only [State.eraseComplete, he, hs, Bool.false_eq_true, if_false, if_true]

theorem State.eraseComplete_failed (hs : e.suspended = false) :
    s.eraseComplete u false =
      (let t := s.putJf u.code { (s.getJf u.code).blankBlock e.phys with erase := none }
       let t := ((t.inc (Obj.ERASE_FAILS u)).raise (.jf u) [.JF_ERASE_FAIL]).jfRetire u e.logical
       let t := t.wr (Obj.INCOMPLETE_BLOCKS u) (t.getJf u.code).incomplete.length
       t.jfAnswer u e.iface ((t.getJf u.code).word 3 (some e.logical) (swRetired ||| swEraseFail ||| swDone))) := by
  simp only [State.eraseComplete, he, hs, Bool.false_eq_true, if_false]

/-- An active erase whose pulses have run for 500 µs halts at once (R549). -/
theorem State.suspendErase_halts (hs : e.suspended = false) (ht : e.since + 500 ≤ s.now) :
    s.suspendErase u i =
      (s.modJf u.code (fun j => { j with erase := some { e with suspended := true, asked := none } })).inc (Obj.SUSPENDS u) := by
  simp only [State.suspendErase, he, hs, Nat.not_lt.mpr ht, Bool.false_eq_true, if_false]

theorem State.eraseSuspend_halts (h : s.jfRefuse u e.iface 4 x false = none) (hs : e.suspended = false) (ht : e.since + 500 ≤ s.now) :
    s.eraseSuspend u e.iface x =
      (let t := (s.modJf u.code (fun j => { j with erase := some { e with suspended := true, asked := none } })).inc (Obj.SUSPENDS u)
       t.jfAnswer u e.iface ((t.getJf u.code).word 4 (some (jfBlock x)) swDone) []) :=
  jfRun_passes h (by
    have hj : (((s.modJf u.code (fun j => { j with erase := some { e with suspended := true, asked := none } })).inc
        (Obj.SUSPENDS u)).getJf u.code).suspended = true := by
      rw [State.inc_getJf, State.getJf_modJf]
      rfl
    simp only [he, hs, State.suspendErase_halts he hs ht, hj, ne_eq, not_true_eq_false, Bool.false_eq_true, if_false, if_true])

theorem State.eraseResume_goesOn (h : s.jfRefuse u e.iface 5 x false = none) (hs : e.suspended = true) (hg : (s.getJf u.code).prog = none) :
    s.eraseResume u e.iface x =
      (let t := s.modJf u.code (fun j => { j with erase := some { e with suspended := false, since := s.now } })
       t.jfAnswer u e.iface ((t.getJf u.code).word 5 (some (jfBlock x)) swDone) []) :=
  jfRun_passes h (by
    simp only [he, hs, hg, ne_eq, not_true_eq_false, Option.isSome_none, Bool.not_true, Bool.or_self, Bool.false_eq_true, if_false])

end Erase

end Sys2Proof.Machine

/-- Settles O31: each command by its body behind the three checks it passes, a program and an erase by the record of the one under way. That
a command which starts one is answered at once with DONE 0, and the end with a second status word, is the model's choice (log entry 20). -/
theorem journalFlashCommands : Obligations.JournalFlashCommands := by
  unfold Obligations.JournalFlashCommands
  exact ⟨
    fun _ _ _ _ n h hb hp he hi hg => next_congr (congrArg State.settle (State.readPage_blank hb hp n h he hi hg)),
    fun _ _ _ _ d h hp hb he hi hk hg => next_congr (congrArg State.settle (State.programPage_starts hb hp d h he hi hk hg)),
    fun _ _ _ _ hg hn hi => next_congr (congrArg State.settle (State.journalProgrammed_verified hg hn hi)),
    fun _ _ _ _ h hp hb hs hl => next_congr (congrArg State.settle (State.eraseBlock_starts hb hp h hs hl)),
    fun _ _ _ he hs => next_congr (congrArg (fun t => t.settleCmds.settle) (State.eraseComplete_verified he hs)),
    fun _ _ _ he hs => next_congr (congrArg (fun t => t.settleCmds.settle) (State.eraseComplete_failed he hs)),
    fun _ _ _ _ _ h he hs hi ht => by subst hi; exact next_congr (congrArg State.settle (State.eraseSuspend_halts he h hs ht)),
    fun _ _ _ _ _ h he hs hg hi => by subst hi; exact next_congr (congrArg State.settle (State.eraseResume_goesOn he h hs hg)),
    fun _ _ _ _ h => next_congr (congrArg State.settle (jfRun_passes h rfl)),
    fun _ _ _ _ h hb hp hi he => next_congr (congrArg State.settle (State.blankCheck_tells hb hp h he hi)),
    fun _ _ _ _ h hp => next_congr (congrArg State.settle (State.readStateRow_mapped h hp)),
    fun _ _ _ _ h hb he hp => next_congr (congrArg State.settle (State.retireBlock_retires hb hp h he)),
    fun _ _ _ _ _ h hi hb he hp hs hd hj => by
      subst hi; exact next_congr (congrArg State.settle (State.moveMap_moves h hb he hp hs hd hj))⟩
end

section
/-! The management network: the exchanges that a unit takes, segmented transfers, discovery, heartbeats and time (R570-R580). -/

open Sys2Proof Sys2Proof.Machine

namespace Sys2Proof.Machine

variable {s : State} {u t : UnitId} {f : KdapFrame}

/-! ### Frames that a unit takes (R571, R572) -/

/-- The state in which the service of a frame runs: the frame counted. -/
abbrev State.frameIn (s : State) (u : UnitId) : State := s.inc (Obj.KDAP_RX u)

/-- No broadcast reaches a service that does not say so. -/
theorem not_broadcast_of_hears (h : s.Hears f false) : f.broadcast = false := by
  obtain ⟨_, _, hb, _, _⟩ := h
  simpa using hb

theorem kdapAt_unreachable (g : State → UnitId → State) (h : s.Hears f false) (hf : f.target.toNat < 4)
    (ht : (s.frameIn u).kdapTarget u f = none) : s.kdapAt u f g = (s.frameIn u).kdapAbort u f 0x0D := by
  simp only [State.kdapAt, kdapTake_heard _ h, ht, if_neg (Nat.not_le.mpr hf)]

/-- A frame that finds the FIFO full, or is malformed, is dropped and counted (R13, R571). -/
theorem kdapAt_dropped (g : State → UnitId → State) (hu : s.kdapUp = true) (he : f.etherType = s.rd Obj.KDAP_ETHERTYPE)
    (hb : f.broadcast = false) (hd : 2 ≤ f.queued ∨ f.formed = false) : s.kdapAt u f g = s.inc (Obj.KDAP_DROPPED u) := by
  have hd' : (decide (2 ≤ f.queued) || !f.formed) = true := by simpa using hd
  simp only [State.kdapAt, State.kdapTake, hu, he, hb, hd', ne_eq, not_true_eq_false, decide_false, Bool.not_true, Bool.false_and, Bool.or_self,
    Bool.false_eq_true, if_false, if_true]

/-! ### Expedited exchanges (R574) -/

/-- A read that is not broadcast is an exchange. -/
theorem execExpeditedRead_unicast (hm : s.mode.cur ≠ .switchover) (hb : f.broadcast = false) :
    execExpeditedRead u f s = .next (s.kdapAt u f (fun s t =>
      let (s, err, data) := (s.dictRead (.kdap f.src) t f.index f.sub).takeAnswer
      if err ≠ 0 then s.kdapAbort u f err
      else if 1024 < data.length then s.kdapAbort u f 0x08
      else s.kdapSend (f.reply u 0x81 data.length data))) :=
  next_congr ((if_neg (by simp [hb])).trans (hold_now _ _ hm))

theorem execExpeditedRead_unreachable (hm : s.mode.cur ≠ .switchover) (hh : s.Hears f false) (hf : f.target.toNat < 4)
    (ht : (s.frameIn u).kdapTarget u f = none) : execExpeditedRead u f s = .next ((s.frameIn u).kdapAbort u f 0x0D) :=
  (execExpeditedRead_unicast hm (not_broadcast_of_hears hh)).trans (next_congr (kdapAt_unreachable _ hh hf ht))

theorem execExpeditedRead_dropped (hm : s.mode.cur ≠ .switchover) (hu : s.kdapUp = true) (he : f.etherType = s.rd Obj.KDAP_ETHERTYPE)
    (hb : f.broadcast = false) (hd : 2 ≤ f.queued ∨ f.formed = false) :
    execExpeditedRead u f s = .next (s.inc (Obj.KDAP_DROPPED u)) :=
  (execExpeditedRead_unicast hm hb).trans (next_congr (kdapAt_dropped _ hu he hb hd))

section Exchange
variable (hm : s.mode.cur ≠ .switchover) (hh : s.Hears f false) (hf : f.target.toNat < 4) (ht : (s.frameIn u).kdapTarget u f = some t)
include hm hh hf ht

section Read
variable {r : State} {e : Nat} {d : List Byte}

/-- A read that reaches its unit is answered with one frame. -/
theorem execExpeditedRead_answered (ha : ((s.frameIn u).dictRead (.kdap f.src) t f.index f.sub).takeAnswer = (r, e, d)) :
    execExpeditedRead u f s =
      .next (if e ≠ 0 then r.kdapAbort u f e else if 1024 < d.length then r.kdapAbort u f 0x08 else r.kdapSend (f.reply u 0x81 d.length d)) := by
  rw [execExpeditedRead_unicast hm (not_broadcast_of_hears hh), kdapAt_heard _ hh hf ht]
  simp only [ha]

theorem execExpeditedRead_data (ha : ((s.frameIn u).dictRead (.kdap f.src) t f.index f.sub).takeAnswer = (r, 0, d)) (hd : d.length ≤ 1024) :
    execExpeditedRead u f s = .next (r.kdapSend (f.reply u 0x81 d.length d)) :=
  (execExpeditedRead_answered hm hh hf ht ha).trans (next_congr ((if_neg (by simp)).trans (if_neg (Nat.not_lt.mpr hd))))

theorem execExpeditedRead_larger (ha : ((s.frameIn u).dictRead (.kdap f.src) t f.index f.sub).takeAnswer = (r, 0, d)) (hd : 1024 < d.length) :
    execExpeditedRead u f s = .next (r.kdapAbort u f 0x08) :=
  (execExpeditedRead_answered hm hh hf ht ha).trans (next_congr ((if_neg (by simp)).trans (if_pos hd)))

theorem execExpeditedRead_refused (ha : ((s.frameIn u).dictRead (.kdap f.src) t f.index f.sub).takeAnswer = (r, e, d)) (he : e ≠ 0) :
    execExpeditedRead u f s = .next (r.kdapAbort u f e) :=
  (execExpeditedRead_answered hm hh hf ht ha).trans (next_congr (if_pos he))

end Read

section Write
variable {r : State} {e : Nat} {d : List Byte}

theorem execExpeditedWrite_answered (ha : ((s.frameIn u).dictWrite (.kdap f.src) t f.index f.sub f.body).takeAnswer = (r, e, d)) :
    execExpeditedWrite u f s = .next ((if e ≠ 0 then r.kdapAbort u f e else r.kdapSend (f.reply u 0x82 0 [])).settle) := by
  rw [execExpeditedWrite, State.conclude, hold_now _ _ hm, kdapAt_heard _ hh hf ht]
  simp only [ha]

theorem execExpeditedWrite_accepted (ha : ((s.frameIn u).dictWrite (.kdap f.src) t f.index f.sub f.body).takeAnswer = (r, 0, d)) :
    execExpeditedWrite u f s = .next ((r.kdapSend (f.reply u 0x82 0 [])).settle) :=
  (execExpeditedWrite_answered hm hh hf ht ha).trans (next_congr (congrArg State.settle (if_neg (by simp))))

theorem execExpeditedWrite_refused (ha : ((s.frameIn u).dictWrite (.kdap f.src) t f.index f.sub f.body).takeAnswer = (r, e, d)) (he : e ≠ 0) :
    execExpeditedWrite u f s = .next ((r.kdapAbort u f e).settle) :=
  (execExpeditedWrite_answered hm hh hf ht ha).trans (next_congr (congrArg State.settle (if_pos he)))

end Write

/-! ### Segmented transfers opened (R575, R576) -/

/-- A segmented read that finds room, and whose part of the object is not empty, is answered and sends its first window. -/
theorem execSegmentedReadInitiate_opens {r : State} {d part : List Byte} (hr : ((s.frameIn u).getDict u.code).room f.index f.sub = true)
    (ha : ((s.frameIn u).dictRead (.kdap f.src) t f.index f.sub).takeAnswer = (r, 0, d))
    (hp : readPart f.index f.sub f.param (if leNat f.body = 0 then d.length else leNat f.body) d = (0, part)) (hn : part.isEmpty = false) :
    execSegmentedReadInitiate u f s =
      .next ((r.kdapSend (f.reply u 0x83 part.length [])).sendWindow u
        { src := f.src, transId := f.transId, index := f.index, sub := f.sub, write := false, total := part.length, bytes := part, tries := 1 }
        0) := by
  rw [execSegmentedReadInitiate, hold_now _ _ hm, kdapAt_heard _ hh hf ht]
  simp only [hr, ha, hp, hn, Bool.not_true, Bool.false_eq_true, ne_eq, not_true_eq_false, if_false]

theorem execSegmentedReadInitiate_noRoom (hr : ((s.frameIn u).getDict u.code).room f.index f.sub = false) :
    execSegmentedReadInitiate u f s = .next ((s.frameIn u).kdapAbort u f 0x0A) := by
  rw [execSegmentedReadInitiate, hold_now _ _ hm, kdapAt_heard _ hh hf ht]
  simp only [hr, Bool.not_false, if_true]

theorem execSegmentedWriteInitiate_opens (hr : ((s.frameIn u).getDict u.code).room f.index f.sub = true) :
    execSegmentedWriteInitiate u f s =
      .next (((s.frameIn u).modDict u.code (fun d => d.putTransfer
        { src := f.src, transId := f.transId, index := f.index, sub := f.sub, write := true, total := f.param, bytes := []
          frameAt := (s.frameIn u).now })).kdapSend (f.reply u 0x84 f.param [])) := by
  rw [execSegmentedWriteInitiate, hold_now _ _ hm, kdapAt_heard _ hh hf ht]
  simp only [hr, Bool.not_true, Bool.false_eq_true, if_false]

end Exchange

/-! ### Segments and their acknowledgements (R575) -/

section Segment
variable {x : Transfer} (hh : s.Hears f false) (hf : f.target.toNat < 4) (ht : (s.frameIn u).kdapTarget u f = some t)
include hh hf ht

/-- A segment that is not the last is no access of an object, and waits for no Switchover. -/
theorem execSegment_unknown (hl : f.last = false) (hx : ((s.frameIn u).getDict u.code).transfer f.src f.transId = none) :
    execSegment u f s = .next (((s.frameIn u).kdapAbort u f 0x0B).settle) := by
  refine (next_congr (congrArg State.settle ((if_neg (by simp [hl])).trans (kdapAt_heard _ hh hf ht)))).trans ?_
  simp only [hx]

variable (hx : ((s.frameIn u).getDict u.code).transfer f.src f.transId = some x)
include hx

theorem execSegment_inOrder (hl : f.last = false) (hw : x.write = true) (hs : f.seq = x.inOrder % 256) (hp : f.param = 1024 * x.inOrder)
    (hn : f.length = 1024) :
    execSegment u f s =
      (let y := { x with inOrder := x.inOrder + 1, bytes := x.bytes ++ f.body, frameAt := (s.frameIn u).now }
       let t := (s.frameIn u).modDict u.code (fun d => d.putTransfer y)
       .next (if y.inOrder % 4 = 0 then t.kdapSend (f.reply u 0x06 y.inOrder []) else t).settle) := by
  refine (next_congr (congrArg State.settle ((if_neg (by simp [hl])).trans (kdapAt_heard _ hh hf ht)))).trans ?_
  simp [hx, hl, hw, hs, hp, hn]

/-- A segment out of order is discarded, and the last acknowledgement repeated. -/
theorem execSegment_outOfOrder (hl : f.last = false) (hw : x.write = true) (hp : f.param ≠ 1024 * x.inOrder) :
    execSegment u f s =
      .next ((((s.frameIn u).modDict u.code (fun d => d.putTransfer { x with frameAt := (s.frameIn u).now })).kdapSend
        (f.reply u 0x06 (x.inOrder - x.inOrder % 4) [])).settle) := by
  refine (next_congr (congrArg State.settle ((if_neg (by simp [hl])).trans (kdapAt_heard _ hh hf ht)))).trans ?_
  simp [hx, hw, hp]

/-- The last segment applies the write as a whole. -/
theorem execSegment_last {y : Transfer} {r : State} {d : List Byte} (hl : f.last = true) (hm : s.mode.cur ≠ .switchover) (hw : x.write = true)
    (hs : f.seq = x.inOrder % 256) (hp : f.param = 1024 * x.inOrder) (hn : f.length ≠ 0)
    (hy : y = { x with inOrder := x.inOrder + 1, bytes := x.bytes ++ f.body, frameAt := (s.frameIn u).now }) (hb : y.bytes.length = y.total)
    (ha : (State.dictWrite ((State.modDict (s.frameIn u) u.code (fun d => d.endTransfer f.src f.transId)).kdapSend (f.reply u 0x06 y.inOrder []))
      (.kdap f.src) t x.index x.sub y.bytes).takeAnswer = (r, 0, d)) :
    execSegment u f s = .next ((r.kdapSend (KdapFrame.reply { f with index := x.index, sub := x.sub } u 0x82 0 [])).settle) := by
  subst hy
  rw [execSegment, State.conclude, if_pos hl, hold_now _ _ hm, kdapAt_heard _ hh hf ht]
  simp only [hx, hl, hw, hs, hp, hn, hb, ha, ne_eq, not_true_eq_false, decide_false, Bool.not_true, Bool.false_and, Bool.or_self,
    Bool.false_eq_true, if_false, if_true]

section Acknowledge
variable (hw : x.write = false) (hi : x.inOrder ≤ f.param) (hs : f.param ≤ x.sent)
include hw hi hs

theorem execSegmentAcknowledge_goesOn (hn : f.param < x.segments) :
    execSegmentAcknowledge u f s = .next ((s.frameIn u).sendWindow u { x with inOrder := f.param, tries := 1 } x.sent) := by
  rw [execSegmentAcknowledge, kdapAt_heard _ hh hf ht]
  simp [hx, hw, Nat.not_lt.mpr hi, Nat.not_lt.mpr hs, Nat.not_le.mpr hn]

theorem execSegmentAcknowledge_ends (hn : x.segments ≤ f.param) :
    execSegmentAcknowledge u f s = .next ((s.frameIn u).modDict u.code (fun d => d.endTransfer f.src f.transId)) := by
  rw [execSegmentAcknowledge, kdapAt_heard _ hh hf ht]
  simp [hx, hw, Nat.not_lt.mpr hi, Nat.not_lt.mpr hs, hn]

end Acknowledge

end Segment

/-! ### Timeouts (R575, R576) -/

section Timeout
variable {n m : Nat} {x : Transfer} (hx : (s.getDict u.code).transfer n m = some x)
include hx

/-- After 50 ms of silence the sender sends again, up to three times. -/
theorem execKdapRetransmitTimeout_due (hw : x.write = false) (ht : x.waitFrom + 50000 ≤ s.now) :
    execKdapRetransmitTimeout u n m s =
      .next (if 3 ≤ x.tries then s.timeoutTransfer u x else s.sendWindow u { x with tries := x.tries + 1 } x.inOrder) := by
  simp only [execKdapRetransmitTimeout, hx, hw, decide_eq_false (Nat.not_lt.mpr ht), Bool.or_self, Bool.false_eq_true, if_false]

theorem execKdapTransferTimeout_due (ht : x.frameAt + 500000 ≤ s.now) : execKdapTransferTimeout u n m s = .next (s.timeoutTransfer u x) := by
  simp only [execKdapTransferTimeout, hx, if_neg (Nat.not_lt.mpr ht)]

end Timeout

/-! ### Discovery, heartbeats and time (R570, R577-R580) -/

/-- A broadcast read that the discovery answers is kept (R577). -/
theorem execExpeditedRead_kept (hb : f.broadcast = true) (hh : s.Hears f f.discovers) :
    execExpeditedRead u f s = .next ((s.frameIn u).modDict u.code (fun d => { d with found := d.found ++ [(f, (s.frameIn u).now)] })) := by
  rw [execExpeditedRead, if_pos hb, kdapTake_heard _ hh]

theorem execExpeditedRead_ignored (hb : f.broadcast = true) (hd : f.discovers = false) : execExpeditedRead u f s = .next s := by
  simp [execExpeditedRead, State.kdapTake, hb, hd]

theorem execDiscoveryAnswer_due {v r : State} {d : List Byte} (hm : s.mode.cur ≠ .switchover) (hu : s.kdapUp = true)
    (hd : (s.getDict u.code).found.any (fun e => e.1 == f && decide (e.2 + 1000 * s.nodeId u ≤ s.now)) = true)
    (hv : v = s.modDict u.code (fun d => { d with found := d.found.filter (fun e => e.1 != f) }))
    (ha : (v.dictRead (.kdap f.src) u f.index f.sub).takeAnswer = (r, 0, d)) :
    execDiscoveryAnswer u f s = .next (r.kdapSend (f.reply u 0x81 d.length d)) := by
  subst hv
  rw [execDiscoveryAnswer, if_pos (by rw [hu, hd]; rfl), hold_now _ _ hm]
  simp only [ha, ne_eq, not_true_eq_false, if_false]

theorem execDiscoveryAnswer_nothing (h : (s.getDict u.code).found = []) : execDiscoveryAnswer u f s = .next s := by
  simp [execDiscoveryAnswer, h]

theorem execHeartbeat_due (hu : s.kdapUp = true) (h0 : s.rd Obj.HB_PERIOD ≠ 0)
    (ht : (s.getDict u.code).beatAt + 1000 * s.rd Obj.HB_PERIOD ≤ s.now) :
    execHeartbeat u s =
      .next (((s.modDict u.code (fun d => { d with beatAt := s.now })).kdapSend
        { unit := u, dest := s.rd Obj.HB_DEST_MAC, service := 0x11, data := s.heartbeatData u }).inc Obj.HB_SENT) :=
  next_congr (if_pos (by simp [hu, h0, ht]))

theorem execHeartbeat_off (h0 : s.rd Obj.HB_PERIOD = 0) : execHeartbeat u s = .next s :=
  next_congr (if_neg (by simp [h0]))

theorem execHeartbeatReceived_conflict {n : Nat} (hu : s.kdapUp = true) (hn : n ≠ macOf u) :
    execHeartbeatReceived u n (s.nodeId u) s = .next ((s.inc (Obj.PLCA_CONFLICTS u)).logFirmware u advisory) :=
  next_congr (if_pos (by simp [hu, hn]))

section Time
variable (hh : s.Hears f true)
include hh

theorem execTimeSync_latched (n : Nat) (hm : (s.frameIn u).masterOk f.src = true) :
    execTimeSync u f n s =
      .next ((s.frameIn u).modDict u.code (fun d => { d with sync := some (f.src, f.transId, 1000 * (s.frameIn u).now + n % 1000 / 20 * 20) })) := by
  rw [execTimeSync, kdapTake_heard _ hh, if_pos hm]

theorem execTimeFollowUp_paired {n : Nat} (hs : ((s.frameIn u).getDict u.code).sync = some (f.src, f.transId, n)) :
    execTimeFollowUp u f s =
      .next ((s.frameIn u).modDict u.code (fun d => { d with
        sync := none, timeOffset := (leNat f.body : Int) - (n : Int), timeState := 1, pairAt := (s.frameIn u).now })) := by
  rw [execTimeFollowUp, kdapTake_heard _ hh]
  simp only [hs, decide_true, Bool.and_self, if_true]

theorem execTimeFollowUp_unmatched (hs : ((s.frameIn u).getDict u.code).sync = none) : execTimeFollowUp u f s = .next (s.frameIn u) := by
  rw [execTimeFollowUp, kdapTake_heard _ hh]
  simp only [hs]

end Time

/-- A reserved EtherType fails the object's own rule (R569). -/
theorem execKdapEthertypeWrite_reserved {q : Requester} {v : BitVec 16} (h : s.Accepts q u Obj.KDAP_ETHERTYPE (leBytes 2 v.toNat))
    (hv : reservedEtherType v.toNat = true) : execKdapEthertypeWrite q u v s = .next (s.answer q 0x09) := by
  obtain ⟨hm, he⟩ := h
  simp only [execKdapEthertypeWrite, State.tryKey, State.tryWrite, hold_now _ _ hm, he, hv, if_true, ne_eq, not_true_eq_false, if_false,
    not_false_eq_true, OfNat.ofNat_ne_zero]

theorem execKdapEthertypeWrite_saved {q : Requester} {v : BitVec 16} (h : s.Accepts q u Obj.KDAP_ETHERTYPE (leBytes 2 v.toNat))
    (hv : reservedEtherType v.toNat = false) :
    execKdapEthertypeWrite q u v s = .next ((s.save Obj.KDAP_ETHERTYPE v.toNat).answer q 0) := by
  rw [execKdapEthertypeWrite, if_neg (by simp [hv]), tryKey_accepted _ h]

end Sys2Proof.Machine

/-- Settles O53: the access that the exchange makes, and the one frame by its error and its size. -/
theorem expeditedExchangesInOneFrame : Obligations.ExpeditedExchangesInOneFrame := by
  unfold Obligations.ExpeditedExchangesInOneFrame
  exact ⟨
    fun _ _ _ _ _ _ hm hh hf ht ha hd => execExpeditedRead_data hm hh hf ht ha hd,
    fun _ _ _ _ _ _ hm hh hf ht ha hd => execExpeditedRead_larger hm hh hf ht ha hd,
    fun _ _ _ _ _ _ _ hm hh hf ht ha he => execExpeditedRead_refused hm hh hf ht ha he,
    fun _ _ _ _ _ _ hm hh hf ht ha => execExpeditedWrite_accepted hm hh hf ht ha,
    fun _ _ _ _ _ _ _ hm hh hf ht ha he => execExpeditedWrite_refused hm hh hf ht ha he⟩

/-- Settles O33: a frame by whether the unit takes it and reaches its target, a segment by the transfer that its transaction names, a timeout
by the times that the transfer holds. When a timeout comes is the sender's (log entry 3). -/
theorem managementTransfers : Obligations.ManagementTransfers := by
  unfold Obligations.ManagementTransfers
  exact ⟨
    fun _ _ _ _ _ _ hm hh hf ht ha hd => execExpeditedRead_data hm hh hf ht ha hd,
    fun _ _ _ _ _ _ _ hm hh hf ht ha he => execExpeditedRead_refused hm hh hf ht ha he,
    fun _ _ _ hm hh hf ht => execExpeditedRead_unreachable hm hh hf ht,
    fun _ _ _ hm hu he hb hd => execExpeditedRead_dropped hm hu he hb (.inr hd),
    fun _ _ _ hm hu he hb hd => execExpeditedRead_dropped hm hu he hb (.inl hd),
    fun _ _ _ hb hh => execExpeditedRead_kept hb hh,
    fun _ _ _ _ _ _ hm hh hf ht ha => execExpeditedWrite_accepted hm hh hf ht ha,
    fun _ _ _ _ _ _ _ hm hh hf ht hr ha hp hn => execSegmentedReadInitiate_opens hm hh hf ht hr ha hp hn,
    fun _ _ _ _ hm hh hf ht hr => execSegmentedReadInitiate_noRoom hm hh hf ht hr,
    fun _ _ _ _ hm hh hf ht hr => execSegmentedWriteInitiate_opens hm hh hf ht hr,
    fun _ _ _ _ _ hl hh hf ht hx hw hs hp hn => execSegment_inOrder hh hf ht hx hl hw hs hp hn,
    fun _ _ _ _ _ hl hh hf ht hx hw hp => execSegment_outOfOrder hh hf ht hx hl hw hp,
    fun _ _ _ _ _ _ _ _ hl hm hh hf ht hx hw hs hp hn hy hb ha => execSegment_last hh hf ht hx hl hm hw hs hp hn hy hb ha,
    fun _ _ _ _ hl hh hf ht hx => execSegment_unknown hh hf ht hl hx,
    fun _ _ _ _ _ hh hf ht hx hw hi hs hn => execSegmentAcknowledge_goesOn hh hf ht hx hw hi hs hn,
    fun _ _ _ _ _ hh hf ht hx hw hi hs hn => execSegmentAcknowledge_ends hh hf ht hx hw hi hs hn,
    fun _ _ _ hh => next_congr (kdapTake_heard _ hh),
    fun _ _ _ _ _ hx hw ht h3 => (execKdapRetransmitTimeout_due hx hw ht).trans (next_congr (if_neg (Nat.not_le.mpr h3))),
    fun _ _ _ _ _ hx hw ht h3 => (execKdapRetransmitTimeout_due hx hw ht).trans (next_congr (if_pos h3)),
    fun _ _ _ _ _ hx ht => execKdapTransferTimeout_due hx ht⟩

/-- Settles O34: a broadcast by whether the discovery answers it, a heartbeat by HB_PERIOD and the own node number, a follow-up by the sync
that was latched. -/
theorem discoveryHeartbeatsAndTime : Obligations.DiscoveryHeartbeatsAndTime := by
  unfold Obligations.DiscoveryHeartbeatsAndTime
  exact ⟨
    fun _ _ _ _ _ _ hm hu hd hv ha => execDiscoveryAnswer_due hm hu hd hv ha,
    fun _ _ _ hb hd => execExpeditedRead_ignored hb hd,
    fun _ _ _ h => execDiscoveryAnswer_nothing h,
    fun _ _ hu h0 ht => execHeartbeat_due hu h0 ht,
    fun _ _ h0 => execHeartbeat_off h0,
    fun _ _ _ _ hu hm hn => by subst hm; exact execHeartbeatReceived_conflict hu hn,
    fun _ _ _ n hh hm => execTimeSync_latched hh n hm,
    fun _ _ _ _ hh hs => execTimeFollowUp_paired hh hs,
    fun _ _ _ hh hs => execTimeFollowUp_unmatched hh hs,
    fun _ _ => rfl,
    fun _ _ _ => rfl,
    fun _ _ _ _ h hv => execKdapEthertypeWrite_saved h hv,
    fun _ _ _ _ h hv => execKdapEthertypeWrite_reserved h hv⟩
end

section
/-! Writes of the dictionary, the defaults restored, and the dictionary commands in band and across the tree (R451, R561-R569, R581). -/

open Sys2Proof Sys2Proof.Machine

namespace Sys2Proof.Machine

variable {s : State} {q : Requester} {u : UnitId} {i j : Nat} {d : List Byte}

/-! ### Register writes (R561-R564) -/

theorem State.dictWrite_noIndex (hm : s.mode.cur ≠ .switchover) (ho : objLookup i j = none) : s.dictWrite q u i j d = s.answer q 0x01 := by
  rw [State.dictWrite, hold_now _ _ hm]
  simp only [ho, State.writeErr_noIndex ho]

theorem State.dictWrite_noSubindex (hm : s.mode.cur ≠ .switchover) (ho : objLookup i j = some none) :
    s.dictWrite q u i j d = s.answer q 0x02 := by
  rw [State.dictWrite, hold_now _ _ hm]
  simp only [ho, State.writeErr_noSubindex ho]

section Object
variable {r : ObjRow} (hm : s.mode.cur ≠ .switchover) (ho : objLookup i j = some (some r))
include hm ho

/-- A check of R561 that fails gives the answer, unless the object's own command answers it. -/
theorem State.dictWrite_refused (he : s.writeErr u i j q d ≠ 0) (hr : ownRefusal r.idx j (s.writeErr u i j q d) = false) :
    s.dictWrite q u i j d = s.answer q (s.writeErr u i j q d) := by
  rw [State.dictWrite, hold_now _ _ hm]
  simp only [ho]
  exact if_pos (by simp [he, hr])

variable (he : s.writeErr u i j q d = 0)
include he

theorem State.dictWrite_command {o : Host.Outcome State Fault Refusal} (hc : s.cmdWrite q u r.idx i j d = some o) :
    s.dictWrite q u i j d = nextOf s o := by
  rw [State.dictWrite, hold_now _ _ hm]
  simp [ho, he, hc]

/-- A write past its checks, of an object without a command of its own, meets the object's rule (R561 steps 7 and 8). -/
theorem State.dictWrite_plain (hc : s.cmdWrite q u r.idx i j d = none) :
    s.dictWrite q u i j d =
      (let e := if r.idx / 4096 = 3 then State.rulePort (leNat d) r.idx j d else s.ruleUnit u (leNat d) r.idx i j d
       if e ≠ 0 then s.answer q e
       else (if r.ty.numeric then s.numberDo u (objKey u i j r) r (leNat d) r.idx i j
         else s.domainDo (objKey u i j r) r (portOf i) (actOf i) r.idx j d).answer q 0) := by
  rw [State.dictWrite, hold_now _ _ hm]
  simp [ho, he, hc, State.plainWrite, State.tryWrite, State.hold, hm]

end Object

/-- In Switchover an access other than a mode request has no effect but to wait (R564). -/
theorem State.dictWrite_held (hm : s.mode.cur = .switchover) (hx : i ≠ 0x1101 ∨ j ≠ 0) :
    s.dictWrite q u i j d = { s with accHeld := s.accHeld ++ [.write q u i j d] } := by
  have hn : s.modeWritten q u i j d = s := if_neg (fun h => by obtain ⟨hi, hj, _⟩ := h; rcases hx with hx | hx <;> contradiction)
  rw [State.dictWrite, State.hold, if_pos hm]
  simp only [State.atOnce, hn]

theorem execRestoreDefaults_accepted (h : s.Accepts q u Obj.RESTORE_DEFAULTS [0x5A]) :
    execRestoreDefaults q u 0x5A s = .next ((s.restoreDefaults.restoreEffects.answer q 0).settle) :=
  next_congr (congrArg State.settle (tryKey_accepted _ h))

/-! ### The admin commands (R581) -/

section Admin
variable {r : State} {t : CmdTag} {m : Nat} {y : BitVec 2} (h : s.Begins t 0)
  (hr : r = (s.fetch t 0).1.modCmd t (fun c => { c with kind := .admin }))
include h hr

theorem execDictionaryWrite_own {x : State} {e : Nat} {z : List Byte} (hm : r.ownModule m = true) (hu : r.targetUnit t.ctrl y = some u)
    (ha : (r.dictWrite (.inband t.ctrl) u i j d).takeAnswer = (x, e, z)) :
    execDictionaryWrite t m y i j d s = .next ((x.dictEnd t e d.length []).settle) := by
  rw [execDictionaryWrite, admin_now _ h hr]
  simp only [hm, hu, ha, Bool.not_true, Bool.false_eq_true, if_false]

/-- A read gives the part of the value that its range takes. -/
theorem execDictionaryRead_own {o l : Nat} {x : State} (hm : r.ownModule m = true) (hu : r.targetUnit t.ctrl y = some u)
    (ha : (r.dictRead (.inband t.ctrl) u i j).takeAnswer = (x, 0, d)) :
    execDictionaryRead t m y i j o l s =
      .next ((x.dictEnd t (readPart i j o l d).1 d.length (readPart i j o l d).2).settle) := by
  rw [execDictionaryRead, admin_now _ h hr]
  simp only [hm, hu, ha, Bool.not_true, Bool.false_eq_true, ne_eq, not_true_eq_false, if_false]

theorem execDictionaryRead_unreachable {o l : Nat} (hm : r.ownModule m = false) (hu : r.moduleUp m = false) :
    execDictionaryRead t m y i j o l s = .next ((r.dictEnd t 0x0D 0 []).settle) := by
  rw [execDictionaryRead, admin_now _ h hr]
  simp only [hm, State.dictForward, hu, Bool.not_false, if_true]

/-- The command notes the object and the module, and DICT carries the write. -/
theorem execDictionaryWrite_forwarded (hm : r.ownModule m = false) (hu : r.moduleUp m = true) :
    execDictionaryWrite t m y i j d s =
      .next ((let k := r.casc.nextTag
       let x := { r with casc := { r.casc with nextTag := k + 1 } }
       (x.modCmd t (fun h => { h with
         kind := .forwarded, target := some m, fwdTag := k, off := 0, limit := 0, slot := 256 * i + j, action := 2 })).send
         (.dictReq true t.ctrl y i j d) m k).settle) := by
  rw [execDictionaryWrite, admin_now _ h hr]
  simp only [hm, State.dictForward, hu, Bool.not_false, Bool.not_true, Bool.false_eq_true, if_true, if_false]

end Admin

/-! ### DICT (R451, R581) -/

/-- A request served: at the unit that TARGET names as seen from the unit of the hop. -/
theorem execDict_served {m k : Nat} {b : Bool} {v : UnitId} {y : BitVec 2} {r : State} {e : Nat} {z : List Byte}
    (hn : s.casc.number.isSome = true) (hm : s.mode.cur ≠ .switchover)
    (hu : s.targetUnit ((s.hopUnit 0).getD s.pair.active) y = some u)
    (ha : (if b then s.dictWrite (.inband v) u i j d else s.dictRead (.inband v) u i j).takeAnswer = (r, e, z)) :
    execDict m k (.dictReq b v y i j d) s = .next ((r.send (.dictRsp e (if b then leBytes 4 d.length else z)) m k).settle) := by
  have hn' : ¬s.casc.number.isNone = true := by simp [Option.ne_none_iff_isSome.mpr hn]
  have h0 : s.dictAtOnce b v y i j d = s := if_neg (fun h => hm h.2)
  have hs : s.dictServe m k b v y i j d = r.send (.dictRsp e (if b then leBytes 4 d.length else z)) m k := by
    simp only [State.dictServe, hu, ha]
  refine next_congr (congrArg State.settle ((if_neg hn').trans ?_))
  rw [h0, hold_now _ _ hm, hs]

theorem execDict_answeredWrite {m k : Nat} {c : HostCmd} (hc : s.dictForwarded m k = some c) (ha : c.action = 2) :
    execDict m k (.dictRsp 0 d) s = .next ((s.dictEnd c.tag 0 (leNat (d.take 4)) []).settle) := by
  have h : s.dictAnswered m k 0 d = s.dictEnd c.tag 0 (leNat (d.take 4)) [] := by
    simp only [State.dictAnswered, hc, ha, ne_eq, not_true_eq_false, if_false, if_true]
  exact next_congr (congrArg State.settle h)

end Sys2Proof.Machine

/-- Settles O35: a write by its checks, then by its own command or its rule; an admin command by the module and the unit it names. That a
DICT request is served at the unit of the hop, with the controller of its letter as the requester, is the model's choice (log entries 43
and 44). -/
theorem dictionaryWritesAndReads : Obligations.DictionaryWritesAndReads := by
  unfold Obligations.DictionaryWritesAndReads
  exact ⟨
    fun _ _ _ _ _ _ _ _ hm ho he hn hr => by
      subst he; exact next_congr (congrArg State.settle (State.dictWrite_refused hm ho hn hr)),
    fun _ _ _ _ _ _ hm ho => next_congr (congrArg State.settle (State.dictWrite_noIndex hm ho)),
    fun _ _ _ _ _ _ hm ho => next_congr (congrArg State.settle (State.dictWrite_noSubindex hm ho)),
    fun _ _ _ _ _ _ _ hm ho he hc hn hz => next_congr (congrArg State.settle ((State.dictWrite_plain hm ho he hc).trans (by
      simp only [hz, hn, ne_eq, not_true_eq_false, if_false, if_true]))),
    fun _ _ _ _ _ _ _ _ hm ho he hc hz hn => next_congr (congrArg State.settle ((State.dictWrite_plain hm ho he hc).trans (by
      simp only [hz]; exact if_pos hn))),
    fun _ _ _ _ _ _ _ _ hm ho he hc => next_congr (congrArg State.settle (State.dictWrite_command hm ho he hc)),
    fun _ _ _ _ _ _ hm hx => next_congr (congrArg State.settle (State.dictWrite_held hm hx)),
    fun _ _ _ h => execRestoreDefaults_accepted h,
    fun _ _ _ _ _ _ _ _ _ _ _ _ h hr hm hu ha => execDictionaryWrite_own h hr hm hu ha,
    fun _ _ _ _ _ _ _ _ _ _ _ _ h hr hm hu ha => execDictionaryRead_own h hr hm hu ha,
    fun _ _ _ _ _ _ _ _ _ h hr hm hu => execDictionaryRead_unreachable h hr hm hu,
    fun _ _ _ _ _ _ _ _ h hr hm hu => execDictionaryWrite_forwarded h hr hm hu,
    fun _ _ _ _ _ _ _ _ _ _ _ _ _ hn hm hu ha => execDict_served hn hm hu ha,
    fun _ _ _ _ _ _ hc he ha => by subst he; exact execDict_answeredWrite hc ha⟩
end

section
/-! Settings and the timestamp, maintenance sessions, and the fuses (R565, R566, R583, R584, R589-R591). -/

open Sys2Proof Sys2Proof.Machine

namespace Sys2Proof.Machine

variable {s : State} {q : Requester} {u : UnitId}

/-! ### Settings and the timestamp (R565, R566) -/

theorem execSettingsSave_staged {k : Nat} (hv : s.sup.vin12 = true) (hm : s.mode.served = true) (hr : (s.unitSt u).inReset = false)
    (hk : k ∈ (s.getSet u.code).staged) :
    execSettingsSave u s =
      (let t := s.getSet u.code
       let ks := t.staged ++ t.held.filter (fun k => !t.staged.contains k)
       .next ((s.modSet u.code (fun t => { t with
         saved := ks.foldl (fun m k => mapPut objDefault m k (s.rd k)) t.saved
         savedBlob := ks.foldl (fun m k => mapPut (fun _ => []) m k (s.rdBlob k)) t.savedBlob
         savedKeys := t.savedKeys ++ ks.filter (fun k => !t.savedKeys.contains k), staged := [], held := [] })).inc Obj.SETTINGS_GEN)) := by
  have hn : ((s.getSet u.code).staged ++ (s.getSet u.code).held.filter (fun k => !(s.getSet u.code).staged.contains k)).isEmpty = false := by
    simp [List.ne_nil_of_mem hk]
  rw [execSettingsSave, if_pos (by simp only [hv, hm, hr, Bool.not_false, Bool.and_self])]
  exact next_congr (if_neg (by simp only [hn, Bool.false_eq_true, not_false_eq_true]))

theorem execTimestampSave_due (ht : (s.getSet u.code).savedTime.all (fun t => decide (t + 10000000 ≤ s.now)) = true)
    (hv : s.sup.vin12 = true) (hb : s.rd (Obj.TIME_BASE_STATE u) = 1) :
    execTimestampSave u s = .next (s.modSet u.code (fun t => { t with savedTime := some s.now })) := by
  rw [execTimestampSave, if_pos ht, State.timestampSave, if_pos (by simp [hv, hb])]

/-! ### Challenges and sessions (R583, R584) -/

section Challenge
variable (hm : s.mode.cur ≠ .switchover) (he : s.readErr 0x1020 0 q = 0)
include hm he

theorem State.authChallenge_lockedOut (hl : (s.getDict u.code).lockedOut q s.now = true) : s.authChallenge q u = s.answer q 0x0A := by
  rw [State.authChallenge, hold_now _ _ hm]
  simp only [he, hl, ne_eq, not_true_eq_false, if_false, if_true]

theorem State.authChallenge_drawn (hl : (s.getDict u.code).lockedOut q s.now = false) :
    s.authChallenge q u = (s.random16.2.modDict u.code (fun d =>
      { d.forget q with challenges := (q, s.random16.1, s.random16.2.now) :: (d.forget q).challenges })).answer q 0 s.random16.1 := by
  rw [State.authChallenge, hold_now _ _ hm]
  simp only [he, hl, ne_eq, not_true_eq_false, Bool.false_eq_true, if_false]

end Challenge

section Response
variable {d : List Byte} (hm : s.mode.cur ≠ .switchover) (he : s.writeErr u 0x1020 1 q d = 0)
include hm he

theorem State.authRespond_noChallenge (hc : (s.getDict u.code).challengeOf q s.now = none) : s.authRespond q u d = s.answer q 0x09 := by
  rw [State.authRespond, hold_now _ _ hm]
  simp only [he, hc, ne_eq, not_true_eq_false, if_false]

variable {k c : List Byte} (hc : (s.getDict u.code).challengeOf q s.now = some c) (hk : (s.getFuse u.code).mgmtKey = some k)
include hc hk

/-- The right response opens a session while fewer than eight others are open. -/
theorem State.authRespond_right (hd : d = authResponse k c q)
    (h8 : ((s.getDict u.code).sessions.filter (fun e => e.1 != q && decide (s.now < e.2))).length < 8) :
    s.authRespond q u d = (((s.modDict u.code (fun d => d.forget q)).modDict u.code (fun x =>
      { x with sessions := (q, s.now + 1000000 * s.rd (Obj.AUTH_WINDOW u)) ::
          (s.getDict u.code).sessions.filter (fun e => e.1 != q && decide (s.now < e.2)) })).answer q 0) := by
  have hk' : ((s.modDict u.code (fun d => d.forget q)).getFuse u.code).mgmtKey = some k := hk
  rw [State.authRespond, hold_now _ _ hm]
  simp only [he, hc, hk', ne_eq, not_true_eq_false, if_false, if_pos hd]
  exact if_neg (Nat.not_le.mpr h8)

theorem State.authRespond_wrong (hd : d ≠ authResponse k c q) :
    s.authRespond q u d = ((s.modDict u.code (fun d => d.forget q)).authWrong q u).answer q 0x06 := by
  have hk' : ((s.modDict u.code (fun d => d.forget q)).getFuse u.code).mgmtKey = some k := hk
  rw [State.authRespond, hold_now _ _ hm]
  simp only [he, hc, hk', ne_eq, not_true_eq_false, if_false, if_neg hd]

end Response

theorem execAuthChallengeExpiry_invalid (hc : (s.getDict u.code).challengeOf q s.now = none) :
    execAuthChallengeExpiry q u s = .next (s.modDict u.code (fun d => d.forget q)) :=
  next_congr (if_pos (by rw [hc]; rfl))

theorem execAuthChallengeExpiry_valid {c : List Byte} (hc : (s.getDict u.code).challengeOf q s.now = some c) :
    execAuthChallengeExpiry q u s = .next s :=
  next_congr (if_neg (by simp [hc]))

/-! ### Fuse writes (R590) -/

/-- With VIN12 and a ready standby, and no refusal of the object's own, both arrays are programmed. -/
theorem State.fuseWrite_carriedOut {a b : Bool} {f : FuseSt → FuseSt} (h : s.fuseRefusal = none) :
    s.fuseWrite q u none a b f = (s.fuseProgram u a b f).answer q 0 := by
  simp only [State.fuseWrite, h]

theorem State.fuseWrite_refused {a b : Bool} {f : FuseSt → FuseSt} {e n : Nat} {o : Option (Nat × Nat)} (h : s.fuseRefusal = some (e, n)) :
    s.fuseWrite q u o a b f = (s.wr (Obj.FUSE_RESULT u) n).answer q e := by
  simp only [State.fuseWrite, h, State.fuseResult]

theorem State.fuseRefusal_noVin12 (h : s.sup.vin12 = false) : s.fuseRefusal = some (0x0E, 5) :=
  if_pos (by simp [h])

section Mondis
variable {a b : Bool} (hm : s.mode.cur ≠ .switchover) (he : s.writeErr u 0x5F00 1 q [0xA5] = 0)
include hm he

/-- A blown MONDIS ends the monitor (R591). -/
theorem execMondisBlow_accepted :
    execMondisBlow q u 0xA5 a b s =
      (let t := s.fuseWrite q u none a b (fun f => { f with mondis := true })
       .next (if (t.getFuse 0).mondis || (t.getFuse 1).mondis then { t with mon := {} } else t)) := by
  have he' : s.writeErr u 0x5F00 1 q (leBytes 1 (0xA5 : BitVec 8).toNat) = 0 := he
  rw [execMondisBlow, hold_now _ _ hm]
  simp only [he', ne_eq, not_true_eq_false, if_false]

theorem execMondisBlow_noVin12 (hv : s.sup.vin12 = false) (hA : (s.getFuse 0).mondis = false) (hB : (s.getFuse 1).mondis = false) :
    execMondisBlow q u 0xA5 a b s = .next ((s.wr (Obj.FUSE_RESULT u) 5).answer q 0x0E) := by
  rw [execMondisBlow_accepted hm he, State.fuseWrite_refused (State.fuseRefusal_noVin12 hv)]
  exact next_congr (if_neg (by simp only [getFuse_answer, getFuse_wr, hA, hB, Bool.or_self, Bool.false_eq_true, not_false_eq_true]))

end Mondis

section MinSvn
variable {v : BitVec 32} {a b : Bool} (hm : s.mode.cur ≠ .switchover) (he : s.writeErr u 0x5F00 3 q (leBytes 4 v.toNat) = 0)
include hm he

theorem execFwMinSvnWrite_raised (hf : s.fuseRefusal = none) (hl : s.minSvn u < v.toNat) (hh : v.toNat ≤ s.rd (Obj.FW_SVN u)) :
    execFwMinSvnWrite q u v a b s = .next ((s.fuseProgram u a b (fun f => { f with minSvn := some (max f.svn v.toNat) })).answer q 0) := by
  have hr : (v.toNat < s.minSvn u || s.rd (Obj.FW_SVN u) < v.toNat : Bool) = false := by simp; omega
  rw [execFwMinSvnWrite, hold_now _ _ hm]
  simp only [he, hr, Nat.ne_of_gt hl, ne_eq, not_true_eq_false, Bool.false_eq_true, if_false, State.fuseWrite_carriedOut hf]

theorem execFwMinSvnWrite_same (hv : v.toNat = s.minSvn u) :
    execFwMinSvnWrite q u v a b s = .next ((s.wr (Obj.FUSE_RESULT u) 2).answer q 0) := by
  rw [execFwMinSvnWrite, hold_now _ _ hm]
  exact next_congr ((if_neg (not_not.mpr he)).trans (if_pos hv))

end MinSvn

section Keys
variable {d : List Byte} {a b : Bool}

/-- The first key of the management is provisioned in Maintenance, without a session (R590). -/
theorem execMgmtKeyWrite_first {r : ObjRow} (hm : s.mode.cur = .maintenance) (hk : (s.getFuse u.code).mgmtKey = none)
    (ho : objLookup 0x5F00 4 = some (some r)) (he : s.modeErr 0x5F00 4 r q true = 0) (hd : d.length = 32) (hf : s.fuseRefusal = none) :
    execMgmtKeyWrite q u d a b s =
      .next ((s.fuseProgram u a b (fun f => { f with mgmtKey := f.mgmtKey.or (some d) })).answer q 0) := by
  rw [execMgmtKeyWrite, hold_now _ _ (by simp [hm])]
  simp only [hk, ho, he, hm, hd, ne_eq, not_true_eq_false, if_false, State.fuseWrite_carriedOut hf]

variable (hm : s.mode.cur ≠ .switchover) (he : s.writeErr u 0x5F00 5 q d = 0) (hf : s.fuseRefusal = none)
include hm he hf

theorem execErKeyWrite_first (hk : (s.getFuse u.code).erKey = none) :
    execErKeyWrite q u d a b s = .next ((s.fuseProgram u a b (fun f => { f with erKey := f.erKey.or (some d) })).answer q 0) := by
  rw [execErKeyWrite, hold_now _ _ hm]
  simp only [he, hk, Option.isSome_none, ne_eq, not_true_eq_false, Bool.false_eq_true, if_false, State.fuseWrite_carriedOut hf]

theorem execErKeyWrite_again {k : List Byte} (hk : (s.getFuse u.code).erKey = some k) :
    execErKeyWrite q u d a b s = .next ((s.wr (Obj.FUSE_RESULT u) 2).answer q 0x09) := by
  rw [execErKeyWrite, hold_now _ _ hm]
  simp only [he, hk, Option.isSome_some, ne_eq, not_true_eq_false, if_false, if_true, State.fuseWrite, hf, State.fuseResult]

end Keys

end Sys2Proof.Machine

/-- Settles O36: an access past the checks of R561 by what the unit holds for its requester, a fuse write by the common refusals and then
the object's own. Challenges and the manufactured version are free values (log entries 8 and 28). -/
theorem settingsSessionsAndFuses : Obligations.SettingsSessionsAndFuses := by
  unfold Obligations.SettingsSessionsAndFuses
  exact ⟨
    fun _ _ _ hv hm hr hk => execSettingsSave_staged hv hm hr hk,
    fun _ _ ht hv hb => execTimestampSave_due ht hv hb,
    fun _ _ _ hm he hl => next_congr (State.authChallenge_drawn hm he hl),
    fun _ _ _ hm he hl => next_congr (State.authChallenge_lockedOut hm he hl),
    fun _ _ _ _ _ _ hm he hc hk hd h8 => next_congr (State.authRespond_right hm he hc hk hd h8),
    fun _ _ _ _ _ _ hm he hc hk hd => next_congr (State.authRespond_wrong hm he hc hk hd),
    fun _ _ _ _ hm he hc => next_congr (State.authRespond_noChallenge hm he hc),
    fun _ _ _ _ h => next_congr (tryKey_accepted _ h),
    fun _ _ _ => rfl,
    fun _ _ _ => rfl,
    fun _ _ _ hc => execAuthChallengeExpiry_invalid hc,
    fun _ _ _ _ hc => execAuthChallengeExpiry_valid hc,
    fun _ _ _ _ _ hm he hf => (execMondisBlow_accepted hm he).trans (by rw [State.fuseWrite_carriedOut hf]),
    fun _ _ _ _ _ hm he hv hA hB => execMondisBlow_noVin12 hm he hv hA hB,
    fun _ _ _ _ _ _ hm he hf hl hh => execFwMinSvnWrite_raised hm he hf hl hh,
    fun _ _ _ _ _ _ hm he hv => execFwMinSvnWrite_same hm he hv,
    fun _ _ _ _ _ _ _ hm hk ho he hd hf => execMgmtKeyWrite_first hm hk ho he hd hf,
    fun _ _ _ _ _ _ hm he hk hf => execErKeyWrite_first hm he hf hk,
    fun _ _ _ _ _ _ _ hm he hk hf => execErKeyWrite_again hm he hf hk⟩
end

section
/-! The lines of the Luzan monitor: their framing, the command each spells, and what each command does (R561, R583-R588, R591). -/

open Sys2Proof Sys2Proof.Machine

namespace Sys2Proof.Machine

variable {s : State} {w : List Byte} {m : MonUnit} {i j : Nat}

/-! ### Framing (R585) -/

theorem execMonLine_down (n : Nat) (h : s.monUp = false) : execMonLine w n s = .next s := by
  simp only [execMonLine, h, Bool.not_false, if_true]

section Up
variable (hu : s.monUp = true)
include hu

theorem execMonLine_dropped {n : Nat} (hn : n ≠ 0) :
    execMonLine w n s = .next ((s.add (Obj.MON_DROPPED s.pair.active) n).lineErr 0x0F) := by
  simp only [execMonLine, hu, hn, Bool.not_true, Bool.false_eq_true, ne_eq, not_false_eq_true, if_false, if_true]

theorem execMonLine_tooLong (hw : 200 < w.length) : execMonLine w 0 s = .next (s.lineErr 0x0F) := by
  simp only [execMonLine, hu, hw, Bool.not_true, Bool.false_eq_true, ne_eq, not_true_eq_false, if_false, if_true]

variable (hw : w.length ≤ 200)
include hw

theorem execMonLine_empty (he : (lineWords w).isEmpty = true) : execMonLine w 0 s = .next s.monChar := by
  simp only [execMonLine, hu, he, Nat.not_lt.mpr hw, Bool.not_true, Bool.false_eq_true, ne_eq, not_true_eq_false, if_false, if_true]

variable (he : (lineWords w).isEmpty = false)
include he

theorem execMonLine_faulty {c : Nat} (hc : lineCall (linePrefix w).1 (linePrefix w).2 = .err c) :
    execMonLine w 0 s = .next (s.lineErr c) := by
  simp only [execMonLine, hu, he, Nat.not_lt.mpr hw, hc, Bool.not_true, Bool.false_eq_true, ne_eq, not_true_eq_false, if_false]

theorem execMonLine_runs {f : State → Host.Outcome State Fault Refusal} (hc : lineCall (linePrefix w).1 (linePrefix w).2 = .run f) :
    execMonLine w 0 s = f s := by
  simp only [execMonLine, hu, he, Nat.not_lt.mpr hw, hc, Bool.not_true, Bool.false_eq_true, ne_eq, not_true_eq_false, if_false]

end Up

/-! ### Commands spelled (R586) -/

theorem objLookup_plcaToTimer : objLookup 0x1001 3 = some (some ⟨0x1001, 3, 3, .uint 1, .rw, 32, 1, 255, false, true⟩) := by decide +kernel

/-- A number poked takes the length of its object's type. -/
theorem pokeValue_plcaToTimer : pokeValue 0x1001 3 (ascii "7") = .ok [7] := by
  simp only [pokeValue, objLookup_plcaToTimer]
  rfl

theorem lineCall_poke {a : List Byte} {args : List (List Byte)} {d : List Byte} (hw : lineWords w = ascii "poke" :: a :: args)
    (ha : parseObject a = some (i, j)) (hd : pokeValue i j (lineRest w) = .ok d) : lineCall m w = .run (execMonPoke m i j d) := by
  simp only [lineCall, hw, ha, hd, if_true]

theorem execMonLine_poke (hu : s.monUp = true) : execMonLine (ascii "@a poke 1001h.03 7") 0 s = execMonPoke (.unit .A) 0x1001 3 [7] s :=
  execMonLine_runs hu (by decide) rfl (lineCall_poke rfl rfl pokeValue_plcaToTimer)

/-! ### A line counted, and its command carried out (R585, R588) -/

theorem monRun_locked {f : State → State × List MonOut × Nat} (hu : s.monUp = true) (hl : s.rd (Obj.MON_LOCK s.pair.active) = 1)
    (hn : s.session s.pair.active .monitor = false) : s.monRun false f = s.lineIn.monEnd 0x06 := by
  have hg : (s.lineIn.rd (Obj.MON_LOCK s.lineIn.pair.active) = 1 && !false && !s.lineIn.session s.lineIn.pair.active .monitor : Bool) = true := by
    simp [lineIn_pair, lineIn_lock, lineIn_session, hl, hn]
  unfold State.monRun
  rw [if_neg (by simp [hu])]
  exact if_pos hg

theorem monRunAt_unreachable {e : Bool} {f : State → State × List MonOut × Nat} (h : s.RunsLine s.lineIn e)
    (hr : s.lineIn.monReach m = false) : s.monRunAt m e f = (s.lineIn.monPrint []).monEnd 0x0D :=
  monRun_runs h (if_neg (by simp [hr]))

/-! ### Accesses of objects, the journal flash and sessions (R561, R583, R586) -/

/-- A journal flash command past the check of R557's objects prints the status word and the data it leaves. -/
theorem State.monJf_runs {u : UnitId} {run : State → UnitId → State} {r : State} (hu : u = s.monUnit m)
    (he : s.writeErr u 0x4201 0 .monitor [1] = 0) (hr : r = run s u) :
    s.monJf m run = (r, [.status (r.rd (Obj.JF_STATUS_WORD u)) (r.getJf u.code).mgmtData], 0) := by
  subst hu hr
  simp only [State.monJf, he, ne_eq, not_true_eq_false, if_false]

section Access
variable (hm : s.mode.cur ≠ .switchover)
include hm

theorem execMonPeek_answered {e : Nat} {r : State} {d : List Byte} (h : s.RunsLine r (decide (0x1000 ≤ i ∧ i ≤ 0x10FF)))
    (ha : (s.lineIn.dictRead .monitor (s.lineIn.monUnit m) i j).takeAnswer = (r, e, d)) (hr : s.lineIn.monReach m = true) :
    execMonPeek m i j s = .next ((r.monPrint (if e = 0 then [.value i j d] else [])).monEnd e) :=
  next_congr ((hold_now _ _ hm).trans (monRunAt_runs h hr (by simp only [ha])))

theorem execMonPoke_answered {e : Nat} {r : State} {d z : List Byte} (h : s.RunsLine r false) (hd : d.length ≤ 64)
    (ha : (s.lineIn.dictWrite .monitor (s.lineIn.monUnit m) i j d).takeAnswer = (r, e, z)) (hr : s.lineIn.monReach m = true) :
    execMonPoke m i j d s = .next (((r.monPrint []).monEnd e).settle) :=
  next_congr (congrArg State.settle ((hold_now _ _ hm).trans (monRunAt_runs h hr (by
    simp only [ha, if_neg (Nat.not_lt.mpr hd)]))))

theorem execMonDump_printed {o : Nat} {l : Option Nat} {r : State} {d part : List Byte} (h : s.RunsLine r false)
    (ha : (s.lineIn.dictRead .monitor (s.lineIn.monUnit m) i j).takeAnswer = (r, 0, d))
    (hp : part = (match l with | some n => (d.drop o).take n | none => d.drop o)) (hn : part.length ≤ 65536)
    (hr : s.lineIn.monReach m = true) : execMonDump m i j o l s = .next ((r.monPrint [.dump o part]).monEnd 0) := by
  refine next_congr ((hold_now _ _ hm).trans (monRunAt_runs h hr ?_))
  cases l <;> subst hp <;> simp only [ha, ne_eq, not_true_eq_false, if_false] <;> exact if_neg (Nat.not_lt.mpr hn)

theorem execMonMode_printed (h : s.RunsLine s.lineIn false) :
    execMonMode none s = .next ((s.lineIn.monPrint [.mode s.lineIn.mode.cur.code]).monEnd 0) :=
  next_congr ((hold_now _ _ hm).trans (monRun_runs h rfl))

theorem execMonMode_written {c : BitVec 8} {e : Nat} {r : State} {d : List Byte} (h : s.RunsLine r false)
    (ha : (s.lineIn.dictWrite .monitor s.lineIn.pair.active 0x1101 0 [c]).takeAnswer = (r, e, d)) :
    execMonMode (some c) s = .next ((r.monPrint []).monEnd e) :=
  next_congr ((hold_now _ _ hm).trans (monRun_runs h (by simp only [ha])))

theorem execMonJfStatus_printed {k : Nat} {u : UnitId} {r : State} (h : s.RunsLine r false) (hu : u = s.lineIn.monUnit m)
    (he : s.lineIn.writeErr u 0x4201 0 .monitor [1] = 0)
    (hj : r = s.lineIn.jfRun u .management 6 (jfAddress k 0) true (fun s => (s, swDone, []))) (hr : s.lineIn.monReach m = true) :
    execMonJfStatus m k s = .next ((r.monPrint [.status (r.rd (Obj.JF_STATUS_WORD u)) (r.getJf u.code).mgmtData]).monEnd 0) :=
  next_congr ((hold_now _ _ hm).trans (monRunAt_runs h hr (State.monJf_runs hu he hj)))

theorem execMonJfRead_printed {k n e : Nat} {u : UnitId} {r : State} (h : s.RunsLine r false) (hu : u = s.lineIn.monUnit m)
    (he : s.lineIn.writeErr u 0x4201 0 .monitor [1] = 0) (hn : n ≤ 255) (hj : r = s.lineIn.readPage u .management (jfAddress k n) e)
    (hr : s.lineIn.monReach m = true) :
    execMonJfRead m k n e s = .next ((r.monPrint [.status (r.rd (Obj.JF_STATUS_WORD u)) (r.getJf u.code).mgmtData]).monEnd 0) :=
  next_congr ((hold_now _ _ hm).trans (monRunAt_runs h hr ((if_neg (Nat.not_lt.mpr hn)).trans (State.monJf_runs hu he hj))))

theorem execMonJfCounters_printed (h : s.RunsLine s.lineIn false) (he : s.lineIn.readErr 0x4200 2 .monitor = 0)
    (hr : s.lineIn.monReach m = true) :
    execMonJfCounters m s = .next ((s.lineIn.monPrint ((List.range 12).map (fun k =>
      MonOut.value 0x4200 (k + 2) (s.lineIn.liveBytes (s.lineIn.monUnit m) 0x4200 (k + 2))))).monEnd 0) :=
  next_congr ((hold_now _ _ hm).trans (monRunAt_runs h hr (if_neg (not_not.mpr he))))

theorem execMonAuth_drawn {r : State} {d : List Byte} (h : s.RunsLine r true)
    (ha : (s.lineIn.authChallenge .monitor (s.lineIn.monUnit m)).takeAnswer = (r, 0, d)) (hr : s.lineIn.monReach m = true) :
    execMonAuth m s = .next ((r.monPrint [.challenge d]).monEnd 0) :=
  next_congr ((hold_now _ _ hm).trans (monRunAt_runs h hr (by simp only [ha, if_true])))

theorem execMonAuthResponse_judged {k : List Byte} {e : Nat} {r : State} {d : List Byte} (h : s.RunsLine r true)
    (ha : (s.lineIn.authRespond .monitor (s.lineIn.monUnit m) k).takeAnswer = (r, e, d)) (hr : s.lineIn.monReach m = true) :
    execMonAuthResponse m k s = .next ((r.monPrint []).monEnd e) :=
  next_congr ((hold_now _ _ hm).trans (monRunAt_runs h hr (by simp only [ha])))

end Access

/-! ### Records, traces and the rate (R586, R587) -/

section Reached
variable (hr : s.lineIn.monReach m = true)
include hr

theorem execMonEv_printed {n : Nat} (h : s.RunsLine s.lineIn false) (hn : n ≠ 0) :
    execMonEv m n s = .next ((s.lineIn.monPrint ((s.lineIn.getEr (s.lineIn.monUnit m).code).printed
      (max (s.lineIn.getEr (s.lineIn.monUnit m).code).oldest ((s.lineIn.getEr (s.lineIn.monUnit m).code).next - n))
      (s.lineIn.getEr (s.lineIn.monUnit m).code).next)).monEnd 0) :=
  next_congr (monRunAt_runs h hr (if_neg hn))

theorem execMonEvFrom_printed {n : Nat} (h : s.RunsLine s.lineIn false) (hn : n < (s.lineIn.getEr (s.lineIn.monUnit m).code).next) :
    execMonEvFrom m n s = .next ((s.lineIn.monPrint ((s.lineIn.getEr (s.lineIn.monUnit m).code).printed
      (max (s.lineIn.getEr (s.lineIn.monUnit m).code).oldest n) (s.lineIn.getEr (s.lineIn.monUnit m).code).next)).monEnd 0) :=
  next_congr (monRunAt_runs h hr (if_neg (Nat.not_le.mpr hn)))

theorem execMonTrace_added {x : Site}
    (h : s.RunsLine ({ s.lineIn with mon := { s.lineIn.mon with traces := x.key :: s.lineIn.mon.traces } } : State) false)
    (hx : siteAt (s.lineIn.monUnit m) i j = some x) (hc : s.lineIn.mon.traces.contains x.key = false)
    (hn : s.lineIn.mon.traces.length < 8) :
    execMonTrace m i j s =
      .next ((({ s.lineIn with mon := { s.lineIn.mon with traces := x.key :: s.lineIn.mon.traces } } : State).monPrint []).monEnd 0) :=
  next_congr (monRunAt_runs h hr (by
    simp only [hx, hc, if_neg (Nat.not_le.mpr hn), Bool.false_eq_true, if_false]))

end Reached

theorem execMonBaud_listed {n : Nat}
    (h : s.RunsLine ({ s.lineIn.wr (Obj.MON_BAUD s.lineIn.pair.active) n with
      mon := { s.lineIn.mon with rateSince := some s.lineIn.now } } : State) false) (hn : monRates.contains n = true) :
    execMonBaud n s = .next ((({ s.lineIn.wr (Obj.MON_BAUD s.lineIn.pair.active) n with
      mon := { s.lineIn.mon with rateSince := some s.lineIn.now } } : State).monPrint []).monEnd 0) :=
  next_congr (monRun_runs h (if_pos hn))

theorem execMonBaud_unlisted {n : Nat} (h : s.RunsLine s.lineIn false) (hn : monRates.contains n = false) :
    execMonBaud n s = .next ((s.lineIn.monPrint []).monEnd 0x07) :=
  next_congr (monRun_runs h (if_neg (by simp only [hn, Bool.false_eq_true, not_false_eq_true])))

theorem execBaudRevert_due {t : Nat} (hs : s.mon.rateSince = some t) (ht : t + 10000000 ≤ s.now) :
    execBaudRevert s = .next { s.wr (Obj.MON_BAUD s.pair.active) 115200 with mon := { s.mon with rateSince := none } } := by
  have h : s.mon.rateSince.any (fun t => decide (t + 10000000 ≤ s.now)) = true := by
    rw [hs, Option.any_some, decide_eq_true_eq]
    exact ht
  rw [execBaudRevert, if_pos h]

theorem execBaudRevert_settled (hs : s.mon.rateSince = none) : execBaudRevert s = .next s :=
  next_congr (if_neg (by simp [hs]))

end Sys2Proof.Machine

/-- Settles O37: a line by its framing and the command it spells, a command by what its body leaves where the monitor runs it. That an empty
line gets no answer, that a malformed one gets 0Fh before the lock is asked, and the spelling of numbers and bytes are the model's choice
(log entry 56). -/
theorem monitorLines : Obligations.MonitorLines := by
  unfold Obligations.MonitorLines
  exact ⟨
    fun _ _ hu hw => execMonLine_tooLong hu hw,
    fun _ _ hu hw he => execMonLine_empty hu hw he,
    fun _ _ _ hu hw he hc => execMonLine_faulty hu hw he hc,
    fun _ _ _ hu hw he hc => execMonLine_runs hu hw he hc,
    fun _ hu => ⟨
      execMonLine_runs hu (by decide) rfl rfl,
      execMonLine_runs hu (by decide) rfl rfl,
      execMonLine_runs hu (by decide) rfl rfl,
      execMonLine_poke hu,
      execMonLine_runs hu (by decide) rfl rfl,
      execMonLine_runs hu (by decide) rfl rfl,
      execMonLine_runs hu (by decide) rfl rfl,
      execMonLine_runs hu (by decide) rfl rfl,
      execMonLine_runs hu (by decide) rfl rfl,
      execMonLine_runs hu (by decide) rfl rfl,
      execMonLine_runs hu (by decide) rfl rfl,
      execMonLine_runs hu (by decide) rfl rfl,
      execMonLine_runs hu (by decide) rfl rfl,
      execMonLine_runs hu (by decide) rfl rfl,
      execMonLine_runs hu (by decide) rfl rfl,
      execMonLine_runs hu (by decide) rfl rfl⟩,
    fun _ _ _ hu hn => execMonLine_dropped hu hn,
    fun _ _ n hu => execMonLine_down n hu,
    fun _ _ h hr => next_congr (monRunAt_unreachable h hr),
    fun _ hu hl hn => next_congr (monRun_locked hu hl hn),
    fun _ h => next_congr (monRun_runs h rfl),
    fun _ _ h hr => next_congr (monRunAt_runs h hr rfl),
    fun _ _ _ _ _ _ hm h ha hr => execMonPeek_answered hm h ha hr,
    fun _ _ _ _ _ _ _ hm h ha he hr => (execMonPeek_answered hm h ha hr).trans (by rw [if_neg he]),
    fun _ _ _ _ _ _ _ _ hm h hd ha hr => execMonPoke_answered hm h hd ha hr,
    fun _ _ _ _ _ _ _ _ _ hm h ha hp hn hr => execMonDump_printed hm h ha hp hn hr,
    fun _ hm h => execMonMode_printed hm h,
    fun _ _ _ _ _ hm h ha => execMonMode_written hm h ha,
    fun _ _ _ h hn hr => execMonEv_printed hr h hn,
    fun _ _ _ h hn hr => execMonEvFrom_printed hr h hn,
    fun _ _ h hr => next_congr (monRunAt_runs h hr rfl),
    fun _ _ _ _ _ h hx hc hn hr => execMonTrace_added hr h hx hc hn,
    fun _ h => next_congr (monRun_runs h rfl),
    fun _ _ _ _ _ hm h hu he hj hr => execMonJfStatus_printed hm h hu he hj hr,
    fun _ _ _ _ _ _ _ hm h hu he hn hj hr => execMonJfRead_printed hm h hu he hn hj hr,
    fun _ _ hm h he hr => execMonJfCounters_printed hm h he hr,
    fun _ _ _ _ hm h ha hr => execMonAuth_drawn hm h ha hr,
    fun _ _ _ _ _ _ hm h ha hr => execMonAuthResponse_judged hm h ha hr,
    fun _ _ h hn => execMonBaud_listed h hn,
    fun _ _ h hn => execMonBaud_unlisted h hn,
    fun _ _ hs ht => execBaudRevert_due hs ht,
    fun _ hs => execBaudRevert_settled hs⟩
end
